-- ==== Sys2Proof/Word.lean ====
section
/-! DEFINITION. The word types of the ZB144: the 32-bit register word and the byte (R8). -/

namespace Sys2Proof

/-- A register or memory word: 32 bits (R8). -/
abbrev Word := BitVec 32

/-- A byte. -/
abbrev Byte := BitVec 8

end Sys2Proof
end

