-- ==== Sys2Proof/Syntax.lean ====
section
/-! DEFINITION. The commands of the ZB144, taken as a block: host accesses to its registers, command packets, events on its pins and
links, and the instants of its own time-driven units. One constructor of `Instr` per row of the table of operations and events. -/

namespace Sys2Proof

/-- A ring or trunk frame as a port receives it: its bytes from the first header byte to the FCS, and the clk stamps of its start-of-frame
delimiter and of its last symbol at the receive PCS (R21). -/
structure RxFrame where
  bytes : List Byte
  sfd : Nat
  last : Nat
  deriving DecidableEq, Repr

/-- The causes of a Pier fault (R106). -/
inductive PierCause where
  | crc | iue | due | par | wdog
  deriving DecidableEq, Repr

/-- What a read of an ECC memory word finds. -/
inductive EccError where
  | none | single | double
  deriving DecidableEq, Repr

/-- A pass of a Pier's scrubber: the Pier, and the single-bit errors corrected in its instruction and data SRAM since the pass before (R90, R106). -/
structure ScrubPass where
  pier : Fin 16
  ice : Nat
  dce : Nat
  deriving DecidableEq, Repr

/-- What a sigma-delta channel takes from its modulator: the channel and the bits, oldest first (R197, R198). -/
structure SdmRun where
  chan : Fin 48
  bits : List Bool
  deriving DecidableEq, Repr

/-- The level of an A or B pin and the clk for which it has stood there (R200). -/
structure PinLevel where
  level : Bool
  stood : Nat
  deriving DecidableEq, Repr

/-- A trunk frame as a port receives it, and the clk of this head's counter at the sender's plan instant (R274). -/
structure TrunkRx where
  frame : RxFrame
  sent : Nat
  deriving DecidableEq, Repr

/-- What latches an encoder position (R202). -/
inductive LatchSrc where
  | limPos | limNeg | ref | index
  deriving DecidableEq, Repr

/-- What a serial encoder sent in a transfer (R201): the data bits in the order sent, the levels of nE and nW, the CRC-6 as sent, and the clk from the first
clock to the start bit (none: no start bit within 64 clock periods). SSI uses the data alone. -/
structure SerialRx where
  data : List Bool
  nE : Bool
  nW : Bool
  crc : Nat
  startBit : Option Nat
  deriving DecidableEq, Repr

/-- The supply rails Keystone and reset watch. -/
inductive Rail where
  | vdd08 | vdd33
  deriving DecidableEq, Repr

/-- What one Keystone core samples in a cycle (R312): the levels of SINn_A and SINn_B by input, of ACK_A and ACK_B, of TPk, and of the read-backs SRBn_A and
SRBn_B by output. -/
structure CoreSample where
  a : BitVec 16
  b : BitVec 16
  ackA : Bool
  ackB : Bool
  tp : BitVec 8
  rbA : BitVec 4
  rbB : BitVec 4
  deriving DecidableEq, Repr

/-- What both Keystone cores sample in one cycle, and whether each supply rail stands within its window. -/
structure SafetySample where
  k0 : CoreSample
  k1 : CoreSample
  v08 : Bool
  v33 : Bool
  deriving DecidableEq, Repr

/-- What the partner's end of the PAIR link shows of its configuration beside the heartbeat, for the checks of R354: operation as a twin, head ID, span, line speed,
rate code, BMODE, whether every matrix entry has RING 2, microcode version and Keystone check value. -/
structure PartnerInfo where
  en : Bool
  hid : Nat
  span : Nat
  spd : Bool
  rate : Nat
  bmode : Bool
  ring2 : Bool
  ucVer : Word
  kst : Word
  left : Bool
  named : Option Nat
  deriving DecidableEq, Repr

/-- A partner's heartbeat (R344): a frame of the PAIR link with what its end shows, or a frame of ring B. -/
inductive Heartbeat where
  | pair (bytes : List Byte) (info : PartnerInfo)
  | ring (port : Fin 6) (fr : RxFrame)
  deriving DecidableEq, Repr

/-- The end of a payload's DMA fetch: its words, or a failure. -/
inductive DmaResult where
  | ok (words : List Word) | failed
  deriving DecidableEq, Repr

/-- A section of the firmware image (R411): type, offset and length in bytes. -/
structure ImageSection where
  type : Nat
  off : Nat
  len : Nat
  deriving DecidableEq, Repr

/-- What the boot finds in the step that it ends (R434): the flash device's SFDP (size in MB, page program and sector erase maximum in µs; none: not valid), whether every
read of the image succeeds, the sections its section table lists, the microcode version and CRC it holds, whether its signature is valid, whether DDR4 training succeeds. -/
structure BootEnv where
  sfdp : Option (Nat × Nat × Nat)
  readOk : Bool
  sections : List ImageSection
  ucVer : Word
  ucCrc : Word
  sigOk : Bool
  ddrOk : Bool
  deriving DecidableEq, Repr

/-- The IEEE 1149.1 instructions. -/
inductive JtagIr where
  | bypass | idcode | extest | sample | other
  deriving DecidableEq, Repr


/-- The commands of the ZB144: one constructor per row of the table of operations and events, with what the sender supplies. -/
inductive Instr where
  /-- REGISTER_WRITE (R10): A host BAR0 write to a register that has no row of its own lands and takes effect on its clk, with RW, W1C, W1S and TV semantics applied. -/
  | registerWrite (addr : Nat) (val : Word)
  /-- BAD_WIDTH_ACCESS (R8): A BAR0 access that is not 32-bit aligned and 32 bits wide completes with no effect and is counted in GLB_ACC_ERR.WIDTH. -/
  | badWidthAccess (addr : Nat)
  /-- UNMAPPED_ACCESS (R390): A BAR0 read or write at an unmapped address returns 0 or has no effect and is counted in GLB_ACC_ERR.UNMAP. -/
  | unmappedAccess (addr : Nat) (wr : Bool) (val : Word)
  /-- READ_CLEAR (R11): A read of an RC field returns the value held before the read clk and then clears the field. -/
  | readClear (addr : Nat)
  /-- PAIRED_WRITE_VALUE (R13): A value write to a PW register opens a 64-clk pending window, discarding any pair already pending. -/
  | pairedWriteValue (addr : Nat) (val : Word)
  /-- PAIRED_WRITE_COMPLEMENT (R12): A write to a PW complement address either completes the pending pair, or discards the pair or itself with a cause. -/
  | pairedWriteComplement (addr : Nat) (val : Word)
  /-- PW_WINDOW_EXPIRY (R12): The 64-clk window of a pending pair ends with no complement, and the pair is discarded with cause 1. -/
  | pwWindowExpiry
  /-- TV_SCRUB (R393): Every 64 clk the TV scrubber reads the next triple-voted register and corrects any disagreeing copy to the vote. -/
  | tvScrub
  /-- NT_NOW (R62): The mailbox read item NT_NOW samples the network time counter on the request clk. -/
  | ntNow
  /-- NT_SET (R37): The mailbox write item NT_SET loads the network time counter on one clk, or is refused outside IDLE or with bad nanoseconds. -/
  | ntSet
  /-- CHN_NOW (R62): The mailbox read item CHN_NOW samples the live chainage. -/
  | chnNow
  /-- CHN_SNAP (R62): The mailbox read item CHN_SNAP returns the segment (S_k, V_k) of the present bc. -/
  | chnSnap
  /-- CHN_PRESET (R46): The mailbox write item CHN_PRESET replaces S of the next segment at the next plan, causing a jump. -/
  | chnPreset
  /-- VM_VTGT_READ (R62): The mailbox item VM_VTGT returns the virtual-master target velocity. -/
  | vmVtgtRead
  /-- VM_VTGT_WRITE (R42): The mailbox item VM_VTGT sets the virtual-master target velocity toward which V is ramped. -/
  | vmVtgtWrite
  /-- SRC_OFFSET_READ (R62): The mailbox item SRC_OFFSET returns the offset added to measured sources. -/
  | srcOffsetRead
  /-- SRC_OFFSET_WRITE (R62): The mailbox item SRC_OFFSET sets the offset added to measured chainage sources. -/
  | srcOffsetWrite
  /-- CAP_LOSS_T (R60): The mailbox read item CAP_LOSS_T returns the network time of the first lost edge. -/
  | capLossT
  /-- EVT_LOSS_T (R398): The mailbox read item EVT_LOSS_T returns the network time of the first event loss. -/
  | evtLossT
  /-- VOTE_T (R398): The mailbox read item VOTE_T returns the network time of the first TV correction. -/
  | voteT
  /-- BC_INDEX (R398): The mailbox read item BC_INDEX returns I_k of the present bc and the clk count since its t0. -/
  | bcIndex
  /-- PIR_TASKS64 (R398): The mailbox read item PIR_TASKS64 returns the tasks completed by all Piers since reset. -/
  | pirTasks64
  /-- MBX_UNKNOWN_CODE (R397): A mailbox request with an unknown code or a write to a read-only item sets ERR and VALID and applies nothing. -/
  | mbxUnknownCode (wr : Bool) (code : Byte)
  /-- MBX_READY (R396): Exactly 4 clk after a mailbox request lands, VALID (and ERR if failed) is set and BUSY clears. -/
  | mbxReady
  /-- MBX_DATA_READ (R396): A read of the last word of a read item clears VALID. -/
  | mbxDataRead (k : Fin 4)
  /-- MBX_STAT_READ (R397): A read of GLB_MBX_STAT after a write item or an error clears VALID and ERR. -/
  | mbxStatRead
  /-- SYNC_INSTANT (R36): At t0 of each bc the head takes the chainage snapshot, renews the lease, samples CHN_PLAN.LEAD and the tick settings, and starts the bc. -/
  | syncInstant
  /-- EXPRESS_SYNC_INSTANT (R22): At the start of the second express period a second chainage snapshot is taken for the second class-X pass. -/
  | expressSyncInstant
  /-- CLASS_L_FEEDBACK_WRITE (R203): At t0 + 4 clk the local front end writes each class-L feedback slot and posts the class-L task. -/
  | classLFeedbackWrite
  /-- SYSCLK_LOSS (R29): A detected SYSCLK loss makes Keystone force its outputs off and every PWM group to its fault state. -/
  | sysclkLoss
  /-- KREF_LOSS (R29): A detected KREF loss de-energises the safety outputs, raises the Keystone-clock event and orders zero vector on class-X axes. -/
  | krefLoss
  /-- CHN_INC_HI (R35): A write to CHN_INC_HI applies the staged low word and new high word as the time increment, clipping it to the envelope. -/
  | chnIncHi (val : Word)
  /-- CHAINAGE_PLAN (R39): At the plan instant t0 + N - L the chainage unit plans segment k+1 from its source, RUN and any preset or switch, and sends trunk segments and the PAIR heartbeat. -/
  | chainagePlan
  /-- SOURCE_SWITCH_ARM (R45): A write of CHN_SRC.ARM arms a switch to the source in CHN_SRC.NEXT. -/
  | sourceSwitchArm (val : Word)
  /-- EST_SWEEP (R52): Thirty-two clk after each plan the sweep reads every EST entry and places crossings of the next segment in the next fire list. -/
  | estSweep
  /-- EST_FIRE (R54): On its crossing clk an EST entry fires its action: pin, ring event, capture gate, event task post or trigger. -/
  | estFire (idx : Fin 8192)
  /-- PULSE_TIMER_END (R54): A pin's pulse timer ends and the pin returns to idle. -/
  | pulseTimerEnd (pin : Fin 32)
  /-- EST_COMMIT (R51): A write to EST_W3 commits W0 to W3 as one entry, or refuses it and sets EST_STAT.BAD. -/
  | estCommit (val : Word)
  /-- EST_COMMIT_COMPARE (R53): Sixteen clk after a commit the entry is compared with the live chainage and placed in a fire list or fired late. -/
  | estCommitCompare (idx : Fin 8192)
  /-- EST_IDX_LOAD (R51): A write to EST_IDX loads that entry into EST_W0 to EST_W3 within 2 clk. -/
  | estIdxLoad (val : Word)
  /-- EST_PIN_POL_WRITE (R57): A write of EST_PIN_POL changes the ball level of every pin whose bit changes 8 clk later, keeping logical state. -/
  | estPinPolWrite (val : Word)
  /-- EDGE_CAPTURE (R58): An edge on CAPn is stamped in network time and chainage and queued as a record, or counted as lost. -/
  | edgeCapture (inp : Fin 16) (rising : Bool) (m : Fin 10)
  /-- CAPTURE_RECORD_POP (R60): A read of CHN_CAP_REC7 pops the head record of the capture FIFO. -/
  | captureRecordPop
  /-- COLLECT_RECEIVE (R23): A COLLECT frame is parsed into feedback slots, which are marked valid after the FCS check and post their axis tasks. -/
  | collectReceive (port : Fin 6) (fr : RxFrame)
  /-- XSAMP_RECEIVE (R230): An XSAMP frame is parsed into express sample slots and posts the express tasks. -/
  | xsampReceive (port : Fin 6) (fr : RxFrame)
  /-- SAFE_UPSTREAM_RECEIVE (R233): An upstream SAFE frame's containers are passed to Keystone's receive buffer and checked for station presence. -/
  | safeUpstreamReceive (port : Fin 6) (fr : RxFrame)
  /-- SERVICE_RECEIVE (R235): A claimed vacancy frame returns carrying a station's SERVICE message. -/
  | serviceReceive (port : Fin 6) (fr : RxFrame)
  /-- VACANT_UNCLAIMED_RETURN (R235): A vacancy frame returns unclaimed and the head increments ROUND in the next one. -/
  | vacantUnclaimedReturn (port : Fin 6) (fr : RxFrame)
  /-- STNPD_RECEIVE (R237): A station's own STNPD frame is received and written into frame-buffer slots. -/
  | stnpdReceive (port : Fin 6) (fr : RxFrame)
  /-- FOREIGN_SYNC_RECEIVE (R269): A SYNC with the head's span number and another head ID is received and the head checks its priority. -/
  | foreignSyncReceive (port : Fin 6) (fr : RxFrame)
  /-- SYNC_RETURN (R271): The head stamps the return of its SYNC at x1, closing a broken ring or updating the partner's phase. -/
  | syncReturn (port : Fin 6) (fr : RxFrame)
  /-- RING_BREAK_DETECT (R271): Two consecutive bc without the SYNC return show WRAP, count the break, locate it and raise the ring-break event. -/
  | ringBreakDetect (ring : Fin 2)
  /-- EXPANSION_JOINT_ERROR (R20): A receive expansion joint overflows or underflows and the frame in transit is dropped and counted. -/
  | expansionJointError (port : Fin 6)
  /-- PORT_LINK_CHANGE (R220): A port acquires or loses Clause 36 synchronisation or signal and LINK changes. -/
  | portLinkChange (port : Fin 6) (sync los modabs txfault : Bool) (codeErrs : Nat)
  /-- DISPATCH_DECISION (R74): For each Pier that will be free 6 clk later the dispatcher chooses a ready task by class, post clk, affinity, migration and fit. -/
  | dispatchDecision
  /-- AXIS_TASK_START (R104): An axis task starts on its Pier and runs its fixed stages from feedback decode to write-back and exit. -/
  | axisTaskStart (p : Fin 16)
  /-- AXIS_TASK_END (R97): An axis task ends with the home copy identical to the resident state, and a draining Pier enters OFFLINE. -/
  | axisTaskEnd (p : Fin 16)
  /-- EVENT_TASK (R72): An event task starts outside the compute intervals on the lowest-numbered free Pier and runs 240 clk. -/
  | eventTask (e : Fin 64)
  /-- BACKGROUND_SLICE (R72): A background slice of 2,400 clk starts outside the compute intervals on the lowest-numbered free Pier. -/
  | backgroundSlice (j : Fin 32)
  /-- STATE_MOVE_END (R96): An 80-clk state move ends, freeing the source slot and applying any held forwarded write. -/
  | stateMoveEnd (a : Fin 160)
  /-- SUBSTITUTE_POST (R70): An axis task not posted 70 clk before its latest start is posted with its feedback marked missing. -/
  | substitutePost (a : Fin 160)
  /-- OVERRUN (R83): An axis task not started by its latest start is removed and counted as an overrun. -/
  | overrun (a : Fin 160)
  /-- LANE_WRITE_DEADLINE (R146): At the close of C2 a lane not written in the bc holds its last reference, or applies 0 after a second miss. -/
  | laneWriteDeadline (l : Fin 16)
  /-- TASK_WATCHDOG_EXPIRY (R106): A task not ended at its cost + 8 clk causes a Pier fault. -/
  | taskWatchdogExpiry (p : Fin 16)
  /-- ASSEMBLER_SLOT_READ (R25): The assembler reads a command slot 32 clk before its window and clears command-valid if its period number is stale. -/
  | assemblerSlotRead (slot : Nat)
  /-- WINDOW_SEND (R238): At a window's START the head sends its frame (SYNC, CMD, XCMD, SAFE, COLLECT, XSAMP, VACANT or RUN) on the rings. -/
  | windowSend (b w : Fin 64)
  /-- BACKGROUND_POST (R68): A write to DSP_BG_POST posts the named background jobs, flagging overruns of jobs still pending. -/
  | backgroundPost (val : Word)
  /-- FLOW_ENABLE (R81): A write of DSP_FLOWn with EN = 1 tests the flow and enables it or sets FLOW_BAD. -/
  | flowEnable (n : Fin 256) (val : Word)
  /-- PIR_RELOAD (R92): A write of PIR_CTL.RELOAD to a Pier in OFFLINE or FAULT queues the microcode read and reloads the Pier. -/
  | pirReload (p : Fin 16)
  /-- PIER_RELOAD_DONE (R92): A reloaded Pier runs its CRC check and enters SERVICE at the next t0 or returns to FAULT. -/
  | pierReloadDone (p : Fin 16)
  /-- PIR_OFFLINE (R93): A write of PIR_CTL.OFFLINE moves a Pier from SERVICE to DRAIN, or to OFFLINE at once if idle, re-homing its axes. -/
  | pirOffline (p : Fin 16)
  /-- PIR_ONLINE (R93): A write of PIR_CTL.ONLINE returns a Pier from OFFLINE to SERVICE if a matching scrub pass has completed. -/
  | pirOnline (p : Fin 16)
  /-- PIER_SCRUB_PASS (R90): A Pier scrubber completes a CRC pass over its code and constants and compares it with PIR_UC_CRC. -/
  | pierScrubPass (x : ScrubPass)
  /-- PIER_FAULT (R107): A Pier fault stops the Pier in FAULT, re-homes its axes, re-pins its class-X axes and raises the Pier-fault event. -/
  | pierFault (p : Fin 16) (cause : PierCause) (mem : Fin 8) (word : Nat)
  /-- STATE_SLOT_DISCARD (R106): A double-bit error in a resident state slot discards the slot and the axis loses its home. -/
  | stateSlotDiscard (p : Fin 16) (a : Fin 160) (w : Fin 256)
  /-- DECK_SCRUB (R106): The Deck scrubber reads a free Deck word and corrects or reports its ECC error. -/
  | deckScrub (addr : Nat) (err : EccError)
  /-- DECK_WINDOW_WRITE (R98): A host write through the Deck window lands through port B and is forwarded to the resident copy, or is ignored for the dynamic part. -/
  | deckWindowWrite (off : Nat) (val : Word)
  /-- RESIDENT_COPY_UPDATE (R98): A forwarded parameter write lands in the resident copy 4 clk after the home copy. -/
  | residentCopyUpdate
  /-- CAM_POINT_HIGH_WRITE (R103): A window write of a cam point's high word writes both halves on one clk. -/
  | camPointHighWrite (off : Nat) (val : Word)
  /-- AXIS_ENABLE_WRITE (R111): A write of AXT_Ea_W0.EN = 1 is tested and, if accepted, loads the state and leaves the axis quiesced. -/
  | axisEnableWrite (a : Fin 160) (val : Word)
  /-- AXIS_DISABLE_WRITE (R111): A write of AXT_Ea_W0.EN = 0 disables the axis in any state. -/
  | axisDisableWrite (a : Fin 160) (val : Word)
  /-- STATE_LOAD_END (R99): The 80-clk load of an enabled axis's state from its home copy ends on its home Pier. -/
  | stateLoadEnd (a : Fin 160)
  /-- PWM_PERIOD_START (R178): A PWM module's counter returns to 0, transferring shadows, advancing dither and inserting any bootstrap refresh. -/
  | pwmPeriodStart (m : Fin 12)
  /-- PWM_MIDPOINT (R181): A PWM module reaches its mid-point, transferring shadows when UPD = 1. -/
  | pwmMidpoint (m : Fin 12)
  /-- PWM_SYNC_RESTART (R188): A module restarts its counter at PHASE on its selected sync event. -/
  | pwmSyncRestart (m : Fin 12)
  /-- PWM_MODULE_ENABLE (R185): A write of PWM_Mm_CFG.EN = 1 is tested and starts the counter, or sets CFG_BAD. -/
  | pwmModuleEnable (m : Fin 12) (val : Word)
  /-- PWM_FAULT_INPUT (R190): An active pulse on PWM_FLTi sets its latch and forces the mapped modules to their fault states within 4.0 ns. -/
  | pwmFaultInput (i : Fin 8) (level : Bool) (ps : Nat)
  /-- FAULT_STATE_TURN_ON (R190): An output whose fault state is on turns on D clk after the latch is seen in SYSCLK. -/
  | faultStateTurnOn (m : Fin 12)
  /-- FAULT_LATCH_CLEAR (R191): A write to PWM_FLT_CLR clears a latch whose input has been inactive for REARM clk, or refuses it. -/
  | faultLatchClear (val : Word)
  /-- PWM_FORCE (R193): An accepted pair to PWM_FORCE forces or releases modules through the synchronous path. -/
  | pwmForce
  /-- SDM_FILTER_OUTPUT (R197): A sigma-delta channel produces a sinc3 output every OSR modulator clocks. -/
  | sdmFilterOutput (c : Fin 48) (bits : List Bool)
  /-- SDM_STUCK (R198): A channel sees 64 consecutive equal bits and sets STUCK. -/
  | sdmStuck (x : SdmRun)
  /-- SDM_CLOCK_LOSS (R198): In clock mode 1 no clock edge arrives within 1,024 clk and CLK_LOSS is set. -/
  | sdmClockLoss (c : Fin 48)
  /-- ENCODER_EDGE (R200): A filtered A or B edge updates the incremental count, or sets ERR_AB on a simultaneous change. -/
  | encoderEdge (e : Fin 16) (a b : PinLevel)
  /-- SERIAL_TRANSFER_START (R201): A serial encoder transfer starts at t0 - LEAD + j × SPER. -/
  | serialTransferStart (e : Fin 16)
  /-- SERIAL_TRANSFER_END (R201): A serial transfer ends, yielding a position or setting ERR_SER or WARN. -/
  | serialTransferEnd (e : Fin 16) (rx : SerialRx)
  /-- ENCODER_LATCH_EDGE (R202): The first qualifying edge after arming copies the position into ENC_Ee_LPOS and sets LVAL. -/
  | encoderLatchEdge (e : Fin 16) (src : LatchSrc) (level : Bool)
  /-- ENCODER_ENABLE (R201): A write of ENC_Ee_CFG.EN = 1 is tested and starts the interface, or sets CFG_BAD. -/
  | encoderEnable (e : Fin 16) (val : Word)
  /-- LANE_ENABLE (R205): A write of CLN_Ll_CFG.EN = 1 is tested and makes the lane's pairs lane-owned, or sets ENA_BAD. -/
  | laneEnable (l : Fin 16) (val : Word)
  /-- LANE_EVALUATION (R206): At its module's period start or mid-point a lane samples its inputs and computes the current or stepper law. -/
  | laneEvaluation (l : Fin 16)
  /-- LANE_COMPARE_WRITE (R206): At r + 120 clk a lane writes its compare values to the shadows. -/
  | laneCompareWrite (l : Fin 16)
  /-- STEP_ENABLE (R211): A write of STP_Cc_CFG.EN = 1 starts a step channel and takes x0. -/
  | stepEnable (c : Fin 32) (val : Word)
  /-- STEP_PLAN (R212): At each t0 a step channel computes the steps to emit over the bc, clipping the rate or stopping for lag. -/
  | stepPlan (c : Fin 32)
  /-- STEP_PULSE (R212): A step channel emits a step edge or changes DIR at its scheduled clk. -/
  | stepPulse (c : Fin 32)
  /-- ADC_CONVERSION (R303): The ADC completes the conversion of one slot every 400 clk. -/
  | adcConversion (code : BitVec 16)
  /-- SFP_TRANSFER (R221): A write of ZLP_Pp_SFP_CTL.GO starts a single-byte I2C transfer to the module. -/
  | sfpTransfer (port : Fin 6) (val : Word)
  /-- SFP_TRANSFER_END (R221): An SFP I2C transfer ends with its data or ERR. -/
  | sfpTransferEnd (port : Fin 6) (ack : Bool) (data : Byte)
  /-- DDM_READ (R221): Every 100 ms with DDM_EN = 1 the port reads bytes 96 to 105 of device 0xA2 into ZLP_Pp_DDM. -/
  | ddmRead (port : Fin 6) (temp rx : BitVec 16)
  /-- LISTEN_TIME_END (R253): The listen time of ring start ends and the span enters MEASURE. -/
  | listenTimeEnd
  /-- DELAY_FRAME_RETURN (R255): A MEASURE DELAY frame returns to the head and is stamped, starting the next round when both have returned. -/
  | delayFrameReturn (port : Fin 6) (fr : RxFrame)
  /-- MEASURE_TIMEOUT (R253): A MEASURE or REPORT frame fails to return within budget plus 20 µs and the start is refused with code 10. -/
  | measureTimeout
  /-- REPORT_FRAME_RETURN (R257): The REPORT frame returns with station records, and the station set and R241 checks are evaluated. -/
  | reportFrameReturn (port : Fin 6) (fr : RxFrame)
  /-- ASSIGN_DONE (R253): The last assign frame leaves and the span enters RUN. -/
  | assignDone
  /-- FIRST_SYNC (R253): The first SYNC leaves at the first bc multiple at least 1 bc after the last assign frame, completing RING_START. -/
  | firstSync
  /-- RUN_FRAME_RETURN (R263): A RUN frame returns with station records, updating d_i and admitting or refusing joining stations. -/
  | runFrameReturn (port : Fin 6) (fr : RxFrame)
  /-- STATION_REMOVAL (R266): A station absent for 1 cc is removed from the span's station set. -/
  | stationRemoval (n : Fin 256)
  /-- TRUNK_START (R273): A write of ZLP_TCFG.EN = 1 starts the trunk. -/
  | trunkStart (val : Word)
  /-- TRUNK_MEASURE (R273): Every 128 ms the time master measures the trunk as a ring. -/
  | trunkMeasure
  /-- TRUNK_FRAME_RECEIVE (R274): A TRUNK frame is received, updating ZLP_TOFF or supplying the source-3 segment. -/
  | trunkFrameReceive (port : Fin 6) (fr : TrunkRx)
  /-- TRUNK_LOST (R275): No valid time frame for 8 bc sets TLOST and raises the trunk-lost event. -/
  | trunkLost
  /-- ACQ_TICK (R280): At each acquisition tick every channel is sampled, triggers and masks are evaluated, and the block is stored or skipped. -/
  | acqTick
  /-- CAPTURE_DRAIN_END (R288): The FIFO of the last segment is drained, the state becomes DONE and capture-done is raised. -/
  | captureDrainEnd
  /-- ARM (R285): A write of ACQ_CTL.ARM is tested and starts a capture session in FILL, or sets ARM_BAD. -/
  | arm (val : Word)
  /-- STOP (R289): A write of ACQ_CTL.STOP ends the session with stop code 2. -/
  | stop (val : Word)
  /-- SWTRIG (R287): A write of ACQ_CTL.SWTRIG requests a trigger at the next tick. -/
  | swtrig (val : Word)
  /-- TRIGGER_UNIT_ENABLE (R292): A write enabling a trigger unit starts its evaluation or is refused with CFG_BAD. -/
  | triggerUnitEnable (u : Fin 16) (val : Word)
  /-- REGISTER_MARK_GATE_CLOSE (R298): At a gate close the register-mark unit computes ERR from the first edge or sets MISS. -/
  | registerMarkGateClose (k : Fin 16)
  /-- REGISTER_MARK_RESULT (R298): ERR becomes valid 8 clk after the close and the register-mark event is raised. -/
  | registerMarkResult (k : Fin 16)
  /-- DDR_UNCORRECTABLE_ERROR (R302): An uncorrectable DDR error sets UE and stops a running session with code 5. -/
  | ddrUncorrectableError (addr : Nat)
  /-- DDR_TRAINING_LOSS (R302): A loss of PHY training sets LOST and stops a running session with code 5. -/
  | ddrTrainingLoss
  /-- TRAIN (R302): A write of DDR_CTL.TRAIN in IDLE, DONE or STOPPED retrains the DDR4 interface. -/
  | train (val : Word)
  /-- DDR_TRAINING_DONE (R302): DDR4 training ends, setting TRAINED or TFAIL. -/
  | ddrTrainingDone (ok : Bool)
  /-- SAFETY_CYCLE (R312): Every 100 µs both Keystone cores sample inputs, evaluate functions and publish zone, output and force states. -/
  | safetyCycle (smp : SafetySample)
  /-- DISCREPANCY_TIMEOUT (R315): Channels of an input disagree longer than T_D and the input enters FAULT. -/
  | discrepancyTimeout (n : Fin 16)
  /-- CAT1_TIMER_EXPIRY (R320): A function's stop-category-1 timer T1 ends and the function demands STO. -/
  | cat1TimerExpiry (f : Fin 16)
  /-- UNLOCK_DELAY_EXPIRY (R321): After zones have been in STO for T_UNLOCK the lock output is switched on. -/
  | unlockDelayExpiry (f : Fin 16)
  /-- LOCK_MONITOR_TIMEOUT (R321): The lock monitor fails to reach RUN within 1.0 s after a reset and the input enters FAULT. -/
  | lockMonitorTimeout (f : Fin 16)
  /-- SUPPLY_MONITOR_FAULT (R311): A supply rail stays outside its Keystone window for more than 10 µs and Keystone enters FAULT. -/
  | supplyMonitorFault (rail : Rail)
  /-- KEYSTONE_SELF_TEST (R311): Every 1 s the cores test their ROM checksums and SRAM. -/
  | keystoneSelfTest (ok : Bool)
  /-- CONTAINER_BUILD (R326): On the t0 mailbox item both cores build the downstream containers for the next bc. -/
  | containerBuild
  /-- UPSTREAM_CONTAINER_CHECK (R328): Keystone checks upstream copies, tracking lost stations, WDX and STO feedback. -/
  | upstreamContainerCheck
  /-- FALSEWORK_ENTER (R334): An accepted KST_FW_REQ pair with REQ = 1 puts Keystone in FW_ARM, demanding all zones. -/
  | falseworkEnter
  /-- FALSEWORK_ABORT (R334): An accepted KST_FW_REQ pair with REQ = 2 restores the previous image and returns to RUN. -/
  | falseworkAbort
  /-- FALSEWORK_VALIDATE (R334): An accepted KST_FW_REQ pair with REQ = 3 validates the image and enters FW_CONFIRM or shows a refusal. -/
  | falseworkValidate
  /-- FALSEWORK_TIMEOUT (R334): A Falsework step times out and Keystone returns to RUN or aborts with RES 7. -/
  | falseworkTimeout
  /-- KST_PWIN_WRITE (R336): A write to KST_PWIN stores image bytes in BOOT or FW_LOAD, or is ignored and counted. -/
  | kstPwinWrite (off : Nat) (val : Word)
  /-- KEYSTONE_BOOT_VALIDATE (R333): Keystone validates the boot image and enters RUN if it matches the confirmed value, or stays in BOOT. -/
  | keystoneBootValidate
  /-- PAIR_HEARTBEAT_RECEIVE (R344): A heartbeat from the partner arrives on the PAIR link or ring B and renews the lease deadline. -/
  | pairHeartbeatReceive (hb : Heartbeat)
  /-- LEASE_DEADLINE (R345): The lease deadline passes without a heartbeat and the partner takes the lease with a new epoch. -/
  | leaseDeadline
  /-- PARTNER_LOSS (R356): The holder loses its partner and its ROLE becomes 5. -/
  | partnerLoss
  /-- YIELD (R345): A write of TWN_CTL.YIELD hands the lease to the partner at the next t0, or is refused. -/
  | yield
  /-- PAIR (R354): A write of TWN_CTL.PAIR checks pairing conditions against the partner or sets PAIR_BAD. -/
  | pair
  /-- JOIN (R355): A write of TWN_CTL.JOIN starts the re-pairing of a new pylon with the holder. -/
  | join
  /-- MIRROR_FRAME_RECEIVE (R352): The partner receives a mirror frame and acknowledges it. -/
  | mirrorFrameReceive (bytes : List Byte)
  /-- MIRROR_ACK_RECEIVE (R352): The holder receives the partner's acknowledgement of a mirror frame. -/
  | mirrorAckReceive (bytes : List Byte)
  /-- MIRROR_EXECUTE (R352): At t0 of the effect bc both pylons execute the mirrored packet, or the holder refuses it if unacknowledged. -/
  | mirrorExecute
  /-- STATE_FRAME_RECEIVE (R355): A joining pylon receives a streamed dynamic part of an axis. -/
  | stateFrameReceive (bytes : List Byte)
  /-- STATE_INSTALL (R355): At t0 of bc m + 1 the joining pylon installs a streamed axis state and counts it in TWN_JOIN. -/
  | stateInstall
  /-- TIMING_MARK_RECEIVE (R354): A timing mark on the PAIR link sets the partner's phase PH before the first SYNC. -/
  | timingMarkReceive (bytes : List Byte) (stamp : Nat)
  /-- DIGEST_PASS_END (R342): A configuration digest pass completes and is compared with the partner's, setting DIG_BAD on difference. -/
  | digestPassEnd
  /-- PARTNER_COPY_COMPARE (R350): A partner's downstream copy received at x1 is compared by payload CRC, and a difference is counted as a twin mismatch. -/
  | partnerCopyCompare (port : Fin 6) (fr : RxFrame)
  /-- PAIR_FRAME_ERROR (R358): A PAIR frame with a bad CRC is discarded and counted in TWN_PAIR_ERR. -/
  | pairFrameError
  /-- SQ_ENTRY_WRITE (R364): A host write to a submission queue slot stores the entry, or is ignored if the slot lies between head and tail. -/
  | sqEntryWrite (off : Nat) (words : List Word)
  /-- SQ_DOORBELL (R364): A write of SQn_TAIL submits entries or is ignored with DB_BAD. -/
  | sqDoorbell (q : Fin 4) (val : Word)
  /-- CQ_HEAD_DOORBELL (R369): A write of CQ_HEAD frees completion entries or is ignored with DB_BAD. -/
  | cqHeadDoorbell (val : Word)
  /-- PACKET_FETCH (R365): A Tollgate core fetches the next packet, reserving a completion entry, or stalls for want of one. -/
  | packetFetch (core : Fin 2)
  /-- PAYLOAD_DMA_COMPLETE (R370): The DMA fetch of a packet payload completes or fails with ST_DMA. -/
  | payloadDmaComplete (core : Fin 2) (res : DmaResult)
  /-- FENCE_RELEASE (R367): A fenced packet starts once all earlier packets have written their completions. -/
  | fenceRelease (core : Fin 2)
  /-- OP_NOP (R372): The NOP packet completes with ST_OK. -/
  | opNop (core : Fin 2)
  /-- OP_IDENT (R374): The identify packet returns device, microcode, image and link identity. -/
  | opIdent (core : Fin 2)
  /-- OP_REG_WRITE (R373): The register-write packet checks every offset and then lands its writes 4 clk apart. -/
  | opRegWrite (core : Fin 2)
  /-- OP_MBX_READ (R374): The mailbox-read packet reads a mailbox item through Tollgate's port. -/
  | opMbxRead (core : Fin 2)
  /-- OP_MBX_WRITE (R374): The mailbox-write packet writes a mailbox item through Tollgate's port. -/
  | opMbxWrite (core : Fin 2)
  /-- OP_AXIS_ENABLE (R375): The enable packet writes an axis entry with EN = 1, loads its state and leaves it quiesced, or maps a refusal to a status. -/
  | opAxisEnable (core : Fin 2)
  /-- OP_AXIS_DISABLE (R376): The disable packet disables a quiesced or faulted axis after any running task completes. -/
  | opAxisDisable (core : Fin 2)
  /-- OP_PARAM_WRITE (R377): The parameter-write packet writes words into an axis's home copy outside the motion block and dynamic part. -/
  | opParamWrite (core : Fin 2)
  /-- OP_PARAM_READ (R377): The parameter-read packet returns 1 to 4 words of an axis's home copy. -/
  | opParamRead (core : Fin 2)
  /-- OP_FAULT_CLEAR (R151): The fault-clear packet returns a faulted axis with OFF set to quiesced and zeroes its integrators. -/
  | opFaultClear (core : Fin 2)
  /-- OP_GROUP_QUIESCE (R378): The quiesce packet registers a map of axes to stop at the next t0. -/
  | opGroupQuiesce (core : Fin 2)
  /-- GROUP_QUIESCE_EFFECT (R378): At the next t0 the named running axes enter STATE 1, pending motions and resumes abort, and the completion follows. -/
  | groupQuiesceEffect
  /-- OP_GROUP_RESUME (R379): The resume packet registers a map of quiesced axes to run from a named bc or chainage position. -/
  | opGroupResume (core : Fin 2)
  /-- GROUP_RESUME_EFFECT (R379): At t0 of the resume bc all named axes enter STATE 2 if their stations are ACTIVE, or the resume fails with ST_STATE. -/
  | groupResumeEffect
  /-- GROUP_RESUME_TIMEOUT (R379): A resume not reached by its TMO deadline is dropped with ST_TIMEOUT. -/
  | groupResumeTimeout
  /-- OP_MOVE_ABS (R381): The absolute-move packet writes a MOVE_ABS command block with MC_SEQ last. -/
  | opMoveAbs (core : Fin 2)
  /-- OP_MOVE_REL (R381): The relative-move packet writes a MOVE_REL command block with MC_SEQ last. -/
  | opMoveRel (core : Fin 2)
  /-- OP_VELOCITY (R381): The velocity packet writes a VELOCITY command block with MC_SEQ last. -/
  | opVelocity (core : Fin 2)
  /-- OP_STOP (R381): The stop packet writes a STOP command block with MC_SEQ last. -/
  | opStop (core : Fin 2)
  /-- OP_GEAR (R381): The gearing packet writes a GEAR command block with MC_SEQ last. -/
  | opGear (core : Fin 2)
  /-- OP_CAM (R381): The cam packet writes a CAM command block with MC_SEQ last. -/
  | opCam (core : Fin 2)
  /-- OP_HOME (R381): The homing packet writes a HOME command block with MC_SEQ last. -/
  | opHome (core : Fin 2)
  /-- OP_GROUP_MOVE (R383): The group-move packet computes the path and writes a GROUP block to each member to start in one bc. -/
  | opGroupMove (core : Fin 2)
  /-- MOTION_HOLD_END (R381): Two task periods after the previous MC_SEQ a held motion packet for the axis proceeds. -/
  | motionHoldEnd
  /-- MOTION_COMPLETION (R382): Sixteen clk after the start or refusing task's stage 14 Tollgate writes the motion packet's completion. -/
  | motionCompletion
  /-- OP_EST_WRITE (R384): The EST-write packet commits one EST entry under R51. -/
  | opEstWrite (core : Fin 2)
  /-- OP_EST_LOAD (R384): The bulk EST load tests all entries and commits them in index order. -/
  | opEstLoad (core : Fin 2)
  /-- OP_CAM_LOAD (R384): The bulk cam load writes whole cam points in index order. -/
  | opCamLoad (core : Fin 2)
  /-- OP_CYM_LOAD (R384): The bulk matrix load writes cycle matrix entries in index order while the span is IDLE. -/
  | opCymLoad (core : Fin 2)
  /-- OP_RING_START (R253): The start packet moves an IDLE span to LISTEN and runs ring start. -/
  | opRingStart (core : Fin 2)
  /-- OP_RING_HALT (R385): The halt packet registers a halt of a running span for the next t0. -/
  | opRingHalt (core : Fin 2)
  /-- RING_HALT_EFFECT (R252): At the next t0 the head sends no more frames and the span returns to IDLE. -/
  | ringHaltEffect
  /-- OP_SAFETY_LOAD (R386): The safety-load packet writes image words into KST_PWIN in BOOT or FW_LOAD. -/
  | opSafetyLoad (core : Fin 2)
  /-- OP_CAPTURE_READ (R386): The capture read-out packet moves a DDR range to host memory by DMA. -/
  | opCaptureRead (core : Fin 2)
  /-- OP_NVS_WRITE (R414): The parameter-bank write packet programs words into the inactive bank at or above WP. -/
  | opNvsWrite (core : Fin 2)
  /-- OP_NVS_COMMIT (R415): The bank-commit packet writes the header of the inactive bank and switches banks. -/
  | opNvsCommit (core : Fin 2)
  /-- OP_BBX_READ (R386): The black-box read-out packet moves ring entries to host memory. -/
  | opBbxRead (core : Fin 2)
  /-- OP_TWIN_PAIR (R354): The twin-pair packet runs the pairing check. -/
  | opTwinPair (core : Fin 2)
  /-- OP_TWIN_YIELD (R345): The twin-yield packet yields the lease to the partner. -/
  | opTwinYield (core : Fin 2)
  /-- OP_TWIN_JOIN (R355): The twin-join packet re-pairs a new pylon and completes at TWN_JOIN.DONE. -/
  | opTwinJoin (core : Fin 2)
  /-- FUNCTION_LEVEL_RESET (R363): A Function Level Reset or hot reset empties all queues and resets the host interface only. -/
  | functionLevelReset (hot : Bool)
  /-- PCIE_LINK_DOWN (R32): The PCIe link goes down; control continues and queues are kept. -/
  | pcieLinkDown
  /-- PCIE_LINK_UP (R363): The PCIe link returns and held messages and completions become readable. -/
  | pcieLinkUp (width speed : Nat)
  /-- TOLLGATE_WATCHDOG_EXPIRY (R388): The Tollgate watchdog expires and both cores restart, completing in-flight packets with ST_RESTART. -/
  | tollgateWatchdogExpiry
  /-- TOLLGATE_RESTART_END (R388): Tollgate restart ends and fetching resumes at each queue head. -/
  | tollgateRestartEnd
  /-- EVENT_WRITER_SERVE (R403): The event writer serves one source latch per clk and writes or merges its queue entry and black-box entry. -/
  | eventWriterServe
  /-- EVT_HEAD_WRITE (R402): A write of EVT_HEAD frees event queue entries or is ignored. -/
  | evtHeadWrite (val : Word)
  /-- VECTOR_TIME_EXPIRY (R405): A vector's coalescing TIME passes since its first counted entry. -/
  | vectorTimeExpiry (v : Fin 32)
  /-- MSIX_MESSAGE (R405): Sixteen clk after its condition is met a vector sends its MSI-X message or sets its pending bit. -/
  | msixMessage (v : Fin 32)
  /-- BBX_NOTE (R420): A write to BBX_NOTE records a host note in the black-box ring. -/
  | bbxNote (val : Word)
  /-- FREEZE (R422): A write of BBX_CTL.FREEZE freezes the black-box ring with cause 3. -/
  | freeze (val : Word)
  /-- COMMIT (R424): A write of BBX_CTL.COMMIT starts the commit of a frozen, uncommitted ring to an erased area. -/
  | commit (val : Word)
  /-- RELEASE (R425): A write of BBX_CTL.RELEASE empties the ring and resumes recording. -/
  | release (val : Word)
  /-- LOAD (R425): A write of BBX_CTL.LOAD reads a committed record from an area into the ring. -/
  | load (val : Word)
  /-- ERASE (R425): A write of BBX_CTL.ERASE queues the erase of the 129 sectors of an area. -/
  | erase (val : Word)
  /-- NVS_SWITCH (R415): An accepted pair to NVS_SWITCH requests the commit of the named bank. -/
  | nvsSwitch
  /-- FLASH_OPERATION_START (R418): The flash starts the black-box commit or the head of its queue if the operation is covered by hold-up energy, or defers it. -/
  | flashOperationStart
  /-- FLASH_OPERATION_END (R418): A flash read, program or erase ends, completing tiles, bank switches or media errors. -/
  | flashOperationEnd (ok : Bool)
  /-- SOFTWARE_RESET_HOST (R432): An accepted GLB_SWRST pair with SCOPE 1 resets the host interface. -/
  | softwareResetHost
  /-- SOFTWARE_RESET_CORE (R433): An accepted GLB_SWRST pair with SCOPE 2 resets every block but Keystone and PCIe 64 clk later. -/
  | softwareResetCore
  /-- SOFTWARE_RESET_FULL (R433): An accepted GLB_SWRST pair with SCOPE 3 makes a full reset 64 clk later. -/
  | softwareResetFull
  /-- RESET_PIN (R432): RESET_N held low for at least 1 µs makes a full reset. -/
  | resetPin
  /-- PERST (R432): PERST_N low resets the host interface and the PCIe PHY. -/
  | perst
  /-- POWER_ON (R431): Power-on holds the die in reset until every rail has been in its window for 2 ms. -/
  | powerOn
  /-- SUPPLY_BROWNOUT (R448): VDD08 or VDD33 falling below its reset threshold for 2 µs asserts a full reset. -/
  | supplyBrownout (rail : Rail)
  /-- PLL_LOCK (R430): A PLL locks and its LOCK bit is set. -/
  | pllLock (i : Fin 6)
  /-- PLL_LOCK_TIMEOUT (R430): A PLL fails to lock within its time, or loses lock, and sets FAIL. -/
  | pllLockTimeout (i : Fin 6)
  /-- BOOT (R434): After reset release the boot ROM reads flash, authenticates the image, loads the Piers and applies the active bank. -/
  | boot (env : BootEnv)
  /-- JTAG_INSTRUCTION (R439): An IEEE 1149.1 instruction is loaded and acts as permitted by RESET_N and the debug fuse. -/
  | jtagInstruction (ir : JtagIr) (resetLow : Bool)
  /-- DISCARDED_FRAME_RECEIVE (R228): A ring frame arrives whole with a wrong HCRC, a reserved TYPE or a length over 1,518 bytes and is discarded and counted (HCRC_ERR, BADTYPE, LONG). -/
  | discardedFrameReceive (port : Fin 6) (fr : RxFrame)
  /-- TRUNK_DELAY_FRAME_RECEIVE (R273): A trunk DELAY frame reaches a head, which stamps it as master or station, or sets ZLP_TSTAT.DUP on seeing a second master's frame. -/
  | trunkDelayFrameReceive (port : Fin 6) (fr : RxFrame)
  /-- PAIR_LINK_CHANGE (R357): The PAIR receiver acquires or loses its recovered clock and code-group synchronisation, so the PAIR link goes up or down. -/
  | pairLinkChange (up : Bool)
  /-- MSIX_VECTOR_UNMASK (R405): A host write unmasks an MSI-X vector in BAR4 and a message held in the pending-bit array is sent. -/
  | msixVectorUnmask (v : Fin 32)
  /-- EVENT_OR_BACKGROUND_TASK_END (R93): An event task or background slice ends, freeing its Pier, clearing its DSP_BG_PEND bit and moving a draining Pier to OFFLINE. -/
  | eventOrBackgroundTaskEnd (p : Fin 16)
  deriving DecidableEq, Repr

end Sys2Proof
end

