-- ==== Sys2Proof/Decode.lean ====
section
/-! DEFINITION. The commands have no encoding of their own: no row of the table of operations and events gives bits, so a word spells none. -/

namespace Sys2Proof

/-- The command that a word of the table's bits spells. No row gives bits. -/
def decodeTableWord (_ _ : Nat) : Option Instr := none

end Sys2Proof
end

