-- ==== Sys2Proof/Machine/AxisDyn.lean ====
section
/-! DEFINITION. The dynamic part of an axis state (R95, R141): the published words and the law's internal state of the chapters on
the axis control law and on motion generation, as typed fields. -/

namespace Sys2Proof.Machine

/-- A binary32 pattern. -/
abbrev F32 := BitVec 32

/-- A signed 64-bit position in 2^-16 feedback count (R114), or a 32.32 master position. -/
abbrev Pos64 := BitVec 64

/-- The modes of stage 3 (R152). -/
inductive MotionMode where
  | hold | profile | velocity | group | gear | cam | home
  deriving DecidableEq, Repr, Inhabited

/-- A command of the motion block (R154), as taken. -/
structure MotionCmd where
  ctl : Word
  at_ : Pos64
  p : Pos64
  v : F32
  a : F32
  d : F32
  j : F32
  x1 : Word
  x2 : Word
  x3 : Word
  m0 : Pos64
  seq : Word
  deriving DecidableEq, Repr, Inhabited

/-- No command. -/
def MotionCmd.none : MotionCmd := ⟨0, 0, 0, 0, 0, 0, 0, 0, 0, 0, 0, 0⟩

/-- One digital input's qualification and latch (R172): consecutive active and inactive samples, p_fb at the first sample of the active
run, latched, latch position. -/
structure InputLatch where
  active : Nat
  inactive : Nat
  first : Pos64
  latched : Bool
  at_ : Pos64
  deriving DecidableEq, Repr, Inhabited

/-- An input that has seen nothing. -/
def InputLatch.idle : InputLatch := ⟨0, 0, 0, false, 0⟩

/-- A segment of constant jerk of a plan: jerk and duration in the plan's fixed-point units (log entry 31). -/
structure JerkSeg where
  jerk : Int
  dur : Int
  deriving DecidableEq, Repr, Inhabited

/-- The phases of HOME (R174). -/
inductive HomePhase where
  | search | stopClear | clear | stopApproach | approach | approachIndex | stopEnd | hard
  deriving DecidableEq, Repr, Inhabited

/-- The status of a motion command as its start or refusing task reports it (R157). -/
inductive MotionStatus where
  | ok | limit | param | state | aborted
  deriving DecidableEq, Repr, Inhabited

/-- A report of stage 14 (R157): status, MC_SEQ, overshoot in counts, planned duration in tasks. -/
structure MotionReport where
  status : MotionStatus
  seq : Word
  overshoot : Int
  dur : Nat
  deriving DecidableEq, Repr, Inhabited

/-- Stage 3's own state. -/
structure Motion where
  mode : MotionMode
  seqTaken : Word               -- MC_SEQ of the command last taken
  cmd : MotionCmd               -- command in force
  wait : Option MotionCmd       -- command pending until its start task
  pSet : Pos64                  -- previous output
  vSet : F32
  aSet : F32
  plan : List JerkSeg           -- profile: segments of the plan in force
  tau : Nat                     -- profile time in task periods
  p0 : Pos64                    -- start of the plan (GROUP: of the member)
  v0 : Int                      -- start velocity and acceleration of the plan, fixed point
  a0 : Int
  target : Pos64
  dur : Nat                     -- planned duration in tasks
  vEnd : F32                    -- velocity that stands after the plan (R161)
  m0 : Int                      -- GEAR, CAM: master origin
  off : Pos64                   -- GEAR: P0; CAM: OFF
  rFrom : Int                   -- GEAR ramp: starting ratio, fixed point
  ramping : Bool
  wraps : Int                   -- CAM: wraps since the start
  rise : Int                    -- CAM: SSCALE × RISE in pos64, formed at the start
  mPrev : Pos64                 -- master position of the previous task
  mSeen : Bool
  h : Pos64                     -- H (R176)
  phase : HomePhase             -- HOME
  reversed : Bool
  homeStart : Pos64
  feRun : Nat                   -- hard stop: consecutive tasks with |e_p| ≥ HM_FE
  armed : Bool                  -- a sample with LVAL clear has come since LREQ was changed
  lreq : Nat                    -- LREQ sent with the command
  limP : InputLatch
  limN : InputLatch
  ref : InputLatch
  deriving DecidableEq, Repr, Inhabited

/-- Stage 3 at reset. -/
def Motion.idle : Motion :=
  ⟨.hold, 0, MotionCmd.none, none, 0, 0, 0, [], 0, 0, 0, 0, 0, 0, 0, 0, 0, 0, false, 0, 0, 0, false, 0, .search, false, 0, 0, false, 0,
    InputLatch.idle, InputLatch.idle, InputLatch.idle⟩

/-- One notch filter's state (R126, R127): s1, s2, and `EN` as its last task saw it. -/
structure NotchState where
  s1 : F32
  s2 : F32
  en : Bool
  deriving DecidableEq, Repr, Inhabited

/-- The dynamic part of an axis state. -/
structure AxisDyn where
  status : Word
  missRun : Nat
  missTot : Nat
  cmdRun : Nat
  cmdTot : Nat
  plRun : Nat
  ltT : Nat
  fltT : Nat
  hlatch : Pos64
  fresh : Bool                  -- the next task is the first after an enable or a resume
  posOk : Bool                  -- a sample has been received since then
  posPrev : Word                -- feedback decode
  pFb : Pos64
  pRef : Pos64                  -- p_fb of the last sample used (R118, R119)
  vFb : F32
  iMeas : F32
  udc : F32
  theta : F32
  omega : F32
  idLast : F32                  -- previous references of the current loop
  iqLast : F32
  iApp : F32                    -- current output of the previous task; class X: measured iq
  pLim : Pos64                  -- slew limiter
  vLim : F32
  xI : F32                      -- integrators
  xD : F32
  xQ : F32
  satPrev : Int                 -- saturation signs left by the previous task
  satD : Int
  satQ : Int
  notch : List NotchState
  ltOn : Bool                   -- load test
  ltEn : Bool                   -- LT_CFG.EN as the last task saw it
  ltPhase : F32
  ltPrbs : Nat
  ltStep : Nat
  ltW : F32
  react : Nat                   -- fault reaction: 0 none, 1 ramp, 2 off
  still : Nat                   -- consecutive tasks at standstill in a ramp
  motion : Motion
  deriving DecidableEq, Repr, Inhabited

/-- The dynamic part at reset. -/
def AxisDyn.reset : AxisDyn :=
  ⟨0, 0, 0, 0, 0, 0, 0, 0, 0, true, false, 0, 0, 0, 0, 0, 0, 0, 0, 0, 0, 0, 0, 0, 0, 0, 0, 0, 0, 0,
    [⟨0, 0, false⟩, ⟨0, 0, false⟩, ⟨0, 0, false⟩, ⟨0, 0, false⟩], false, false, 0, 0, 0, 0, 0, 0, Motion.idle⟩

end Sys2Proof.Machine
end

