-- ==== Sys2Proof/Config.lean ====
section
/-! DEFINITION. What the spec leaves open: the free values. Each is an opaque constant with no body, so no proof can see what
it is and a claim holds whatever it is. Each names the assumption-log entry that declares it. -/

namespace Sys2Proof.Config

/-- A fresh 32-bit free value for each value of the state's free-value counter (log entry 10). -/
opaque freeWord : Nat → Word

/-- Does the chainage unit round the velocity of a plan (numerator, denominator) up? The spec states no rounding (log entry 11). -/
opaque chnRoundUp : Int → Int → Bool

/-- The fp32 sine of an angle in radians, both as bit patterns (log entry 12). -/
opaque sinF32 : Word → Word

/-- The fp32 cosine (log entry 12). -/
opaque cosF32 : Word → Word

/-- The fp32 angle of a vector (y, x) (log entry 12). -/
opaque atan2F32 : Word → Word → Word

/-- The fp32 value of a base raised to an exponent (log entry 12). -/
opaque powF32 : Word → Word → Word

/-- Does a plan of stage 3 round an output (tag, numerator, denominator) up to the next representable value? (log entry 31). -/
opaque planRoundUp : Nat → Int → Int → Bool

/-- Does a Pier's microcode form a product and a sum of these operands with its fused multiply-add (R86), or with a multiply and an add? (log entry 30). -/
opaque fuses : Word → Word → Word → Bool

/-- The register of a Pier (0 to 63) after the microcode has left it as a free value (log entry 93). -/
opaque pierReg : Nat → Nat → Word

/-- The byte of a Pier's scratch area (0 to 32,767) after the microcode has left it as a free value (log entry 93). -/
opaque pierScratch : Nat → Nat → Byte

/-- The payload of a NaN produced by an fp32 operation (log entry 12). -/
opaque nanF32 : Word

/-- The byte at an offset of the dynamic part of an axis state, from 0x628 up, where no layout is published (log entry 67). -/
opaque dynByte : Sys2Proof.Machine.AxisDyn → Nat → Byte

/-- The dynamic part that 512 bytes streamed by the partner hold, but for the published words (log entry 67). -/
opaque dynOfBytes : List Byte → Sys2Proof.Machine.AxisDyn

end Sys2Proof.Config
end

