-- ==== Sys2Proof/Machine/Bits.lean ====
section
/-! DEFINITION. Bit fields of numbers, two's complement readings, little-endian byte order (R8) and the checksums the spec
names (CRC-8, CRC-16, CRC-32). -/

namespace Sys2Proof.Machine

/-- The `width` bits of `n` from bit `lo` up. -/
def bitsOf (n lo width : Nat) : Nat := n / 2 ^ lo % 2 ^ width

/-- The word with the `width` bits from bit `lo` up replaced by the low bits of `v`. -/
def setBits (w : Word) (lo width v : Nat) : Word :=
  let m : Word := BitVec.ofNat 32 ((2 ^ width - 1) * 2 ^ lo)
  (w &&& ~~~m) ||| (BitVec.ofNat 32 (v % 2 ^ width * 2 ^ lo))

/-- A number of `w` bits read as two's complement. -/
def toSigned (w n : Nat) : Int :=
  let r := n % 2 ^ w
  if r < 2 ^ (w - 1) then (r : Int) else (r : Int) - (2 : Int) ^ w

/-- The two's complement pattern of an integer in `w` bits. -/
def ofSigned (w : Nat) (i : Int) : Nat := (i % (2 : Int) ^ w).toNat

/-- An integer kept within the signed range of `w` bits. -/
def clampSigned (w : Nat) (i : Int) : Int := max (-(2 : Int) ^ (w - 1)) (min ((2 : Int) ^ (w - 1) - 1) i)

/-- The low 32 bits of a number, as a word. -/
def wordOf (n : Nat) : Word := BitVec.ofNat 32 n

/-- The low word and the high word of a 64-bit number, low first. -/
def words64 (n : Nat) : List Word := [wordOf n, wordOf (n / 2 ^ 32)]

/-- The 64-bit number of a low and a high word. -/
def nat64 (lo hi : Word) : Nat := lo.toNat + hi.toNat * 2 ^ 32

/-- The `n` little-endian bytes of a number, lowest first (R8). -/
def bytesOf : Nat → Nat → List Byte
  | 0, _ => []
  | n + 1, v => BitVec.ofNat 8 v :: bytesOf n (v / 256)

/-- The number of a list of little-endian bytes, lowest first (R8). -/
def natOfBytes : List Byte → Nat
  | [] => 0
  | b :: bs => b.toNat + 256 * natOfBytes bs

/-- The words of a list of bytes, four bytes a word, lowest byte first. -/
def wordsOfBytes : List Byte → List Word
  | a :: b :: c :: d :: rest => wordOf (natOfBytes [a, b, c, d]) :: wordsOfBytes rest
  | [] => []
  | short => [wordOf (natOfBytes short)]

/-- The bytes of a list of words, lowest byte first. -/
def bytesOfWords (ws : List Word) : List Byte := ws.flatMap (fun w => bytesOf 4 w.toNat)

/-- One bit of a most-significant-first CRC of `w` bits. -/
def crcStepMsb (w poly : Nat) (crc : Nat) (bit : Bool) : Nat :=
  let top := crc.testBit (w - 1) != bit
  let sh := crc * 2 % 2 ^ w
  if top then sh ^^^ poly else sh

/-- The bits of a byte, most significant first. -/
def bitsMsb (b : Byte) : List Bool := [7, 6, 5, 4, 3, 2, 1, 0].map (fun k => b.toNat.testBit k)

/-- A CRC computed most significant bit first. -/
def crcMsb (w poly init : Nat) (bs : List Byte) : Nat :=
  bs.foldl (fun c b => (bitsMsb b).foldl (crcStepMsb w poly) c) init

/-- The CRC-8 of a ring frame header (polynomial 0x07). -/
def crc8 (init : Nat) (bs : List Byte) : Nat := crcMsb 8 0x07 init bs

/-- The CRC-16 of polynomial 0x1021 and initial value 0xFFFF. -/
def crc16 (bs : List Byte) : Nat := crcMsb 16 0x1021 0xFFFF bs

/-- One bit of the reflected CRC-32 of IEEE 802.3. -/
def crc32Bit (crc : Nat) : Nat := if crc % 2 = 1 then crc / 2 ^^^ 0xEDB88320 else crc / 2

/-- One byte of the reflected CRC-32 of IEEE 802.3. -/
def crc32Byte (crc : Nat) (b : Byte) : Nat :=
  (List.range 8).foldl (fun c _ => crc32Bit c) (crc ^^^ b.toNat)

/-- The CRC-32 of IEEE 802.3 over bytes. -/
def crc32 (bs : List Byte) : Nat := bs.foldl crc32Byte 0xFFFFFFFF ^^^ 0xFFFFFFFF

end Sys2Proof.Machine
end

