-- ==== Sys2Proof/Machine/Regs.lean ====
section
/-! DEFINITION. Names of the host-visible registers and their fields: for every register of the spec's register tables the
BAR0 byte address, and for every field the register's address, its lowest bit and its width.
Names are the spec's own: block, register and field joined by underscores; an array takes its indices as arguments. -/

namespace Sys2Proof.Machine

/-- One field of a register: the BAR0 byte address of its register, its lowest bit and its width. -/
structure Fld where
  addr : Nat
  lo : Nat
  width : Nat
  deriving DecidableEq, Repr

namespace R

/-- `GLB_CFG` (R399). -/
def GLB_CFG : Nat := 0x0
def GLB_CFG_SCRUB_EN : Fld := ⟨GLB_CFG, 0, 1⟩

/-- `GLB_VOTE_CNT` (R399). -/
def GLB_VOTE_CNT : Nat := 0x4
def GLB_VOTE_CNT_COUNT : Fld := ⟨GLB_VOTE_CNT, 0, 32⟩

/-- `GLB_VOTE_LAST` (R399). -/
def GLB_VOTE_LAST : Nat := 0x8
def GLB_VOTE_LAST_VALID : Fld := ⟨GLB_VOTE_LAST, 31, 1⟩
def GLB_VOTE_LAST_ADDR : Fld := ⟨GLB_VOTE_LAST, 0, 25⟩

/-- `GLB_PW_ERR` (R399). -/
def GLB_PW_ERR : Nat := 0xc
def GLB_PW_ERR_COUNT : Fld := ⟨GLB_PW_ERR, 0, 32⟩

/-- `GLB_PW_LAST` (R399). -/
def GLB_PW_LAST : Nat := 0x10
def GLB_PW_LAST_VALID : Fld := ⟨GLB_PW_LAST, 31, 1⟩
def GLB_PW_LAST_CAUSE : Fld := ⟨GLB_PW_LAST, 29, 2⟩
def GLB_PW_LAST_ADDR : Fld := ⟨GLB_PW_LAST, 0, 25⟩

/-- `GLB_ACC_ERR` (R399). -/
def GLB_ACC_ERR : Nat := 0x14
def GLB_ACC_ERR_UNMAP : Fld := ⟨GLB_ACC_ERR, 16, 16⟩
def GLB_ACC_ERR_WIDTH : Fld := ⟨GLB_ACC_ERR, 0, 16⟩

/-- `GLB_SCRUB` (R399). -/
def GLB_SCRUB : Nat := 0x18
def GLB_SCRUB_PASS : Fld := ⟨GLB_SCRUB, 16, 16⟩
def GLB_SCRUB_POS : Fld := ⟨GLB_SCRUB, 0, 8⟩

/-- `GLB_MBX_REQ` (R399). -/
def GLB_MBX_REQ : Nat := 0x20
def GLB_MBX_REQ_WR : Fld := ⟨GLB_MBX_REQ, 8, 1⟩
def GLB_MBX_REQ_CODE : Fld := ⟨GLB_MBX_REQ, 0, 8⟩

/-- `GLB_MBX_STAT` (R399). -/
def GLB_MBX_STAT : Nat := 0x24
def GLB_MBX_STAT_BUSY : Fld := ⟨GLB_MBX_STAT, 2, 1⟩
def GLB_MBX_STAT_ERR : Fld := ⟨GLB_MBX_STAT, 1, 1⟩
def GLB_MBX_STAT_VALID : Fld := ⟨GLB_MBX_STAT, 0, 1⟩

/-- `GLB_MBX_D` (R399). -/
def GLB_MBX_D (k : Nat) : Nat := 0x28 + k * 4
def GLB_MBX_D_D (k : Nat) : Fld := ⟨GLB_MBX_D k, 0, 32⟩

/-- `GLB_SWRST` (R399). -/
def GLB_SWRST : Nat := 0x40
def GLB_SWRST_SCOPE : Fld := ⟨GLB_SWRST, 0, 2⟩

/-- `GLB_BOOT` (R440). -/
def GLB_BOOT : Nat := 0x50
def GLB_BOOT_RSTAT : Fld := ⟨GLB_BOOT, 24, 8⟩
def GLB_BOOT_LSKIP : Fld := ⟨GLB_BOOT, 8, 16⟩
def GLB_BOOT_CODE : Fld := ⟨GLB_BOOT, 4, 4⟩
def GLB_BOOT_STATE : Fld := ⟨GLB_BOOT, 0, 4⟩

/-- `GLB_BOOTCFG` (R440). -/
def GLB_BOOTCFG : Nat := 0x54
def GLB_BOOTCFG_AUTO_START : Fld := ⟨GLB_BOOTCFG, 0, 1⟩

/-- `GLB_RST_CAUSE` (R440). -/
def GLB_RST_CAUSE : Nat := 0x58
def GLB_RST_CAUSE_TG_WDOG : Fld := ⟨GLB_RST_CAUSE, 6, 1⟩
def GLB_RST_CAUSE_FLR : Fld := ⟨GLB_RST_CAUSE, 5, 1⟩
def GLB_RST_CAUSE_PERST : Fld := ⟨GLB_RST_CAUSE, 4, 1⟩
def GLB_RST_CAUSE_SW : Fld := ⟨GLB_RST_CAUSE, 3, 1⟩
def GLB_RST_CAUSE_SWCORE : Fld := ⟨GLB_RST_CAUSE, 2, 1⟩
def GLB_RST_CAUSE_PIN : Fld := ⟨GLB_RST_CAUSE, 1, 1⟩
def GLB_RST_CAUSE_POR : Fld := ⟨GLB_RST_CAUSE, 0, 1⟩

/-- `GLB_CLK_STAT` (R440). -/
def GLB_CLK_STAT : Nat := 0x5c
def GLB_CLK_STAT_FAIL : Fld := ⟨GLB_CLK_STAT, 8, 6⟩
def GLB_CLK_STAT_LOCK : Fld := ⟨GLB_CLK_STAT, 0, 6⟩

/-- `GLB_DBG` (R440). -/
def GLB_DBG : Nat := 0x60
def GLB_DBG_EXTEST : Fld := ⟨GLB_DBG, 1, 1⟩
def GLB_DBG_LOCK : Fld := ⟨GLB_DBG, 0, 1⟩

/-- `CHN_CFG` (R61). -/
def CHN_CFG : Nat := 0x10000
def CHN_CFG_AXIS_SEL : Fld := ⟨CHN_CFG, 8, 8⟩
def CHN_CFG_ENC_SEL : Fld := ⟨CHN_CFG, 4, 4⟩
def CHN_CFG_SW_MODE : Fld := ⟨CHN_CFG, 1, 1⟩
def CHN_CFG_RUN : Fld := ⟨CHN_CFG, 0, 1⟩

/-- `CHN_SRC` (R61). -/
def CHN_SRC : Nat := 0x10004
def CHN_SRC_ARM : Fld := ⟨CHN_SRC, 8, 1⟩
def CHN_SRC_NEXT : Fld := ⟨CHN_SRC, 4, 3⟩
def CHN_SRC_CUR : Fld := ⟨CHN_SRC, 0, 3⟩

/-- `CHN_STAT` (R61). -/
def CHN_STAT : Nat := 0x10008
def CHN_STAT_CAP_LOSS : Fld := ⟨CHN_STAT, 5, 1⟩
def CHN_STAT_JUMP : Fld := ⟨CHN_STAT, 4, 1⟩
def CHN_STAT_SW_DONE : Fld := ⟨CHN_STAT, 3, 1⟩
def CHN_STAT_LOST : Fld := ⟨CHN_STAT, 2, 1⟩
def CHN_STAT_MISS : Fld := ⟨CHN_STAT, 1, 1⟩
def CHN_STAT_INC_CLIP : Fld := ⟨CHN_STAT, 0, 1⟩

/-- `CHN_INC_LO` (R61). -/
def CHN_INC_LO : Nat := 0x1000c
def CHN_INC_LO_INC_LO : Fld := ⟨CHN_INC_LO, 0, 32⟩

/-- `CHN_INC_HI` (R61). -/
def CHN_INC_HI : Nat := 0x10010
def CHN_INC_HI_INC_HI : Fld := ⟨CHN_INC_HI, 0, 8⟩

/-- `CHN_SCALE` (R61). -/
def CHN_SCALE : Nat := 0x10014
def CHN_SCALE_SCALE : Fld := ⟨CHN_SCALE, 0, 32⟩

/-- `CHN_PLAN` (R61). -/
def CHN_PLAN : Nat := 0x10018
def CHN_PLAN_LEAD : Fld := ⟨CHN_PLAN, 0, 18⟩

/-- `CHN_MISS` (R61). -/
def CHN_MISS : Nat := 0x1001c
def CHN_MISS_RUN : Fld := ⟨CHN_MISS, 8, 8⟩
def CHN_MISS_LIMIT : Fld := ⟨CHN_MISS, 0, 8⟩

/-- `CHN_MISS_CNT` (R61). -/
def CHN_MISS_CNT : Nat := 0x10020
def CHN_MISS_CNT_COUNT : Fld := ⟨CHN_MISS_CNT, 0, 32⟩

/-- `CHN_VM_DV` (R61). -/
def CHN_VM_DV : Nat := 0x10024
def CHN_VM_DV_DV : Fld := ⟨CHN_VM_DV, 0, 32⟩

/-- `CHN_BC` (R61). -/
def CHN_BC : Nat := 0x10028
def CHN_BC_BCN : Fld := ⟨CHN_BC, 0, 6⟩

/-- `CHN_CAP_CFG` (R61). -/
def CHN_CAP_CFG (n : Nat) : Nat := 0x10040 + n * 4
def CHN_CAP_CFG_GATE (n : Nat) : Fld := ⟨CHN_CAP_CFG n, 4, 1⟩
def CHN_CAP_CFG_GATED (n : Nat) : Fld := ⟨CHN_CAP_CFG n, 3, 1⟩
def CHN_CAP_CFG_EDGE (n : Nat) : Fld := ⟨CHN_CAP_CFG n, 1, 2⟩
def CHN_CAP_CFG_EN (n : Nat) : Fld := ⟨CHN_CAP_CFG n, 0, 1⟩

/-- `CHN_CAP_FILL` (R61). -/
def CHN_CAP_FILL : Nat := 0x10080
def CHN_CAP_FILL_LOST : Fld := ⟨CHN_CAP_FILL, 16, 16⟩
def CHN_CAP_FILL_FILL : Fld := ⟨CHN_CAP_FILL, 0, 9⟩

/-- `CHN_CAP_REC` (R61). -/
def CHN_CAP_REC (w : Nat) : Nat := 0x100a0 + w * 4
def CHN_CAP_REC_V (w : Nat) : Fld := ⟨CHN_CAP_REC w, 0, 32⟩

/-- `EST_CFG` (R63). -/
def EST_CFG : Nat := 0x20000
def EST_CFG_RING_EN : Fld := ⟨EST_CFG, 1, 1⟩
def EST_CFG_EN : Fld := ⟨EST_CFG, 0, 1⟩

/-- `EST_STAT` (R63). -/
def EST_STAT : Nat := 0x20004
def EST_STAT_SWEEP : Fld := ⟨EST_STAT, 4, 1⟩
def EST_STAT_BAD : Fld := ⟨EST_STAT, 3, 1⟩
def EST_STAT_OVFL : Fld := ⟨EST_STAT, 2, 1⟩
def EST_STAT_SKIP : Fld := ⟨EST_STAT, 1, 1⟩
def EST_STAT_LATE : Fld := ⟨EST_STAT, 0, 1⟩

/-- `EST_IDX` (R63). -/
def EST_IDX : Nat := 0x20008
def EST_IDX_IDX : Fld := ⟨EST_IDX, 0, 13⟩

/-- `EST_W` (R63). -/
def EST_W (w : Nat) : Nat := 0x2000c + w * 4
def EST_W_W (w : Nat) : Fld := ⟨EST_W w, 0, 32⟩

/-- `EST_FIRE_CNT` (R63). -/
def EST_FIRE_CNT : Nat := 0x2001c
def EST_FIRE_CNT_COUNT : Fld := ⟨EST_FIRE_CNT, 0, 32⟩

/-- `EST_LATE_CNT` (R63). -/
def EST_LATE_CNT : Nat := 0x20020
def EST_LATE_CNT_COUNT : Fld := ⟨EST_LATE_CNT, 0, 32⟩

/-- `EST_SKIP_CNT` (R63). -/
def EST_SKIP_CNT : Nat := 0x20024
def EST_SKIP_CNT_COUNT : Fld := ⟨EST_SKIP_CNT, 0, 32⟩

/-- `EST_OVFL_CNT` (R63). -/
def EST_OVFL_CNT : Nat := 0x20028
def EST_OVFL_CNT_COUNT : Fld := ⟨EST_OVFL_CNT, 0, 32⟩

/-- `EST_FIRST_LATE` (R63). -/
def EST_FIRST_LATE : Nat := 0x2002c
def EST_FIRST_LATE_VALID : Fld := ⟨EST_FIRST_LATE, 31, 1⟩
def EST_FIRST_LATE_IDX : Fld := ⟨EST_FIRST_LATE, 0, 13⟩

/-- `EST_PIN_POL` (R63). -/
def EST_PIN_POL : Nat := 0x20030
def EST_PIN_POL_POL : Fld := ⟨EST_PIN_POL, 0, 32⟩

/-- `EST_PIN_LVL` (R63). -/
def EST_PIN_LVL : Nat := 0x20034
def EST_PIN_LVL_LVL : Fld := ⟨EST_PIN_LVL, 0, 32⟩

/-- `EST_OUT_LAT` (R63). -/
def EST_OUT_LAT : Nat := 0x20038
def EST_OUT_LAT_LAT : Fld := ⟨EST_OUT_LAT, 0, 32⟩

/-- `DSP_CFG` (R85). -/
def DSP_CFG : Nat := 0x30000
def DSP_CFG_SUB_EN : Fld := ⟨DSP_CFG, 2, 1⟩
def DSP_CFG_MIG_EN : Fld := ⟨DSP_CFG, 1, 1⟩
def DSP_CFG_EN : Fld := ⟨DSP_CFG, 0, 1⟩

/-- `DSP_STAT` (R85). -/
def DSP_STAT : Nat := 0x30004
def DSP_STAT_RUN : Fld := ⟨DSP_STAT, 7, 1⟩
def DSP_STAT_FLOW_BAD : Fld := ⟨DSP_STAT, 6, 1⟩
def DSP_STAT_XLATE : Fld := ⟨DSP_STAT, 5, 1⟩
def DSP_STAT_MIG_CLIP : Fld := ⟨DSP_STAT, 4, 1⟩
def DSP_STAT_SUB : Fld := ⟨DSP_STAT, 3, 1⟩
def DSP_STAT_BG_OVR : Fld := ⟨DSP_STAT, 2, 1⟩
def DSP_STAT_EVT_OVR : Fld := ⟨DSP_STAT, 1, 1⟩
def DSP_STAT_OVR : Fld := ⟨DSP_STAT, 0, 1⟩

/-- `DSP_CWIN` (R85). -/
def DSP_CWIN : Nat := 0x30008
def DSP_CWIN_OPEN : Fld := ⟨DSP_CWIN, 0, 17⟩

/-- `DSP_CLEN` (R85). -/
def DSP_CLEN : Nat := 0x3000c
def DSP_CLEN_LEN : Fld := ⟨DSP_CLEN, 0, 17⟩

/-- `DSP_MIG` (R85). -/
def DSP_MIG : Nat := 0x30010
def DSP_MIG_LAST : Fld := ⟨DSP_MIG, 16, 8⟩
def DSP_MIG_MAX : Fld := ⟨DSP_MIG, 0, 8⟩

/-- `DSP_MIG_CNT` (R85). -/
def DSP_MIG_CNT : Nat := 0x30014
def DSP_MIG_CNT_COUNT : Fld := ⟨DSP_MIG_CNT, 0, 32⟩

/-- `DSP_OVR_CNT` (R85). -/
def DSP_OVR_CNT : Nat := 0x30018
def DSP_OVR_CNT_COUNT : Fld := ⟨DSP_OVR_CNT, 0, 32⟩

/-- `DSP_OVR_FIRST` (R85). -/
def DSP_OVR_FIRST : Nat := 0x3001c
def DSP_OVR_FIRST_VALID : Fld := ⟨DSP_OVR_FIRST, 31, 1⟩
def DSP_OVR_FIRST_BCN : Fld := ⟨DSP_OVR_FIRST, 8, 6⟩
def DSP_OVR_FIRST_AXIS : Fld := ⟨DSP_OVR_FIRST, 0, 8⟩

/-- `DSP_SUB_CNT` (R85). -/
def DSP_SUB_CNT : Nat := 0x30020
def DSP_SUB_CNT_COUNT : Fld := ⟨DSP_SUB_CNT, 0, 32⟩

/-- `DSP_BG_POST` (R85). -/
def DSP_BG_POST : Nat := 0x30024
def DSP_BG_POST_POST : Fld := ⟨DSP_BG_POST, 0, 32⟩

/-- `DSP_BG_PEND` (R85). -/
def DSP_BG_PEND : Nat := 0x30028
def DSP_BG_PEND_PEND : Fld := ⟨DSP_BG_PEND, 0, 32⟩

/-- `DSP_OVR_MAP` (R85). -/
def DSP_OVR_MAP (n : Nat) : Nat := 0x30030 + n * 4
def DSP_OVR_MAP_MAP (n : Nat) : Fld := ⟨DSP_OVR_MAP n, 0, 32⟩

/-- `DSP_EVT_OVR` (R85). -/
def DSP_EVT_OVR (n : Nat) : Nat := 0x30050 + n * 4
def DSP_EVT_OVR_MAP (n : Nat) : Fld := ⟨DSP_EVT_OVR n, 0, 32⟩

/-- `DSP_BG_OVR` (R85). -/
def DSP_BG_OVR : Nat := 0x30058
def DSP_BG_OVR_MAP : Fld := ⟨DSP_BG_OVR, 0, 32⟩

/-- `DSP_USE` (R85). -/
def DSP_USE (p : Nat) : Nat := 0x30100 + p * 4
def DSP_USE_LAST (p : Nat) : Fld := ⟨DSP_USE p, 0, 17⟩

/-- `DSP_PEAK` (R85). -/
def DSP_PEAK (p : Nat) : Nat := 0x30140 + p * 4
def DSP_PEAK_PEAK (p : Nat) : Fld := ⟨DSP_PEAK p, 0, 17⟩

/-- `DSP_FLOW` (R85). -/
def DSP_FLOW (n : Nat) : Nat := 0x31000 + n * 4
def DSP_FLOW_EN (n : Nat) : Fld := ⟨DSP_FLOW n, 31, 1⟩
def DSP_FLOW_ORD (n : Nat) : Fld := ⟨DSP_FLOW n, 30, 1⟩
def DSP_FLOW_COUNT (n : Nat) : Fld := ⟨DSP_FLOW n, 16, 5⟩
def DSP_FLOW_FIRST (n : Nat) : Fld := ⟨DSP_FLOW n, 8, 8⟩
def DSP_FLOW_PIER (n : Nat) : Fld := ⟨DSP_FLOW n, 0, 4⟩

/-- `DSP_FMEM` (R85). -/
def DSP_FMEM (a : Nat) : Nat := 0x32000 + a * 4
def DSP_FMEM_IN (a : Nat) : Fld := ⟨DSP_FMEM a, 31, 1⟩
def DSP_FMEM_FLOW (a : Nat) : Fld := ⟨DSP_FMEM a, 8, 8⟩
def DSP_FMEM_NEXT (a : Nat) : Fld := ⟨DSP_FMEM a, 0, 8⟩

/-- `DSP_DL` (R85). -/
def DSP_DL (a : Nat) : Nat := 0x33000 + a * 4
def DSP_DL_DL (a : Nat) : Fld := ⟨DSP_DL a, 0, 18⟩

/-- `PIR_CTL` (R109). -/
def PIR_CTL (p : Nat) : Nat := 0x40000 + p * 4096
def PIR_CTL_RELOAD (p : Nat) : Fld := ⟨PIR_CTL p, 2, 1⟩
def PIR_CTL_OFFLINE (p : Nat) : Fld := ⟨PIR_CTL p, 1, 1⟩
def PIR_CTL_ONLINE (p : Nat) : Fld := ⟨PIR_CTL p, 0, 1⟩

/-- `PIR_STAT` (R109). -/
def PIR_STAT (p : Nat) : Nat := 0x40004 + p * 4096
def PIR_STAT_RESN (p : Nat) : Fld := ⟨PIR_STAT p, 16, 6⟩
def PIR_STAT_WDOG (p : Nat) : Fld := ⟨PIR_STAT p, 12, 1⟩
def PIR_STAT_PAR (p : Nat) : Fld := ⟨PIR_STAT p, 11, 1⟩
def PIR_STAT_DUE (p : Nat) : Fld := ⟨PIR_STAT p, 10, 1⟩
def PIR_STAT_IUE (p : Nat) : Fld := ⟨PIR_STAT p, 9, 1⟩
def PIR_STAT_CRC (p : Nat) : Fld := ⟨PIR_STAT p, 8, 1⟩
def PIR_STAT_STATE (p : Nat) : Fld := ⟨PIR_STAT p, 0, 3⟩

/-- `PIR_UC_VER` (R109). -/
def PIR_UC_VER (p : Nat) : Nat := 0x40008 + p * 4096
def PIR_UC_VER_MAJOR (p : Nat) : Fld := ⟨PIR_UC_VER p, 24, 8⟩
def PIR_UC_VER_MINOR (p : Nat) : Fld := ⟨PIR_UC_VER p, 16, 8⟩
def PIR_UC_VER_BUILD (p : Nat) : Fld := ⟨PIR_UC_VER p, 8, 8⟩
def PIR_UC_VER_SFV (p : Nat) : Fld := ⟨PIR_UC_VER p, 0, 8⟩

/-- `PIR_UC_CRC` (R109). -/
def PIR_UC_CRC (p : Nat) : Nat := 0x4000c + p * 4096
def PIR_UC_CRC_CRC (p : Nat) : Fld := ⟨PIR_UC_CRC p, 0, 32⟩

/-- `PIR_UC_CALC` (R109). -/
def PIR_UC_CALC (p : Nat) : Nat := 0x40010 + p * 4096
def PIR_UC_CALC_CRC (p : Nat) : Fld := ⟨PIR_UC_CALC p, 0, 32⟩

/-- `PIR_SCRUB` (R109). -/
def PIR_SCRUB (p : Nat) : Nat := 0x40014 + p * 4096
def PIR_SCRUB_PASS (p : Nat) : Fld := ⟨PIR_SCRUB p, 16, 16⟩
def PIR_SCRUB_POS (p : Nat) : Fld := ⟨PIR_SCRUB p, 0, 14⟩

/-- `PIR_ICE_CNT` (R109). -/
def PIR_ICE_CNT (p : Nat) : Nat := 0x40018 + p * 4096
def PIR_ICE_CNT_COUNT (p : Nat) : Fld := ⟨PIR_ICE_CNT p, 0, 32⟩

/-- `PIR_DCE_CNT` (R109). -/
def PIR_DCE_CNT (p : Nat) : Nat := 0x4001c + p * 4096
def PIR_DCE_CNT_COUNT (p : Nat) : Fld := ⟨PIR_DCE_CNT p, 0, 32⟩

/-- `PIR_UE_INFO` (R109). -/
def PIR_UE_INFO (p : Nat) : Nat := 0x40020 + p * 4096
def PIR_UE_INFO_VALID (p : Nat) : Fld := ⟨PIR_UE_INFO p, 31, 1⟩
def PIR_UE_INFO_MEM (p : Nat) : Fld := ⟨PIR_UE_INFO p, 28, 3⟩
def PIR_UE_INFO_WORD (p : Nat) : Fld := ⟨PIR_UE_INFO p, 0, 14⟩

/-- `PIR_FAULT_CNT` (R109). -/
def PIR_FAULT_CNT (p : Nat) : Nat := 0x40024 + p * 4096
def PIR_FAULT_CNT_COUNT (p : Nat) : Fld := ⟨PIR_FAULT_CNT p, 0, 32⟩

/-- `PIR_TASKS` (R109). -/
def PIR_TASKS (p : Nat) : Nat := 0x40028 + p * 4096
def PIR_TASKS_COUNT (p : Nat) : Fld := ⟨PIR_TASKS p, 0, 32⟩

/-- `PIR_REST_CNT` (R109). -/
def PIR_REST_CNT (p : Nat) : Nat := 0x4002c + p * 4096
def PIR_REST_CNT_COUNT (p : Nat) : Fld := ⟨PIR_REST_CNT p, 0, 32⟩

/-- `PIR_RES` (R109). -/
def PIR_RES (p i : Nat) : Nat := 0x40040 + p * 4096 + i * 4
def PIR_RES_AXES (p i : Nat) : Fld := ⟨PIR_RES p i, 0, 32⟩

/-- `AXT_W0` (R110). -/
def AXT_W0 (a : Nat) : Nat := 0x50000 + a * 16
def AXT_W0_EN (a : Nat) : Fld := ⟨AXT_W0 a, 31, 1⟩
def AXT_W0_CLASS (a : Nat) : Fld := ⟨AXT_W0 a, 28, 2⟩
def AXT_W0_LANE (a : Nat) : Fld := ⟨AXT_W0 a, 24, 4⟩
def AXT_W0_STN (a : Nat) : Fld := ⟨AXT_W0 a, 0, 16⟩

/-- `AXT_W1` (R110). -/
def AXT_W1 (a : Nat) : Nat := 0x50004 + a * 16
def AXT_W1_CMD_SLOT (a : Nat) : Fld := ⟨AXT_W1 a, 16, 9⟩
def AXT_W1_FB_SLOT (a : Nat) : Fld := ⟨AXT_W1 a, 0, 9⟩

/-- `AXT_W2` (R110). -/
def AXT_W2 (a : Nat) : Nat := 0x50008 + a * 16
def AXT_W2_HOME (a : Nat) : Fld := ⟨AXT_W2 a, 28, 4⟩
def AXT_W2_RES (a : Nat) : Fld := ⟨AXT_W2 a, 27, 1⟩
def AXT_W2_PIN (a : Nat) : Fld := ⟨AXT_W2 a, 26, 1⟩
def AXT_W2_STATE (a : Nat) : Fld := ⟨AXT_W2 a, 24, 2⟩
def AXT_W2_FCODE (a : Nat) : Fld := ⟨AXT_W2 a, 16, 8⟩
def AXT_W2_TASKS (a : Nat) : Fld := ⟨AXT_W2 a, 0, 16⟩

/-- `AXT_W3` (R110). -/
def AXT_W3 (a : Nat) : Nat := 0x5000c + a * 16

/-- `AXT_COUNT` (R110). -/
def AXT_COUNT : Nat := 0x51000
def AXT_COUNT_P : Fld := ⟨AXT_COUNT, 24, 8⟩
def AXT_COUNT_L : Fld := ⟨AXT_COUNT, 16, 8⟩
def AXT_COUNT_X : Fld := ⟨AXT_COUNT, 8, 8⟩
def AXT_COUNT_S : Fld := ⟨AXT_COUNT, 0, 8⟩

/-- `AXT_STAT` (R110). -/
def AXT_STAT : Nat := 0x51004
def AXT_STAT_PIER_BAD : Fld := ⟨AXT_STAT, 5, 1⟩
def AXT_STAT_LIVE_IGN : Fld := ⟨AXT_STAT, 4, 1⟩
def AXT_STAT_PIN_FAIL : Fld := ⟨AXT_STAT, 3, 1⟩
def AXT_STAT_SLOT_BAD : Fld := ⟨AXT_STAT, 2, 1⟩
def AXT_STAT_LANE_BAD : Fld := ⟨AXT_STAT, 1, 1⟩
def AXT_STAT_CAP_BAD : Fld := ⟨AXT_STAT, 0, 1⟩

/-- `AXT_FLT_MAP` (R110). -/
def AXT_FLT_MAP (n : Nat) : Nat := 0x51010 + n * 4
def AXT_FLT_MAP_MAP (n : Nat) : Fld := ⟨AXT_FLT_MAP n, 0, 32⟩

/-- `DCK_CFG` (R112). -/
def DCK_CFG : Nat := 0x80000
def DCK_CFG_SCRUB_EN : Fld := ⟨DCK_CFG, 0, 1⟩

/-- `DCK_PAGE` (R112). -/
def DCK_PAGE : Nat := 0x80004
def DCK_PAGE_PAGE : Fld := ⟨DCK_PAGE, 0, 3⟩

/-- `DCK_STAT` (R112). -/
def DCK_STAT : Nat := 0x80008
def DCK_STAT_WR_IGN : Fld := ⟨DCK_STAT, 3, 1⟩
def DCK_STAT_CAM_UE : Fld := ⟨DCK_STAT, 2, 1⟩
def DCK_STAT_UE : Fld := ⟨DCK_STAT, 1, 1⟩
def DCK_STAT_CE : Fld := ⟨DCK_STAT, 0, 1⟩

/-- `DCK_CE_CNT` (R112). -/
def DCK_CE_CNT : Nat := 0x8000c
def DCK_CE_CNT_COUNT : Fld := ⟨DCK_CE_CNT, 0, 32⟩

/-- `DCK_UE_CNT` (R112). -/
def DCK_UE_CNT : Nat := 0x80010
def DCK_UE_CNT_COUNT : Fld := ⟨DCK_UE_CNT, 0, 32⟩

/-- `DCK_UE_ADDR` (R112). -/
def DCK_UE_ADDR : Nat := 0x80014
def DCK_UE_ADDR_VALID : Fld := ⟨DCK_UE_ADDR, 31, 1⟩
def DCK_UE_ADDR_ADDR : Fld := ⟨DCK_UE_ADDR, 0, 21⟩

/-- `DCK_SCRUB` (R112). -/
def DCK_SCRUB : Nat := 0x80018
def DCK_SCRUB_PASS : Fld := ⟨DCK_SCRUB, 16, 16⟩

/-- `DCK_CAM_BAD` (R112). -/
def DCK_CAM_BAD : Nat := 0x8001c
def DCK_CAM_BAD_VALID : Fld := ⟨DCK_CAM_BAD, 31, 1⟩
def DCK_CAM_BAD_IDX : Fld := ⟨DCK_CAM_BAD, 0, 17⟩

/-- `PWM_CFG` (R214). -/
def PWM_CFG (m : Nat) : Nat := 0x100000 + m * 64
def PWM_CFG_MINP (m : Nat) : Fld := ⟨PWM_CFG m, 16, 8⟩
def PWM_CFG_SYNC_DIV (m : Nat) : Fld := ⟨PWM_CFG m, 8, 7⟩
def PWM_CFG_HOLD (m : Nat) : Fld := ⟨PWM_CFG m, 5, 1⟩
def PWM_CFG_SYNC_SRC (m : Nat) : Fld := ⟨PWM_CFG m, 3, 2⟩
def PWM_CFG_UPD (m : Nat) : Fld := ⟨PWM_CFG m, 2, 1⟩
def PWM_CFG_MODE (m : Nat) : Fld := ⟨PWM_CFG m, 1, 1⟩
def PWM_CFG_EN (m : Nat) : Fld := ⟨PWM_CFG m, 0, 1⟩

/-- `PWM_PER` (R214). -/
def PWM_PER (m : Nat) : Nat := 0x100004 + m * 64
def PWM_PER_PER (m : Nat) : Fld := ⟨PWM_PER m, 0, 18⟩

/-- `PWM_PHASE` (R214). -/
def PWM_PHASE (m : Nat) : Nat := 0x100008 + m * 64
def PWM_PHASE_PHASE (m : Nat) : Fld := ⟨PWM_PHASE m, 0, 18⟩

/-- `PWM_DT` (R214). -/
def PWM_DT (m : Nat) : Nat := 0x10000c + m * 64
def PWM_DT_DT (m : Nat) : Fld := ⟨PWM_DT m, 0, 10⟩

/-- `PWM_BS` (R214). -/
def PWM_BS (m : Nat) : Nat := 0x100010 + m * 64
def PWM_BS_BS_CNT (m : Nat) : Fld := ⟨PWM_BS m, 16, 8⟩
def PWM_BS_BS_W (m : Nat) : Fld := ⟨PWM_BS m, 0, 16⟩

/-- `PWM_CMP` (R214). -/
def PWM_CMP (m p : Nat) : Nat := 0x100014 + m * 64 + p * 4
def PWM_CMP_WI (m p : Nat) : Fld := ⟨PWM_CMP m p, 4, 18⟩
def PWM_CMP_FRAC (m p : Nat) : Fld := ⟨PWM_CMP m p, 0, 4⟩

/-- `PWM_FST` (R214). -/
def PWM_FST (m : Nat) : Nat := 0x100024 + m * 64
def PWM_FST_FST (m : Nat) : Fld := ⟨PWM_FST m, 0, 8⟩

/-- `PWM_POL` (R214). -/
def PWM_POL (m : Nat) : Nat := 0x100028 + m * 64
def PWM_POL_POL (m : Nat) : Fld := ⟨PWM_POL m, 0, 8⟩

/-- `PWM_STAT` (R214). -/
def PWM_STAT (m : Nat) : Nat := 0x10002c + m * 64
def PWM_STAT_DPH (m : Nat) : Fld := ⟨PWM_STAT m, 16, 4⟩
def PWM_STAT_LANE (m : Nat) : Fld := ⟨PWM_STAT m, 8, 4⟩
def PWM_STAT_FORCED (m : Nat) : Fld := ⟨PWM_STAT m, 6, 1⟩
def PWM_STAT_WR_IGN (m : Nat) : Fld := ⟨PWM_STAT m, 5, 1⟩
def PWM_STAT_CFG_BAD (m : Nat) : Fld := ⟨PWM_STAT m, 4, 1⟩
def PWM_STAT_SYNC_ERR (m : Nat) : Fld := ⟨PWM_STAT m, 3, 1⟩
def PWM_STAT_BS (m : Nat) : Fld := ⟨PWM_STAT m, 2, 1⟩
def PWM_STAT_ERODE (m : Nat) : Fld := ⟨PWM_STAT m, 1, 1⟩
def PWM_STAT_LATE (m : Nat) : Fld := ⟨PWM_STAT m, 0, 1⟩

/-- `PWM_CNT` (R214). -/
def PWM_CNT (m : Nat) : Nat := 0x100030 + m * 64
def PWM_CNT_N (m : Nat) : Fld := ⟨PWM_CNT m, 0, 18⟩

/-- `PWM_FLT_MAP` (R214). -/
def PWM_FLT_MAP (i : Nat) : Nat := 0x100400 + i * 4
def PWM_FLT_MAP_POL (i : Nat) : Fld := ⟨PWM_FLT_MAP i, 16, 1⟩
def PWM_FLT_MAP_MODS (i : Nat) : Fld := ⟨PWM_FLT_MAP i, 0, 12⟩

/-- `PWM_FLT_STAT` (R214). -/
def PWM_FLT_STAT : Nat := 0x100420
def PWM_FLT_STAT_KST : Fld := ⟨PWM_FLT_STAT, 24, 1⟩
def PWM_FLT_STAT_TRIP_ACTIVE : Fld := ⟨PWM_FLT_STAT, 16, 8⟩
def PWM_FLT_STAT_LVL : Fld := ⟨PWM_FLT_STAT, 8, 8⟩
def PWM_FLT_STAT_LATCH : Fld := ⟨PWM_FLT_STAT, 0, 8⟩

/-- `PWM_FLT_CLR` (R214). -/
def PWM_FLT_CLR : Nat := 0x100424
def PWM_FLT_CLR_CLR : Fld := ⟨PWM_FLT_CLR, 0, 8⟩

/-- `PWM_FLT_REARM` (R214). -/
def PWM_FLT_REARM : Nat := 0x100428
def PWM_FLT_REARM_REARM : Fld := ⟨PWM_FLT_REARM, 0, 20⟩

/-- `PWM_FORCE` (R214). -/
def PWM_FORCE : Nat := 0x10042c
def PWM_FORCE_MODS : Fld := ⟨PWM_FORCE, 0, 12⟩

/-- `PWM_FLT_FIRST` (R214). -/
def PWM_FLT_FIRST : Nat := 0x100430
def PWM_FLT_FIRST_VALID : Fld := ⟨PWM_FLT_FIRST, 31, 1⟩
def PWM_FLT_FIRST_IDX : Fld := ⟨PWM_FLT_FIRST, 0, 4⟩

/-- `PWM_FLT_CNT` (R214). -/
def PWM_FLT_CNT : Nat := 0x100434
def PWM_FLT_CNT_COUNT : Fld := ⟨PWM_FLT_CNT, 0, 32⟩

/-- `CLN_CFG` (R215). -/
def CLN_CFG (l : Nat) : Nat := 0x110000 + l * 256
def CLN_CFG_DUAL (l : Nat) : Fld := ⟨CLN_CFG l, 3, 1⟩
def CLN_CFG_MODE (l : Nat) : Fld := ⟨CLN_CFG l, 1, 2⟩
def CLN_CFG_EN (l : Nat) : Fld := ⟨CLN_CFG l, 0, 1⟩

/-- `CLN_PAIRS` (R215). -/
def CLN_PAIRS (l : Nat) : Nat := 0x110004 + l * 256
def CLN_PAIRS_B2 (l : Nat) : Fld := ⟨CLN_PAIRS l, 24, 6⟩
def CLN_PAIRS_W_B1 (l : Nat) : Fld := ⟨CLN_PAIRS l, 16, 6⟩
def CLN_PAIRS_V_A2 (l : Nat) : Fld := ⟨CLN_PAIRS l, 8, 6⟩
def CLN_PAIRS_U_A1 (l : Nat) : Fld := ⟨CLN_PAIRS l, 0, 6⟩

/-- `CLN_SRC` (R215). -/
def CLN_SRC (l : Nat) : Nat := 0x110008 + l * 256
def CLN_SRC_ENC_EN (l : Nat) : Fld := ⟨CLN_SRC l, 24, 1⟩
def CLN_SRC_ENC (l : Nat) : Fld := ⟨CLN_SRC l, 20, 4⟩
def CLN_SRC_UDC_SRC (l : Nat) : Fld := ⟨CLN_SRC l, 16, 2⟩
def CLN_SRC_UDC_CH (l : Nat) : Fld := ⟨CLN_SRC l, 8, 6⟩
def CLN_SRC_SDM_A (l : Nat) : Fld := ⟨CLN_SRC l, 0, 6⟩

/-- `CLN_STAT` (R215). -/
def CLN_STAT (l : Nat) : Nat := 0x11000c + l * 256
def CLN_STAT_RUN (l : Nat) : Fld := ⟨CLN_STAT l, 7, 1⟩
def CLN_STAT_ENA_BAD (l : Nat) : Fld := ⟨CLN_STAT l, 5, 1⟩
def CLN_STAT_OFF (l : Nat) : Fld := ⟨CLN_STAT l, 4, 1⟩
def CLN_STAT_SRC_ERR (l : Nat) : Fld := ⟨CLN_STAT l, 3, 1⟩
def CLN_STAT_ICLIP (l : Nat) : Fld := ⟨CLN_STAT l, 2, 1⟩
def CLN_STAT_UCLIP (l : Nat) : Fld := ⟨CLN_STAT l, 1, 1⟩
def CLN_STAT_OC (l : Nat) : Fld := ⟨CLN_STAT l, 0, 1⟩

/-- `CLN_KPD` (R215). -/
def CLN_KPD (l : Nat) : Nat := 0x110010 + l * 256
def CLN_KPD_V (l : Nat) : Fld := ⟨CLN_KPD l, 0, 32⟩

/-- `CLN_KID` (R215). -/
def CLN_KID (l : Nat) : Nat := 0x110014 + l * 256
def CLN_KID_V (l : Nat) : Fld := ⟨CLN_KID l, 0, 32⟩

/-- `CLN_KPQ` (R215). -/
def CLN_KPQ (l : Nat) : Nat := 0x110018 + l * 256
def CLN_KPQ_V (l : Nat) : Fld := ⟨CLN_KPQ l, 0, 32⟩

/-- `CLN_KIQ` (R215). -/
def CLN_KIQ (l : Nat) : Nat := 0x11001c + l * 256
def CLN_KIQ_V (l : Nat) : Fld := ⟨CLN_KIQ l, 0, 32⟩

/-- `CLN_LD` (R215). -/
def CLN_LD (l : Nat) : Nat := 0x110020 + l * 256
def CLN_LD_V (l : Nat) : Fld := ⟨CLN_LD l, 0, 32⟩

/-- `CLN_LQ` (R215). -/
def CLN_LQ (l : Nat) : Nat := 0x110024 + l * 256
def CLN_LQ_V (l : Nat) : Fld := ⟨CLN_LQ l, 0, 32⟩

/-- `CLN_ID_REF` (R215). -/
def CLN_ID_REF (l : Nat) : Nat := 0x110028 + l * 256
def CLN_ID_REF_V (l : Nat) : Fld := ⟨CLN_ID_REF l, 0, 32⟩

/-- `CLN_UMOD` (R215). -/
def CLN_UMOD (l : Nat) : Nat := 0x11002c + l * 256
def CLN_UMOD_V (l : Nat) : Fld := ⟨CLN_UMOD l, 0, 32⟩

/-- `CLN_ADV` (R215). -/
def CLN_ADV (l : Nat) : Nat := 0x110030 + l * 256
def CLN_ADV_V (l : Nat) : Fld := ⟨CLN_ADV l, 0, 32⟩

/-- `CLN_ISCALE` (R215). -/
def CLN_ISCALE (l : Nat) : Nat := 0x110034 + l * 256
def CLN_ISCALE_V (l : Nat) : Fld := ⟨CLN_ISCALE l, 0, 32⟩

/-- `CLN_I_TRIP` (R215). -/
def CLN_I_TRIP (l : Nat) : Nat := 0x110038 + l * 256
def CLN_I_TRIP_V (l : Nat) : Fld := ⟨CLN_I_TRIP l, 0, 32⟩

/-- `CLN_UDC` (R215). -/
def CLN_UDC (l : Nat) : Nat := 0x11003c + l * 256
def CLN_UDC_V (l : Nat) : Fld := ⟨CLN_UDC l, 0, 32⟩

/-- `CLN_EL_SCALE` (R215). -/
def CLN_EL_SCALE (l : Nat) : Nat := 0x110040 + l * 256
def CLN_EL_SCALE_V (l : Nat) : Fld := ⟨CLN_EL_SCALE l, 0, 32⟩

/-- `CLN_EL_OFF` (R215). -/
def CLN_EL_OFF (l : Nat) : Nat := 0x110044 + l * 256
def CLN_EL_OFF_V (l : Nat) : Fld := ⟨CLN_EL_OFF l, 0, 32⟩

/-- `CLN_R_PH` (R215). -/
def CLN_R_PH (l : Nat) : Nat := 0x110048 + l * 256
def CLN_R_PH_V (l : Nat) : Fld := ⟨CLN_R_PH l, 0, 32⟩

/-- `CLN_I_BASE` (R215). -/
def CLN_I_BASE (l : Nat) : Nat := 0x11004c + l * 256
def CLN_I_BASE_V (l : Nat) : Fld := ⟨CLN_I_BASE l, 0, 32⟩

/-- `CLN_I_CEIL` (R215). -/
def CLN_I_CEIL (l : Nat) : Nat := 0x110050 + l * 256
def CLN_I_CEIL_V (l : Nat) : Fld := ⟨CLN_I_CEIL l, 0, 32⟩

/-- `CLN_K_LOAD` (R215). -/
def CLN_K_LOAD (l : Nat) : Nat := 0x110054 + l * 256
def CLN_K_LOAD_V (l : Nat) : Fld := ⟨CLN_K_LOAD l, 0, 32⟩

/-- `CLN_I_IDLE` (R215). -/
def CLN_I_IDLE (l : Nat) : Nat := 0x110058 + l * 256
def CLN_I_IDLE_V (l : Nat) : Fld := ⟨CLN_I_IDLE l, 0, 32⟩

/-- `CLN_IDLE_T` (R215). -/
def CLN_IDLE_T (l : Nat) : Nat := 0x11005c + l * 256
def CLN_IDLE_T_V (l : Nat) : Fld := ⟨CLN_IDLE_T l, 0, 32⟩

/-- `CLN_ID` (R215). -/
def CLN_ID (l : Nat) : Nat := 0x110080 + l * 256
def CLN_ID_V (l : Nat) : Fld := ⟨CLN_ID l, 0, 32⟩

/-- `CLN_IQ` (R215). -/
def CLN_IQ (l : Nat) : Nat := 0x110084 + l * 256
def CLN_IQ_V (l : Nat) : Fld := ⟨CLN_IQ l, 0, 32⟩

/-- `CLN_UD` (R215). -/
def CLN_UD (l : Nat) : Nat := 0x110088 + l * 256
def CLN_UD_V (l : Nat) : Fld := ⟨CLN_UD l, 0, 32⟩

/-- `CLN_UQ` (R215). -/
def CLN_UQ (l : Nat) : Nat := 0x11008c + l * 256
def CLN_UQ_V (l : Nat) : Fld := ⟨CLN_UQ l, 0, 32⟩

/-- `CLN_I_SET` (R215). -/
def CLN_I_SET (l : Nat) : Nat := 0x110090 + l * 256
def CLN_I_SET_V (l : Nat) : Fld := ⟨CLN_I_SET l, 0, 32⟩

/-- `CLN_THETA` (R215). -/
def CLN_THETA (l : Nat) : Nat := 0x110094 + l * 256
def CLN_THETA_V (l : Nat) : Fld := ⟨CLN_THETA l, 0, 32⟩

/-- `CLN_IQ_REF` (R215). -/
def CLN_IQ_REF (l : Nat) : Nat := 0x110098 + l * 256
def CLN_IQ_REF_V (l : Nat) : Fld := ⟨CLN_IQ_REF l, 0, 32⟩

/-- `STP_CFG` (R216). -/
def STP_CFG (c : Nat) : Nat := 0x120000 + c * 64
def STP_CFG_AXIS (c : Nat) : Fld := ⟨STP_CFG c, 8, 8⟩
def STP_CFG_STEP_POL (c : Nat) : Fld := ⟨STP_CFG c, 3, 1⟩
def STP_CFG_DIR_INV (c : Nat) : Fld := ⟨STP_CFG c, 2, 1⟩
def STP_CFG_SRC (c : Nat) : Fld := ⟨STP_CFG c, 1, 1⟩
def STP_CFG_EN (c : Nat) : Fld := ⟨STP_CFG c, 0, 1⟩

/-- `STP_NUM` (R216). -/
def STP_NUM (c : Nat) : Nat := 0x120004 + c * 64
def STP_NUM_NUM (c : Nat) : Fld := ⟨STP_NUM c, 0, 32⟩

/-- `STP_DEN` (R216). -/
def STP_DEN (c : Nat) : Nat := 0x120008 + c * 64
def STP_DEN_DEN (c : Nat) : Fld := ⟨STP_DEN c, 0, 32⟩

/-- `STP_TIM` (R216). -/
def STP_TIM (c : Nat) : Nat := 0x12000c + c * 64
def STP_TIM_DSETUP (c : Nat) : Fld := ⟨STP_TIM c, 24, 8⟩
def STP_TIM_WIDTH (c : Nat) : Fld := ⟨STP_TIM c, 16, 8⟩
def STP_TIM_MINPER (c : Nat) : Fld := ⟨STP_TIM c, 0, 16⟩

/-- `STP_LAGMAX` (R216). -/
def STP_LAGMAX (c : Nat) : Nat := 0x120010 + c * 64
def STP_LAGMAX_LAGMAX (c : Nat) : Fld := ⟨STP_LAGMAX c, 0, 32⟩

/-- `STP_POS` (R216). -/
def STP_POS (c : Nat) : Nat := 0x120014 + c * 64
def STP_POS_E (c : Nat) : Fld := ⟨STP_POS c, 0, 32⟩

/-- `STP_LAG` (R216). -/
def STP_LAG (c : Nat) : Nat := 0x120018 + c * 64
def STP_LAG_LAG (c : Nat) : Fld := ⟨STP_LAG c, 0, 32⟩

/-- `STP_STAT` (R216). -/
def STP_STAT (c : Nat) : Nat := 0x12001c + c * 64
def STP_STAT_RUN (c : Nat) : Fld := ⟨STP_STAT c, 2, 1⟩
def STP_STAT_LAG (c : Nat) : Fld := ⟨STP_STAT c, 1, 1⟩
def STP_STAT_CLIP (c : Nat) : Fld := ⟨STP_STAT c, 0, 1⟩

/-- `ENC_CFG` (R217). -/
def ENC_CFG (e : Nat) : Nat := 0x130000 + e * 64
def ENC_CFG_SHIFT (e : Nat) : Fld := ⟨ENC_CFG e, 22, 5⟩
def ENC_CFG_LEN (e : Nat) : Fld := ⟨ENC_CFG e, 16, 6⟩
def ENC_CFG_GRAY (e : Nat) : Fld := ⟨ENC_CFG e, 13, 1⟩
def ENC_CFG_FILT (e : Nat) : Fld := ⟨ENC_CFG e, 4, 8⟩
def ENC_CFG_INV (e : Nat) : Fld := ⟨ENC_CFG e, 3, 1⟩
def ENC_CFG_MODE (e : Nat) : Fld := ⟨ENC_CFG e, 1, 2⟩
def ENC_CFG_EN (e : Nat) : Fld := ⟨ENC_CFG e, 0, 1⟩

/-- `ENC_CPER` (R217). -/
def ENC_CPER (e : Nat) : Nat := 0x130004 + e * 64
def ENC_CPER_CPER (e : Nat) : Fld := ⟨ENC_CPER e, 0, 13⟩

/-- `ENC_SPER` (R217). -/
def ENC_SPER (e : Nat) : Nat := 0x130008 + e * 64
def ENC_SPER_SPER (e : Nat) : Fld := ⟨ENC_SPER e, 0, 18⟩

/-- `ENC_LEAD` (R217). -/
def ENC_LEAD (e : Nat) : Nat := 0x13000c + e * 64
def ENC_LEAD_LEAD (e : Nat) : Fld := ⟨ENC_LEAD e, 0, 18⟩

/-- `ENC_POS` (R217). -/
def ENC_POS (e : Nat) : Nat := 0x130010 + e * 64
def ENC_POS_POS (e : Nat) : Fld := ⟨ENC_POS e, 0, 32⟩

/-- `ENC_LPOS` (R217). -/
def ENC_LPOS (e : Nat) : Nat := 0x130014 + e * 64
def ENC_LPOS_LPOS (e : Nat) : Fld := ⟨ENC_LPOS e, 0, 32⟩

/-- `ENC_STAT` (R217). -/
def ENC_STAT (e : Nat) : Nat := 0x130018 + e * 64
def ENC_STAT_AUX (e : Nat) : Fld := ⟨ENC_STAT e, 8, 3⟩
def ENC_STAT_CFG_BAD (e : Nat) : Fld := ⟨ENC_STAT e, 5, 1⟩
def ENC_STAT_LVAL (e : Nat) : Fld := ⟨ENC_STAT e, 4, 1⟩
def ENC_STAT_LATE (e : Nat) : Fld := ⟨ENC_STAT e, 3, 1⟩
def ENC_STAT_WARN (e : Nat) : Fld := ⟨ENC_STAT e, 2, 1⟩
def ENC_STAT_ERR_SER (e : Nat) : Fld := ⟨ENC_STAT e, 1, 1⟩
def ENC_STAT_ERR_AB (e : Nat) : Fld := ⟨ENC_STAT e, 0, 1⟩

/-- `ENC_ERRCNT` (R217). -/
def ENC_ERRCNT (e : Nat) : Nat := 0x13001c + e * 64
def ENC_ERRCNT_COUNT (e : Nat) : Fld := ⟨ENC_ERRCNT e, 0, 32⟩

/-- `ENC_DLY` (R217). -/
def ENC_DLY (e : Nat) : Nat := 0x130020 + e * 64
def ENC_DLY_DLY (e : Nat) : Fld := ⟨ENC_DLY e, 0, 16⟩

/-- `SDM_CLK` (R218). -/
def SDM_CLK (g : Nat) : Nat := 0x140000 + g * 4
def SDM_CLK_EN (g : Nat) : Fld := ⟨SDM_CLK g, 12, 1⟩
def SDM_CLK_SAMP_DLY (g : Nat) : Fld := ⟨SDM_CLK g, 9, 3⟩
def SDM_CLK_MODE (g : Nat) : Fld := ⟨SDM_CLK g, 8, 1⟩
def SDM_CLK_DIV (g : Nat) : Fld := ⟨SDM_CLK g, 0, 8⟩

/-- `SDM_CFG` (R218). -/
def SDM_CFG (c : Nat) : Nat := 0x140100 + c * 16
def SDM_CFG_OSR (c : Nat) : Fld := ⟨SDM_CFG c, 8, 9⟩
def SDM_CFG_ALIGN_EN (c : Nat) : Fld := ⟨SDM_CFG c, 5, 1⟩
def SDM_CFG_ALIGN (c : Nat) : Fld := ⟨SDM_CFG c, 1, 4⟩
def SDM_CFG_EN (c : Nat) : Fld := ⟨SDM_CFG c, 0, 1⟩

/-- `SDM_DATA` (R218). -/
def SDM_DATA (c : Nat) : Nat := 0x140104 + c * 16
def SDM_DATA_DATA (c : Nat) : Fld := ⟨SDM_DATA c, 0, 32⟩

/-- `SDM_STAT` (R218). -/
def SDM_STAT (c : Nat) : Nat := 0x140108 + c * 16
def SDM_STAT_CLK_LOSS (c : Nat) : Fld := ⟨SDM_STAT c, 1, 1⟩
def SDM_STAT_STUCK (c : Nat) : Fld := ⟨SDM_STAT c, 0, 1⟩

/-- `ADC_CFG` (R306). -/
def ADC_CFG : Nat := 0x150000
def ADC_CFG_EN : Fld := ⟨ADC_CFG, 0, 1⟩

/-- `ADC_SEQ0` (R306). -/
def ADC_SEQ0 : Nat := 0x150004
def ADC_SEQ0_SLOTS : Fld := ⟨ADC_SEQ0, 0, 32⟩

/-- `ADC_SEQ1` (R306). -/
def ADC_SEQ1 : Nat := 0x150008
def ADC_SEQ1_SLOTS : Fld := ⟨ADC_SEQ1, 0, 32⟩

/-- `ADC_STAT` (R306). -/
def ADC_STAT : Nat := 0x150010
def ADC_STAT_SLOT : Fld := ⟨ADC_STAT, 1, 4⟩
def ADC_STAT_RUN : Fld := ⟨ADC_STAT, 0, 1⟩

/-- `ADC_DATA` (R306). -/
def ADC_DATA (c : Nat) : Nat := 0x150020 + c * 4
def ADC_DATA_CNT (c : Nat) : Fld := ⟨ADC_DATA c, 16, 16⟩
def ADC_DATA_CODE (c : Nat) : Fld := ⟨ADC_DATA c, 0, 16⟩

/-- `ZLP_CFG` (R248). -/
def ZLP_CFG : Nat := 0x180000
def ZLP_CFG_HID : Fld := ⟨ZLP_CFG, 24, 8⟩
def ZLP_CFG_SPAN : Fld := ⟨ZLP_CFG, 16, 8⟩
def ZLP_CFG_TSPD : Fld := ⟨ZLP_CFG, 9, 1⟩
def ZLP_CFG_SPD : Fld := ⟨ZLP_CFG, 8, 1⟩
def ZLP_CFG_BMODE : Fld := ⟨ZLP_CFG, 4, 1⟩
def ZLP_CFG_RATE : Fld := ⟨ZLP_CFG, 0, 2⟩

/-- `ZLP_STAT` (R248). -/
def ZLP_STAT : Nat := 0x180004
def ZLP_STAT_XMEAS : Fld := ⟨ZLP_STAT, 5, 1⟩
def ZLP_STAT_PAR_BAD : Fld := ⟨ZLP_STAT, 4, 1⟩
def ZLP_STAT_CAP_BAD : Fld := ⟨ZLP_STAT, 3, 1⟩
def ZLP_STAT_TIM_BAD : Fld := ⟨ZLP_STAT, 2, 1⟩
def ZLP_STAT_XOFF : Fld := ⟨ZLP_STAT, 1, 1⟩
def ZLP_STAT_RUN : Fld := ⟨ZLP_STAT, 0, 1⟩

/-- `ZLP_GUARD` (R248). -/
def ZLP_GUARD : Nat := 0x180008
def ZLP_GUARD_GUARD : Fld := ⟨ZLP_GUARD, 0, 11⟩

/-- `ZLP_BUDGET` (R248). -/
def ZLP_BUDGET : Nat := 0x18000c
def ZLP_BUDGET_BUDGET : Fld := ⟨ZLP_BUDGET, 0, 18⟩

/-- `ZLP_LOOP` (R248). -/
def ZLP_LOOP (r : Nat) : Nat := 0x180010 + r * 4
def ZLP_LOOP_LOOP (r : Nat) : Fld := ⟨ZLP_LOOP r, 0, 18⟩

/-- `ZLP_XLOOP` (R248). -/
def ZLP_XLOOP : Nat := 0x180020
def ZLP_XLOOP_TS : Fld := ⟨ZLP_XLOOP, 16, 16⟩
def ZLP_XLOOP_TC : Fld := ⟨ZLP_XLOOP, 0, 16⟩

/-- `ZLP_FAULT` (R248). -/
def ZLP_FAULT : Nat := 0x180024
def ZLP_FAULT_WIN : Fld := ⟨ZLP_FAULT, 16, 6⟩
def ZLP_FAULT_BCN : Fld := ⟨ZLP_FAULT, 8, 6⟩
def ZLP_FAULT_CODE : Fld := ⟨ZLP_FAULT, 0, 8⟩

/-- `ZLP_CYMGEN` (R248). -/
def ZLP_CYMGEN : Nat := 0x180028
def ZLP_CYMGEN_GEN : Fld := ⟨ZLP_CYMGEN, 0, 16⟩

/-- `ZLP_SCFG` (R277). -/
def ZLP_SCFG : Nat := 0x180040
def ZLP_SCFG_RUN_EN : Fld := ⟨ZLP_SCFG, 14, 1⟩
def ZLP_SCFG_RUNWIN : Fld := ⟨ZLP_SCFG, 8, 6⟩
def ZLP_SCFG_DEGR : Fld := ⟨ZLP_SCFG, 4, 1⟩
def ZLP_SCFG_ROLE : Fld := ⟨ZLP_SCFG, 0, 2⟩

/-- `ZLP_SSTAT` (R277). -/
def ZLP_SSTAT : Nat := 0x180044
def ZLP_SSTAT_NST : Fld := ⟨ZLP_SSTAT, 16, 8⟩
def ZLP_SSTAT_COLL : Fld := ⟨ZLP_SSTAT, 6, 1⟩
def ZLP_SSTAT_NOJOIN : Fld := ⟨ZLP_SSTAT, 5, 1⟩
def ZLP_SSTAT_HEARD : Fld := ⟨ZLP_SSTAT, 4, 1⟩
def ZLP_SSTAT_STATE : Fld := ⟨ZLP_SSTAT, 0, 3⟩

/-- `ZLP_RSTAT` (R277). -/
def ZLP_RSTAT : Nat := 0x180048
def ZLP_RSTAT_B : Fld := ⟨ZLP_RSTAT, 8, 4⟩
def ZLP_RSTAT_A : Fld := ⟨ZLP_RSTAT, 0, 4⟩

/-- `ZLP_BRK` (R277). -/
def ZLP_BRK : Nat := 0x18004c
def ZLP_BRK_B_X1 : Fld := ⟨ZLP_BRK, 24, 8⟩
def ZLP_BRK_B_X0 : Fld := ⟨ZLP_BRK, 16, 8⟩
def ZLP_BRK_A_X1 : Fld := ⟨ZLP_BRK, 8, 8⟩
def ZLP_BRK_A_X0 : Fld := ⟨ZLP_BRK, 0, 8⟩

/-- `ZLP_TCFG` (R277). -/
def ZLP_TCFG : Nat := 0x180050
def ZLP_TCFG_CSRC : Fld := ⟨ZLP_TCFG, 2, 1⟩
def ZLP_TCFG_TMASTER : Fld := ⟨ZLP_TCFG, 1, 1⟩
def ZLP_TCFG_EN : Fld := ⟨ZLP_TCFG, 0, 1⟩

/-- `ZLP_TSTAT` (R277). -/
def ZLP_TSTAT : Nat := 0x180054
def ZLP_TSTAT_NHEADS : Fld := ⟨ZLP_TSTAT, 8, 8⟩
def ZLP_TSTAT_DUP : Fld := ⟨ZLP_TSTAT, 2, 1⟩
def ZLP_TSTAT_TLOST : Fld := ⟨ZLP_TSTAT, 1, 1⟩
def ZLP_TSTAT_TRUN : Fld := ⟨ZLP_TSTAT, 0, 1⟩

/-- `ZLP_TOFF` (R277). -/
def ZLP_TOFF : Nat := 0x180058
def ZLP_TOFF_OFF : Fld := ⟨ZLP_TOFF, 0, 32⟩

/-- `ZLP_TDLV` (R277). -/
def ZLP_TDLV : Nat := 0x18005c
def ZLP_TDLV_DLV : Fld := ⟨ZLP_TDLV, 0, 18⟩

/-- `ZLP_WV_CNT` (R277). -/
def ZLP_WV_CNT : Nat := 0x180060
def ZLP_WV_CNT_COUNT : Fld := ⟨ZLP_WV_CNT, 0, 32⟩

/-- `ZLP_DRIFT_CNT` (R277). -/
def ZLP_DRIFT_CNT : Nat := 0x180064
def ZLP_DRIFT_CNT_COUNT : Fld := ⟨ZLP_DRIFT_CNT, 0, 32⟩

/-- `ZLP_BRK_CNT` (R277). -/
def ZLP_BRK_CNT : Nat := 0x180068
def ZLP_BRK_CNT_COUNT : Fld := ⟨ZLP_BRK_CNT, 0, 32⟩

/-- `ZLP_JOIN_CNT` (R277). -/
def ZLP_JOIN_CNT : Nat := 0x18006c
def ZLP_JOIN_CNT_BAD : Fld := ⟨ZLP_JOIN_CNT, 16, 16⟩
def ZLP_JOIN_CNT_OK : Fld := ⟨ZLP_JOIN_CNT, 0, 16⟩

/-- `ZLP_P_CFG` (R249). -/
def ZLP_P_CFG (p : Nat) : Nat := 0x180100 + p * 64
def ZLP_P_CFG_DDM_EN (p : Nat) : Fld := ⟨ZLP_P_CFG p, 8, 1⟩
def ZLP_P_CFG_SWING (p : Nat) : Fld := ⟨ZLP_P_CFG p, 6, 2⟩
def ZLP_P_CFG_PRE (p : Nat) : Fld := ⟨ZLP_P_CFG p, 4, 2⟩
def ZLP_P_CFG_TXDIS (p : Nat) : Fld := ⟨ZLP_P_CFG p, 3, 1⟩
def ZLP_P_CFG_SFP (p : Nat) : Fld := ⟨ZLP_P_CFG p, 1, 1⟩
def ZLP_P_CFG_EN (p : Nat) : Fld := ⟨ZLP_P_CFG p, 0, 1⟩

/-- `ZLP_P_STAT` (R249). -/
def ZLP_P_STAT (p : Nat) : Nat := 0x180104 + p * 64
def ZLP_P_STAT_LONG (p : Nat) : Fld := ⟨ZLP_P_STAT p, 8, 1⟩
def ZLP_P_STAT_BADTYPE (p : Nat) : Fld := ⟨ZLP_P_STAT p, 7, 1⟩
def ZLP_P_STAT_FCS_ERR (p : Nat) : Fld := ⟨ZLP_P_STAT p, 6, 1⟩
def ZLP_P_STAT_HCRC_ERR (p : Nat) : Fld := ⟨ZLP_P_STAT p, 5, 1⟩
def ZLP_P_STAT_EJ_ERR (p : Nat) : Fld := ⟨ZLP_P_STAT p, 4, 1⟩
def ZLP_P_STAT_TXFAULT (p : Nat) : Fld := ⟨ZLP_P_STAT p, 3, 1⟩
def ZLP_P_STAT_MODABS (p : Nat) : Fld := ⟨ZLP_P_STAT p, 2, 1⟩
def ZLP_P_STAT_LOS (p : Nat) : Fld := ⟨ZLP_P_STAT p, 1, 1⟩
def ZLP_P_STAT_LINK (p : Nat) : Fld := ⟨ZLP_P_STAT p, 0, 1⟩

/-- `ZLP_P_RXCNT` (R249). -/
def ZLP_P_RXCNT (p : Nat) : Nat := 0x180108 + p * 64
def ZLP_P_RXCNT_COUNT (p : Nat) : Fld := ⟨ZLP_P_RXCNT p, 0, 32⟩

/-- `ZLP_P_FCSCNT` (R249). -/
def ZLP_P_FCSCNT (p : Nat) : Nat := 0x18010c + p * 64
def ZLP_P_FCSCNT_COUNT (p : Nat) : Fld := ⟨ZLP_P_FCSCNT p, 0, 32⟩

/-- `ZLP_P_HCRCCNT` (R249). -/
def ZLP_P_HCRCCNT (p : Nat) : Nat := 0x180110 + p * 64
def ZLP_P_HCRCCNT_COUNT (p : Nat) : Fld := ⟨ZLP_P_HCRCCNT p, 0, 32⟩

/-- `ZLP_P_EJCNT` (R249). -/
def ZLP_P_EJCNT (p : Nat) : Nat := 0x180114 + p * 64
def ZLP_P_EJCNT_COUNT (p : Nat) : Fld := ⟨ZLP_P_EJCNT p, 0, 32⟩

/-- `ZLP_P_CODECNT` (R249). -/
def ZLP_P_CODECNT (p : Nat) : Nat := 0x180118 + p * 64
def ZLP_P_CODECNT_COUNT (p : Nat) : Fld := ⟨ZLP_P_CODECNT p, 0, 32⟩

/-- `ZLP_P_SFP_CTL` (R249). -/
def ZLP_P_SFP_CTL (p : Nat) : Nat := 0x18011c + p * 64
def ZLP_P_SFP_CTL_GO (p : Nat) : Fld := ⟨ZLP_P_SFP_CTL p, 31, 1⟩
def ZLP_P_SFP_CTL_ERR (p : Nat) : Fld := ⟨ZLP_P_SFP_CTL p, 30, 1⟩
def ZLP_P_SFP_CTL_WR (p : Nat) : Fld := ⟨ZLP_P_SFP_CTL p, 29, 1⟩
def ZLP_P_SFP_CTL_DEV (p : Nat) : Fld := ⟨ZLP_P_SFP_CTL p, 16, 1⟩
def ZLP_P_SFP_CTL_ADDR (p : Nat) : Fld := ⟨ZLP_P_SFP_CTL p, 8, 8⟩
def ZLP_P_SFP_CTL_DATA (p : Nat) : Fld := ⟨ZLP_P_SFP_CTL p, 0, 8⟩

/-- `ZLP_P_DDM` (R249). -/
def ZLP_P_DDM (p : Nat) : Nat := 0x180120 + p * 64
def ZLP_P_DDM_TEMP (p : Nat) : Fld := ⟨ZLP_P_DDM p, 16, 16⟩
def ZLP_P_DDM_RXPWR (p : Nat) : Fld := ⟨ZLP_P_DDM p, 0, 16⟩

/-- `ZLP_STN_STAT` (R278). -/
def ZLP_STN_STAT (s : Nat) : Nat := 0x180800 + s * 16
def ZLP_STN_STAT_POS_B (s : Nat) : Fld := ⟨ZLP_STN_STAT s, 24, 8⟩
def ZLP_STN_STAT_POS_A (s : Nat) : Fld := ⟨ZLP_STN_STAT s, 16, 8⟩
def ZLP_STN_STAT_ON_B (s : Nat) : Fld := ⟨ZLP_STN_STAT s, 9, 1⟩
def ZLP_STN_STAT_ON_A (s : Nat) : Fld := ⟨ZLP_STN_STAT s, 8, 1⟩
def ZLP_STN_STAT_STATE (s : Nat) : Fld := ⟨ZLP_STN_STAT s, 0, 3⟩

/-- `ZLP_STN_DA` (R278). -/
def ZLP_STN_DA (s : Nat) : Nat := 0x180804 + s * 16
def ZLP_STN_DA_D (s : Nat) : Fld := ⟨ZLP_STN_DA s, 0, 24⟩

/-- `ZLP_STN_DB` (R278). -/
def ZLP_STN_DB (s : Nat) : Nat := 0x180808 + s * 16
def ZLP_STN_DB_D (s : Nat) : Fld := ⟨ZLP_STN_DB s, 0, 24⟩

/-- `ZLP_STN_CNT` (R278). -/
def ZLP_STN_CNT (s : Nat) : Nat := 0x18080c + s * 16
def ZLP_STN_CNT_LOST (s : Nat) : Fld := ⟨ZLP_STN_CNT s, 24, 8⟩
def ZLP_STN_CNT_DRIFT (s : Nat) : Fld := ⟨ZLP_STN_CNT s, 16, 8⟩
def ZLP_STN_CNT_WV (s : Nat) : Fld := ⟨ZLP_STN_CNT s, 0, 16⟩

/-- `CYM_W0` (R236). -/
def CYM_W0 (n : Nat) : Nat := 0x190000 + n * 16
def CYM_W0_CLASS (n : Nat) : Fld := ⟨CYM_W0 n, 29, 3⟩
def CYM_W0_RING (n : Nat) : Fld := ⟨CYM_W0 n, 27, 2⟩
def CYM_W0_DIR (n : Nat) : Fld := ⟨CYM_W0 n, 26, 1⟩
def CYM_W0_START (n : Nat) : Fld := ⟨CYM_W0 n, 0, 16⟩

/-- `CYM_W1` (R236). -/
def CYM_W1 (n : Nat) : Nat := 0x190004 + n * 16
def CYM_W1_LEN (n : Nat) : Fld := ⟨CYM_W1 n, 16, 16⟩
def CYM_W1_OWNER (n : Nat) : Fld := ⟨CYM_W1 n, 0, 16⟩

/-- `CYM_W2` (R236). -/
def CYM_W2 (n : Nat) : Nat := 0x190008 + n * 16
def CYM_W2_FIRST (n : Nat) : Fld := ⟨CYM_W2 n, 18, 14⟩
def CYM_W2_SRC (n : Nat) : Fld := ⟨CYM_W2 n, 16, 2⟩
def CYM_W2_COUNT (n : Nat) : Fld := ⟨CYM_W2 n, 8, 8⟩
def CYM_W2_RSIZE (n : Nat) : Fld := ⟨CYM_W2 n, 0, 8⟩

/-- `CYM_W3` (R236). -/
def CYM_W3 (n : Nat) : Nat := 0x19000c + n * 16
def CYM_W3_EVCAP (n : Nat) : Fld := ⟨CYM_W3 n, 24, 8⟩

/-- `CYM_STAT` (R250). -/
def CYM_STAT : Nat := 0x1a0000
def CYM_STAT_RUN : Fld := ⟨CYM_STAT, 1, 1⟩
def CYM_STAT_WR_IGN : Fld := ⟨CYM_STAT, 0, 1⟩

/-- `CYM_POS` (R250). -/
def CYM_POS : Nat := 0x1a0004
def CYM_POS_BCN : Fld := ⟨CYM_POS, 8, 6⟩
def CYM_POS_WIN : Fld := ⟨CYM_POS, 0, 6⟩

/-- `ACQ_CFG` (R304). -/
def ACQ_CFG : Nat := 0x1c0000
def ACQ_CFG_NSEG : Fld := ⟨ACQ_CFG, 8, 8⟩
def ACQ_CFG_RUN : Fld := ⟨ACQ_CFG, 0, 1⟩

/-- `ACQ_CTL` (R304). -/
def ACQ_CTL : Nat := 0x1c0004
def ACQ_CTL_SWTRIG : Fld := ⟨ACQ_CTL, 2, 1⟩
def ACQ_CTL_STOP : Fld := ⟨ACQ_CTL, 1, 1⟩
def ACQ_CTL_ARM : Fld := ⟨ACQ_CTL, 0, 1⟩

/-- `ACQ_STAT` (R304). -/
def ACQ_STAT : Nat := 0x1c0008
def ACQ_STAT_SEG : Fld := ⟨ACQ_STAT, 24, 8⟩
def ACQ_STAT_SH : Fld := ⟨ACQ_STAT, 16, 3⟩
def ACQ_STAT_TICK_BAD : Fld := ⟨ACQ_STAT, 15, 1⟩
def ACQ_STAT_CLIP : Fld := ⟨ACQ_STAT, 14, 1⟩
def ACQ_STAT_RDUCE : Fld := ⟨ACQ_STAT, 13, 1⟩
def ACQ_STAT_WR_IGN : Fld := ⟨ACQ_STAT, 12, 1⟩
def ACQ_STAT_ARM_BAD : Fld := ⟨ACQ_STAT, 11, 1⟩
def ACQ_STAT_STOPC : Fld := ⟨ACQ_STAT, 4, 4⟩
def ACQ_STAT_STATE : Fld := ⟨ACQ_STAT, 0, 3⟩

/-- `ACQ_TICK` (R304). -/
def ACQ_TICK : Nat := 0x1c000c
def ACQ_TICK_TICK : Fld := ⟨ACQ_TICK, 0, 24⟩

/-- `ACQ_PHASE` (R304). -/
def ACQ_PHASE : Nat := 0x1c0010
def ACQ_PHASE_PHASE : Fld := ⟨ACQ_PHASE, 0, 18⟩

/-- `ACQ_PRE` (R304). -/
def ACQ_PRE : Nat := 0x1c0014
def ACQ_PRE_PRE : Fld := ⟨ACQ_PRE, 0, 24⟩

/-- `ACQ_POST` (R304). -/
def ACQ_POST : Nat := 0x1c0018
def ACQ_POST_POST : Fld := ⟨ACQ_POST, 0, 24⟩

/-- `ACQ_BASE` (R304). -/
def ACQ_BASE : Nat := 0x1c001c
def ACQ_BASE_BASE : Fld := ⟨ACQ_BASE, 0, 13⟩

/-- `ACQ_SIZE` (R304). -/
def ACQ_SIZE : Nat := 0x1c0020
def ACQ_SIZE_SIZE : Fld := ⟨ACQ_SIZE, 0, 14⟩

/-- `ACQ_RATE` (R304). -/
def ACQ_RATE : Nat := 0x1c0024
def ACQ_RATE_MAXSH : Fld := ⟨ACQ_RATE, 0, 3⟩

/-- `ACQ_FIFO` (R304). -/
def ACQ_FIFO : Nat := 0x1c0028
def ACQ_FIFO_FILL : Fld := ⟨ACQ_FIFO, 0, 19⟩

/-- `ACQ_FIFO_TH` (R304). -/
def ACQ_FIFO_TH : Nat := 0x1c002c
def ACQ_FIFO_TH_HI : Fld := ⟨ACQ_FIFO_TH, 16, 9⟩
def ACQ_FIFO_TH_LO : Fld := ⟨ACQ_FIFO_TH, 0, 9⟩

/-- `ACQ_TRIG_SEL` (R304). -/
def ACQ_TRIG_SEL : Nat := 0x1c0030
def ACQ_TRIG_SEL_UNITS : Fld := ⟨ACQ_TRIG_SEL, 0, 16⟩

/-- `ACQ_TIGN_CNT` (R304). -/
def ACQ_TIGN_CNT : Nat := 0x1c0034
def ACQ_TIGN_CNT_COUNT : Fld := ⟨ACQ_TIGN_CNT, 0, 32⟩

/-- `ACQ_DEAD` (R304). -/
def ACQ_DEAD : Nat := 0x1c0038
def ACQ_DEAD_DEAD : Fld := ⟨ACQ_DEAD, 0, 32⟩

/-- `ACQ_BLK` (R304). -/
def ACQ_BLK : Nat := 0x1c003c
def ACQ_BLK_COUNT : Fld := ⟨ACQ_BLK, 0, 32⟩

/-- `ACQ_BSIZE` (R304). -/
def ACQ_BSIZE : Nat := 0x1c0040
def ACQ_BSIZE_N : Fld := ⟨ACQ_BSIZE, 16, 8⟩
def ACQ_BSIZE_B : Fld := ⟨ACQ_BSIZE, 0, 16⟩

/-- `ACQ_CH_SRC` (R304). -/
def ACQ_CH_SRC (c : Nat) : Nat := 0x1c0100 + c * 4
def ACQ_CH_SRC_KIND (c : Nat) : Fld := ⟨ACQ_CH_SRC c, 28, 4⟩
def ACQ_CH_SRC_IDX (c : Nat) : Fld := ⟨ACQ_CH_SRC c, 14, 14⟩
def ACQ_CH_SRC_WORD (c : Nat) : Fld := ⟨ACQ_CH_SRC c, 10, 4⟩
def ACQ_CH_SRC_TYPE (c : Nat) : Fld := ⟨ACQ_CH_SRC c, 9, 1⟩

/-- `ACQ_MK_CFG` (R304). -/
def ACQ_MK_CFG (m : Nat) : Nat := 0x1c0200 + m * 16
def ACQ_MK_CFG_CH (m : Nat) : Fld := ⟨ACQ_MK_CFG m, 8, 6⟩
def ACQ_MK_CFG_ACT (m : Nat) : Fld := ⟨ACQ_MK_CFG m, 3, 2⟩
def ACQ_MK_CFG_MODE (m : Nat) : Fld := ⟨ACQ_MK_CFG m, 1, 1⟩
def ACQ_MK_CFG_EN (m : Nat) : Fld := ⟨ACQ_MK_CFG m, 0, 1⟩

/-- `ACQ_MK_LO` (R304). -/
def ACQ_MK_LO (m : Nat) : Nat := 0x1c0204 + m * 16
def ACQ_MK_LO_LO (m : Nat) : Fld := ⟨ACQ_MK_LO m, 0, 32⟩

/-- `ACQ_MK_HI` (R304). -/
def ACQ_MK_HI (m : Nat) : Nat := 0x1c0208 + m * 16
def ACQ_MK_HI_HI (m : Nat) : Fld := ⟨ACQ_MK_HI m, 0, 32⟩

/-- `ACQ_MK_CNT` (R304). -/
def ACQ_MK_CNT (m : Nat) : Nat := 0x1c020c + m * 16
def ACQ_MK_CNT_COUNT (m : Nat) : Fld := ⟨ACQ_MK_CNT m, 0, 32⟩

/-- `ACQ_RM_CFG` (R304). -/
def ACQ_RM_CFG (k : Nat) : Nat := 0x1c0300 + k * 16
def ACQ_RM_CFG_EDGE (k : Nat) : Fld := ⟨ACQ_RM_CFG k, 1, 2⟩
def ACQ_RM_CFG_EN (k : Nat) : Fld := ⟨ACQ_RM_CFG k, 0, 1⟩

/-- `ACQ_RM_EXP` (R304). -/
def ACQ_RM_EXP (k : Nat) : Nat := 0x1c0304 + k * 16
def ACQ_RM_EXP_EXP (k : Nat) : Fld := ⟨ACQ_RM_EXP k, 0, 32⟩

/-- `ACQ_RM_ERR` (R304). -/
def ACQ_RM_ERR (k : Nat) : Nat := 0x1c0308 + k * 16
def ACQ_RM_ERR_ERR (k : Nat) : Fld := ⟨ACQ_RM_ERR k, 0, 32⟩

/-- `ACQ_RM_STAT` (R304). -/
def ACQ_RM_STAT (k : Nat) : Nat := 0x1c030c + k * 16
def ACQ_RM_STAT_MARKS (k : Nat) : Fld := ⟨ACQ_RM_STAT k, 16, 16⟩
def ACQ_RM_STAT_MISS_CNT (k : Nat) : Fld := ⟨ACQ_RM_STAT k, 8, 8⟩
def ACQ_RM_STAT_MULTI (k : Nat) : Fld := ⟨ACQ_RM_STAT k, 1, 1⟩
def ACQ_RM_STAT_MISS (k : Nat) : Fld := ⟨ACQ_RM_STAT k, 0, 1⟩

/-- `ACQ_MASK_LO` (R304). -/
def ACQ_MASK_LO (m i : Nat) : Nat := 0x1c4000 + m * 2048 + i * 8
def ACQ_MASK_LO_V (m i : Nat) : Fld := ⟨ACQ_MASK_LO m i, 0, 32⟩

/-- `ACQ_MASK_HI` (R304). -/
def ACQ_MASK_HI (m i : Nat) : Nat := 0x1c4004 + m * 2048 + i * 8
def ACQ_MASK_HI_V (m i : Nat) : Fld := ⟨ACQ_MASK_HI m i, 0, 32⟩

/-- `TRG_CFG` (R305). -/
def TRG_CFG (u : Nat) : Nat := 0x1d0000 + u * 32
def TRG_CFG_CH (u : Nat) : Fld := ⟨TRG_CFG u, 8, 6⟩
def TRG_CFG_INV (u : Nat) : Fld := ⟨TRG_CFG u, 6, 1⟩
def TRG_CFG_POL (u : Nat) : Fld := ⟨TRG_CFG u, 4, 2⟩
def TRG_CFG_TYPE (u : Nat) : Fld := ⟨TRG_CFG u, 1, 3⟩
def TRG_CFG_EN (u : Nat) : Fld := ⟨TRG_CFG u, 0, 1⟩

/-- `TRG_HI` (R305). -/
def TRG_HI (u : Nat) : Nat := 0x1d0004 + u * 32
def TRG_HI_HI (u : Nat) : Fld := ⟨TRG_HI u, 0, 32⟩

/-- `TRG_LO` (R305). -/
def TRG_LO (u : Nat) : Nat := 0x1d0008 + u * 32
def TRG_LO_LO (u : Nat) : Fld := ⟨TRG_LO u, 0, 32⟩

/-- `TRG_W1` (R305). -/
def TRG_W1 (u : Nat) : Nat := 0x1d000c + u * 32
def TRG_W1_W1 (u : Nat) : Fld := ⟨TRG_W1 u, 0, 32⟩

/-- `TRG_W2` (R305). -/
def TRG_W2 (u : Nat) : Nat := 0x1d0010 + u * 32
def TRG_W2_W2 (u : Nat) : Fld := ⟨TRG_W2 u, 0, 32⟩

/-- `TRG_TIME` (R305). -/
def TRG_TIME (u : Nat) : Nat := 0x1d0014 + u * 32
def TRG_TIME_TIME (u : Nat) : Fld := ⟨TRG_TIME u, 0, 32⟩

/-- `TRG_CNT` (R305). -/
def TRG_CNT (u : Nat) : Nat := 0x1d0018 + u * 32
def TRG_CNT_COUNT (u : Nat) : Fld := ⟨TRG_CNT u, 0, 32⟩

/-- `TRG_LAST` (R305). -/
def TRG_LAST (u : Nat) : Nat := 0x1d001c + u * 32
def TRG_LAST_TICK (u : Nat) : Fld := ⟨TRG_LAST u, 0, 32⟩

/-- `TRG_STAT` (R305). -/
def TRG_STAT : Nat := 0x1d0200
def TRG_STAT_CFG_BAD : Fld := ⟨TRG_STAT, 16, 16⟩
def TRG_STAT_FIRED : Fld := ⟨TRG_STAT, 0, 16⟩

/-- `KST_STAT` (R336). -/
def KST_STAT : Nat := 0x200000
def KST_STAT_FCAUSE : Fld := ⟨KST_STAT, 8, 4⟩
def KST_STAT_CONF_EMPTY : Fld := ⟨KST_STAT, 7, 1⟩
def KST_STAT_PCV_BAD : Fld := ⟨KST_STAT, 6, 1⟩
def KST_STAT_RATE_BAD : Fld := ⟨KST_STAT, 5, 1⟩
def KST_STAT_FORCE : Fld := ⟨KST_STAT, 4, 1⟩
def KST_STAT_STATE : Fld := ⟨KST_STAT, 0, 3⟩

/-- `KST_PCV` (R336). -/
def KST_PCV : Nat := 0x200004
def KST_PCV_PCV : Fld := ⟨KST_PCV, 0, 32⟩

/-- `KST_PCV_NEW` (R336). -/
def KST_PCV_NEW : Nat := 0x200008
def KST_PCV_NEW_PCV : Fld := ⟨KST_PCV_NEW, 0, 32⟩

/-- `KST_IN` (R336). -/
def KST_IN : Nat := 0x20000c
def KST_IN_FLT : Fld := ⟨KST_IN, 16, 16⟩
def KST_IN_RUN : Fld := ⟨KST_IN, 0, 16⟩

/-- `KST_FUNC` (R336). -/
def KST_FUNC : Nat := 0x200010
def KST_FUNC_RSTW : Fld := ⟨KST_FUNC, 16, 16⟩
def KST_FUNC_DEM : Fld := ⟨KST_FUNC, 0, 16⟩

/-- `KST_ZONE` (R336). -/
def KST_ZONE : Nat := 0x200014
def KST_ZONE_STOP1 : Fld := ⟨KST_ZONE, 16, 16⟩
def KST_ZONE_STO : Fld := ⟨KST_ZONE, 0, 16⟩

/-- `KST_OUT` (R336). -/
def KST_OUT : Nat := 0x200018
def KST_OUT_ACK : Fld := ⟨KST_OUT, 16, 2⟩
def KST_OUT_FLT : Fld := ⟨KST_OUT, 4, 4⟩
def KST_OUT_ON : Fld := ⟨KST_OUT, 0, 4⟩

/-- `KST_FW_REQ` (R336). -/
def KST_FW_REQ : Nat := 0x20001c
def KST_FW_REQ_REQ : Fld := ⟨KST_FW_REQ, 0, 2⟩

/-- `KST_FW_STAT` (R336). -/
def KST_FW_STAT : Nat := 0x200020
def KST_FW_STAT_TLEFT : Fld := ⟨KST_FW_STAT, 16, 16⟩
def KST_FW_STAT_RES : Fld := ⟨KST_FW_STAT, 0, 8⟩

/-- `KST_IFLT_CNT` (R336). -/
def KST_IFLT_CNT : Nat := 0x200024
def KST_IFLT_CNT_COUNT : Fld := ⟨KST_IFLT_CNT, 0, 32⟩

/-- `KST_XCMP_CNT` (R336). -/
def KST_XCMP_CNT : Nat := 0x200028
def KST_XCMP_CNT_COUNT : Fld := ⟨KST_XCMP_CNT, 0, 32⟩

/-- `KST_ACK_CNT` (R336). -/
def KST_ACK_CNT : Nat := 0x20002c
def KST_ACK_CNT_COUNT : Fld := ⟨KST_ACK_CNT, 0, 32⟩

/-- `KST_UPS_CNT` (R336). -/
def KST_UPS_CNT : Nat := 0x200030
def KST_UPS_CNT_COUNT : Fld := ⟨KST_UPS_CNT, 0, 32⟩

/-- `KST_WIGN_CNT` (R336). -/
def KST_WIGN_CNT : Nat := 0x200034
def KST_WIGN_CNT_COUNT : Fld := ⟨KST_WIGN_CNT, 0, 32⟩

/-- `KST_SUPPLY` (R336). -/
def KST_SUPPLY : Nat := 0x200038
def KST_SUPPLY_V33_OK : Fld := ⟨KST_SUPPLY, 1, 1⟩
def KST_SUPPLY_V08_OK : Fld := ⟨KST_SUPPLY, 0, 1⟩

/-- `KST_STN_LOST` (R336). -/
def KST_STN_LOST (n : Nat) : Nat := 0x200040 + n * 4
def KST_STN_LOST_MAP (n : Nat) : Fld := ⟨KST_STN_LOST n, 0, 32⟩

/-- `KST_STN_FB` (R336). -/
def KST_STN_FB (n : Nat) : Nat := 0x200060 + n * 4
def KST_STN_FB_MAP (n : Nat) : Fld := ⟨KST_STN_FB n, 0, 32⟩

/-- `KST_STN_WDX` (R336). -/
def KST_STN_WDX (n : Nat) : Nat := 0x200080 + n * 4
def KST_STN_WDX_MAP (n : Nat) : Fld := ⟨KST_STN_WDX n, 0, 32⟩

/-- `KST_PWIN` (R336). -/
def KST_PWIN (w : Nat) : Nat := 0x201000 + w * 4
def KST_PWIN_IMAGE (w : Nat) : Fld := ⟨KST_PWIN w, 0, 32⟩

/-- `TWN_CFG` (R359). -/
def TWN_CFG : Nat := 0x210000
def TWN_CFG_MDLY : Fld := ⟨TWN_CFG, 16, 4⟩
def TWN_CFG_PRIO : Fld := ⟨TWN_CFG, 8, 8⟩
def TWN_CFG_PID : Fld := ⟨TWN_CFG, 1, 1⟩
def TWN_CFG_EN : Fld := ⟨TWN_CFG, 0, 1⟩

/-- `TWN_CTL` (R359). -/
def TWN_CTL : Nat := 0x210004
def TWN_CTL_YIELD : Fld := ⟨TWN_CTL, 2, 1⟩
def TWN_CTL_JOIN : Fld := ⟨TWN_CTL, 1, 1⟩
def TWN_CTL_PAIR : Fld := ⟨TWN_CTL, 0, 1⟩

/-- `TWN_STAT` (R359). -/
def TWN_STAT : Nat := 0x210008
def TWN_STAT_PCODE : Fld := ⟨TWN_STAT, 16, 4⟩
def TWN_STAT_CMD_REF : Fld := ⟨TWN_STAT, 9, 1⟩
def TWN_STAT_PAIR_BAD : Fld := ⟨TWN_STAT, 8, 1⟩
def TWN_STAT_MIS : Fld := ⟨TWN_STAT, 7, 1⟩
def TWN_STAT_DIG_BAD : Fld := ⟨TWN_STAT, 6, 1⟩
def TWN_STAT_RB_UP : Fld := ⟨TWN_STAT, 5, 1⟩
def TWN_STAT_PAIR_UP : Fld := ⟨TWN_STAT, 4, 1⟩
def TWN_STAT_PSEND : Fld := ⟨TWN_STAT, 3, 1⟩
def TWN_STAT_ROLE : Fld := ⟨TWN_STAT, 0, 3⟩

/-- `TWN_EPOCH` (R359). -/
def TWN_EPOCH : Nat := 0x21000c
def TWN_EPOCH_LEXP : Fld := ⟨TWN_EPOCH, 16, 16⟩
def TWN_EPOCH_EPOCH : Fld := ⟨TWN_EPOCH, 0, 16⟩

/-- `TWN_PARTNER` (R359). -/
def TWN_PARTNER : Nat := 0x210010
def TWN_PARTNER_PRIO : Fld := ⟨TWN_PARTNER, 16, 8⟩
def TWN_PARTNER_ROLE : Fld := ⟨TWN_PARTNER, 8, 3⟩
def TWN_PARTNER_READY : Fld := ⟨TWN_PARTNER, 0, 1⟩

/-- `TWN_PHASE` (R359). -/
def TWN_PHASE : Nat := 0x210014
def TWN_PHASE_PH : Fld := ⟨TWN_PHASE, 0, 16⟩

/-- `TWN_PDLV` (R359). -/
def TWN_PDLV : Nat := 0x210018
def TWN_PDLV_DLV : Fld := ⟨TWN_PDLV, 0, 16⟩

/-- `TWN_TOFF` (R359). -/
def TWN_TOFF : Nat := 0x21001c
def TWN_TOFF_OFF : Fld := ⟨TWN_TOFF, 0, 32⟩

/-- `TWN_DIGEST` (R359). -/
def TWN_DIGEST : Nat := 0x210020
def TWN_DIGEST_DIG : Fld := ⟨TWN_DIGEST, 0, 32⟩

/-- `TWN_PDIGEST` (R359). -/
def TWN_PDIGEST : Nat := 0x210024
def TWN_PDIGEST_DIG : Fld := ⟨TWN_PDIGEST, 0, 32⟩

/-- `TWN_MIS_CNT` (R359). -/
def TWN_MIS_CNT : Nat := 0x210028
def TWN_MIS_CNT_COUNT : Fld := ⟨TWN_MIS_CNT, 0, 32⟩

/-- `TWN_MIS_FIRST` (R359). -/
def TWN_MIS_FIRST : Nat := 0x21002c
def TWN_MIS_FIRST_VALID : Fld := ⟨TWN_MIS_FIRST, 31, 1⟩
def TWN_MIS_FIRST_BCN : Fld := ⟨TWN_MIS_FIRST, 8, 6⟩
def TWN_MIS_FIRST_WIN : Fld := ⟨TWN_MIS_FIRST, 0, 6⟩

/-- `TWN_HB_MISS` (R359). -/
def TWN_HB_MISS : Nat := 0x210030
def TWN_HB_MISS_SEG : Fld := ⟨TWN_HB_MISS, 22, 10⟩
def TWN_HB_MISS_RB : Fld := ⟨TWN_HB_MISS, 11, 11⟩
def TWN_HB_MISS_PAIR : Fld := ⟨TWN_HB_MISS, 0, 11⟩

/-- `TWN_TAKE_CNT` (R359). -/
def TWN_TAKE_CNT : Nat := 0x210034
def TWN_TAKE_CNT_COUNT : Fld := ⟨TWN_TAKE_CNT, 0, 32⟩

/-- `TWN_JOIN` (R359). -/
def TWN_JOIN : Nat := 0x210038
def TWN_JOIN_DONE : Fld := ⟨TWN_JOIN, 31, 1⟩
def TWN_JOIN_AXES : Fld := ⟨TWN_JOIN, 0, 8⟩

/-- `TWN_PAIR_ERR` (R359). -/
def TWN_PAIR_ERR : Nat := 0x21003c
def TWN_PAIR_ERR_COUNT : Fld := ⟨TWN_PAIR_ERR, 0, 32⟩

/-- `HIF_ID` (R389). -/
def HIF_ID : Nat := 0x220000
def HIF_ID_DEVID : Fld := ⟨HIF_ID, 16, 16⟩
def HIF_ID_REV : Fld := ⟨HIF_ID, 0, 8⟩

/-- `HIF_LINK` (R389). -/
def HIF_LINK : Nat := 0x220004
def HIF_LINK_UP : Fld := ⟨HIF_LINK, 8, 1⟩
def HIF_LINK_WIDTH : Fld := ⟨HIF_LINK, 4, 4⟩
def HIF_LINK_SPEED : Fld := ⟨HIF_LINK, 0, 4⟩

/-- `HIF_CTL` (R389). -/
def HIF_CTL : Nat := 0x220008
def HIF_CTL_IRQ_ALL : Fld := ⟨HIF_CTL, 1, 1⟩
def HIF_CTL_EN : Fld := ⟨HIF_CTL, 0, 1⟩

/-- `HIF_STAT` (R389). -/
def HIF_STAT : Nat := 0x22000c
def HIF_STAT_RESTART : Fld := ⟨HIF_STAT, 6, 1⟩
def HIF_STAT_LINKDN : Fld := ⟨HIF_STAT, 5, 1⟩
def HIF_STAT_DMA_ERR : Fld := ⟨HIF_STAT, 4, 1⟩
def HIF_STAT_CQ_FULL : Fld := ⟨HIF_STAT, 3, 1⟩
def HIF_STAT_WR_IGN : Fld := ⟨HIF_STAT, 2, 1⟩
def HIF_STAT_DB_BAD : Fld := ⟨HIF_STAT, 1, 1⟩

/-- `HIF_DMA_BASE_LO` (R389). -/
def HIF_DMA_BASE_LO : Nat := 0x220010
def HIF_DMA_BASE_LO_V : Fld := ⟨HIF_DMA_BASE_LO, 0, 32⟩

/-- `HIF_DMA_BASE_HI` (R389). -/
def HIF_DMA_BASE_HI : Nat := 0x220014
def HIF_DMA_BASE_HI_V : Fld := ⟨HIF_DMA_BASE_HI, 0, 32⟩

/-- `HIF_DMA_LIM_LO` (R389). -/
def HIF_DMA_LIM_LO : Nat := 0x220018
def HIF_DMA_LIM_LO_V : Fld := ⟨HIF_DMA_LIM_LO, 0, 32⟩

/-- `HIF_DMA_LIM_HI` (R389). -/
def HIF_DMA_LIM_HI : Nat := 0x22001c
def HIF_DMA_LIM_HI_V : Fld := ⟨HIF_DMA_LIM_HI, 0, 32⟩

/-- `HIF_DMA_LAT` (R389). -/
def HIF_DMA_LAT : Nat := 0x220020
def HIF_DMA_LAT_MAX : Fld := ⟨HIF_DMA_LAT, 16, 16⟩
def HIF_DMA_LAT_LAST : Fld := ⟨HIF_DMA_LAT, 0, 16⟩

/-- `HIF_CQ_STAT` (R389). -/
def HIF_CQ_STAT : Nat := 0x220024
def HIF_CQ_STAT_RSV : Fld := ⟨HIF_CQ_STAT, 16, 11⟩
def HIF_CQ_STAT_FREE : Fld := ⟨HIF_CQ_STAT, 0, 11⟩

/-- `HIF_CQ_PTR` (R389). -/
def HIF_CQ_PTR : Nat := 0x220028
def HIF_CQ_PTR_PHASE : Fld := ⟨HIF_CQ_PTR, 31, 1⟩
def HIF_CQ_PTR_HEAD : Fld := ⟨HIF_CQ_PTR, 16, 10⟩
def HIF_CQ_PTR_TAIL : Fld := ⟨HIF_CQ_PTR, 0, 10⟩

/-- `HIF_SQ_STAT` (R389). -/
def HIF_SQ_STAT (q : Nat) : Nat := 0x220030 + q * 4
def HIF_SQ_STAT_FWAIT (q : Nat) : Fld := ⟨HIF_SQ_STAT q, 17, 1⟩
def HIF_SQ_STAT_BUSY (q : Nat) : Fld := ⟨HIF_SQ_STAT q, 16, 1⟩
def HIF_SQ_STAT_TAIL (q : Nat) : Fld := ⟨HIF_SQ_STAT q, 8, 8⟩
def HIF_SQ_STAT_HEAD (q : Nat) : Fld := ⟨HIF_SQ_STAT q, 0, 8⟩

/-- `HIF_CMD_CNT` (R389). -/
def HIF_CMD_CNT : Nat := 0x220040
def HIF_CMD_CNT_COUNT : Fld := ⟨HIF_CMD_CNT, 0, 32⟩

/-- `HIF_REF_CNT` (R389). -/
def HIF_REF_CNT : Nat := 0x220044
def HIF_REF_CNT_COUNT : Fld := ⟨HIF_REF_CNT, 0, 32⟩

/-- `HIF_STALL_CNT` (R389). -/
def HIF_STALL_CNT : Nat := 0x220048
def HIF_STALL_CNT_COUNT : Fld := ⟨HIF_STALL_CNT, 0, 32⟩

/-- `HIF_WR_IGN_CNT` (R389). -/
def HIF_WR_IGN_CNT : Nat := 0x22004c
def HIF_WR_IGN_CNT_COUNT : Fld := ⟨HIF_WR_IGN_CNT, 0, 32⟩

/-- `HIF_FIRST_REF` (R389). -/
def HIF_FIRST_REF : Nat := 0x220050
def HIF_FIRST_REF_VALID : Fld := ⟨HIF_FIRST_REF, 31, 1⟩
def HIF_FIRST_REF_SQ : Fld := ⟨HIF_FIRST_REF, 24, 2⟩
def HIF_FIRST_REF_OPCODE : Fld := ⟨HIF_FIRST_REF, 8, 8⟩
def HIF_FIRST_REF_STATUS : Fld := ⟨HIF_FIRST_REF, 0, 8⟩

/-- `EVT_CFG` (R407). -/
def EVT_CFG : Nat := 0x230000
def EVT_CFG_LOST_INT : Fld := ⟨EVT_CFG, 1, 1⟩
def EVT_CFG_EN : Fld := ⟨EVT_CFG, 0, 1⟩

/-- `EVT_STAT` (R407). -/
def EVT_STAT : Nat := 0x230004
def EVT_STAT_INT : Fld := ⟨EVT_STAT, 2, 1⟩
def EVT_STAT_FULL : Fld := ⟨EVT_STAT, 1, 1⟩
def EVT_STAT_LOST : Fld := ⟨EVT_STAT, 0, 1⟩

/-- `EVT_HEAD` (R407). -/
def EVT_HEAD : Nat := 0x230008
def EVT_HEAD_HEAD : Fld := ⟨EVT_HEAD, 0, 10⟩

/-- `EVT_TAIL` (R407). -/
def EVT_TAIL : Nat := 0x23000c
def EVT_TAIL_PHASE : Fld := ⟨EVT_TAIL, 31, 1⟩
def EVT_TAIL_TAIL : Fld := ⟨EVT_TAIL, 0, 10⟩

/-- `EVT_LOST_CNT` (R407). -/
def EVT_LOST_CNT : Nat := 0x230010
def EVT_LOST_CNT_COUNT : Fld := ⟨EVT_LOST_CNT, 0, 32⟩

/-- `EVT_FILL` (R407). -/
def EVT_FILL : Nat := 0x230014
def EVT_FILL_FILL : Fld := ⟨EVT_FILL, 0, 11⟩

/-- `EVT_PEND` (R407). -/
def EVT_PEND (n : Nat) : Nat := 0x230020 + n * 4
def EVT_PEND_PEND (n : Nat) : Fld := ⟨EVT_PEND n, 0, 32⟩

/-- `EVT_MAP` (R407). -/
def EVT_MAP (n : Nat) : Nat := 0x230100 + n * 4
def EVT_MAP_MAP (n : Nat) : Fld := ⟨EVT_MAP n, 0, 32⟩

/-- `EVT_VEC` (R407). -/
def EVT_VEC (v : Nat) : Nat := 0x230200 + v * 4
def EVT_VEC_TIME (v : Nat) : Fld := ⟨EVT_VEC v, 16, 16⟩
def EVT_VEC_CNT (v : Nat) : Fld := ⟨EVT_VEC v, 0, 8⟩

/-- `EVT_QUEUE` (R407). -/
def EVT_QUEUE (w : Nat) : Nat := 0x234000 + w * 4
def EVT_QUEUE_ENTRY (w : Nat) : Fld := ⟨EVT_QUEUE w, 0, 32⟩

/-- `NVS_CFG` (R427). -/
def NVS_CFG : Nat := 0x240000
def NVS_CFG_SCK_DIV : Fld := ⟨NVS_CFG, 8, 4⟩
def NVS_CFG_PF_EN : Fld := ⟨NVS_CFG, 1, 1⟩
def NVS_CFG_HU_EN : Fld := ⟨NVS_CFG, 0, 1⟩

/-- `NVS_STAT` (R427). -/
def NVS_STAT : Nat := 0x240004
def NVS_STAT_CMD_BAD : Fld := ⟨NVS_STAT, 8, 1⟩
def NVS_STAT_MEDIA : Fld := ⟨NVS_STAT, 7, 1⟩
def NVS_STAT_PF : Fld := ⟨NVS_STAT, 6, 1⟩
def NVS_STAT_DEFER : Fld := ⟨NVS_STAT, 5, 1⟩
def NVS_STAT_SFDP_OK : Fld := ⟨NVS_STAT, 4, 1⟩
def NVS_STAT_NOACT : Fld := ⟨NVS_STAT, 3, 1⟩
def NVS_STAT_ACT : Fld := ⟨NVS_STAT, 2, 1⟩
def NVS_STAT_BUSY : Fld := ⟨NVS_STAT, 0, 1⟩

/-- `NVS_GEN` (R427). -/
def NVS_GEN (b : Nat) : Nat := 0x240008 + b * 4
def NVS_GEN_GEN (b : Nat) : Fld := ⟨NVS_GEN b, 0, 32⟩

/-- `NVS_WP` (R427). -/
def NVS_WP (b : Nat) : Nat := 0x240010 + b * 4
def NVS_WP_WP (b : Nat) : Fld := ⟨NVS_WP b, 0, 19⟩

/-- `NVS_SIZE` (R427). -/
def NVS_SIZE : Nat := 0x240018
def NVS_SIZE_MB : Fld := ⟨NVS_SIZE, 0, 8⟩

/-- `NVS_T_PP` (R427). -/
def NVS_T_PP : Nat := 0x24001c
def NVS_T_PP_T : Fld := ⟨NVS_T_PP, 0, 32⟩

/-- `NVS_T_SE` (R427). -/
def NVS_T_SE : Nat := 0x240020
def NVS_T_SE_T : Fld := ⟨NVS_T_SE, 0, 32⟩

/-- `NVS_HU_SCALE` (R427). -/
def NVS_HU_SCALE : Nat := 0x240024
def NVS_HU_SCALE_V : Fld := ⟨NVS_HU_SCALE, 0, 32⟩

/-- `NVS_HU_C` (R427). -/
def NVS_HU_C : Nat := 0x240028
def NVS_HU_C_V : Fld := ⟨NVS_HU_C, 0, 32⟩

/-- `NVS_HU_VMIN` (R427). -/
def NVS_HU_VMIN : Nat := 0x24002c
def NVS_HU_VMIN_V : Fld := ⟨NVS_HU_VMIN, 0, 32⟩

/-- `NVS_HU_EFF` (R427). -/
def NVS_HU_EFF : Nat := 0x240030
def NVS_HU_EFF_V : Fld := ⟨NVS_HU_EFF, 0, 32⟩

/-- `NVS_HU_P` (R427). -/
def NVS_HU_P : Nat := 0x240034
def NVS_HU_P_V : Fld := ⟨NVS_HU_P, 0, 32⟩

/-- `NVS_HU_RES` (R427). -/
def NVS_HU_RES : Nat := 0x240038
def NVS_HU_RES_V : Fld := ⟨NVS_HU_RES, 0, 32⟩

/-- `NVS_PF_V` (R427). -/
def NVS_PF_V : Nat := 0x24003c
def NVS_PF_V_V : Fld := ⟨NVS_PF_V, 0, 32⟩

/-- `NVS_HU_V` (R427). -/
def NVS_HU_V : Nat := 0x240040
def NVS_HU_V_FP32 : Fld := ⟨NVS_HU_V, 0, 32⟩

/-- `NVS_HU_E` (R427). -/
def NVS_HU_E : Nat := 0x240044
def NVS_HU_E_FP32 : Fld := ⟨NVS_HU_E, 0, 32⟩

/-- `NVS_QFILL` (R427). -/
def NVS_QFILL : Nat := 0x240048
def NVS_QFILL_FILL : Fld := ⟨NVS_QFILL, 0, 5⟩

/-- `NVS_DEFER_CNT` (R427). -/
def NVS_DEFER_CNT : Nat := 0x24004c
def NVS_DEFER_CNT_COUNT : Fld := ⟨NVS_DEFER_CNT, 0, 32⟩

/-- `NVS_IMG_VER` (R427). -/
def NVS_IMG_VER : Nat := 0x240050
def NVS_IMG_VER_VER : Fld := ⟨NVS_IMG_VER, 0, 32⟩

/-- `NVS_SWITCH` (R427). -/
def NVS_SWITCH : Nat := 0x240054
def NVS_SWITCH_BANK : Fld := ⟨NVS_SWITCH, 0, 1⟩

/-- `NVS_ERR_CNT` (R427). -/
def NVS_ERR_CNT : Nat := 0x240058
def NVS_ERR_CNT_COUNT : Fld := ⟨NVS_ERR_CNT, 0, 32⟩

/-- `BBX_CFG` (R428). -/
def BBX_CFG : Nat := 0x250000
def BBX_CFG_AUTO : Fld := ⟨BBX_CFG, 1, 1⟩
def BBX_CFG_EN : Fld := ⟨BBX_CFG, 0, 1⟩

/-- `BBX_CTL` (R428). -/
def BBX_CTL : Nat := 0x250004
def BBX_CTL_AREA : Fld := ⟨BBX_CTL, 8, 1⟩
def BBX_CTL_ERASE : Fld := ⟨BBX_CTL, 4, 1⟩
def BBX_CTL_LOAD : Fld := ⟨BBX_CTL, 3, 1⟩
def BBX_CTL_RELEASE : Fld := ⟨BBX_CTL, 2, 1⟩
def BBX_CTL_COMMIT : Fld := ⟨BBX_CTL, 1, 1⟩
def BBX_CTL_FREEZE : Fld := ⟨BBX_CTL, 0, 1⟩

/-- `BBX_STAT` (R428). -/
def BBX_STAT : Nat := 0x250008
def BBX_STAT_SHORT : Fld := ⟨BBX_STAT, 13, 1⟩
def BBX_STAT_LOAD_BAD : Fld := ⟨BBX_STAT, 12, 1⟩
def BBX_STAT_CMD_BAD : Fld := ⟨BBX_STAT, 11, 1⟩
def BBX_STAT_NOROOM : Fld := ⟨BBX_STAT, 10, 1⟩
def BBX_STAT_ER : Fld := ⟨BBX_STAT, 8, 2⟩
def BBX_STAT_CAUSE : Fld := ⟨BBX_STAT, 4, 4⟩
def BBX_STAT_STATE : Fld := ⟨BBX_STAT, 0, 3⟩

/-- `BBX_COUNT` (R428). -/
def BBX_COUNT : Nat := 0x25000c
def BBX_COUNT_N : Fld := ⟨BBX_COUNT, 0, 15⟩

/-- `BBX_SEQ` (R428). -/
def BBX_SEQ : Nat := 0x250010
def BBX_SEQ_SEQ : Fld := ⟨BBX_SEQ, 0, 32⟩

/-- `BBX_TILES` (R428). -/
def BBX_TILES : Nat := 0x250014
def BBX_TILES_NEED : Fld := ⟨BBX_TILES, 16, 8⟩
def BBX_TILES_DONE : Fld := ⟨BBX_TILES, 0, 8⟩

/-- `BBX_DISC_CNT` (R428). -/
def BBX_DISC_CNT : Nat := 0x250018
def BBX_DISC_CNT_COUNT : Fld := ⟨BBX_DISC_CNT, 0, 32⟩

/-- `BBX_NOTE_D` (R428). -/
def BBX_NOTE_D : Nat := 0x25001c
def BBX_NOTE_D_DATA : Fld := ⟨BBX_NOTE_D, 0, 32⟩

/-- `BBX_NOTE` (R428). -/
def BBX_NOTE : Nat := 0x250020
def BBX_NOTE_VALUE : Fld := ⟨BBX_NOTE, 0, 16⟩

/-- `BBX_ASEQ` (R428). -/
def BBX_ASEQ (i : Nat) : Nat := 0x250024 + i * 4
def BBX_ASEQ_SEQ (i : Nat) : Fld := ⟨BBX_ASEQ i, 0, 32⟩

/-- `BBX_MASK` (R428). -/
def BBX_MASK (n : Nat) : Nat := 0x250040 + n * 4
def BBX_MASK_MASK (n : Nat) : Fld := ⟨BBX_MASK n, 0, 32⟩

/-- `BBX_FRZ0` (R428). -/
def BBX_FRZ0 : Nat := 0x250060
def BBX_FRZ0_FRZ : Fld := ⟨BBX_FRZ0, 0, 32⟩

/-- `BBX_FRZ1` (R428). -/
def BBX_FRZ1 : Nat := 0x250064
def BBX_FRZ1_FRZ : Fld := ⟨BBX_FRZ1, 0, 32⟩

/-- `BBX_FRZ2` (R428). -/
def BBX_FRZ2 : Nat := 0x250068
def BBX_FRZ2_FRZ : Fld := ⟨BBX_FRZ2, 0, 32⟩

/-- `BBX_FRZ3` (R428). -/
def BBX_FRZ3 : Nat := 0x25006c
def BBX_FRZ3_FRZ : Fld := ⟨BBX_FRZ3, 0, 32⟩

/-- `BBX_FRZ4` (R428). -/
def BBX_FRZ4 : Nat := 0x250070
def BBX_FRZ4_FRZ : Fld := ⟨BBX_FRZ4, 0, 32⟩

/-- `BBX_FRZ5` (R428). -/
def BBX_FRZ5 : Nat := 0x250074
def BBX_FRZ5_FRZ : Fld := ⟨BBX_FRZ5, 0, 32⟩

/-- `BBX_FRZ6` (R428). -/
def BBX_FRZ6 : Nat := 0x250078
def BBX_FRZ6_FRZ : Fld := ⟨BBX_FRZ6, 0, 32⟩

/-- `BBX_FRZ7` (R428). -/
def BBX_FRZ7 : Nat := 0x25007c
def BBX_FRZ7_FRZ : Fld := ⟨BBX_FRZ7, 0, 32⟩

/-- `DDR_CFG` (R307). -/
def DDR_CFG : Nat := 0x260000
def DDR_CFG_SCRUB_EN : Fld := ⟨DDR_CFG, 8, 1⟩
def DDR_CFG_RATE : Fld := ⟨DDR_CFG, 4, 2⟩
def DDR_CFG_RANKS : Fld := ⟨DDR_CFG, 2, 1⟩
def DDR_CFG_SIZE : Fld := ⟨DDR_CFG, 0, 2⟩

/-- `DDR_CTL` (R307). -/
def DDR_CTL : Nat := 0x260004
def DDR_CTL_TRAIN : Fld := ⟨DDR_CTL, 0, 1⟩

/-- `DDR_STAT` (R307). -/
def DDR_STAT : Nat := 0x260008
def DDR_STAT_LOST : Fld := ⟨DDR_STAT, 4, 1⟩
def DDR_STAT_UE : Fld := ⟨DDR_STAT, 3, 1⟩
def DDR_STAT_CE : Fld := ⟨DDR_STAT, 2, 1⟩
def DDR_STAT_TFAIL : Fld := ⟨DDR_STAT, 1, 1⟩
def DDR_STAT_TRAINED : Fld := ⟨DDR_STAT, 0, 1⟩

/-- `DDR_CE_CNT` (R307). -/
def DDR_CE_CNT : Nat := 0x26000c
def DDR_CE_CNT_COUNT : Fld := ⟨DDR_CE_CNT, 0, 32⟩

/-- `DDR_UE_CNT` (R307). -/
def DDR_UE_CNT : Nat := 0x260010
def DDR_UE_CNT_COUNT : Fld := ⟨DDR_UE_CNT, 0, 32⟩

/-- `DDR_UE_ADDR` (R307). -/
def DDR_UE_ADDR : Nat := 0x260014
def DDR_UE_ADDR_VALID : Fld := ⟨DDR_UE_ADDR, 31, 1⟩
def DDR_UE_ADDR_ADDR : Fld := ⟨DDR_UE_ADDR, 0, 28⟩

/-- `DDR_WAIT_CNT` (R307). -/
def DDR_WAIT_CNT : Nat := 0x260018
def DDR_WAIT_CNT_COUNT : Fld := ⟨DDR_WAIT_CNT, 0, 32⟩

/-- `DDR_SCRUB` (R307). -/
def DDR_SCRUB : Nat := 0x26001c
def DDR_SCRUB_PASS : Fld := ⟨DDR_SCRUB, 16, 16⟩

end R

end Sys2Proof.Machine
end

