-- ==== Sys2Proof/Machine/RegMap.lean ====
section
/-! DEFINITION. The register map of BAR0 (R390): for each block its address range and the registers it holds, each with its base
address, its array dimensions (count and stride) and its fields (lowest bit, width, access code of R11, reset value), as the
register tables of the spec give them. From the map follow, for every address, the reset value and the bits under each access code. -/

namespace Sys2Proof.Machine

/-- The access codes of R11. -/
inductive Access where
  | rw | ro | wo | w1c | w1s | rc | tv | pw
  deriving DecidableEq, Repr

/-- One row of a register table: a field's lowest bit, width, access code and reset value. -/
structure FieldRow where
  lo : Nat
  width : Nat
  acc : Access
  reset : Nat
  deriving DecidableEq, Repr

/-- One register, or an array of registers: base address, dimensions (count, stride) and fields. -/
structure RegRow where
  base : Nat
  dims : List (Nat × Nat)
  fields : List FieldRow
  deriving DecidableEq, Repr

/-- A block of BAR0 (R390): first and last address and its registers. -/
structure RegBlock where
  first : Nat
  last : Nat
  rows : List RegRow
  deriving DecidableEq, Repr

/-- Registers of block GLB (part 1). -/
def regRowsGlbA : List RegRow := [
  -- GLB_CFG
  ⟨0x0, [], [⟨0, 1, .rw, 1⟩]⟩,
  -- GLB_VOTE_CNT
  ⟨0x4, [], [⟨0, 32, .rc, 0⟩]⟩,
  -- GLB_VOTE_LAST
  ⟨0x8, [], [⟨31, 1, .w1c, 0⟩, ⟨0, 25, .ro, 0⟩]⟩,
  -- GLB_PW_ERR
  ⟨0xc, [], [⟨0, 32, .rc, 0⟩]⟩,
  -- GLB_PW_LAST
  ⟨0x10, [], [⟨31, 1, .w1c, 0⟩, ⟨29, 2, .ro, 0⟩, ⟨0, 25, .ro, 0⟩]⟩,
  -- GLB_ACC_ERR
  ⟨0x14, [], [⟨16, 16, .rc, 0⟩, ⟨0, 16, .rc, 0⟩]⟩,
  -- GLB_SCRUB
  ⟨0x18, [], [⟨16, 16, .ro, 0⟩, ⟨0, 8, .ro, 0⟩]⟩,
  -- GLB_MBX_REQ
  ⟨0x20, [], [⟨8, 1, .rw, 0⟩, ⟨0, 8, .rw, 0⟩]⟩,
  -- GLB_MBX_STAT
  ⟨0x24, [], [⟨2, 1, .ro, 0⟩, ⟨1, 1, .ro, 0⟩, ⟨0, 1, .ro, 0⟩]⟩,
  -- GLB_MBX_D
  ⟨0x28, [(4, 4)], [⟨0, 32, .rw, 0⟩]⟩,
  -- GLB_SWRST
  ⟨0x40, [], [⟨0, 2, .pw, 0⟩]⟩,
  -- GLB_BOOT
  ⟨0x50, [], [⟨24, 8, .ro, 0⟩, ⟨8, 16, .ro, 0⟩, ⟨4, 4, .ro, 0⟩, ⟨0, 4, .ro, 0⟩]⟩,
  -- GLB_BOOTCFG
  ⟨0x54, [], [⟨0, 1, .rw, 0⟩]⟩,
  -- GLB_RST_CAUSE
  ⟨0x58, [], [⟨6, 1, .w1c, 0⟩, ⟨5, 1, .w1c, 0⟩, ⟨4, 1, .w1c, 0⟩, ⟨3, 1, .w1c, 0⟩, ⟨2, 1, .w1c, 0⟩, ⟨1, 1, .w1c, 0⟩, ⟨0, 1, .w1c, 1⟩]⟩]

/-- Registers of block GLB (part 2). -/
def regRowsGlbB : List RegRow := [
  -- GLB_CLK_STAT
  ⟨0x5c, [], [⟨8, 6, .w1c, 0⟩, ⟨0, 6, .ro, 0⟩]⟩,
  -- GLB_DBG
  ⟨0x60, [], [⟨1, 1, .ro, 0⟩, ⟨0, 1, .ro, 1⟩]⟩]

/-- Registers of block GLB. -/
def regRowsGlb : List RegRow := regRowsGlbA ++ regRowsGlbB

/-- Registers of block CHN. -/
def regRowsChn : List RegRow := [
  -- CHN_CFG
  ⟨0x10000, [], [⟨8, 8, .rw, 0⟩, ⟨4, 4, .rw, 0⟩, ⟨1, 1, .rw, 0⟩, ⟨0, 1, .rw, 0⟩]⟩,
  -- CHN_SRC
  ⟨0x10004, [], [⟨8, 1, .w1s, 0⟩, ⟨4, 3, .rw, 0⟩, ⟨0, 3, .ro, 0⟩]⟩,
  -- CHN_STAT
  ⟨0x10008, [], [⟨5, 1, .w1c, 0⟩, ⟨4, 1, .w1c, 0⟩, ⟨3, 1, .w1c, 0⟩, ⟨2, 1, .ro, 0⟩, ⟨1, 1, .w1c, 0⟩, ⟨0, 1, .w1c, 0⟩]⟩,
  -- CHN_INC_LO
  ⟨0x1000c, [], [⟨0, 32, .rw, 1073741824⟩]⟩,
  -- CHN_INC_HI
  ⟨0x10010, [], [⟨0, 8, .rw, 1⟩]⟩,
  -- CHN_SCALE
  ⟨0x10014, [], [⟨0, 32, .rw, 1⟩]⟩,
  -- CHN_PLAN
  ⟨0x10018, [], [⟨0, 18, .rw, 9216⟩]⟩,
  -- CHN_MISS
  ⟨0x1001c, [], [⟨8, 8, .ro, 0⟩, ⟨0, 8, .rw, 4⟩]⟩,
  -- CHN_MISS_CNT
  ⟨0x10020, [], [⟨0, 32, .rc, 0⟩]⟩,
  -- CHN_VM_DV
  ⟨0x10024, [], [⟨0, 32, .rw, 0⟩]⟩,
  -- CHN_BC
  ⟨0x10028, [], [⟨0, 6, .ro, 0⟩]⟩,
  -- CHN_CAP_CFG
  ⟨0x10040, [(16, 4)], [⟨4, 1, .rw, 0⟩, ⟨3, 1, .rw, 0⟩, ⟨1, 2, .rw, 0⟩, ⟨0, 1, .rw, 0⟩]⟩,
  -- CHN_CAP_FILL
  ⟨0x10080, [], [⟨16, 16, .rc, 0⟩, ⟨0, 9, .ro, 0⟩]⟩,
  -- CHN_CAP_REC
  ⟨0x100a0, [(8, 4)], [⟨0, 32, .ro, 0⟩]⟩]

/-- Registers of block EST. -/
def regRowsEst : List RegRow := [
  -- EST_CFG
  ⟨0x20000, [], [⟨1, 1, .rw, 0⟩, ⟨0, 1, .rw, 0⟩]⟩,
  -- EST_STAT
  ⟨0x20004, [], [⟨4, 1, .ro, 0⟩, ⟨3, 1, .w1c, 0⟩, ⟨2, 1, .w1c, 0⟩, ⟨1, 1, .w1c, 0⟩, ⟨0, 1, .w1c, 0⟩]⟩,
  -- EST_IDX
  ⟨0x20008, [], [⟨0, 13, .rw, 0⟩]⟩,
  -- EST_W
  ⟨0x2000c, [(4, 4)], [⟨0, 32, .rw, 0⟩]⟩,
  -- EST_FIRE_CNT
  ⟨0x2001c, [], [⟨0, 32, .ro, 0⟩]⟩,
  -- EST_LATE_CNT
  ⟨0x20020, [], [⟨0, 32, .rc, 0⟩]⟩,
  -- EST_SKIP_CNT
  ⟨0x20024, [], [⟨0, 32, .rc, 0⟩]⟩,
  -- EST_OVFL_CNT
  ⟨0x20028, [], [⟨0, 32, .rc, 0⟩]⟩,
  -- EST_FIRST_LATE
  ⟨0x2002c, [], [⟨31, 1, .ro, 0⟩, ⟨0, 13, .ro, 0⟩]⟩,
  -- EST_PIN_POL
  ⟨0x20030, [], [⟨0, 32, .rw, 0⟩]⟩,
  -- EST_PIN_LVL
  ⟨0x20034, [], [⟨0, 32, .ro, 0⟩]⟩,
  -- EST_OUT_LAT
  ⟨0x20038, [], [⟨0, 32, .ro, 8⟩]⟩]

/-- Registers of block DSP (part 1). -/
def regRowsDspA : List RegRow := [
  -- DSP_CFG
  ⟨0x30000, [], [⟨2, 1, .rw, 1⟩, ⟨1, 1, .rw, 1⟩, ⟨0, 1, .rw, 0⟩]⟩,
  -- DSP_STAT
  ⟨0x30004, [], [⟨7, 1, .ro, 0⟩, ⟨6, 1, .w1c, 0⟩, ⟨5, 1, .w1c, 0⟩, ⟨4, 1, .w1c, 0⟩, ⟨3, 1, .w1c, 0⟩, ⟨2, 1, .w1c, 0⟩, ⟨1, 1, .w1c, 0⟩, ⟨0, 1, .w1c, 0⟩]⟩,
  -- DSP_CWIN
  ⟨0x30008, [], [⟨0, 17, .rw, 1600⟩]⟩,
  -- DSP_CLEN
  ⟨0x3000c, [], [⟨0, 17, .ro, 0⟩]⟩,
  -- DSP_MIG
  ⟨0x30010, [], [⟨16, 8, .ro, 0⟩, ⟨0, 8, .rw, 16⟩]⟩,
  -- DSP_MIG_CNT
  ⟨0x30014, [], [⟨0, 32, .ro, 0⟩]⟩,
  -- DSP_OVR_CNT
  ⟨0x30018, [], [⟨0, 32, .rc, 0⟩]⟩,
  -- DSP_OVR_FIRST
  ⟨0x3001c, [], [⟨31, 1, .ro, 0⟩, ⟨8, 6, .ro, 0⟩, ⟨0, 8, .ro, 0⟩]⟩,
  -- DSP_SUB_CNT
  ⟨0x30020, [], [⟨0, 32, .rc, 0⟩]⟩,
  -- DSP_BG_POST
  ⟨0x30024, [], [⟨0, 32, .wo, 0⟩]⟩,
  -- DSP_BG_PEND
  ⟨0x30028, [], [⟨0, 32, .ro, 0⟩]⟩,
  -- DSP_OVR_MAP
  ⟨0x30030, [(5, 4)], [⟨0, 32, .w1c, 0⟩]⟩,
  -- DSP_EVT_OVR
  ⟨0x30050, [(2, 4)], [⟨0, 32, .w1c, 0⟩]⟩,
  -- DSP_BG_OVR
  ⟨0x30058, [], [⟨0, 32, .w1c, 0⟩]⟩]

/-- Registers of block DSP (part 2). -/
def regRowsDspB : List RegRow := [
  -- DSP_USE
  ⟨0x30100, [(16, 4)], [⟨0, 17, .ro, 0⟩]⟩,
  -- DSP_PEAK
  ⟨0x30140, [(16, 4)], [⟨0, 17, .rc, 0⟩]⟩,
  -- DSP_FLOW
  ⟨0x31000, [(256, 4)], [⟨31, 1, .rw, 0⟩, ⟨30, 1, .rw, 0⟩, ⟨16, 5, .ro, 0⟩, ⟨8, 8, .rw, 255⟩, ⟨0, 4, .ro, 0⟩]⟩,
  -- DSP_FMEM
  ⟨0x32000, [(160, 4)], [⟨31, 1, .rw, 0⟩, ⟨8, 8, .rw, 0⟩, ⟨0, 8, .rw, 255⟩]⟩,
  -- DSP_DL
  ⟨0x33000, [(160, 4)], [⟨0, 18, .ro, 0⟩]⟩]

/-- Registers of block DSP. -/
def regRowsDsp : List RegRow := regRowsDspA ++ regRowsDspB

/-- Registers of block PIR. -/
def regRowsPir : List RegRow := [
  -- PIR_CTL
  ⟨0x40000, [(16, 4096)], [⟨2, 1, .w1s, 0⟩, ⟨1, 1, .w1s, 0⟩, ⟨0, 1, .w1s, 0⟩]⟩,
  -- PIR_STAT
  ⟨0x40004, [(16, 4096)], [⟨16, 6, .ro, 0⟩, ⟨12, 1, .w1c, 0⟩, ⟨11, 1, .w1c, 0⟩, ⟨10, 1, .w1c, 0⟩, ⟨9, 1, .w1c, 0⟩, ⟨8, 1, .w1c, 0⟩, ⟨0, 3, .ro, 0⟩]⟩,
  -- PIR_UC_VER
  ⟨0x40008, [(16, 4096)], [⟨24, 8, .ro, 0⟩, ⟨16, 8, .ro, 0⟩, ⟨8, 8, .ro, 0⟩, ⟨0, 8, .ro, 0⟩]⟩,
  -- PIR_UC_CRC
  ⟨0x4000c, [(16, 4096)], [⟨0, 32, .ro, 0⟩]⟩,
  -- PIR_UC_CALC
  ⟨0x40010, [(16, 4096)], [⟨0, 32, .ro, 0⟩]⟩,
  -- PIR_SCRUB
  ⟨0x40014, [(16, 4096)], [⟨16, 16, .ro, 0⟩, ⟨0, 14, .ro, 0⟩]⟩,
  -- PIR_ICE_CNT
  ⟨0x40018, [(16, 4096)], [⟨0, 32, .rc, 0⟩]⟩,
  -- PIR_DCE_CNT
  ⟨0x4001c, [(16, 4096)], [⟨0, 32, .rc, 0⟩]⟩,
  -- PIR_UE_INFO
  ⟨0x40020, [(16, 4096)], [⟨31, 1, .ro, 0⟩, ⟨28, 3, .rc, 0⟩, ⟨0, 14, .rc, 0⟩]⟩,
  -- PIR_FAULT_CNT
  ⟨0x40024, [(16, 4096)], [⟨0, 32, .rc, 0⟩]⟩,
  -- PIR_TASKS
  ⟨0x40028, [(16, 4096)], [⟨0, 32, .ro, 0⟩]⟩,
  -- PIR_REST_CNT
  ⟨0x4002c, [(16, 4096)], [⟨0, 32, .rc, 0⟩]⟩,
  -- PIR_RES
  ⟨0x40040, [(16, 4096), (8, 4)], [⟨0, 32, .ro, 4294967295⟩]⟩]

/-- Registers of block AXT. -/
def regRowsAxt : List RegRow := [
  -- AXT_W0
  ⟨0x50000, [(160, 16)], [⟨31, 1, .tv, 0⟩, ⟨28, 2, .tv, 0⟩, ⟨24, 4, .tv, 0⟩, ⟨0, 16, .tv, 0⟩]⟩,
  -- AXT_W1
  ⟨0x50004, [(160, 16)], [⟨16, 9, .rw, 0⟩, ⟨0, 9, .rw, 0⟩]⟩,
  -- AXT_W2
  ⟨0x50008, [(160, 16)], [⟨28, 4, .ro, 0⟩, ⟨27, 1, .ro, 0⟩, ⟨26, 1, .ro, 0⟩, ⟨24, 2, .ro, 0⟩, ⟨16, 8, .ro, 0⟩, ⟨0, 16, .ro, 0⟩]⟩,
  -- AXT_W3
  ⟨0x5000c, [(160, 16)], []⟩,
  -- AXT_COUNT
  ⟨0x51000, [], [⟨24, 8, .ro, 0⟩, ⟨16, 8, .ro, 0⟩, ⟨8, 8, .ro, 0⟩, ⟨0, 8, .ro, 0⟩]⟩,
  -- AXT_STAT
  ⟨0x51004, [], [⟨5, 1, .w1c, 0⟩, ⟨4, 1, .w1c, 0⟩, ⟨3, 1, .w1c, 0⟩, ⟨2, 1, .w1c, 0⟩, ⟨1, 1, .w1c, 0⟩, ⟨0, 1, .w1c, 0⟩]⟩,
  -- AXT_FLT_MAP
  ⟨0x51010, [(5, 4)], [⟨0, 32, .w1c, 0⟩]⟩]

/-- Registers of block DCK. -/
def regRowsDck : List RegRow := [
  -- DCK_CFG
  ⟨0x80000, [], [⟨0, 1, .rw, 1⟩]⟩,
  -- DCK_PAGE
  ⟨0x80004, [], [⟨0, 3, .rw, 0⟩]⟩,
  -- DCK_STAT
  ⟨0x80008, [], [⟨3, 1, .w1c, 0⟩, ⟨2, 1, .w1c, 0⟩, ⟨1, 1, .w1c, 0⟩, ⟨0, 1, .w1c, 0⟩]⟩,
  -- DCK_CE_CNT
  ⟨0x8000c, [], [⟨0, 32, .rc, 0⟩]⟩,
  -- DCK_UE_CNT
  ⟨0x80010, [], [⟨0, 32, .rc, 0⟩]⟩,
  -- DCK_UE_ADDR
  ⟨0x80014, [], [⟨31, 1, .ro, 0⟩, ⟨0, 21, .ro, 0⟩]⟩,
  -- DCK_SCRUB
  ⟨0x80018, [], [⟨16, 16, .ro, 0⟩]⟩,
  -- DCK_CAM_BAD
  ⟨0x8001c, [], [⟨31, 1, .ro, 0⟩, ⟨0, 17, .ro, 0⟩]⟩]

/-- Registers of block PWM (part 1). -/
def regRowsPwmA : List RegRow := [
  -- PWM_CFG
  ⟨0x100000, [(12, 64)], [⟨16, 8, .rw, 0⟩, ⟨8, 7, .rw, 1⟩, ⟨5, 1, .rw, 0⟩, ⟨3, 2, .rw, 0⟩, ⟨2, 1, .rw, 0⟩, ⟨1, 1, .rw, 0⟩, ⟨0, 1, .rw, 0⟩]⟩,
  -- PWM_PER
  ⟨0x100004, [(12, 64)], [⟨0, 18, .rw, 64⟩]⟩,
  -- PWM_PHASE
  ⟨0x100008, [(12, 64)], [⟨0, 18, .rw, 0⟩]⟩,
  -- PWM_DT
  ⟨0x10000c, [(12, 64)], [⟨0, 10, .rw, 0⟩]⟩,
  -- PWM_BS
  ⟨0x100010, [(12, 64)], [⟨16, 8, .rw, 0⟩, ⟨0, 16, .rw, 0⟩]⟩,
  -- PWM_CMP
  ⟨0x100014, [(12, 64), (4, 4)], [⟨4, 18, .rw, 0⟩, ⟨0, 4, .rw, 0⟩]⟩,
  -- PWM_FST
  ⟨0x100024, [(12, 64)], [⟨0, 8, .rw, 0⟩]⟩,
  -- PWM_POL
  ⟨0x100028, [(12, 64)], [⟨0, 8, .rw, 0⟩]⟩,
  -- PWM_STAT
  ⟨0x10002c, [(12, 64)], [⟨16, 4, .ro, 0⟩, ⟨8, 4, .ro, 0⟩, ⟨6, 1, .ro, 0⟩, ⟨5, 1, .w1c, 0⟩, ⟨4, 1, .w1c, 0⟩, ⟨3, 1, .w1c, 0⟩, ⟨2, 1, .w1c, 0⟩, ⟨1, 1, .w1c, 0⟩, ⟨0, 1, .w1c, 0⟩]⟩,
  -- PWM_CNT
  ⟨0x100030, [(12, 64)], [⟨0, 18, .ro, 0⟩]⟩,
  -- PWM_FLT_MAP
  ⟨0x100400, [(8, 4)], [⟨16, 1, .rw, 1⟩, ⟨0, 12, .rw, 4095⟩]⟩,
  -- PWM_FLT_STAT
  ⟨0x100420, [], [⟨24, 1, .ro, 0⟩, ⟨16, 8, .w1c, 0⟩, ⟨8, 8, .ro, 0⟩, ⟨0, 8, .ro, 0⟩]⟩,
  -- PWM_FLT_CLR
  ⟨0x100424, [], [⟨0, 8, .wo, 0⟩]⟩,
  -- PWM_FLT_REARM
  ⟨0x100428, [], [⟨0, 20, .rw, 8000⟩]⟩]

/-- Registers of block PWM (part 2). -/
def regRowsPwmB : List RegRow := [
  -- PWM_FORCE
  ⟨0x10042c, [], [⟨0, 12, .pw, 0⟩]⟩,
  -- PWM_FLT_FIRST
  ⟨0x100430, [], [⟨31, 1, .w1c, 0⟩, ⟨0, 4, .ro, 0⟩]⟩,
  -- PWM_FLT_CNT
  ⟨0x100434, [], [⟨0, 32, .rc, 0⟩]⟩]

/-- Registers of block PWM. -/
def regRowsPwm : List RegRow := regRowsPwmA ++ regRowsPwmB

/-- Registers of block CLN (part 1). -/
def regRowsClnA : List RegRow := [
  -- CLN_CFG
  ⟨0x110000, [(16, 256)], [⟨3, 1, .rw, 0⟩, ⟨1, 2, .rw, 0⟩, ⟨0, 1, .rw, 0⟩]⟩,
  -- CLN_PAIRS
  ⟨0x110004, [(16, 256)], [⟨24, 6, .rw, 0⟩, ⟨16, 6, .rw, 0⟩, ⟨8, 6, .rw, 0⟩, ⟨0, 6, .rw, 0⟩]⟩,
  -- CLN_SRC
  ⟨0x110008, [(16, 256)], [⟨24, 1, .rw, 0⟩, ⟨20, 4, .rw, 0⟩, ⟨16, 2, .rw, 0⟩, ⟨8, 6, .rw, 0⟩, ⟨0, 6, .rw, 0⟩]⟩,
  -- CLN_STAT
  ⟨0x11000c, [(16, 256)], [⟨7, 1, .ro, 0⟩, ⟨5, 1, .w1c, 0⟩, ⟨4, 1, .ro, 0⟩, ⟨3, 1, .ro, 0⟩, ⟨2, 1, .w1c, 0⟩, ⟨1, 1, .w1c, 0⟩, ⟨0, 1, .w1c, 0⟩]⟩,
  -- CLN_KPD
  ⟨0x110010, [(16, 256)], [⟨0, 32, .rw, 0⟩]⟩,
  -- CLN_KID
  ⟨0x110014, [(16, 256)], [⟨0, 32, .rw, 0⟩]⟩,
  -- CLN_KPQ
  ⟨0x110018, [(16, 256)], [⟨0, 32, .rw, 0⟩]⟩,
  -- CLN_KIQ
  ⟨0x11001c, [(16, 256)], [⟨0, 32, .rw, 0⟩]⟩,
  -- CLN_LD
  ⟨0x110020, [(16, 256)], [⟨0, 32, .rw, 0⟩]⟩,
  -- CLN_LQ
  ⟨0x110024, [(16, 256)], [⟨0, 32, .rw, 0⟩]⟩,
  -- CLN_ID_REF
  ⟨0x110028, [(16, 256)], [⟨0, 32, .rw, 0⟩]⟩,
  -- CLN_UMOD
  ⟨0x11002c, [(16, 256)], [⟨0, 32, .rw, 1064514355⟩]⟩,
  -- CLN_ADV
  ⟨0x110030, [(16, 256)], [⟨0, 32, .rw, 1069547520⟩]⟩,
  -- CLN_ISCALE
  ⟨0x110034, [(16, 256)], [⟨0, 32, .rw, 0⟩]⟩]

/-- Registers of block CLN (part 2). -/
def regRowsClnB : List RegRow := [
  -- CLN_I_TRIP
  ⟨0x110038, [(16, 256)], [⟨0, 32, .rw, 0⟩]⟩,
  -- CLN_UDC
  ⟨0x11003c, [(16, 256)], [⟨0, 32, .rw, 0⟩]⟩,
  -- CLN_EL_SCALE
  ⟨0x110040, [(16, 256)], [⟨0, 32, .rw, 0⟩]⟩,
  -- CLN_EL_OFF
  ⟨0x110044, [(16, 256)], [⟨0, 32, .rw, 0⟩]⟩,
  -- CLN_R_PH
  ⟨0x110048, [(16, 256)], [⟨0, 32, .rw, 0⟩]⟩,
  -- CLN_I_BASE
  ⟨0x11004c, [(16, 256)], [⟨0, 32, .rw, 0⟩]⟩,
  -- CLN_I_CEIL
  ⟨0x110050, [(16, 256)], [⟨0, 32, .rw, 0⟩]⟩,
  -- CLN_K_LOAD
  ⟨0x110054, [(16, 256)], [⟨0, 32, .rw, 0⟩]⟩,
  -- CLN_I_IDLE
  ⟨0x110058, [(16, 256)], [⟨0, 32, .rw, 0⟩]⟩,
  -- CLN_IDLE_T
  ⟨0x11005c, [(16, 256)], [⟨0, 32, .rw, 0⟩]⟩,
  -- CLN_ID
  ⟨0x110080, [(16, 256)], [⟨0, 32, .ro, 0⟩]⟩,
  -- CLN_IQ
  ⟨0x110084, [(16, 256)], [⟨0, 32, .ro, 0⟩]⟩,
  -- CLN_UD
  ⟨0x110088, [(16, 256)], [⟨0, 32, .ro, 0⟩]⟩,
  -- CLN_UQ
  ⟨0x11008c, [(16, 256)], [⟨0, 32, .ro, 0⟩]⟩]

/-- Registers of block CLN (part 3). -/
def regRowsClnC : List RegRow := [
  -- CLN_I_SET
  ⟨0x110090, [(16, 256)], [⟨0, 32, .ro, 0⟩]⟩,
  -- CLN_THETA
  ⟨0x110094, [(16, 256)], [⟨0, 32, .ro, 0⟩]⟩,
  -- CLN_IQ_REF
  ⟨0x110098, [(16, 256)], [⟨0, 32, .ro, 0⟩]⟩]

/-- Registers of block CLN. -/
def regRowsCln : List RegRow := regRowsClnA ++ regRowsClnB ++ regRowsClnC

/-- Registers of block STP. -/
def regRowsStp : List RegRow := [
  -- STP_CFG
  ⟨0x120000, [(32, 64)], [⟨8, 8, .rw, 0⟩, ⟨3, 1, .rw, 0⟩, ⟨2, 1, .rw, 0⟩, ⟨1, 1, .rw, 0⟩, ⟨0, 1, .rw, 0⟩]⟩,
  -- STP_NUM
  ⟨0x120004, [(32, 64)], [⟨0, 32, .rw, 0⟩]⟩,
  -- STP_DEN
  ⟨0x120008, [(32, 64)], [⟨0, 32, .rw, 1⟩]⟩,
  -- STP_TIM
  ⟨0x12000c, [(32, 64)], [⟨24, 8, .rw, 8⟩, ⟨16, 8, .rw, 16⟩, ⟨0, 16, .rw, 80⟩]⟩,
  -- STP_LAGMAX
  ⟨0x120010, [(32, 64)], [⟨0, 32, .rw, 0⟩]⟩,
  -- STP_POS
  ⟨0x120014, [(32, 64)], [⟨0, 32, .ro, 0⟩]⟩,
  -- STP_LAG
  ⟨0x120018, [(32, 64)], [⟨0, 32, .ro, 0⟩]⟩,
  -- STP_STAT
  ⟨0x12001c, [(32, 64)], [⟨2, 1, .ro, 0⟩, ⟨1, 1, .w1c, 0⟩, ⟨0, 1, .w1c, 0⟩]⟩]

/-- Registers of block ENC. -/
def regRowsEnc : List RegRow := [
  -- ENC_CFG
  ⟨0x130000, [(16, 64)], [⟨22, 5, .rw, 0⟩, ⟨16, 6, .rw, 8⟩, ⟨13, 1, .rw, 0⟩, ⟨4, 8, .rw, 0⟩, ⟨3, 1, .rw, 0⟩, ⟨1, 2, .rw, 0⟩, ⟨0, 1, .rw, 0⟩]⟩,
  -- ENC_CPER
  ⟨0x130004, [(16, 64)], [⟨0, 13, .rw, 80⟩]⟩,
  -- ENC_SPER
  ⟨0x130008, [(16, 64)], [⟨0, 18, .rw, 0⟩]⟩,
  -- ENC_LEAD
  ⟨0x13000c, [(16, 64)], [⟨0, 18, .rw, 0⟩]⟩,
  -- ENC_POS
  ⟨0x130010, [(16, 64)], [⟨0, 32, .ro, 0⟩]⟩,
  -- ENC_LPOS
  ⟨0x130014, [(16, 64)], [⟨0, 32, .ro, 0⟩]⟩,
  -- ENC_STAT
  ⟨0x130018, [(16, 64)], [⟨8, 3, .ro, 0⟩, ⟨5, 1, .w1c, 0⟩, ⟨4, 1, .ro, 0⟩, ⟨3, 1, .w1c, 0⟩, ⟨2, 1, .w1c, 0⟩, ⟨1, 1, .w1c, 0⟩, ⟨0, 1, .w1c, 0⟩]⟩,
  -- ENC_ERRCNT
  ⟨0x13001c, [(16, 64)], [⟨0, 32, .rc, 0⟩]⟩,
  -- ENC_DLY
  ⟨0x130020, [(16, 64)], [⟨0, 16, .ro, 0⟩]⟩]

/-- Registers of block SDM. -/
def regRowsSdm : List RegRow := [
  -- SDM_CLK
  ⟨0x140000, [(4, 4)], [⟨12, 1, .rw, 0⟩, ⟨9, 3, .rw, 0⟩, ⟨8, 1, .rw, 0⟩, ⟨0, 8, .rw, 40⟩]⟩,
  -- SDM_CFG
  ⟨0x140100, [(48, 16)], [⟨8, 9, .rw, 64⟩, ⟨5, 1, .rw, 0⟩, ⟨1, 4, .rw, 0⟩, ⟨0, 1, .rw, 0⟩]⟩,
  -- SDM_DATA
  ⟨0x140104, [(48, 16)], [⟨0, 32, .ro, 0⟩]⟩,
  -- SDM_STAT
  ⟨0x140108, [(48, 16)], [⟨1, 1, .w1c, 0⟩, ⟨0, 1, .w1c, 0⟩]⟩]

/-- Registers of block ADC. -/
def regRowsAdc : List RegRow := [
  -- ADC_CFG
  ⟨0x150000, [], [⟨0, 1, .rw, 0⟩]⟩,
  -- ADC_SEQ0
  ⟨0x150004, [], [⟨0, 32, .rw, 2022209672⟩]⟩,
  -- ADC_SEQ1
  ⟨0x150008, [], [⟨0, 32, .rw, 2022209672⟩]⟩,
  -- ADC_STAT
  ⟨0x150010, [], [⟨1, 4, .ro, 0⟩, ⟨0, 1, .ro, 0⟩]⟩,
  -- ADC_DATA
  ⟨0x150020, [(8, 4)], [⟨16, 16, .ro, 0⟩, ⟨0, 16, .ro, 0⟩]⟩]

/-- Registers of block ZLP (part 1). -/
def regRowsZlpA : List RegRow := [
  -- ZLP_CFG
  ⟨0x180000, [], [⟨24, 8, .rw, 0⟩, ⟨16, 8, .rw, 0⟩, ⟨9, 1, .rw, 0⟩, ⟨8, 1, .rw, 0⟩, ⟨4, 1, .rw, 0⟩, ⟨0, 2, .rw, 3⟩]⟩,
  -- ZLP_STAT
  ⟨0x180004, [], [⟨5, 1, .ro, 0⟩, ⟨4, 1, .w1c, 0⟩, ⟨3, 1, .w1c, 0⟩, ⟨2, 1, .w1c, 0⟩, ⟨1, 1, .ro, 0⟩, ⟨0, 1, .ro, 0⟩]⟩,
  -- ZLP_GUARD
  ⟨0x180008, [], [⟨0, 11, .rw, 128⟩]⟩,
  -- ZLP_BUDGET
  ⟨0x18000c, [], [⟨0, 18, .ro, 0⟩]⟩,
  -- ZLP_LOOP
  ⟨0x180010, [(4, 4)], [⟨0, 18, .ro, 0⟩]⟩,
  -- ZLP_XLOOP
  ⟨0x180020, [], [⟨16, 16, .ro, 0⟩, ⟨0, 16, .ro, 0⟩]⟩,
  -- ZLP_FAULT
  ⟨0x180024, [], [⟨16, 6, .ro, 0⟩, ⟨8, 6, .ro, 0⟩, ⟨0, 8, .ro, 0⟩]⟩,
  -- ZLP_CYMGEN
  ⟨0x180028, [], [⟨0, 16, .ro, 0⟩]⟩,
  -- ZLP_SCFG
  ⟨0x180040, [], [⟨14, 1, .rw, 1⟩, ⟨8, 6, .rw, 0⟩, ⟨4, 1, .rw, 0⟩, ⟨0, 2, .rw, 0⟩]⟩,
  -- ZLP_SSTAT
  ⟨0x180044, [], [⟨16, 8, .ro, 0⟩, ⟨6, 1, .w1c, 0⟩, ⟨5, 1, .ro, 0⟩, ⟨4, 1, .w1c, 0⟩, ⟨0, 3, .ro, 0⟩]⟩,
  -- ZLP_RSTAT
  ⟨0x180048, [], [⟨8, 4, .ro, 0⟩, ⟨0, 4, .ro, 0⟩]⟩,
  -- ZLP_BRK
  ⟨0x18004c, [], [⟨24, 8, .ro, 0⟩, ⟨16, 8, .ro, 0⟩, ⟨8, 8, .ro, 0⟩, ⟨0, 8, .ro, 0⟩]⟩,
  -- ZLP_TCFG
  ⟨0x180050, [], [⟨2, 1, .rw, 0⟩, ⟨1, 1, .rw, 0⟩, ⟨0, 1, .rw, 0⟩]⟩,
  -- ZLP_TSTAT
  ⟨0x180054, [], [⟨8, 8, .ro, 0⟩, ⟨2, 1, .w1c, 0⟩, ⟨1, 1, .ro, 0⟩, ⟨0, 1, .ro, 0⟩]⟩]

/-- Registers of block ZLP (part 2). -/
def regRowsZlpB : List RegRow := [
  -- ZLP_TOFF
  ⟨0x180058, [], [⟨0, 32, .ro, 0⟩]⟩,
  -- ZLP_TDLV
  ⟨0x18005c, [], [⟨0, 18, .ro, 0⟩]⟩,
  -- ZLP_WV_CNT
  ⟨0x180060, [], [⟨0, 32, .rc, 0⟩]⟩,
  -- ZLP_DRIFT_CNT
  ⟨0x180064, [], [⟨0, 32, .rc, 0⟩]⟩,
  -- ZLP_BRK_CNT
  ⟨0x180068, [], [⟨0, 32, .rc, 0⟩]⟩,
  -- ZLP_JOIN_CNT
  ⟨0x18006c, [], [⟨16, 16, .rc, 0⟩, ⟨0, 16, .rc, 0⟩]⟩,
  -- ZLP_P_CFG
  ⟨0x180100, [(6, 64)], [⟨8, 1, .rw, 0⟩, ⟨6, 2, .rw, 2⟩, ⟨4, 2, .rw, 0⟩, ⟨3, 1, .rw, 1⟩, ⟨1, 1, .rw, 1⟩, ⟨0, 1, .rw, 0⟩]⟩,
  -- ZLP_P_STAT
  ⟨0x180104, [(6, 64)], [⟨8, 1, .w1c, 0⟩, ⟨7, 1, .w1c, 0⟩, ⟨6, 1, .w1c, 0⟩, ⟨5, 1, .w1c, 0⟩, ⟨4, 1, .w1c, 0⟩, ⟨3, 1, .ro, 0⟩, ⟨2, 1, .ro, 0⟩, ⟨1, 1, .ro, 0⟩, ⟨0, 1, .ro, 0⟩]⟩,
  -- ZLP_P_RXCNT
  ⟨0x180108, [(6, 64)], [⟨0, 32, .ro, 0⟩]⟩,
  -- ZLP_P_FCSCNT
  ⟨0x18010c, [(6, 64)], [⟨0, 32, .rc, 0⟩]⟩,
  -- ZLP_P_HCRCCNT
  ⟨0x180110, [(6, 64)], [⟨0, 32, .rc, 0⟩]⟩,
  -- ZLP_P_EJCNT
  ⟨0x180114, [(6, 64)], [⟨0, 32, .rc, 0⟩]⟩,
  -- ZLP_P_CODECNT
  ⟨0x180118, [(6, 64)], [⟨0, 32, .rc, 0⟩]⟩,
  -- ZLP_P_SFP_CTL
  ⟨0x18011c, [(6, 64)], [⟨31, 1, .w1s, 0⟩, ⟨30, 1, .ro, 0⟩, ⟨29, 1, .rw, 0⟩, ⟨16, 1, .rw, 0⟩, ⟨8, 8, .rw, 0⟩, ⟨0, 8, .rw, 0⟩]⟩]

/-- Registers of block ZLP (part 3). -/
def regRowsZlpC : List RegRow := [
  -- ZLP_P_DDM
  ⟨0x180120, [(6, 64)], [⟨16, 16, .ro, 0⟩, ⟨0, 16, .ro, 0⟩]⟩,
  -- ZLP_STN_STAT
  ⟨0x180800, [(256, 16)], [⟨24, 8, .ro, 0⟩, ⟨16, 8, .ro, 0⟩, ⟨9, 1, .ro, 0⟩, ⟨8, 1, .ro, 0⟩, ⟨0, 3, .ro, 0⟩]⟩,
  -- ZLP_STN_DA
  ⟨0x180804, [(256, 16)], [⟨0, 24, .ro, 0⟩]⟩,
  -- ZLP_STN_DB
  ⟨0x180808, [(256, 16)], [⟨0, 24, .ro, 0⟩]⟩,
  -- ZLP_STN_CNT
  ⟨0x18080c, [(256, 16)], [⟨24, 8, .rc, 0⟩, ⟨16, 8, .rc, 0⟩, ⟨0, 16, .rc, 0⟩]⟩]

/-- Registers of block ZLP. -/
def regRowsZlp : List RegRow := regRowsZlpA ++ regRowsZlpB ++ regRowsZlpC

/-- Registers of block CYM. -/
def regRowsCym : List RegRow := [
  -- CYM_W0
  ⟨0x190000, [(4096, 16)], [⟨29, 3, .rw, 0⟩, ⟨27, 2, .rw, 0⟩, ⟨26, 1, .rw, 0⟩, ⟨0, 16, .rw, 0⟩]⟩,
  -- CYM_W1
  ⟨0x190004, [(4096, 16)], [⟨16, 16, .rw, 0⟩, ⟨0, 16, .rw, 0⟩]⟩,
  -- CYM_W2
  ⟨0x190008, [(4096, 16)], [⟨18, 14, .rw, 0⟩, ⟨16, 2, .rw, 0⟩, ⟨8, 8, .rw, 0⟩, ⟨0, 8, .rw, 0⟩]⟩,
  -- CYM_W3
  ⟨0x19000c, [(4096, 16)], [⟨24, 8, .rw, 0⟩]⟩,
  -- CYM_STAT
  ⟨0x1a0000, [], [⟨1, 1, .ro, 0⟩, ⟨0, 1, .w1c, 0⟩]⟩,
  -- CYM_POS
  ⟨0x1a0004, [], [⟨8, 6, .ro, 0⟩, ⟨0, 6, .ro, 0⟩]⟩]

/-- Registers of block ACQ (part 1). -/
def regRowsAcqA : List RegRow := [
  -- ACQ_CFG
  ⟨0x1c0000, [], [⟨8, 8, .rw, 0⟩, ⟨0, 1, .rw, 0⟩]⟩,
  -- ACQ_CTL
  ⟨0x1c0004, [], [⟨2, 1, .w1s, 0⟩, ⟨1, 1, .w1s, 0⟩, ⟨0, 1, .w1s, 0⟩]⟩,
  -- ACQ_STAT
  ⟨0x1c0008, [], [⟨24, 8, .ro, 0⟩, ⟨16, 3, .ro, 0⟩, ⟨15, 1, .ro, 0⟩, ⟨14, 1, .w1c, 0⟩, ⟨13, 1, .w1c, 0⟩, ⟨12, 1, .w1c, 0⟩, ⟨11, 1, .w1c, 0⟩, ⟨4, 4, .ro, 0⟩, ⟨0, 3, .ro, 0⟩]⟩,
  -- ACQ_TICK
  ⟨0x1c000c, [], [⟨0, 24, .rw, 25000⟩]⟩,
  -- ACQ_PHASE
  ⟨0x1c0010, [], [⟨0, 18, .rw, 0⟩]⟩,
  -- ACQ_PRE
  ⟨0x1c0014, [], [⟨0, 24, .rw, 0⟩]⟩,
  -- ACQ_POST
  ⟨0x1c0018, [], [⟨0, 24, .rw, 0⟩]⟩,
  -- ACQ_BASE
  ⟨0x1c001c, [], [⟨0, 13, .rw, 0⟩]⟩,
  -- ACQ_SIZE
  ⟨0x1c0020, [], [⟨0, 14, .rw, 0⟩]⟩,
  -- ACQ_RATE
  ⟨0x1c0024, [], [⟨0, 3, .rw, 0⟩]⟩,
  -- ACQ_FIFO
  ⟨0x1c0028, [], [⟨0, 19, .ro, 0⟩]⟩,
  -- ACQ_FIFO_TH
  ⟨0x1c002c, [], [⟨16, 9, .rw, 192⟩, ⟨0, 9, .rw, 64⟩]⟩,
  -- ACQ_TRIG_SEL
  ⟨0x1c0030, [], [⟨0, 16, .rw, 0⟩]⟩,
  -- ACQ_TIGN_CNT
  ⟨0x1c0034, [], [⟨0, 32, .rc, 0⟩]⟩]

/-- Registers of block ACQ (part 2). -/
def regRowsAcqB : List RegRow := [
  -- ACQ_DEAD
  ⟨0x1c0038, [], [⟨0, 32, .ro, 0⟩]⟩,
  -- ACQ_BLK
  ⟨0x1c003c, [], [⟨0, 32, .ro, 0⟩]⟩,
  -- ACQ_BSIZE
  ⟨0x1c0040, [], [⟨16, 8, .ro, 0⟩, ⟨0, 16, .ro, 0⟩]⟩,
  -- ACQ_CH_SRC
  ⟨0x1c0100, [(64, 4)], [⟨28, 4, .rw, 0⟩, ⟨14, 14, .rw, 0⟩, ⟨10, 4, .rw, 0⟩, ⟨9, 1, .rw, 0⟩]⟩,
  -- ACQ_MK_CFG
  ⟨0x1c0200, [(8, 16)], [⟨8, 6, .rw, 0⟩, ⟨3, 2, .rw, 0⟩, ⟨1, 1, .rw, 0⟩, ⟨0, 1, .rw, 0⟩]⟩,
  -- ACQ_MK_LO
  ⟨0x1c0204, [(8, 16)], [⟨0, 32, .rw, 0⟩]⟩,
  -- ACQ_MK_HI
  ⟨0x1c0208, [(8, 16)], [⟨0, 32, .rw, 0⟩]⟩,
  -- ACQ_MK_CNT
  ⟨0x1c020c, [(8, 16)], [⟨0, 32, .rc, 0⟩]⟩,
  -- ACQ_RM_CFG
  ⟨0x1c0300, [(16, 16)], [⟨1, 2, .rw, 0⟩, ⟨0, 1, .rw, 0⟩]⟩,
  -- ACQ_RM_EXP
  ⟨0x1c0304, [(16, 16)], [⟨0, 32, .rw, 0⟩]⟩,
  -- ACQ_RM_ERR
  ⟨0x1c0308, [(16, 16)], [⟨0, 32, .ro, 0⟩]⟩,
  -- ACQ_RM_STAT
  ⟨0x1c030c, [(16, 16)], [⟨16, 16, .ro, 0⟩, ⟨8, 8, .rc, 0⟩, ⟨1, 1, .ro, 0⟩, ⟨0, 1, .ro, 0⟩]⟩,
  -- ACQ_MASK_LO
  ⟨0x1c4000, [(8, 2048), (256, 8)], [⟨0, 32, .rw, 0⟩]⟩,
  -- ACQ_MASK_HI
  ⟨0x1c4004, [(8, 2048), (256, 8)], [⟨0, 32, .rw, 0⟩]⟩]

/-- Registers of block ACQ. -/
def regRowsAcq : List RegRow := regRowsAcqA ++ regRowsAcqB

/-- Registers of block TRG. -/
def regRowsTrg : List RegRow := [
  -- TRG_CFG
  ⟨0x1d0000, [(16, 32)], [⟨8, 6, .rw, 0⟩, ⟨6, 1, .rw, 0⟩, ⟨4, 2, .rw, 0⟩, ⟨1, 3, .rw, 0⟩, ⟨0, 1, .rw, 0⟩]⟩,
  -- TRG_HI
  ⟨0x1d0004, [(16, 32)], [⟨0, 32, .rw, 0⟩]⟩,
  -- TRG_LO
  ⟨0x1d0008, [(16, 32)], [⟨0, 32, .rw, 0⟩]⟩,
  -- TRG_W1
  ⟨0x1d000c, [(16, 32)], [⟨0, 32, .rw, 0⟩]⟩,
  -- TRG_W2
  ⟨0x1d0010, [(16, 32)], [⟨0, 32, .rw, 0⟩]⟩,
  -- TRG_TIME
  ⟨0x1d0014, [(16, 32)], [⟨0, 32, .rw, 0⟩]⟩,
  -- TRG_CNT
  ⟨0x1d0018, [(16, 32)], [⟨0, 32, .rc, 0⟩]⟩,
  -- TRG_LAST
  ⟨0x1d001c, [(16, 32)], [⟨0, 32, .ro, 0⟩]⟩,
  -- TRG_STAT
  ⟨0x1d0200, [], [⟨16, 16, .w1c, 0⟩, ⟨0, 16, .w1c, 0⟩]⟩]

/-- Registers of block KST (part 1). -/
def regRowsKstA : List RegRow := [
  -- KST_STAT
  ⟨0x200000, [], [⟨8, 4, .ro, 0⟩, ⟨7, 1, .ro, 0⟩, ⟨6, 1, .ro, 0⟩, ⟨5, 1, .ro, 0⟩, ⟨4, 1, .ro, 1⟩, ⟨0, 3, .ro, 0⟩]⟩,
  -- KST_PCV
  ⟨0x200004, [], [⟨0, 32, .ro, 0⟩]⟩,
  -- KST_PCV_NEW
  ⟨0x200008, [], [⟨0, 32, .ro, 0⟩]⟩,
  -- KST_IN
  ⟨0x20000c, [], [⟨16, 16, .ro, 0⟩, ⟨0, 16, .ro, 0⟩]⟩,
  -- KST_FUNC
  ⟨0x200010, [], [⟨16, 16, .ro, 0⟩, ⟨0, 16, .ro, 65535⟩]⟩,
  -- KST_ZONE
  ⟨0x200014, [], [⟨16, 16, .ro, 0⟩, ⟨0, 16, .ro, 65535⟩]⟩,
  -- KST_OUT
  ⟨0x200018, [], [⟨16, 2, .ro, 0⟩, ⟨4, 4, .ro, 0⟩, ⟨0, 4, .ro, 0⟩]⟩,
  -- KST_FW_REQ
  ⟨0x20001c, [], [⟨0, 2, .pw, 0⟩]⟩,
  -- KST_FW_STAT
  ⟨0x200020, [], [⟨16, 16, .ro, 0⟩, ⟨0, 8, .ro, 0⟩]⟩,
  -- KST_IFLT_CNT
  ⟨0x200024, [], [⟨0, 32, .rc, 0⟩]⟩,
  -- KST_XCMP_CNT
  ⟨0x200028, [], [⟨0, 32, .rc, 0⟩]⟩,
  -- KST_ACK_CNT
  ⟨0x20002c, [], [⟨0, 32, .rc, 0⟩]⟩,
  -- KST_UPS_CNT
  ⟨0x200030, [], [⟨0, 32, .rc, 0⟩]⟩,
  -- KST_WIGN_CNT
  ⟨0x200034, [], [⟨0, 32, .rc, 0⟩]⟩]

/-- Registers of block KST (part 2). -/
def regRowsKstB : List RegRow := [
  -- KST_SUPPLY
  ⟨0x200038, [], [⟨1, 1, .ro, 0⟩, ⟨0, 1, .ro, 0⟩]⟩,
  -- KST_STN_LOST
  ⟨0x200040, [(8, 4)], [⟨0, 32, .ro, 0⟩]⟩,
  -- KST_STN_FB
  ⟨0x200060, [(8, 4)], [⟨0, 32, .ro, 0⟩]⟩,
  -- KST_STN_WDX
  ⟨0x200080, [(8, 4)], [⟨0, 32, .ro, 0⟩]⟩,
  -- KST_PWIN
  ⟨0x201000, [(1024, 4)], [⟨0, 32, .rw, 0⟩]⟩]

/-- Registers of block KST. -/
def regRowsKst : List RegRow := regRowsKstA ++ regRowsKstB

/-- Registers of block TWN (part 1). -/
def regRowsTwnA : List RegRow := [
  -- TWN_CFG
  ⟨0x210000, [], [⟨16, 4, .tv, 4⟩, ⟨8, 8, .tv, 0⟩, ⟨1, 1, .tv, 0⟩, ⟨0, 1, .tv, 0⟩]⟩,
  -- TWN_CTL
  ⟨0x210004, [], [⟨2, 1, .w1s, 0⟩, ⟨1, 1, .w1s, 0⟩, ⟨0, 1, .w1s, 0⟩]⟩,
  -- TWN_STAT
  ⟨0x210008, [], [⟨16, 4, .ro, 0⟩, ⟨9, 1, .w1c, 0⟩, ⟨8, 1, .w1c, 0⟩, ⟨7, 1, .w1c, 0⟩, ⟨6, 1, .w1c, 0⟩, ⟨5, 1, .ro, 0⟩, ⟨4, 1, .ro, 0⟩, ⟨3, 1, .ro, 0⟩, ⟨0, 3, .ro, 0⟩]⟩,
  -- TWN_EPOCH
  ⟨0x21000c, [], [⟨16, 16, .ro, 0⟩, ⟨0, 16, .ro, 0⟩]⟩,
  -- TWN_PARTNER
  ⟨0x210010, [], [⟨16, 8, .ro, 0⟩, ⟨8, 3, .ro, 0⟩, ⟨0, 1, .ro, 0⟩]⟩,
  -- TWN_PHASE
  ⟨0x210014, [], [⟨0, 16, .ro, 0⟩]⟩,
  -- TWN_PDLV
  ⟨0x210018, [], [⟨0, 16, .ro, 0⟩]⟩,
  -- TWN_TOFF
  ⟨0x21001c, [], [⟨0, 32, .ro, 0⟩]⟩,
  -- TWN_DIGEST
  ⟨0x210020, [], [⟨0, 32, .ro, 0⟩]⟩,
  -- TWN_PDIGEST
  ⟨0x210024, [], [⟨0, 32, .ro, 0⟩]⟩,
  -- TWN_MIS_CNT
  ⟨0x210028, [], [⟨0, 32, .rc, 0⟩]⟩,
  -- TWN_MIS_FIRST
  ⟨0x21002c, [], [⟨31, 1, .ro, 0⟩, ⟨8, 6, .ro, 0⟩, ⟨0, 6, .ro, 0⟩]⟩,
  -- TWN_HB_MISS
  ⟨0x210030, [], [⟨22, 10, .rc, 0⟩, ⟨11, 11, .rc, 0⟩, ⟨0, 11, .rc, 0⟩]⟩,
  -- TWN_TAKE_CNT
  ⟨0x210034, [], [⟨0, 32, .rc, 0⟩]⟩]

/-- Registers of block TWN (part 2). -/
def regRowsTwnB : List RegRow := [
  -- TWN_JOIN
  ⟨0x210038, [], [⟨31, 1, .ro, 0⟩, ⟨0, 8, .ro, 0⟩]⟩,
  -- TWN_PAIR_ERR
  ⟨0x21003c, [], [⟨0, 32, .rc, 0⟩]⟩]

/-- Registers of block TWN. -/
def regRowsTwn : List RegRow := regRowsTwnA ++ regRowsTwnB

/-- Registers of block HIF (part 1). -/
def regRowsHifA : List RegRow := [
  -- HIF_ID
  ⟨0x220000, [], [⟨16, 16, .ro, 324⟩, ⟨0, 8, .ro, 161⟩]⟩,
  -- HIF_LINK
  ⟨0x220004, [], [⟨8, 1, .ro, 0⟩, ⟨4, 4, .ro, 0⟩, ⟨0, 4, .ro, 0⟩]⟩,
  -- HIF_CTL
  ⟨0x220008, [], [⟨1, 1, .rw, 0⟩, ⟨0, 1, .rw, 0⟩]⟩,
  -- HIF_STAT
  ⟨0x22000c, [], [⟨6, 1, .w1c, 0⟩, ⟨5, 1, .w1c, 0⟩, ⟨4, 1, .w1c, 0⟩, ⟨3, 1, .ro, 0⟩, ⟨2, 1, .w1c, 0⟩, ⟨1, 1, .w1c, 0⟩]⟩,
  -- HIF_DMA_BASE_LO
  ⟨0x220010, [], [⟨0, 32, .rw, 0⟩]⟩,
  -- HIF_DMA_BASE_HI
  ⟨0x220014, [], [⟨0, 32, .rw, 0⟩]⟩,
  -- HIF_DMA_LIM_LO
  ⟨0x220018, [], [⟨0, 32, .rw, 0⟩]⟩,
  -- HIF_DMA_LIM_HI
  ⟨0x22001c, [], [⟨0, 32, .rw, 0⟩]⟩,
  -- HIF_DMA_LAT
  ⟨0x220020, [], [⟨16, 16, .rc, 0⟩, ⟨0, 16, .ro, 0⟩]⟩,
  -- HIF_CQ_STAT
  ⟨0x220024, [], [⟨16, 11, .ro, 0⟩, ⟨0, 11, .ro, 1023⟩]⟩,
  -- HIF_CQ_PTR
  ⟨0x220028, [], [⟨31, 1, .ro, 1⟩, ⟨16, 10, .ro, 0⟩, ⟨0, 10, .ro, 0⟩]⟩,
  -- HIF_SQ_STAT
  ⟨0x220030, [(4, 4)], [⟨17, 1, .ro, 0⟩, ⟨16, 1, .ro, 0⟩, ⟨8, 8, .ro, 0⟩, ⟨0, 8, .ro, 0⟩]⟩,
  -- HIF_CMD_CNT
  ⟨0x220040, [], [⟨0, 32, .ro, 0⟩]⟩,
  -- HIF_REF_CNT
  ⟨0x220044, [], [⟨0, 32, .rc, 0⟩]⟩]

/-- Registers of block HIF (part 2). -/
def regRowsHifB : List RegRow := [
  -- HIF_STALL_CNT
  ⟨0x220048, [], [⟨0, 32, .rc, 0⟩]⟩,
  -- HIF_WR_IGN_CNT
  ⟨0x22004c, [], [⟨0, 32, .rc, 0⟩]⟩,
  -- HIF_FIRST_REF
  ⟨0x220050, [], [⟨31, 1, .ro, 0⟩, ⟨24, 2, .ro, 0⟩, ⟨8, 8, .ro, 0⟩, ⟨0, 8, .ro, 0⟩]⟩]

/-- Registers of block HIF. -/
def regRowsHif : List RegRow := regRowsHifA ++ regRowsHifB

/-- Registers of block EVT. -/
def regRowsEvt : List RegRow := [
  -- EVT_CFG
  ⟨0x230000, [], [⟨1, 1, .rw, 0⟩, ⟨0, 1, .rw, 0⟩]⟩,
  -- EVT_STAT
  ⟨0x230004, [], [⟨2, 1, .ro, 0⟩, ⟨1, 1, .ro, 0⟩, ⟨0, 1, .w1c, 0⟩]⟩,
  -- EVT_HEAD
  ⟨0x230008, [], [⟨0, 10, .rw, 0⟩]⟩,
  -- EVT_TAIL
  ⟨0x23000c, [], [⟨31, 1, .ro, 1⟩, ⟨0, 10, .ro, 0⟩]⟩,
  -- EVT_LOST_CNT
  ⟨0x230010, [], [⟨0, 32, .rc, 0⟩]⟩,
  -- EVT_FILL
  ⟨0x230014, [], [⟨0, 11, .ro, 0⟩]⟩,
  -- EVT_PEND
  ⟨0x230020, [(8, 4)], [⟨0, 32, .w1c, 0⟩]⟩,
  -- EVT_MAP
  ⟨0x230100, [(64, 4)], [⟨0, 32, .rw, 0⟩]⟩,
  -- EVT_VEC
  ⟨0x230200, [(32, 4)], [⟨16, 16, .rw, 0⟩, ⟨0, 8, .rw, 1⟩]⟩,
  -- EVT_QUEUE
  ⟨0x234000, [(4096, 4)], [⟨0, 32, .ro, 0⟩]⟩]

/-- Registers of block NVS (part 1). -/
def regRowsNvsA : List RegRow := [
  -- NVS_CFG
  ⟨0x240000, [], [⟨8, 4, .tv, 8⟩, ⟨1, 1, .tv, 0⟩, ⟨0, 1, .tv, 0⟩]⟩,
  -- NVS_STAT
  ⟨0x240004, [], [⟨8, 1, .w1c, 0⟩, ⟨7, 1, .w1c, 0⟩, ⟨6, 1, .w1c, 0⟩, ⟨5, 1, .w1c, 0⟩, ⟨4, 1, .ro, 0⟩, ⟨3, 1, .ro, 1⟩, ⟨2, 1, .ro, 0⟩, ⟨0, 1, .ro, 0⟩]⟩,
  -- NVS_GEN
  ⟨0x240008, [(2, 4)], [⟨0, 32, .ro, 0⟩]⟩,
  -- NVS_WP
  ⟨0x240010, [(2, 4)], [⟨0, 19, .ro, 16⟩]⟩,
  -- NVS_SIZE
  ⟨0x240018, [], [⟨0, 8, .ro, 0⟩]⟩,
  -- NVS_T_PP
  ⟨0x24001c, [], [⟨0, 32, .rw, 0⟩]⟩,
  -- NVS_T_SE
  ⟨0x240020, [], [⟨0, 32, .rw, 0⟩]⟩,
  -- NVS_HU_SCALE
  ⟨0x240024, [], [⟨0, 32, .rw, 0⟩]⟩,
  -- NVS_HU_C
  ⟨0x240028, [], [⟨0, 32, .rw, 0⟩]⟩,
  -- NVS_HU_VMIN
  ⟨0x24002c, [], [⟨0, 32, .rw, 0⟩]⟩,
  -- NVS_HU_EFF
  ⟨0x240030, [], [⟨0, 32, .rw, 0⟩]⟩,
  -- NVS_HU_P
  ⟨0x240034, [], [⟨0, 32, .rw, 0⟩]⟩,
  -- NVS_HU_RES
  ⟨0x240038, [], [⟨0, 32, .rw, 0⟩]⟩,
  -- NVS_PF_V
  ⟨0x24003c, [], [⟨0, 32, .rw, 0⟩]⟩]

/-- Registers of block NVS (part 2). -/
def regRowsNvsB : List RegRow := [
  -- NVS_HU_V
  ⟨0x240040, [], [⟨0, 32, .ro, 0⟩]⟩,
  -- NVS_HU_E
  ⟨0x240044, [], [⟨0, 32, .ro, 0⟩]⟩,
  -- NVS_QFILL
  ⟨0x240048, [], [⟨0, 5, .ro, 0⟩]⟩,
  -- NVS_DEFER_CNT
  ⟨0x24004c, [], [⟨0, 32, .rc, 0⟩]⟩,
  -- NVS_IMG_VER
  ⟨0x240050, [], [⟨0, 32, .ro, 0⟩]⟩,
  -- NVS_SWITCH
  ⟨0x240054, [], [⟨0, 1, .pw, 0⟩]⟩,
  -- NVS_ERR_CNT
  ⟨0x240058, [], [⟨0, 32, .rc, 0⟩]⟩]

/-- Registers of block NVS. -/
def regRowsNvs : List RegRow := regRowsNvsA ++ regRowsNvsB

/-- Registers of block BBX (part 1). -/
def regRowsBbxA : List RegRow := [
  -- BBX_CFG
  ⟨0x250000, [], [⟨1, 1, .rw, 0⟩, ⟨0, 1, .rw, 1⟩]⟩,
  -- BBX_CTL
  ⟨0x250004, [], [⟨8, 1, .rw, 0⟩, ⟨4, 1, .w1s, 0⟩, ⟨3, 1, .w1s, 0⟩, ⟨2, 1, .w1s, 0⟩, ⟨1, 1, .w1s, 0⟩, ⟨0, 1, .w1s, 0⟩]⟩,
  -- BBX_STAT
  ⟨0x250008, [], [⟨13, 1, .w1c, 0⟩, ⟨12, 1, .w1c, 0⟩, ⟨11, 1, .w1c, 0⟩, ⟨10, 1, .w1c, 0⟩, ⟨8, 2, .ro, 0⟩, ⟨4, 4, .ro, 0⟩, ⟨0, 3, .ro, 0⟩]⟩,
  -- BBX_COUNT
  ⟨0x25000c, [], [⟨0, 15, .ro, 0⟩]⟩,
  -- BBX_SEQ
  ⟨0x250010, [], [⟨0, 32, .ro, 0⟩]⟩,
  -- BBX_TILES
  ⟨0x250014, [], [⟨16, 8, .ro, 0⟩, ⟨0, 8, .ro, 0⟩]⟩,
  -- BBX_DISC_CNT
  ⟨0x250018, [], [⟨0, 32, .rc, 0⟩]⟩,
  -- BBX_NOTE_D
  ⟨0x25001c, [], [⟨0, 32, .rw, 0⟩]⟩,
  -- BBX_NOTE
  ⟨0x250020, [], [⟨0, 16, .wo, 0⟩]⟩,
  -- BBX_ASEQ
  ⟨0x250024, [(2, 4)], [⟨0, 32, .ro, 0⟩]⟩,
  -- BBX_MASK
  ⟨0x250040, [(8, 4)], [⟨0, 32, .rw, 4294967295⟩]⟩,
  -- BBX_FRZ0
  ⟨0x250060, [], [⟨0, 32, .rw, 0⟩]⟩,
  -- BBX_FRZ1
  ⟨0x250064, [], [⟨0, 32, .rw, 65535⟩]⟩,
  -- BBX_FRZ2
  ⟨0x250068, [], [⟨0, 32, .rw, 0⟩]⟩]

/-- Registers of block BBX (part 2). -/
def regRowsBbxB : List RegRow := [
  -- BBX_FRZ3
  ⟨0x25006c, [], [⟨0, 32, .rw, 4⟩]⟩,
  -- BBX_FRZ4
  ⟨0x250070, [], [⟨0, 32, .rw, 0⟩]⟩,
  -- BBX_FRZ5
  ⟨0x250074, [], [⟨0, 32, .rw, 0⟩]⟩,
  -- BBX_FRZ6
  ⟨0x250078, [], [⟨0, 32, .rw, 0⟩]⟩,
  -- BBX_FRZ7
  ⟨0x25007c, [], [⟨0, 32, .rw, 0⟩]⟩]

/-- Registers of block BBX. -/
def regRowsBbx : List RegRow := regRowsBbxA ++ regRowsBbxB

/-- Registers of block DDR. -/
def regRowsDdr : List RegRow := [
  -- DDR_CFG
  ⟨0x260000, [], [⟨8, 1, .rw, 1⟩, ⟨4, 2, .rw, 0⟩, ⟨2, 1, .rw, 0⟩, ⟨0, 2, .rw, 0⟩]⟩,
  -- DDR_CTL
  ⟨0x260004, [], [⟨0, 1, .w1s, 0⟩]⟩,
  -- DDR_STAT
  ⟨0x260008, [], [⟨4, 1, .w1c, 0⟩, ⟨3, 1, .w1c, 0⟩, ⟨2, 1, .w1c, 0⟩, ⟨1, 1, .w1c, 0⟩, ⟨0, 1, .ro, 0⟩]⟩,
  -- DDR_CE_CNT
  ⟨0x26000c, [], [⟨0, 32, .rc, 0⟩]⟩,
  -- DDR_UE_CNT
  ⟨0x260010, [], [⟨0, 32, .rc, 0⟩]⟩,
  -- DDR_UE_ADDR
  ⟨0x260014, [], [⟨31, 1, .ro, 0⟩, ⟨0, 28, .ro, 0⟩]⟩,
  -- DDR_WAIT_CNT
  ⟨0x260018, [], [⟨0, 32, .rc, 0⟩]⟩,
  -- DDR_SCRUB
  ⟨0x26001c, [], [⟨16, 16, .ro, 0⟩]⟩]

/-- The blocks of BAR0 that hold registers (R390). -/
def regBlocks : List RegBlock := [
  ⟨0x0, 0xfff, regRowsGlb⟩,
  ⟨0x10000, 0x100bc, regRowsChn⟩,
  ⟨0x20000, 0x20038, regRowsEst⟩,
  ⟨0x30000, 0x3327c, regRowsDsp⟩,
  ⟨0x40000, 0x4ffff, regRowsPir⟩,
  ⟨0x50000, 0x51020, regRowsAxt⟩,
  ⟨0x80000, 0x8001c, regRowsDck⟩,
  ⟨0x100000, 0x100c2c, regRowsPwm⟩,
  ⟨0x110000, 0x110f98, regRowsCln⟩,
  ⟨0x120000, 0x1207dc, regRowsStp⟩,
  ⟨0x130000, 0x1303e0, regRowsEnc⟩,
  ⟨0x140000, 0x1403f8, regRowsSdm⟩,
  ⟨0x150000, 0x15003c, regRowsAdc⟩,
  ⟨0x180000, 0x1817fc, regRowsZlp⟩,
  ⟨0x190000, 0x1a0004, regRowsCym⟩,
  ⟨0x1c0000, 0x1c7ffc, regRowsAcq⟩,
  ⟨0x1d0000, 0x1d0200, regRowsTrg⟩,
  ⟨0x200000, 0x201fff, regRowsKst⟩,
  ⟨0x210000, 0x21003c, regRowsTwn⟩,
  ⟨0x220000, 0x220050, regRowsHif⟩,
  ⟨0x230000, 0x237fff, regRowsEvt⟩,
  ⟨0x240000, 0x240fff, regRowsNvs⟩,
  ⟨0x250000, 0x250fff, regRowsBbx⟩,
  ⟨0x260000, 0x26001c, regRowsDdr⟩]

/-- Is offset `d` the start of a register of an array with these dimensions? -/
def inDims : List (Nat × Nat) → Nat → Bool
  | [], d => d == 0
  | (count, stride) :: rest, d => decide (d / stride < count) && inDims rest (d % stride)

/-- Does this row define a register at BAR0 address `a`? -/
def rowHas (r : RegRow) (a : Nat) : Bool := decide (r.base ≤ a) && inDims r.dims (a - r.base)

/-- The register row of a BAR0 address, if a register is defined there (R390). -/
def findReg (a : Nat) : Option RegRow :=
  match regBlocks.find? (fun b => decide (b.first ≤ a) && decide (a ≤ b.last)) with
  | none => none
  | some b => b.rows.find? (fun r => rowHas r a)

/-- The bits of a field, as a mask of its register. -/
def fieldMask (f : FieldRow) : Word := BitVec.ofNat 32 ((2 ^ f.width - 1) * 2 ^ f.lo)

/-- The bits of a register whose access code satisfies `p`. -/
def accMask (p : Access → Bool) (fs : List FieldRow) : Word :=
  fs.foldl (fun m f => if p f.acc then m ||| fieldMask f else m) 0

/-- The reset value of a register (its fields' reset values; reserved bits read as 0, R9). -/
def rowReset (r : RegRow) : Word :=
  r.fields.foldl (fun w f => w ||| BitVec.ofNat 32 (f.reset * 2 ^ f.lo)) 0

/-- What BAR0 address `a` holds at reset: its register's reset value, or 0 where no register is. -/
def regReset (a : Nat) : Word :=
  match findReg a with
  | none => 0
  | some r => rowReset r

end Sys2Proof.Machine
end

