-- ==== Sys2Proof/Machine/LawWork.lean ====
section
/-! DEFINITION. What an axis task holds between its stages (R104): the feedback sample, the results of each stage and the outcome of the law, as plain data. -/

namespace Sys2Proof.Machine

/-- The fields of a feedback record (R117, R230). -/
structure FbSample where
  pos : Word
  flags : Nat
  din : Nat
  lpos : Word
  iMeas : F32
  ia : F32
  ib : F32
  theta : Nat
  udc : F32
  deriving DecidableEq, Repr

/-- What stage 2 gives. -/
structure Decoded where
  d : AxisDyn
  good : Bool           -- the sample is used
  hz : Bool
  r : F32               -- prediction residual
  pPrev : Pos64
  faults : List Nat
  status : Nat
  deriving DecidableEq, Repr

/-- What stage 3 gives: its new state, the setpoints, the faults in order, reports of stage 14, whether a motion is done, and the latched position of a completed HOME. -/
structure S3Out where
  m : Motion
  p : Pos64
  v : F32
  a : F32
  faults : List Nat
  reports : List MotionReport
  done : Bool
  hlatch : Option Pos64
  deriving DecidableEq, Repr

/-- What the slew limiter gives: position, velocity and acceleration setpoints, its velocity state, and whether it acted. -/
structure Slewed where
  p : Pos64
  v : F32
  a : F32
  vLim : F32
  acted : Bool
  deriving DecidableEq, Repr

/-- What stage 9 gives. -/
structure CurOut where
  ua : F32
  ub : F32
  iRef : F32
  id : F32
  iq : F32
  d : AxisDyn
  satQ : Int            -- saturation sign of R129
  clip : Bool           -- USAT
  deriving DecidableEq, Repr

/-- The command of a task: OFF, LREQ and the values of R144. -/
structure AxisCmd where
  off : Bool
  lreq : Nat
  i : F32
  uff : F32
  ua : F32
  ub : F32
  p : Pos64
  v : F32
  a : F32
  deriving DecidableEq, Repr

/-- What a task's law gives: the dynamic part, the command, the export block, reports and a done motion's sequence. -/
structure LawOut where
  d : AxisDyn
  cmd : AxisCmd
  export_ : List Word
  reports : List MotionReport
  done : Option Word
  deriving DecidableEq, Repr

/-- An axis task at work: what stage 1 latched and what each stage has left for the later ones. -/
structure LawWork where
  a : Nat
  cls : Nat
  start : Nat                   -- clk on which stage 1 begins
  done : Nat                    -- stages carried out
  pass : Nat                    -- 1 in the second express period of class X
  rate : Nat                    -- bc rate code
  bc : Word                     -- bc index
  t : F32                       -- task period, s
  fresh : Bool
  state : Nat                   -- STATE of the entry at stage 1
  d0 : AxisDyn                  -- the dynamic part before the task
  smp : Option FbSample         -- delivered sample
  e2 : Decoded
  fltT : Nat
  still : Nat
  react : Nat
  faults : List Nat             -- in stage order
  clip : Bool                   -- a parameter was used at its range edge
  s3 : S3Out
  sl : Slewed
  w : F32                       -- load-test injection applied
  ep : F32
  vref : F32
  xi : F32
  iv : F32
  iset : F32
  uff : F32
  notch : List NotchState
  inotch : F32
  cur : CurOut
  iout : F32
  sat : Int
  plRun : Nat
  plBig : Bool
  out : Option LawOut           -- of stage 12
  cleared : Bool                -- a fault clear came while the task ran (R151)
  quiesced : Bool               -- a quiesce came while the task ran (R136)
  deriving DecidableEq, Repr

/-- Nothing decoded. -/
def Decoded.none_ (d : AxisDyn) : Decoded := ⟨d, false, false, 0, d.pFb, [], 0⟩

/-- The work of a task before its first stage. -/
def LawWork.begin (a cls start : Nat) (d : AxisDyn) : LawWork where
  a := a
  cls := cls
  start := start
  done := 0
  pass := 0
  rate := 0
  bc := 0
  t := 0
  fresh := false
  state := 0
  d0 := d
  smp := none
  e2 := Decoded.none_ d
  fltT := 0
  still := 0
  react := 0
  faults := []
  clip := false
  s3 := ⟨d.motion, 0, 0, 0, [], [], false, none⟩
  sl := ⟨0, 0, 0, 0, false⟩
  w := 0
  ep := 0
  vref := 0
  xi := 0
  iv := 0
  iset := 0
  uff := 0
  notch := []
  inotch := 0
  cur := ⟨0, 0, 0, 0, 0, d, 0, false⟩
  iout := 0
  sat := 0
  plRun := 0
  plBig := false
  out := none
  cleared := false
  quiesced := false

/-- The clk after the law's start on which a stage begins (R104): the stages in order with their costs, stage 9 for class X only. The writes of stage 13 count at its end, header
last, and those of stage 14 at the end of the task (log entry 28). -/
def stageClk (cls k : Nat) : Nat :=
  let x : Nat := if cls = 1 then 160 else 0
  match k with
  | 0 | 1 => 0
  | 2 => 24
  | 3 => 64
  | 4 => 224
  | 5 => 248
  | 6 => 296
  | 7 => 352
  | 8 => 384
  | 9 => 480
  | 10 => 480 + x
  | 11 => 512 + x
  | 12 => 592 + x
  | 13 => 680 + x
  | _ => 720 + x

end Sys2Proof.Machine
end

