-- ==== Sys2Proof/Machine/Store.lean ====
section
/-! DEFINITION. Sparse tables: a list of (key, value) pairs in one canonical form, keys strictly rising and no value equal to
what an unlisted key reads as. Every register file, memory and table of records of the model is one of these. -/

namespace Sys2Proof.Machine

/-- A sparse table keyed by numbers. -/
abbrev Tab (α : Type) := List (Nat × α)

/-- The value at key `k`; an unlisted key reads as `d k`. -/
def tabGet {α : Type} (d : Nat → α) (t : Tab α) (k : Nat) : α :=
  match t with
  | [] => d k
  | (j, v) :: rest => if j = k then v else tabGet d rest k

/-- Put a pair at its place in a rising list, replacing the pair of the same key. -/
def tabInsert {α : Type} (t : Tab α) (k : Nat) (v : α) : Tab α :=
  match t with
  | [] => [(k, v)]
  | (j, w) :: rest =>
    if k < j then (k, v) :: (j, w) :: rest
    else if k = j then (k, v) :: rest
    else (j, w) :: tabInsert rest k v

/-- Remove a key from a list. -/
def tabErase {α : Type} (t : Tab α) (k : Nat) : Tab α :=
  match t with
  | [] => []
  | (j, w) :: rest => if j = k then tabErase rest k else (j, w) :: tabErase rest k

/-- Write `v` at key `k`. Writing what an unlisted key reads as removes the entry. -/
def tabSet {α : Type} [DecidableEq α] (d : Nat → α) (t : Tab α) (k : Nat) (v : α) : Tab α :=
  if v = d k then tabErase t k else tabInsert t k v

/-- Are the keys strictly rising? -/
def tabRising {α : Type} : Tab α → Bool
  | [] => true
  | [_] => true
  | (a, _) :: (b, w) :: rest => decide (a < b) && tabRising ((b, w) :: rest)

/-- The canonical form: keys strictly rising and no entry that an unlisted key would read as. -/
def tabWf {α : Type} [DecidableEq α] (d : Nat → α) (t : Tab α) : Bool :=
  tabRising t && t.all (fun e => decide (e.2 ≠ d e.1))

/-- Read `n` consecutive values from key `k` up. -/
def tabRead {α : Type} (d : Nat → α) (t : Tab α) : Nat → Nat → List α
  | _, 0 => []
  | k, n + 1 => tabGet d t k :: tabRead d t (k + 1) n

/-- Write a list of values to consecutive keys from `k` up. -/
def tabWrite {α : Type} [DecidableEq α] (d : Nat → α) (t : Tab α) : Nat → List α → Tab α
  | _, [] => t
  | k, v :: vs => tabWrite d (tabSet d t k v) (k + 1) vs

end Sys2Proof.Machine
end

