-- ==== Sys2Proof/Machine/State.lean ====
section
/-! DEFINITION. The state of the ZB144 as plain data: every register, memory, table, queue, counter, mode and pin the spec gives
the block, the queue of waiting commands, the reasons a step can stop, and the state right after reset.
Register-visible values have one home, the register file `regs`; every other piece of state stands in the record of its block. -/

namespace Sys2Proof.Machine

/-- Why a step stops with a fault. No meaning of this model raises one: every command has an effect (NOTES.md, Stops). Kept so that the
outcome of a step has its three forms. -/
inductive Fault where
  /-- An access to an address the spec says does not exist; no command raises it, since R390 gives unmapped accesses an effect (safe). -/
  | noSuchAddress
  deriving DecidableEq, Repr

/-- Why a command is refused. -/
inductive Refusal where
  /-- A command that has no meaning yet, by the mnemonic of its row; raised by the dispatcher only (safe). -/
  | notModelled (mnemonic : String)
  deriving DecidableEq, Repr

/-- Network time (R33): 48-bit seconds, nanoseconds 0 to 999,999,999, and a fraction in 2^-32 ns. -/
structure NetTime where
  sec : BitVec 48
  ns : Word
  frac : Word
  deriving DecidableEq, Repr

/-- Network time 0. -/
def NetTime.zero : NetTime := ⟨0, 0, 0⟩

/-- A pending paired write (R12): the register's address, the value written, and the clk on which the value write landed. -/
structure PwPending where
  addr : Nat
  val : Word
  at_ : Nat
  deriving DecidableEq, Repr

/-- One side of the wide-value mailbox (R396, R397): is a request in progress and when it becomes ready, did it fail, is it a write
item, how many data words the item has. -/
structure MbxState where
  readyAt : Option Nat
  failed : Bool
  isWrite : Bool
  words : Nat
  deriving DecidableEq, Repr

/-- Host access and reset control: the pending pair, pairs accepted, the mailbox, the word returned by the last host read, the clk of the next scrubber read, the
network time of the first vote correction (`VOTE_T`), a core or full reset asked for by software (R433: its scope and the clk of its acceptance), whether the boot in
progress follows a core reset (R435), and the JTAG instruction that acts (R439). -/
structure HostSide where
  pw : Option PwPending
  accepted : List (Nat × Word)   -- accepted pairs whose effect is still to come: register address, value
  mbx : MbxState
  hostRead : Word
  scrubAt : Nat
  voteT : NetTime
  swrst : Option (Nat × Nat)
  coreBoot : Bool
  jtag : JtagIr
  bootList : Option (List Word × Nat) -- pairs of the boot's register list still to land, and the clk of the next (R434)
  deriving DecidableEq, Repr

/-- What a source's one-deep latch holds (R403): the first occurrence's time, the live chainage fraction and bc index (R421), DETAIL,
DATA, occurrences merged, and whether a queue entry was decided. -/
structure EvtLatch where
  time : NetTime
  chn : Word
  bcIdx : Word
  detail : BitVec 16
  data : Word
  count : Nat
  queued : Bool
  deriving DecidableEq, Repr

/-- The event system (R400 to R406). -/
structure Events where
  latch : Tab (Option EvtLatch)   -- by source
  scan : Nat                      -- the source the writer serves next (ascending, cyclic)
  served : Nat                    -- clk from which the writer serves again
  writes : List (Nat × Nat × EvtLatch) -- served occurrences whose entry is still to be written: clk, source, occurrence
  newest : Tab (Option Nat)       -- by source: the queue slot of its newest entry
  merges : List (Nat × Nat × Word) -- occurrences merged into an entry past an occupied latch: source, slot, DATA
  lossNow : Nat                   -- losses since the previous loss entry (source 0x04)
  lossNowT : NetTime              -- time of the first of them
  lossT : NetTime                 -- EVT_LOSS_T
  vecCnt : Tab Nat                -- by vector: entries counted
  vecFirst : Tab Nat              -- by vector: clk of the first entry counted
  msgs : List (Nat × Nat)         -- MSI-X messages under way: vector, clk on which it is sent
  msixMask : BitVec 32            -- MSI-X table: vector masked (BAR4)
  msixPend : BitVec 32            -- MSI-X pending-bit array
  msixSent : Tab Nat              -- by vector: messages sent on PCIe
  deriving DecidableEq, Repr

/-- One segment of chainage (R38): start in 2^-64 mc, modulo 2^96, and velocity in 2^-64 mc per clk. -/
structure Segment where
  s : BitVec 96
  v : BitVec 64
  deriving DecidableEq, Repr

/-- A kept sample of a measured chainage source (R45): the bc it belongs to, the position in source units, and the clk of that bc's t0. -/
structure ChnSample where
  bc : Word
  pos : Int
  t0 : Nat
  deriving DecidableEq, Repr

/-- The chainage unit (R38 to R48). -/
structure Chainage where
  seg : Segment                       -- (S_k, V_k)
  snap : Segment                      -- the snapshot of R22
  prevS : BitVec 96                   -- S of the snapshot of the bc before
  xsnap : Segment                     -- the second snapshot of class X
  lead : Nat                          -- CHN_PLAN.LEAD as sampled at t0
  plan : Option (BitVec 64 × Option (BitVec 96)) -- V of the next segment, and its S if it jumps
  vmTgt : BitVec 64                   -- VM_VTGT
  srcOff : BitVec 64                  -- SRC_OFFSET, 2^-32 mc
  preset : Option (BitVec 64)         -- CHN_PRESET waiting for the next plan
  swWait : Option Bool                -- a switch waiting for a sample: absolute or not
  planJump : Bool                     -- a start that differs from the predicted one is a jump (R46)
  encKept : List ChnSample            -- at most two, newest first
  axisKept : List ChnSample
  trunkKept : List (Word × Segment)    -- bc of the segment's start, segment
  deriving DecidableEq, Repr

/-- A slot of a fire list (R52): entry index, crossing clk counted from the segment's start, fired late, and for a ring event the
predicted network time. -/
structure FireSlot where
  idx : Nat
  n : Nat
  late : Bool
  ringT : Option NetTime
  deriving DecidableEq, Repr

/-- A ring event waiting for a command window (R57): station, event number, predicted time. -/
structure RingEvent where
  stn : Nat
  evno : Nat
  time : NetTime
  deriving DecidableEq, Repr

/-- The Event Schedule Table (R50 to R57). -/
structure Est where
  tab : Tab Word                      -- entry words, key 4 × index + word
  cur : List FireSlot                 -- fire list of the current segment
  next : List FireSlot                -- fire list of the next segment
  sweepAt : Option Nat                -- clk on which the sweep of the last plan starts
  swept : Bool                        -- the sweep for the next segment has been made
  pins : BitVec 32                    -- logical state of EVO0 to EVO31: 1 set
  pol : BitVec 32                     -- EST_PIN_POL as it acts at the balls
  polDue : List (Nat × Word)          -- written values and the clk on which they reach the balls
  timers : Tab (Option Nat)           -- by pin: clk on which the pulse ends
  cmp : List (Nat × Nat)              -- commit comparisons under way: entry, clk
  cmpRead : List Nat                  -- those of them whose index the sweep had read before the commit (R53)
  ring : List RingEvent               -- oldest first
  deriving DecidableEq, Repr

/-- The edge capture unit (R58 to R60): edges of this clk that a gate opened on it still stamps (R59), the record FIFO (head first), the next sequence number, the last accepted edge of each input in
units of 0.125 ns, and `CAP_LOSS_T`. -/
structure Capture where
  pre : List (Nat × Bool × Nat × Nat) -- edges that found their gate closed: input, rising, interpolator code, clk
  fifo : List (List Word)
  seq : BitVec 8
  lastEdge : Tab (Option Nat)
  gateClosed : Tab (Option Nat)   -- by input: clk of its last gate-close action
  lossT : NetTime
  deriving DecidableEq, Repr

/-- Cycle timing: the index I_k of the present bc, the clk of its t0, the clk count of the bc before, the half (express period) in
progress, and the bc rate code latched at RING_START. -/
structure Cycle where
  mark : Word        -- low 32 bits of the bc count at the last t0 (or of a loaded time)
  bcIdx : Word
  t0 : Nat
  prevN : Nat
  half : Nat
  rate : Nat
  deriving DecidableEq, Repr
/-- The kinds of task the dispatcher runs (R68). -/
inductive TaskKind where
  | axis | event | background
  deriving DecidableEq, Repr

/-- A posted task: kind, axis, event or job number, post clk (R74). -/
structure Task where
  kind : TaskKind
  id : Nat
  post : Nat
  deriving DecidableEq, Repr

/-- How an axis state comes to the Pier that runs it (R17, R105). -/
inductive MoveKind where
  | stay | move (src : Nat) | restore
  deriving DecidableEq, Repr

/-- A task a decision has given to a Pier: start clk, whole cost, the move it needs, and the ordered flows of the Pier before the decision. -/
structure Assigned where
  task : Task
  start : Nat
  cost : Nat
  move : MoveKind
  flow : List (Nat × List Nat)
  deriving DecidableEq, Repr

/-- The task a Pier runs: start, end, and the law's work of an axis task. -/
structure Running where
  task : Task
  start : Nat
  finish : Nat
  work : Option LawWork
  deriving DecidableEq, Repr

/-- A Pier's own state beside its registers (R73, R79, R92, R93). -/
structure Pier where
  asg : Option Assigned
  run : Option Running
  flow : List (Nat × List Nat)     -- ordered flows in progress, newest first: flow, members still to run
  passOk : Bool                    -- a scrub pass begun after the entry to OFFLINE has completed and matched
  loaded : Bool                    -- a reload's memories are written; the check follows
  useNow : Nat                     -- control task clk of the present bc
  scrub : Nat                      -- scrubber: words read of the pass up to `scrubAt`
  scrubAt : Nat                    -- the clk since which it has gone on, while the Pier executes nothing
  left_ : Option Nat               -- what the register file and the scratch area hold (R86): the free value that the microcode last left, none: as at reset
  deriving DecidableEq, Repr

/-- A Pier with nothing to do. -/
def Pier.idle : Pier := ⟨none, none, [], false, false, 0, 0, 0, none⟩

/-- What the dispatcher and the state logic keep for one axis entry. -/
structure AxisCtl where
  posted : Bool                    -- a task was posted in the present task period
  done : Bool                      -- its task of the present period has started or overrun
  lostHome : Bool                  -- no Pier is its home (R74)
  loadEnd : Option Nat             -- clk on which a state load ends (R99)
  moving : Option (Nat × Nat × Nat) -- state move: from, to, clk of its end (R96)
  leaving : Bool                   -- disabled while its task runs
  runFrom : Nat                    -- class X: the first clk from which a re-pinned axis runs (R107)
  deriving DecidableEq, Repr

/-- An axis entry at rest. -/
def AxisCtl.idle : AxisCtl := ⟨false, false, false, none, none, false, 0⟩

/-- The task dispatcher (R64 to R83). -/
structure Dispatch where
  ready : List Task
  open_ : Nat                      -- DSP_CWIN.OPEN sampled at the last express sync instant (R65)
  migNow : Nat                     -- migrations and restores of the present bc
  flowRan : List (Nat × Nat)       -- ordered flows run in the present bc: flow, Pier (DSP_FLOWn.PIER at its end)
  clipped : Bool                   -- a decision of this bc was held back by the limit
  tasks64 : Nat                    -- tasks completed since reset, 64 bits (PIR_TASKS64)
  reports : List (Nat × Nat × Word × MotionReport) -- motion reports under way to Tollgate: clk, axis, nanoseconds of the report, report (R157, R382)
  deriving DecidableEq, Repr

/-- The Deck and what moves between it and the Piers (R95 to R108). -/
structure Deck where
  mem : Tab Byte                   -- by Deck byte address, but for the dynamic parts of the home copies
  home : Tab AxisDyn               -- dynamic part of each home copy
  res : Tab AxisDyn                -- dynamic part of each resident copy
  resPar : Tab Byte                -- parameter part of the resident copies, key axis × 0x800 + offset
  fwd : List (Nat × Nat × Word)    -- forwarded writes: clk of landing, axis × 0x800 + offset, word
  camLow : Option (Nat × Word)     -- staged low word of a cam point
  bad : List Nat                   -- addresses of Deck words with a double-bit error
  expT0 : Tab Word                 -- words 0 to 5 of the export blocks as they stood at t0, key 16 × axis + word (R153)
  expX : Tab Word                  -- the same words as they stood at the last express sync instant (R82)
  uc : Tab Byte                    -- Pier memories: key Pier × 0x18000 + byte (64 KB instructions, 32 KB constants)
  deriving DecidableEq, Repr

/-- A PWM module's running state beside its registers (R178 to R195). Lists are by pair, 0 to 3. -/
structure PwmModule where
  pos : Nat                     -- position n on clk `posAt`
  posAt : Nat
  startAt : Nat                 -- clk of the last period start
  midAt : Nat                   -- clk of the last mid-point
  midDone : Bool                -- the mid-point of the running period has come
  periods : Nat                 -- period starts since the last restart
  syncSeen : Nat                -- stamp of the last sync event acted on
  per : Nat                     -- active period
  cmp : List Nat                -- active compare values, sixteenths of a clk
  rise : List Nat               -- where the high-side command begins and ends in this period
  fall : List Nat
  refresh : List Bool           -- this period is a bootstrap refresh
  fullCnt : List Nat            -- consecutive full-on periods
  lvl : List Nat                -- pair level at `lvlAt`: 0 both off, 1 low on, 2 high on
  lvlAt : List Nat              -- the clk from which the delay of a turn-on counts
  late : List (Nat × Nat)       -- shadows written too late for the next reload: index (0 to 3 compare, 4 PER), value that it transfers
  holdLate : Bool               -- HOLD was cleared too late for the next reload
  linger : Bool                 -- forced, until a period start finds no force
  forceOff : Nat                -- clk from which a force has turned outputs off
  forceOn : Option Nat          -- clk on which outputs that the fault state turns on turn on
  keep : List Bool              -- by pair: its fault-state output was on before and stays on
  deriving DecidableEq, Repr

/-- A module at reset. -/
def PwmModule.idle : PwmModule :=
  ⟨0, 0, 0, 0, false, 0, 0, 64, [0, 0, 0, 0], [0, 0, 0, 0], [0, 0, 0, 0], [false, false, false, false], [0, 0, 0, 0], [0, 0, 0, 0], [0, 0, 0, 0], [],
    false, false, 0, none, []⟩

/-- One Parapet fault input: pin level, the clk since which it has stood inactive, and the clk of its last accepted clear (R190, R191). -/
structure FaultInput where
  pin : Bool
  since : Nat
  clearedAt : Option Nat
  deriving DecidableEq, Repr

/-- A fault input at reset: inactive at its reset polarity (log entry 42). -/
def FaultInput.idle : FaultInput := ⟨true, 0, none⟩

/-- A sigma-delta channel's filter (R196 to R198): three integrators and three combs; the samples of its clock it has taken and those of the present decimation, the sample
numbers before which the decimation count restarts, the last bit and how many equal ones have come in a row, whether 64 were reached, and the clk of its last sample. -/
structure SdmFilter where
  i1 : Word
  i2 : Word
  i3 : Word
  c1 : Word
  c2 : Word
  c3 : Word
  taken : Nat
  count : Nat
  cuts : List Nat
  last : Option Bool
  same : Nat
  hit : Bool
  at_ : Nat
  deriving DecidableEq, Repr

/-- An empty filter. -/
def SdmFilter.zero : SdmFilter := ⟨0, 0, 0, 0, 0, 0, 0, 0, [], none, 0, false, 0⟩

/-- An encoder interface beside its registers (R199 to R202). -/
structure Encoder where
  a : Bool                      -- filtered levels
  b : Bool
  errWin : Bool                 -- an A/B error in the present sample window
  posT0 : Word                  -- the bc's sample
  errT0 : Bool
  lreq : Nat                    -- latch request
  xfer : Option Nat             -- serial transfer under way: its start clk
  lastStart : Nat
  newest : Option (Word × Nat)  -- newest completed transfer: position, start clk
  older : Option (Word × Nat)
  bad : Bool                    -- the newest transfer failed
  hist : List (Nat × Option Word) -- transfers ended: start clk, position if good; newest first
  deriving DecidableEq, Repr

/-- An interface at reset. -/
def Encoder.idle : Encoder := ⟨false, false, false, 0, false, 0, none, 0, none, none, false, []⟩

/-- A current lane beside its registers (R204 to R210). -/
structure Lane where
  iqRef : F32                   -- written by the class-L task
  uff : F32
  taskOff : Bool
  pFrom : Pos64                 -- stepper: p_lim reached at t0 and at the next t0
  pTo : Pos64
  xD : F32
  xQ : F32
  satD : Int
  satQ : Int
  theta : Word                  -- angle of the previous evaluation
  thetaC : Word
  still : Nat                   -- evaluations with an unchanged commanded angle
  lastEval : Nat                -- reload instant last evaluated
  wr : Option (Nat × List Nat)  -- compare values to write and the clk
  off : Bool                    -- its pairs are forced off, from clk `offAt` on
  offAt : Nat
  held : List Nat               -- modules whose pairs wait for their next period start after that
  written : Bool                -- the lane was written in this bc (R146)
  missed : Nat
  deadAt : Nat                  -- t0 of the bc whose deadline was last handled
  deriving DecidableEq, Repr

/-- A lane at reset. -/
def Lane.idle : Lane := ⟨0, 0, false, 0, 0, 0, 0, 0, 0, 0, 0, 0, 0, none, false, 0, [], false, 0, 0⟩

/-- The steps of a bc (R212): its t0, how many, the steps made, direction, and the delay of every edge. -/
structure StepPlan where
  t0 : Nat
  n : Nat
  made : Nat
  neg : Bool
  delay : Nat
  deriving DecidableEq, Repr

/-- A step channel beside its registers (R211 to R213). -/
structure StepChan where
  x0 : Pos64
  plan : Option StepPlan
  planned : Nat                 -- t0 of the last plan
  pulseEnd : Option Nat         -- clk of the falling edge of the pulse under way
  dirDue : Option (Nat × Bool)  -- clk of a change of DIR and the new direction
  dir : Bool                    -- direction at the pin before DIR_INV: true negative
  made : Int                    -- steps emitted since the enable
  deriving DecidableEq, Repr

/-- A channel at reset. -/
def StepChan.idle : StepChan := ⟨0, none, 0, none, none, false, 0⟩

/-- The local power stage. -/
structure Power where
  pwm : Tab PwmModule
  flt : Tab FaultInput
  sdm : Tab SdmFilter
  sdmClk : Tab Nat              -- by clock group: clk on which its clock began
  soft : Nat                    -- modules under a software force, as it acts
  enc : Tab Encoder
  lane : Tab Lane
  step : Tab StepChan
  deriving DecidableEq, Repr

/-- What names a command packet to its completion (R368, R369): host tag, opcode, queue, IRQ bit, the clk of its doorbell, and the number of resets of the host
interface before its fetch (a packet in execution across a reset writes no completion, R363). -/
structure PktTag where
  cid : Word
  op : Nat
  sq : Nat
  irq : Bool
  bell : Nat
  gen : Nat
  deriving DecidableEq, Repr

/-- A packet a Tollgate core holds (R365 to R370): its tag, the 16 words of its entry, its payload, the clk from which its opcode may act, whether it waits for its DMA payload, and
whether it waits under FENCE. -/
structure Packet where
  tag : PktTag
  entry : List Word
  pay : List Word
  readyAt : Nat
  dma : Option Nat           -- clk of the DMA request under way
  fence : Bool
  held : Bool                -- a motion packet held under R381
  moved : Nat                -- items already landed: pairs, words or entries of a payload, 32-byte beats of a capture read-out
  busy : Bool                -- its opcode has acted and its core still holds it: a flash operation or a mirrored packet
  deriving DecidableEq, Repr

/-- A Tollgate core: the packet it holds, the clk from which it fetches the next, and whether it has stopped for want of a completion entry. -/
structure Core where
  cur : Option Packet
  freeAt : Nat
  stalled : Bool
  deriving DecidableEq, Repr

/-- An idle core. -/
def Core.idle : Core := ⟨none, 0, false⟩

/-- A completion decided and not yet written (R369, R372): the clk on which it is written, STATUS, DETAIL, EXEC_NS and results. -/
structure Completion where
  tag : PktTag
  due : Nat
  status : Nat
  detail : Nat
  ns : Word
  res : List Word
  deriving DecidableEq, Repr

/-- A registered resume (R379). -/
structure Resume where
  axes : List Nat
  start : Nat
  atLo : Word
  atHi : Word
  regBc : Word               -- bc index at registration
  tmo : Nat
  deriving DecidableEq, Repr

/-- What a packet whose execution has ended still waits for (R372, R378 to R385). -/
inductive WaitKind where
  | ringStart
  | ringHalt
  | quiesce (axes : List Nat) (at_ : Nat) -- and the clk of its execution
  | resume (r : Resume)
  | motion (axis seq : Nat)
  | group (members : List (Nat × Nat)) (longest : Nat) (reports : List (Nat × MotionReport)) -- (axis, MC_SEQ); the axis of the longest; reports by axis
  | pair
  | yield
  | join
  deriving DecidableEq, Repr

/-- A wait and the packet it completes; none on a pylon that executes its partner's mirrored packet. -/
structure Waiting where
  tag : Option PktTag
  kind : WaitKind
  deriving DecidableEq, Repr

/-- The host interface and Tollgate (R360 to R389). -/
structure Hif where
  bar2 : Tab Byte            -- queue windows, by BAR2 offset
  bell : Tab Nat             -- by queue × 256 + slot: clk of the doorbell that submitted the entry
  cores : Tab Core           -- T0 and T1
  compl : List Completion
  waits : List Waiting
  gen : Nat                  -- resets of the host interface
  mcSeq : Tab Word           -- by axis: MC_SEQ counter of the motion packets (R381)
  mcAt : Tab (Option Nat)    -- by axis: clk on which the last MC_SEQ landed
  dmaOut : List (Nat × List Byte) -- writes to host memory by the last transfer: host address, bytes
  restart : Option Nat       -- clk on which a Tollgate restart began
  stallBc : Word             -- bc index for which a stall was last counted
  deriving DecidableEq, Repr

/-- A snapshot the assembler took of a command slot (R25): the bc and the express half it was read for, and the bytes it sends. -/
structure AsmSlot where
  bc : Word
  half : Nat
  bytes : List Byte
  deriving DecidableEq, Repr

/-- A record of a REPORT or RUN frame (R257): station, STATUS, d in 2^-2 ns, and its position. -/
structure StnRec where
  stn : Nat
  status : Nat
  d : Nat
  pos : Nat
  deriving DecidableEq, Repr

/-- The delay measurement of one ring in a start (R255): rounds completed, the return delays of the present round, and the sums of the completed ones, in clk. -/
structure RingMeas where
  round : Nat
  sentAt : Nat
  dn : Option Nat
  up : Option Nat
  sumDn : Nat
  sumUp : Nat
  recs : Option (List StnRec)   -- records of the REPORT frame
  deriving DecidableEq, Repr

/-- Nothing measured. -/
def RingMeas.none_ : RingMeas := ⟨0, 0, none, none, 0, 0, none⟩

/-- A container received from a station or expected from it: ring, window bc, container's station, bytes (R233). -/
structure SafeCopy where
  ring : Nat
  bc : Word
  stn : Nat
  bytes : List Byte
  deriving DecidableEq, Repr

/-- What the head keeps of a station's upstream container (R265): the bc last looked at, the rings that returned it empty and those that returned it filled in that bc, and whether it
was empty on every ring in the bc before. -/
structure Presence where
  bc : Word
  empty : List Nat
  full : List Nat
  before : Option Word           -- the last bc in which it was empty on every ring
  deriving DecidableEq, Repr

/-- Never looked at. -/
def Presence.none_ : Presence := ⟨0, [], [], none⟩

/-- What a pylon of a pair sends in a start on the clk that the holder names (R354): a MEASURE round of a ring, the REPORT frames, the assign frames. -/
inductive StartStep where
  | round (ring : Nat) | report | assign
  deriving DecidableEq, Repr

/-- The trunk (R273 to R275). -/
structure Trunk where
  measAt : Option Nat            -- clk of the last measurement's start
  meas : RingMeas                -- the master's measurement, or a station's a (dn) and b (up) stamps of the round
  repAt : Option Nat             -- clk of the REPORT frame's send
  dup : Bool                     -- a second master was seen: no measurement is used
  master : Option (Nat × Nat)    -- SRC and HID of the master seen
  lup : Nat                      -- Λup, 2^-4 ns
  d : Option Nat                 -- own delay d, 2^-4 ns
  timeBc : Option Word           -- bc index of the last KIND 0 frame used
  timeAt : Nat                   -- clk of the last valid KIND 0 frame
  deriving DecidableEq, Repr

/-- The Zuris Link unit (R219 to R278) beside its registers. -/
structure Ring where
  pins : Tab Nat                 -- by port: receive synchronised [0]
  ddmAt : Tab Nat                -- by port: clk of the last DDM read
  asm_ : Tab (Option AsmSlot)    -- by command slot
  lastTx : List (Nat × List Byte) -- frames sent by the last command that sent any: port, bytes from the header to the FCS
  round : Nat                    -- ROUND of the vacancy frames
  roundUp : Bool                 -- a vacancy frame has returned unclaimed
  sent : Tab (Option Word)       -- by 2 × window + half: bc index of its last send
  evSent : Tab Nat               -- by station: ring events sent in bc `evBc`
  evBc : Word
  safeTx : List (Word × List (List Byte) × List (List Byte)) -- safety transmit buffers: bc, ring A and ring B containers; the last two, newest first
  safeRx : List SafeCopy         -- safety receive buffer, oldest first
  presence : Tab Presence        -- by station
  absentAt : Tab (Option Nat)    -- by station: clk on which it was reported absent
  live : Bool                    -- the first SYNC has left
  haltAt : Option Nat            -- clk on which a halt was registered
  collReq : Bool                 -- a lost collision waits for the next bc
  use : List Nat                 -- rings of the start in progress or of the running span
  listenEnd : Nat
  meas : Tab RingMeas            -- by ring
  cfg : Word                     -- `ZLP_CFG` and `ZLP_GUARD.GUARD` as read at RING_START (R248)
  band : Nat
  steps : List StartStep         -- frames of a start that wait for the clk the holder names, and that clk (R354)
  stepAt : Option Nat
  activeBc : Option Word         -- the bc from which the stations of the start are ACTIVE (R261)
  joined : List Nat              -- stations admitted by a join and not ACTIVE yet (R263)
  assignEnd : Nat                -- clk on which the last assign frame has left
  set_ : List Nat                -- the span's station set, ascending
  noRun : List Nat               -- rings on which no RUN frame can be sent
  seen : Tab (List StnRec)       -- by ring: records of the RUN frame of the cc `seenBc`
  seenBc : Word
  seenRings : List Nat           -- rings whose RUN frame of that cc has been parsed
  items : List (Nat × List Byte) -- assign items waiting for a RUN frame: station, bytes
  syncBc : Tab (Option Word)     -- by ring: bc of the last SYNC stamped at x1
  syncMiss : Tab Nat             -- by ring: consecutive bc without it
  ret0 : Tab (Option Nat)        -- by ring: return delay of a wrapped SYNC at x0
  ret1 : Tab (Option Nat)        -- by ring: return delay of a wrapped upstream frame at x1
  rerun : List Nat               -- rings whose checks are run again at the next RUN frame
  rxKeys : List (Nat × Nat × Nat × Nat) -- TYPE, SRC, WIN, SEQ of frames used, newest first
  service : List (List Byte)     -- SERVICE payloads received, oldest first, with SRC in the first two bytes
  trunk : Trunk
  deriving DecidableEq, Repr

/-- The unit at reset. -/
def Ring.reset : Ring where
  pins := []
  ddmAt := []
  asm_ := []
  lastTx := []
  round := 0
  roundUp := false
  sent := []
  evSent := []
  evBc := 0
  safeTx := []
  safeRx := []
  presence := []
  absentAt := []
  live := false
  haltAt := none
  collReq := false
  use := []
  listenEnd := 0
  meas := []
  cfg := 0
  band := 0
  steps := []
  stepAt := none
  activeBc := none
  joined := []
  assignEnd := 0
  set_ := []
  noRun := []
  seen := []
  seenBc := 0
  seenRings := []
  items := []
  syncBc := []
  syncMiss := []
  ret0 := []
  ret1 := []
  rerun := []
  rxKeys := []
  service := []
  trunk := ⟨none, RingMeas.none_, none, false, none, 0, none, none, 0⟩

/-- A packet mirrored to or from the partner (R352, R358): its number, effect bc, submission entry, payload; on the holder the packet's tag; and whether it
has been acknowledged. -/
structure Mirror where
  num : Nat
  bc : Word
  entry : List Word
  pay : List Word
  tag : Option PktTag
  acked : Bool
  deriving DecidableEq, Repr

/-- The partner's last heartbeat of the PAIR link (R358). -/
structure PairHb where
  pid : Nat
  holder : Bool
  ready : Bool
  fenced : Bool
  epoch : Nat
  bc : Word
  lexp : Nat
  prio : Nat
  role : Nat
  seg : Segment
  digest : Word
  deriving DecidableEq, Repr

/-- The twin logic (R337 to R359) beside its registers. -/
structure Twin where
  paired : Bool                  -- PAIR has been accepted
  linkUp : Bool                  -- the PAIR link is up
  yieldReq : Bool                -- this holder has yielded: LEXP stays at the bc index of the yield (R345)
  fenceReq : Option Nat          -- the epoch under which this pylon is fenced from the next bc
  takeReq : Bool                 -- the lease passes to this pylon at the next t0
  hb : Option PairHb             -- the partner's last heartbeat
  info : Option PartnerInfo      -- what the partner's end of the PAIR link shows (R354)
  oldLease : Option (Nat × List Byte) -- epoch and lease bytes still sent until the next t0 after a takeover (R345)
  relSwitch : Bool               -- the next plan is a relative switch to the configured source (R345)
  pairAt : Option (Nat × Bool)   -- PAIR or JOIN under way: clk of the request, is it a JOIN
  joinBc : Option Word           -- holder: bc of the partner's first heartbeat with ROLE 3
  streamBc : Word                -- holder: bc of the last State frame
  joinEnd : Option Nat           -- joining pylon: clk on which the last axis was installed
  pairFree : Nat                 -- clk from which the PAIR link is free of mirror frames
  hbBc : Option Word             -- latest bc from which an accepted holder heartbeat has come
  pairBc : Option Word           -- the same, of any heartbeat of the PAIR link
  ringBc : Option Word           -- the same, of ring B
  lease : List Byte              -- SYNC bytes 18 to 23 as the holder's heartbeat gives them
  seg : Option (Word × Segment)  -- segment k + 1 received from the holder, by its bc
  frozen : Bool                  -- PH no longer changes: timed from the own counter
  txCrc : Tab (Option (Nat × Nat × Word)) -- by 2 × window + half: SEQ, TYPE and payload CRC of the downstream frame sent
  pairTx : List (List Byte)      -- frames sent on the PAIR link since the last plan instant, its heartbeat first
  mirrors : List Mirror
  mirNum : Nat
  states : List (Nat × Word × List Byte) -- received dynamic parts not yet installed: axis, bc m, bytes
  stream : List Nat              -- holder: axes whose dynamic part is still to be streamed
  streaming : Bool
  install : List Nat             -- axes installed by a join
  digestAt : Nat                 -- clk of the last digest pass's end
  digDiff : Bool                 -- the last two values differed
  deriving DecidableEq, Repr

/-- The twin logic at reset. -/
def Twin.reset : Twin where
  paired := false
  linkUp := false
  yieldReq := false
  fenceReq := none
  takeReq := false
  hb := none
  info := none
  oldLease := none
  relSwitch := false
  pairAt := none
  joinBc := none
  streamBc := 0
  joinEnd := none
  pairFree := 0
  hbBc := none
  pairBc := none
  ringBc := none
  lease := [0, 0, 0, 0, 0, 0]
  seg := none
  frozen := false
  txCrc := []
  pairTx := []
  mirrors := []
  mirNum := 0
  states := []
  stream := []
  streaming := false
  install := []
  digestAt := 0
  digDiff := false

/-- A channel of a dual-channel safety input (R313, R314): is the accepted level its run level, samples seen of the other level, and the last two samples with the
test pulse each lay in, newest first. -/
structure SafeChan where
  run : Bool
  cnt : Nat
  hist : List (Bool × Option Nat)
  deriving DecidableEq, Repr

/-- A channel away from its run level. -/
def SafeChan.away : SafeChan := ⟨false, 0, []⟩

/-- The states of a safety input (R315). -/
inductive InputState where
  | demand | run | fault
  deriving DecidableEq, Repr

/-- A safety input as a Keystone core holds it (R313 to R319). -/
structure SafeInput where
  a : SafeChan
  b : SafeChan
  st : InputState
  was : InputState            -- in the cycle before
  both : Bool                 -- both channels have been away together
  discAt : Option Nat         -- count since which the channels disagree
  pressAt : Option Nat        -- TYPE 4: clk of the press
  op : Bool                   -- TYPE 4: an operation ended in this cycle
  deriving DecidableEq, Repr

/-- An input before its first sample. -/
def SafeInput.idle : SafeInput := ⟨SafeChan.away, SafeChan.away, .demand, .demand, true, none, none, false⟩

/-- A safety function as a core holds it (R317 to R322). -/
structure SafeFunc where
  dem : Bool                  -- demands
  sto : Bool                  -- demands STO
  t1 : Option Nat             -- clk on which its stop-category-1 timer ends
  req : Bool                  -- guard lock: an unlock was requested
  lock : Bool                 -- guard lock: the lock output is on
  wait : Option Nat           -- guard lock: clk by which the lock monitor must reach RUN
  out : Bool                  -- two-hand: both inputs have been out of RUN together
  at1 : Option Nat            -- two-hand: clk on which IN1 and IN2 have reached RUN since
  at2 : Option Nat
  deriving DecidableEq, Repr

/-- A function that awaits its reset. -/
def SafeFunc.waiting : SafeFunc := ⟨true, true, none, false, false, none, false, none, none⟩

/-- A Keystone core (R308): its inputs and functions, the ACK pair, the stations whose loss demands their zones, the functions reset in this cycle, and its
published zone states with the count at which each zone entered STO. It times everything on its own counter (R21): `now` in its clocks, `sub` SYSCLK clk into the
present one, `per` clocks a millisecond. -/
structure KCore where
  per : Nat
  now : Nat
  sub : Nat
  ins : Tab SafeInput
  fns : Tab SafeFunc
  ackA : SafeChan
  ackB : SafeChan
  ackAt : Option Nat          -- count at which both closed
  ackLen : Option Nat         -- how long both were closed, once one has opened
  ackDisc : Option Nat        -- count since which they disagree
  ackBad : Bool               -- a discrepancy spoils the operation
  ackOp : Bool                -- an operation ended in this cycle
  lossDem : List Nat
  resets : List Nat
  sto : Nat
  stop1 : Nat
  stoAt : Tab (Option Nat)
  deriving DecidableEq, Repr

/-- A core after reset, of `per` clocks a millisecond. -/
def KCore.reset (per : Nat) : KCore := ⟨per, 0, 0, [], [], SafeChan.away, SafeChan.away, none, none, none, false, false, [], [], 0xFFFF, 0, []⟩

/-- What Keystone keeps of a station (R328): bc of the last valid copy and its byte 2, the bc from which STO is commanded, and the WDX latch. -/
structure StnWatch where
  lastOk : Option Word
  flags : Nat
  cmd : Option Word
  wdx : Bool
  deriving DecidableEq, Repr

/-- A station not watched yet. -/
def StnWatch.none_ : StnWatch := ⟨none, 0, none, false⟩

/-- Keystone (R308 to R336) beside its registers. -/
structure Keystone where
  img : Tab Byte              -- the image in use, in the cores' SRAM
  hasImg : Bool
  winSet : Bool               -- the window has been written since reset
  conf : Option Word          -- confirmation store (non-volatile)
  cycle : Nat                 -- number of the present safety cycle
  cycleAt : Nat               -- count of K0 at which the next one starts
  k0 : KCore
  k1 : KCore
  xdiff : Bool                -- the last cycle had a cross-check difference
  fwEnd : Nat                 -- count of K0 at which the present Falsework step ends
  cmd : Nat                   -- outputs commanded on in the present cycle
  fc : Nat                    -- FAULT cause found in the present cycle
  stops : List Nat            -- functions whose T1 started in the present cycle
  stn : Tab StnWatch          -- by station
  builtBc : Option Word       -- bc for whose t0 item the last containers were built
  rateDiff : Bool             -- the last t0 item's rate code differs from RATE
  testAt : Nat                -- count of K0 at the last self-test
  deriving DecidableEq, Repr

/-- Keystone at reset; the confirmation store of a new device holds no value. -/
def Keystone.reset : Keystone := ⟨[], false, false, none, 0, 0, KCore.reset 200000, KCore.reset 160000, false, 0, 0, 0, [], [], none, false, 0⟩

/-- A trigger unit's own state (R292 to R294): its level (none: unknown), a tick between the levels since the last extreme, and network times in 2^-32 ns. -/
structure TrigUnit where
  level : Option Bool
  mid : Bool
  rise : Option Nat             -- last rising edge
  fall : Option Nat
  atLo : Option Nat             -- last tick at or below LO
  atHi : Option Nat
  from_ : Nat                   -- e of R294
  deriving DecidableEq, Repr

/-- A unit just enabled. -/
def TrigUnit.idle : TrigUnit := ⟨none, false, none, none, none, none, 0⟩

/-- A register-mark unit's own state (R298): edges in the open gate, the fraction of the first, an edge just before an opening, the clk of a gate close not yet
evaluated, and the results under way, oldest first (clk, ERR; none: no mark). -/
structure MarkUnit where
  edges : Nat
  first : Word
  pre : Option (Nat × Word)
  closeAt : Option Nat
  results : List (Nat × Option Word)
  deriving DecidableEq, Repr

/-- Nothing seen. -/
def MarkUnit.idle : MarkUnit := ⟨0, 0, none, none, []⟩

/-- A trigger asked for between ticks: units fired by the EST, a software write, with the network time and chainage of the first. -/
structure TrigPending where
  units : Nat
  soft : Bool
  time : NetTime
  chn : BitVec 64
  deriving DecidableEq, Repr

/-- The present segment (R287, R288, R300). -/
structure CapSegment where
  stored : Nat                  -- blocks stored
  post : Nat                    -- of them after the trigger
  trig : Option (Nat × Nat × Nat × NetTime × BitVec 64 × Nat) -- slot, sources, s, time, chainage, tick
  maskCnt : Nat
  dead : Nat
  since : Nat                   -- network time of the last block of the segment before, 2^-32 ns
  deriving DecidableEq, Repr

/-- A segment just started. -/
def CapSegment.fresh : CapSegment := ⟨0, 0, none, 0, 0, 0⟩

/-- The ticks that a bc has put on the grid and that have not come yet (R279): the clk of the next, how many, and their distance. -/
structure TickRun where
  at_ : Nat
  left : Nat
  step : Nat
  deriving DecidableEq, Repr

/-- The sample of a tick while its Deck words are read (R280): the time, bc index and chainage of the tick, its count, the trigger noted before it, whether a session
took it, the Deck channels still to read, and whether the next read has waited its clk. -/
structure AcqShot where
  nt : NetTime
  bc : Word
  chn : BitVec 64
  tick : Nat
  pend : Option TrigPending
  live : Bool
  reads : List Nat
  waited : Bool
  deriving DecidableEq, Repr

/-- A request in the DDR4 request queue (R30): a capture block with its address, or one 32-byte beat of a packet's read-out. -/
inductive DdrReq where
  | write (addr : Nat) (bytes : List Byte)
  | read (tag : PktTag)
  deriving DecidableEq, Repr

/-- Acquisition (R279 to R307) beside its registers: the grid of the present bc, the session as latched at the arm, the capture FIFO, and capture memory. -/
structure Acq where
  runs : List TickRun           -- ticks on the grid and still to come
  words : List Word             -- the newest sample of the 64 channels
  srcs : List Word              -- `ACQ_CHc_SRC` as that sample took them
  shot : Option AcqShot         -- a sample whose Deck words are being read
  count : Nat                   -- ticks since the arm
  chans : List Nat              -- channels latched
  pre : Nat
  post : Nat
  nseg : Nat
  base : Nat                    -- bytes
  segb : Nat
  shiftAt : Nat                 -- tick of the arm or the last change of s
  lastS : Option Nat            -- s of the last stored block
  seg : CapSegment
  lastT : Nat                   -- network time of the last stored block, 2^-32 ns
  nextSeg : Bool                -- the next segment starts at the next tick
  draining : Bool
  pend : Option TrigPending
  fifo : List (Nat × List Byte) -- blocks in the capture FIFO: address, bytes; oldest first
  ddrQ : List DdrReq            -- the DDR4 request queue, oldest first, at most 64
  units : Tab TrigUnit
  marks : Tab MarkUnit
  ddr : Tab Byte                -- capture memory, by DDR byte address
  ueAt : List Nat               -- beats of 32 bytes with an uncorrectable error (address / 32) and not rewritten since
  adcSlot : Nat
  adcAt : Nat                   -- clk on which the present conversion ends
  deriving DecidableEq, Repr

/-- Acquisition at reset. -/
def Acq.reset : Acq :=
  ⟨[], [], [], none, 0, [], 0, 0, 0, 0, 0, 0, none, CapSegment.fresh, 0, false, false, none, [], [], [], [], [], [], 0, 400⟩

/-- One flash operation (R410): a read, a program within one page, the erase of a 4 KB sector. -/
inductive FlashStep where
  | read (addr len : Nat)
  | prog (addr : Nat) (bytes : List Byte)
  | erase (addr : Nat)
  deriving DecidableEq, Repr

/-- What a queued request does (R414, R415, R425, R92). -/
inductive FlashJob where
  | write (bank off : Nat) (words : List Word)
  | commit (bank : Nat)
  | erase (area : Nat)
  | reload (pier : Nat)
  | load (area : Nat)
  deriving DecidableEq, Repr

/-- A request in the flash operation queue: its remaining operations, the packet it completes, its first flash address, and whether its deferral has been counted. -/
structure FlashReq where
  job : FlashJob
  steps : List FlashStep
  tag : Option PktTag
  first : Nat
  deferred : Bool
  deriving DecidableEq, Repr

/-- What the flash runs now: an operation of the queue's head, or one of the black-box commit (0: the freeze record; t + 1: tile t with its marker). -/
inductive FlashRun where
  | head
  | boxed (n : Nat)
  deriving DecidableEq, Repr

/-- A black-box commit (R424): the area, whether a power fail started it, the next operation, and the tiles needed. -/
structure BoxCommit where
  area : Nat
  pf : Bool
  next : Nat
  need : Nat
  deriving DecidableEq, Repr

/-- The non-volatile store and the black box (R408 to R428) beside their registers. -/
structure Nvs where
  flash : Tab Byte              -- contents, by flash address (non-volatile)
  tpp : Nat                     -- maximum times from SFDP, µs
  tse : Nat
  queue : List FlashReq
  reloads : List Nat            -- Piers whose reload waits for room in the queue, oldest first
  run : Option (FlashRun × Nat) -- and the clk on which it ends
  codes : List Nat              -- the newest codes of ADC channel 7, newest first, at most four
  erased : List Nat             -- sectors erased since their bank became inactive
  box : List (List Word)        -- black-box entries, newest first
  boxSeq : Word                 -- SEQ of the next entry
  boxTime : NetTime             -- time of the freeze marker
  boxMark : Word                -- SEQ of the freeze marker
  commit : Option BoxCommit
  loading : Bool                -- a load reads an area
  wait : Option FlashRun        -- the operation found uncovered since the last conversion
  ucAt : Nat                    -- flash addresses of the image's microcode and constants sections
  konstAt : Nat
  validAt : Nat                 -- clk from which the codes are valid (R457)
  deriving DecidableEq, Repr

/-- The store at reset. -/
def Nvs.reset : Nvs := ⟨[], 0, 0, [], [], none, [], [], [], 0, NetTime.zero, 0, none, false, none, 0, 0, 800000⟩
/-- The whole machine. -/
structure State where
  pending : List Instr         -- commands waiting, first in first out
  clk : Nat                    -- SYSCLK clk since the last full reset
  free : Nat                   -- the model's own counter of free values drawn
  nt : NetTime                 -- network time
  inc : BitVec 40              -- applied time increment (R34)
  regs : Tab Word              -- register file, by BAR0 address
  tvB : Tab Word               -- second copy of the triple-voted registers
  tvC : Tab Word               -- third copy
  host : HostSide
  evt : Events
  cyc : Cycle
  chn : Chainage
  est : Est
  cap : Capture
  dsp : Dispatch
  piers : Tab Pier              -- by Pier
  axes : Tab AxisCtl            -- by axis entry
  deck : Deck
  pwr : Power
  hif : Hif
  ring : Ring
  twn : Twin
  kst : Keystone
  acq : Acq
  nvs : Nvs
  krefLost : Bool              -- the SYSCLK side has found KREF lost (R29)
  sysLost : Bool               -- SYSCLK has stopped; it is not relocked until a full reset (R29, R430)
  fbDone : Nat                 -- t0 of the last class-L feedback write
  deriving DecidableEq, Repr

/-- The machine right after reset. -/
def State.reset : State where
  pending := []
  clk := 0
  free := 0
  nt := NetTime.zero
  inc := 0x140000000
  regs := []
  tvB := []
  tvC := []
  host := ⟨none, [], ⟨none, false, false, 0⟩, 0, 0, NetTime.zero, none, false, .idcode, none⟩
  evt := ⟨[], 0, 0, [], [], [], 0, NetTime.zero, NetTime.zero, [], [], [], 0xFFFFFFFF, 0, []⟩
  cyc := ⟨0, 0, 0, 0, 0, 3⟩
  chn := ⟨⟨0, 0⟩, ⟨0, 0⟩, 0, ⟨0, 0⟩, 9216, none, 0, 0, none, none, false, [], [], []⟩
  est := ⟨[], [], [], none, false, 0, 0, [], [], [], [], []⟩
  cap := ⟨[], [], 0, [], [], NetTime.zero⟩
  dsp := ⟨[], 1600, 0, [], false, 0, []⟩
  piers := []
  axes := []
  deck := ⟨[], [], [], [], [], none, [], [], [], []⟩
  pwr := ⟨[], [], [], [], 0, [], [], []⟩
  hif := ⟨[], [], [], [], [], 0, [], [], [], none, 0⟩
  ring := Ring.reset
  twn := Twin.reset
  kst := Keystone.reset
  acq := Acq.reset
  nvs := Nvs.reset
  krefLost := false
  sysLost := false
  fbDone := 0

end Sys2Proof.Machine
end

