-- ==== Sys2Proof/Machine/Ops.lean ====
section
/-! DEFINITION. The operations every family of commands is built from: reading and writing registers and their fields (R8 to R11, R393),
network time and chainage (R33 to R38), raising events (R400 to R405) and drawing free values. -/

namespace Sys2Proof.Machine

/-! ## Registers -/

/-- The triple-voted registers (R392): `AXT_Ea_W0`, `TWN_CFG` and `NVS_CFG`. -/
def isTv (a : Nat) : Bool :=
  (decide (0x50000 ≤ a) && decide (a < 0x50A00) && (a % 16 == 0)) || a == R.TWN_CFG || a == R.NVS_CFG

/-- The two-of-three vote, bit by bit (R393). -/
def vote (a b c : Word) : Word := (a &&& b) ||| (a &&& c) ||| (b &&& c)

/-- The present value of a register. A triple-voted register reads as the vote of its copies (R11, R393). -/
def State.reg (s : State) (a : Nat) : Word :=
  if isTv a then vote (tabGet regReset s.regs a) (tabGet regReset s.tvB a) (tabGet regReset s.tvC a)
  else tabGet regReset s.regs a

/-- Give a register a value. A triple-voted register takes it in all three copies (R11). -/
def State.putReg (s : State) (a : Nat) (v : Word) : State :=
  if isTv a then
    { s with regs := tabSet regReset s.regs a v, tvB := tabSet regReset s.tvB a v, tvC := tabSet regReset s.tvC a v }
  else { s with regs := tabSet regReset s.regs a v }

/-- The value of a register field. -/
def State.f (s : State) (x : Fld) : Nat := bitsOf (s.reg x.addr).toNat x.lo x.width

/-- The value of a one-bit field. -/
def State.flag (s : State) (x : Fld) : Bool := s.f x != 0

/-- The value of a field read as two's complement. -/
def State.fSigned (s : State) (x : Fld) : Int := toSigned x.width (s.f x)

/-- Give a register field a value (its low bits). -/
def State.setF (s : State) (x : Fld) (v : Nat) : State :=
  s.putReg x.addr (setBits (s.reg x.addr) x.lo x.width v)

/-- Set a flag. -/
def State.set1 (s : State) (x : Fld) : State := s.setF x 1

/-- Clear a flag. -/
def State.clr (s : State) (x : Fld) : State := s.setF x 0

/-- Set a flag to a Boolean. -/
def State.setB (s : State) (x : Fld) (b : Bool) : State := s.setF x (if b then 1 else 0)

/-- Count `n` more in a counter that saturates. -/
def State.incSat (s : State) (x : Fld) (n : Nat) : State := s.setF x (min (2 ^ x.width - 1) (s.f x + n))

/-- Count `n` more in a counter that wraps. -/
def State.incWrap (s : State) (x : Fld) (n : Nat) : State := s.setF x (s.f x + n)

/-- Apply `g` to the state when `c` holds. -/
def State.when (s : State) (c : Bool) (g : State → State) : State := if c then g s else s

/-- Apply a state change once for each element of a list, in order. -/
def State.each {α : Type} (s : State) (l : List α) (g : State → α → State) : State := l.foldl g s

/-! ## Free values -/

/-- The free word drawn next (log entry 10). -/
def State.freeNow (s : State) : Word := Config.freeWord s.free

/-- Advance the counter of free values. -/
def State.drewFree (s : State) : State := { s with free := s.free + 1 }

/-! ## Network time -/

/-- Nanoseconds in a second. -/
def nsPerSec : Nat := 1000000000

/-- A network time in units of 2^-32 ns. -/
def ntFix (t : NetTime) : Nat := (t.sec.toNat * nsPerSec + t.ns.toNat) * 2 ^ 32 + t.frac.toNat

/-- The network time of a number of 2^-32 ns. -/
def ntOfFix (n : Nat) : NetTime :=
  ⟨BitVec.ofNat 48 (n / 2 ^ 32 / nsPerSec), wordOf (n / 2 ^ 32 % nsPerSec), wordOf (n % 2 ^ 32)⟩

/-- One SYSCLK tick of the network time counter (R34). -/
def ntTick (t : NetTime) (inc : BitVec 40) : NetTime :=
  let fr := t.frac.toNat + inc.toNat
  let ns := t.ns.toNat + fr / 2 ^ 32
  if nsPerSec ≤ ns then ⟨t.sec + 1, wordOf (ns - nsPerSec), wordOf (fr % 2 ^ 32)⟩
  else ⟨t.sec, wordOf ns, wordOf (fr % 2 ^ 32)⟩

/-- The words of a network time that a loss item gives: nanoseconds, seconds low, seconds high (R398). -/
def ntWords3 (t : NetTime) : List Word := [t.ns, wordOf t.sec.toNat, wordOf (t.sec.toNat / 2 ^ 32)]

/-- The bc period in ns of a rate code: 0 is 4 kHz, 3 is 32 kHz (R248). -/
def bcNs (rate : Nat) : Nat := 31250 * 2 ^ (3 - rate)

/-- The nominal clk count N of a bc (R39). -/
def bcClk (rate : Nat) : Nat := 25000 * 2 ^ (3 - rate)

/-- How many whole bc of the present rate a network time holds (R36). -/
def bcCount (rate : Nat) (t : NetTime) : Nat := (t.sec.toNat * nsPerSec + t.ns.toNat) / bcNs rate

/-- The bc index of a network time, low 32 bits (R154). -/
def bcIndexOf (rate : Nat) (t : NetTime) : Word := wordOf (bcCount rate t)

/-- The time that decides the sync instants: the counter, on a partner less the phase `TWN_PHASE.PH` (R36, R341). -/
def State.ntSync (s : State) : NetTime :=
  let ph := s.fSigned R.TWN_PHASE_PH
  if ph = 0 then s.nt else ntOfFix ((ntFix s.nt : Int) - ph * (s.inc.toNat : Int)).toNat

/-- The index of the bc that the time says runs now (R36). -/
def State.bcNow (s : State) : Word := bcIndexOf s.cyc.rate s.ntSync

/-- The clk still to pass before the counter equals or passes the `k`-th multiple of the bc period from now (k = 1 is the next t0), at the
present increment (R36, R41). -/
def State.clkToT0 (s : State) (k : Nat) : Nat :=
  let t := s.ntSync
  let target := (bcCount s.cyc.rate t + k) * bcNs s.cyc.rate * 2 ^ 32
  (target - ntFix t + s.inc.toNat - 1) / max 1 s.inc.toNat

/-- The network time that the counter will hold `n` clk from now at the present increment. -/
def State.ntAfter (s : State) (n : Nat) : NetTime := ntOfFix (ntFix s.nt + n * s.inc.toNat)

/-- The number of the present bc within its cc (R36). -/
def State.bcn (s : State) : Nat := s.cyc.bcIdx.toNat % 64

/-- The clk since t0 of the present bc. -/
def State.sinceT0 (s : State) : Nat := s.clk - s.cyc.t0

/-- The clk count of the present bc: nominal N (R39). -/
def State.nBc (s : State) : Nat := bcClk s.cyc.rate

/-! ## Chainage -/

/-- The chainage a segment has `n` clk after its start (R38). -/
def segAt (g : Segment) (n : Nat) : BitVec 96 := g.s + BitVec.ofInt 96 (g.v.toInt * (n : Int))

/-- The live chainage accumulator (R38). -/
def State.chnLive (s : State) : BitVec 96 := segAt s.chn.seg s.sinceT0

/-- The 64-bit chainage (cycle and fraction) of the accumulator. -/
def chn64 (c : BitVec 96) : BitVec 64 := BitVec.ofNat 64 (c.toNat / 2 ^ 32)

/-- A 64-bit chainage as an accumulator value. -/
def chn96 (c : BitVec 64) : BitVec 96 := BitVec.ofNat 96 (c.toNat * 2 ^ 32)

/-- The signed distance from `c` to `t`, read as R47 says. -/
def chnAhead (t c : BitVec 96) : Int := (t - c).toInt

/-- The fraction word of a chainage. -/
def chnFrac (c : BitVec 96) : Word := wordOf (c.toNat / 2 ^ 32)

/-! ## Events -/

/-- The routing byte of a source (R405). -/
def State.evtRoute (s : State) (src : Nat) : Nat := bitsOf (s.reg (R.EVT_MAP (src / 4))).toNat (8 * (src % 4)) 8

/-- Is the source queued and signalled? -/
def routeEn (b : Nat) : Bool := b.testBit 7
/-- Does the source merge? -/
def routeMerge (b : Nat) : Bool := b.testBit 6
/-- Does the source drive INT_N? -/
def routeInt (b : Nat) : Bool := b.testBit 5
/-- The vector of the source. -/
def routeVec (b : Nat) : Nat := b % 32

/-- Set the pending bit of a source. -/
def State.evtPend (s : State) (src : Nat) : State :=
  let a := R.EVT_PEND (src / 32)
  s.putReg a (s.reg a ||| wordOf (2 ^ (src % 32)))

/-- One event occurrence is lost: counted, LOST set, the time of the first loss kept (R403). -/
def State.evtLose (s : State) : State :=
  let s1 := if s.flag R.EVT_STAT_LOST then s else { s with evt := { s.evt with lossT := s.nt } }
  let s2 : State := { s1 with evt := { s1.evt with
    lossNow := s1.evt.lossNow + 1
    lossNowT := if s1.evt.lossNow = 0 then s1.nt else s1.evt.lossNowT } }
  (s2.incSat R.EVT_LOST_CNT_COUNT 1).set1 R.EVT_STAT_LOST

/-- The number of entries the queue holds (R402, `EVT_FILL`). -/
def State.evtFill (s : State) : Nat := (s.f R.EVT_TAIL_TAIL + 1024 - s.f R.EVT_HEAD_HEAD) % 1024

/-- The slot of a source's newest entry, while it has not been passed to the host (R404). -/
def State.evtNewest (s : State) (src : Nat) : Option Nat :=
  match tabGet (fun _ => none) s.evt.newest src with
  | none => none
  | some slot =>
    if (slot + 1024 - s.f R.EVT_HEAD_HEAD) % 1024 < s.evtFill ∧ bitsOf (s.reg (R.EVT_QUEUE (4 * slot))).toNat 0 8 = src
    then some slot else none

/-- An occurrence that finds its source's latch occupied and differs from the latched one: merged into the source's newest entry where the source merges and DETAIL
agrees (the writer's next clk adds it there), else lost (R403, R404). -/
def State.evtSecond (s : State) (src : Nat) (detail : BitVec 16) (data : Word) : State :=
  match (if routeMerge (s.evtRoute src) then s.evtNewest src else none) with
  | none => s.evtLose
  | some slot =>
    if bitsOf (s.reg (R.EVT_QUEUE (4 * slot))).toNat 16 16 = detail.toNat then { s with evt := { s.evt with merges := s.evt.merges ++ [(src, slot, data)] } }
    else s.evtLose

/-- Raise an event (R400 to R405): the pending bit, then the source's latch, merged with the latched occurrence where the source merges and
DETAIL agrees, or else with its newest entry, or lost. Whether an entry is written is decided here (R403). -/
def State.raise (s : State) (src detail : Nat) (data : Word) : State :=
  let b := s.evtRoute src
  let s := s.evtPend src
  let en := routeEn b
  let on := s.flag R.EVT_CFG_EN
  let s := if en && !on then s.evtLose else s
  let d16 : BitVec 16 := BitVec.ofNat 16 detail
  match tabGet (fun _ => none) s.evt.latch src with
  | none =>
    let l : EvtLatch := ⟨s.nt, chnFrac s.chnLive, s.cyc.bcIdx, d16, data, 1, en && on⟩
    { s with evt := { s.evt with latch := tabSet (fun _ => none) s.evt.latch src (some l) } }
  | some l =>
    if routeMerge b && l.detail == d16 then
      let l' : EvtLatch := { l with data := data, count := min 127 (l.count + 1), queued := l.queued || (en && on) }
      { s with evt := { s.evt with latch := tabSet (fun _ => none) s.evt.latch src (some l') } }
    else if en && on then s.evtSecond src d16 data else s

/-- Has a PLL locked: 0 main, 1 DDR, 2 ring SerDes, 3 trunk SerDes, 4 PCIe, 5 Keystone (R430, R440)? -/
def State.pllLocked (s : State) (i : Nat) : Bool := (s.f R.GLB_CLK_STAT_LOCK).testBit i

/-! ## Host access -/

/-- A host write (R437): it acts once boot has ended in STATE 9; before that it is ignored and counted as unmapped, and in FAILED (STATE 15) it acts only where
`failed` says so. Without SYSCLK none acts (R32). -/
def State.hostWrite (s : State) (failed : Bool) (g : State → State) : State :=
  let b := s.f R.GLB_BOOT_STATE
  if s.sysLost then s
  else if b = 9 then g s
  else if b = 15 then (if failed then g s else s)
  else s.incSat R.GLB_ACC_ERR_UNMAP 1

/-- A host write to BAR0 (R437): in FAILED only a write to `GLB_SWRST` or its complement address acts. -/
def State.bar0Write (s : State) (a : Nat) (g : State → State) : State := s.hostWrite (a == R.GLB_SWRST || a == R.GLB_SWRST + 0x800) g

/-- The blocks whose reads are served before STATE 5 (R437): GLB, PIR, KST, HIF, NVS and DDR. -/
def earlyBlock (a : Nat) : Bool :=
  decide (a ≤ 0xFFF) || (decide (0x40000 ≤ a) && decide (a ≤ 0x4FFFF)) || (decide (0x200000 ≤ a) && decide (a ≤ 0x201FFF))
  || (decide (0x220000 ≤ a) && decide (a ≤ 0x220FFF)) || (decide (0x240000 ≤ a) && decide (a ≤ 0x240FFF))
  || (decide (0x260000 ≤ a) && decide (a ≤ 0x26FFFF))

/-- The register's value after a plain write of `v` (R9, R11): RW and TV bits take it, W1C bits clear, W1S bits set, all others keep theirs. -/
def writtenWord (r : RegRow) (old v : Word) : Word :=
  let rw := accMask (fun c => c == .rw || c == .tv) r.fields
  let w1c := accMask (fun c => c == .w1c) r.fields
  let w1s := accMask (fun c => c == .w1s) r.fields
  (((old &&& ~~~rw) ||| (v &&& rw)) &&& ~~~(v &&& w1c)) ||| (v &&& w1s)

/-- A plain write of a register that exists (R10, R11). -/
def State.plainWrite (s : State) (a : Nat) (v : Word) : State :=
  match findReg a with
  | none => s
  | some r => s.putReg a (writtenWord r (s.reg a) v)

/-- Set `hostRead`, the word the last host read returned. -/
def State.answer (s : State) (v : Word) : State := { s with host := { s.host with hostRead := v } }

/-- A host read of BAR0 (R437): before STATE 5 of boot only the blocks that R437 lists answer, the others return 0; without SYSCLK no access is served (R32). -/
def State.bar0Answer (s : State) (a : Nat) (g : State → State) : State :=
  if s.sysLost then s
  else if s.f R.GLB_BOOT_STATE < 5 ∧ !earlyBlock a then s.answer 0
  else g s

/-- The sum of the element values of a list. -/
def sumOf (l : List Nat) : Nat := l.foldl (· + ·) 0

end Sys2Proof.Machine
end

