-- ==== Sys2Proof/Machine/Cym.lean ====
section
/-! DEFINITION. The cycle matrix as the windows of a bc (R236), the compute interval's length (R66), and the windows that carry a slot (R69). -/

namespace Sys2Proof.Machine

/-- An entry of the cycle matrix (R236): its bc number and window, and its fields. -/
structure CymEntry where
  b : Nat
  w : Nat
  cls : Nat
  ring : Nat
  dir : Nat
  start : Nat
  len : Nat
  owner : Nat
  first : Nat
  src : Nat
  count : Nat
  rsize : Nat
  evcap : Nat
  deriving DecidableEq, Repr

/-- The entry of window `w` of every bc whose number is `b` (R236). -/
def State.cym (s : State) (b w : Nat) : CymEntry :=
  let n := b * 64 + w
  ⟨b, w, s.f (R.CYM_W0_CLASS n), s.f (R.CYM_W0_RING n), s.f (R.CYM_W0_DIR n), s.f (R.CYM_W0_START n), s.f (R.CYM_W1_LEN n), s.f (R.CYM_W1_OWNER n),
    s.f (R.CYM_W2_FIRST n), s.f (R.CYM_W2_SRC n), s.f (R.CYM_W2_COUNT n), s.f (R.CYM_W2_RSIZE n), s.f (R.CYM_W3_EVCAP n)⟩

/-- The windows of bc number `b` that are not idle, in window order. -/
def State.windowsOf (s : State) (b : Nat) : List CymEntry := ((List.range 64).map (fun w => s.cym b w)).filter (fun e => e.cls != 0)

/-- The windows of the whole matrix. -/
def State.windows (s : State) : List CymEntry := (List.range 64).flatMap (fun b => s.windowsOf b)

/-- Is it an express class? -/
def isExpress (e : CymEntry) : Bool := e.cls == 4 || e.cls == 5

/-- The slot of record `i` in half `h` (R236). -/
def recordSlot (e : CymEntry) (i h : Nat) : Nat := if isExpress e then e.first + 2 * i + h else e.first + i

/-- The record of a window that a slot is, if any, in half `h`. -/
def slotRecord (e : CymEntry) (slot h : Nat) : Option Nat := (List.range e.count).find? (fun i => recordSlot e i h == slot)

/-- The interval length H of a rate (R66). -/
def intervalLen (rate : Nat) : Nat := 4800 * 2 ^ (3 - rate)

/-- The express period P in clk. -/
def State.pExp (s : State) : Nat := s.nBc / 2

/-- Does a span run (state RUN, code 4, R251)? -/
def State.spanRuns (s : State) : Bool := s.f R.ZLP_SSTAT_STATE == 4 && !s.sysLost

/-- The window of a class and direction that carries a slot, earliest START first in window order. -/
def carrier (ws : List CymEntry) (cls dir slot : Nat) : List CymEntry :=
  ws.filter (fun e => e.cls == cls && e.dir == dir && e.src == 0 && (slotRecord e slot 0).isSome)

/-- The smallest START of a list of windows, in clk. -/
def firstStart (l : List CymEntry) : Nat := l.foldl (fun m e => min m (e.start * 8)) (65536 * 8)

end Sys2Proof.Machine
end

