-- ==== Sys2Proof/Machine/Deck.lean ====
section
/-! DEFINITION. The Deck (R95 to R103): its layout, the parameter defaults of the home copies, reads and writes of its words, forwarding to the
resident copies, cam points and the host window. -/

namespace Sys2Proof.Machine

/-- Parameter words whose default is not 0 (R142, R177): state offset and pattern. -/
def paramDefaults : List (Nat × Nat) :=
  [(0x004, 0x49742400), (0x008, 0x4b189680), (0x00c, 0x4b189680), (0x010, 0x4e6e6b28), (0x014, 0x000003e8),
   (0x018, 0x45800000), (0x020, 0xffffffff), (0x024, 0x7fffffff), (0x02c, 0x80000000), (0x034, 0x461c4000),
   (0x038, 0x447a0000), (0x03c, 0x49742400), (0x04c, 0x447a0000), (0x050, 0x00000010), (0x104, 0x00000002),
   (0x108, 0x00000003), (0x10c, 0x3f800000), (0x110, 0x4e6e6b28), (0x114, 0x5368d4a5), (0x11c, 0x3f800000),
   (0x120, 0x47800000), (0x148, 0x447a0000), (0x14c, 0x00007d00), (0x304, 0x3f800000), (0x324, 0x3f800000),
   (0x344, 0x3f800000), (0x364, 0x3f800000), (0x400, 0x00000400), (0x408, 0x45800000), (0x524, 0x3f733333),
   (0x528, 0x3fc00000)]

/-- The default of the parameter word at a state offset (R142, R177). -/
def paramDefault (off : Nat) : Word :=
  match paramDefaults.find? (fun e => e.1 == off) with
  | none => 0
  | some e => wordOf e.2

/-- What a byte of the Deck that nothing has written reads as: the boot loader's parameter defaults in the home copies (R142), else 0 (log entry 20). -/
def deckDefault (a : Nat) : Byte :=
  if a < 0x50000 then BitVec.ofNat 8 ((paramDefault (a % 0x800 / 4 * 4)).toNat / 2 ^ (8 * (a % 4))) else 0

/-- The word at a Deck byte address. -/
def State.deckWord (s : State) (a : Nat) : Word := wordOf (natOfBytes (tabRead deckDefault s.deck.mem a 4))

/-- Store a word at a Deck byte address; a written word is no longer bad (R108). -/
def State.deckPut (s : State) (a : Nat) (v : Word) : State :=
  { s with deck := { s.deck with
      mem := tabWrite deckDefault s.deck.mem a (bytesOf 4 v.toNat)
      bad := s.deck.bad.filter (fun b => b != a / 8 * 8) } }

/-- Store words from a Deck byte address up. -/
def State.deckPutAll (s : State) (a : Nat) : List Word → State
  | [] => s
  | w :: ws => (s.deckPut a w).deckPutAll (a + 4) ws

/-- Does the Deck word at a byte address hold a double-bit error? -/
def State.deckBad (s : State) (a : Nat) : Bool := s.deck.bad.contains (a / 8 * 8)

/-- The parameter word of an axis's home copy. -/
def State.homePar (s : State) (a off : Nat) : Word := s.deckWord (a * 0x800 + off)

/-- The parameter word of an axis's resident copy, which its tasks read (R98). -/
def State.resPar (s : State) (a off : Nat) : Word :=
  wordOf (natOfBytes (tabRead deckDefault s.deck.resPar (a * 0x800 + off) 4))

/-- The dynamic part of an axis's home copy. -/
def State.homeDyn (s : State) (a : Nat) : AxisDyn := tabGet (fun _ => AxisDyn.reset) s.deck.home a

/-- The dynamic part of an axis's resident copy. -/
def State.resDyn (s : State) (a : Nat) : AxisDyn := tabGet (fun _ => AxisDyn.reset) s.deck.res a

/-- Give the resident copy a dynamic part. -/
def State.putResDyn (s : State) (a : Nat) (d : AxisDyn) : State :=
  { s with deck := { s.deck with res := tabSet (fun _ => AxisDyn.reset) s.deck.res a d } }

/-- Give the home copy a dynamic part. -/
def State.putHomeDyn (s : State) (a : Nat) (d : AxisDyn) : State :=
  { s with deck := { s.deck with home := tabSet (fun _ => AxisDyn.reset) s.deck.home a d } }

/-- Give both copies a dynamic part. -/
def State.putDyn (s : State) (a : Nat) (d : AxisDyn) : State := (s.putResDyn a d).putHomeDyn a d

/-- The entries of a table with keys in `[lo, hi)` replaced by those of another. -/
def tabCopyRange (dst src : Tab Byte) (lo hi : Nat) : Tab Byte :=
  dst.filter (fun e => decide (e.1 < lo)) ++ src.filter (fun e => decide (lo ≤ e.1) && decide (e.1 < hi)) ++
    dst.filter (fun e => decide (hi ≤ e.1))

/-- A load or a restore: the resident copy takes the home copy's parameters and dynamic part (R97, R99, R105). -/
def State.loadState (s : State) (a : Nat) : State :=
  let s : State := { s with deck := { s.deck with
    resPar := tabCopyRange s.deck.resPar s.deck.mem (a * 0x800) (a * 0x800 + 0x600)
    fwd := s.deck.fwd.filter (fun f => f.2.1 / 0x800 != a) } }
  s.putResDyn a (s.homeDyn a)

/-- A published word of the dynamic part (R141). -/
def dynWord (d : AxisDyn) (off : Nat) : Word :=
  if off = 0x600 then d.status
  else if off = 0x604 then wordOf d.missRun
  else if off = 0x608 then wordOf d.missTot
  else if off = 0x60C then wordOf d.cmdRun
  else if off = 0x610 then wordOf d.cmdTot
  else if off = 0x614 then wordOf d.plRun
  else if off = 0x618 then wordOf d.ltT
  else if off = 0x61C then wordOf d.fltT
  else if off = 0x620 then wordOf d.hlatch.toNat
  else wordOf (d.hlatch.toNat / 2 ^ 32)

/-- A read of a Deck word through port B (R100): the word, and the state after it. The words of the dynamic part from 0x628 up have no published layout
(R141), so what they hold is a free value. -/
def State.deckRead (s : State) (a : Nat) : Word × State :=
  if a < 0x50000 ∧ 0x600 ≤ a % 0x800 then
    if a % 0x800 < 0x628 then (dynWord (s.homeDyn (a / 0x800)) (a % 0x800), s) else (s.freeNow, s.drewFree)
  else if 0x62800 ≤ a ∧ a < 0x70000 then (0, s)
  else (s.deckWord a, s)

/-- Is the axis's state resident on its home Pier? -/
def State.isResident (s : State) (a : Nat) : Bool := s.flag (R.AXT_W2_RES a)

/-- A write of a parameter word of a home copy lands, and is forwarded to the resident copy, where it lands 4 clk later (R98). -/
def State.parWrite (s : State) (a off : Nat) (v : Word) : State :=
  let s := s.deckPut (a * 0x800 + off) v
  if s.isResident a then { s with deck := { s.deck with fwd := s.deck.fwd ++ [(s.clk + 4, a * 0x800 + off, v)] } } else s

/-- Apply one forwarded write to the resident copy. -/
def State.fwdApply (s : State) (f : Nat × Nat × Word) : State :=
  { s with deck := { s.deck with resPar := tabWrite deckDefault s.deck.resPar f.2.1 (bytesOf 4 f.2.2.toNat) } }

/-- The controls of an axis entry. -/
def State.axis (s : State) (a : Nat) : AxisCtl := tabGet (fun _ => AxisCtl.idle) s.axes a

/-- Change the controls of an axis entry. -/
def State.putAxis (s : State) (a : Nat) (c : AxisCtl) : State := { s with axes := tabSet (fun _ => AxisCtl.idle) s.axes a c }

/-- Is the axis's state being moved between Piers? -/
def State.isMoving (s : State) (a : Nat) : Bool := (s.axis a).moving.isSome

/-- RESIDENT_COPY_UPDATE: forwarded writes land 4 clk after the home copy, except those held by a move (R98). -/
def execResidentCopyUpdate (s : State) : Host.Outcome State Fault Refusal :=
  let due := s.deck.fwd.filter (fun f => decide (f.1 ≤ s.clk) && !s.isMoving (f.2.1 / 0x800))
  let rest := s.deck.fwd.filter (fun f => !(decide (f.1 ≤ s.clk) && !s.isMoving (f.2.1 / 0x800)))
  let s := s.each due (fun s f => s.fwdApply f)
  .next { s with deck := { s.deck with fwd := rest } }

/-- Write a whole cam point (R103). -/
def State.camPut (s : State) (a : Nat) (lo hi : Word) : State := (s.deckPut a lo).deckPut (a + 4) hi

/-- A window write of a cam point's high word: both halves on one clk, the low half from the staged word of the same point, or 0 (R103). -/
def State.camHigh (s : State) (a : Nat) (v : Word) : State :=
  let p := a / 8 * 8
  let lo : Word := match s.deck.camLow with
    | some (q, w) => if q = p then w else 0
    | none => 0
  let s := s.camPut p lo v
  { s with deck := { s.deck with camLow := none } }

/-- A write of the Deck through port B by the host (R98, R100, R102, R103). -/
def State.deckHostWrite (s : State) (a : Nat) (v : Word) : State :=
  if a < 0x50000 then
    if a % 0x800 < 0x600 then s.parWrite (a / 0x800) (a % 0x800) v else s.set1 R.DCK_STAT_WR_IGN
  else if a < 0x70000 then s.set1 R.DCK_STAT_WR_IGN
  else if a < 0x100000 then s.deckPut a v
  else if a % 8 = 0 then { s with deck := { s.deck with camLow := some (a, v) } }
  else s.camHigh a v

/-- The Deck address a window offset shows (R102). -/
def State.windowAddr (s : State) (off : Nat) : Nat := s.f R.DCK_PAGE_PAGE * 0x40000 + off % 0x40000 / 4 * 4

/-- DECK_WINDOW_WRITE (R98, R100, R102). -/
def execDeckWindowWrite (off : Nat) (val : Word) (s : State) : Host.Outcome State Fault Refusal :=
  .next (s.bar0Write (0xC0000 + off) (fun s => s.deckHostWrite (s.windowAddr off) val))

/-- CAM_POINT_HIGH_WRITE: a window write of the high word of the cam point that the offset shows (R103). -/
def execCamPointHighWrite (off : Nat) (val : Word) (s : State) : Host.Outcome State Fault Refusal :=
  .next (s.bar0Write (0xC0000 + off) (fun s => s.deckHostWrite (s.windowAddr off) val))

/-- Clearing `DCK_STAT.UE` clears `DCK_UE_ADDR.VALID`, and clearing `DCK_STAT.CAM_UE` clears `DCK_CAM_BAD.VALID` (R112). -/
def dckRegWrite (s : State) (a : Nat) (v : Word) : Option State :=
  if a = R.DCK_STAT then
    let s := s.plainWrite a v
    let s := s.when (v.toNat.testBit 1) (fun s => s.clr R.DCK_UE_ADDR_VALID)
    some (s.when (v.toNat.testBit 2) (fun s => s.clr R.DCK_CAM_BAD_VALID))
  else none

end Sys2Proof.Machine
end

