-- ==== Sys2Proof/Machine/Axt.lean ====
section
/-! DEFINITION. The axis table and the residence of axis states (R2, R76, R96, R99, R107, R110, R111): slots of the Piers, home assignment, enabling and
disabling entries, loads and moves, axis faults. -/

namespace Sys2Proof.Machine

/-! ## Slots of the Piers -/

/-- What a state slot of a Pier holds: an axis, or 0xFF when free (`PIR_RESi`, R109). -/
def State.slotAxis (s : State) (p i : Nat) : Nat := bitsOf (s.reg (R.PIR_RES p (i / 4))).toNat (8 * (i % 4)) 8

/-- Give a slot of a Pier an axis, or 0xFF. -/
def State.putSlot (s : State) (p i v : Nat) : State :=
  s.putReg (R.PIR_RES p (i / 4)) (setBits (s.reg (R.PIR_RES p (i / 4))) (8 * (i % 4)) 8 v)

/-- How many states a Pier holds (`PIR_STAT.RESN`). -/
def State.residentCount (s : State) (p : Nat) : Nat := (List.range 32).countP (fun i => s.slotAxis p i != 0xFF)

/-- The lowest-numbered free slot (R96). -/
def State.freeSlot (s : State) (p : Nat) : Option Nat := (List.range 32).find? (fun i => s.slotAxis p i == 0xFF)

/-- Place a state in the lowest-numbered free slot of a Pier (R96). -/
def State.placeSlot (s : State) (p a : Nat) : State :=
  match s.freeSlot p with
  | none => s
  | some i => s.putSlot p i a

/-- Free every slot of a Pier that holds an axis. -/
def State.dropSlot (s : State) (p a : Nat) : State :=
  s.each (List.range 32) (fun t i => if s.slotAxis p i = a then t.putSlot p i 0xFF else t)

/-- Is a Pier in SERVICE (R93)? -/
def State.inService (s : State) (p : Nat) : Bool := s.f (R.PIR_STAT_STATE p) == 2

/-! ## Axis entries -/

/-- The class of an entry: 0 S, 1 X, 2 L, 3 P (R110). -/
def State.axisClass (s : State) (a : Nat) : Nat := s.f (R.AXT_W0_CLASS a)
/-- Is the entry enabled? -/
def State.axisOn (s : State) (a : Nat) : Bool := s.flag (R.AXT_W0_EN a)
/-- STATE of the entry: 0 disabled, 1 quiesced, 2 running, 3 fault. -/
def State.axisState (s : State) (a : Nat) : Nat := s.f (R.AXT_W2_STATE a)
/-- The axis's home Pier field. -/
def State.axisHome (s : State) (a : Nat) : Nat := s.f (R.AXT_W2_HOME a)

/-- The axis entries. -/
def axisList : List Nat := List.range 160

/-- Enabled axes of a class. -/
def State.enabledCount (s : State) (cls : Nat) : Nat := axisList.countP (fun a => s.axisOn a && s.axisClass a == cls)

/-- Class-X axes pinned to a Pier (R76). -/
def State.pinnedCount (s : State) (p : Nat) : Nat :=
  axisList.countP (fun a => s.axisOn a && s.flag (R.AXT_W2_PIN a) && s.axisHome a == p)

/-- The Piers in ascending number. -/
def pierList : List Nat := List.range 16

/-- A Pier's own state. -/
def State.pier (s : State) (p : Nat) : Pier := tabGet (fun _ => Pier.idle) s.piers p

/-- Change a Pier's own state. -/
def State.putPier (s : State) (p : Nat) (x : Pier) : State := { s with piers := tabSet (fun _ => Pier.idle) s.piers p x }

/-- The states a Pier holds, with one that a decision has given it and that has not yet come (R75, R96). -/
def State.slotsTaken (s : State) (p : Nat) : Nat :=
  s.residentCount p + (match (s.pier p).asg with | some g => if g.move = .stay then 0 else 1 | none => 0)

/-- Can a Pier take one more state? -/
def State.canTake (s : State) (p : Nat) : Bool := s.inService p && decide (s.slotsTaken p < 32)

/-- The Pier that takes the state of an enabled axis (R99; R76 for class X). -/
def State.chooseHome (s : State) (a cls : Nat) : Option Nat :=
  if cls = 1 then pierList.find? (fun p => s.canTake p && decide (s.pinnedCount p < 2))
  else if s.canTake (a % 16) then some (a % 16)
  else pierList.find? (fun p => s.canTake p)

/-- The limits of R2 with one more axis of a class. -/
def State.withinR2 (s : State) (cls : Nat) : Bool :=
  let n (c : Nat) : Nat := s.enabledCount c + if c = cls then 1 else 0
  decide (n 0 + n 1 + n 3 ≤ 144) && decide (n 1 ≤ 32) && decide (n 2 ≤ 16)

/-- The feedback slots an entry uses (R101, R111). -/
def State.fbSlots (s : State) (a : Nat) : List Nat :=
  let f := s.f (R.AXT_W1_FB_SLOT a)
  if s.axisClass a = 1 then [f, f + 1] else [f]

/-- The command slots an entry uses: none for class L (R111). -/
def State.cmdSlots (s : State) (a : Nat) : List Nat :=
  let c := s.f (R.AXT_W1_CMD_SLOT a)
  if s.axisClass a = 1 then [c, c + 1] else if s.axisClass a = 2 then [] else [c]

/-- Do the entry's slots overlap no slot of another enabled axis, within the ranges of R111? -/
def State.slotsOk (s : State) (a : Nat) : Bool :=
  let others := axisList.filter (fun b => b != a && s.axisOn b)
  let clash (g : Nat → List Nat) : Bool := others.any (fun b => (g b).any (fun x => (g a).contains x))
  !clash s.fbSlots && !clash s.cmdSlots &&
    (s.axisClass a != 1 || (decide (s.f (R.AXT_W1_FB_SLOT a) ≤ 510) && decide (s.f (R.AXT_W1_CMD_SLOT a) ≤ 510)))

/-- Is the entry's lane free of other enabled class-L axes (R111)? -/
def State.laneFree (s : State) (a : Nat) : Bool :=
  s.axisClass a != 2 ||
    !(axisList.any (fun b => b != a && s.axisOn b && s.axisClass b == 2 && s.f (R.AXT_W0_LANE b) == s.f (R.AXT_W0_LANE a)))

/-- Is a parameter word of the home copy bad, so that the axis is not enabled until the host rewrites it (R108)? -/
def State.homeBad (s : State) (a : Nat) : Bool :=
  s.deck.bad.any (fun b => b / 0x800 == a && decide (b < 0x50000) && decide (b % 0x800 < 0x600))

/-- Why an enable is refused (R111), in the order of the rule; `bad` is a bad home copy (R108). -/
inductive EnableRefusal where
  | cap | lane | slot | pier | bad
  deriving DecidableEq, Repr

/-- Does the measured express loop time keep class X disabled (R5): XOFF stands and the start that set it has not ended (log entry 90)? -/
def State.xDisabled (s : State) : Bool := s.flag R.ZLP_STAT_XOFF && s.f R.ZLP_SSTAT_STATE != 0

/-- The tests of an enable of an entry whose fields are in place (R111); a class-X enable under R5's loss of class X counts as one over the limits of R2 (log entry 90). -/
def State.enableTest (s : State) (a : Nat) : Option EnableRefusal :=
  let cls := s.axisClass a
  if !s.withinR2 cls || (cls == 1 && s.xDisabled) then some .cap
  else if !s.laneFree a then some .lane
  else if !s.slotsOk a then some .slot
  else if (s.chooseHome a cls).isNone then some .pier
  else if s.homeBad a then some .bad
  else none

/-- The status bit a refused enable sets (R110, R111). -/
def State.enableRefused (s : State) (r : EnableRefusal) : State :=
  match r with
  | .cap => s.set1 R.AXT_STAT_CAP_BAD
  | .lane => s.set1 R.AXT_STAT_LANE_BAD
  | .slot => s.set1 R.AXT_STAT_SLOT_BAD
  | .pier => s.set1 R.AXT_STAT_PIER_BAD
  | .bad => s

/-- The deadline the matrix gives a ring axis, with an interval in which its task can end; none where R69 refuses the start.
An interval serves where the later of its open and the feedback window's START, plus the task's cost, lies within its close and the deadline (log entry 89). -/
def State.matrixDeadline (s : State) (ws : List CymEntry) (a : Nat) : Option Nat :=
  let x := s.axisClass a == 1
  let cmd := carrier ws (if x then 5 else 2) 0 (s.f (R.AXT_W1_CMD_SLOT a))
  let fb := carrier ws (if x then 4 else 2) 1 (s.f (R.AXT_W1_FB_SLOT a))
  let f0 := if fb.isEmpty then 0 else firstStart fb
  if cmd.isEmpty then none
  else
    let d := firstStart cmd - 32
    let o := s.f R.DSP_CWIN_OPEN
    let h := intervalLen s.cyc.rate
    let ivs := if x then [(o, o + h)] else [(o, o + h), (s.pExp + o, s.pExp + o + h)]
    if ivs.any (fun i => decide (max i.1 f0 + (if x then 880 else 720) ≤ min i.2 d)) then some d else none

/-- The deadline shown in `DSP_DLa` (R69): for class L the close of C2; an axis the matrix gives none shows 0. -/
def State.showDeadline (s : State) (ws : List CymEntry) (a : Nat) : State :=
  let c2 := s.pExp + s.f R.DSP_CWIN_OPEN + intervalLen s.cyc.rate
  s.setF (R.DSP_DL_DL a) (if !s.axisOn a then 0 else if s.axisClass a = 2 then c2 else (s.matrixDeadline ws a).getD 0)

/-- The deadline of an axis that is enabled, or whose slots are changed, while a span runs follows the matrix in force (R69; log entry 89). -/
def State.newDeadline (s : State) (a : Nat) : State := s.when s.spanRuns (fun s => s.showDeadline s.windows a)

/-- Give an axis a home: its slot is taken, HOME (and PIN for class X) read it, and the 80-clk load starts (R76, R99). -/
def State.startLoad (s : State) (a p : Nat) : State :=
  let s := ((s.dropSlot (s.axisHome a) a).placeSlot p a).setF (R.AXT_W2_HOME a) p
  let s := s.setB (R.AXT_W2_PIN a) (s.axisClass a == 1)
  let s := s.clr (R.AXT_W2_RES a)
  s.putAxis a { s.axis a with lostHome := false, loadEnd := some (s.clk + 80), moving := none }

/-- An accepted enable (R111): EN, the load, and STATE 1. MISS_TOT and CMD_TOT count from here (R141), and the next task is the first after an enable. -/
def State.enableAccept (s : State) (a p : Nat) : State :=
  let s := s.set1 (R.AXT_W0_EN a)
  let s := s.putHomeDyn a { s.homeDyn a with missTot := 0, cmdTot := 0, fresh := true }
  let s := s.putAxis a AxisCtl.idle
  ((s.startLoad a p).setF (R.AXT_W2_STATE a) 1).newDeadline a

/-- Take a pending task of an axis out of the ready lists and out of the assignments (R99). -/
def State.dropPending (s : State) (a : Nat) : State :=
  let s : State := { s with dsp := { s.dsp with ready := s.dsp.ready.filter (fun t => !(t.kind == .axis && t.id == a)) } }
  s.each pierList (fun s p => match (s.pier p).asg with
    | some g => if g.task.kind == .axis && g.task.id == a then s.putPier p { s.pier p with asg := none, flow := g.flow } else s
    | none => s)

/-- The Pier on which a task of the axis runs now. -/
def State.runningOn (s : State) (a : Nat) : Option Nat :=
  pierList.find? (fun p => match (s.pier p).run with
    | some r => r.task.kind == .axis && r.task.id == a
    | none => false)

/-- Free the slot of a disabled axis. -/
def State.unplace (s : State) (a : Nat) : State :=
  let s := s.dropSlot (s.axisHome a) a
  s.clr (R.AXT_W2_RES a)

/-- Disable an entry (R99, R111): no new task, a pending task is removed, a running task completes and the slot is then freed. -/
def State.axisDisable (s : State) (a : Nat) : State :=
  if !s.axisOn a then s
  else
    let s := s.dropPending a
    let s := ((s.clr (R.AXT_W0_EN a)).setF (R.AXT_W2_STATE a) 0).clr (R.AXT_W2_PIN a)
    if (s.runningOn a).isSome then s.putAxis a { AxisCtl.idle with leaving := true }
    else (s.unplace a).putAxis a AxisCtl.idle

/-- Write the fields CLASS, LANE and STN of an entry (R110, R111): those of an enabled entry stay, and a write that would change them sets LIVE_IGN. -/
def State.axisFields (s : State) (a : Nat) (v : Word) : State :=
  let m : Word := 0x3F00FFFF
  let old := s.reg (R.AXT_W0 a)
  if s.axisOn a then (if old &&& m = v &&& m then s else s.set1 R.AXT_STAT_LIVE_IGN)
  else s.putReg (R.AXT_W0 a) ((old &&& ~~~m) ||| (v &&& m))

/-- Enable an entry whose fields have been written: the refusal, if any, and the state after it (R111). -/
def State.axisEnable (s : State) (a : Nat) : Option EnableRefusal × State :=
  if s.axisOn a then (none, s)
  else match s.enableTest a with
    | some r => (some r, s.enableRefused r)
    | none =>
      match s.chooseHome a (s.axisClass a) with
      | none => (some .pier, s.enableRefused .pier)
      | some p => (none, s.enableAccept a p)

/-- A host write of `AXT_Ea_W0` (R3, R111): an enable over the limits leaves the whole entry as it was. -/
def State.axisWrite (s : State) (a : Nat) (v : Word) : State :=
  let t := s.axisFields a v
  if v.toNat.testBit 31 then
    let r := t.axisEnable a
    if r.1 = some .cap then s.enableRefused .cap else r.2
  else t.axisDisable a

/-- AXIS_ENABLE_WRITE: a write of `AXT_Ea_W0`, meant with EN = 1 (R111). -/
def execAxisEnableWrite (a : Fin 160) (val : Word) (s : State) : Host.Outcome State Fault Refusal :=
  .next (s.bar0Write (R.AXT_W0 a.val) (fun s => s.axisWrite a.val (val ||| 0x80000000)))

/-- AXIS_DISABLE_WRITE: a write of `AXT_Ea_W0`, meant with EN = 0 (R111). -/
def execAxisDisableWrite (a : Fin 160) (val : Word) (s : State) : Host.Outcome State Fault Refusal :=
  .next (s.bar0Write (R.AXT_W0 a.val) (fun s => s.axisWrite a.val (val &&& 0x7FFFFFFF)))

/-- STATE_LOAD_END: 80 clk after its start the load ends and the state is resident on its home Pier (R99). -/
def execStateLoadEnd (a : Fin 160) (s : State) : Host.Outcome State Fault Refusal :=
  match (s.axis a.val).loadEnd with
  | none => .next s
  | some c =>
    if c ≤ s.clk then
      let s := (s.loadState a.val).set1 (R.AXT_W2_RES a.val)
      .next (s.putAxis a.val { s.axis a.val with loadEnd := none })
    else .next s

/-- STATE_MOVE_END: the source slot is freed in the clk on which the move ends, and writes held by it are applied (R96, R98). -/
def execStateMoveEnd (a : Fin 160) (s : State) : Host.Outcome State Fault Refusal :=
  match (s.axis a.val).moving with
  | none => .next s
  | some (src, _, c) =>
    if c ≤ s.clk then
      let s := s.dropSlot src a.val
      let s := s.putAxis a.val { s.axis a.val with moving := none }
      let held := s.deck.fwd.filter (fun f => f.2.1 / 0x800 == a.val && decide (f.1 ≤ s.clk))
      let s := s.each held (fun s f => s.fwdApply f)
      .next { s with deck := { s.deck with fwd := s.deck.fwd.filter (fun f => !(f.2.1 / 0x800 == a.val && decide (f.1 ≤ s.clk))) } }
    else .next s

/-! ## Axis faults -/

/-- Set the axis's bit in `AXT_FLT_MAPn`. -/
def State.fltMap (s : State) (a : Nat) : State :=
  let r := R.AXT_FLT_MAP (a / 32)
  s.putReg r (s.reg r ||| wordOf (2 ^ (a % 32)))

/-- FCODE, the fault map and the axis-fault event of an axis (R107, R108, R149). -/
def State.axisFaultMark (s : State) (a code : Nat) : State :=
  ((s.setF (R.AXT_W2_FCODE a) code).fltMap a).raise 0x30 a (wordOf code)

/-- An axis enters STATE 3 with a fault code (R149). -/
def State.axisFault (s : State) (a code : Nat) : State := (s.axisFaultMark a code).setF (R.AXT_W2_STATE a) 3

/-- AXT registers whose value follows from the table. -/
def axtRead (s : State) (a : Nat) : Option Word :=
  if a = R.AXT_COUNT then
    some (wordOf (s.enabledCount 0 + s.enabledCount 1 * 2 ^ 8 + s.enabledCount 2 * 2 ^ 16 + s.enabledCount 3 * 2 ^ 24))
  else none

/-- AXT registers with a rule of their own for a write. -/
def axtRegWrite (s : State) (a : Nat) (v : Word) : Option State :=
  if 0x50000 ≤ a ∧ a < 0x50A00 ∧ a % 16 = 0 then some (s.axisWrite ((a - 0x50000) / 16) v)
  else if 0x50000 ≤ a ∧ a < 0x50A00 ∧ a % 16 = 4 then some ((s.plainWrite a v).newDeadline ((a - 0x50000) / 16))
  else none

end Sys2Proof.Machine
end

