-- ==== Sys2Proof/Machine/Est.lean ====
section
/-! DEFINITION. The Event Schedule Table (R50 to R57): entries, crossings, fire lists, commits, the pins and their pulse timers. What a firing
does outside this unit is in Machine/Fire.lean. -/

namespace Sys2Proof.Machine

/-- Word `w` of entry `idx`. -/
def State.estWord (s : State) (idx w : Nat) : Word := tabGet (fun _ => 0) s.est.tab (4 * idx + w)

/-- Write word `w` of entry `idx`. -/
def State.estPut (s : State) (idx w : Nat) (v : Word) : State :=
  { s with est := { s.est with tab := tabSet (fun _ => 0) s.est.tab (4 * idx + w) v } }

/-- The fields of an entry's word 2 (R50). -/
def w2En (w : Word) : Bool := w.toNat.testBit 31
def w2Fwd (w : Word) : Bool := w.toNat.testBit 30
def w2Rev (w : Word) : Bool := w.toNat.testBit 29
def w2Rep (w : Word) : Bool := w.toNat.testBit 28
def w2Act (w : Word) : Nat := bitsOf w.toNat 24 4
def w2Width (w : Word) : Nat := bitsOf w.toNat 0 16

/-- Set or clear bit `b` of word 2 of an entry. -/
def State.estW2Bit (s : State) (idx b : Nat) (v : Bool) : State :=
  s.estPut idx 2 (setBits (s.estWord idx 2) b 1 (if v then 1 else 0))

/-- The target of an entry as an accumulator value (R50). -/
def estTarget (w0 w1 : Word) : BitVec 96 := BitVec.ofNat 96 ((w1.toNat * 2 ^ 32 + w0.toNat) * 2 ^ 32)

/-- How far a segment of velocity `v` must run from `start` to reach the target of an entry in an enabled direction, in 2^-64 mc: the
distance and the speed, if the entry is enabled in the direction of travel (R52). -/
def estDistance (w0 w1 w2 : Word) (start : BitVec 96) (v : BitVec 64) : Option (Nat × Nat) :=
  let t := estTarget w0 w1
  let vi := v.toInt
  if 0 < vi ∧ w2Fwd w2 then
    let d : Int := if w2Rep w2 then ((t.toInt - start.toInt) % (2 : Int) ^ 64) else chnAhead t start
    if 0 ≤ d then some (d.toNat, vi.toNat) else none
  else if vi < 0 ∧ w2Rev w2 then
    let d : Int := if w2Rep w2 then ((start.toInt - t.toInt) % (2 : Int) ^ 64) else chnAhead start t
    if 0 ≤ d then some (d.toNat, (-vi).toNat) else none
  else none

/-- The crossing clk of an entry in a segment of `n` clk, counted from its start: the first clk on which the accumulator reaches or passes the
target (R52). -/
def estCrossing (w0 w1 w2 : Word) (g : Segment) (n : Nat) : Option Nat :=
  match estDistance w0 w1 w2 g.s g.v with
  | none => none
  | some (d, v) => if d < v * n then some ((d + v - 1) / v) else none

/-- Further crossings of a repeating entry in the same segment (R54). -/
def estRepeats (w0 w1 w2 : Word) (g : Segment) (n : Nat) : Nat :=
  if !w2Rep w2 then 0
  else match estDistance w0 w1 w2 g.s g.v with
    | none => 0
    | some (d, v) => if d < v * n then (v * n - 1 - d) / 2 ^ 64 else 0

/-- Is a single-shot entry late at a position (R55)? An entry enabled in both directions, or in none, never is. -/
def estLate (w0 w1 w2 : Word) (c : BitVec 96) : Bool :=
  let t := estTarget w0 w1
  if w2Rep w2 then false
  else if w2Fwd w2 && !w2Rev w2 then decide (chnAhead t c < 0)
  else if w2Rev w2 && !w2Fwd w2 then decide (0 < chnAhead t c)
  else false

/-- Does slot `a` fire before slot `b`: by crossing clk, then by index (R54, R56)? -/
def slotBefore (a b : FireSlot) : Bool := decide (a.n < b.n) || (a.n == b.n && decide (a.idx ≤ b.idx))

/-- Put a slot at its place in a fire list. -/
def slotInsert (x : FireSlot) : List FireSlot → List FireSlot
  | [] => [x]
  | y :: ys => if slotBefore x y then x :: y :: ys else y :: slotInsert x ys

/-- A fire list holds 512 slots; entries with the latest crossing, and among equal ones those of higher index, are left out and counted (R56). -/
def State.estTrim (s : State) (l : List FireSlot) : List FireSlot × State :=
  let over_ := l.length - 512
  if over_ = 0 then (l, s)
  else (l.take 512, ((s.incSat R.EST_OVFL_CNT_COUNT over_).set1 R.EST_STAT_OVFL).raise 0x14 0 0)

/-- Does a fire list hold an entry? -/
def slotHas (l : List FireSlot) (idx : Nat) : Bool := l.any (fun x => x.idx == idx)

/-- Is a single-shot entry enabled in the direction of a jump from `old` to `new`, with its target in the span jumped over (R46)? -/
def estInJump (w0 w1 w2 : Word) (old new : BitVec 96) : Bool :=
  let t := estTarget w0 w1
  let j := chnAhead new old
  w2En w2 && !w2Rep w2 &&
    ((decide (0 < j) && w2Fwd w2 && decide (0 ≤ chnAhead t old) && decide (chnAhead t old < j)) ||
     (decide (j < 0) && w2Rev w2 && decide (0 ≤ chnAhead old t) && decide (chnAhead old t < -j)))

/-- The segment planned for the next bc: its start, taking the predicted end of the present one unless it jumps, and its velocity. -/
def State.nextSegment (s : State) : Segment :=
  let pred := segAt s.chn.seg (s.sinceT0 + s.clkToT0 1)
  match s.chn.plan with
  | none => ⟨pred, s.chn.seg.v⟩
  | some (v, j) => ⟨j.getD pred, v⟩

/-- Will the jump that the plan brings skip an entry at the next t0 (R46)? -/
def State.estWillSkip (s : State) (idx : Nat) : Bool :=
  s.chn.planJump && estInJump (s.estWord idx 0) (s.estWord idx 1) (s.estWord idx 2) (segAt s.chn.seg (s.sinceT0 + s.clkToT0 1)) s.nextSegment.s

/-- The predicted network time `n` clk after the `k`-th t0 from now: that t0's multiple of the bc period and the time since, which a twin head counts at 1.25 ns a clk
(R36, R57, R341). -/
def State.ntAtT0 (s : State) (k n : Nat) : NetTime :=
  ntOfFix ((bcCount s.cyc.rate s.ntSync + k) * bcNs s.cyc.rate * 2 ^ 32 + n * (if s.flag R.TWN_CFG_EN then 0x140000000 else s.inc.toNat))

/-- The slot an entry gets in a segment `g` of `n` clk whose start lies at clk `at_` of the list's segment, and how many further crossings a repeating entry has in it
(R52, R54, R55). -/
def State.estSlotIn (s : State) (idx : Nat) (g : Segment) (n at_ : Nat) : Option FireSlot × Nat :=
  let w0 := s.estWord idx 0
  let w1 := s.estWord idx 1
  let w2 := s.estWord idx 2
  match estCrossing w0 w1 w2 g n with
  | some c => (some ⟨idx, at_ + c, false, none⟩, estRepeats w0 w1 w2 g n)
  | none => (if estLate w0 w1 w2 g.s then some ⟨idx, at_, true, none⟩ else none, 0)

/-- The slot of a ring event in the extension `e` of `n` clk that starts at the `k`-th t0 from now: it fires at clk `at_` of the list's segment and carries the predicted
network time of its crossing (R57). A target that lies before the extension's start gives a late firing stamped with the time of that start: the model's choice (log entry 23). -/
def State.estRingSlot (s : State) (idx : Nat) (e : Segment) (n k at_ : Nat) : Option FireSlot × Nat :=
  let r := s.estSlotIn idx e n 0
  (r.1.map (fun x => ⟨idx, at_, x.late, some (s.ntAtT0 k x.n)⟩), r.2)

/-- The slot an enabled entry gets for the next segment, if any, and its further crossings: a ring event is compared with the segment's extension by one bc and fires at the
segment's start (R52, R55, R57). An entry that the next t0 skips gets none (R46). -/
def State.estSlotNext (s : State) (idx : Nat) : Option FireSlot × Nat :=
  let w2 := s.estWord idx 2
  let g := s.nextSegment
  let a := s.clkToT0 1
  let b := s.clkToT0 2
  if !w2En w2 || s.estWillSkip idx then (none, 0)
  else if w2Act w2 = 4 then s.estRingSlot idx ⟨segAt g (b - a), g.v⟩ (s.clkToT0 3 - b) 2 0
  else s.estSlotIn idx g (b - a) 0

/-- The same for the rest of the present segment, from the live chainage on (R53, R57). -/
def State.estSlotCur (s : State) (idx : Nat) : Option FireSlot × Nat :=
  let w2 := s.estWord idx 2
  let now := s.sinceT0
  let left := s.clkToT0 1
  if !w2En w2 then (none, 0)
  else if w2Act w2 = 4 then s.estRingSlot idx ⟨segAt s.chn.seg (now + left), s.chn.seg.v⟩ (s.clkToT0 2 - left) 1 now
  else s.estSlotIn idx ⟨s.chnLive, s.chn.seg.v⟩ left now

/-- Indices of the entries whose word 2 is listed (an unlisted word 2 is 0, so the entry is not enabled), ascending. -/
def State.estListed (s : State) : List Nat := (s.est.tab.filter (fun e => e.1 % 4 == 2)).map (fun e => e.1 / 4)

/-- The sweep reads one entry (R52): a single-shot entry that holds a slot of the current list is left alone. -/
def State.estSweepOne (s : State) (acc : List FireSlot × Nat) (idx : Nat) : List FireSlot × Nat :=
  if slotHas s.est.cur idx && !w2Rep (s.estWord idx 2) then acc
  else
    let r := s.estSlotNext idx
    match r.1 with
    | none => acc
    | some x => (slotInsert x acc.1, acc.2 + r.2)

/-- EST_SWEEP: 32 clk after the plan every entry is read in index order and the next fire list is built (R52, R55, R56). -/
def execEstSweep (s : State) : Host.Outcome State Fault Refusal :=
  match s.est.sweepAt with
  | none => .next s
  | some c =>
    if c ≤ s.clk ∧ !s.est.swept ∧ s.flag R.EST_CFG_EN then
      let r := s.estListed.foldl s.estSweepOne ([], 0)
      let t := s.estTrim r.1
      let s := t.2.incSat R.EST_SKIP_CNT_COUNT r.2
      .next { s with est := { s.est with next := t.1, swept := true } }
    else .next s

/-- May these words be committed (R51)? -/
def estCommitOk (w2 w3 : Word) : Bool :=
  let act := w2Act w2
  let obj := bitsOf w3.toNat 0 8
  if act ≤ 3 then decide (obj ≤ 31)
  else if act = 4 then true
  else if act = 7 then decide (obj ≤ 63)
  else if act ≤ 8 then decide (obj ≤ 15)
  else false

/-- Take an entry out of both fire lists. -/
def State.estUnlist (s : State) (idx : Nat) : State :=
  { s with est := { s.est with
      cur := s.est.cur.filter (fun x => x.idx != idx)
      next := s.est.next.filter (fun x => x.idx != idx) } }

/-- Put a slot in the list of the current segment, in place of one the entry holds there. -/
def State.estAddCur (s : State) (x : FireSlot) : State :=
  let t := s.estTrim (slotInsert x (s.est.cur.filter (fun y => y.idx != x.idx)))
  { t.2 with est := { t.2.est with cur := t.1 } }

/-- Put a slot in the list of the next segment, in place of one the entry holds there. -/
def State.estAddNext (s : State) (x : FireSlot) : State :=
  let t := s.estTrim (slotInsert x (s.est.next.filter (fun y => y.idx != x.idx)))
  { t.2 with est := { t.2.est with next := t.1 } }

/-- An entry enters the list of the next segment where it crosses that segment, and its further crossings are counted (R52, R54). -/
def State.estEnterNext (s : State) (idx : Nat) : State :=
  let r := s.estSlotNext idx
  match r.1 with
  | none => s
  | some x => (s.estAddNext x).incSat R.EST_SKIP_CNT_COUNT r.2

/-- Has the sweep for the next segment, one entry a clk in index order, already read an entry (R52, R53)? -/
def State.estReadBySweep (s : State) (idx : Nat) : Bool :=
  s.est.swept && (match s.est.sweepAt with
    | some c => decide (c + idx < s.clk)
    | none => false)

/-- A commit that passes its tests (R51, R53): FIRED, LATE and SKIP clear, and the comparison follows 16 clk later. An entry that the sweep in progress has still to read
is read by it as committed (R52). -/
def State.estCommitEntry (s : State) (idx : Nat) (w0 w1 w2 w3 : Word) : State :=
  let s := s.estUnlist idx
  let s := (((s.estPut idx 0 w0).estPut idx 1 w1).estPut idx 2 (w2 &&& 0xFF00FFFF)).estPut idx 3 w3
  let read := s.estReadBySweep idx
  let s := s.when (s.est.swept && !read && s.flag R.EST_CFG_EN) (fun s => s.estEnterNext idx)
  { s with est := { s.est with
      cmp := s.est.cmp.filter (fun x => x.1 != idx) ++ [(idx, s.clk + 16)]
      cmpRead := s.est.cmpRead.filter (fun i => i != idx) ++ (if read then [idx] else []) } }

/-- A write of `EST_W3` commits W0 to W3 as the entry of `EST_IDX`, or is refused and sets BAD (R51). -/
def State.estCommitHost (s : State) (v : Word) : State :=
  let s := s.putReg (R.EST_W 3) v
  let w2 := s.reg (R.EST_W 2)
  if estCommitOk w2 v then s.estCommitEntry (s.f R.EST_IDX_IDX) (s.reg (R.EST_W 0)) (s.reg (R.EST_W 1)) w2 v
  else s.set1 R.EST_STAT_BAD

/-- EST_COMMIT (R51). -/
def execEstCommit (val : Word) (s : State) : Host.Outcome State Fault Refusal :=
  .next (s.bar0Write (R.EST_W 3) (fun s => s.estCommitHost val))

/-- The comparison of a commit with the live chainage (R53): ahead in the present segment or late, and, where the sweep had read the entry's index (`read`), ahead in the next
one. A ring event is compared with the extensions (R57). A single-shot entry holds one slot; a repeating one may hold one in each list, and its further crossings in a
segment are counted (R54). -/
def State.estCompare (s : State) (idx : Nat) (read : Bool) : State :=
  let rep := w2Rep (s.estWord idx 2)
  if !s.flag R.EST_CFG_EN then s
  else
    let r := s.estSlotCur idx
    let t := match r.1 with
      | none => s
      | some x => ((s.when (!rep) (fun s => s.estUnlist idx)).estAddCur x).incSat R.EST_SKIP_CNT_COUNT r.2
    t.when (read && (rep || r.1.isNone)) (fun s => s.estEnterNext idx)

/-- EST_COMMIT_COMPARE: 16 clk after the commit (R53). -/
def execEstCommitCompare (idx : Fin 8192) (s : State) : Host.Outcome State Fault Refusal :=
  if s.est.cmp.any (fun x => x.1 == idx.val && decide (x.2 ≤ s.clk)) then
    let read := s.est.swept && s.est.cmpRead.contains idx.val
    let s : State := { s with est := { s.est with
      cmp := s.est.cmp.filter (fun x => x.1 != idx.val)
      cmpRead := s.est.cmpRead.filter (fun i => i != idx.val) } }
    .next (s.estCompare idx.val read)
  else .next s

/-- A write of `EST_IDX` loads the entry into `EST_W0` to `EST_W3` (R51). -/
def State.estLoad (s : State) (v : Word) : State :=
  let s := s.setF R.EST_IDX_IDX v.toNat
  let idx := s.f R.EST_IDX_IDX
  s.each (List.range 4) (fun t w => t.putReg (R.EST_W w) (s.estWord idx w))

/-- EST_IDX_LOAD (R51). -/
def execEstIdxLoad (val : Word) (s : State) : Host.Outcome State Fault Refusal :=
  .next (s.bar0Write R.EST_IDX (fun s => s.estLoad val))

/-! ## Pins -/

/-- The polarity that acts at the balls on this clk: written values act 8 clk after their write (R57). -/
def State.estPol (s : State) : Word :=
  (s.est.polDue.filter (fun p => decide (p.1 ≤ s.clk))).foldl (fun _ p => p.2) s.est.pol

/-- The level of EVO0 to EVO31 at the balls (R57): the idle level, or its opposite while the pin is set. -/
def State.estLevels (s : State) : Word := s.est.pins ^^^ s.estPol

/-- A write of `EST_PIN_POL`: the balls follow 8 clk later and every pin keeps its logical state (R57). -/
def State.estPolWrite (s : State) (v : Word) : State :=
  let s : State := { s with est := { s.est with
    pol := s.estPol
    polDue := s.est.polDue.filter (fun p => decide (s.clk < p.1)) ++ [(s.clk + 8, v)] } }
  s.putReg R.EST_PIN_POL v

/-- EST_PIN_POL_WRITE (R57). -/
def execEstPinPolWrite (val : Word) (s : State) : Host.Outcome State Fault Refusal :=
  .next (s.bar0Write R.EST_PIN_POL (fun s => s.estPolWrite val))

/-- Give a pin's logical state and its pulse timer values. -/
def State.estPin (s : State) (pin : Nat) (set : Bool) (timer : Option Nat) : State :=
  { s with est := { s.est with
      pins := setBits s.est.pins pin 1 (if set then 1 else 0)
      timers := tabSet (fun _ => none) s.est.timers pin timer } }

/-- A pin action of an entry (R54): set, clear, toggle or pulse. Any but a pulse stops a running timer; a toggle during a pulse returns the pin to idle. -/
def State.estPinAct (s : State) (act pin width : Nat) : State :=
  if act = 0 then s.estPin pin true none
  else if act = 1 then s.estPin pin false none
  else if act = 2 then s.estPin pin (!s.est.pins.toNat.testBit pin) none
  else s.estPin pin true (some (s.clk + max 1 width))

/-- PULSE_TIMER_END: the pin returns to idle (R54). -/
def execPulseTimerEnd (pin : Fin 32) (s : State) : Host.Outcome State Fault Refusal :=
  match tabGet (fun _ => none) s.est.timers pin.val with
  | none => .next s
  | some c => if c ≤ s.clk then .next (s.estPin pin.val false none) else .next s

/-- What every firing does beside its action (R50, R54, R55): the slot leaves the list, FIRED is set and counted, a single shot is disarmed, and a late firing is marked. -/
def State.estMarkFired (s : State) (x : FireSlot) : State :=
  let w2 := s.estWord x.idx 2
  let s : State := { s with est := { s.est with cur := s.est.cur.erase x } }
  let s := (s.estW2Bit x.idx 23 true).incWrap R.EST_FIRE_CNT_COUNT 1
  let s := s.when (!w2Rep w2) (fun s => s.estW2Bit x.idx 31 false)
  s.when x.late (fun s =>
    let s := s.when (!s.flag R.EST_STAT_LATE) (fun s => (s.setF R.EST_FIRST_LATE_IDX x.idx).set1 R.EST_FIRST_LATE_VALID)
    (((s.estW2Bit x.idx 22 true).set1 R.EST_STAT_LATE).incSat R.EST_LATE_CNT_COUNT 1).raise 0x12 x.idx 0)

/-- An entry is skipped by a jump (R46). -/
def State.estSkip (s : State) (idx : Nat) : State :=
  let s := ((s.estUnlist idx).estW2Bit idx 21 true).estW2Bit idx 31 false
  ((s.incSat R.EST_SKIP_CNT_COUNT 1).set1 R.EST_STAT_SKIP).raise 0x13 idx 0

/-- A chainage jump (R46): entries jumped over are skipped and JUMP is set. -/
def State.chnJump (s : State) (old new : BitVec 96) : State :=
  if old = new then s
  else
    let over_ := s.estListed.filter (fun i => estInJump (s.estWord i 0) (s.estWord i 1) (s.estWord i 2) old new)
    (s.each over_ (fun s i => s.estSkip i)).set1 R.CHN_STAT_JUMP

/-- Is a sweep in progress (`EST_STAT.SWEEP`, R52)? -/
def State.estSweeping (s : State) : Bool :=
  match s.est.sweepAt with
  | none => false
  | some c => decide (c ≤ s.clk) && decide (s.clk < c + 8192) && s.flag R.EST_CFG_EN

/-- EST registers whose value follows from the unit's state. -/
def estRead (s : State) (a : Nat) : Option Word :=
  if a = R.EST_STAT then some (setBits (s.reg a) 4 1 (if s.estSweeping then 1 else 0))
  else if a = R.EST_PIN_LVL then some s.estLevels
  else none

/-- EST registers with a rule of their own for a write. `EST_CFG.EN` = 0 empties the fire lists (R63). Clearing LATE clears `EST_FIRST_LATE.VALID`: no
late entry has come since (R55; log entry 23). -/
def estRegWrite (s : State) (a : Nat) (v : Word) : Option State :=
  if a = R.EST_W 3 then some (s.estCommitHost v)
  else if a = R.EST_IDX then some (s.estLoad v)
  else if a = R.EST_PIN_POL then some (s.estPolWrite v)
  else if a = R.EST_STAT then
    let s := s.plainWrite a v
    some (s.when (v.toNat.testBit 0) (fun s => s.clr R.EST_FIRST_LATE_VALID))
  else if a = R.EST_CFG then
    let s := s.plainWrite a v
    some (if s.flag R.EST_CFG_EN then s else { s with est := { s.est with cur := [], next := [] } })
  else none

end Sys2Proof.Machine
end

