-- ==== Sys2Proof/Machine/Chn.lean ====
section
/-! DEFINITION. The chainage unit (R35 to R48) and edge capture (R58 to R60). -/

namespace Sys2Proof.Machine

/-! ## Increment -/

/-- The increment envelope (R35). -/
def incMin : Nat := 0x13FEF9DB2
def incMax : Nat := 0x14010624E

/-- A write of `CHN_INC_HI`: the staged low word and the new high word are applied together, clipped to the envelope (R35). -/
def State.chnIncHi (s : State) (v : Word) : State :=
  let want := (s.reg R.CHN_INC_LO).toNat + v.toNat % 256 * 2 ^ 32
  let got := max incMin (min incMax want)
  let s := (s.setF R.CHN_INC_HI_INC_HI (got / 2 ^ 32)).putReg R.CHN_INC_LO (wordOf got)
  let s : State := { s with inc := BitVec.ofNat 40 got }
  if got = want then s else (s.set1 R.CHN_STAT_INC_CLIP).raise 0x10 1 0

/-- CHN_INC_HI (R35). -/
def execChnIncHi (val : Word) (s : State) : Host.Outcome State Fault Refusal :=
  .next (s.bar0Write R.CHN_INC_HI (fun s => s.chnIncHi val))

/-! ## Source -/

/-- A write of `CHN_SRC`: NEXT takes 0 to 3 (R40); ARM = 1 arms a switch (R45). -/
def State.chnSrcWrite (s : State) (v : Word) : State :=
  let nx := bitsOf v.toNat 4 3
  let s := if nx ≤ 3 then s.setF R.CHN_SRC_NEXT nx else s
  if v.toNat.testBit 8 then s.set1 R.CHN_SRC_ARM else s

/-- SOURCE_SWITCH_ARM (R45). -/
def execSourceSwitchArm (val : Word) (s : State) : Host.Outcome State Fault Refusal :=
  .next (s.bar0Write R.CHN_SRC (fun s => s.chnSrcWrite val))

/-- A 32-bit count as a position of unbounded range, following the newest kept sample by the signed difference. -/
def unwrapCount (kept : List ChnSample) (count : Word) : Int :=
  match kept with
  | [] => count.toInt
  | p :: _ => p.pos + (count - BitVec.ofInt 32 p.pos).toInt

/-- Keep a valid sample; the unit keeps the last two (R45). -/
def keepSample (kept : List ChnSample) (x : ChnSample) : List ChnSample := (x :: kept).take 2

/-- A sample of the selected axis's feedback arrives (R40, R45). -/
def State.chnAxisSample (s : State) (count : Word) : State :=
  let x : ChnSample := ⟨s.cyc.bcIdx, unwrapCount s.chn.axisKept count, s.cyc.t0⟩
  { s with chn := { s.chn with axisKept := keepSample s.chn.axisKept x } }

/-- The line encoder's count latched at t0 (R40). -/
def State.chnEncSample (s : State) (count : Word) : State :=
  let x : ChnSample := ⟨s.cyc.bcIdx, unwrapCount s.chn.encKept count, s.cyc.t0⟩
  { s with chn := { s.chn with encKept := keepSample s.chn.encKept x } }

/-- The kept samples of a measured source. -/
def State.chnKept (s : State) (src : Nat) : List ChnSample := if src = 1 then s.chn.encKept else s.chn.axisKept

/-- The two samples a plan of source 1 or 2 uses: P_k, of this bc, and the newest before it (R41, R44). -/
def State.chnPair (s : State) (src : Nat) : Option (ChnSample × ChnSample) :=
  match s.chnKept src with
  | a :: b :: _ => if a.bc = s.cyc.bcIdx ∧ b.t0 < a.t0 then some (a, b) else none
  | _ => none

/-- The trunk's segment for the next bc, if it has arrived (R43). -/
def State.chnTrunkNext (s : State) : Option Segment :=
  (s.chn.trunkKept.find? (fun p => p.1 == s.cyc.bcIdx + 1)).map (fun p => p.2)

/-- Is the sample of a measured source present at this plan? -/
def State.chnPresent (s : State) (src : Nat) : Bool :=
  if src = 3 then s.chnTrunkNext.isSome else (s.chnPair src).isSome

/-- Are a source's two kept samples those of bc k - 1 and k (R44, R45)? -/
def State.chnTwoConsecutive (s : State) (src : Nat) : Bool :=
  if src = 3 then s.chnTrunkNext.isSome && s.chn.trunkKept.any (fun p => p.1 == s.cyc.bcIdx)
  else match s.chnPair src with
    | some (a, b) => b.bc == a.bc - 1
    | none => false

/-- A rational position in 2^-64 mc. -/
structure ChnRat where
  num : Int
  den : Int
  deriving DecidableEq, Repr

/-- `P_k + v × n` of a source before the offset, in 2^-64 mc (R41 steps 1 and 2). -/
def State.chnExtrap (s : State) (src : Nat) (n : Nat) : ChnRat :=
  match s.chnPair src with
  | none => ⟨0, 1⟩
  | some (a, b) =>
    let scale : Int := (s.f R.CHN_SCALE_SCALE : Nat)
    let njk : Int := (a.t0 - b.t0 : Nat)
    ⟨(a.pos * njk + (a.pos - b.pos) * (n : Int)) * (2 : Int) ^ 64, scale * njk⟩

/-- Rounding of an exact quotient to the format that holds it (2^-64 mc, for an offset 2^-32 mc): down, or up where the free choice says so (log entry 11). -/
def roundQ (num den : Int) : Int :=
  if num % den = 0 then num / den
  else num / den + (if Config.chnRoundUp num den then 1 else 0)

/-- The signed distance from an accumulator value to a rational position, modulo 2^96 (R47). -/
def ratAhead (t : ChnRat) (c : BitVec 96) : ChnRat :=
  let m : Int := (2 : Int) ^ 96 * t.den
  let d := (t.num - (c.toNat : Int) * t.den) % m
  ⟨if 2 * d < m then d else d - m, t.den⟩

/-- The offset in 2^-64 mc. -/
def State.chnOff (s : State) : Int := s.chn.srcOff.toInt * (2 : Int) ^ 32

/-- Add an integer to a rational. -/
def ratAdd (t : ChnRat) (i : Int) : ChnRat := ⟨t.num + i * t.den, t.den⟩

/-- The velocity that takes a segment from `c` to the target in `n` clk (R41 step 3). -/
def velTo (t : ChnRat) (c : BitVec 96) (n : Nat) : BitVec 64 :=
  let d := ratAhead t c
  BitVec.ofInt 64 (roundQ d.num (d.den * ((max 1 n : Nat) : Int)))

/-- The virtual master's next velocity (R42): V moves toward the target by at most `CHN_VM_DV`. -/
def State.vmNext (s : State) : BitVec 64 :=
  let v := s.chn.seg.v.toInt
  let t := s.chn.vmTgt.toInt
  let dv : Int := (s.f R.CHN_VM_DV_DV : Nat)
  BitVec.ofInt 64 (if v < t then min t (v + dv) else max t (v - dv))

/-- What a plan fixes: the velocity, the start if it is not the predicted one, and the unit's new offset. -/
structure ChnPlan where
  v : BitVec 64
  start : Option (BitVec 96)
  off : BitVec 64
  deriving DecidableEq, Repr

/-- The plan of a source whose sample is present, at predicted start `c`, with nk and nk1 the clk counts of this bc and the next (R41 to R43). A trunk segment is
copied unchanged; while chainage is held it gives no start, so that the held segment starts at the predicted value (R48). -/
def State.planFrom (s : State) (src : Nat) (c : BitVec 96) (nk nk1 : Nat) : ChnPlan :=
  if src = 0 then ⟨s.vmNext, none, s.chn.srcOff⟩
  else if src = 3 then
    match s.chnTrunkNext with
    | none => ⟨s.chn.seg.v, none, s.chn.srcOff⟩
    | some g => ⟨g.v, if s.flag R.CHN_CFG_RUN then some g.s else none, s.chn.srcOff⟩
  else ⟨velTo (ratAdd (s.chnExtrap src (nk + nk1)) s.chnOff) c nk1, none, s.chn.srcOff⟩

/-- The end a source's plan aims at, without the offset. -/
def State.rawTarget (s : State) (src : Nat) (nk nk1 : Nat) : ChnRat :=
  if src = 3 then
    match s.chnTrunkNext with
    | none => ⟨0, 1⟩
    | some g => ⟨(segAt g nk1).toNat, 1⟩
  else s.chnExtrap src (nk + nk1)

/-- The offset that makes a source's target equal `aim` (R44, R45), in 2^-32 mc. -/
def State.offsetFor (s : State) (src : Nat) (aim : BitVec 96) (nk nk1 : Nat) : BitVec 64 :=
  let d := ratAhead (s.rawTarget src nk nk1) aim
  BitVec.ofInt 64 (roundQ (-d.num) (d.den * (2 : Int) ^ 32))

/-- The position a source has at t0 of bc k + 1 (R45, absolute switch). -/
def State.absStart (s : State) (src nk : Nat) : BitVec 96 :=
  if src = 3 then (match s.chnTrunkNext with | none => 0 | some g => g.s)
  else
    let t := s.chnExtrap src nk
    BitVec.ofInt 96 (roundQ t.num t.den)

/-- Count a miss (R44). -/
def State.chnMiss (s : State) : State :=
  let run := min 255 (s.f R.CHN_MISS_RUN + 1)
  let s := ((s.set1 R.CHN_STAT_MISS).incSat R.CHN_MISS_CNT_COUNT 1).setF R.CHN_MISS_RUN run
  if s.f R.CHN_MISS_LIMIT ≤ run ∧ !s.flag R.CHN_STAT_LOST then
    (s.set1 R.CHN_STAT_LOST).raise 0x11 (s.f R.CHN_SRC_CUR) 0
  else s

/-- The plan of an absolute switch (R45): S of the next segment takes the source's position, and V follows the source, or stays as it is while the source is lost
(R44). -/
def State.planAbsolute (s : State) (src nk nk1 : Nat) : State × ChnPlan :=
  let s : State := { s with chn := { s.chn with swWait := none, srcOff := 0 } }
  let st := s.absStart src nk
  let p := s.planFrom src st nk nk1
  (s, { p with v := if s.flag R.CHN_STAT_LOST then s.chn.seg.v else p.v, start := some st })

/-- The plan that re-references `SRC_OFFSET` so that the source's target is the end of a segment of velocity `v` from the predicted start `c` (R44, R45). -/
def State.planRefer (s : State) (src : Nat) (c : BitVec 96) (v : BitVec 64) (nk nk1 : Nat) : State × ChnPlan :=
  ({ s with chn := { s.chn with swWait := none } }, ⟨v, none, s.offsetFor src (segAt ⟨c, v⟩ nk1) nk nk1⟩)

/-- The plan of a bc in which no switch is made (R41, R42, R44). A switch that found its sample absent takes effect at the first plan that finds it (R45). -/
def State.planSteady (s : State) (c : BitVec 96) (nk nk1 : Nat) : State × ChnPlan :=
  let src := s.f R.CHN_SRC_CUR
  let coast : ChnPlan := ⟨s.chn.seg.v, none, s.chn.srcOff⟩
  if src = 0 then (s, s.planFrom 0 c nk nk1)
  else if !s.chnPresent src then (s.chnMiss, coast)
  else
    let s := s.setF R.CHN_MISS_RUN 0
    if s.chn.swWait = some true then
      (s.when (s.chnTwoConsecutive src) (fun s => s.clr R.CHN_STAT_LOST)).planAbsolute src nk nk1
    else if s.flag R.CHN_STAT_LOST then
      if s.chnTwoConsecutive src then (s.clr R.CHN_STAT_LOST).planRefer src c s.chn.seg.v nk nk1
      else (s, coast)
    else if s.chn.swWait = some false then s.planRefer src c s.chn.seg.v nk nk1
    else (s, s.planFrom src c nk nk1)

/-- The plan of a bc in which an armed switch is applied (R45). -/
def State.planSwitch (s : State) (c : BitVec 96) (nk nk1 : Nat) : State × ChnPlan :=
  let old := s.planSteady c nk nk1
  let nx := s.f R.CHN_SRC_NEXT
  let abs := s.flag R.CHN_CFG_SW_MODE
  let s := (((s.clr R.CHN_SRC_ARM).set1 R.CHN_STAT_SW_DONE).setF R.CHN_SRC_CUR nx).setF R.CHN_MISS_RUN 0
  let s : State := { s with chn := { s.chn with swWait := none } }
  let s := s.when (nx == 0 || s.chnTwoConsecutive nx) (fun s => s.clr R.CHN_STAT_LOST)
  if nx = 0 then (s, ⟨s.vmNext, none, s.chn.srcOff⟩)
  else if !s.chnPresent nx then
    let s : State := { s with chn := { s.chn with swWait := some abs } }
    (s.chnMiss, ⟨s.chn.seg.v, none, s.chn.srcOff⟩)
  else if abs then s.planAbsolute nx nk nk1
  else s.planRefer nx c old.2.v nk nk1

/-- The plan instant of the present bc: t0 + N - L, with L the smaller of the sampled LEAD and N - 1,024 (R39). -/
def State.planClk (s : State) : Nat := s.cyc.t0 + s.nBc - min s.chn.lead (s.nBc - 1024)

/-- Is the plan of this bc due and not yet made? -/
def State.planDue (s : State) : Bool := s.chn.plan.isNone && decide (s.planClk ≤ s.clk)

/-- The plan of a twin head whose holder's segment has not come, or that has taken the lease: from the configured source as a relative switch, without the switch itself
(R45, R341, R345). -/
def State.planRelative (s : State) (c : BitVec 96) (nk nk1 : Nat) : State × ChnPlan :=
  let src := s.f R.CHN_SRC_CUR
  if src = 0 then (s, s.planFrom 0 c nk nk1)
  else if s.chnPresent src then (s, ⟨s.chn.seg.v, none, s.offsetFor src (segAt ⟨c, s.chn.seg.v⟩ nk1) nk nk1⟩)
  else (s.chnMiss, ⟨s.chn.seg.v, none, s.chn.srcOff⟩)

/-- The plan of segment k + 1 (R39 to R48, R341, R345). -/
def State.chnPlan (s : State) (relative : Bool) : State :=
  let left := s.clkToT0 1
  let nk := s.sinceT0 + left
  let nk1 := s.clkToT0 2 - left
  let c := segAt s.chn.seg nk
  let r := if relative then s.planRelative c nk nk1 else if s.flag R.CHN_SRC_ARM then s.planSwitch c nk nk1 else s.planSteady c nk nk1
  let s := r.1
  let base := r.2.start.getD c
  let p : ChnPlan := match s.chn.preset with
    | none => r.2
    | some t =>
      let st := chn96 t
      let cur := s.f R.CHN_SRC_CUR
      let off := if cur = 1 ∨ cur = 2 then r.2.off + BitVec.ofInt 64 (roundQ (chnAhead st base) ((2 : Int) ^ 32)) else r.2.off
      { r.2 with start := some st, off := off }
  let v := if s.flag R.CHN_CFG_RUN then p.v else 0
  { s with
    chn := { s.chn with plan := some (v, p.start), planJump := true, srcOff := p.off, preset := none }
    est := { s.est with sweepAt := some (s.clk + 32), swept := false, next := [] } }

/-- At t0 the planned segment starts, with a jump where its start differs from the end of the running one (R46); the snapshot of R22 is its pair, and LEAD is sampled (R38, R39). The next fire list becomes the current one; a slot whose crossing clk is this
clk itself still fires (R52). -/
def State.chnStart (s : State) : State :=
  let pred := segAt s.chn.seg s.sinceT0
  let g : Segment := match s.chn.plan with
    | none => ⟨pred, s.chn.seg.v⟩
    | some (v, st) => ⟨st.getD pred, v⟩
  let s := s.when s.chn.planJump (fun s => s.chnJump pred g.s)
  { s with
    chn := { s.chn with seg := g, snap := g, prevS := s.chn.snap.s, plan := none, planJump := false, lead := s.f R.CHN_PLAN_LEAD }
    est := { s.est with
      cur := (s.est.cur.filter (fun x => decide (x.n ≤ s.sinceT0))).foldr (fun x l => slotInsert { x with n := 0 } l) s.est.next
      next := [], sweepAt := none, swept := false } }

/-! ## Edge capture -/

/-- An edge that is lost: counted, CAP_LOSS set, the time of the first kept, the event raised (R59, R60). The time kept is the network time counter of the clk,
without the interpolator code of the edge: the model's choice (log entry 27). -/
def State.capLose (s : State) (inp : Nat) : State :=
  let s := if s.flag R.CHN_STAT_CAP_LOSS then s else { s with cap := { s.cap with lossT := s.nt } }
  ((s.incSat R.CHN_CAP_FILL_LOST 1).set1 R.CHN_STAT_CAP_LOSS).raise 0x15 inp 0

/-- The live chainage at a fraction m/10 of this clk, truncated to 2^-32 mc (R58). -/
def State.chnAtTenth (s : State) (m : Nat) : BitVec 64 :=
  chn64 (s.chnLive + BitVec.ofInt 96 (s.chn.seg.v.toInt * (m : Int) / 10))

/-- The network time of an edge with interpolator code m, in steps of 0.125 ns (R58). -/
def State.ntAtTenth (s : State) (m : Nat) : NetTime := ntOfFix (ntFix s.nt + m * 2 ^ 29)

/-- The record of an edge (R60). -/
def State.capRecord (s : State) (inp : Nat) (rising : Bool) (m : Nat) : List Word :=
  let t := s.ntAtTenth m
  let c := s.chnAtTenth m
  [t.ns, t.frac,
   wordOf (t.sec.toNat % 2 ^ 16 + inp * 2 ^ 16 + (if rising then 2 ^ 20 else 0) + s.cap.seq.toNat * 2 ^ 24),
   wordOf c.toNat, wordOf (c.toNat / 2 ^ 32), wordOf m, 0, 0]

/-- Does the configuration of an input stamp this edge now (R59, R61)? The gate counts as open on the clk of a gate-close action. -/
def State.capStamps (s : State) (inp : Nat) (rising : Bool) : Bool :=
  let e := s.f (R.CHN_CAP_CFG_EDGE inp)
  let closedNow := tabGet (fun _ => none) s.cap.gateClosed inp == some s.clk
  s.flag (R.CHN_CAP_CFG_EN inp) && (if rising then e % 2 == 1 else e / 2 % 2 == 1) &&
    (!s.flag (R.CHN_CAP_CFG_GATED inp) || s.flag (R.CHN_CAP_CFG_GATE inp) || closedNow)

/-- Is the edge at least 5.0 ns (40 steps) after the previous edge of its input (R59)? -/
def State.capSpaced (s : State) (inp m : Nat) : Bool :=
  match tabGet (fun _ => none) s.cap.lastEdge inp with
  | none => true
  | some x => decide (x + 40 ≤ s.clk * 10 + m)

/-- An edge on a capture input: stamped and queued, or counted as lost (R58 to R60). One that finds its gate closed is remembered for this clk. -/
def State.capEdge (s : State) (inp : Nat) (rising : Bool) (m : Nat) : State :=
  if !s.capStamps inp rising then
    { s with cap := { s.cap with pre := s.cap.pre.filter (fun e => e.2.2.2 == s.clk) ++ [(inp, rising, m, s.clk)] } }
  else
    let ok := s.capSpaced inp m
    let s : State := { s with cap := { s.cap with lastEdge := tabSet (fun _ => none) s.cap.lastEdge inp (some (s.clk * 10 + m)) } }
    if !ok then s.capLose inp
    else
      let rec_ := s.capRecord inp rising m
      if s.cap.fifo.length < 256 then
        { s with cap := { s.cap with fifo := s.cap.fifo ++ [rec_], seq := s.cap.seq + 1 } }
      else s.capLose inp

/-- A gate-open action stamps the edges of its input on the same clk (R59). -/
def State.capOpened (s : State) (inp : Nat) : State :=
  let es := s.cap.pre.filter (fun e => e.1 == inp && e.2.2.2 == s.clk)
  let s : State := { s with cap := { s.cap with pre := s.cap.pre.filter (fun e => !(e.1 == inp && e.2.2.2 == s.clk)) } }
  s.each es (fun s e => s.capEdge e.1 e.2.1 e.2.2.1)

/-- Word `k` of the head record, 0 when the FIFO is empty (R60, R61). -/
def State.capHead (s : State) (k : Nat) : Word := (s.cap.fifo.headD []).getD k 0

/-- A read of `CHN_CAP_REC7` returns the word and pops the record (R60). -/
def State.capPop (s : State) : State :=
  let s := s.answer (s.capHead 7)
  { s with cap := { s.cap with fifo := s.cap.fifo.tail } }

/-- CAPTURE_RECORD_POP (R60). -/
def execCaptureRecordPop (s : State) : Host.Outcome State Fault Refusal := .next (s.bar0Answer (R.CHN_CAP_REC 7) (fun s => s.capPop))

/-- CHN registers whose value follows from the unit's state. -/
def chnRead (s : State) (a : Nat) : Option Word :=
  if a = R.CHN_BC then some (wordOf (s.bcNow.toNat % 64))
  else if a = R.CHN_CAP_FILL then some (setBits (s.reg a) 0 9 s.cap.fifo.length)
  else if R.CHN_CAP_REC 0 ≤ a ∧ a ≤ R.CHN_CAP_REC 7 then some (s.capHead ((a - R.CHN_CAP_REC 0) / 4))
  else none

/-- A write of `CHN_CFG` (R61): AXIS_SEL above 159 is ignored. The samples of an encoder or axis no longer selected are not kept (R45; log entry 22). -/
def State.chnCfgWrite (s : State) (v : Word) : State :=
  let t := s.plainWrite R.CHN_CFG (if 159 < bitsOf v.toNat 8 8 then setBits v 8 8 (s.f R.CHN_CFG_AXIS_SEL) else v)
  { t with chn := { t.chn with
      encKept := if t.f R.CHN_CFG_ENC_SEL = s.f R.CHN_CFG_ENC_SEL then t.chn.encKept else []
      axisKept := if t.f R.CHN_CFG_AXIS_SEL = s.f R.CHN_CFG_AXIS_SEL then t.chn.axisKept else [] } }

/-- CHN registers with a rule of their own for a write (R39, R61). -/
def chnRegWrite (s : State) (a : Nat) (v : Word) : Option State :=
  if a = R.CHN_INC_HI then some (s.chnIncHi v)
  else if a = R.CHN_SRC then some (s.chnSrcWrite v)
  else if a = R.CHN_CFG then some (s.chnCfgWrite v)
  else if a = R.CHN_SCALE then some (if v = 0 then s else s.plainWrite a v)
  else if a = R.CHN_PLAN then some (s.setF R.CHN_PLAN_LEAD (max 9216 (v.toNat % 2 ^ 18)))
  else if a = R.CHN_MISS then some (if v.toNat % 256 = 0 then s else s.plainWrite a v)
  else none

end Sys2Proof.Machine
end

