-- ==== Sys2Proof/Machine/Dsp.lean ====
section
/-! DEFINITION. The task dispatcher (R64 to R85): compute intervals, posts, deadlines, flows, the decision, starts and ends of tasks, overruns. -/

namespace Sys2Proof.Machine

/-! ## Intervals -/

/-- The two compute intervals of the bc, in clk after t0: open and close (R64). -/
def State.intervals (s : State) : List (Nat × Nat) :=
  let h := intervalLen s.cyc.rate
  [(s.dsp.open_, s.dsp.open_ + h), (s.pExp + s.dsp.open_, s.pExp + s.dsp.open_ + h)]

/-- The close of the interval in which a control task may start at `r` clk after t0. -/
def State.closeAt (s : State) (r : Nat) : Option Nat :=
  (s.intervals.find? (fun i => decide (i.1 ≤ r) && decide (r < i.2))).map (fun i => i.2)

/-- May an event task or a background slice run from `r` to `e` clk after t0 (R72): outside the intervals, ending by the next open? -/
def State.gapFits (s : State) (r e : Nat) : Bool :=
  !s.spanRuns ||
    ((s.closeAt r).isNone &&
      s.intervals.all (fun i => decide (i.2 ≤ r) || decide (e ≤ i.1)) &&
      decide (e ≤ s.nBc + s.dsp.open_))

/-! ## Costs, deadlines, flows -/

/-- The cost of an axis task (R68). -/
def State.axisCost (s : State) (a : Nat) : Nat := if s.axisClass a = 1 then 880 else 720

/-- The deadline of an axis task in clk after t0 of the present bc (R69); an axis the matrix gives none has the close of C2 (log entry 24). -/
def State.deadline (s : State) (a : Nat) : Nat :=
  let c2 := s.pExp + s.dsp.open_ + intervalLen s.cyc.rate
  let d := s.f (R.DSP_DL_DL a)
  if s.axisClass a = 2 ∨ d = 0 then c2
  else if s.axisClass a = 1 then s.cyc.half * s.pExp + d
  else d

/-- The deadline, or the close of the last interval that opens before it, whichever is earlier (R70). -/
def State.lastEnd (s : State) (a : Nat) : Nat :=
  let d := s.deadline a
  ((s.intervals.filter (fun i => decide (i.1 < d))).map (fun i => i.2)).foldl (fun _ c => min d c) d

/-- Is the axis a member of a flow in force, and of which (R78)? -/
def State.flowOf (s : State) (a : Nat) : Option Nat :=
  let n := s.f (R.DSP_FMEM_FLOW a)
  if s.flag (R.DSP_FMEM_IN a) && s.flag (R.DSP_FLOW_EN n) then some n else none

/-- The chain of a flow from `FIRST` through `NEXT`, at most `k` members; none if it does not end within them or leaves the table. -/
def State.flowChain (s : State) (k a : Nat) : Option (List Nat) :=
  match k with
  | 0 => if a = 0xFF then some [] else none
  | k + 1 =>
    if a = 0xFF then some []
    else if 159 < a then none
    else (s.flowChain k (s.f (R.DSP_FMEM_NEXT a))).map (fun l => a :: l)

/-- The members of a flow. -/
def State.flowMembers (s : State) (n : Nat) : List Nat := (s.flowChain 16 (s.f (R.DSP_FLOW_FIRST n))).getD []

/-- The members with a task in this bc: running or faulted (R79). -/
def State.flowActive (s : State) (n : Nat) : List Nat :=
  (s.flowMembers n).filter (fun a => s.axisOn a && decide (2 ≤ s.axisState a))

/-- A task is posted and not started: in the ready lists, or given to a Pier. -/
def State.isPending (s : State) (k : TaskKind) (id : Nat) : Bool :=
  s.dsp.ready.any (fun t => t.kind == k && t.id == id) ||
    pierList.any (fun p => match (s.pier p).asg with
      | some g => g.task.kind == k && g.task.id == id
      | none => false)

/-- Is the axis's state resident on a Pier? -/
def State.residentOn (s : State) (a p : Nat) : Bool := s.isResident a && s.axisHome a == p && !(s.axis a).lostHome

/-- The move that an axis's task on a Pier needs (R79, R105): none where its state is resident there, else the move from its home, or a restore where it has none. -/
def State.moveTo (s : State) (a p : Nat) : MoveKind :=
  if s.residentOn a p then .stay
  else if (s.axis a).lostHome || !s.isResident a then .restore
  else .move (s.axisHome a)

/-- What an axis's task costs on a Pier: its own cost, and 80 clk for a move or a restore (R68, R79, R105). -/
def State.costOn (s : State) (a p : Nat) : Nat := s.axisCost a + if s.residentOn a p then 0 else 80

/-- The exact cost of the active members of an ordered flow on a Pier (R79): 720 or 800 clk each; of class X 880 clk each (R82). -/
def State.flowCost (s : State) (n p : Nat) : Nat := sumOf ((s.flowActive n).map (fun a => if s.axisClass a = 1 then 880 else s.costOn a p))

/-- The earliest end that an ordered flow must meet (R79). -/
def State.flowEnd (s : State) (n : Nat) : Nat := (s.flowActive n).foldl (fun m a => min m (s.lastEnd a)) (s.nBc)

/-- The earliest deadline of the members of a flow (R82). -/
def State.flowLine (s : State) (n : Nat) : Nat := (s.flowActive n).foldl (fun m a => min m (s.deadline a)) (s.nBc)

/-- The latest start of an axis task in clk after t0 (R70); of a member of an ordered flow, that of the flow plus the cost of the members ahead of it (R79; log entry 25); of a
class-X member of a flow, its deadline less 880 clk, for the first of an ordered flow 880 clk earlier (R82). -/
def State.latestStart (s : State) (a : Nat) : Nat :=
  match s.flowOf a with
  | none => s.lastEnd a - s.axisCost a
  | some n =>
    let act := s.flowActive n
    let ord := s.flag (R.DSP_FLOW_ORD n)
    if s.axisClass a = 1 then s.deadline a - (if ord && act.head? == some a && decide (1 < act.length) then 1760 else 880)
    else if ord then
      s.flowEnd n - s.flowCost n (s.axisHome (act.headD a)) + sumOf ((act.takeWhile (fun b => b != a)).map (fun b => s.costOn b (s.axisHome (act.headD a))))
    else s.lastEnd a - s.axisCost a

/-- The members of an ordered flow in progress that are still to run, in chain order (R79): those left out of the chain, overrun, or of a flow no longer in force are none. -/
def State.flowLeft (s : State) (f : Nat × List Nat) : List Nat :=
  if s.flag (R.DSP_FLOW_EN f.1) then f.2.filter (fun a => s.axisOn a && decide (2 ≤ s.axisState a) && !(s.axis a).done) else []

/-- The ordered flows of a Pier with members still to run, newest first: a class-X flow can run on a Pier held for another (R77). -/
def State.flowsOn (s : State) (p : Nat) : List (Nat × List Nat) := (s.pier p).flow.filter (fun f => !(s.flowLeft f).isEmpty)

/-- The members still to run of a Pier's newest ordered flow (R79). -/
def State.flowRest (s : State) (p : Nat) : List Nat := match s.flowsOn p with | [] => [] | f :: _ => s.flowLeft f

/-- Does an ordered flow hold a Pier (R79)? -/
def State.flowHolds (s : State) (p : Nat) : Bool := !(s.flowRest p).isEmpty

/-! ## Posts -/

/-- Enter a task into the ready lists. -/
def State.readyAdd (s : State) (k : TaskKind) (id : Nat) : State :=
  { s with dsp := { s.dsp with ready := s.dsp.ready ++ [⟨k, id, s.clk⟩] } }

/-- Does a Pier's express hold keep standard tasks off it (R77): a class-X axis pinned to it whose task of the period has neither started nor passed its
latest start `r` clk after t0? -/
def State.expressHolds (s : State) (p r : Nat) : Bool :=
  axisList.any (fun a => s.axisOn a && s.axisClass a == 1 && s.flag (R.AXT_W2_PIN a) && s.axisHome a == p && decide (2 ≤ s.axisState a)
    && !(s.axis a).done && !(s.isPending .axis a && !s.dsp.ready.any (fun t => t.kind == .axis && t.id == a))
    && decide (r ≤ s.latestStart a))

/-- May a later member of an ordered flow start on a Pier on a clk? Its task ends by the interval's close and by its deadline (R64), no express task keeps it off (R77), and a state
that must move finds a slot (R75, R96). -/
def State.flowMay (s : State) (p a st : Nat) : Bool :=
  let r := st - s.cyc.t0
  let x := s.axisClass a == 1
  match s.closeAt r with
  | none => false
  | some close =>
    s.spanRuns && s.inService p && s.flag R.DSP_CFG_EN && (s.axis a).loadEnd.isNone && (if x then s.axisHome a == p && decide ((s.axis a).runFrom ≤ st) else !s.expressHolds p r) &&
      (s.residentOn a p || decide (s.slotsTaken p < 32)) && decide (r + s.costOn a p ≤ min (s.deadline a) close)

/-- Give a Pier the next member of its ordered flow, to start on a clk, if it is posted and may start then (R79): a state that is not resident there moves there whatever the
limit (R75). -/
def State.flowGive (s : State) (p start : Nat) : State :=
  match s.flowRest p with
  | [] => s
  | a :: _ =>
    match s.dsp.ready.find? (fun t => t.kind == .axis && t.id == a) with
    | none => s
    | some t =>
      if s.flowMay p a start then
        let x := s.pier p
        let cost := s.costOn a p
        let mv := s.moveTo a p
        let s : State := { s with dsp := { s.dsp with ready := s.dsp.ready.erase t } }
        s.putPier p { x with
          asg := some ⟨t, start, cost, mv, x.flow⟩
          flow := x.flow.map (fun f => if f.2.contains a then (f.1, (f.2.dropWhile (fun b => b != a)).tail) else f) }
      else s

/-- A Pier held idle for an ordered flow whose next member is this axis starts it 6 clk after the post (R79). -/
def State.flowPost (s : State) (a : Nat) : State :=
  match pierList.find? (fun p => s.flowRest p |>.head? |>.any (fun b => b == a && (s.pier p).run.isNone && (s.pier p).asg.isNone)) with
  | some p => s.flowGive p (s.clk + 6)
  | none => s

/-- Is a class-X axis that was pinned again still without its state (R107): a sample posted before the load ends starts no task? -/
def State.xLoading (s : State) (a : Nat) : Bool := s.axisClass a == 1 && decide (s.clk < (s.axis a).runFrom)

/-- Is the period now one that a re-pinned class-X axis need not run in (R107): it began before the load ended? -/
def State.xWaits (s : State) (a : Nat) : Bool :=
  s.axisClass a == 1 && decide (s.cyc.t0 + s.cyc.half * s.pExp ≤ (s.axis a).runFrom) && decide (0 < (s.axis a).runFrom)

/-- Post an axis task (R24, R26, R99): for a running or faulted axis whose task of this period has neither been posted and is pending nor started. A second post of a
pending task is not entered and counts nothing. -/
def State.postAxis (s : State) (a : Nat) : State :=
  if !s.axisOn a || decide (s.axisState a < 2) || (s.axis a).done || s.isPending .axis a || s.xLoading a then s
  else
    let s := s.putAxis a { s.axis a with posted := true }
    (s.readyAdd .axis a).flowPost a

/-- Post an event task; a post while one is pending is not entered and is flagged (R26, R68, R83). -/
def State.postEvent (s : State) (e : Nat) : State :=
  if s.isPending .event e then
    let r := R.DSP_EVT_OVR (e / 32)
    ((s.putReg r (s.reg r ||| wordOf (2 ^ (e % 32)))).set1 R.DSP_STAT_EVT_OVR).raise 0x1A e 0
  else s.readyAdd .event e

/-- Post a background job; a post while it is pending is not entered and is flagged (R26, R83). -/
def State.postJob (s : State) (j : Nat) : State :=
  if s.isPending .background j then
    ((s.putReg R.DSP_BG_OVR (s.reg R.DSP_BG_OVR ||| wordOf (2 ^ j))).set1 R.DSP_STAT_BG_OVR).raise 0x1A (0x100 + j) 0
  else (s.readyAdd .background j).putReg R.DSP_BG_PEND (s.reg R.DSP_BG_PEND ||| wordOf (2 ^ j))

/-- A write of `DSP_BG_POST`: each set bit posts its job (R68). -/
def State.bgPost (s : State) (v : Word) : State :=
  s.each (List.range 32) (fun s j => if v.toNat.testBit j then s.postJob j else s)

/-- BACKGROUND_POST (R68). -/
def execBackgroundPost (val : Word) (s : State) : Host.Outcome State Fault Refusal :=
  .next (s.bar0Write R.DSP_BG_POST (fun s => s.bgPost val))

/-- SUBSTITUTE_POST: 70 clk before its latest start an axis task not posted is posted (R70), also the task of either member of a class-X flow, for whose second R82 names the
latest start itself (log entry 89). -/
def execSubstitutePost (a : Fin 160) (s : State) : Host.Outcome State Fault Refusal :=
  if s.flag R.DSP_CFG_SUB_EN && s.spanRuns && s.axisOn a.val && decide (2 ≤ s.axisState a.val) && !(s.axis a.val).posted && !(s.axis a.val).done
      && !s.xWaits a.val && decide (s.latestStart a.val ≤ s.sinceT0 + 70) then
    .next (((s.incSat R.DSP_SUB_CNT_COUNT 1).set1 R.DSP_STAT_SUB).postAxis a.val)
  else .next s

/-! ## The decision -/

/-- The rank of a task's class in the ready order (R74). -/
def State.taskRank (s : State) (t : Task) : Nat :=
  match t.kind with
  | .axis => if s.axisClass t.id = 1 then 0 else 1
  | .event => 2
  | .background => 3

/-- Ready order: class, then post clk, then index (R74). -/
def State.taskBefore (s : State) (x y : Task) : Bool :=
  let rx := s.taskRank x
  let ry := s.taskRank y
  decide (rx < ry) || (rx == ry && (decide (x.post < y.post) || (x.post == y.post && decide (x.id ≤ y.id))))

/-- Put a task at its place in the ready order. -/
def State.taskInsert (s : State) (x : Task) : List Task → List Task
  | [] => [x]
  | y :: ys => if s.taskBefore x y then x :: y :: ys else y :: s.taskInsert x ys

/-- The ready tasks in order. -/
def State.readyOrder (s : State) : List Task := s.dsp.ready.foldl (fun l t => s.taskInsert t l) []

/-- Does a task of an axis run, or will one given to a Pier run, beyond a clk? -/
def State.taskUntil (s : State) (a c : Nat) : Bool :=
  pierList.any (fun p =>
    (match (s.pier p).run with | some r => r.task.kind == .axis && r.task.id == a && decide (c < r.finish) | none => false) ||
    (match (s.pier p).asg with | some g => g.task.kind == .axis && g.task.id == a && decide (c < g.start + g.cost) | none => false))

/-- Is a task with a start clk held back by its flow (R79, R80, R82)? -/
def State.flowBlocks (s : State) (a st : Nat) : Bool :=
  match s.flowOf a with
  | none => false
  | some n =>
    if s.flag (R.DSP_FLOW_ORD n) then (s.flowActive n).head? != some a
    else (s.flowMembers n).any (fun b => b != a && s.taskUntil b st)

/-- Is an axis's home Pier free by a clk (R74)? A Pier with members of an ordered flow still to run counts as not free, also while one of them runs (log entry 89). -/
def State.homeFreeBy (s : State) (a c : Nat) : Bool :=
  let x := s.pier (s.axisHome a)
  if s.flowHolds (s.axisHome a) then false
  else match x.asg, x.run with
    | some g, _ => decide (g.start + g.cost ≤ c)
    | none, some r => decide (r.finish ≤ c)
    | none, none => true

/-- Migrations and restores of this bc, made or decided (R75). -/
def State.migUsed (s : State) : Nat :=
  s.dsp.migNow + pierList.countP (fun p => match (s.pier p).asg with | some g => g.move != .stay | none => false)

/-- The outcome of testing one ready task for a Pier: take it, pass over it, or pass over it because the migration limit is reached. -/
inductive Choice where
  | take (g : Assigned) | skip | clip
  deriving DecidableEq, Repr

/-- Test a ready task for Pier `p` with start clk `st` (R74). -/
def State.tryTask (s : State) (p st : Nat) (t : Task) : Choice :=
  let r := st - s.cyc.t0
  match t.kind with
  | .event => if s.gapFits r (r + 240) then .take ⟨t, st, 240, .stay, (s.pier p).flow⟩ else .skip
  | .background =>
    let slices := pierList.countP (fun q =>
      (match (s.pier q).run with | some x => x.task.kind == .background && decide (st < x.finish) | none => false) ||
      (match (s.pier q).asg with | some g => g.task.kind == .background | none => false))
    if s.gapFits r (r + 2400) && decide (slices < 8) then .take ⟨t, st, 2400, .stay, (s.pier p).flow⟩ else .skip
  | .axis =>
    let a := t.id
    let c := s.axis a
    let x := s.axisClass a == 1
    let full := decide (s.f R.DSP_MIG_MAX ≤ s.migUsed)
    let base := s.axisCost a
    let fits (cost : Nat) (mv : MoveKind) : Choice :=
      match s.closeAt r with
      | none => .skip
      | some close =>
        let flowOk := match s.flowOf a with
          | some n => !s.flag (R.DSP_FLOW_ORD n) ||
              (if x then decide (r + s.flowCost n p ≤ s.flowLine n) else decide (r + s.flowCost n p ≤ min close (s.flowEnd n)))
          | none => true
        if flowOk && decide (r + cost ≤ min (s.deadline a) close) then .take ⟨t, st, cost, mv, (s.pier p).flow⟩ else .skip
    if !s.spanRuns || s.flowBlocks a st || c.loadEnd.isSome then .skip
    else if x && (s.axisHome a != p || decide (st < c.runFrom)) then .skip
    else if !x && s.expressHolds p r then .skip
    else if c.lostHome then
      if full then .clip else if s.slotsTaken p = 32 then .skip else fits (base + 80) .restore
    else if s.axisHome a != p then
      if s.homeFreeBy a (st + 64) then .skip
      else if !s.flag R.DSP_CFG_MIG_EN then .skip
      else if full then .clip
      else if s.slotsTaken p = 32 then .skip
      else fits (base + 80) (.move (s.axisHome a))
    else fits base .stay

/-- The first decision of a bc held back by the limit sets MIG_CLIP and raises the clipped event (R75). -/
def State.migClip (s : State) : State :=
  if s.dsp.clipped then s
  else ({ s with dsp := { s.dsp with clipped := true } } : State).set1 R.DSP_STAT_MIG_CLIP |>.raise 0x10 2 0

/-- Go through the ready tasks in order and give the Pier the first that passes every test (R74). -/
def State.decide_ (s : State) (p st : Nat) : List Task → State
  | [] => s
  | t :: ts =>
    match s.tryTask p st t with
    | .skip => s.decide_ p st ts
    | .clip => s.migClip.decide_ p st ts
    | .take g =>
      let s : State := { s with dsp := { s.dsp with ready := s.dsp.ready.erase t } }
      let fl : List (Nat × List Nat) :=
        match (if t.kind = .axis then s.flowOf t.id else none) with
        | some n => if s.flag (R.DSP_FLOW_ORD n) then [(n, (s.flowActive n).tail)] else []
        | none => []
      s.putPier p { s.pier p with asg := some g, flow := fl ++ s.flowsOn p }

/-- The start clk of a decision made now for a Pier, if the Pier will be free 6 clk later and has no task assigned (R73). -/
def State.decisionStart (s : State) (p : Nat) : Option Nat :=
  let x := s.pier p
  if !s.inService p || x.asg.isSome then none
  else match x.run with
    | none => some (s.clk + 6)
    | some r => if r.finish ≤ s.clk + 6 then some (s.clk + 6) else none

/-- The decision for a Pier with start clk `st` (R74). A Pier held for an ordered flow takes only an express task (R77), or, held idle, the flow's next member (R79). -/
def State.decidePier (s : State) (p st : Nat) : State :=
  if s.flowHolds p then
    let t := s.decide_ p st (s.readyOrder.filter (fun t => s.taskRank t == 0))
    if (t.pier p).asg.isSome || (t.pier p).run.isSome then t else t.flowGive p st
  else s.decide_ p st s.readyOrder

/-- DISPATCH_DECISION: the Piers in ascending number (R73, R74). -/
def execDispatchDecision (s : State) : Host.Outcome State Fault Refusal :=
  if s.flag R.DSP_CFG_EN then
    .next (s.each pierList (fun s p => match s.decisionStart p with
      | some st => s.decidePier p st
      | none => s))
  else .next s

/-! ## Starts, ends, overruns -/

/-- The move a start makes (R17, R96, R105): the destination slot is taken, HOME follows, the source slot is freed when the move ends 80 clk later; a restore loads the
home copy. -/
def State.startMove (s : State) (a p : Nat) (mv : MoveKind) : State :=
  match mv with
  | .stay => s
  | .move src =>
    let s := (s.placeSlot p a).setF (R.AXT_W2_HOME a) p
    s.putAxis a { s.axis a with moving := some (src, p, s.clk + 80) }
  | .restore =>
    let s := (((s.placeSlot p a).setF (R.AXT_W2_HOME a) p).set1 (R.AXT_W2_RES a)).loadState a
    s.putAxis a { s.axis a with lostHome := false }

/-- Words that the scrubber of a Pier has read of its pass: one on each clk on which the Pier executes nothing, a word on from `scrub` since `scrubAt` (R90, R93). -/
def State.scrubbed (s : State) (p : Nat) : Nat :=
  let x := s.pier p
  let st := s.f (R.PIR_STAT_STATE p)
  if st = 2 ∨ st = 3 ∨ st = 4 then x.scrub + (if x.run.isSome then 0 else s.clk - x.scrubAt) else x.scrub

/-- A Pier's register, and a byte of its scratch area (R86; log entry 93). -/
def State.pierReg (s : State) (p i : Nat) : Word := match (s.pier p).left_ with | none => 0 | some n => Config.pierReg n i
def State.pierScratch (s : State) (p i : Nat) : Byte := match (s.pier p).left_ with | none => 0 | some n => Config.pierScratch n i

/-- The microcode works in the register file and the scratch area, and leaves there what the spec does not say (R86; log entry 93). -/
def State.pierWorks (s : State) (p : Nat) : State := (s.putPier p { s.pier p with left_ := some s.free }).drewFree

/-- A Pier takes up the task assigned to it; its scrubber waits (R90). -/
def State.takeUp (s : State) (p : Nat) (g : Assigned) : State :=
  let s := s.pierWorks p
  s.putPier p { s.pier p with asg := none, scrub := s.scrubbed p, scrubAt := s.clk, run := some ⟨g.task, g.start, g.start + g.cost, none⟩ }

/-- The assigned task of a Pier that may start now: its start clk has come, the Pier is in SERVICE and idle, and the dispatcher runs (R73, R85). -/
def State.startable (s : State) (p : Nat) : Option Assigned :=
  match (s.pier p).asg with
  | none => none
  | some g => if g.start ≤ s.clk ∧ s.inService p ∧ (s.pier p).run.isNone ∧ s.flag R.DSP_CFG_EN then some g else none

/-- A migration or a restore begins: counted for the bc and in all (R75, R105). -/
def State.migCount (s : State) (mv : MoveKind) : State :=
  if mv = .stay then s
  else ({ s with dsp := { s.dsp with migNow := s.dsp.migNow + 1 } } : State).incWrap R.DSP_MIG_CNT_COUNT 1

/-- Take back what a Pier has been given and has not started: it returns to the ready lists with its post clk, and the Pier's flows stand as before the decision (R73). -/
def State.unassign (s : State) (p : Nat) : State :=
  let x := s.pier p
  match x.asg with
  | none => s
  | some g => { s.putPier p { x with asg := none, flow := g.flow } with dsp := { s.dsp with ready := s.dsp.ready ++ [g.task] } }

/-- Start the task of a kind and number on the Pier it was given to. -/
def State.startOther (s : State) (k : TaskKind) (id : Nat) : State :=
  match pierList.find? (fun p => match s.startable p with
      | some g => g.task.kind == k && g.task.id == id
      | none => false) with
  | none => s
  | some p => match s.startable p with
    | some g => s.takeUp p g
    | none => s

/-- EVENT_TASK: an event task starts and runs 240 clk (R72). -/
def execEventTask (e : Fin 64) (s : State) : Host.Outcome State Fault Refusal := .next (s.startOther .event e.val)

/-- BACKGROUND_SLICE: a slice starts and runs 2,400 clk (R72). -/
def execBackgroundSlice (j : Fin 32) (s : State) : Host.Outcome State Fault Refusal := .next (s.startOther .background j.val)

/-- A Pier that drains enters OFFLINE at the end of its task (R93): its axes are handled by the caller. -/
def State.taskDone (s : State) (p : Nat) : State :=
  let s := s.pierWorks p
  let s := s.putPier p { s.pier p with run := none, scrubAt := s.clk }
  let s := s.incWrap (R.PIR_TASKS_COUNT p) 1
  { s with dsp := { s.dsp with tasks64 := s.dsp.tasks64 + 1 } }

/-- The next member of an ordered flow starts on the clk on which its predecessor ends, if it is posted; else the Pier is held (R79). A flow with no member left to run ends. -/
def State.flowNext (s : State) (p : Nat) : State :=
  let x := s.pier p
  if x.asg.isSome || x.run.isSome then s
  else
    let s := s.putPier p { x with flow := s.flowsOn p }
    s.flowGive p s.clk

/-- An overrun of an axis (R83). -/
def State.overrun (s : State) (a : Nat) : State :=
  let s := s.dropPending a
  let s := s.putAxis a { s.axis a with done := true }
  let r := R.DSP_OVR_MAP (a / 32)
  let s := s.putReg r (s.reg r ||| wordOf (2 ^ (a % 32)))
  let s := s.when (!s.flag R.DSP_STAT_OVR) (fun s =>
    ((s.setF R.DSP_OVR_FIRST_AXIS a).setF R.DSP_OVR_FIRST_BCN s.bcn).set1 R.DSP_OVR_FIRST_VALID)
  ((s.incSat R.DSP_OVR_CNT_COUNT 1).set1 R.DSP_STAT_OVR).raise 0x18 a (wordOf s.bcn)

/-- The axes that overrun with an axis (R83): an overrun of the first member of an ordered flow takes every member with it that has not started. -/
def State.overrunSet (s : State) (a : Nat) : List Nat :=
  match s.flowOf a with
  | none => [a]
  | some n =>
    let act := s.flowActive n
    if s.flag (R.DSP_FLOW_ORD n) && act.head? == some a then act.filter (fun b => !(s.axis b).done) else [a]

/-- OVERRUN: an axis task not started by its latest start, posted or not (R83). A Pier held for the task goes on with its flow (R79). -/
def execOverrun (a : Fin 160) (s : State) : Host.Outcome State Fault Refusal :=
  if s.spanRuns && s.axisOn a.val && decide (2 ≤ s.axisState a.val) && !(s.axis a.val).done && (!s.xWaits a.val || s.isPending .axis a.val) && decide (s.latestStart a.val < s.sinceT0) then
    .next ((s.each (s.overrunSet a.val) (fun s b => s.overrun b)).each pierList (fun s p => s.flowNext p))
  else .next s

/-! ## Period boundaries -/

/-- At each express sync instant the interval's OPEN is sampled (R65) and class X starts a new task period. -/
def State.dspExpress (s : State) : State :=
  let s : State := { s with dsp := { s.dsp with open_ := s.f R.DSP_CWIN_OPEN } }
  s.each (axisList.filter (fun a => s.axisOn a && s.axisClass a == 1)) (fun s a =>
    s.putAxis a { s.axis a with posted := false, done := false })

/-- At t0 the counts of the last bc and the Piers that ran its ordered flows are published, and every axis starts a new task period (R75, R85). -/
def State.dspBc (s : State) : State :=
  let s := (s.setF R.DSP_MIG_LAST (min 255 s.dsp.migNow))
  let s := s.each s.dsp.flowRan (fun s f => s.setF (R.DSP_FLOW_PIER f.1) f.2)
  let s : State := { s with dsp := { s.dsp with migNow := 0, clipped := false, flowRan := [] } }
  let s := s.each pierList (fun s p =>
    let u := (s.pier p).useNow
    let s := (s.setF (R.DSP_USE_LAST p) u).setF (R.DSP_PEAK_PEAK p) (max u (s.f (R.DSP_PEAK_PEAK p)))
    s.putPier p { s.pier p with useNow := 0 })
  let s := s.each (axisList.filter (fun a => s.axisOn a)) (fun s a =>
    s.putAxis a { s.axis a with posted := false, done := false })
  s.dspExpress

/-! ## Flows -/

/-- The member limit of a flow at a rate (R81). -/
def flowLimit (rate cls : Nat) : Nat := if cls = 1 then 2 else if rate = 3 then 6 else if rate = 2 then 12 else 16

/-- The tests of a flow enable but for the class-X re-pin (R81): the members, or none. While no span runs the rate's limit waits for `RING_START`. -/
def State.flowTest (s : State) (n : Nat) : Option (List Nat) :=
  let first := s.f (R.DSP_FLOW_FIRST n)
  if 159 < first then none
  else
    let cls := s.axisClass first
    match s.flowChain (if s.spanRuns then flowLimit s.cyc.rate cls else flowLimit 0 cls) first with
    | none => none
    | some m =>
      let ok := m.all (fun a => s.flag (R.DSP_FMEM_IN a) && s.f (R.DSP_FMEM_FLOW a) == n && s.axisClass a == cls && s.axisState a == 1)
      if ok && (cls != 1 || m.length == 2) then some m else none

/-- The Pier on which both members of a class-X flow are pinned (R81). -/
def State.flowPin (s : State) (m : List Nat) : Option Nat :=
  pierList.find? (fun p =>
    let others := axisList.countP (fun a => s.axisOn a && s.flag (R.AXT_W2_PIN a) && s.axisHome a == p && !m.contains a)
    let room := s.slotsTaken p + (m.countP (fun a => s.axisHome a != p))
    s.inService p && others == 0 && decide (room ≤ 32))

/-- A flow enable fails (R81). -/
def State.flowBad (s : State) (n : Nat) : State := (s.clr (R.DSP_FLOW_EN n)).set1 R.DSP_STAT_FLOW_BAD

/-- A write of `DSP_FLOWn` (R81). -/
def State.flowWrite (s : State) (n : Nat) (v : Word) : State :=
  let s := s.plainWrite (R.DSP_FLOW n) v
  if !s.flag (R.DSP_FLOW_EN n) then s
  else match s.flowTest n with
    | none => s.flowBad n
    | some m =>
      let s' := s.setF (R.DSP_FLOW_COUNT n) m.length
      if s.axisClass (m.headD 0) = 1 ∧ (m.map s.axisHome).any (fun h => h != s.axisHome (m.headD 0)) then
        match s.flowPin m with
        | none => s.flowBad n
        | some p => s'.each (m.filter (fun a => s.axisHome a != p)) (fun s a => s.startLoad a p)
      else s'

/-- FLOW_ENABLE: a write of `DSP_FLOWn`, meant with EN = 1 (R81). -/
def execFlowEnable (n : Fin 256) (val : Word) (s : State) : Host.Outcome State Fault Refusal :=
  .next (s.bar0Write (R.DSP_FLOW n.val) (fun s => s.flowWrite n.val (val ||| 0x80000000)))

/-- DSP registers whose value follows from the dispatcher's state (R85). -/
def dspRead (s : State) (a : Nat) : Option Word :=
  if a = R.DSP_STAT then some (setBits (s.reg a) 7 1 (if s.flag R.DSP_CFG_EN && s.spanRuns then 1 else 0))
  else if a = R.DSP_CLEN then some (wordOf (if s.spanRuns then intervalLen s.cyc.rate else 0))
  else none

/-- DSP registers with a rule of their own for a write (R65, R81, R85). -/
def dspRegWrite (s : State) (a : Nat) (v : Word) : Option State :=
  if a = R.DSP_BG_POST then some (s.bgPost v)
  else if a = R.DSP_CWIN then some (s.setF R.DSP_CWIN_OPEN (min (v.toNat % 2 ^ 17) (s.pExp - intervalLen s.cyc.rate)))
  else if R.DSP_FLOW 0 ≤ a ∧ a ≤ R.DSP_FLOW 255 then some (s.flowWrite ((a - R.DSP_FLOW 0) / 4) v)
  else if a = R.DSP_CFG then
    let s := s.plainWrite a v
    some (s.when (!s.flag R.DSP_CFG_EN) (fun s => s.each pierList (fun s p => s.unassign p)))
  else if a = R.DSP_STAT then
    let s := s.plainWrite a v
    some (s.when (v.toNat.testBit 0) (fun s => s.clr R.DSP_OVR_FIRST_VALID))
  else none

end Sys2Proof.Machine
end

