-- ==== Sys2Proof/Machine/Enc.lean ====
section
/-! DEFINITION. Encoder interfaces (R199 to R202). -/

namespace Sys2Proof.Machine

def State.enc (s : State) (e : Nat) : Encoder := tabGet (fun _ => Encoder.idle) s.pwr.enc e
def State.putEnc (s : State) (e : Nat) (x : Encoder) : State :=
  { s with pwr := { s.pwr with enc := tabSet (fun _ => Encoder.idle) s.pwr.enc e x } }

def encList : List Nat := List.range 16

/-- Is an interface enabled in a serial mode? -/
def State.encSerial (s : State) (e : Nat) : Bool := s.flag (R.ENC_CFG_EN e) && (s.f (R.ENC_CFG_MODE e) == 1 || s.f (R.ENC_CFG_MODE e) == 2)

/-- Is the encoder in error, as a lane sees it (R210): its newest transfer failed, or an A/B error lies in this bc or the last? -/
def State.encBad (s : State) (e : Nat) : Bool :=
  let x := s.enc e
  if s.encSerial e then x.bad else x.errWin || x.errT0

/-- An encoder error: the flag, the count, the event (R200, R201, R217). -/
def State.encError (s : State) (e : Nat) (x : Fld) : State :=
  let s := (s.set1 x).incSat (R.ENC_ERRCNT_COUNT e) 1
  s.raise 0x3A e (wordOf ((s.reg (R.ENC_STAT e)).toNat % 64))

/-- The place of an A/B pair of levels in the order of forward counting: 00, 10, 11, 01 (A leads B; log entry 44). -/
def quadPhase (a b : Bool) : Nat := if a then (if b then 2 else 1) else (if b then 3 else 0)

/-- A level after the glitch filter: a new one is taken only once it has stood for FILT clk (R200). -/
def State.encFiltered (s : State) (e : Nat) (old new : Bool) (stood : Nat) : Bool := if s.f (R.ENC_CFG_FILT e) ≤ stood then new else old

/-- ENCODER_EDGE: A and B are at these levels, each for so many clk since it changed; the filtered levels follow and are decoded (R200). -/
def execEncoderEdge (e : Fin 16) (a b : PinLevel) (s : State) : Host.Outcome State Fault Refusal :=
  let x := s.enc e.val
  let a := s.encFiltered e.val x.a a.level a.stood
  let b := s.encFiltered e.val x.b b.level b.stood
  let t := s.putEnc e.val { x with a := a, b := b }
  if s.flag (R.ENC_CFG_EN e.val) = false ∨ s.f (R.ENC_CFG_MODE e.val) ≠ 0 then .next t
  else
    let step := (quadPhase a b + 4 - quadPhase x.a x.b) % 4
    if step = 0 then .next t
    else if step = 2 then .next ((t.putEnc e.val { x with a := a, b := b, errWin := true }).encError e.val (R.ENC_STAT_ERR_AB e.val))
    else
      let up := (step == 1) != s.flag (R.ENC_CFG_INV e.val)
      let p := s.reg (R.ENC_POS e.val)
      .next (t.putReg (R.ENC_POS e.val) (if up then p + 1 else p - 1))

/-- The newest of the instants t0 - LEAD + j × SPER: they lie on the grid of the t0 to come (R201; log entry 103). -/
def State.serialInstant (s : State) (e : Nat) : Nat :=
  let sp := s.f (R.ENC_SPER_SPER e)
  let left := s.clkToT0 1
  s.clk - (s.f (R.ENC_LEAD_LEAD e) + sp * left - left) % sp

/-- SERIAL_TRANSFER_START: the instants t0 - LEAD + j × SPER (R201). -/
def execSerialTransferStart (e : Fin 16) (s : State) : Host.Outcome State Fault Refusal :=
  let sp := s.f (R.ENC_SPER_SPER e.val)
  if s.encSerial e.val = false ∨ sp = 0 then .next s
  else
    let x := s.enc e.val
    let c := s.serialInstant e.val
    if x.xfer.isNone ∧ x.lastStart + sp / 2 < c then .next (s.putEnc e.val { x with xfer := some c, lastStart := c }) else .next s

/-- The number that a list of bits spells, first bit most significant. -/
def natOfBits (l : List Bool) : Nat := l.foldl (fun n b => 2 * n + if b then 1 else 0) 0

/-- The binary number of a Gray code, from its bits, most significant first. -/
def grayBits (prev : Bool) : List Bool → List Bool
  | [] => []
  | b :: bs => (prev != b) :: grayBits (prev != b) bs

/-- The CRC-6 of polynomial 0x43 over bits, most significant first. -/
def crc6 (l : List Bool) : Nat := l.foldl (crcStepMsb 6 0x03) 0

/-- The position of a transfer's data (R201). -/
def State.serialPos (s : State) (e : Nat) (data : List Bool) : Word :=
  let d := if s.flag (R.ENC_CFG_GRAY e) then grayBits false data else data
  wordOf (natOfBits d / 2 ^ s.f (R.ENC_CFG_SHIFT e))

/-- Is a transfer good (R201)? nE and nW are active low. -/
def State.serialOk (s : State) (e : Nat) (rx : SerialRx) : Bool :=
  decide (rx.data.length = s.f (R.ENC_CFG_LEN e)) &&
    (s.f (R.ENC_CFG_MODE e) != 2 ||
      (rx.startBit.isSome && rx.nE && decide (rx.crc = crc6 (rx.data ++ [rx.nE, rx.nW]) ^^^ 0x3F)))

/-- The transfers kept of an interface after one more: those that a later t0 - LEAD can still mean (R201). -/
def State.encHist (s : State) (e start : Nat) (p : Option Word) : List (Nat × Option Word) :=
  (start, p) :: (s.enc e).hist.filter (fun x => decide (s.clk ≤ x.1 + s.f (R.ENC_LEAD_LEAD e) + 2 * s.f (R.ENC_SPER_SPER e)))

/-- SERIAL_TRANSFER_END: a position, or ERR_SER; in BiSS-C the line delay is shown and an active nW sets WARN (R201). -/
def execSerialTransferEnd (e : Fin 16) (rx : SerialRx) (s : State) : Host.Outcome State Fault Refusal :=
  let x := s.enc e.val
  match x.xfer with
  | none => .next s
  | some c =>
    let bissc := s.f (R.ENC_CFG_MODE e.val) == 2
    let s := match rx.startBit with
      | some d => if bissc then s.setF (R.ENC_DLY_DLY e.val) (min d 0xFFFF) else s
      | none => s
    let s := s.when (bissc && rx.startBit.isSome && !rx.nW) (fun s => s.set1 (R.ENC_STAT_WARN e.val))
    if s.serialOk e.val rx then
      let p := s.serialPos e.val rx.data
      .next ((s.putEnc e.val { x with xfer := none, newest := some (p, c), older := x.newest, bad := false, hist := s.encHist e.val c (some p) }).putReg (R.ENC_POS e.val) p)
    else .next ((s.putEnc e.val { x with xfer := none, bad := true, hist := s.encHist e.val c none }).encError e.val (R.ENC_STAT_ERR_SER e.val))

/-- The serial position extrapolated to a clk from the last two transfers (R202, R207). -/
def Encoder.posAt (x : Encoder) (c : Nat) : Word :=
  match x.newest, x.older with
  | some (p, t), some (q, u) =>
    if u < t then p + BitVec.ofInt 32 ((p - q).toInt * ((c : Int) - (t : Int)) / ((t : Int) - (u : Int))) else p
  | some (p, _), none => p
  | none, _ => 0

/-- The position of an interface on a clk. -/
def State.encPos (s : State) (e c : Nat) : Word := if s.encSerial e then (s.enc e).posAt c else s.reg (R.ENC_POS e)

/-- The enabled class-L axis whose lane uses an interface. -/
def State.encAxis (s : State) (e : Nat) : Option Nat :=
  (List.range 160).find? (fun a => s.flag (R.AXT_W0_EN a) && s.f (R.AXT_W0_CLASS a) == 2 && s.f (R.CLN_SRC_ENC (s.f (R.AXT_W0_LANE a))) == e)

/-- Is a level the active one of an input, by the polarity that the axis's parameters give it (R172)? -/
def State.edgeActive (s : State) (e : Nat) (src : LatchSrc) (level : Bool) : Bool :=
  let cfg := match s.encAxis e with | some a => (s.resPar a 0).toNat | none => 0
  match src with
  | .index => level
  | .ref => level != cfg.testBit 3
  | _ => level != cfg.testBit 2

/-- The LREQ code of a source (R172) and its AUX bit. -/
def latchCode : LatchSrc → Nat
  | .ref => 1
  | .index => 2
  | .limPos => 3
  | .limNeg => 4
def auxBit : LatchSrc → Option Nat
  | .limPos => some 0
  | .limNeg => some 1
  | .ref => some 2
  | .index => none

/-- ENCODER_LATCH_EDGE: an input goes to a level; the first active edge after arming latches the position (R202). -/
def execEncoderLatchEdge (e : Fin 16) (src : LatchSrc) (level : Bool) (s : State) : Host.Outcome State Fault Refusal :=
  let aux := s.f (R.ENC_STAT_AUX e.val)
  let s := match auxBit src with
    | some k => s.setF (R.ENC_STAT_AUX e.val) (if level then aux ||| 2 ^ k else aux &&& (7 - 2 ^ k))
    | none => s
  if s.flag (R.ENC_CFG_EN e.val) ∧ (s.enc e.val).lreq = latchCode src ∧ s.flag (R.ENC_STAT_LVAL e.val) = false ∧ s.edgeActive e.val src level then
    .next ((s.putReg (R.ENC_LPOS e.val) (s.encPos e.val s.clk)).set1 (R.ENC_STAT_LVAL e.val))
  else .next s

/-- The class-L task writes LREQ (R202): a change to a source arms the latch again, and LVAL clears (R217); a change to 0 disarms it. -/
def State.encLreq (s : State) (e lreq : Nat) : State :=
  let x := s.enc e
  if x.lreq = lreq then s else (s.putEnc e { x with lreq := lreq }).when (lreq != 0) (fun s => s.clr (R.ENC_STAT_LVAL e))

/-- At t0 an interface's sample is taken (R200, R201): the count, or the position of the transfer that started at t0 - LEAD; if that one has not ended,
LATE is set. -/
def State.encSync (s : State) (e : Nat) : State :=
  let x := s.enc e
  if !s.flag (R.ENC_CFG_EN e) then s
  else if s.encSerial e then
    let due (c : Nat) : Bool := decide (2 * c + 2 * s.f (R.ENC_LEAD_LEAD e) < 2 * s.cyc.t0 + s.f (R.ENC_SPER_SPER e)) &&
      decide (2 * s.cyc.t0 ≤ 2 * c + 2 * s.f (R.ENC_LEAD_LEAD e) + s.f (R.ENC_SPER_SPER e))
    let late := match x.xfer with
      | some c => due c
      | none => false
    let got : Option Word := match x.hist.find? (fun h => due h.1) with
      | some (_, p) => p
      | none => none
    let s := s.putEnc e { x with posT0 := got.getD x.posT0, errT0 := got.isNone }
    s.when late (fun s => s.encError e (R.ENC_STAT_LATE e))
  else s.putEnc e { x with posT0 := s.reg (R.ENC_POS e), errT0 := x.errWin, errWin := false }

/-- The tests of an enable (R199, R201). -/
def State.encTest (s : State) (e : Nat) : Bool :=
  let m := s.f (R.ENC_CFG_MODE e)
  let sp := s.f (R.ENC_SPER_SPER e)
  let t := s.f (R.ENC_CPER_CPER e) * (s.f (R.ENC_CFG_LEN e) + 8) + 8
  if m = 0 then true
  else if m = 3 then false
  else sp != 0 && s.nBc % sp == 0 && decide (t ≤ s.f (R.ENC_LEAD_LEAD e)) && decide (t ≤ sp)

/-- A write of `ENC_Ee_CFG` (R199, R201). -/
def State.encCfgWrite (s : State) (e : Nat) (v : Word) : State :=
  let was := s.flag (R.ENC_CFG_EN e)
  let s := s.plainWrite (R.ENC_CFG e) v
  if s.flag (R.ENC_CFG_EN e) && !was then
    if s.encTest e then
      let x := s.enc e
      s.putEnc e { Encoder.idle with a := x.a, b := x.b, lreq := x.lreq, lastStart := s.clk }
    else (s.clr (R.ENC_CFG_EN e)).set1 (R.ENC_STAT_CFG_BAD e)
  else s

/-- ENCODER_ENABLE: a write of `ENC_Ee_CFG`, meant with EN = 1 (R199, R201). -/
def execEncoderEnable (e : Fin 16) (val : Word) (s : State) : Host.Outcome State Fault Refusal :=
  .next (s.bar0Write (R.ENC_CFG e.val) (fun s => s.encCfgWrite e.val (val ||| 1)))

/-- ENC registers with a rule of their own for a write. -/
def encRegWrite (s : State) (a : Nat) (v : Word) : Option State :=
  if 0x130000 ≤ a ∧ a < 0x130400 ∧ a % 64 = 0 then some (s.encCfgWrite ((a - 0x130000) / 64) v) else none

end Sys2Proof.Machine
end

