-- ==== Sys2Proof/Machine/Fp32.lean ====
section
/-! DEFINITION. Binary32 arithmetic as the Piers and lanes do it (R86): round to nearest even, subnormal inputs and results flushed to zero of the same sign.
Every operation is computed exactly on integers and rounded once. -/

namespace Sys2Proof.Machine

/-- Sign, biased exponent and fraction of a pattern. -/
def fSign (x : F32) : Bool := x.toNat.testBit 31
def fExp (x : F32) : Nat := x.toNat / 2 ^ 23 % 256
def fFrac (x : F32) : Nat := x.toNat % 2 ^ 23

def fIsNaN (x : F32) : Bool := fExp x == 255 && fFrac x != 0
def fIsInf (x : F32) : Bool := fExp x == 255 && fFrac x == 0
/-- Zero, a subnormal counting as zero (R86). -/
def fIsZero (x : F32) : Bool := fExp x == 0
def fFinite (x : F32) : Bool := fExp x != 255

/-- The zero of a sign. -/
def fZero (neg : Bool) : F32 := if neg then 0x80000000 else 0
/-- The infinity of a sign. -/
def fInf (neg : Bool) : F32 := if neg then 0xFF800000 else 0x7F800000
/-- The quiet NaN an invalid operation gives; its payload is free (log entry 12). -/
def fNaN : F32 := (Config.nanF32 &&& 0x003FFFFF) ||| 0x7FC00000

/-- The signed significand of a finite value: the value is it times 2^(exponent - 150). -/
def fMant (x : F32) : Int :=
  if fIsZero x then 0 else (if fSign x then -1 else 1) * ((2 ^ 23 + fFrac x : Nat) : Int)

/-- The rational num / den times 2^e, rounded to nearest even; `neg` is the sign of a zero result. -/
def fRound (num : Int) (den : Nat) (e : Int) (neg : Bool) : F32 :=
  let a := num.natAbs
  let sg := decide (num < 0)
  if a = 0 then fZero neg
  else
    let k : Int := (Nat.log2 a : Int) - (Nat.log2 den : Int) - 23
    let scaled (k : Int) : Nat × Nat := if 0 ≤ k then (a, den * 2 ^ k.toNat) else (a * 2 ^ (-k).toNat, den)
    let k := if (scaled k).1 / (scaled k).2 < 2 ^ 23 then k - 1 else k
    let n := (scaled k).1
    let d := (scaled k).2
    let q := n / d
    let r := n % d
    let q' := if d < 2 * r ∨ (2 * r = d ∧ q % 2 = 1) then q + 1 else q
    let q'' := if q' = 2 ^ 24 then 2 ^ 23 else q'
    let k' := if q' = 2 ^ 24 then k + 1 else k
    let be := k' + e + 150
    if 255 ≤ be then fInf sg
    else if be ≤ 0 then fZero sg
    else BitVec.ofNat 32 ((if sg then 2 ^ 31 else 0) + be.toNat * 2 ^ 23 + (q'' - 2 ^ 23))

/-- The nearest binary32 of an integer. -/
def fOfInt (i : Int) : F32 := fRound i 1 0 false

/-- The nearest binary32 of a rational. -/
def fOfRat (num : Int) (den : Nat) : F32 := fRound num (max 1 den) 0 false

/-- A finite value as an integer times 2^-149 (exact). -/
def fFix (x : F32) : Int := fMant x * ((2 ^ (fExp x - 1) : Nat) : Int)

/-- Addition. -/
def fAdd (x y : F32) : F32 :=
  if fIsNaN x || fIsNaN y then fNaN
  else if fIsInf x then (if fIsInf y && fSign x != fSign y then fNaN else fInf (fSign x))
  else if fIsInf y then fInf (fSign y)
  else fRound (fFix x + fFix y) 1 (-149) (fSign x && fSign y && fIsZero x && fIsZero y)

/-- Negation: the sign bit. -/
def fNeg (x : F32) : F32 := x ^^^ 0x80000000

/-- Magnitude. -/
def fAbs (x : F32) : F32 := x &&& 0x7FFFFFFF

/-- Subtraction. -/
def fSub (x y : F32) : F32 := fAdd x (fNeg y)

/-- Multiplication. -/
def fMul (x y : F32) : F32 :=
  let sg := fSign x != fSign y
  if fIsNaN x || fIsNaN y then fNaN
  else if fIsInf x || fIsInf y then (if fIsZero x || fIsZero y then fNaN else fInf sg)
  else fRound (fMant x * fMant y) 1 ((fExp x : Int) + (fExp y : Int) - 300) sg

/-- Fused multiply-add (R86): x·y + z computed exactly and rounded once. -/
def fFma (x y z : F32) : F32 :=
  let sg := fSign x != fSign y
  if fIsNaN x || fIsNaN y || fIsNaN z then fNaN
  else if fIsInf x || fIsInf y then
    if fIsZero x || fIsZero y || (fIsInf z && fSign z != sg) then fNaN else fInf sg
  else if fIsInf z then z
  else
    let e : Int := (fExp x : Int) + (fExp y : Int) - 300
    let k : Int := min e (-149)
    let num : Int := fMant x * fMant y * ((2 ^ (e - k).toNat : Nat) : Int) + fFix z * ((2 ^ (-149 - k).toNat : Nat) : Int)
    fRound num 1 k (sg && fSign z && (fIsZero x || fIsZero y) && fIsZero z)

/-- A product and a sum as a Pier's microcode forms them: fused or with two roundings, by the free choice (log entry 30). -/
def fMadd (x y z : F32) : F32 := if Config.fuses x y z then fFma x y z else fAdd (fMul x y) z

/-- Division. -/
def fDiv (x y : F32) : F32 :=
  let sg := fSign x != fSign y
  if fIsNaN x || fIsNaN y then fNaN
  else if fIsInf x then (if fIsInf y then fNaN else fInf sg)
  else if fIsInf y then fZero sg
  else if fIsZero y then (if fIsZero x then fNaN else fInf sg)
  else fRound (fMant x * (if fSign y then -1 else 1)) (fMant y).natAbs ((fExp x : Int) - (fExp y : Int)) sg

/-- Integer square root by bits: the largest r with r² ≤ n, of at most `k` bits. -/
def isqrtBits (n : Nat) : Nat → Nat → Nat
  | 0, r => r
  | k + 1, r => if (r + 2 ^ k) * (r + 2 ^ k) ≤ n then isqrtBits n k (r + 2 ^ k) else isqrtBits n k r

/-- Integer square root, rounded down. -/
def isqrt (n : Nat) : Nat := isqrtBits n (Nat.log2 n / 2 + 1) 0

/-- Square root. -/
def fSqrt (x : F32) : F32 :=
  if fIsNaN x then fNaN
  else if fIsZero x then x
  else if fSign x then fNaN
  else if fIsInf x then x
  else
    let e : Int := (fExp x : Int) - 150
    let odd := e % 2 != 0
    let m := (2 ^ 23 + fFrac x) * (if odd then 2 else 1)
    let e2 := (if odd then e - 1 else e) / 2
    let n := m * 2 ^ 60
    let r := isqrt n
    -- a sticky bit keeps the rounding exact
    fRound ((2 * r + if r * r = n then 0 else 1 : Nat) : Int) 1 (e2 - 31) false

/-- Is x < y? False if either is a NaN. -/
def fLt (x y : F32) : Bool :=
  if fIsNaN x || fIsNaN y then false
  else if fIsInf x then fSign x && !(fIsInf y && fSign y)
  else if fIsInf y then !fSign y
  else decide (fFix x < fFix y)

/-- Is x ≤ y? False if either is a NaN. -/
def fLe (x y : F32) : Bool := !fIsNaN x && !fIsNaN y && !fLt y x

def fGt (x y : F32) : Bool := fLt y x
def fGe (x y : F32) : Bool := fLe y x
def fMin (x y : F32) : F32 := if fLt y x then y else x
def fMax (x y : F32) : F32 := if fLt x y then y else x

/-- x kept within [lo, hi]. -/
def fClamp (x lo hi : F32) : F32 := if fLt x lo then lo else if fLt hi x then hi else x

/-- The sign of an acting clamp to ±lim: +1, -1 or 0. -/
def fClampSign (x lim : F32) : Int := if fLt lim x then 1 else if fLt x (fNeg lim) then -1 else 0

/-- A finite value times 2^k, truncated toward zero to an integer; 0 for a non-finite one. -/
def fTruncScaled (x : F32) (k : Int) : Int :=
  if !fFinite x then 0
  else
    let e : Int := (fExp x : Int) - 150 + k
    let m := (fMant x).natAbs
    let q : Nat := if 0 ≤ e then m * 2 ^ e.toNat else m / 2 ^ (-e).toNat
    if fSign x then -(q : Int) else (q : Int)

/-- A difference of positions in 2^-16 count as fp32 counts (R114). -/
def fOfPos (i : Int) : F32 := fRound i 1 (-16) false

/-- An fp32 number of counts as a pos64 difference, truncated (R122). -/
def posOfF (x : F32) : Int := fTruncScaled x 16

def fOne : F32 := 0x3F800000
def fHalf : F32 := 0x3F000000
def fTwo : F32 := 0x40000000
/-- The nearest binary32 of 2π and of √3. -/
def fTwoPi : F32 := 0x40C90FDB
def fSqrt3 : F32 := 0x3FDDB3D7

end Sys2Proof.Machine
end

