-- ==== Sys2Proof/Machine/Glb.lean ====
section
/-! DEFINITION. The GLB block (R8 to R13, R390 to R399): triple-voted registers and their scrubber, paired writes, the wide-value
mailbox, accesses of a wrong width and at unmapped addresses. -/

namespace Sys2Proof.Machine

/-! ## Triple-voted registers -/

/-- Do the three copies of a register agree? -/
def State.copiesAgree (s : State) (a : Nat) : Bool :=
  let x := tabGet regReset s.regs a
  tabGet regReset s.tvB a == x && tabGet regReset s.tvC a == x

/-- Correct a triple-voted register to the vote; a correction is counted, the first one recorded, and the event raised (R393). -/
def State.voteCorrect (s : State) (a : Nat) : State :=
  if !isTv a || s.copiesAgree a then s
  else
    let s := s.putReg a (s.reg a)
    let s := s.incSat R.GLB_VOTE_CNT_COUNT 1
    let s := if s.flag R.GLB_VOTE_LAST_VALID then s
      else { (s.setF R.GLB_VOTE_LAST_ADDR a).set1 R.GLB_VOTE_LAST_VALID with host := { s.host with voteT := s.nt } }
    s.raise 0x00 0 (wordOf a)

/-- The triple-voted register at a place of the scrubber's order (R392, R393). -/
def tvAddr (pos : Nat) : Nat := if pos < 160 then 0x50000 + 16 * pos else if pos = 160 then R.TWN_CFG else R.NVS_CFG

/-- TV_SCRUB: every 64 clk, while `GLB_CFG.SCRUB_EN` = 1, the next register is read and corrected (R393). -/
def execTvScrub (s : State) : Host.Outcome State Fault Refusal :=
  if s.flag R.GLB_CFG_SCRUB_EN ∧ s.host.scrubAt ≤ s.clk then
    let pos := s.f R.GLB_SCRUB_POS
    let s : State := { s with host := { s.host with scrubAt := s.clk + 64 } }
    let s := s.voteCorrect (tvAddr pos)
    .next (if pos + 1 < 162 then s.setF R.GLB_SCRUB_POS (pos + 1)
      else (s.setF R.GLB_SCRUB_POS 0).incWrap R.GLB_SCRUB_PASS 1)
  else .next s

/-! ## Paired writes -/

/-- The paired-write registers (R394). -/
def isPw (a : Nat) : Bool := a == R.PWM_FORCE || a == R.KST_FW_REQ || a == R.GLB_SWRST || a == R.NVS_SWITCH

/-- A paired write is discarded with a cause (R12, R395). -/
def State.pwDiscard (s : State) (a cause : Nat) : State :=
  let s := s.incSat R.GLB_PW_ERR_COUNT 1
  let s := if s.flag R.GLB_PW_LAST_VALID then s
    else ((s.setF R.GLB_PW_LAST_ADDR a).setF R.GLB_PW_LAST_CAUSE cause).set1 R.GLB_PW_LAST_VALID
  s.raise 0x01 cause (wordOf a)

/-- No pair is pending any more. -/
def State.pwNone (s : State) : State := { s with host := { s.host with pw := none } }

/-- Discard a pending pair whose 64-clk window has ended (cause 1, R12). -/
def State.pwSettle (s : State) : State :=
  match s.host.pw with
  | none => s
  | some p => if p.at_ + 64 < s.clk then s.pwNone.pwDiscard p.addr 1 else s

/-- A value write to a PW register: a pair already pending is discarded (cause 3), and the write opens its own window (R13). -/
def State.pwValue (s : State) (a : Nat) (v : Word) : State :=
  let s := s.pwSettle
  let s := match s.host.pw with
    | none => s
    | some p => s.pwNone.pwDiscard p.addr 3
  { s with host := { s.host with pw := some ⟨a, v, s.clk⟩ } }

/-- The bits of a PW register that take a written value. -/
def pwMask (a : Nat) : Word :=
  match findReg a with
  | none => 0
  | some r => accMask (fun c => c == .pw) r.fields

/-- A reset request of a scope is accepted (R433): scopes 2 and 3 wait their 64 clk, and a request made while one waits is merged into it. Scope 1 acts on its own;
scope 0 names nothing. -/
def State.swrstAccept (s : State) (scope : Nat) : State :=
  match s.host.swrst with
  | some (c, at_) => { s with host := { s.host with swrst := some (max c scope, at_) } }
  | none =>
    if 2 ≤ scope then { s with host := { s.host with swrst := some (scope, s.clk) } }
    else if scope = 1 then { s with host := { s.host with accepted := s.host.accepted ++ [(R.GLB_SWRST, 1)] } }
    else s

/-- A pair is accepted: the register takes its value and its action follows; `GLB_SWRST` reads 0 (R399). -/
def State.pwAccept (s : State) (a : Nat) (v : Word) : State :=
  if a = R.GLB_SWRST then s.swrstAccept (v &&& pwMask a).toNat
  else
    let s := s.putReg a (v &&& pwMask a)
    { s with host := { s.host with accepted := s.host.accepted ++ [(a, v &&& pwMask a)] } }

/-- A write to the complement address of PW register `a` (R12, R13, R395). -/
def State.pwComplement (s : State) (a : Nat) (v : Word) : State :=
  let s := s.pwSettle
  match s.host.pw with
  | none => s.pwDiscard a 2
  | some p =>
    let s := s.pwNone
    if p.addr = a then (if v = ~~~p.val then s.pwAccept a p.val else s.pwDiscard a 0)
    else (s.pwDiscard p.addr 3).pwDiscard a 2

/-- Take the oldest accepted pair of a register out of those whose action is still to come. -/
def State.takeAccepted (s : State) (a : Nat) : Option (Word × State) :=
  match s.host.accepted.find? (fun p => p.1 == a) with
  | none => none
  | some p => some (p.2, { s with host := { s.host with accepted := s.host.accepted.erase p } })

/-- PAIRED_WRITE_VALUE (R12, R13). An address that holds no PW register takes no pair. -/
def execPairedWriteValue (addr : Nat) (val : Word) (s : State) : Host.Outcome State Fault Refusal :=
  .next (s.bar0Write addr (fun s => if isPw addr then s.pwValue addr val else s))

/-- PAIRED_WRITE_COMPLEMENT: `addr` is the register's address; the write goes to `addr` + 0x800 (R11 to R13). -/
def execPairedWriteComplement (addr : Nat) (val : Word) (s : State) : Host.Outcome State Fault Refusal :=
  .next (s.bar0Write addr (fun s => if isPw addr then s.pwComplement addr val else s))

/-- PW_WINDOW_EXPIRY: on the first clk after the window the pending pair is discarded with cause 1 (R12). -/
def execPwWindowExpiry (s : State) : Host.Outcome State Fault Refusal := .next s.pwSettle

/-! ## Accesses with no register -/

/-- BAD_WIDTH_ACCESS: completed with no effect and counted (R8); the access-error event is raised (R400). -/
def execBadWidthAccess (addr : Nat) (s : State) : Host.Outcome State Fault Refusal :=
  .next (s.when (!s.sysLost) (fun s => (s.incSat R.GLB_ACC_ERR_WIDTH 1).raise 0x02 0 (wordOf addr)))

/-- An access at an unmapped address: counted, and the access-error event raised (R390, R400). -/
def State.unmapped (s : State) (a : Nat) : State := (s.incSat R.GLB_ACC_ERR_UNMAP 1).raise 0x02 1 (wordOf a)

/-! ## The mailbox -/

/-- Start a mailbox request that becomes ready 4 clk later (R396); a new request clears VALID and ERR (R397). -/
def State.mbxStart (s : State) (wr : Bool) (code : Nat) (failed : Bool) (words : Nat) : State :=
  let s := (s.setB R.GLB_MBX_REQ_WR wr).setF R.GLB_MBX_REQ_CODE code
  let s := ((s.clr R.GLB_MBX_STAT_VALID).clr R.GLB_MBX_STAT_ERR).set1 R.GLB_MBX_STAT_BUSY
  { s with host := { s.host with mbx := ⟨some (s.clk + 4), failed, wr, words⟩ } }

/-- Put an item's words in the data words; words beyond the item's length read 0 (R397). -/
def State.mbxLoad (s : State) (ws : List Word) : State :=
  s.each (List.range 4) (fun s k => s.putReg (R.GLB_MBX_D k) (ws.getD k 0))

/-- The words a read item gives, or none for a code that is not a read item (R62, R398). -/
def State.mbxItem (s : State) (code : Nat) : Option (List Word) :=
  if code = 0x10 then some [s.nt.ns, wordOf s.nt.sec.toNat, wordOf (s.nt.sec.toNat / 2 ^ 32), s.nt.frac]
  else if code = 0x20 then some (words64 (chn64 s.chnLive).toNat)
  else if code = 0x21 then some (words64 (chn64 s.chn.seg.s).toNat ++ words64 s.chn.seg.v.toNat)
  else if code = 0x23 then some (words64 s.chn.vmTgt.toNat)
  else if code = 0x24 then some (words64 s.chn.srcOff.toNat)
  else if code = 0x30 then some (ntWords3 s.cap.lossT)
  else if code = 0x40 then some (ntWords3 s.evt.lossT)
  else if code = 0x41 then some (ntWords3 s.host.voteT)
  else if code = 0x42 then some [s.cyc.bcIdx, wordOf s.sinceT0]
  else if code = 0x43 then some (words64 s.dsp.tasks64)
  else none

/-- `NT_SET` (R37): loads the counter while the span is IDLE and the nanoseconds are below 1,000,000,000. A load into another bc, or onto the multiple that starts
one, makes t0 of that bc due (R36; log entry 88). -/
def State.ntSet (s : State) (ws : List Word) : Option State :=
  let ns := ws.getD 0 0
  if s.f R.ZLP_SSTAT_STATE = 0 ∧ ns.toNat < nsPerSec then
    let sec := (ws.getD 1 0).toNat + (ws.getD 2 0).toNat % 2 ^ 16 * 2 ^ 32
    let t : NetTime := ⟨BitVec.ofNat 48 sec, ns, ws.getD 3 0⟩
    let onT0 := ns.toNat % bcNs s.cyc.rate = 0 ∧ t.frac = 0
    some { s with nt := t, cyc := { s.cyc with mark := if onT0 then bcIndexOf s.cyc.rate t - 1 else s.cyc.mark } }
  else none

/-- Apply a write item, or none where the code is no write item or the item's own rule refuses (R397). -/
def State.mbxApply (s : State) (code : Nat) (ws : List Word) : Option State :=
  let v : BitVec 64 := BitVec.ofNat 64 (nat64 (ws.getD 0 0) (ws.getD 1 0))
  if code = 0x11 then s.ntSet ws
  else if code = 0x22 then some { s with chn := { s.chn with preset := some v } }
  else if code = 0x23 then some { s with chn := { s.chn with vmTgt := v } }
  else if code = 0x24 then some { s with chn := { s.chn with srcOff := v } }
  else none

/-- The host's data words. -/
def State.mbxWords (s : State) : List Word := (List.range 4).map (fun k => s.reg (R.GLB_MBX_D k))

/-- A host request of a read item: sampled on this clk (R396). -/
def State.mbxRead (s : State) (code : Nat) : State :=
  match s.mbxItem code with
  | some ws => (s.mbxLoad ws).mbxStart false code false ws.length
  | none => s.mbxStart false code true 0

/-- A host request of a write item: applied on this clk (R396). -/
def State.mbxWrite (s : State) (code : Nat) : State :=
  match s.mbxApply code s.mbxWords with
  | some s' => s'.mbxStart true code false 0
  | none => s.mbxStart true code true 0

/-- A host write of `GLB_MBX_REQ` (R396). -/
def State.mbxRequest (s : State) (v : Word) : State :=
  let code := v.toNat % 256
  if v.toNat.testBit 8 then s.mbxWrite code else s.mbxRead code

/-- A host request, gated like every BAR0 write (R437). -/
def State.mbxHost (s : State) (g : State → State) : State := s.bar0Write R.GLB_MBX_REQ g

/-- NT_NOW (R62). -/
def execNtNow (s : State) : Host.Outcome State Fault Refusal := .next (s.mbxHost (fun s => s.mbxRead 0x10))
/-- NT_SET (R37). -/
def execNtSet (s : State) : Host.Outcome State Fault Refusal := .next (s.mbxHost (fun s => s.mbxWrite 0x11))
/-- CHN_NOW (R62). -/
def execChnNow (s : State) : Host.Outcome State Fault Refusal := .next (s.mbxHost (fun s => s.mbxRead 0x20))
/-- CHN_SNAP (R62). -/
def execChnSnap (s : State) : Host.Outcome State Fault Refusal := .next (s.mbxHost (fun s => s.mbxRead 0x21))
/-- CHN_PRESET (R46, R62). -/
def execChnPreset (s : State) : Host.Outcome State Fault Refusal := .next (s.mbxHost (fun s => s.mbxWrite 0x22))
/-- VM_VTGT read (R62). -/
def execVmVtgtRead (s : State) : Host.Outcome State Fault Refusal := .next (s.mbxHost (fun s => s.mbxRead 0x23))
/-- VM_VTGT write (R42, R62). -/
def execVmVtgtWrite (s : State) : Host.Outcome State Fault Refusal := .next (s.mbxHost (fun s => s.mbxWrite 0x23))
/-- SRC_OFFSET read (R62). -/
def execSrcOffsetRead (s : State) : Host.Outcome State Fault Refusal := .next (s.mbxHost (fun s => s.mbxRead 0x24))
/-- SRC_OFFSET write (R62). -/
def execSrcOffsetWrite (s : State) : Host.Outcome State Fault Refusal := .next (s.mbxHost (fun s => s.mbxWrite 0x24))
/-- CAP_LOSS_T (R60, R62). -/
def execCapLossT (s : State) : Host.Outcome State Fault Refusal := .next (s.mbxHost (fun s => s.mbxRead 0x30))
/-- EVT_LOSS_T (R398). -/
def execEvtLossT (s : State) : Host.Outcome State Fault Refusal := .next (s.mbxHost (fun s => s.mbxRead 0x40))
/-- VOTE_T (R398). -/
def execVoteT (s : State) : Host.Outcome State Fault Refusal := .next (s.mbxHost (fun s => s.mbxRead 0x41))
/-- BC_INDEX (R398). -/
def execBcIndex (s : State) : Host.Outcome State Fault Refusal := .next (s.mbxHost (fun s => s.mbxRead 0x42))
/-- PIR_TASKS64 (R398). -/
def execPirTasks64 (s : State) : Host.Outcome State Fault Refusal := .next (s.mbxHost (fun s => s.mbxRead 0x43))

/-- MBX_UNKNOWN_CODE: a request with any direction and code; an unknown code or a write to a read-only item fails (R397). -/
def execMbxUnknownCode (wr : Bool) (code : Byte) (s : State) : Host.Outcome State Fault Refusal :=
  .next (s.mbxHost (fun s => s.mbxRequest (wordOf (code.toNat + if wr then 256 else 0))))

/-- MBX_READY: 4 clk after the request, VALID (and ERR if it failed) is set and BUSY clears (R396, R397). -/
def execMbxReady (s : State) : Host.Outcome State Fault Refusal :=
  match s.host.mbx.readyAt with
  | none => .next s
  | some c =>
    if c ≤ s.clk then
      let s := ((s.clr R.GLB_MBX_STAT_BUSY).set1 R.GLB_MBX_STAT_VALID).setB R.GLB_MBX_STAT_ERR s.host.mbx.failed
      .next { s with host := { s.host with mbx := { s.host.mbx with readyAt := none } } }
    else .next s

/-- A host read of data word `k`: VALID clears on the read of the last word of a read item (R396). -/
def State.mbxReadWord (s : State) (k : Nat) : State :=
  let v := s.reg (R.GLB_MBX_D k)
  let s := s.when (s.flag R.GLB_MBX_STAT_VALID && !s.host.mbx.isWrite && !s.host.mbx.failed && k + 1 == s.host.mbx.words)
    (fun s => s.clr R.GLB_MBX_STAT_VALID)
  s.answer v

/-- A host read of `GLB_MBX_STAT`: after a write item or a failed request VALID and ERR clear (R396, R397). -/
def State.mbxReadStat (s : State) : State :=
  let v := s.reg R.GLB_MBX_STAT
  let s := s.when (s.flag R.GLB_MBX_STAT_VALID && (s.host.mbx.isWrite || s.host.mbx.failed))
    (fun s => (s.clr R.GLB_MBX_STAT_VALID).clr R.GLB_MBX_STAT_ERR)
  s.answer v

/-- MBX_DATA_READ (R396). -/
def execMbxDataRead (k : Fin 4) (s : State) : Host.Outcome State Fault Refusal :=
  .next (s.bar0Answer (R.GLB_MBX_D k.val) (fun s => s.mbxReadWord k.val))

/-- MBX_STAT_READ (R396, R397). -/
def execMbxStatRead (s : State) : Host.Outcome State Fault Refusal :=
  .next (s.bar0Answer R.GLB_MBX_STAT (fun s => s.mbxReadStat))

/-- GLB registers with a rule of their own for a write. -/
def glbRegWrite (s : State) (a : Nat) (v : Word) : Option State :=
  if a = R.GLB_MBX_REQ then some (s.mbxRequest v) else none

end Sys2Proof.Machine
end

