-- ==== Sys2Proof/Machine/Sdm.lean ====
section
/-! DEFINITION. Sigma-delta inputs (R196 to R198): clock groups, the sinc3 filter, alignment, and channel errors. -/

namespace Sys2Proof.Machine

/-- A channel's filter. -/
def State.sdm (s : State) (c : Nat) : SdmFilter := tabGet (fun _ => SdmFilter.zero) s.pwr.sdm c

/-- Change a channel's filter. -/
def State.putSdm (s : State) (c : Nat) (x : SdmFilter) : State :=
  { s with pwr := { s.pwr with sdm := tabSet (fun _ => SdmFilter.zero) s.pwr.sdm c x } }

/-- The decimation ratio as it acts (R218). -/
def State.sdmOsr (s : State) (c : Nat) : Nat := max 8 (min 256 (s.f (R.SDM_CFG_OSR c)))

/-- Does a channel filter: it and its clock group are enabled? -/
def State.sdmOn (s : State) (c : Nat) : Bool := s.flag (R.SDM_CFG_EN c) && s.flag (R.SDM_CLK_EN (c / 12))

/-- Does the modulator drive the clock of a channel's group (R196)? -/
def State.sdmExternal (s : State) (c : Nat) : Bool := s.flag (R.SDM_CLK_MODE (c / 12))

/-- Is a channel in error (R198)? -/
def State.sdmBad (s : State) (c : Nat) : Bool := s.flag (R.SDM_STAT_STUCK c) || s.flag (R.SDM_STAT_CLK_LOSS c)

/-- The samples that the own clock of a channel's group has given by a clk (R196): its rising edges lie DIV clk apart, the first DIV clk after the clock began, and the data is
taken SAMP_DLY clk after each (log entry 101). -/
def State.sdmSamples (s : State) (c clk : Nat) : Nat :=
  let g := c / 12
  (clk - s.f (R.SDM_CLK_SAMP_DLY g) - tabGet (fun _ => 0) s.pwr.sdmClk g) / s.f (R.SDM_CLK_DIV g)

/-! ## The filter -/

/-- One bit into the integrators: 1 counts +1, 0 counts -1 (R197). -/
def SdmFilter.bit (x : SdmFilter) (b : Bool) : SdmFilter :=
  let a := x.i1 + (if b then 1 else -1)
  let c := x.i2 + a
  { x with i1 := a, i2 := c, i3 := x.i3 + c }

/-- The combs at the end of a decimation period: the filter and its output (R197). -/
def SdmFilter.comb (x : SdmFilter) : SdmFilter × Word :=
  let d1 := x.i3 - x.c1
  let d2 := d1 - x.c2
  ({ x with c1 := x.i3, c2 := d1, c3 := d2, count := 0 }, d2 - x.c3)

/-- The decimation count restarts where a period start asked for it (R197). -/
def SdmFilter.cut (x : SdmFilter) : SdmFilter :=
  { x with count := if x.cuts.contains x.taken then 0 else x.count, cuts := x.cuts.filter (fun k => decide (x.taken < k)) }

/-- One more equal bit, or the first of a run; at 64 the run is noted and counts anew (R198). -/
def SdmFilter.run (x : SdmFilter) (b : Bool) : SdmFilter :=
  let n := if x.last = some b then x.same + 1 else 1
  { x with last := some b, same := if n = 64 then 0 else n, hit := x.hit || n == 64 }

/-- One sample of a channel, with the output if it ends a decimation period (R197). -/
def SdmFilter.sample (osr : Nat) (x : SdmFilter × Option Word) (b : Bool) : SdmFilter × Option Word :=
  let f := (x.1.cut.bit b).run b
  let f := { f with taken := f.taken + 1, count := f.count + 1 }
  if osr ≤ f.count then (f.comb.1, some f.comb.2) else (f, x.2)

/-- The samples of a list that the clock has given by now: those of a modulator's clock come as they are (R196). -/
def State.sdmTaken (s : State) (c : Nat) (bits : List Bool) : List Bool :=
  if s.sdmExternal c then bits else bits.take (s.sdmSamples c s.clk - (s.sdm c).taken)

/-- Mark a channel error; its event comes when the flag becomes set (R198, R400). -/
def State.sdmMark (s : State) (c : Nat) (x : Fld) : State :=
  if s.flag x then s
  else
    let s := s.set1 x
    s.raise 0x3B c (wordOf ((s.reg (R.SDM_STAT c)).toNat % 4))

/-- The next samples of a channel: they pass its filter, the newest output is shown, and 64 equal ones in a row set STUCK (R197, R198). -/
def State.sdmBits (s : State) (c : Nat) (bits : List Bool) : State :=
  if s.sdmOn c then
    let l := s.sdmTaken c bits
    let r := l.foldl (SdmFilter.sample (s.sdmOsr c)) (s.sdm c, none)
    let s := s.putSdm c { r.1 with hit := false, at_ := if l.isEmpty then r.1.at_ else s.clk }
    let s := match r.2 with
      | some w => s.putReg (R.SDM_DATA c) w
      | none => s
    s.when r.1.hit (fun s => s.sdmMark c (R.SDM_STAT_STUCK c))
  else s

/-- SDM_FILTER_OUTPUT: the samples with which a decimation period ends (R197). -/
def execSdmFilterOutput (c : Fin 48) (bits : List Bool) (s : State) : Host.Outcome State Fault Refusal := .next (s.sdmBits c.val bits)

/-- SDM_STUCK: the samples of which one is the 64th equal one in a row (R198). -/
def execSdmStuck (x : SdmRun) (s : State) : Host.Outcome State Fault Refusal := .next (s.sdmBits x.chan.val x.bits)

/-- SDM_CLOCK_LOSS: in clock mode 1, no edge within 1,024 clk (R198). -/
def execSdmClockLoss (c : Fin 48) (s : State) : Host.Outcome State Fault Refusal :=
  if s.sdmOn c.val ∧ s.sdmExternal c.val ∧ (s.sdm c.val).at_ + 1024 < s.clk then .next (s.sdmMark c.val (R.SDM_STAT_CLK_LOSS c.val)) else .next s

/-! ## Alignment and enables -/

/-- At a period start of module `m` on clk `clk` the decimation counts of the channels aligned to it restart (R197). -/
def State.sdmAlign (s : State) (m clk : Nat) : State :=
  s.each ((List.range 48).filter (fun c => s.sdmOn c && s.flag (R.SDM_CFG_ALIGN_EN c) && s.f (R.SDM_CFG_ALIGN c) == m)) (fun s c =>
    let x := s.sdm c
    let i := if s.sdmExternal c then x.taken else max x.taken (s.sdmSamples c clk)
    s.putSdm c { x with cuts := x.cuts ++ [i] })

/-- A channel starts: an empty filter, from the next sample of its clock on (R197). -/
def State.sdmStart (s : State) (c : Nat) : State := s.putSdm c { SdmFilter.zero with taken := s.sdmSamples c s.clk, at_ := s.clk }

/-- A write of a clock group (R196): DIV below 8 stores 8; a clock that starts or changes begins anew (log entry 101). -/
def State.sdmClkWrite (s : State) (g : Nat) (v : Word) : State :=
  let old := s.reg (R.SDM_CLK g)
  let s := s.plainWrite (R.SDM_CLK g) v
  let s := s.setF (R.SDM_CLK_DIV g) (max 8 (s.f (R.SDM_CLK_DIV g)))
  if s.reg (R.SDM_CLK g) = old then s
  else
    let s : State := { s with pwr := { s.pwr with sdmClk := tabSet (fun _ => 0) s.pwr.sdmClk g s.clk } }
    s.each (List.range 12) (fun s k => s.sdmStart (12 * g + k))

/-- A write of a channel's configuration (R197): it starts with EN. -/
def State.sdmCfgWrite (s : State) (c : Nat) (v : Word) : State :=
  let was := s.flag (R.SDM_CFG_EN c)
  let s := s.plainWrite (R.SDM_CFG c) v
  s.when (!was && s.flag (R.SDM_CFG_EN c)) (fun s => s.sdmStart c)

/-- SDM registers with a rule of their own for a write. -/
def sdmRegWrite (s : State) (a : Nat) (v : Word) : Option State :=
  if 0x140000 ≤ a ∧ a < 0x140010 ∧ a % 4 = 0 then some (s.sdmClkWrite ((a - 0x140000) / 4) v)
  else if 0x140100 ≤ a ∧ a < 0x140400 ∧ a % 16 = 0 then some (s.sdmCfgWrite ((a - 0x140100) / 16) v)
  else none

end Sys2Proof.Machine
end

