-- ==== Sys2Proof/Machine/Pwm.lean ====
section
/-! DEFINITION. PWM modules and the Parapet (R178 to R195): counter, shadows and reload, dead-time erosion, bootstrap refresh, restarts, and forces. -/

namespace Sys2Proof.Machine

/-- A module's running state. -/
def State.pwm (s : State) (m : Nat) : PwmModule := tabGet (fun _ => PwmModule.idle) s.pwr.pwm m

/-- Change a module's running state. -/
def State.putPwm (s : State) (m : Nat) (x : PwmModule) : State :=
  { s with pwr := { s.pwr with pwm := tabSet (fun _ => PwmModule.idle) s.pwr.pwm m x } }

/-- A lane's running state. -/
def State.lane (s : State) (l : Nat) : Lane := tabGet (fun _ => Lane.idle) s.pwr.lane l

/-- Change a lane's running state. -/
def State.putLane (s : State) (l : Nat) (x : Lane) : State :=
  { s with pwr := { s.pwr with lane := tabSet (fun _ => Lane.idle) s.pwr.lane l x } }

/-- The PWM modules. -/
def pwmList : List Nat := List.range 12
/-- The lanes. -/
def laneList : List Nat := List.range 16
/-- The pairs of a module. -/
def pairList : List Nat := [0, 1, 2, 3]

/-- The element of a list of numbers at a place. -/
def nth (l : List Nat) (i : Nat) : Nat := l.getD i 0

/-! ## Position -/

def State.pwmOn (s : State) (m : Nat) : Bool := s.flag (R.PWM_CFG_EN m)

/-- The period position on a clk, not held (R178). -/
def PwmModule.posOn (x : PwmModule) (c : Nat) : Nat := x.pos + (c - x.posAt)

/-- The restart source in force (R188). -/
def State.syncSrc (s : State) (m : Nat) : Nat :=
  let v := s.f (R.PWM_CFG_SYNC_SRC m)
  if v = 1 ∧ m ≠ 0 then 1 else if v = 2 then 2 else 0

/-- PHASE as it acts. -/
def State.phaseOf (s : State) (m : Nat) : Nat := min (s.f (R.PWM_PHASE_PHASE m)) ((s.pwm m).per - 1)

/-- The position that a restart loads (R188). -/
def State.loadPos (s : State) (m : Nat) : Nat := if s.syncSrc m = 1 then (s.phaseOf m + 1) % (s.pwm m).per else s.phaseOf m

/-- Periods between restarts. -/
def State.periodsPerSync (s : State) (m : Nat) : Nat :=
  if s.syncSrc m = 1 then max 1 ((s.pwm (m - 1)).per / (s.pwm m).per) else max 1 (s.f (R.PWM_CFG_SYNC_DIV m) * s.nBc / (s.pwm m).per)

/-- Where the counter waits for its restart, once the periods that lie between restarts have passed: its last position, the one before the position loaded (R188; log entry 102). -/
def State.holdAt (s : State) (m : Nat) : Option Nat :=
  let x := s.pwm m
  let p := s.loadPos m
  let last := if p = 0 then x.per - 1 else p - 1
  let need := if p = 0 then s.periodsPerSync m - 1 else s.periodsPerSync m
  let live := if s.syncSrc m = 1 then s.pwmOn (m - 1) else s.syncSrc m = 2
  if live ∧ need ≤ x.periods ∧ x.pos ≤ last then some last else none

/-- Does the counter wait at its last position for a restart (R188)? -/
def State.pwmWaits (s : State) (m : Nat) : Bool := (s.holdAt m).isSome

/-- The period position n; a counter that waits for a restart holds its last position (R188). -/
def State.pwmPos (s : State) (m : Nat) : Nat := let x := s.pwm m; min (x.posOn s.clk) ((s.holdAt m).getD (x.per - 1))

/-- The dead time D and minimum pulse M of a module. -/
def State.deadTime (s : State) (m : Nat) : Nat := s.f (R.PWM_DT_DT m)
def State.minPulse (s : State) (m : Nat) : Nat := s.f (R.PWM_CFG_MINP m)

/-! ## Erosion and levels -/

/-- How a period drives a pair (R184): low on throughout, high on throughout, or a pulse; with the ERODE flag. -/
inductive PulseKind where
  | low | high | pulse
  deriving DecidableEq, Repr

/-- The row of R184 for an on-time W. -/
def pulseKind (w per d m : Nat) : PulseKind × Bool :=
  if w = 0 then (.low, false)
  else if w < d + m then (.low, true)
  else if w < per ∧ per < w + d + m then (.high, true)
  else if per ≤ w then (.high, false)
  else (.pulse, false)

/-- The kind of the running period of a pair. -/
def State.pairKind (s : State) (m p : Nat) : PulseKind × Bool :=
  let x := s.pwm m
  pulseKind (nth x.fall p - nth x.rise p) x.per (s.deadTime m) (s.minPulse m)

/-- The level a pair is driven to at a position: 0 both off, 1 low side on, 2 high side on (R179, R184, R186). -/
def State.wantLevel (s : State) (m p n : Nat) : Nat :=
  let x := s.pwm m
  let d := s.deadTime m
  if x.refresh.getD p false then
    let w := s.f (R.PWM_BS_BS_W m)
    if n < d then 0 else if n < d + w then 1 else if n < 2 * d + w then 0 else 2
  else match (s.pairKind m p).1 with
    | .low => 1
    | .high => 2
    | .pulse =>
      let r := nth x.rise p
      let f := nth x.fall p
      if n < r then 1 else if n < r + d then 0 else if n < f then 2 else if n < f + d then 0 else 1

/-! ## Forces -/

/-- Does a force act on a module (R192): a mapped fault latch, the software force, or the Keystone force? -/
def State.forceActs (s : State) (m : Nat) : Bool :=
  s.flag R.PWM_FLT_STAT_KST || s.pwr.soft.testBit m ||
    (List.range 8).any (fun i => (s.f R.PWM_FLT_STAT_LATCH).testBit i && (s.f (R.PWM_FLT_MAP_MODS i)).testBit m)

/-- Is a module in its forced state: until a period start finds no force (R192)? -/
def State.isForced (s : State) (m : Nat) : Bool := s.forceActs m || (s.pwmOn m && (s.pwm m).linger)

/-- The level of a pair's fault state (R189). -/
def State.faultLevel (s : State) (m p : Nat) : Nat :=
  let c := bitsOf (s.f (R.PWM_FST_FST m)) (2 * p) 2
  if c = 3 then 0 else c

/-- The pairs a lane uses (R204). -/
def State.lanePairs (s : State) (l : Nat) : List Nat :=
  let u := s.f (R.CLN_PAIRS_U_A1 l)
  let v := s.f (R.CLN_PAIRS_V_A2 l)
  let w := s.f (R.CLN_PAIRS_W_B1 l)
  match s.f (R.CLN_CFG_MODE l) with
  | 0 => [u, v, w]
  | 1 => [u, v, w, s.f (R.CLN_PAIRS_B2 l)]
  | _ => []

/-- The enabled lane that owns pair `p` of module `m` (R205). -/
def State.pairLane (s : State) (m p : Nat) : Option Nat :=
  laneList.find? (fun l => s.flag (R.CLN_CFG_EN l) && (s.lanePairs l).contains (4 * m + p))

/-- Does its lane hold a pair off (R210)? -/
def State.laneHolds (s : State) (m p : Nat) : Bool :=
  match s.pairLane m p with
  | some l => ((s.lane l).off && decide ((s.lane l).offAt ≤ s.clk)) || (s.lane l).held.contains m
  | none => false

/-- The level of a pair at its gates now: both off while its module does not run (R187), its fault state under a force (R190, R195), off by its lane (R210), else as the period
drives it with D before every turn-on. -/
def State.pairLevel (s : State) (m p : Nat) : Nat :=
  let x := s.pwm m
  if !s.pwmOn m then 0
  else if s.isForced m ∧ x.forceOff ≤ s.clk then
    match x.forceOn with
    | none => s.faultLevel m p
    | some _ => if x.keep.getD p false then s.faultLevel m p else 0
  else if s.laneHolds m p then 0
  else
    let want := s.wantLevel m p (s.pwmPos m)
    if want = nth x.lvl p ∨ nth x.lvlAt p + s.deadTime m ≤ s.clk then want else 0

/-- The level of a gate pin: its on-level is low where its bit of `PWM_Mm_POL` is 1 (R187, R214). -/
def State.gatePin (s : State) (m p : Nat) (high : Bool) : Bool :=
  (s.pairLevel m p == (if high then 2 else 1)) != (s.f (R.PWM_POL_POL m)).testBit (2 * p + if high then 0 else 1)

/-- The clk from which the delay of a turn-on counts: the end of the pulse before when a dead time is running, else now. -/
def State.deadFrom (s : State) (m p : Nat) : Nat :=
  let x := s.pwm m
  let n := s.pwmPos m
  let f := nth x.fall p
  let r := nth x.rise p
  if s.pairLevel m p != 0 then s.clk
  else if (s.pairKind m p).1 = .pulse ∧ f ≤ n ∧ n < f + s.deadTime m then s.clk - (n - f)
  else if (s.pairKind m p).1 = .pulse ∧ r ≤ n ∧ n < r + s.deadTime m then s.clk - (n - r)
  else s.clk

/-- Record the present levels, so that every later turn-on waits D (R187, R188, R192). -/
def State.relevel (s : State) (m : Nat) : State :=
  s.putPwm m { s.pwm m with lvl := pairList.map (s.pairLevel m), lvlAt := pairList.map (s.deadFrom m) }

/-- Is a pair's fault-state output on now, and does it stay on until the force turns outputs off `k` clk from now (R190)? -/
def State.staysOn (s : State) (m p k : Nat) : Bool :=
  let f := s.faultLevel m p
  s.pairLevel m p == f && (k == 0 || (List.range (k + 1)).all (fun i => s.wantLevel m p (s.pwmPos m + i) == f))

/-- A force begins to act on a module: outputs to be off are off from `offAt`, outputs to be on turn on at `onAt` (R190, R193). -/
def State.forceEnter (s : State) (m offAt onAt : Nat) : State :=
  let keep := pairList.map (fun p => s.staysOn m p (offAt - s.clk))
  let s := s.relevel m
  s.putPwm m { s.pwm m with linger := true, forceOff := offAt, forceOn := some onAt, keep := keep }

/-- The forces on a module: Keystone's, the software force, and the fault latches. -/
def State.forceSet (s : State) (m : Nat) : List Bool :=
  [s.flag R.PWM_FLT_STAT_KST, s.pwr.soft.testBit m] ++ (List.range 8).map (fun i => (s.f R.PWM_FLT_STAT_LATCH).testBit i && (s.f (R.PWM_FLT_MAP_MODS i)).testBit m)

/-- Let a force begin on the modules a change of state newly forces, and on those where it acts before the force that has begun there. -/
def State.forceChange (s : State) (offIn onIn : Nat) (g : State → State) : State :=
  let fresh := pwmList.filter (fun m => (g s).forceActs m &&
    (!s.isForced m || (decide (s.clk + offIn < (s.pwm m).forceOff) && (g s).forceSet m != s.forceSet m)))
  let t := s.each fresh (fun s m => s.forceEnter m (s.clk + offIn) (s.clk + onIn + s.deadTime m))
  g t

/-- FAULT_STATE_TURN_ON: outputs that the fault state turns on turn on D after the latch is seen (R190). -/
def execFaultStateTurnOn (m : Fin 12) (s : State) : Host.Outcome State Fault Refusal :=
  match (s.pwm m.val).forceOn with
  | some c => if s.isForced m.val ∧ c ≤ s.clk then .next (s.putPwm m.val { s.pwm m.val with forceOn := none }) else .next s
  | none => .next s

/-! ## Fault inputs -/

def State.fltIn (s : State) (i : Nat) : FaultInput := tabGet (fun _ => FaultInput.idle) s.pwr.flt i
def State.putFlt (s : State) (i : Nat) (x : FaultInput) : State :=
  { s with pwr := { s.pwr with flt := tabSet (fun _ => FaultInput.idle) s.pwr.flt i x } }

/-- Is a fault input at its active level (R190)? -/
def State.fltActive (s : State) (i : Nat) : Bool := (s.fltIn i).pin != s.flag (R.PWM_FLT_MAP_POL i)

/-- A latch sets (R190, R195). It is seen in SYSCLK 2 or 3 clk after the edge, which the spec leaves open (log entry 10). -/
def State.fltLatch (s : State) (i : Nat) : State :=
  if (s.f R.PWM_FLT_STAT_LATCH).testBit i then s
  else
    let seen := 2 + s.freeNow.toNat % 2
    let s := s.drewFree
    let s := s.forceChange 0 seen (fun s => s.setF R.PWM_FLT_STAT_LATCH (s.f R.PWM_FLT_STAT_LATCH ||| 2 ^ i))
    if (s.fltIn i).clearedAt = some s.clk then s
    else
      let s := s.when (!s.flag R.PWM_FLT_FIRST_VALID) (fun s => (s.setF R.PWM_FLT_FIRST_IDX i).set1 R.PWM_FLT_FIRST_VALID)
      (s.incSat R.PWM_FLT_CNT_COUNT 1).raise 0x38 i 0

/-- PWM_FAULT_INPUT: fault input `i` goes to a level and stays there for at least `ps` picoseconds (R190). A pulse shorter than 1.0 ns may or may not set the latch
(log entry 10). -/
def execPwmFaultInput (i : Fin 8) (level : Bool) (ps : Nat) (s : State) : Host.Outcome State Fault Refusal :=
  let was := s.fltActive i.val
  let s := s.putFlt i.val { s.fltIn i.val with pin := level }
  if s.fltActive i.val then
    if 1000 ≤ ps then .next (s.fltLatch i.val)
    else
      let takes := s.freeNow.toNat % 2 = 1
      let s := s.drewFree
      .next (if takes then s.fltLatch i.val else s)
  else if was then .next (s.putFlt i.val { s.fltIn i.val with since := s.clk })
  else .next s

/-- Clear one latch, or refuse it (R191). -/
def State.fltClear (s : State) (i : Nat) : State :=
  if !(s.f R.PWM_FLT_STAT_LATCH).testBit i then s
  else if !s.fltActive i && decide ((s.fltIn i).since + s.f R.PWM_FLT_REARM_REARM ≤ s.clk) then
    let s := s.setF R.PWM_FLT_STAT_LATCH (s.f R.PWM_FLT_STAT_LATCH &&& (0xFF - 2 ^ i))
    s.putFlt i { s.fltIn i with clearedAt := some s.clk }
  else s.setF R.PWM_FLT_STAT_TRIP_ACTIVE (s.f R.PWM_FLT_STAT_TRIP_ACTIVE ||| 2 ^ i)

/-- A write of `PWM_FLT_CLR` (R191). -/
def State.fltClrWrite (s : State) (v : Word) : State :=
  s.each (List.range 8) (fun s i => if v.toNat.testBit i then s.fltClear i else s)

/-- FAULT_LATCH_CLEAR (R191). -/
def execFaultLatchClear (val : Word) (s : State) : Host.Outcome State Fault Refusal :=
  .next (s.bar0Write R.PWM_FLT_CLR (fun s => s.fltClrWrite val))

/-- PWM_FORCE: an accepted pair forces the modules of its set bits through the synchronous path and releases the others (R193). -/
def execPwmForce (s : State) : Host.Outcome State Fault Refusal :=
  match s.takeAccepted R.PWM_FORCE with
  | none => .next s
  | some (v, s) =>
    .next (s.forceChange 4 4 (fun s => { s with pwr := { s.pwr with soft := v.toNat % 2 ^ 12 } }))

/-- The Keystone force line acts or is released (R194): an asynchronous force of all modules. -/
def State.kstForce (s : State) (on : Bool) : State :=
  if on && !s.flag R.PWM_FLT_STAT_KST then
    let seen := 2 + s.freeNow.toNat % 2
    let s := s.drewFree
    (s.forceChange 0 seen (fun s => s.set1 R.PWM_FLT_STAT_KST)).raise 0x38 8 0
  else s.setB R.PWM_FLT_STAT_KST on

/-! ## Shadows and reload -/

/-- A shadow: compare 0 to 3 in sixteenths of a clk, or the period (index 4). -/
def State.shadow (s : State) (m i : Nat) : Nat :=
  if i = 4 then s.f (R.PWM_PER_PER m) else (s.reg (R.PWM_CMP m i)).toNat % 2 ^ 22

/-- What a reload transfers for a shadow: the value before a write that came too late (R182). -/
def State.shadowDue (s : State) (m i : Nat) : Nat :=
  match (s.pwm m).late.find? (fun e => e.1 == i) with
  | some e => e.2
  | none => s.shadow m i

/-- The clk to a module's next period start: the end of its period, or a restart that comes before it or that the counter waits for (R181, R188). `k` bounds the chain of
source 1. -/
def State.toStart (s : State) : Nat → Nat → Nat
  | 0, m => (s.pwm m).per - (s.pwm m).posOn s.clk
  | k + 1, m =>
    let x := s.pwm m
    let own := x.per - x.posOn s.clk
    let p := s.loadPos m
    let d := s.f (R.PWM_CFG_SYNC_DIV m)
    let sync : Option Nat :=
      if s.syncSrc m = 1 then (if s.pwmOn (m - 1) then some (s.toStart k (m - 1) + 1) else none)
      else if s.syncSrc m = 2 ∧ d ≠ 0 then some (s.clkToT0 (d - s.bcn % d)) else none
    match sync with
    | none => own
    | some t =>
      let after := if p = 0 then t else t + (x.per - p)
      if s.pwmWaits m then after
      else if s.phaseOf m = 0 then min own t
      else if t < own then after else own

/-- The clk to the next reload instant (R181). -/
def State.toReload (s : State) (m : Nat) : Nat :=
  let x := s.pwm m
  let n := s.pwmPos m
  let start := s.toStart 12 m
  if s.flag (R.PWM_CFG_UPD m) && !x.midDone && decide (n ≤ x.per / 2) then min (x.per / 2 - n) start else start

/-- Write a shadow (R178, R181, R182). -/
def State.shadowPut (s : State) (m i v : Nat) : State :=
  let old := s.shadow m i
  let d := s.toReload m
  let s := s.when (s.pwmOn m && decide (d ≤ 2)) (fun s =>
    let x := s.pwm m
    let x : PwmModule := if x.late.any (fun e => e.1 == i) then x else { x with late := x.late ++ [(i, old)] }
    (s.putPwm m x).when (decide (1 ≤ d)) (fun s => s.set1 (R.PWM_STAT_LATE m)))
  if i = 4 then s.setF (R.PWM_PER_PER m) (max 64 v) else s.putReg (R.PWM_CMP m i) (wordOf (v % 2 ^ 22))

/-- Is the transfer of shadows held (R183)? -/
def State.shadowHeld (s : State) (m : Nat) : Bool := s.flag (R.PWM_CFG_HOLD m) || (s.pwm m).holdLate

/-- The period a transfer makes active (R185). -/
def State.perDue (s : State) (m : Nat) : Nat := max (s.shadowDue m 4) (2 * (s.deadTime m + s.minPulse m) + 2)

/-- The integer width of a compare value in a dither phase, within the period (R180). -/
def ditherWidth (c k per : Nat) : Nat := min per (c / 16 + ((k + 1) * (c % 16) / 16 - k * (c % 16) / 16))

/-- The dither phase of a module. -/
def State.ditherPhase (s : State) (m : Nat) : Nat := s.f (R.PWM_STAT_DPH m)

/-- Where the high-side command of width `w` begins and ends (R179). -/
def pulseEdges (centre : Bool) (w per : Nat) : Nat × Nat := if centre then ((per - w) / 2, (per - w) / 2 + w) else (0, w)

/-- Mark eroded pairs (R184). -/
def State.markErode (s : State) (m : Nat) : State :=
  s.when (pairList.any (fun p => (s.pairKind m p).2 && !(s.pwm m).refresh.getD p false)) (fun s => s.set1 (R.PWM_STAT_ERODE m))

/-- Transfer the shadows at a period start, if they are not held (R181, R183, R185). -/
def State.reloadStart (s : State) (m : Nat) : State :=
  let x := s.pwm m
  if s.shadowHeld m then s.putPwm m { x with holdLate := false, late := [] }
  else
    let per := s.perDue m
    let bad := decide (s.shadowDue m 4 < per)
    let s := s.when bad (fun s => s.set1 (R.PWM_STAT_CFG_BAD m))
    s.putPwm m { x with per := per, cmp := pairList.map (s.shadowDue m), late := [], holdLate := false }

/-- The bootstrap count of a pair at a period start, and whether the period becomes a refresh (R186). -/
def State.bootstrap (s : State) (m p : Nat) : Nat × Bool :=
  let x := s.pwm m
  let full := (s.pairKind m p).1 = .high ∧ x.refresh.getD p false = false ∧ s.isForced m = false ∧ s.laneHolds m p = false
  let cnt := if full then nth x.fullCnt p + 1 else 0
  let lim := s.f (R.PWM_BS_BS_CNT m)
  if lim ≠ 0 ∧ lim ≤ cnt ∧ s.forceActs m = false then (0, true) else (cnt, false)

/-- The condition that turns a lane off (R210): OFF written by the Pier, overcurrent, or a source in error. -/
def State.laneCond (s : State) (l : Nat) : Bool :=
  (s.lane l).taskOff || s.flag (R.CLN_STAT_OC l) || s.flag (R.CLN_STAT_SRC_ERR l)

/-- Follow a lane's off condition: entering it forces the pairs off through the synchronous path; when it ends x_d and x_q are zeroed, and the pairs resume at the next
period start of their module (R192, R210). -/
def State.laneFollow (s : State) (l : Nat) : State :=
  let x := s.lane l
  if s.laneCond l then
    (if x.off then s else s.putLane l { x with off := true, offAt := s.clk + 4 }).set1 (R.CLN_STAT_OFF l)
  else if x.off then
    (s.putLane l { x with off := false, held := ((s.lanePairs l).map (fun q => q / 4)).eraseDups, xD := 0, xQ := 0 }).clr (R.CLN_STAT_OFF l)
  else s

/-- At a period start the pairs of a module whose lane's condition has ended resume (R210). -/
def State.lanesResume (s : State) (m : Nat) : State :=
  s.each (laneList.filter (fun l => (s.lane l).held.contains m)) (fun s l => s.putLane l { s.lane l with held := (s.lane l).held.filter (fun q => q != m) })

/-- A period begins at position `n0` on clk `c` (R178 to R187, R192). -/
def State.pwmBegin (s : State) (m c n0 : Nat) : State :=
  let s := s.relevel m
  let bs := pairList.map (s.bootstrap m)
  let s := s.setF (R.PWM_STAT_DPH m) (s.ditherPhase m + 1)
  let s := s.reloadStart m
  let x := s.pwm m
  let centre := s.flag (R.PWM_CFG_MODE m)
  let edges := x.cmp.map (fun v => pulseEdges centre (ditherWidth v (s.ditherPhase m) x.per) x.per)
  let s := s.putPwm m { x with
    pos := n0, posAt := c, startAt := if n0 ≤ 1 then c - n0 else x.startAt, midDone := false, periods := x.periods + 1
    rise := edges.map (fun e => e.1), fall := edges.map (fun e => e.2)
    refresh := bs.map (fun e => e.2), fullCnt := bs.map (fun e => e.1)
    linger := x.linger && s.forceActs m }
  let s := s.when (bs.any (fun e => e.2)) (fun s => s.set1 (R.PWM_STAT_BS m))
  ((s.markErode m).lanesResume m).sdmAlign m c

/-! ## Synchronisation -/

/-- The sync event of a module: the clk it comes on and the position loaded. -/
def State.syncEvent (s : State) (m : Nat) : Option (Nat × Nat) :=
  match s.syncSrc m with
  | 1 => if s.pwmOn (m - 1) then some ((s.pwm (m - 1)).startAt + 1, s.loadPos m) else none
  | 2 => let d := s.f (R.PWM_CFG_SYNC_DIV m)
    if d ≠ 0 ∧ s.bcn % d = 0 then some (s.cyc.t0, s.loadPos m) else none
  | _ => none

/-- PWM_PERIOD_START: the counter returns to 0 (R178). -/
def execPwmPeriodStart (m : Fin 12) (s : State) : Host.Outcome State Fault Refusal :=
  let x := s.pwm m.val
  if s.pwmOn m.val ∧ x.per ≤ x.posOn s.clk ∧ s.pwmWaits m.val = false then
    .next (s.pwmBegin m.val (x.posAt + (x.per - x.pos)) 0)
  else .next s

/-- The transfer of the shadows at a mid-point (R181, R185): it affects only the edges after the mid-point. -/
def State.reloadMid (s : State) (m : Nat) : State :=
  let s := s.relevel m
  let x := s.pwm m
  let n := s.pwmPos m
  let due := s.perDue m
  let s := s.when (decide (s.shadowDue m 4 < due)) (fun s => s.set1 (R.PWM_STAT_CFG_BAD m))
  let cmp := pairList.map (s.shadowDue m)
  let w (p : Nat) : Nat := ditherWidth (nth cmp p) (s.ditherPhase m) x.per
  let fall := pairList.map (fun p =>
    if s.flag (R.PWM_CFG_MODE m) then (pulseEdges true (w p) x.per).2
    else if nth x.fall p ≤ n then nth x.fall p else max n (w p))
  (s.putPwm m { x with per := min x.per due, cmp := cmp, fall := fall, late := [] }).markErode m

/-- PWM_MIDPOINT: the position passes PER/2; with UPD = 1 the shadows are transferred, and a new PER that lies at or below the position ends the period on the reload clk (R181). -/
def execPwmMidpoint (m : Fin 12) (s : State) : Host.Outcome State Fault Refusal :=
  let x := s.pwm m.val
  if s.pwmOn m.val ∧ x.midDone = false ∧ x.per / 2 ≤ x.posOn s.clk then
    let mid := x.posAt + (x.per / 2 - x.pos)
    let s := s.putPwm m.val { x with midDone := true, midAt := mid }
    if s.flag (R.PWM_CFG_UPD m.val) then
      if s.shadowHeld m.val then .next (s.putPwm m.val { s.pwm m.val with holdLate := false, late := [] })
      else if s.perDue m.val ≤ x.per / 2 then .next (s.pwmBegin m.val mid 0)
      else .next (s.reloadMid m.val)
    else .next s
  else .next s

/-- How far from the end of its period, or of its last one before the restart, a counter is when the restart comes on clk `c` (R188). -/
def State.syncDiff (s : State) (m c : Nat) : Nat :=
  let x := s.pwm m
  let u := x.posOn c
  match s.holdAt m with
  | some last => (u - (last + 1)) + (last + 1 - u)
  | none => let off := (u + x.per - s.loadPos m) % max 1 x.per; if x.per < u then u - x.per else min off (x.per - off)

/-- Does a restart that moves a pair's counter from `n` to `p` remove part of a high-side pulse (R188)? A restart at the period start ends the period and what is left of its pulse;
with a phase, the positions jumped over are lost, and a pulse in progress when the counter goes back before it is shortened. -/
def State.pulseCut (s : State) (m q n p : Nat) : Bool :=
  let r := nth (s.pwm m).rise q
  let f := nth (s.pwm m).fall q
  (s.pairKind m q).1 == .pulse &&
    (if n < p then decide (n < f) && decide (r < p)
     else if s.phaseOf m = 0 then decide (p < n) && decide (n < f)
     else decide (p < r) && decide (r ≤ n) && decide (n < f))

/-- PWM_SYNC_RESTART: the module restarts at PHASE on its sync event (R188). The period start is a restart at n = 0 only (log entry 102). -/
def execPwmSyncRestart (m : Fin 12) (s : State) : Host.Outcome State Fault Refusal :=
  match s.syncEvent m.val with
  | none => .next s
  | some (c, p) =>
    let x := s.pwm m.val
    if s.pwmOn m.val ∧ x.syncSeen < c ∧ c ≤ s.clk then
      let n := min (x.posOn c) ((s.holdAt m.val).getD (x.posOn c))
      let starts := s.phaseOf m.val = 0 ∧ p < n
      let s := s.when (decide (1024 < s.syncDiff m.val c)) (fun s => s.set1 (R.PWM_STAT_SYNC_ERR m.val))
      let s := s.when (decide (n < x.per) && !s.isForced m.val && pairList.any (fun q => s.pulseCut m.val q n p)) (fun s => s.set1 (R.PWM_STAT_ERODE m.val))
      let s := if starts then s.pwmBegin m.val c p
        else let s := s.relevel m.val; s.putPwm m.val { s.pwm m.val with pos := p, posAt := c }
      .next (s.putPwm m.val { s.pwm m.val with syncSeen := c, periods := 0 })
    else .next s

/-! ## Enable and register writes -/

/-- The tests of an enable (R185). -/
def State.pwmTest (s : State) (m : Nat) : Bool :=
  let d := s.f (R.PWM_CFG_SYNC_DIV m)
  decide (2 * (s.deadTime m + s.minPulse m) + 2 ≤ s.f (R.PWM_PER_PER m)) &&
    (s.f (R.PWM_CFG_SYNC_SRC m) != 2 || (d != 0 && 64 % d == 0))

/-- An accepted enable: the counter starts at n = 0 on the next clk, with the shadows transferred and the dither phase 0; a fault state turns outputs on D later
(R187, R195). -/
def State.pwmStart (s : State) (m : Nat) : State :=
  let per := s.f (R.PWM_PER_PER m)
  let cmp := pairList.map (s.shadow m)
  let centre := s.flag (R.PWM_CFG_MODE m)
  let edges := cmp.map (fun v => pulseEdges centre (ditherWidth v 0 per) per)
  let s := s.setF (R.PWM_STAT_DPH m) 0
  let s := s.putPwm m { PwmModule.idle with
    posAt := s.clk + 1, startAt := s.clk + 1, syncSeen := s.clk, per := per, cmp := cmp
    rise := edges.map (fun e => e.1), fall := edges.map (fun e => e.2)
    lvlAt := [s.clk + 1, s.clk + 1, s.clk + 1, s.clk + 1]
    linger := s.forceActs m, forceOff := s.clk, forceOn := if s.forceActs m then some (s.clk + 1 + s.deadTime m) else none }
  s.markErode m

/-- A write of `PWM_Mm_CFG` (R183, R185, R187). -/
def State.pwmCfgWrite (s : State) (m : Nat) (v : Word) : State :=
  let was := s.pwmOn m
  let hold := s.flag (R.PWM_CFG_HOLD m)
  let s := s.plainWrite (R.PWM_CFG m) v
  if s.pwmOn m then
    if was then
      s.when (hold && !s.flag (R.PWM_CFG_HOLD m) && decide (s.toReload m ≤ 2)) (fun s => s.putPwm m { s.pwm m with holdLate := true })
    else if s.pwmTest m then s.pwmStart m
    else (s.clr (R.PWM_CFG_EN m)).set1 (R.PWM_STAT_CFG_BAD m)
  else s.putPwm m { s.pwm m with linger := false }

/-- PWM_MODULE_ENABLE: a write of `PWM_Mm_CFG`, meant with EN = 1 (R185, R187). -/
def execPwmModuleEnable (m : Fin 12) (val : Word) (s : State) : Host.Outcome State Fault Refusal :=
  .next (s.bar0Write (R.PWM_CFG m.val) (fun s => s.pwmCfgWrite m.val (val ||| 1)))

/-- PWM registers whose value follows from the modules and forces (R214). -/
def pwmRead (s : State) (a : Nat) : Option Word :=
  if a = R.PWM_FLT_STAT then
    some (setBits (s.reg a) 8 8 (sumOf ((List.range 8).map (fun i => if s.fltActive i then 2 ^ i else 0))))
  else if 0x100000 ≤ a ∧ a < 0x100300 then
    let m := (a - 0x100000) / 64
    if a = R.PWM_STAT m then
      let own := sumOf (pairList.map (fun p => if (s.pairLane m p).isSome then 2 ^ p else 0))
      some (setBits (setBits (s.reg a) 8 4 own) 6 1 (if s.forceActs m then 1 else 0))
    else if a = R.PWM_CNT m then some (wordOf (if s.pwmOn m then s.pwmPos m else 0))
    else none
  else none

/-- PWM registers with a rule of their own for a write (R178, R191, R205, R214). -/
def pwmRegWrite (s : State) (a : Nat) (v : Word) : Option State :=
  if a = R.PWM_FLT_CLR then some (s.fltClrWrite v)
  else if 0x100400 ≤ a ∧ a < 0x100420 ∧ a % 4 = 0 then
    let i := (a - 0x100400) / 4
    let was := s.fltActive i
    let onIn := 2 + s.freeNow.toNat % 2
    let s := s.drewFree.forceChange 0 onIn (fun s => s.plainWrite a v)
    some (if s.fltActive i && !was then s.fltLatch i
      else if was && !s.fltActive i then s.putFlt i { s.fltIn i with since := s.clk } else s)
  else if 0x100000 ≤ a ∧ a < 0x100300 then
    let m := (a - 0x100000) / 64
    if a = R.PWM_CFG m then some (s.pwmCfgWrite m v)
    else if a = R.PWM_PER m then some (s.shadowPut m 4 (v.toNat % 2 ^ 18))
    else if a = R.PWM_POL m then some (if s.pwmOn m then s.set1 (R.PWM_STAT_WR_IGN m) else s.plainWrite a v)
    else
      match pairList.find? (fun p => a == R.PWM_CMP m p) with
      | some p => some (if (s.pairLane m p).isSome then s.set1 (R.PWM_STAT_WR_IGN m) else s.shadowPut m p (v.toNat % 2 ^ 22))
      | none => none
  else none

end Sys2Proof.Machine
end

