-- ==== Sys2Proof/Machine/Cln.lean ====
section
/-! DEFINITION. Current lanes and the class-L front end (R146, R203 to R210). -/

namespace Sys2Proof.Machine

/-! ## fp32 helpers -/

/-- A finite value times 2^k, rounded to the nearest integer, ties to even. -/
def fNearest (x : F32) (k : Nat) : Int :=
  let n := fFix x * (2 : Int) ^ k
  let d : Int := (2 : Int) ^ 149
  let q := n / d
  let r := n % d
  if d < 2 * r ∨ (2 * r = d ∧ q % 2 = 1) then q + 1 else q

/-- An angle in 2^-32 turn as fp32 radians. -/
def radOf (t : Word) : F32 := fMul (fOfRat t.toNat (2 ^ 32)) fTwoPi

/-- A signed angle difference in 2^-32 turn as fp32 radians. -/
def radDiff (t : Word) : F32 := fMul (fOfRat t.toInt (2 ^ 32)) fTwoPi

/-- The position times `EL_SCALE` plus `EL_OFF`, modulo 2^32 (R207, R209). -/
def State.elAngle (s : State) (l : Nat) (counts : Int) (shift : Nat) : Word :=
  BitVec.ofInt 32 (counts * ((s.f (R.CLN_EL_SCALE_V l) : Nat) : Int) / (2 : Int) ^ shift) + s.reg (R.CLN_EL_OFF l)

/-- Phase voltages of a stationary vector (R208 step 9). -/
def phaseVolts (ua ub : F32) : List F32 :=
  let a := ua
  let q := fMul fSqrt3 ub
  let b := fMul fHalf (fSub q ua)
  let c := fMul fHalf (fSub (fNeg ua) q)
  let off := fMul (fNeg fHalf) (fAdd (fMax a (fMax b c)) (fMin a (fMin b c)))
  [fAdd a off, fAdd b off, fAdd c off]

/-- A two-axis PI current controller with decoupling and voltage limit (R130, R131, R208). -/
structure DqIn where
  id : F32
  iq : F32
  idRef : F32
  iqRef : F32
  we : F32
  uff : F32
  injD : F32
  injQ : F32
  kpd : F32
  kid : F32
  kpq : F32
  kiq : F32
  ld : F32
  lq : F32
  umod : F32
  udc : F32
  t : F32
  xD : F32
  xQ : F32
  satD : Int
  satQ : Int
  hold : Bool
  deriving DecidableEq, Repr

/-- What the controller gives: voltages, integrators, saturation signs, and whether a limit acted. -/
structure DqOut where
  ud : F32
  uq : F32
  xD : F32
  xQ : F32
  satD : Int
  satQ : Int
  clip : Bool
  deriving DecidableEq, Repr

/-- Does an integrator stand still: its own axis's limit acted before in the direction of its error? -/
def antiWind (sat : Int) (e : F32) : Bool := (decide (0 < sat) && fGt e 0) || (decide (sat < 0) && fLt e 0)

/-- The d and q controllers, the integrators and the voltage limit with d priority (R130, R131). -/
def dqControl (x : DqIn) : DqOut :=
  let ed := fSub x.idRef x.id
  let eq := fSub x.iqRef x.iq
  let ud0 := fAdd (fSub (fAdd (fMul x.kpd ed) x.xD) (fMul (fMul x.we x.lq) x.iq)) x.injD
  let uq0 := fAdd (fAdd (fAdd (fAdd (fMul x.kpq eq) x.xQ) (fMul (fMul x.we x.ld) x.id)) x.uff) x.injQ
  let xD := if x.hold || antiWind x.satD ed then x.xD else fAdd x.xD (fMul (fMul (fMul x.kpd x.kid) x.t) ed)
  let xQ := if x.hold || antiWind x.satQ eq then x.xQ else fAdd x.xQ (fMul (fMul (fMul x.kpq x.kiq) x.t) eq)
  let low := !(fFinite x.udc && fGe x.udc fOne)
  let udc := if low then fOne else x.udc
  let lim := fDiv (fMul x.umod udc) fSqrt3
  let ud := fClamp ud0 (fNeg lim) lim
  let limQ := fSqrt (fSub (fMul lim lim) (fMul ud ud))
  let uq := fClamp uq0 (fNeg limQ) limQ
  let sD := fClampSign ud0 lim
  let sQ := fClampSign uq0 limQ
  ⟨ud, uq, xD, xQ, sD, sQ, low || sD != 0 || sQ != 0⟩

/-! ## Inputs of a lane -/

/-- The module of a lane's first pair. -/
def State.laneModule (s : State) (l : Nat) : Nat := s.f (R.CLN_PAIRS_U_A1 l) / 4

/-- UDC of a lane, as its source gives it (R208). -/
def State.laneUdc (s : State) (l : Nat) : F32 :=
  let k := s.reg (R.CLN_UDC l)
  let ch := s.f (R.CLN_SRC_UDC_CH l)
  match s.f (R.CLN_SRC_UDC_SRC l) with
  | 0 => k
  | 1 => fMul (fOfInt ((s.f (R.ADC_DATA_CODE ch) : Nat) : Int)) k
  | _ => fMul (fOfInt (s.reg (R.SDM_DATA ch)).toInt) k

/-- Is an input of the lane in error (R210)? -/
def State.laneSrcBad (s : State) (l : Nat) : Bool :=
  let mode := s.f (R.CLN_CFG_MODE l)
  let a := s.f (R.CLN_SRC_SDM_A l)
  let encUsed := mode == 0 || s.flag (R.CLN_SRC_ENC_EN l)
  (mode == 0 && [a, a + 1, a + 2].any s.sdmBad) || (encUsed && s.encBad (s.f (R.CLN_SRC_ENC l))) ||
    (decide (mode ≤ 1) && s.f (R.CLN_SRC_UDC_SRC l) == 2 && s.sdmBad (s.f (R.CLN_SRC_UDC_CH l)))

/-- The reload instant that a lane evaluates now: the newest period start of its module, or with DUAL mid-point, not yet evaluated (R206). -/
def State.laneInstant (s : State) (l : Nat) : Option Nat :=
  let x := s.pwm (s.laneModule l)
  let r := if s.flag (R.CLN_CFG_DUAL l) then max x.startAt x.midAt else x.startAt
  if s.flag (R.CLN_CFG_EN l) && decide (s.f (R.CLN_CFG_MODE l) ≤ 1) && decide ((s.lane l).lastEval < r) && decide (r ≤ s.clk) then some r else none

/-- The lane period Tl in s (R206). -/
def State.lanePeriod (s : State) (l : Nat) : F32 :=
  fOfRat (s.pwm (s.laneModule l)).per (if s.flag (R.CLN_CFG_DUAL l) then 1600000000 else 800000000)

/-- A lane flag becomes set with its event (R210, R400). -/
def State.laneMark (s : State) (l : Nat) (x : Fld) : State :=
  if s.flag x then s
  else
    let s := s.set1 x
    s.raise 0x39 l (wordOf ((s.reg (R.CLN_STAT l)).toNat % 64))

/-- A compare value of a lane in sixteenths of a clk: PER × r within 0 to PER (R208 step 10); a non-finite one is free (log entry 10). -/
def State.laneCompare (s : State) (per : Nat) (r : F32) : Nat :=
  let w := fMul (fOfInt per) r
  if fFinite w then (max 0 (min ((16 * per : Nat) : Int) (fNearest w 4))).toNat else s.freeNow.toNat % (16 * per + 1)

/-- The servo law (R208). -/
def State.laneServo (s : State) (l r : Nat) : State :=
  let x := s.lane l
  let per := (s.pwm (s.laneModule l)).per
  let tl := s.lanePeriod l
  let a := s.f (R.CLN_SRC_SDM_A l)
  let cur (k : Nat) : F32 := fMul (fOfInt (s.reg (R.SDM_DATA (a + k))).toInt) (s.reg (R.CLN_ISCALE l))
  let ia := cur 0
  let ib := cur 1
  let ic := cur 2
  let three : F32 := 0x40400000
  let ial := fDiv (fSub (fSub (fMul fTwo ia) ib) ic) three
  let ibe := fDiv (fSub ib ic) fSqrt3
  let th := s.elAngle l (s.encPos (s.f (R.CLN_SRC_ENC l)) r).toInt 0
  let sn := Config.sinF32 (radOf th)
  let cs := Config.cosF32 (radOf th)
  let id := fAdd (fMul ial cs) (fMul ibe sn)
  let iq := fSub (fMul ibe cs) (fMul ial sn)
  let we := fDiv (radDiff (th - x.theta)) tl
  let udc := s.laneUdc l
  let o := dqControl ⟨id, iq, s.reg (R.CLN_ID_REF l), x.iqRef, we, x.uff, 0, 0, s.reg (R.CLN_KPD l), s.reg (R.CLN_KID l), s.reg (R.CLN_KPQ l),
    s.reg (R.CLN_KIQ l), s.reg (R.CLN_LD l), s.reg (R.CLN_LQ l), s.reg (R.CLN_UMOD l), udc, tl, x.xD, x.xQ, x.satD, x.satQ, false⟩
  let out := fAdd (radOf th) (fMul (fMul we (s.reg (R.CLN_ADV l))) tl)
  let sn2 := Config.sinF32 out
  let cs2 := Config.cosF32 out
  let ual := fSub (fMul o.ud cs2) (fMul o.uq sn2)
  let ube := fAdd (fMul o.ud sn2) (fMul o.uq cs2)
  let u := if fFinite udc && fGe udc fOne then udc else fOne
  let w := (phaseVolts ual ube).map (fun v => s.laneCompare per (fAdd fHalf (fDiv v u)))
  let trip := s.reg (R.CLN_I_TRIP l)
  let over_ := !fIsZero trip && [ia, ib, ic].any (fun i => fGt (fAbs i) trip)
  let s := s.putLane l { x with
    xD := o.xD, xQ := o.xQ, satD := o.satD, satQ := o.satQ, theta := th, lastEval := r, wr := some (r + 120, w) }
  let s := (((((s.drewFree.putReg (R.CLN_ID l) id).putReg (R.CLN_IQ l) iq).putReg (R.CLN_UD l) o.ud).putReg (R.CLN_UQ l) o.uq).putReg
    (R.CLN_THETA l) th).putReg (R.CLN_IQ_REF l) x.iqRef
  let s := s.when o.clip (fun s => s.set1 (R.CLN_STAT_UCLIP l))
  s.when over_ (fun s => s.laneMark l (R.CLN_STAT_OC l))

/-- The commanded position of a stepper lane on a clk: linear over the bc (R209 step 1). -/
def State.stepperPos (s : State) (l c : Nat) : Pos64 :=
  let x := s.lane l
  x.pFrom + BitVec.ofInt 64 ((x.pTo - x.pFrom).toInt * ((min (c - s.cyc.t0) s.nBc : Nat) : Int) / ((s.nBc : Nat) : Int))

/-- The stepper law (R209). -/
def State.laneStepper (s : State) (l r : Nat) : State :=
  let x := s.lane l
  let per := (s.pwm (s.laneModule l)).per
  let tl := s.lanePeriod l
  let enc := s.flag (R.CLN_SRC_ENC_EN l)
  let thc := s.elAngle l (s.stepperPos l r).toInt 16
  let th := s.elAngle l (s.encPos (s.f (R.CLN_SRC_ENC l)) r).toInt 0
  let still := if thc = x.thetaC then x.still + 1 else 0
  let idle := s.f (R.CLN_IDLE_T_V l)
  let base := s.reg (R.CLN_I_BASE l)
  let want := if idle ≠ 0 ∧ idle ≤ still then s.reg (R.CLN_I_IDLE l)
    else if enc then fAdd base (fMul (s.reg (R.CLN_K_LOAD l)) (fAbs (radDiff (thc - th)))) else base
  let ceil := s.reg (R.CLN_I_CEIL l)
  let held := fGt want ceil
  let iset := if held then ceil else want
  let rph := s.reg (R.CLN_R_PH l)
  let udc0 := s.laneUdc l
  let low := !(fFinite udc0 && fGe udc0 fOne)
  let udc := if low then fOne else udc0
  let u0 := fAdd (fMul iset rph) (fAbs x.uff)
  let lim := fMul (s.reg (R.CLN_UMOD l)) udc
  let over_ := fGt u0 lim
  let u := if over_ then lim else u0
  let wc := fDiv (radDiff (thc - x.thetaC)) tl
  let ph := Config.atan2F32 (fMul (fMul wc (s.reg (R.CLN_LD l))) iset) (fMul iset rph)
  let ang := fAdd (radOf thc) ph
  let ua := fMul u (Config.cosF32 ang)
  let ub := fMul u (Config.sinF32 ang)
  let half (v : F32) : F32 := fDiv v (fMul fTwo udc)
  let w := [fAdd fHalf (half ua), fSub fHalf (half ua), fAdd fHalf (half ub), fSub fHalf (half ub)].map (s.laneCompare per)
  let s := s.putLane l { x with theta := th, thetaC := thc, still := still, lastEval := r, wr := some (r + 120, w) }
  let s := ((s.drewFree.putReg (R.CLN_I_SET l) iset).putReg (R.CLN_THETA l) thc).putReg (R.CLN_IQ_REF l) x.iqRef
  let s := s.when (over_ || low) (fun s => s.set1 (R.CLN_STAT_UCLIP l))
  s.when held (fun s => (s.set1 (R.CLN_STAT_ICLIP l)).raise 0x10 3 (wordOf l))

/-- SRC_ERR follows the sources (R210). -/
def State.laneSources (s : State) (l : Nat) : State :=
  if s.laneSrcBad l then s.laneMark l (R.CLN_STAT_SRC_ERR l) else s.clr (R.CLN_STAT_SRC_ERR l)

/-- LANE_EVALUATION (R206 to R210). -/
def execLaneEvaluation (l : Fin 16) (s : State) : Host.Outcome State Fault Refusal :=
  match s.laneInstant l.val with
  | none => .next s
  | some r =>
    let s := s.laneSources l.val
    let s := if s.f (R.CLN_CFG_MODE l.val) = 0 then s.laneServo l.val r else s.laneStepper l.val r
    .next (s.laneFollow l.val)

/-- LANE_COMPARE_WRITE: at r + 120 clk the compare values go to the shadows of the lane's pairs (R206). -/
def execLaneCompareWrite (l : Fin 16) (s : State) : Host.Outcome State Fault Refusal :=
  match (s.lane l.val).wr with
  | none => .next s
  | some (c, ws) =>
    if c ≤ s.clk then
      let s := s.putLane l.val { s.lane l.val with wr := none }
      .next (s.each ((s.lanePairs l.val).zip ws) (fun s e => s.shadowPut (e.1 / 4) (e.1 % 4) e.2))
    else .next s

/-! ## Enable -/

/-- Are two modules in step (R205): the same, chained by source 1, or both on source 2 with equal SYNC_DIV and PHASE? -/
def State.pwmInStep (s : State) (m k : Nat) : Bool :=
  let lo := min m k
  let hi := max m k
  m == k || ((List.range 12).all (fun j => !(decide (lo < j) && decide (j ≤ hi)) || s.syncSrc j == 1)) ||
    (s.syncSrc m == 2 && s.syncSrc k == 2 && s.f (R.PWM_CFG_SYNC_DIV m) == s.f (R.PWM_CFG_SYNC_DIV k) &&
      s.f (R.PWM_PHASE_PHASE m) == s.f (R.PWM_PHASE_PHASE k))

/-- The tests of a lane enable (R204, R205, R208), with EN of the lane itself clear. -/
def State.laneTest (s : State) (l : Nat) : Bool :=
  let ps := s.lanePairs l
  let ms := ps.map (fun p => p / 4)
  let m := s.laneModule l
  let mode := s.f (R.CLN_CFG_MODE l)
  let src := s.f (R.CLN_SRC_UDC_SRC l)
  let ch := s.f (R.CLN_SRC_UDC_CH l)
  let dual := s.flag (R.CLN_CFG_DUAL l)
  let per := s.f (R.PWM_PER_PER m)
  mode != 3 && src != 3 && !(src == 1 && decide (7 ≤ ch)) && !(src == 2 && decide (48 ≤ ch)) &&
    ps.all (fun p => decide (p < 48) && s.pwmOn (p / 4) && (s.pairLane (p / 4) (p % 4)).isNone) &&
    ms.all (fun k => s.f (R.PWM_PER_PER k) == per) && ms.all (fun k => ms.all (s.pwmInStep k)) &&
    (mode == 2 || ((!dual || s.flag (R.PWM_CFG_UPD m)) && decide ((if dual then 16000 else 8000) ≤ per)))

/-- The enabled lanes watch their sources on every clk (R210). -/
def State.lanesWatch (s : State) : State :=
  s.each (laneList.filter (fun l => s.flag (R.CLN_CFG_EN l))) (fun s l => (s.laneSources l).laneFollow l)

/-- A write of `CLN_Ll_CFG` (R205). RUN shows the lane evaluating. -/
def State.laneCfgWrite (s : State) (l : Nat) (v : Word) : State :=
  let was := s.flag (R.CLN_CFG_EN l)
  let s := s.plainWrite (R.CLN_CFG l) v
  if s.flag (R.CLN_CFG_EN l) then
    if was then s
    else
      let t := s.clr (R.CLN_CFG_EN l)
      if t.laneTest l then
        let s := s.putLane l { Lane.idle with lastEval := s.clk, taskOff := (s.lane l).taskOff, pFrom := (s.lane l).pFrom, pTo := (s.lane l).pTo }
        ((s.setB (R.CLN_STAT_RUN l) (s.f (R.CLN_CFG_MODE l) != 2)).laneSources l).laneFollow l
      else t.set1 (R.CLN_STAT_ENA_BAD l)
  else
    let s := s.putLane l { s.lane l with off := false, held := [], wr := none }
    ((s.clr (R.CLN_STAT_RUN l)).clr (R.CLN_STAT_OFF l)).clr (R.CLN_STAT_SRC_ERR l)

/-- LANE_ENABLE: a write of `CLN_Ll_CFG`, meant with EN = 1 (R205). -/
def execLaneEnable (l : Fin 16) (val : Word) (s : State) : Host.Outcome State Fault Refusal :=
  .next (s.bar0Write (R.CLN_CFG l.val) (fun s => s.laneCfgWrite l.val (val ||| 1)))

/-- CLN registers with a rule of their own for a write: clearing OC may end a lane's off condition (R210). -/
def clnRegWrite (s : State) (a : Nat) (v : Word) : Option State :=
  if 0x110000 ≤ a ∧ a < 0x111000 then
    let l := (a - 0x110000) / 256
    if a = R.CLN_CFG l then some (s.laneCfgWrite l v)
    else if a = R.CLN_STAT l then some ((s.plainWrite a v).laneFollow l)
    else none
  else none

/-! ## The class-L task and its lane -/

/-- The class-L task writes its lane (R144, R149, R202). -/
def State.laneWrite (s : State) (l : Nat) (iq uff : F32) (off : Bool) (lreq : Nat) : State :=
  let s := s.putLane l { s.lane l with iqRef := iq, uff := uff, taskOff := off, written := true, missed := 0 }
  (s.laneFollow l).encLreq (s.f (R.CLN_SRC_ENC l)) lreq

/-- LANE_WRITE_DEADLINE: at the close of C2 a lane not written in the bc holds; after a second bc in a row without a write it applies a reference of 0
(R146). -/
def execLaneWriteDeadline (l : Fin 16) (s : State) : Host.Outcome State Fault Refusal :=
  let x := s.lane l.val
  let close := s.pExp + s.dsp.open_ + intervalLen s.cyc.rate
  if x.deadAt < s.cyc.t0 ∧ close ≤ s.sinceT0 then
    let iq := if x.written || decide (x.missed = 0) then x.iqRef else 0
    .next (s.putLane l.val { x with written := false, missed := if x.written then 0 else x.missed + 1, iqRef := iq, deadAt := s.cyc.t0 })
  else .next s

/-- The feedback record of a class-L axis (R203, R230), as bytes. -/
def State.lRecord (s : State) (a : Nat) : List Byte :=
  let l := s.f (R.AXT_W0_LANE a)
  let e := s.f (R.CLN_SRC_ENC l)
  let mode := s.f (R.CLN_CFG_MODE l)
  let stepper := mode == 1 && !s.flag (R.CLN_SRC_ENC_EN l)
  let x := s.enc e
  let pos : Word := if stepper then BitVec.ofInt 32 ((s.lane l).pFrom.toInt / 65536) else x.posT0
  let sdm := s.f (R.CLN_SRC_SDM_A l)
  let udc := decide (mode ≤ 1) && s.f (R.CLN_SRC_UDC_SRC l) == 2 && s.sdmBad (s.f (R.CLN_SRC_UDC_CH l))
  let err := (!stepper && x.errT0) || (mode == 0 && [sdm, sdm + 1, sdm + 2].any s.sdmBad) || udc
  let flags := (if err then 1 else 0) + (if s.flag (R.CLN_STAT_OC l) then 2 else 0)
  let din := s.f (R.ENC_STAT_AUX e) + (if s.flag (R.ENC_STAT_LVAL e) then 128 else 0)
  let cur : F32 := if !s.flag (R.CLN_CFG_EN l) then 0 else if mode = 0 then s.reg (R.CLN_IQ l) else if mode = 1 then s.reg (R.CLN_I_SET l) else 0
  -- DIN holds LIM_P, LIM_N and REF at bits 0 to 2, as AUX does
  bytesOf 4 pos.toNat ++ bytesOf 2 flags ++ bytesOf 1 din ++ [0] ++ bytesOf 4 (s.reg (R.ENC_LPOS e)).toNat ++ bytesOf 4 cur.toNat ++ bytesOf 24 0

/-- The Deck address of a feedback slot and of a command slot (R100). -/
def fbAddr (slot : Nat) : Nat := 0x50000 + 64 * slot
def cmdAddr (slot : Nat) : Nat := 0x58000 + 64 * slot

/-- A slot header (R101). -/
def slotHeader (valid : Bool) (per len : Nat) : Word := wordOf ((if valid then 2 ^ 31 else 0) + per % 256 * 2 ^ 16 + len)

/-- Write a feedback slot's payload and then its header (R101). -/
def State.fbWrite (s : State) (slot per : Nat) (bs : List Byte) : State :=
  (s.deckPutAll (fbAddr slot + 4) (wordsOfBytes bs)).deckPut (fbAddr slot) (slotHeader true per bs.length)

/-- A feedback position of an axis arrives; that of the axis `CHN_CFG.AXIS_SEL` is a chainage sample (R40, R45). -/
def State.chnFeed (s : State) (a : Nat) (count : Word) : State := if a = s.f R.CHN_CFG_AXIS_SEL then s.chnAxisSample count else s

/-- CLASS_L_FEEDBACK_WRITE: at t0 + 4 clk every class-L feedback slot is written and its task posted (R203). -/
def execClassLFeedbackWrite (s : State) : Host.Outcome State Fault Refusal :=
  if s.fbDone < s.cyc.t0 ∧ s.cyc.t0 + 4 ≤ s.clk then
    let ls := axisList.filter (fun a => s.axisOn a && s.axisClass a == 2)
    let s := s.each ls (fun s a =>
      let bs := s.lRecord a
      ((s.fbWrite (s.f (R.AXT_W1_FB_SLOT a)) (2 * s.bcn) bs).chnFeed a (wordOf (natOfBytes (bs.take 4)))).postAxis a)
    .next { s with fbDone := s.cyc.t0 }
  else .next s

/-- At t0 the encoder interfaces take their samples and the stepper lanes their next target: the p_lim that the axis exported in the bc before (R200, R209). -/
def State.powerSync (s : State) : State :=
  let s := s.each encList (fun s e => s.encSync e)
  s.each (axisList.filter (fun a => s.axisOn a && s.axisClass a == 2)) (fun s a =>
    let l := s.f (R.AXT_W0_LANE a)
    let p : Pos64 := BitVec.ofNat 64 (nat64 (s.deckWord (0x60000 + 64 * a)) (s.deckWord (0x60004 + 64 * a)))
    s.putLane l { s.lane l with pFrom := (s.lane l).pTo, pTo := p })

end Sys2Proof.Machine
end

