-- ==== Sys2Proof/Machine/Acq.lean ====
section
/-! DEFINITION. Measurement capture and triggering (R279 to R305): ticks, channel sources, sessions, rate reduction, trigger units, mask tests, register marks and capture memory. -/

namespace Sys2Proof.Machine

/-- Change acquisition's own state. -/
def State.putAcq (s : State) (a : Acq) : State := { s with acq := a }

/-! ## The grid -/

/-- The form of a TICK for bc of `n` clk (R279): none if invalid, 0 for a divisor, else the number of bc from tick to tick. -/
def tickForm (n tick : Nat) : Option Nat :=
  if 80 ≤ tick ∧ tick ≤ n ∧ n % tick = 0 then some 0
  else ((List.range 7).map (fun g => 2 ^ g)).find? (fun k => tick == n * k)

/-- A run without its ticks before clk `c`. -/
def TickRun.from_ (r : TickRun) (c : Nat) : TickRun :=
  let k := min r.left ((c - r.at_ + r.step - 1) / max 1 r.step)
  ⟨r.at_ + k * r.step, r.left - k, r.step⟩

/-- The runs that still have ticks at clk `c` or later. -/
def ticksFrom (c : Nat) (rs : List TickRun) : List TickRun := (rs.map (fun r => r.from_ c)).filter (fun r => r.left != 0 && decide (c ≤ r.at_))

/-- At t0 TICK and PHASE are read and put the ticks of the bc that starts on the grid; ticks of the bc before that PHASE puts behind this t0 still come (R279). -/
def State.acqSync (s : State) : State :=
  let n := s.nBc
  let tick := s.f R.ACQ_TICK_TICK
  let at_ := s.cyc.t0 + min (n - 1) (s.f R.ACQ_PHASE_PHASE)
  match tickForm n tick with
  | none => (s.set1 R.ACQ_STAT_TICK_BAD).putAcq { s.acq with runs := [] }
  | some k =>
    let add : List TickRun := if k = 0 then [⟨at_, n / tick, tick⟩] else if s.cyc.bcIdx.toNat % k = 0 then [⟨at_, 1, 1⟩] else []
    (s.clr R.ACQ_STAT_TICK_BAD).putAcq { s.acq with runs := ticksFrom s.clk s.acq.runs ++ add }

/-- The clk of the earliest tick on the grid. -/
def firstTick : List TickRun → Option Nat
  | [] => none
  | r :: rs => some (match firstTick rs with
    | none => r.at_
    | some c => min r.at_ c)

/-- The grid without its tick at clk `c`. -/
def tookTick (c : Nat) : List TickRun → List TickRun
  | [] => []
  | r :: rs => if r.at_ = c then (if r.left ≤ 1 then rs else ⟨r.at_ + r.step, r.left - 1, r.step⟩ :: rs) else r :: tookTick c rs

/-- Is a tick due? -/
def State.tickDue (s : State) : Bool :=
  s.flag R.ACQ_CFG_RUN && (match firstTick s.acq.runs with
    | none => false
    | some c => decide (c ≤ s.clk))

/-- A write of `ACQ_CFG.RUN` from 0 to 1 finds the ticks whose clk has passed gone. -/
def State.gridSkip (s : State) : State := s.putAcq { s.acq with runs := ticksFrom s.clk s.acq.runs }

/-! ## Channels -/

/-- The 64 channels. -/
def channels : List Nat := List.range 64

/-- KIND of a channel. -/
def State.chKind (s : State) (c : Nat) : Nat := s.f (R.ACQ_CH_SRC_KIND c)

/-- What a value of `ACQ_CHc_SRC` names (R283, R304). -/
structure ChSrc where
  kind : Nat
  idx : Nat
  word : Nat
  int : Bool                    -- TYPE
  deriving DecidableEq, Repr

/-- The fields of `ACQ_CHc_SRC`. -/
def chSrcOf (w : Word) : ChSrc := ⟨bitsOf w.toNat 28 4, bitsOf w.toNat 14 14, bitsOf w.toNat 10 4, w.toNat.testBit 9⟩

/-- The source of a channel as the register stands. -/
def State.chSrc (s : State) (c : Nat) : ChSrc := chSrcOf (s.reg (R.ACQ_CH_SRC c))

/-- Are IDX and WORD in range (R283)? -/
def ChSrc.ok (x : ChSrc) : Bool :=
  match x.kind with
  | 0 => true
  | 1 => decide (x.idx ≤ 159)
  | 2 => decide (x.idx ≤ 511) && decide (1 ≤ x.word)
  | 3 => decide (x.idx ≤ 9215)
  | 4 => decide (x.idx ≤ 47)
  | 5 => decide (x.idx ≤ 7)
  | 6 => decide (x.idx ≤ 15)
  | 7 => decide (x.idx ≤ 15) && decide (x.word ≤ 6)
  | 8 => decide (x.word ≤ 1)
  | 9 => decide (x.idx ≤ 15)
  | 10 => decide (x.idx ≤ 511) && decide (1 ≤ x.word)
  | _ => false

/-- Is it a Deck source (R280)? -/
def deckKind (k : Nat) : Bool := k == 1 || k == 2 || k == 3 || k == 10

/-- Is the channel word an int32 (R283)? -/
def ChSrc.isInt (x : ChSrc) : Bool :=
  if x.kind = 1 then decide (x.word ≤ 3) || x.word == 15
  else if deckKind x.kind then x.int
  else if x.kind = 7 then x.word == 5
  else true

/-- The word of a source now (R280, R283). -/
def State.srcWord (s : State) (x : ChSrc) : Word :=
  let i := x.idx
  let w := x.word
  match x.kind with
  | 0 => 0
  | 1 => s.deckWord (0x60000 + 64 * i + 4 * w)
  | 2 => s.deckWord (fbAddr i + 4 * w)
  | 3 => s.deckWord (0x70000 + 64 * i + 4 * w)
  | 4 => s.reg (R.SDM_DATA i)
  | 5 => wordOf (s.f (R.ADC_DATA_CODE i))
  | 6 => s.reg (R.ENC_POS i)
  | 7 => s.reg (R.CLN_ID i + 4 * w)
  | 8 => wordOf ((chn64 s.chnLive).toNat / 2 ^ (32 * w))
  | 9 => s.reg (R.ACQ_RM_ERR i)
  | _ => s.deckWord (cmdAddr i + 4 * w)

/-- The word of a channel on the tick's clk (R280, R283). A source that does not exist gives a free value, the same at one tick. -/
def State.chWord (s : State) (c : Nat) : Word := if (s.chSrc c).ok then s.srcWord (s.chSrc c) else Config.freeWord (s.free + c)

/-- The source of a channel as the newest sample took it. -/
def State.shotSrc (s : State) (c : Nat) : ChSrc := chSrcOf (s.acq.srcs.getD c 0)

/-- The word of a channel in the newest sample. -/
def State.shotWord (s : State) (c : Nat) : Word := s.acq.words.getD c 0

/-- The value of a channel that trigger units and mask tests compare (R283). -/
def State.chVal (s : State) (c : Nat) : F32 := if (s.shotSrc c).isInt then fOfInt (s.shotWord c).toInt else s.shotWord c

/-! ## Capture memory -/

/-- What capture memory reads as where nothing has been written (log entry 61). -/
def ddrDefault : Nat → Byte := fun _ => 0

/-- Write bytes to capture memory; a whole beat that is written is good again. -/
def State.ddrWrite (s : State) (a : Nat) (bs : List Byte) : State :=
  s.putAcq { s.acq with
    ddr := tabWrite ddrDefault s.acq.ddr a bs
    ueAt := s.acq.ueAt.filter (fun b => !(decide (a ≤ 32 * b) && decide (32 * b + 32 ≤ a + bs.length))) }

/-- Bytes in the capture FIFO. -/
def State.fifoFill (s : State) : Nat := sumOf (s.acq.fifo.map (fun x => x.2.length))

/-- Show the fill. -/
def State.showFill (s : State) : State := s.setF R.ACQ_FIFO_FILL s.fifoFill

/-- Is a request a capture write? -/
def DdrReq.isWrite : DdrReq → Bool
  | .write _ _ => true
  | .read _ => false

/-- The capture writes that wait, in the FIFO and in the request queue. -/
def State.ddrPending (s : State) : Nat := s.acq.fifo.length + s.acq.ddrQ.countP DdrReq.isWrite

/-- Blocks of the FIFO enter the request queue while it has room (R30). -/
def State.ddrAdmit (s : State) : State :=
  let n := 64 - s.acq.ddrQ.length
  (s.putAcq { s.acq with fifo := s.acq.fifo.drop n, ddrQ := s.acq.ddrQ ++ (s.acq.fifo.take n).map (fun x => DdrReq.write x.1 x.2) }).showFill

/-- The oldest capture write of the queue reaches memory, whatever read-out stands before it (R30). -/
def State.ddrServe (s : State) : State :=
  match s.acq.ddrQ.find? DdrReq.isWrite with
  | some (.write a bs) => ((s.putAcq { s.acq with ddrQ := s.acq.ddrQ.eraseP DdrReq.isWrite }).ddrWrite a bs).ddrAdmit
  | _ => s.ddrAdmit

/-- The controller serves `n` capture writes. -/
def State.ddrRun (s : State) (n : Nat) : State := s.each (List.range n) (fun s _ => s.ddrServe)

/-- Everything that waits reaches memory. -/
def State.fifoFlush (s : State) : State :=
  let bs := s.acq.ddrQ.filterMap (fun q => match q with
    | .write a b => some (a, b)
    | .read _ => none)
  let out := bs ++ s.acq.fifo
  let s := s.putAcq { s.acq with fifo := [], ddrQ := s.acq.ddrQ.filter (fun q => !q.isWrite) }
  (s.each out (fun s x => s.ddrWrite x.1 x.2)).showFill

/-- The capture writes that wait are lost (R289 code 5). -/
def State.fifoDrop (s : State) : State := (s.putAcq { s.acq with fifo := [], ddrQ := s.acq.ddrQ.filter (fun q => !q.isWrite) }).showFill

/-- Single-bit errors are corrected and counted (R302). -/
def State.ddrCorrect (s : State) (n : Nat) : State := s.when (n != 0) (fun s => (s.set1 R.DDR_STAT_CE).incSat R.DDR_CE_CNT_COUNT n)

/-- One clk of the scrubber: no rule says where single-bit errors lie or how long a pass takes, so both are free (log entry 94). -/
def State.ddrScrub (s : State) : State :=
  if s.flag R.DDR_CFG_SCRUB_EN && s.flag R.DDR_STAT_TRAINED then
    let v := s.freeNow.toNat
    ((s.ddrCorrect (v % 2)).incWrap R.DDR_SCRUB_PASS (v / 2 % 2)).drewFree
  else s

/-- Block size for `n` channels (R281). -/
def blockSize (n : Nat) : Nat := 32 * ((16 + 4 * n + 31) / 32)

/-- Block slots of a segment (R300). -/
def State.segSlots (s : State) : Nat := (s.acq.segb - 64) / max 1 (blockSize s.acq.chans.length)

/-- Start address of a segment. -/
def State.segAddr (s : State) (k : Nat) : Nat := s.acq.base + k * s.acq.segb

/-- Write the header of the present segment with a STATE (R300). -/
def State.segHeader (s : State) (state : Nat) : State :=
  let a := s.acq
  let g := a.seg
  let hid := s.f R.ZLP_CFG_HID
  let (slot, srcs, sh, t, c, n) := g.trig.getD (0xFFFFFFFF, 0, 0, NetTime.zero, 0, 0)
  let ws : List Word :=
    [wordOf (state + s.f R.ACQ_STAT_STOPC * 2 ^ 8 + sh * 2 ^ 16 + hid * 2 ^ 24),
     wordOf (blockSize a.chans.length + a.chans.length * 2 ^ 16), wordOf s.segSlots, wordOf slot, wordOf g.stored, wordOf srcs,
     t.ns, wordOf t.sec.toNat, wordOf (t.sec.toNat / 2 ^ 32), wordOf c.toNat, wordOf (c.toNat / 2 ^ 32), wordOf g.dead, wordOf (min (2 ^ 32 - 1) g.maskCnt), wordOf n, 0, 0]
  s.ddrWrite (s.segAddr (s.f R.ACQ_STAT_SEG)) (bytesOfWords ws)

/-! ## Sessions -/

/-- Does a session run (FILL, ARMED or POST)? -/
def State.acqRuns (s : State) : Bool := let t := s.f R.ACQ_STAT_STATE; t == 1 || t == 2 || t == 3

/-- End the session early (R289). -/
def State.acqStop (s : State) (code : Nat) : State :=
  let s := (s.setF R.ACQ_STAT_STOPC code).setF R.ACQ_STAT_STATE 5
  let s := s.putAcq { s.acq with nextSeg := false }
  let s := if code = 5 then (s.putAcq { s.acq with draining := false }).fifoDrop
    else ((s.segHeader 3).putAcq { (s.segHeader 3).acq with draining := false }).fifoFlush
  s.raise 0x51 code 0

/-- May a session be armed (R285)? -/
def State.armOk (s : State) : Bool :=
  let on := channels.filter (fun c => s.chKind c != 0)
  let nd := on.countP (fun c => deckKind (s.chKind c))
  let tick := s.f R.ACQ_TICK_TICK
  let b := blockSize on.length
  let mb := 1024 * 2 ^ s.f R.DDR_CFG_SIZE
  let segb := s.f R.ACQ_SIZE_SIZE * 2 ^ 20 / (s.f R.ACQ_CFG_NSEG + 1) / 32 * 32
  s.flag R.ACQ_CFG_RUN && !s.flag R.ACQ_STAT_TICK_BAD && !on.isEmpty && channels.all (fun c => (s.chSrc c).ok) &&
    (tickForm s.nBc tick != some 0 || decide (4 + 2 * nd ≤ tick)) && s.flag R.DDR_STAT_TRAINED &&
    decide (s.f R.ACQ_BASE_BASE + s.f R.ACQ_SIZE_SIZE ≤ mb) &&
    decide (64 + (s.f R.ACQ_PRE_PRE + 1 + s.f R.ACQ_POST_POST) * b ≤ segb)

/-- Start a segment in FILL (R285, R288). -/
def State.segStart (s : State) (k : Nat) : State :=
  let s := (s.setF R.ACQ_STAT_SEG k).setF R.ACQ_STAT_STATE 1
  (s.putAcq { s.acq with seg := { CapSegment.fresh with since := s.acq.lastT }, nextSeg := false }).segHeader 1

/-- At the tick after a segment is complete the next one starts (R288). -/
def State.segNext (s : State) : State := s.when (s.acqRuns && s.acq.nextSeg) (fun s => s.segStart (s.f R.ACQ_STAT_SEG + 1))

/-- An accepted arm (R285). -/
def State.acqArm (s : State) : State :=
  let t := s.f R.ACQ_STAT_STATE
  if t = 1 ∨ t = 2 ∨ t = 3 then s
  else if !s.armOk then s.set1 R.ACQ_STAT_ARM_BAD
  else
    let on := channels.filter (fun c => s.chKind c != 0)
    let nseg := s.f R.ACQ_CFG_NSEG + 1
    let a : Acq := { s.acq with
      chans := on, pre := s.f R.ACQ_PRE_PRE, post := s.f R.ACQ_POST_POST, nseg := nseg, base := s.f R.ACQ_BASE_BASE * 2 ^ 20
      segb := s.f R.ACQ_SIZE_SIZE * 2 ^ 20 / nseg / 32 * 32, count := 0, shiftAt := 0, lastS := none, draining := false, pend := none, fifo := []
      shot := s.acq.shot.map (fun x => { x with live := false }), ddrQ := s.acq.ddrQ.filter (fun q => !q.isWrite) }
    let s := ((s.putAcq a).setF R.ACQ_STAT_SH 0).setF R.ACQ_STAT_STOPC 0
    let s := ((s.setF R.ACQ_BSIZE_N on.length).setF R.ACQ_BSIZE_B (blockSize on.length)).putReg R.ACQ_BLK 0
    (s.clr R.ACQ_CTL_SWTRIG).showFill.segStart 0

/-- Note a trigger between ticks (R287). -/
def State.trigNote (s : State) (units : Nat) (soft : Bool) : State :=
  let p := s.acq.pend.getD ⟨0, false, s.nt, chn64 s.chnLive⟩
  s.putAcq { s.acq with pend := some { p with units := p.units ||| units, soft := p.soft || soft } }

/-- A write of `ACQ_CTL` (R285, R287, R289). -/
def State.acqCtl (s : State) (v : Word) : State :=
  let s := s.when (v.toNat.testBit 0) (fun s => s.acqArm)
  let s := s.when (v.toNat.testBit 1 && s.acqRuns) (fun s => s.acqStop 2)
  s.when (v.toNat.testBit 2 && s.acqRuns) (fun s => (s.set1 R.ACQ_CTL_SWTRIG).trigNote 0 true)

/-- ARM (R285). -/
def execArm (val : Word) (s : State) : Host.Outcome State Fault Refusal := .next (s.bar0Write R.ACQ_CTL (fun s => s.acqCtl val))
/-- STOP (R289). -/
def execStop (val : Word) (s : State) : Host.Outcome State Fault Refusal := .next (s.bar0Write R.ACQ_CTL (fun s => s.acqCtl val))
/-- SWTRIG (R287). -/
def execSwtrig (val : Word) (s : State) : Host.Outcome State Fault Refusal := .next (s.bar0Write R.ACQ_CTL (fun s => s.acqCtl val))

/-! ## Trigger units -/

/-- A trigger unit's own state. -/
def State.unit (s : State) (u : Nat) : TrigUnit := tabGet (fun _ => TrigUnit.idle) s.acq.units u

/-- Replace it. -/
def State.putUnit (s : State) (u : Nat) (x : TrigUnit) : State := s.putAcq { s.acq with units := tabSet (fun _ => TrigUnit.idle) s.acq.units u x }

/-- A write of `TRG_Uu_CFG` (R292): an enable with LO above HI or a TYPE of 5 to 7 is refused. -/
def State.trgWrite (s : State) (u : Nat) (v : Word) : State :=
  let on := v.toNat.testBit 0
  let bad := on && (decide (5 ≤ bitsOf v.toNat 1 3) || fLt (s.reg (R.TRG_HI u)) (s.reg (R.TRG_LO u)))
  if bad then
    let s := s.plainWrite (R.TRG_CFG u) (v &&& 0xFFFFFFFE)
    s.setF R.TRG_STAT_CFG_BAD (s.f R.TRG_STAT_CFG_BAD ||| 2 ^ u)
  else
    let was := s.flag (R.TRG_CFG_EN u)
    let s := s.plainWrite (R.TRG_CFG u) v
    if on && !was then s.putUnit u { TrigUnit.idle with from_ := ntFix s.nt } else s

/-- TRIGGER_UNIT_ENABLE (R292). -/
def execTriggerUnitEnable (u : Fin 16) (val : Word) (s : State) : Host.Outcome State Fault Refusal :=
  .next (s.bar0Write (R.TRG_CFG u.val) (fun s => s.trgWrite u.val val))

/-- A unit fires at tick `tick` (R295): counted, its tick shown, FIRED set, the event raised. -/
def State.trgFired (s : State) (u tick : Nat) : State :=
  let n := wordOf tick
  let s := ((s.incSat (R.TRG_CNT_COUNT u) 1).putReg (R.TRG_LAST u) n).setF R.TRG_STAT_FIRED (s.f R.TRG_STAT_FIRED ||| 2 ^ u)
  s.raise 0x53 u n

/-- A firing by EST action 8 (R295), while EN = 1. -/
def State.trgFromEst (s : State) (u : Nat) : State :=
  if s.flag (R.TRG_CFG_EN u) then
    let s := s.trgFired u s.acq.count
    s.when (s.acqRuns && (s.f R.ACQ_TRIG_SEL_UNITS).testBit u) (fun s => s.trigNote (2 ^ u) false)
  else s

/-- Clk between two network times in 2^-32 ns, rounded down. -/
def clkBetween (a b : Nat) : Nat := (b - a) * 4 / (5 * 2 ^ 32)

/-- Does a width lie where the unit fires (R293)? -/
def State.widthFires (s : State) (u w : Nat) : Bool :=
  (decide ((s.reg (R.TRG_W1 u)).toNat ≤ w) && decide (w ≤ (s.reg (R.TRG_W2 u)).toNat)) != s.flag (R.TRG_CFG_INV u)

/-- A width since a time, if there is one. -/
def State.spanFires (s : State) (u : Nat) (since : Option Nat) (now : Nat) : Bool :=
  match since with
  | none => false
  | some t => s.widthFires u (clkBetween t now)

/-- One tick of a unit: its new state, and whether it fires (R292 to R294). -/
def State.unitTick (s : State) (u now : Nat) : TrigUnit × Bool :=
  let x := s.unit u
  let v := s.chVal (s.f (R.TRG_CFG_CH u))
  let hi := fGe v (s.reg (R.TRG_HI u))
  let lo := fLe v (s.reg (R.TRG_LO u))
  let rising := x.level == some false && hi
  let falling := x.level == some true && lo
  let level := if rising then some true else if falling then some false
    else match x.level with
      | none => if lo then some false else if hi then some true else none
      | some l => some l
  let pol := s.f (R.TRG_CFG_POL u)
  let pos := pol % 2 == 1
  let neg := 2 ≤ pol
  let edge := (pos && rising) || (neg && falling)
  let between := !hi && !lo && !fIsNaN v
  let late := decide ((s.reg (R.TRG_TIME u)).toNat * 5 * 2 ^ 32 < (now - x.from_) * 4)
  let fires := match s.f (R.TRG_CFG_TYPE u) with
    | 0 => edge
    | 1 => (pos && falling && s.spanFires u x.rise now) || (neg && rising && s.spanFires u x.fall now)
    | 2 => (pos && lo && x.level == some false && x.mid) || (neg && hi && x.level == some true && x.mid)
    | 3 => pol != 0 && late
    | _ => (pos && rising && s.spanFires u x.atLo now) || (neg && falling && s.spanFires u x.atHi now)
  ({ level := level, mid := if hi || lo then false else x.mid || (between && x.level.isSome)
     rise := if rising then some now else x.rise, fall := if falling then some now else x.fall
     atLo := if lo then some now else x.atLo, atHi := if hi then some now else x.atHi
     from_ := if edge || late then now else x.from_ }, fires)

/-- All enabled units at a tick; the result's second part is the set that fired. -/
def State.unitsTick (s : State) (x : AcqShot) : State × Nat :=
  let now := ntFix x.nt
  (List.range 16).foldl (fun p u =>
    if p.1.flag (R.TRG_CFG_EN u) then
      let r := s.unitTick u now
      let t := p.1.putUnit u r.1
      if r.2 then (t.trgFired u x.tick, p.2 ||| 2 ^ u) else (t, p.2)
    else p) (s, 0)

/-! ## Mask tests -/

/-- Does a mask test fail at a tick (R296)? -/
def State.maskFails (s : State) (x : AcqShot) (m : Nat) : Bool :=
  let v := s.chVal (s.f (R.ACQ_MK_CFG_CH m))
  let i := x.chn.toNat / 2 ^ 24 % 256
  let tbl := s.flag (R.ACQ_MK_CFG_MODE m)
  let lo := if tbl then s.reg (R.ACQ_MASK_LO m i) else s.reg (R.ACQ_MK_LO m)
  let hi := if tbl then s.reg (R.ACQ_MASK_HI m i) else s.reg (R.ACQ_MK_HI m)
  s.flag (R.ACQ_MK_CFG_EN m) && !(fLe lo v && fLe v hi)

/-- A failure is counted; the first since the count was read raises the event (R296). -/
def State.maskFail (s : State) (m : Nat) : State :=
  let first := s.reg (R.ACQ_MK_CNT m) == 0
  let s := s.incSat (R.ACQ_MK_CNT_COUNT m) 1
  s.when first (fun s => s.raise 0x54 m 0)

/-! ## A tick of a session -/

/-- Compare the FIFO fill with the thresholds and change s (R290). -/
def State.rateStep (s : State) (tick : Nat) : State :=
  let fill := s.fifoFill
  let sh := s.f R.ACQ_STAT_SH
  let rested := decide (s.acq.shiftAt + 1024 ≤ tick)
  let high := decide (s.f R.ACQ_FIFO_TH_HI * 1024 ≤ fill)
  let top := decide (s.f R.ACQ_RATE_MAXSH ≤ sh)
  if high ∧ !top then
    if rested then
      let s := ((s.setF R.ACQ_STAT_SH (sh + 1)).set1 R.ACQ_STAT_RDUCE).putAcq { s.acq with shiftAt := tick }
      s.raise 0x52 (sh + 1) 0
    else s
  else if high then (s.set1 R.ACQ_STAT_CLIP).raise 0x10 5 0
  else if fill ≤ s.f R.ACQ_FIFO_TH_LO * 1024 ∧ 0 < sh ∧ rested then
    (s.setF R.ACQ_STAT_SH (sh - 1)).putAcq { s.acq with shiftAt := tick }
  else s

/-- The bytes of the block of a sample (R281). -/
def State.blockBytes (s : State) (x : AcqShot) (trig mask : Bool) : List Byte :=
  let sh := s.f R.ACQ_STAT_SH
  let rchg := match s.acq.lastS with
    | none => false
    | some k => k != sh
  let w3 := wordOf (x.tick % 65536 + sh * 2 ^ 16 + (if trig then 2 ^ 19 else 0) + (if mask then 2 ^ 20 else 0) + (if rchg then 2 ^ 21 else 0) +
    s.f R.ZLP_CFG_HID * 2 ^ 24)
  let bs := bytesOfWords ([x.nt.ns, wordOf x.nt.sec.toNat, x.bc, w3] ++ s.acq.chans.map (fun c => s.shotWord c))
  bs ++ List.replicate (blockSize s.acq.chans.length - bs.length) 0

/-- Store a block (R287, R291, R300): into the FIFO for its slot. A block that finds the FIFO full is lost and stops the session. -/
def State.blockStore (s : State) (x : AcqShot) (bs : List Byte) : State × Bool :=
  if 262144 < s.fifoFill + bs.length then (s.acqStop 4, false)
  else
    let a := s.acq
    let slot := a.seg.stored % max 1 s.segSlots
    let addr := s.segAddr (s.f R.ACQ_STAT_SEG) + 64 + slot * bs.length
    let s := s.incWrap R.ACQ_BLK_COUNT 1
    ((s.putAcq { a with
      fifo := a.fifo ++ [(addr, bs)], lastS := some (s.f R.ACQ_STAT_SH), lastT := ntFix x.nt
      seg := { a.seg with stored := a.seg.stored + 1, post := if a.seg.trig.isSome then a.seg.post + 1 else a.seg.post } }).showFill, true)

/-- FILL becomes ARMED at the tick after the PRE blocks; the dead time of a later segment is measured (R287, R288). -/
def State.fillDone (s : State) : State :=
  if s.f R.ACQ_STAT_STATE = 1 ∧ s.acq.pre ≤ s.acq.seg.stored then
    let s := s.setF R.ACQ_STAT_STATE 2
    if s.f R.ACQ_STAT_SEG = 0 then s
    else
      let d := clkBetween s.acq.seg.since (ntFix s.nt)
      ((s.putReg R.ACQ_DEAD (wordOf d)).putAcq { s.acq with seg := { s.acq.seg with dead := d } }).segHeader 1
  else s

/-- POST blocks stored: the segment is complete (R287, R288). -/
def State.segDone (s : State) : State :=
  if s.f R.ACQ_STAT_STATE = 3 ∧ s.acq.seg.trig.isSome ∧ s.acq.post + 1 ≤ s.acq.seg.post then
    let k := s.f R.ACQ_STAT_SEG
    if k + 1 < s.acq.nseg then (s.segHeader 2).putAcq { (s.segHeader 2).acq with nextSeg := true }
    else
      let s := (s.setF R.ACQ_STAT_STOPC 1).segHeader 2
      s.putAcq { s.acq with draining := true }
  else s

/-- The session's part of a sample. `fired` are the units that fired at its tick, `m1` and `m2` whether a mask test of ACT 1 or ACT 2 failed, `fails` how many tests
failed. A session whose last segment drains, or whose segment is complete, is in POST and stores nothing more. -/
def State.sessionTick (s : State) (x : AcqShot) (fired fails : Nat) (m1 m2 : Bool) : State :=
  let sel := s.f R.ACQ_TRIG_SEL_UNITS
  let est := match x.pend with | some p => p.units | none => 0
  let soft := match x.pend with | some p => p.soft | none => false
  let atTick := (fired &&& sel) != 0 || m1
  let asked := atTick || est != 0 || soft
  let armed := s.f R.ACQ_STAT_STATE == 2
  let s := s.when (asked && !armed) (fun s => s.incSat R.ACQ_TIGN_CNT_COUNT 1)
  if s.acq.draining then s
  else
    let s := (s.putAcq { s.acq with seg := { s.acq.seg with maskCnt := s.acq.seg.maskCnt + fails } }).rateStep x.tick
    let trig := asked && armed
    if !(x.tick % 2 ^ s.f R.ACQ_STAT_SH == 0 || trig || m2) then s
    else
      let bs := s.blockBytes x trig (0 < fails)
      let at_ := match x.pend with
        | some p => if atTick then (x.nt, x.chn) else (p.time, p.chn)
        | none => (x.nt, x.chn)
      let srcs := (fired ||| est) + (if soft then 2 ^ 16 else 0) + (if m1 then 2 ^ 17 else 0) + if est != 0 then 2 ^ 18 else 0
      let slot := s.acq.seg.stored % max 1 s.segSlots
      let s := if trig then
          let g : CapSegment := { s.acq.seg with trig := some (slot, srcs, s.f R.ACQ_STAT_SH, at_.1, at_.2, x.tick) }
          ((s.putAcq { s.acq with seg := g }).setF R.ACQ_STAT_STATE 3).segHeader 1
        else s
      match s.blockStore x bs with
      | (s, false) => s
      | (s, true) => if m2 then s.acqStop 3 else s.segDone

/-- A sample is complete: the trigger units, the mask tests and the session judge it (R287, R292, R296). -/
def State.shotDone (s : State) (x : AcqShot) : State :=
  let s := s.putAcq { s.acq with shot := none }
  let fails := (List.range 8).filter (fun m => s.maskFails x m)
  let act (k : Nat) : Bool := fails.any (fun m => s.f (R.ACQ_MK_CFG_ACT m) == k)
  let m1 := act 1
  let m2 := act 2
  let (s, fired) := s.unitsTick x
  let s := s.each fails (fun s m => s.maskFail m)
  s.when (x.live && s.acqRuns) (fun s => s.sessionTick x fired fails.length m1 m2)

/-- Read the Deck word of a channel of the sample. -/
def State.shotRead (s : State) (c : Nat) : State := s.putAcq { s.acq with words := s.acq.words.set c (s.srcWord (s.shotSrc c)) }

/-- One clk of port B for a sample: the next Deck word is read, or waits its one clk for the ring, which is free (R16, R280). -/
def State.shotStep (s : State) : State :=
  match s.acq.shot with
  | none => s
  | some x =>
    match x.reads with
    | [] => s.shotDone x
    | c :: more =>
      if !x.waited && s.freeNow.getLsbD 0 then (s.putAcq { s.acq with shot := some { x with waited := true } }).drewFree
      else
        let s := (s.shotRead c).when (!x.waited) (fun s => s.drewFree)
        let x := { x with reads := more, waited := false }
        if more.isEmpty then s.shotDone x else s.putAcq { s.acq with shot := some x }

/-- A tick that finds a sample unfinished reads its remaining words on its own clk (log entry 34). -/
def State.shotEnd (s : State) : State :=
  match s.acq.shot with
  | none => s
  | some x => (s.each x.reads (fun s c => s.shotRead c)).shotDone x

/-- The tick latches every register source, and notes the Deck words to be read (R280). -/
def State.shotTake (s : State) : State :=
  let live := s.acqRuns
  let ok (c : Nat) : Bool := deckKind (s.chSrc c).kind && (s.chSrc c).ok
  let x : AcqShot := ⟨s.nt, s.cyc.bcIdx, chn64 s.chnLive, s.acq.count, s.acq.pend, live, channels.filter ok, false⟩
  let s := s.when live (fun s => s.clr R.ACQ_CTL_SWTRIG)
  { s.putAcq { s.acq with
      words := channels.map (fun c => s.chWord c), srcs := channels.map (fun c => s.reg (R.ACQ_CH_SRC c))
      pend := none, count := s.acq.count + 1, shot := some x } with free := s.free + 64 }

/-- A sample without Deck words is complete on its tick. -/
def State.shotNow (s : State) : State :=
  match s.acq.shot with
  | none => s
  | some x => if x.reads.isEmpty then s.shotDone x else s

/-- ACQ_TICK (R279 to R296). Since the tick before, the DDR4 controller has served a free number of capture writes (R290 gives no drain rate). Deck words follow from
the next clk on, in `State.tick`. -/
def execAcqTick (s : State) : Host.Outcome State Fault Refusal :=
  if !s.tickDue then .next s
  else
    let s := s.shotEnd
    let s := s.putAcq { s.acq with runs := match firstTick s.acq.runs with | some c => tookTick c s.acq.runs | none => [] }
    let s := (s.ddrAdmit.ddrRun (s.freeNow.toNat % (s.ddrPending + 1))).drewFree
    let s := s.segNext
    let s := s.when (!s.acq.draining) (fun s => s.fillDone)
    .next s.shotTake.shotNow

/-- CAPTURE_DRAIN_END: the FIFO of the last segment is drained (R288). -/
def execCaptureDrainEnd (s : State) : Host.Outcome State Fault Refusal :=
  if s.acq.draining then
    let s := (s.putAcq { s.acq with draining := false }).fifoFlush
    .next ((s.setF R.ACQ_STAT_STATE 4).raise 0x50 0 0)
  else .next s

/-! ## Register marks -/

/-- A register-mark unit's own state. -/
def State.mark (s : State) (k : Nat) : MarkUnit := tabGet (fun _ => MarkUnit.idle) s.acq.marks k

/-- Replace it. -/
def State.putMark (s : State) (k : Nat) (x : MarkUnit) : State := s.putAcq { s.acq with marks := tabSet (fun _ => MarkUnit.idle) s.acq.marks k x }

/-- An edge at an input as its register-mark unit sees it (R298). -/
def State.markEdge (s : State) (k : Nat) (rising : Bool) (m : Nat) : State :=
  let e := s.f (R.ACQ_RM_CFG_EDGE k)
  if s.flag (R.ACQ_RM_CFG_EN k) && (if rising then e % 2 == 1 else decide (2 ≤ e)) then
    let x := s.mark k
    let fr := wordOf (s.chnAtTenth m).toNat
    if s.flag (R.CHN_CAP_CFG_GATE k) || x.closeAt == some s.clk then
      s.putMark k { x with edges := x.edges + 1, first := if x.edges = 0 then fr else x.first }
    else s.putMark k { x with pre := some (s.clk, fr) }
  else s

/-- The unit evaluates the gate that has closed (R298, R299): ERR is valid 8 clk after the close. -/
def State.markEval (s : State) (k : Nat) : State :=
  let x := s.mark k
  match x.closeAt with
  | none => s
  | some c =>
    let s := s.setB (R.ACQ_RM_STAT_MULTI k) (decide (1 < x.edges))
    if x.edges = 0 then
      let s := s.putMark k { x with closeAt := none, results := x.results ++ [(c + 8, none)] }
      (s.set1 (R.ACQ_RM_STAT_MISS k)).incSat (R.ACQ_RM_STAT_MISS_CNT k) 1
    else
      let s := s.putMark k { x with closeAt := none, edges := 0, results := x.results ++ [(c + 8, some (x.first - s.reg (R.ACQ_RM_EXP k)))] }
      (s.clr (R.ACQ_RM_STAT_MISS k)).incWrap (R.ACQ_RM_STAT_MARKS k) 1

/-- Open or close an input's gate (R59, R298): EST actions 5 and 6 and host writes of GATE. -/
def State.gateSet (s : State) (k : Nat) (open_ : Bool) : State :=
  let was := s.flag (R.CHN_CAP_CFG_GATE k)
  let s := s.setB (R.CHN_CAP_CFG_GATE k) open_
  let s := s.when (open_ && !was) (fun s => s.markEval k)
  let x := s.mark k
  if open_ && !was then
    match x.pre with
    | some (c, fr) => if c = s.clk then s.putMark k { x with edges := 1, first := fr, pre := none } else s.putMark k { x with edges := 0, pre := none }
    | none => s.putMark k { x with edges := 0 }
  else if !open_ && was then
    let s : State := { s with cap := { s.cap with gateClosed := tabSet (fun _ => none) s.cap.gateClosed k (some s.clk) } }
    s.when (s.flag (R.ACQ_RM_CFG_EN k)) (fun s => s.putMark k { x with closeAt := some s.clk })
  else s

/-- REGISTER_MARK_GATE_CLOSE: the unit evaluates the gate that has closed (R298, R299). -/
def execRegisterMarkGateClose (k : Fin 16) (s : State) : Host.Outcome State Fault Refusal := .next (s.markEval k.val)

/-- REGISTER_MARK_RESULT: 8 clk after a close its ERR is valid and the event is raised (R298). -/
def execRegisterMarkResult (k : Fin 16) (s : State) : Host.Outcome State Fault Refusal :=
  let x := s.mark k.val
  match x.results with
  | [] => .next s
  | (c, err) :: more =>
    if c ≤ s.clk then
      let s := s.putMark k.val { x with results := more }
      let s := match err with
        | some e => s.putReg (R.ACQ_RM_ERR k.val) e
        | none => s
      .next (s.raise 0x55 k.val (s.reg (R.ACQ_RM_ERR k.val)))
    else .next s

/-! ## The DDR4 interface -/

/-- A DDR error as an event (R302). -/
def State.ddrEvent (s : State) : State := s.raise 0x56 0 (wordOf ((s.reg R.DDR_STAT).toNat % 32))

/-- An uncorrectable error at a byte address: UE, its count, the first address, and the end of a session (R302). -/
def State.ddrUe (s : State) (addr : Nat) : State :=
  let s := (s.set1 R.DDR_STAT_UE).incSat R.DDR_UE_CNT_COUNT 1
  let s := s.when (!s.flag R.DDR_UE_ADDR_VALID) (fun s => (s.setF R.DDR_UE_ADDR_ADDR (addr / 32)).set1 R.DDR_UE_ADDR_VALID)
  let s := s.ddrEvent
  s.when s.acqRuns (fun s => s.acqStop 5)

/-- DDR_UNCORRECTABLE_ERROR (R32, R302): the beat stays bad for later read-outs until it is written. -/
def execDdrUncorrectableError (addr : Nat) (s : State) : Host.Outcome State Fault Refusal :=
  let s := s.ddrUe addr
  .next (if s.acq.ueAt.contains (addr / 32) then s else s.putAcq { s.acq with ueAt := addr / 32 :: s.acq.ueAt })

/-- DDR_TRAINING_LOSS (R32, R302). -/
def execDdrTrainingLoss (s : State) : Host.Outcome State Fault Refusal :=
  let s := ((s.set1 R.DDR_STAT_LOST).clr R.DDR_STAT_TRAINED).ddrEvent
  .next (s.when s.acqRuns (fun s => s.acqStop 5))

/-- A write of `DDR_CTL.TRAIN`: accepted in IDLE, DONE and STOPPED (R302). -/
def State.ddrTrain (s : State) (v : Word) : State := s.when (v.toNat.testBit 0 && !s.acqRuns) (fun s => s.set1 R.DDR_CTL_TRAIN)

/-- TRAIN (R302). -/
def execTrain (val : Word) (s : State) : Host.Outcome State Fault Refusal := .next (s.bar0Write R.DDR_CTL (fun s => s.ddrTrain val))

/-- DDR_TRAINING_DONE: TRAINED or TFAIL; with RATE 3, or without its PLL, training fails. Memory keeps its contents (R302, R307, R430). -/
def execDdrTrainingDone (ok : Bool) (s : State) : Host.Outcome State Fault Refusal :=
  if s.flag R.DDR_CTL_TRAIN then
    let good := ok && s.f R.DDR_CFG_RATE != 3 && s.pllLocked 1
    let s := (s.clr R.DDR_CTL_TRAIN).setB R.DDR_STAT_TRAINED good
    .next (if good then s else s.set1 R.DDR_STAT_TFAIL)
  else .next s

/-! ## Registers -/

/-- A write of `ACQ_CHc_SRC` (R286): in a session a channel cannot be switched on or off. -/
def State.chWrite (s : State) (c : Nat) (v : Word) : State :=
  if s.acqRuns && ((s.chKind c == 0) != (v.toNat / 2 ^ 28 == 0)) then s.set1 R.ACQ_STAT_WR_IGN else s.plainWrite (R.ACQ_CH_SRC c) v

/-- ACQ, TRG and DDR registers with a rule of their own for a write, and the gate bits of the capture inputs. -/
def acqRegWrite (s : State) (a : Nat) (v : Word) : Option State :=
  if a = R.ACQ_CTL then some (s.acqCtl v)
  else if a = R.ACQ_CFG then
    let was := s.flag R.ACQ_CFG_RUN
    let s := s.plainWrite a v
    let s := s.when (!was && s.flag R.ACQ_CFG_RUN) (fun s => s.gridSkip)
    some (s.when (!s.flag R.ACQ_CFG_RUN && s.acqRuns) (fun s => s.acqStop 2))
  else if R.ACQ_CH_SRC 0 ≤ a ∧ a ≤ R.ACQ_CH_SRC 63 then some (s.chWrite ((a - R.ACQ_CH_SRC 0) / 4) v)
  else if a = R.DDR_CTL then some (s.ddrTrain v)
  else if a = R.DDR_STAT then
    let s := s.plainWrite a v
    some (if s.flag R.DDR_STAT_UE then s else s.clr R.DDR_UE_ADDR_VALID)
  else match (List.range 16).find? (fun u => a == R.TRG_CFG u) with
    | some u => some (s.trgWrite u v)
    | none => match (List.range 16).find? (fun k => a == R.CHN_CAP_CFG k) with
      | some k =>
        let t := s.gateSet k (v.toNat.testBit (R.CHN_CAP_CFG_GATE k).lo)
        some ((t.plainWrite a v).capOpened k)
      | none => none

end Sys2Proof.Machine
end

