-- ==== Sys2Proof/Machine/KstImage.lean ====
section
/-! DEFINITION. The safety parameter image (R332): its fields, its check value and its validation. -/

namespace Sys2Proof.Machine

/-! ## CRC-32C -/

/-- One bit of the reflected CRC-32C. -/
def crc32cBit (crc : Nat) : Nat := if crc % 2 = 1 then crc / 2 ^^^ 0x82F63B78 else crc / 2

/-- One byte of the reflected CRC-32C. -/
def crc32cByte (crc : Nat) (b : Byte) : Nat := (List.range 8).foldl (fun c _ => crc32cBit c) (crc ^^^ b.toNat)

/-- CRC-32C with an initial value and the final inversion (R325). -/
def crc32c (init : Nat) (bs : List Byte) : Nat := bs.foldl crc32cByte init ^^^ 0xFFFFFFFF

/-! ## Fields -/

/-- Bytes an image does not list are zero. -/
def imgDefault : Nat → Byte := fun _ => 0

/-- Byte `a` of an image. -/
def imgByte (m : Tab Byte) (a : Nat) : Nat := (tabGet imgDefault m a).toNat

/-- The 16-bit number at byte `a`. -/
def img16 (m : Tab Byte) (a : Nat) : Nat := imgByte m a + 256 * imgByte m (a + 1)

/-- Offsets of the entries. -/
def imgIn (n : Nat) : Nat := 0x10 + 8 * n
def imgFn (f : Nat) : Nat := 0x90 + 16 * f
def imgOut (n : Nat) : Nat := 0x190 + 8 * n
def imgZone (z : Nat) : Nat := 0x1B0 + 4 * z
def imgStn (n : Nat) : Nat := 0x200 + 4 * n

/-- Input fields. -/
def inType (m : Tab Byte) (n : Nat) : Nat := imgByte m (imgIn n)
def inF (m : Tab Byte) (n : Nat) : Nat := imgByte m (imgIn n + 1)
def inTpa (m : Tab Byte) (n : Nat) : Nat := imgByte m (imgIn n + 2)
def inTpb (m : Tab Byte) (n : Nat) : Nat := imgByte m (imgIn n + 3)
def inTd (m : Tab Byte) (n : Nat) : Nat := img16 m (imgIn n + 4)

/-- Function fields. -/
def fnType (m : Tab Byte) (f : Nat) : Nat := imgByte m (imgFn f)
def fnCat (m : Tab Byte) (f : Nat) : Nat := imgByte m (imgFn f + 1)
def fnIn1 (m : Tab Byte) (f : Nat) : Nat := imgByte m (imgFn f + 2)
def fnIn2 (m : Tab Byte) (f : Nat) : Nat := imgByte m (imgFn f + 3)
def fnRst (m : Tab Byte) (f : Nat) : Nat := imgByte m (imgFn f + 4)
def fnReq (m : Tab Byte) (f : Nat) : Nat := imgByte m (imgFn f + 5)
def fnLock (m : Tab Byte) (f : Nat) : Nat := imgByte m (imgFn f + 6)
def fnZones (m : Tab Byte) (f : Nat) : Nat := img16 m (imgFn f + 8)
def fnT1 (m : Tab Byte) (f : Nat) : Nat := img16 m (imgFn f + 10)
def fnTUnlock (m : Tab Byte) (f : Nat) : Nat := img16 m (imgFn f + 12)

/-- Output fields. -/
def outMode (m : Tab Byte) (n : Nat) : Nat := imgByte m (imgOut n)
def outZones (m : Tab Byte) (n : Nat) : Nat := img16 m (imgOut n + 2)
def outTop (m : Tab Byte) (n : Nat) : Nat := imgByte m (imgOut n + 4)

/-- Globals, zones and stations. -/
def imgW (m : Tab Byte) : Nat := imgByte m 0x1F0
def imgTpp (m : Tab Byte) : Nat := imgByte m 0x1F1
def imgRate (m : Tab Byte) : Nat := imgByte m 0x1F2
def imgLossDem (m : Tab Byte) : Bool := (imgByte m 0x1F3).testBit 0
def imgPwmz (m : Tab Byte) : Nat := img16 m 0x1F4
def zoneSbc (m : Tab Byte) (z : Nat) : Bool := (imgByte m (imgZone z)).testBit 0
def stnCid (m : Tab Byte) (n : Nat) : Nat := img16 m (imgStn n)
def stnZones (m : Tab Byte) (n : Nat) : Nat := img16 m (imgStn n + 2)

/-- The 16 indices of inputs, functions and zones. -/
def sixteen : List Nat := List.range 16

/-- The check value (R332). -/
def imgCheck (m : Tab Byte) : Word := wordOf (crc32c 0xFFFFFFFF (tabRead imgDefault m 0 0xFFC))

/-! ## Validation -/

/-- Test 2: the header. -/
def imgHeaderOk (m : Tab Byte) : Bool := img16 m 0 == 1 && img16 m 2 == 4096

/-- Bytes that must be zero. -/
def imgZeros (m : Tab Byte) (l : List Nat) : Bool := l.all (fun a => imgByte m a == 0)

/-- An input entry's ranges. T_D is tested for TYPE 1 to 3. -/
def imgInOk (m : Tab Byte) (n : Nat) : Bool :=
  let t := inType m n
  decide (t ≤ 4) && decide (inF m n ≤ 6) && decide (inTpa m n ≤ 8) && decide (inTpb m n ≤ 8) &&
    (t != 3 || (inTpa m n == 8 && inTpb m n == 8)) && (t != 2 || inTpb m n == 8) &&
    (!(decide (1 ≤ t) && decide (t ≤ 3)) || (decide (10 ≤ inTd m n) && decide (inTd m n ≤ 3000))) &&
    imgZeros m [imgIn n + 6, imgIn n + 7]

/-- An index field: below `k`, or 0xFF for none. -/
def idxOk (k v : Nat) : Bool := decide (v < k) || v == 0xFF

/-- A field that names an input of TYPE 4, or none. -/
def buttonOk (m : Tab Byte) (v : Nat) : Bool := v == 0xFF || (decide (v < 16) && inType m v == 4)

/-- A function entry's ranges. An off function's RST and REQ name no input. -/
def imgFnOk (m : Tab Byte) (f : Nat) : Bool :=
  let t := fnType m f
  decide (t ≤ 5) && decide (fnCat m f ≤ 1) && idxOk 16 (fnIn1 m f) && idxOk 16 (fnIn2 m f) && idxOk 16 (fnRst m f) && idxOk 16 (fnReq m f) &&
    idxOk 4 (fnLock m f) && (t == 0 || (buttonOk m (fnRst m f) && buttonOk m (fnReq m f))) &&
    (fnCat m f != 1 || (decide (10 ≤ fnT1 m f) && decide (fnT1 m f ≤ 30000))) && decide (fnTUnlock m f ≤ 60000) &&
    imgZeros m [imgFn f + 7, imgFn f + 14, imgFn f + 15]

/-- An output entry's ranges. -/
def imgOutOk (m : Tab Byte) (n : Nat) : Bool :=
  decide (outMode m n ≤ 3) && decide (outTop m n ≤ 100) && imgZeros m [imgOut n + 1, imgOut n + 5, imgOut n + 6, imgOut n + 7]

/-- Test 3: ranges and reserved bytes. -/
def imgFieldsOk (m : Tab Byte) : Bool :=
  sixteen.all (imgInOk m) && sixteen.all (imgFnOk m) && (List.range 4).all (imgOutOk m) &&
    sixteen.all (fun z => decide (imgByte m (imgZone z) ≤ 1) && imgZeros m [imgZone z + 1, imgZone z + 2, imgZone z + 3]) &&
    decide (8 ≤ imgTpp m) && decide (imgRate m ≤ 3) && decide (imgByte m 0x1F3 ≤ 1) &&
    imgZeros m ((List.range 10).map (fun k => 0x1F6 + k)) && imgZeros m ((List.range 0xA00).map (fun k => 0x600 + k))

/-- Does a function of its type name inputs of the right types (R318 to R322)? -/
def imgFnRule (m : Tab Byte) (f : Nat) : Bool :=
  let ty (n : Nat) : Nat := if n < 16 then inType m n else 0
  let a := ty (fnIn1 m f)
  let b := ty (fnIn2 m f)
  let two (t : Nat) : Bool := t == 1 || t == 2
  let alone := fnIn2 m f == 0xFF
  let noLock := fnReq m f == 0xFF && fnLock m f == 0xFF
  let reset := fnRst m f != 0xFF
  match fnType m f with
  | 0 => true
  | 1 => two a && alone && reset && noLock
  | 2 => two a && two b && reset && fnReq m f != 0xFF && decide (fnLock m f < 4) && outMode m (fnLock m f) == 2
  | 3 => a == 2 && b == 2 && !reset && noLock && fnCat m f == 0
  | 4 => a == 3 && alone && noLock
  | _ => two a && alone && noLock

/-- How many times functions use an input as IN1 or IN2. -/
def imgUses (m : Tab Byte) (n : Nat) : Nat :=
  sumOf (sixteen.map (fun f => if fnType m f = 0 then 0 else (if fnIn1 m f = n then 1 else 0) + if fnIn2 m f = n then 1 else 0))

/-- Test 4: functions, the use of inputs and of lock outputs. -/
def imgFunctionsOk (m : Tab Byte) : Bool :=
  sixteen.all (imgFnRule m) &&
    sixteen.all (fun n => let t := inType m n
      if 1 ≤ t ∧ t ≤ 3 then imgUses m n == 1 else if t = 4 then imgUses m n == 0 else true) &&
    (List.range 4).all (fun n => outMode m n != 2 || sixteen.countP (fun f => fnType m f == 2 && fnLock m f == n) == 1)

/-- Test 6: the watchdog (R331). -/
def imgWatchOk (m : Tab Byte) : Bool :=
  decide (4 ≤ imgW m) && decide (imgW m ≤ 8) && (imgRate m == 0 || decide (imgW m * bcNs (imgRate m) ≤ 500000))

/-- The code of the first failed test, 0 if all pass (R332). The two cores' computations of one image agree, so code 5 does not arise here. -/
def imgValidate (m : Tab Byte) : Nat :=
  if !imgHeaderOk m then 2
  else if !imgFieldsOk m then 3
  else if !imgFunctionsOk m then 4
  else if !imgWatchOk m then 6
  else 0

/-! ## The window -/

/-- The bytes of `KST_PWIN` as an image. -/
def State.winImage (s : State) : Tab Byte :=
  tabWrite imgDefault [] 0 (bytesOfWords ((List.range 1024).map (fun w => s.reg (R.KST_PWIN w))))

/-- Fill the window from an image. -/
def State.fillWindow (s : State) (m : Tab Byte) : State :=
  s.each ((List.range 1024).zip (wordsOfBytes (tabRead imgDefault m 0 4096))) (fun s x => s.putReg (R.KST_PWIN x.1) x.2)

end Sys2Proof.Machine
end

