-- ==== Sys2Proof/Machine/Evt.lean ====
section
/-! DEFINITION. The event system (R400 to R407): the event writer, the event queue, the vectors and their MSI-X messages, and INT_N. -/

namespace Sys2Proof.Machine

/-- The queue is full when (tail + 1) mod 1,024 equals the head (R402). -/
def State.evtFull (s : State) : Bool := (s.f R.EVT_TAIL_TAIL + 1) % 1024 == s.f R.EVT_HEAD_HEAD

/-- Is a pending bit of a source with INT = 1 set? -/
def State.evtIntPending (s : State) : Bool :=
  (List.range 8).any (fun n =>
    let p := s.reg (R.EVT_PEND n)
    p != 0 && (List.range 32).any (fun b => p.toNat.testBit b && routeInt (s.evtRoute (32 * n + b))))

/-- INT_N is driven low (R406). -/
def State.intLow (s : State) : Bool :=
  s.evtIntPending || (s.flag R.EVT_STAT_LOST && s.flag R.EVT_CFG_LOST_INT)

/-- Count one entry on a vector (R405); at the count the message is due 16 clk later and the count returns to 0. -/
def State.vecCount (s : State) (v : Nat) : State :=
  let c := tabGet (fun _ => 0) s.evt.vecCnt v + 1
  let first := if c = 1 then s.clk else tabGet (fun _ => 0) s.evt.vecFirst v
  if max 1 (s.f (R.EVT_VEC_CNT v)) ≤ c then
    { s with evt := { s.evt with
        vecCnt := tabSet (fun _ => 0) s.evt.vecCnt v 0
        vecFirst := tabSet (fun _ => 0) s.evt.vecFirst v 0
        msgs := s.evt.msgs ++ [(v, s.clk + 16)] } }
  else
    { s with evt := { s.evt with
        vecCnt := tabSet (fun _ => 0) s.evt.vecCnt v c
        vecFirst := tabSet (fun _ => 0) s.evt.vecFirst v first } }

/-- Word 0 of a queue entry (R402). -/
def evtWord0 (src count : Nat) (phase : Bool) (detail : BitVec 16) : Word :=
  wordOf (src % 256 + min 127 count * 2 ^ 8 + (if phase then 2 ^ 15 else 0) + detail.toNat * 2 ^ 16)

/-- Write a new entry at the tail (R402, R403), and count it on the vector of its routing byte if that byte has EN = 1. -/
def State.evtAppend (s : State) (src count : Nat) (t : NetTime) (detail : BitVec 16) (data : Word) : State :=
  let slot := s.f R.EVT_TAIL_TAIL
  let phase := s.flag R.EVT_TAIL_PHASE
  let a := R.EVT_QUEUE (4 * slot)
  let s := (((s.putReg a (evtWord0 src count phase detail)).putReg (a + 4) t.ns).putReg (a + 8) (wordOf t.sec.toNat)).putReg (a + 12) data
  let s := s.setF R.EVT_TAIL_TAIL (slot + 1)
  let s := s.when (slot == 1023) (fun s => s.setB R.EVT_TAIL_PHASE (!phase))
  let s : State := { s with evt := { s.evt with newest := tabSet (fun _ => none) s.evt.newest src (some slot) } }
  let b := s.evtRoute src
  s.when (routeEn b) (fun s => s.vecCount (routeVec b))

/-- Merge `n` occurrences into the entry of a slot (R404), each counted on the source's vector if its routing byte has EN = 1 (R405). -/
def State.evtMerge (s : State) (src slot n : Nat) (data : Word) : State :=
  let a := R.EVT_QUEUE (4 * slot)
  let w := (s.reg a).toNat
  let s := (s.putReg a (setBits (s.reg a) 8 7 (min 127 (bitsOf w 8 7 + n)))).putReg (a + 12) data
  let b := s.evtRoute src
  s.when (routeEn b) (fun s => s.each (List.range n) (fun s _ => s.vecCount (routeVec b)))

/-- Write or merge the queue entry of a served occurrence whose entry was decided (R403, R404). -/
def State.evtWrite (s : State) (src : Nat) (l : EvtLatch) : State :=
  let b := s.evtRoute src
  let fresh : State := if s.evtFull then s.each (List.range l.count) (fun s _ => s.evtLose) else s.evtAppend src l.count l.time l.detail l.data
  match (if routeMerge b then s.evtNewest src else none) with
  | none => fresh
  | some slot =>
    if bitsOf (s.reg (R.EVT_QUEUE (4 * slot))).toNat 16 16 = l.detail.toNat then s.evtMerge src slot l.count l.data else fresh

/-- Occurrences merged past an occupied latch enter their entries (R404). -/
def State.evtMergeAll (s : State) : State :=
  let ms := s.evt.merges
  ({ s with evt := { s.evt with merges := [] } } : State).each ms (fun s m => s.evtMerge m.1 m.2.1 1 m.2.2)

/-- The next occupied latch in ascending source number from the writer's place on, round the 256 sources (R403). -/
def State.evtNextLatch (s : State) : Option (Nat × EvtLatch) :=
  let at_ (n : Nat) : Option (Nat × EvtLatch) :=
    let src := (s.evt.scan + n) % 256
    (tabGet (fun _ => none) s.evt.latch src).map (fun l => (src, l))
  (List.range 256).findSome? at_

/-- The loss entry of source 0x04 (R403): due once `EVT_CFG.EN` = 1 and a slot is free. -/
def State.evtLossDue (s : State) : Bool := decide (0 < s.evt.lossNow) && s.flag R.EVT_CFG_EN && !s.evtFull

/-- Write the loss entry: DETAIL the losses since the previous one, its time that of the first of them (R403). -/
def State.evtWriteLoss (s : State) : State :=
  let n := min 65535 s.evt.lossNow
  let t := s.evt.lossNowT
  let s := (s.evtPend 4).evtAppend 4 1 t (BitVec.ofNat 16 n) 0
  { s with evt := { s.evt with lossNow := 0, lossNowT := NetTime.zero, served := s.clk + 1 } }

/-- Bits of the MSI-X state. -/
def State.msixBlocked (s : State) (v : Nat) : Bool := s.evt.msixMask.toNat.testBit v || !s.flag R.HIF_LINK_UP

/-- Send a vector's message on PCIe. -/
def State.msixSend (s : State) (v : Nat) : State :=
  { s with evt := { s.evt with
      msixSent := tabSet (fun _ => 0) s.evt.msixSent v (tabGet (fun _ => 0) s.evt.msixSent v + 1)
      msixPend := s.evt.msixPend &&& ~~~(BitVec.ofNat 32 (2 ^ v)) } }

/-- Hold a vector's message in the pending-bit array (R405). -/
def State.msixHold (s : State) (v : Nat) : State :=
  { s with evt := { s.evt with msixPend := s.evt.msixPend ||| BitVec.ofNat 32 (2 ^ v) } }

/-- The link is back: messages held for it are sent, those of masked vectors stay held (R405). -/
def State.msixRelease (s : State) : State :=
  s.each (List.range 32) (fun s v =>
    s.when (s.evt.msixPend.toNat.testBit v && !s.msixBlocked v) (fun s => s.msixSend v))

/-- The latch of source 0xE0, from which the black box takes its entry (R403, R420): no queue entry is decided, so an occurrence that the latch cannot take loses none. -/
def State.latchCompletion (s : State) (sq : Nat) : State :=
  let d16 : BitVec 16 := BitVec.ofNat 16 sq
  let put (l : EvtLatch) : State := { s with evt := { s.evt with latch := tabSet (fun _ => none) s.evt.latch 0xE0 (some l) } }
  match tabGet (fun _ => none) s.evt.latch 0xE0 with
  | none => put ⟨s.nt, chnFrac s.chnLive, s.cyc.bcIdx, d16, 0, 1, false⟩
  | some l => if routeMerge (s.evtRoute 0xE0) && l.detail == d16 then put { l with count := min 127 (l.count + 1) } else s

/-- Signal source 0xE0 for a queue (R400, R401): its pending bit, its latch, and one count on its vector; no queue entry. -/
def State.signalCompletion (s : State) (sq : Nat) : State :=
  let b := s.evtRoute 0xE0
  ((s.evtPend 0xE0).latchCompletion sq).when (routeEn b) (fun s => s.vecCount (routeVec b))

/-- The entries whose clk has come are written, 2 clk after their latch was served (R403). -/
def State.evtLand (s : State) : State :=
  let due := s.evt.writes.filter (fun w => decide (w.1 ≤ s.clk))
  ({ s with evt := { s.evt with writes := s.evt.writes.filter (fun w => !decide (w.1 ≤ s.clk)) } } : State).each due (fun s w => s.evtWrite w.2.1 w.2.2)

/-! ## Meanings -/

/-- EVT_HEAD_WRITE: a value beyond the tail is ignored (R402, R407). -/
def State.evtHead (s : State) (v : Word) : State :=
  let h := v.toNat % 1024
  let old := s.f R.EVT_HEAD_HEAD
  if (h + 1024 - old) % 1024 ≤ s.evtFill then s.setF R.EVT_HEAD_HEAD h else s

def execEvtHeadWrite (val : Word) (s : State) : Host.Outcome State Fault Refusal :=
  .next (s.bar0Write R.EVT_HEAD (fun s => s.evtHead val))

/-- VECTOR_TIME_EXPIRY: `EVT_VECv.TIME` µs after the first entry counted, the message is due 16 clk later (R405). -/
def execVectorTimeExpiry (v : Fin 32) (s : State) : Host.Outcome State Fault Refusal :=
  let time := s.f (R.EVT_VEC_TIME v.val)
  let cnt := tabGet (fun _ => 0) s.evt.vecCnt v.val
  let first := tabGet (fun _ => 0) s.evt.vecFirst v.val
  if 0 < time ∧ 0 < cnt ∧ first + 800 * time ≤ s.clk then
    .next { s with evt := { s.evt with
      vecCnt := tabSet (fun _ => 0) s.evt.vecCnt v.val 0
      vecFirst := tabSet (fun _ => 0) s.evt.vecFirst v.val 0
      msgs := s.evt.msgs ++ [(v.val, s.clk + 16)] } }
  else .next s

/-- MSIX_MESSAGE: a message whose 16 clk have passed is sent, or held in the pending-bit array (R405). -/
def execMsixMessage (v : Fin 32) (s : State) : Host.Outcome State Fault Refusal :=
  match s.evt.msgs.find? (fun m => m.1 == v.val && decide (m.2 ≤ s.clk)) with
  | none => .next s
  | some m =>
    let s : State := { s with evt := { s.evt with msgs := s.evt.msgs.erase m } }
    .next (if s.msixBlocked v.val then s.msixHold v.val else s.msixSend v.val)

/-- MSIX_VECTOR_UNMASK: the vector's mask bit in BAR4 clears and a held message is sent while the link is up (R405). -/
def execMsixVectorUnmask (v : Fin 32) (s : State) : Host.Outcome State Fault Refusal :=
  let s : State := { s with evt := { s.evt with msixMask := s.evt.msixMask &&& ~~~(BitVec.ofNat 32 (2 ^ v.val)) } }
  .next (s.when (s.evt.msixPend.toNat.testBit v.val && !s.msixBlocked v.val) (fun s => s.msixSend v.val))

/-! ## Derived reads and write rules -/

/-- The EVT registers whose value follows from the queue and the pins (R407). -/
def evtRead (s : State) (a : Nat) : Option Word :=
  if a = R.EVT_STAT then
    some (setBits (setBits (s.reg a) 1 1 (if s.evtFull then 1 else 0)) 2 1 (if s.intLow then 1 else 0))
  else if a = R.EVT_FILL then some (wordOf s.evtFill)
  else none

/-- EVT registers with a rule of their own for a write. -/
def evtRegWrite (s : State) (a : Nat) (v : Word) : Option State :=
  if a = R.EVT_HEAD then some (s.evtHead v) else none

end Sys2Proof.Machine
end

