-- ==== Sys2Proof/Machine/Hif.lean ====
section
/-! DEFINITION. The completion queue and the packets that wait (R363, R366, R369, R389): reserving an entry, deciding a completion, writing it. -/

namespace Sys2Proof.Machine

/-- Status codes (R371). -/
def stOk : Nat := 0
def stOpcode : Nat := 1
def stQueue : Nat := 2
def stLength : Nat := 3
def stDma : Nat := 4
def stParam : Nat := 5
def stState : Nat := 6
def stCapacity : Nat := 7
def stTiming : Nat := 8
def stLimit : Nat := 9
def stAborted : Nat := 10
def stTimeout : Nat := 11
def stMedia : Nat := 12
def stRestart : Nat := 13

/-- DETAIL of a refusal in which no single word is at fault (R369). -/
def noWord : Nat := 0xFFFF

/-- Entries of the completion queue that are filled. -/
def State.cqFill (s : State) : Nat := (s.f R.HIF_CQ_PTR_TAIL + 1024 - s.f R.HIF_CQ_PTR_HEAD) % 1024

/-- Entries neither filled nor reserved (`HIF_CQ_STAT.FREE`). -/
def State.cqFree (s : State) : Nat := 1023 - s.cqFill - s.f R.HIF_CQ_STAT_RSV

/-- FREE follows the queue. -/
def State.cqSync (s : State) : State := s.setF R.HIF_CQ_STAT_FREE s.cqFree

/-- Reserve a completion entry (R366). -/
def State.cqReserve (s : State) : State := (s.setF R.HIF_CQ_STAT_RSV (s.f R.HIF_CQ_STAT_RSV + 1)).cqSync

/-- May a packet of queue `q` reserve an entry? The last 16 are kept for SQ0 (R366). -/
def State.cqMay (s : State) (q : Nat) : Bool := decide ((if q = 0 then 0 else 16) < s.cqFree)

/-- The registers of submission queue `q` (0 to 3). -/
def State.sqHead (s : State) (q : Nat) : Nat := s.f (R.HIF_SQ_STAT_HEAD q)
def State.sqTail (s : State) (q : Nat) : Nat := s.f (R.HIF_SQ_STAT_TAIL q)

/-- Store words in the BAR2 windows from an offset up. -/
def State.bar2Put (s : State) (off : Nat) (ws : List Word) : State :=
  { s with hif := { s.hif with bar2 := tabWrite (fun _ => 0) s.hif.bar2 off (bytesOfWords ws) } }

/-- The word of the BAR2 windows at an offset. -/
def State.bar2Word (s : State) (off : Nat) : Word := wordOf (natOfBytes (tabRead (fun _ => 0) s.hif.bar2 off 4))

/-- Words 0 to 7 of a completion entry (R369). -/
def cqEntry (c : Completion) (sqhd : Nat) (phase : Bool) : List Word :=
  [c.tag.cid,
   wordOf (c.status % 256 + c.tag.op % 256 * 2 ^ 8 + c.tag.sq % 4 * 2 ^ 16 + sqhd % 256 * 2 ^ 18 + if phase then 2 ^ 31 else 0),
   wordOf (c.detail % 2 ^ 16), c.ns,
   c.res.getD 0 0, c.res.getD 1 0, c.res.getD 2 0, c.res.getD 3 0]

/-- The first refusal since `HIF_REF_CNT` was last read (R389). -/
def State.firstRef (s : State) (c : Completion) : State :=
  if s.flag R.HIF_FIRST_REF_VALID then s
  else (((s.setF R.HIF_FIRST_REF_SQ c.tag.sq).setF R.HIF_FIRST_REF_OPCODE c.tag.op).setF R.HIF_FIRST_REF_STATUS c.status).set1 R.HIF_FIRST_REF_VALID

/-- The boot's own `RING_START` has ended (R434 step 8): its status goes to RSTAT and the boot is complete. Its `PAIR` leaves no trace here. -/
def State.bootEnds (s : State) (c : Completion) : State :=
  if c.tag.op = 0x40 then
    let s := (s.setF R.GLB_BOOT_RSTAT c.status).setF R.GLB_BOOT_STATE 9
    s.raise 0x03 9 (s.reg R.GLB_BOOT)
  else s

/-- Write a completion entry (R369): the entry, the tail and its phase, the counts, and the completion event where asked. A packet that was in execution across a
reset of the host interface writes none (R363). Queue 4 stands for the boot. -/
def State.cqWrite (s : State) (c : Completion) : State :=
  if c.tag.sq = 4 then s.bootEnds c
  else if c.tag.gen ≠ s.hif.gen then s
  else
    let tail := s.f R.HIF_CQ_PTR_TAIL
    let phase := s.flag R.HIF_CQ_PTR_PHASE
    let s := s.bar2Put (0x10000 + 32 * tail) (cqEntry c (s.sqHead c.tag.sq) phase)
    let s := s.setF R.HIF_CQ_PTR_TAIL (tail + 1)
    let s := s.when (tail == 1023) (fun s => s.setB R.HIF_CQ_PTR_PHASE (!phase))
    let s := (s.setF R.HIF_CQ_STAT_RSV (s.f R.HIF_CQ_STAT_RSV - 1)).cqSync
    let s := s.incWrap R.HIF_CMD_CNT_COUNT 1
    let s := s.when (c.status != stOk) (fun s => (s.firstRef c).incSat R.HIF_REF_CNT_COUNT 1)
    s.when (c.tag.irq || s.flag R.HIF_CTL_IRQ_ALL) (fun s => s.signalCompletion c.tag.sq)

/-- Decide the completion of a packet that took effect at a time: it is written `after` clk from now (R369, R372). -/
def State.finishAt (s : State) (t : PktTag) (after status detail : Nat) (ns : Word) (res : List Word) : State :=
  { s with hif := { s.hif with compl := s.hif.compl ++ [⟨t, s.clk + after, status, detail, ns, res⟩] } }

/-- Decide the completion of a packet that takes effect now (R369, R372). -/
def State.finish (s : State) (t : PktTag) (after status detail : Nat) (res : List Word) : State := s.finishAt t after status detail s.nt.ns res

/-- The same for a packet that may belong to the partner. -/
def State.finishOpt (s : State) (t : Option PktTag) (after status detail : Nat) (res : List Word) : State :=
  match t with
  | none => s
  | some t => s.finish t after status detail res

/-- A core by number. -/
def State.core (s : State) (k : Nat) : Core := tabGet (fun _ => Core.idle) s.hif.cores k

/-- Replace a core. -/
def State.putCore (s : State) (k : Nat) (c : Core) : State := { s with hif := { s.hif with cores := tabSet (fun _ => Core.idle) s.hif.cores k c } }

/-- HIF registers whose value follows from the cores: CQ_FULL while a core has stopped fetching (R366), BUSY and FWAIT of the queues (R367, R389). -/
def hifRead (s : State) (a : Nat) : Option Word :=
  if a = R.HIF_STAT then some (setBits (s.reg a) 3 1 (if (s.core 0).stalled || (s.core 1).stalled then 1 else 0))
  else match [0, 1, 2, 3].find? (fun q => a == R.HIF_SQ_STAT q) with
    | none => none
    | some q => match (s.core (q / 2)).cur with
      | none => some (setBits (s.reg a) 16 2 0)
      | some p => some (setBits (s.reg a) 16 2 (if p.tag.sq ≠ q then 0 else if p.fence then 2 else 1))

/-- The execution of a packet ends now: its core fetches the next 8 clk later at the earliest (R365). -/
def State.coreEnds (s : State) (t : PktTag) : State :=
  s.each [0, 1] (fun s k =>
    match (s.core k).cur with
    | some p => if p.tag = t then s.putCore k { s.core k with cur := none, freeAt := s.clk + 8 } else s
    | none => s)

/-- A packet's execution ends now and its completion is decided (R372). -/
def State.packetEnds (s : State) (t : Option PktTag) (status detail : Nat) (res : List Word) : State :=
  match t with
  | none => s
  | some t => (s.finish t 16 status detail res).coreEnds t

/-- Write the completions whose clk has come, in their order (R365: T0's before T1's). -/
def State.cqDue (s : State) : State :=
  let due := s.hif.compl.filter (fun c => decide (c.due ≤ s.clk))
  let rest := s.hif.compl.filter (fun c => !decide (c.due ≤ s.clk))
  let first := due.filter (fun c => decide (c.tag.sq ≤ 1))
  let then_ := due.filter (fun c => !decide (c.tag.sq ≤ 1))
  ({ s with hif := { s.hif with compl := rest } } : State).each (first ++ then_) (fun s c => s.cqWrite c)

/-- Let a packet wait (R372). -/
def State.addWait (s : State) (t : Option PktTag) (k : WaitKind) : State :=
  { s with hif := { s.hif with waits := s.hif.waits ++ [⟨t, k⟩] } }

/-- The packets that wait for a reason. -/
def State.waiting (s : State) (p : WaitKind → Bool) : List Waiting := s.hif.waits.filter (fun w => p w.kind)

/-- End every wait of a reason, each with a status (R382, R385). -/
def State.endWaits (s : State) (p : WaitKind → Bool) (after status detail : Nat) (res : List Word) : State :=
  let ws := s.waiting p
  let s : State := { s with hif := { s.hif with waits := s.hif.waits.filter (fun w => !p w.kind) } }
  s.each ws (fun s w => s.finishOpt w.tag after status detail res)

/-- Is a wait one for the first SYNC of a ring start? -/
def isRingStart : WaitKind → Bool
  | .ringStart => true
  | _ => false

/-- Is a wait one for a halt to take effect? -/
def isRingHalt : WaitKind → Bool
  | .ringHalt => true
  | _ => false

end Sys2Proof.Machine
end

