-- ==== Sys2Proof/Machine/Ring.lean ====
section
/-! DEFINITION. Zuris Link frames and windows (R219 to R240, R246): the frame format, the assembler's slot reads, and the frames the head sends in its windows. -/

namespace Sys2Proof.Machine

/-! ## Windows -/

/-- A field of `ZLP_CFG` as the ring uses it: as read at `RING_START` (R248), in IDLE as it stands. -/
def State.zlpF (s : State) (x : Fld) : Nat := if s.f R.ZLP_SSTAT_STATE = 0 then s.f x else bitsOf s.ring.cfg.toNat x.lo x.width

/-- A one-bit field of `ZLP_CFG` as the ring uses it. -/
def State.zlpFlag (s : State) (x : Fld) : Bool := s.zlpF x != 0

/-- The head's own address, `span`:0 (R224). -/
def State.ownAddr (s : State) : Nat := s.zlpF R.ZLP_CFG_SPAN * 256

/-- Is the window sent by the head? -/
def State.headSent (s : State) (e : CymEntry) : Bool := e.cls != 2 || e.owner == s.ownAddr

/-- Payload bytes of a window's frame, not padded (R232, R234, R235, R236). -/
def payloadLen (e : CymEntry) : Nat :=
  if e.cls = 1 ∨ e.cls = 3 then 44
  else e.count * e.rsize + if e.cls = 2 ∧ e.dir = 0 then 12 * e.evcap else 0

/-! ## Times, in 1/400 clk -/

/-- The wire time D of a frame with `p` payload bytes (R241), in 1/400 clk: 6.4 clk a byte at 1 Gbit/s, 2.56 clk at 2.5 Gbit/s. -/
def State.wire400 (s : State) (p : Nat) : Nat := (28 + max 44 p) * (if s.zlpFlag R.ZLP_CFG_SPD then 1024 else 2560)

/-- The guard band in clk, as read at `RING_START` (R239, R248). -/
def State.guard (s : State) : Nat := if s.f R.ZLP_SSTAT_STATE = 0 then s.f R.ZLP_GUARD_GUARD else s.ring.band

/-- The loop-delay budget of a rate (R243), in clk. -/
def budgetOf (rate : Nat) : Nat := 9600 * 2 ^ (3 - rate)

/-- The offset of a window's START from t0 in half `h`, in clk (R236). -/
def State.startOf (s : State) (e : CymEntry) (h : Nat) : Nat := e.start * 8 + if isExpress e ∧ h = 1 then s.pExp else 0

/-! ## Frames -/

/-- The most significant byte first bytes of a 16-bit number. -/
def be16 (n : Nat) : List Byte := [BitVec.ofNat 8 (n / 256), BitVec.ofNat 8 n]

/-- A ZL header (R227). -/
structure ZlHeader where
  type : Nat
  flg : Nat
  dst : Nat
  src : Nat
  epoch : Nat
  seq : Nat
  bch : Nat
  win : Nat
  len : Nat
  hid : Nat
  deriving DecidableEq, Repr

/-- Bytes 0 to 14 of a header. -/
def headerBytes (h : ZlHeader) : List Byte :=
  [BitVec.ofNat 8 h.type, BitVec.ofNat 8 h.flg] ++ be16 h.dst ++ be16 h.src ++ be16 h.epoch ++ be16 h.seq ++
    [BitVec.ofNat 8 h.bch, BitVec.ofNat 8 h.win] ++ be16 h.len ++ [BitVec.ofNat 8 h.hid]

/-- A whole frame (R226, R227): header with its HCRC, payload, padding to 64 bytes, and the FCS. -/
def frameBytes (h : ZlHeader) (payload : List Byte) : List Byte :=
  let hb := headerBytes h
  let body := hb ++ [BitVec.ofNat 8 (crc8 0 hb)] ++ payload ++ List.replicate (44 - payload.length) 0
  body ++ bytesOf 4 (crc32 body)

/-- The big-endian number of a list of bytes. -/
def natBe (bs : List Byte) : Nat := bs.foldl (fun n b => n * 256 + b.toNat) 0

/-- The bytes of a frame from `i` on, `n` of them. -/
def sliceOf (bs : List Byte) (i n : Nat) : List Byte := (bs.drop i).take n

/-- The header of a received frame (R227). -/
def parseHeader (bs : List Byte) : ZlHeader :=
  let b (i : Nat) : Nat := (bs.getD i 0).toNat
  ⟨b 0, b 1, natBe (sliceOf bs 2 2), natBe (sliceOf bs 4 2), natBe (sliceOf bs 6 2), natBe (sliceOf bs 8 2), b 10, b 11, natBe (sliceOf bs 12 2), b 14⟩

/-- Is HCRC correct? -/
def hcrcOk (bs : List Byte) : Bool := decide (20 ≤ bs.length) && (bs.getD 15 0).toNat == crc8 0 (bs.take 15)

/-- Is the FCS correct? -/
def fcsOk (bs : List Byte) : Bool :=
  let n := bs.length - 4
  natOfBytes (bs.drop n) == crc32 (bs.take n)

/-- The payload of a received frame: LEN bytes after the header. -/
def payloadOf (bs : List Byte) : List Byte := sliceOf (bs.take (bs.length - 4)) 16 (natBe (sliceOf bs 12 2))

/-- The fields of BCH and FLG. -/
def hdrBcn (h : ZlHeader) : Nat := h.bch % 64
def hdrHalf (h : ZlHeader) : Nat := h.bch / 64 % 2
def hdrWrap (h : ZlHeader) : Bool := h.flg.testBit 6
def hdrClm (h : ZlHeader) : Bool := h.flg.testBit 5
def hdrRingB (h : ZlHeader) : Bool := h.flg.testBit 7
def hdrWin (h : ZlHeader) : Nat := h.win % 64

/-- The epoch frames carry: after a takeover the old one until the next t0 (R343, R345). -/
def State.sentEpoch (s : State) : Nat :=
  match s.twn.oldLease with
  | some x => x.1
  | none => s.f R.TWN_EPOCH_EPOCH

/-- The head's header for a frame of this bc (R227, R229). -/
def State.headHeader (s : State) (type ring h win len : Nat) : ZlHeader :=
  { type := type, flg := if ring = 1 then 128 else 0, dst := s.ownAddr + 255, src := s.ownAddr, epoch := s.sentEpoch
    seq := (2 * s.cyc.bcIdx.toNat + h) % 65536, bch := s.bcn + 64 * h, win := win, len := len, hid := s.zlpF R.ZLP_CFG_HID }

/-! ## Ports -/

/-- Port x0 and port x1 of a ring (R219). -/
def portX0 (r : Nat) : Nat := 2 * r
def portX1 (r : Nat) : Nat := 2 * r + 1
/-- The ring of a ring port. -/
def ringOfPort (p : Nat) : Nat := p / 2
/-- Is a ring port an x1? -/
def isX1 (p : Nat) : Bool := p % 2 == 1

/-- Does the pylon work as one of a pair (R337)? -/
def State.twin (s : State) : Bool := s.flag R.TWN_CFG_EN
/-- The pylon number. -/
def State.pid (s : State) : Nat := s.f R.TWN_CFG_PID

/-- Is a port of a ring this head's own (R337, R338)? A single head has both ports of both rings. -/
def State.hasX0 (s : State) (r : Nat) : Bool := !s.twin || s.pid == r
def State.hasX1 (s : State) (r : Nat) : Bool := !s.twin || s.pid != r

/-- The rings a window is sent on. -/
def ringsOf (e : CymEntry) : List Nat := if e.ring = 2 then [0, 1] else [e.ring]

/-- The ports the head sends a window on, with their rings: x0 downstream, x1 upstream (R222, R238, R338). -/
def State.txPorts (s : State) (e : CymEntry) : List (Nat × Nat) :=
  (ringsOf e).filterMap (fun r =>
    if e.dir = 0 then (if s.hasX0 r then some (portX0 r, r) else none) else (if s.hasX1 r then some (portX1 r, r) else none))

/-- Does a fenced or joining pylon hold a frame back (R346, R355)? -/
def State.sendHeld (s : State) (e : CymEntry) : Bool :=
  let role := s.f R.TWN_STAT_ROLE
  s.twin && (role == 4 || (role == 3 && (e.cls == 5 || (e.cls == 2 && e.dir == 0))))

/-! ## The assembler -/

/-- Does a Deck slot of 64 bytes hold a bad word (R108)? -/
def State.slotBad (s : State) (a : Nat) : Bool := s.deck.bad.any (fun b => decide (a ≤ b) && decide (b < a + 64))

/-- Clear the command-valid flag of a record (R231). -/
def clearCv (bs : List Byte) : List Byte :=
  match bs with
  | [] => []
  | b :: rest => (b &&& 0xFE) :: rest

/-- What the assembler sends of a command slot read now for half `h` (R25, R101, R108). -/
def State.asmBytes (s : State) (slot h : Nat) : List Byte :=
  let a := cmdAddr slot
  let bs := tabRead deckDefault s.deck.mem (a + 4) 60
  let per := bitsOf (s.deckWord a).toNat 16 8
  if per = (2 * s.bcn + h) % 256 ∧ !s.slotBad a then bs else clearCv bs

/-- The assembler reads a command slot (R25). -/
def State.asmRead (s : State) (slot h : Nat) : State :=
  { s with ring := { s.ring with asm_ := tabSet (fun _ => none) s.ring.asm_ slot (some ⟨s.cyc.bcIdx, h, s.asmBytes slot h⟩) } }

/-- The bytes the assembler holds of a slot for this period; a slot not read yet is read now (log entry 51). -/
def State.asmGet (s : State) (slot h : Nat) : List Byte :=
  match tabGet (fun _ => none) s.ring.asm_ slot with
  | some x => if x.bc = s.cyc.bcIdx ∧ x.half = h then x.bytes else s.asmBytes slot h
  | none => s.asmBytes slot h

/-- The command window of this bc that carries a command slot, with the half it is read for, once its read instant has come (R25). -/
def State.asmDue (s : State) (slot : Nat) : Option Nat :=
  ([0, 1].flatMap (fun h => (s.windowsOf s.bcn).filterMap (fun e =>
    if e.dir = 0 && e.src == 0 && ((e.cls == 2 && h == 0) || e.cls == 5) && (slotRecord e slot h).isSome && decide (s.startOf e h ≤ s.sinceT0 + 32) then some h
    else none))).getLast?

/-- ASSEMBLER_SLOT_READ (R25, R231). -/
def execAssemblerSlotRead (slot : Nat) (s : State) : Host.Outcome State Fault Refusal :=
  if s.spanRuns && s.ring.live then
    match s.asmDue slot with
    | some h => .next (s.asmRead slot h)
    | none => .next s
  else .next s

/-! ## Payloads -/

/-- The bytes of a process-data frame-buffer slot, zero where the slot holds a bad word (R100, R108). -/
def State.bufBytes (s : State) (slot : Nat) : List Byte :=
  let a := 0x70000 + 64 * slot
  if s.slotBad a then List.replicate 64 0 else tabRead deckDefault s.deck.mem a 64

/-- The records of a CMD or XCMD window (R231, R236). -/
def State.cmdPayload (s : State) (e : CymEntry) (h : Nat) : List Byte :=
  (List.range e.count).flatMap (fun i =>
    let slot := recordSlot e i h
    (if e.src = 0 then s.asmGet slot h else if e.src = 1 then s.bufBytes slot else List.replicate 64 0).take e.rsize)

/-- A ring-event record (R232). -/
def eventRecord (x : RingEvent) : List Byte :=
  bytesOf 2 x.stn ++ bytesOf 1 x.evno ++ [0] ++ bytesOf 4 x.time.ns.toNat ++ bytesOf 2 x.time.sec.toNat ++ bytesOf 2 (x.time.frac.toNat / 2 ^ 16)

/-- Ring events sent to a station in this bc. -/
def State.evCount (s : State) (stn : Nat) : Nat := if s.ring.evBc = s.cyc.bcIdx then tabGet (fun _ => 0) s.ring.evSent stn else 0

/-- Put a ring event at its place by crossing time. -/
def evInsert (x : RingEvent) : List RingEvent → List RingEvent
  | [] => [x]
  | y :: ys => if ntFix x.time < ntFix y.time then x :: y :: ys else y :: evInsert x ys

/-- Choose the ring events of one window (R57, R232): in order of crossing time, at most `n` of them and at most 4 for a station in a bc. -/
def pickEvents (count : Nat → Nat) : Nat → List RingEvent → List RingEvent → List RingEvent
  | 0, _, acc => acc.reverse
  | _, [], acc => acc.reverse
  | n + 1, x :: xs, acc =>
    if count x.stn + acc.countP (fun y => y.stn == x.stn) < 4 then pickEvents count n xs (x :: acc) else pickEvents count (n + 1) xs acc

/-- The ring events a window with EVCAP free records takes now. -/
def State.windowEvents (s : State) (e : CymEntry) : List RingEvent :=
  if e.cls = 2 ∧ e.dir = 0 then pickEvents s.evCount e.evcap (s.est.ring.foldl (fun l x => evInsert x l) []) [] else []

/-- The events of a window leave the unit. -/
def State.dropEvents (s : State) (l : List RingEvent) : State :=
  s.each l (fun s x =>
    let base : Tab Nat := if s.ring.evBc = s.cyc.bcIdx then s.ring.evSent else []
    { s with
      est := { s.est with ring := s.est.ring.erase x }
      ring := { s.ring with evBc := s.cyc.bcIdx, evSent := tabSet (fun _ => 0) base x.stn (tabGet (fun _ => 0) base x.stn + 1) } })

/-- The number of safety containers of this bc in a direction that stand in windows before window `w` (R326). -/
def State.safeBase (s : State) (dir w : Nat) : Nat :=
  sumOf (((s.windowsOf s.bcn).filter (fun e => e.cls == 6 && e.dir == dir && decide (e.w < w))).map (fun e => e.count))

/-- The station of container `i` of a bc: the `i`-th of the set in ascending number (R326). -/
def State.safeStation (s : State) (i : Nat) : Option Nat := s.ring.set_[i]?

/-- A container of zero bytes. -/
def zeroContainer : List Byte := List.replicate 16 0

/-- Downstream container `i` of this bc on a ring: as Keystone posted it for this bc, else zero bytes (R311, R326). -/
def State.container (s : State) (ring i : Nat) : List Byte :=
  match s.ring.safeTx.find? (fun x => x.1 == s.cyc.bcIdx) with
  | none => zeroContainer
  | some (_, a, b) => ((if ring = 0 then a else b)[i]?).getD zeroContainer

/-- The network time written into this bc's SYNC: the whole multiple of the bc period (R36, R234, R341). -/
def State.syncTime (s : State) : NetTime :=
  let n := bcCount s.cyc.rate s.nt
  let back := (bcIndexOf s.cyc.rate s.nt - s.cyc.bcIdx).toNat % 2 ^ 16
  ntOfFix ((n - back) * bcNs s.cyc.rate * 2 ^ 32)

/-- SYNC bytes 18 to 23 (R343): the holder's own lease, on the partner the bytes of the holder's heartbeat, zero on a head that is not paired. -/
def State.leaseBytes (s : State) : List Byte :=
  let role := s.f R.TWN_STAT_ROLE
  if !s.twin ∨ role = 0 then List.replicate 6 0
  else if s.twn.oldLease.isSome then (s.twn.oldLease.map (fun x => x.2)).getD []
  else if role = 1 ∨ role = 5 then
    bytesOf 1 (1 + 2 * s.pid + if s.flag R.TWN_STAT_PSEND then 4 else 0) ++ bytesOf 1 (s.f R.TWN_CFG_PRIO) ++ be16 (s.f R.TWN_EPOCH_LEXP) ++ [0, 0]
  else s.twn.lease

/-- The SYNC payload (R234). -/
def State.syncPayload (s : State) : List Byte :=
  let t := s.syncTime
  bytesOf 4 s.cyc.bcIdx.toNat ++ bytesOf 4 t.ns.toNat ++ bytesOf 6 t.sec.toNat ++ bytesOf 1 s.cyc.rate ++ bytesOf 1 (s.zlpF R.ZLP_CFG_BMODE) ++
    bytesOf 2 (s.f R.ZLP_CYMGEN_GEN) ++ s.leaseBytes ++ List.replicate 20 0

/-- Λup of a ring in 2^-4 ns, as the LUP field carries it. -/
def State.lup16 (s : State) (r : Nat) : Nat := s.f (R.ZLP_LOOP_LOOP (2 * r + 1)) * 20

/-- Big-endian bytes of a 32-bit number. -/
def be32 (n : Nat) : List Byte := be16 (n / 65536) ++ be16 n

/-- A DELAY payload (R256) with an assign area and `room` zero bytes for records. -/
def State.delayPayload (s : State) (phase round sep lup : Nat) (area : List Byte) (room : Nat) : List Byte :=
  bytesOf 1 phase ++ bytesOf 1 round ++ be16 0 ++ be32 sep ++ be32 lup ++ be16 (s.f R.ZLP_CYMGEN_GEN) ++ be16 area.length ++ area ++ List.replicate room 0

/-- The first waiting assign items that `room` bytes hold, in order of request (R260, R263). -/
def takeItems : Nat → List (Nat × List Byte) → List (Nat × List Byte)
  | _, [] => []
  | room, x :: xs => if x.2.length ≤ room then x :: takeItems (room - x.2.length) xs else []

/-- The largest payload that fits a window under R239, up to 1,494 bytes (R262). -/
def State.runPayloadLen (s : State) (e : CymEntry) : Nat :=
  let per := if s.zlpFlag R.ZLP_CFG_SPD then 1024 else 2560
  min 1494 ((e.len * 8 - s.guard) * 400 / per - 28)

/-- The assign area's room in a window's RUN frame: at most 208 bytes (R263), and what the frame holds (R239). -/
def State.itemRoom (s : State) (e : CymEntry) : Nat := min 208 (s.runPayloadLen e - 16)

/-- The assign items of the next RUN frame of a window. -/
def State.runItems (s : State) (e : CymEntry) : List (Nat × List Byte) := takeItems (s.itemRoom e) s.ring.items

/-- Is this window the one that carries RUN frames on a ring (R262)? -/
def State.isRunWindow (s : State) (e : CymEntry) (r : Nat) : Bool :=
  e.b == 0 && e.w == s.f R.ZLP_SCFG_RUNWIN && s.flag R.ZLP_SCFG_RUN_EN && e.cls == 3 && !s.ring.noRun.contains r

/-- The RUN payload of a ring (R256, R262). -/
def State.runPayload (s : State) (e : CymEntry) (r : Nat) : List Byte :=
  let area := (s.runItems e).flatMap (fun x => x.2)
  s.delayPayload 3 0 (e.start * 8) (s.lup16 r) area (s.runPayloadLen e - 16 - area.length)

/-- TYPE of a window's frame on a ring (R228, R237, R262). -/
def State.windowType (s : State) (e : CymEntry) (r : Nat) : Nat :=
  if e.cls = 1 then 1
  else if e.cls = 2 then (if e.dir = 0 then 2 else 3)
  else if e.cls = 3 then (if s.isRunWindow e r then 10 else 7)
  else if e.cls = 4 then 4
  else if e.cls = 5 then 5
  else 6

/-- The payload of a window's frame on a ring in half `h`. -/
def State.windowPayload (s : State) (e : CymEntry) (r h : Nat) (evs : List RingEvent) : List Byte :=
  if e.cls = 1 then s.syncPayload
  else if e.cls = 2 ∧ e.dir = 0 then
    s.cmdPayload e h ++ evs.flatMap eventRecord ++ List.replicate (12 * (e.evcap - evs.length)) 0
  else if e.cls = 5 then s.cmdPayload e h
  else if e.cls = 3 then (if s.isRunWindow e r then s.runPayload e r else bytesOf 2 s.ring.round ++ List.replicate 42 0)
  else if e.cls = 6 ∧ e.dir = 0 then
    let base := s.safeBase 0 e.w
    (List.range e.count).flatMap (fun i => s.container r (base + i))
  else List.replicate (payloadLen e) 0

/-! ## Sending -/

/-- Was a window's frame of this bc and half sent? -/
def State.wasSent (s : State) (w h : Nat) : Bool := tabGet (fun _ => none) s.ring.sent (2 * w + h) == some s.cyc.bcIdx

/-- The half in which a window's frame is due now and not sent. -/
def State.dueHalf (s : State) (e : CymEntry) : Option Nat :=
  (if isExpress e then [0, 1] else [0]).find? (fun h => decide (s.startOf e h ≤ s.sinceT0) && !s.wasSent e.w h)

/-- The feedback slots of an upstream window become invalid at its receive window (R101). -/
def State.closeSlots (s : State) (e : CymEntry) (h : Nat) : State :=
  if e.dir = 1 ∧ (e.cls = 2 ∨ e.cls = 4) ∧ e.src = 0 then
    s.each (List.range e.count) (fun s i =>
      let a := fbAddr (recordSlot e i h)
      if (s.deckWord a).toNat.testBit 31 then s.deckPut a (s.deckWord a &&& 0x7FFFFFFF) else s)
  else s

/-- Bad frame-buffer words met while a frame is built set `DCK_STAT.UE` (R108). -/
def State.markBufBad (s : State) (e : CymEntry) : State :=
  if e.src = 1 ∧ e.dir = 0 ∧ (List.range e.count).any (fun i => s.slotBad (0x70000 + 64 * recordSlot e i 0)) then s.set1 R.DCK_STAT_UE else s

/-- The part of a payload that pylons compare (R350): SYNC bytes 18 to 23 differ between the pylons by R343 and are left out (R348). -/
def comparePart (type : Nat) (p : List Byte) : List Byte := if type = 1 then p.take 18 ++ p.drop 24 else p

/-- Send a window's frame (R222, R223, R229, R238). For R350 the payload is kept as the partner must send it, on the other ring. -/
def State.windowSend (s : State) (e : CymEntry) (h : Nat) : State :=
  let evs := s.windowEvents e
  let held := s.sendHeld e
  let tx : List (Nat × List Byte) := if held then [] else (s.txPorts e).map (fun p =>
    let pay := s.windowPayload e p.2 h evs
    (p.1, frameBytes (s.headHeader (s.windowType e p.2) p.2 h e.w pay.length) pay))
  let r0 := if s.twin then 1 - s.pid else 0
  let crc := wordOf (crc32 (comparePart e.cls (s.windowPayload e r0 h evs)))
  let run := tx.any (fun x => s.isRunWindow e (ringOfPort x.1))
  let s0 := s.markBufBad e
  let s := (s0.closeSlots e h).when (!held && !evs.isEmpty) (fun t => t.dropEvents evs)
  { s with
    ring := { s.ring with
      lastTx := tx
      sent := tabSet (fun _ => none) s.ring.sent (2 * e.w + h) (some s.cyc.bcIdx)
      items := if run then s.ring.items.drop (s.runItems e).length else s.ring.items }
    twn := { s.twn with
      txCrc := if e.dir = 0 ∧ !held ∧ s.twin then
          tabSet (fun _ => none) s.twn.txCrc (2 * e.w + h) (some ((2 * s.cyc.bcIdx.toNat + h) % 65536, s0.windowType e r0, crc))
        else s.twn.txCrc } }

/-- ROUND of the next vacancy frame follows the returns seen so far (R235). -/
def State.nextRound (s : State) (e : CymEntry) : State :=
  s.when (s.ring.roundUp && e.cls == 3 && !(ringsOf e).any (fun r => s.isRunWindow e r))
    (fun s => { s with ring := { s.ring with round := s.ring.round + 1, roundUp := false } })

/-- May the head send window frames now: the span runs, its first SYNC has left, and no halt or lost collision has taken effect? -/
def State.ringSends (s : State) : Bool :=
  s.spanRuns && s.ring.live && !(match s.ring.haltAt with | some c => decide (c < s.cyc.t0) | none => false)

/-- WINDOW_SEND: window `w` of bc number `b`, at its START (R238). A station's own window is not the head's to send. -/
def execWindowSend (b w : Fin 64) (s : State) : Host.Outcome State Fault Refusal :=
  let e := s.cym b.val w.val
  if s.ringSends ∧ s.bcn = b.val ∧ e.cls ≠ 0 ∧ e.cls ≠ 7 ∧ s.headSent e then
    match s.dueHalf e with
    | some h => .next ((s.nextRound e).windowSend e h)
    | none => .next s
  else .next s

/-! ## Checks of a received frame -/

/-- A port error: its event, with the port's status bits (R20, R249, R400). -/
def State.portError (s : State) (p : Nat) : State := s.raise 0x4C p (wordOf ((s.reg (R.ZLP_P_STAT p)).toNat % 512))

/-- What the port finds of a whole frame. -/
inductive FrameCheck where
  | long | hcrc | type | fcs | good
  deriving DecidableEq, Repr

/-- The checks of a frame in their order (R226 to R228). -/
def frameCheck (bs : List Byte) : FrameCheck :=
  if 1518 < bs.length then .long
  else if !hcrcOk bs then .hcrc
  else if (bs.getD 0 0).toNat = 0 ∨ 11 < (bs.getD 0 0).toNat then .type
  else if !fcsOk bs then .fcs
  else .good

/-- Count a received frame and what is wrong with it (R226 to R228, R249). -/
def State.rxCount (s : State) (p : Nat) (fr : RxFrame) : State :=
  let s := s.incWrap (R.ZLP_P_RXCNT_COUNT p) 1
  match frameCheck fr.bytes with
  | .long => (s.set1 (R.ZLP_P_STAT_LONG p)).portError p
  | .hcrc => ((s.set1 (R.ZLP_P_STAT_HCRC_ERR p)).incSat (R.ZLP_P_HCRCCNT_COUNT p) 1).portError p
  | .type => (s.set1 (R.ZLP_P_STAT_BADTYPE p)).portError p
  | .fcs => ((s.set1 (R.ZLP_P_STAT_FCS_ERR p)).incSat (R.ZLP_P_FCSCNT_COUNT p) 1).portError p
  | .good => s

end Sys2Proof.Machine
end

