-- ==== Sys2Proof/Machine/Keystone.lean ====
section
/-! DEFINITION. Keystone's safety cycle (R308 to R324, R329): inputs, functions, zones, outputs, the force line, and entering FAULT. Each core holds its own inputs and
functions; an output or zone follows either core's demand. -/

namespace Sys2Proof.Machine

/-- Clocks of K0 in a safety cycle (R312). -/
def cycleClks : Nat := 20000

/-- A core's counter `n` milliseconds on. -/
def KCore.after (c : KCore) (n : Nat) : Nat := c.now + n * c.per

/-- One SYSCLK clk of a core's own counter (R21, R308): K0 runs at 200 MHz, K1 at 160 MHz. -/
def KCore.clkTick (c : KCore) : KCore := if 800000 ≤ (c.sub + 1) * c.per then { c with now := c.now + 1, sub := 0 } else { c with sub := c.sub + 1 }

/-! ## Inputs -/

/-- An input of a core. -/
def KCore.inp (c : KCore) (n : Nat) : SafeInput := tabGet (fun _ => SafeInput.idle) c.ins n

/-- Replace an input. -/
def KCore.putIn (c : KCore) (n : Nat) (x : SafeInput) : KCore := { c with ins := tabSet (fun _ => SafeInput.idle) c.ins n x }

/-- A function of a core. -/
def KCore.fn (c : KCore) (f : Nat) : SafeFunc := tabGet (fun _ => SafeFunc.waiting) c.fns f

/-- Replace a function. -/
def KCore.putFn (c : KCore) (f : Nat) (x : SafeFunc) : KCore := { c with fns := tabSet (fun _ => SafeFunc.waiting) c.fns f x }

/-- The test pulse in which the sample of cycle `c` lies (R314): that of cycle c - 1. -/
def pulseAt (tpp c : Nat) : Option Nat :=
  if c = 0 then none
  else
    let k := (c - 1) % max 1 tpp
    if k < 8 then some k else none

/-- One sample of a channel (R313, R314): the channel, whether the sample shows it stuck or cross-connected, and whether it has returned to its run level.
`own` is the test pulse that feeds it (8: none). -/
def chanSample (f own : Nat) (pulse : Option Nat) (raw level : Bool) (x : SafeChan) : SafeChan × Bool × Bool :=
  let cross : Bool := match x.hist with
    | (r1, p1) :: (r2, _) :: _ => p1.isSome && p1 != some own && !r1 && r2 && raw
    | _ => false
  let hist := ((raw, pulse) :: x.hist).take 2
  if own ≠ 8 ∧ pulse = some own then ({ x with hist := hist }, raw || cross, false)
  else
    let now := raw == level
    if now == x.run then ({ x with cnt := 0, hist := hist }, cross, false)
    else if f + 1 ≤ x.cnt + 1 then (⟨now, 0, hist⟩, cross, now)
    else ({ x with cnt := x.cnt + 1, hist := hist }, cross, false)

/-- The run level of channel B (R313); channel A's is high. -/
def runLevelB (ty : Nat) : Bool := ty != 2

/-- The state of an input after its channels' samples (R315). -/
def inputNext (ty : Nat) (x : SafeInput) (awayA awayB bad ret : Bool) : InputState :=
  if bad then .fault
  else if x.st = .fault then (if awayA && awayB then .demand else .fault)
  else if ty ≠ 4 ∧ ret ∧ !x.both then .fault
  else if awayA || awayB then .demand
  else .run

/-- An operation of a TYPE 4 input counts on its release after 100 ms to 3.0 s (R319). -/
def pressLen (per n : Nat) : Bool := decide (100 * per ≤ n) && decide (n ≤ 3000 * per)

/-- One cycle of an input (R313 to R315), at count `now` of a core of `per` clocks a millisecond. -/
def safeInputStep (m : Tab Byte) (n now per : Nat) (pulse : Option Nat) (ra rb : Bool) (x : SafeInput) : SafeInput :=
  let ty := inType m n
  if ty = 0 then x
  else
    let (ca, badA, retA) := chanSample (inF m n) (inTpa m n) pulse ra true x.a
    let (cb, badB, retB) := if ty = 4 then (x.b, false, false) else chanSample (inF m n) (inTpb m n) pulse rb (runLevelB ty) x.b
    let awayA := !ca.run
    let awayB := if ty = 4 then awayA else !cb.run
    let st := inputNext ty x awayA awayB (badA || badB) (retA || retB)
    let both := if awayA && awayB then true else if !awayA && !awayB then false else x.both
    let disc := if ty ≠ 4 ∧ awayA ≠ awayB then some (x.discAt.getD now) else none
    let press := if ty ≠ 4 ∨ st = .fault then none else if st = .run then some (x.pressAt.getD now) else none
    let op := ty == 4 && st == .demand && (match x.pressAt with
      | some p => pressLen per (now - p)
      | none => false)
    ⟨ca, cb, st, x.st, both, disc, press, op⟩

/-- All inputs of a core take a sample. -/
def KCore.sample (c : KCore) (m : Tab Byte) (pulse : Option Nat) (x : CoreSample) : KCore :=
  sixteen.foldl (fun c n => c.putIn n (safeInputStep m n c.now c.per pulse (x.a.toNat.testBit n) (x.b.toNat.testBit n) (c.inp n))) c

/-- Put an input in FAULT (R315, R321). -/
def KCore.faultIn (c : KCore) (n : Nat) : KCore := c.putIn n { c.inp n with st := .fault, pressAt := none }

/-- The ACK pair (R316): F = 1, run level closed; an operation is both closed for 1.0 to 5.0 s without a break, then both open. The second result: an operation was
ignored. -/
def KCore.ackStep (c : KCore) (x : CoreSample) : KCore × Bool :=
  let clk := c.now
  let (a, _, _) := chanSample 1 8 none x.ackA true c.ackA
  let (b, _, _) := chanSample 1 8 none x.ackB true c.ackB
  let disc := if a.run ≠ b.run then some (c.ackDisc.getD clk) else none
  let long : Bool := match disc with
    | some d => decide (d + 500 * c.per < clk)
    | none => false
  let bad := c.ackBad || long
  let closed := a.run && b.run
  let at_ := if !closed then c.ackAt else if c.ackLen.isSome then some clk else some (c.ackAt.getD clk)
  let len := if closed then none else match c.ackLen with
    | some n => some n
    | none => c.ackAt.map (fun p => clk - p)
  let c := { c with ackA := a, ackB := b, ackDisc := disc }
  if !a.run && !b.run then
    let ok : Bool := match len with
      | some n => decide (1000 * c.per ≤ n) && decide (n ≤ 5000 * c.per)
      | none => false
    ({ c with ackAt := none, ackLen := none, ackBad := false, ackOp := ok && !bad }, (len.isSome && !ok) || bad)
  else ({ c with ackAt := at_, ackLen := len, ackBad := bad, ackOp := false }, false)

/-! ## Functions -/

/-- Is an input named and in RUN? -/
def KCore.inRun (c : KCore) (n : Nat) : Bool := decide (n < 16) && (c.inp n).st == .run

/-- Did a TYPE 4 input end an operation in this cycle? -/
def KCore.opOf (c : KCore) (n : Nat) : Bool := decide (n < 16) && (c.inp n).op

/-- Start a function's demand under its category (R318, R320). -/
def KCore.demand (c : KCore) (m : Tab Byte) (f : Nat) (x : SafeFunc) : SafeFunc :=
  if fnCat m f = 1 then { x with dem := true, sto := false, t1 := some (c.after (fnT1 m f)) } else { x with dem := true, sto := true }

/-- A two-hand function (R322): both inputs reach RUN within 500 ms of each other after both have been out of RUN together. -/
def KCore.twoHand (c : KCore) (m : Tab Byte) (f : Nat) : KCore :=
  let a := c.inRun (fnIn1 m f)
  let b := c.inRun (fnIn2 m f)
  let x := c.fn f
  let x := if !a && !b then { x with out := true, at1 := none, at2 := none } else x
  let x := { x with at1 := if a && x.at1.isNone then some c.now else x.at1, at2 := if b && x.at2.isNone then some c.now else x.at2 }
  if a && b then
    if !x.dem then c.putFn f x
    else
      let close : Bool := match x.at1, x.at2 with
        | some p, some q => decide (p ≤ q + 500 * c.per) && decide (q ≤ p + 500 * c.per)
        | _, _ => false
      let go := x.out && close
      let c := if go then { c with resets := f :: c.resets } else c
      c.putFn f { x with out := false, dem := !go, sto := !go }
  else c.putFn f { x with dem := true, sto := true }

/-- The inputs of a function are all in RUN. -/
def KCore.inputsRun (c : KCore) (m : Tab Byte) (f : Nat) : Bool := c.inRun (fnIn1 m f) && (fnType m f != 2 || c.inRun (fnIn2 m f))

/-- The door of a guard lock has opened while it was locked: the lock monitor's input enters FAULT (R321). -/
def KCore.doorForced (c : KCore) (m : Tab Byte) (f : Nat) : KCore :=
  let d := fnIn1 m f
  if fnType m f = 2 ∧ d < 16 ∧ (c.inp d).was = .run ∧ (c.inp d).st ≠ .run ∧ !(c.fn f).lock ∧ c.inRun (fnIn2 m f) then c.faultIn (fnIn2 m f) else c

/-- One cycle of a function with a restart (R318 to R321). -/
def KCore.function (c : KCore) (m : Tab Byte) (f : Nat) : KCore :=
  let c := c.doorForced m f
  let lockType := fnType m f == 2
  let ok := c.inputsRun m f
  let rst := fnRst m f
  let rstOp := rst != 0xFF && c.opOf rst
  let reqOp := lockType && c.opOf (fnReq m f)
  let x := c.fn f
  let x := if reqOp then { x with req := true } else x
  let x := if (!ok || reqOp) && !x.dem then c.demand m f x else x
  if x.lock && rstOp && x.t1.isNone then
    let x := { x with lock := false, req := false, wait := if ok then none else some (c.after 1000) }
    if ok then ({ c with resets := f :: c.resets } : KCore).putFn f { x with dem := false, sto := false } else c.putFn f x
  else if ok && x.t1.isNone && !x.lock && (rstOp || (rst == 0xFF && x.dem) || x.wait.isSome) && !reqOp then
    ({ c with resets := f :: c.resets } : KCore).putFn f { x with dem := false, sto := false, req := false, wait := none }
  else c.putFn f { x with wait := if c.inRun (fnIn2 m f) then none else x.wait }

/-- All functions of a core in one cycle. While the span's rate differs from RATE every function demands (R331). -/
def KCore.functions (c : KCore) (m : Tab Byte) (rateDiff : Bool) : KCore :=
  sixteen.foldl (fun c f =>
    if fnType m f = 0 then c
    else
      let c := if fnType m f = 3 then c.twoHand m f else c.function m f
      if rateDiff then c.putFn f { c.fn f with dem := true, sto := true, t1 := none } else c) { c with resets := [] }

/-- The or of a list of bit sets. -/
def orAll (l : List Nat) : Nat := l.foldl (· ||| ·) 0

/-- The zones in STO of a core's functions and of lost stations (R317, R328). -/
def KCore.stoZones (c : KCore) (m : Tab Byte) : Nat :=
  orAll (sixteen.map (fun f => if fnType m f ≠ 0 ∧ (c.fn f).sto then fnZones m f else 0)) ||| orAll (c.lossDem.map (fun n => stnZones m n))

/-- The zones in STOP1: a timer runs and no function holds them in STO (R317). -/
def KCore.stop1Zones (c : KCore) (m : Tab Byte) (sto : Nat) : Nat :=
  orAll (sixteen.map (fun f => if fnType m f ≠ 0 ∧ (c.fn f).t1.isSome then fnZones m f else 0)) &&& (sto ^^^ 0xFFFF)

/-- Publish a core's zone states, with the count at which a zone entered STO. -/
def KCore.publish (c : KCore) (sto stop1 : Nat) : KCore :=
  { c with sto := sto, stop1 := stop1
           stoAt := sixteen.foldl (fun t z =>
             let was := tabGet (fun _ => none) t z
             tabSet (fun _ => none) t z (if sto.testBit z then some (was.getD c.now) else none)) c.stoAt }

/-- What a core publishes to the other (R311): input, function and zone states. -/
def KCore.published (c : KCore) (m : Tab Byte) : List InputState × List (Bool × Bool × Bool × Bool) × Nat × Nat :=
  let sto := c.stoZones m
  (sixteen.map (fun n => (c.inp n).st), sixteen.map (fun f => let x := c.fn f; (x.dem, x.sto, x.t1.isSome, x.lock)), sto, c.stop1Zones m sto)

/-! ## The island -/

/-- Change Keystone. -/
def State.putKst (s : State) (k : Keystone) : State := { s with kst := k }

/-- Change both cores alike. -/
def State.bothCores (s : State) (g : KCore → KCore) : State := s.putKst { s.kst with k0 := g s.kst.k0, k1 := g s.kst.k1 }

/-- Keystone's state (R310). -/
def State.kstState (s : State) : Nat := s.f R.KST_STAT_STATE

/-- Do the cores stand still: their PLL has not locked, and Keystone stays in reset, or KREF is lost (R29, R430)? -/
def State.kstHeld (s : State) : Bool := s.krefLost || !s.pllLocked 5

/-- The zones in STO, by either core. -/
def State.kstSto (s : State) : Nat := s.kst.k0.sto ||| s.kst.k1.sto

/-- Show the zones, with the safety-demand event when one enters STO (R317), the force line and the outputs. -/
def State.kstShow (s : State) (force : Bool) (cmd : Nat) : State :=
  let old := s.f R.KST_ZONE_STO
  let sto := s.kstSto
  let stop1 := (s.kst.k0.stop1 ||| s.kst.k1.stop1) &&& (sto ^^^ 0xFFFF)
  let s := (s.setF R.KST_ZONE_STO sto).setF R.KST_ZONE_STOP1 stop1
  let s := s.when ((sto ^^^ (sto &&& old)) != 0) (fun s => s.raise 0x60 0 (s.reg R.KST_ZONE))
  let s := (s.setB R.KST_STAT_FORCE force).kstForce force
  (s.setF R.KST_OUT_ON cmd).putKst { s.kst with cmd := cmd }

/-- Every zone in STO, every output off, the force line asserted: every state but RUN (R310). -/
def State.kstAllOff (s : State) : State := (s.bothCores (fun c => c.publish 0xFFFF 0)).kstShow true 0

/-- Keystone enters FAULT (R311): the first cause stands. The containers are sent as zero bytes. -/
def State.kstFault (s : State) (cause : Nat) : State :=
  if s.kstState = 5 ∨ s.kstHeld then s
  else
    let s := ((s.setF R.KST_STAT_STATE 5).setF R.KST_STAT_FCAUSE cause).kstAllOff
    let s : State := { s with ring := { s.ring with safeTx := [] } }
    s.raise 0x62 cause 0

/-- A change of state within the Falsework procedure, with its event (R334). -/
def State.kstStep (s : State) (st : Nat) : State := (s.setF R.KST_STAT_STATE st).raise 0x64 st (wordOf (s.f R.KST_FW_STAT_RES))

/-- Enter RUN with an image: every function awaits reset (R333, R334). With a new image every input starts anew, and its first test pulses belong to cycle 0,
which starts with the next sample (R314, R444). -/
def State.kstRun (s : State) (m : Tab Byte) (fresh : Bool) : State :=
  let g (c : KCore) : KCore := { c with fns := [], ins := if fresh then [] else c.ins, resets := [] }
  let s := s.bothCores g
  let cycle := if fresh then 0 else s.kst.cycle
  (s.putKst { s.kst with img := m, hasImg := true, xdiff := false, stops := [], cycle := cycle }).setF R.KST_STAT_STATE 1

/-- Abort: the image before is restored and runs; without one Keystone stays in BOOT (R334). -/
def State.kstAbort (s : State) : State :=
  if s.kst.hasImg then
    let s := (s.fillWindow s.kst.img).kstRun s.kst.img false
    s.raise 0x64 1 (wordOf (s.f R.KST_FW_STAT_RES))
  else if s.kstState = 0 then s
  else s.kstStep 0

/-- An ACK operation seen by both cores advances Falsework (R334): FW_ARM to FW_LOAD, FW_CONFIRM to RUN with the confirmed image. -/
def State.kstAck (s : State) : State :=
  let st := s.kstState
  if st = 2 then
    let s := s.putKst { s.kst with fwEnd := s.kst.k0.after 1800000 }
    s.kstStep 3
  else if st = 4 then
    let v := s.reg R.KST_PCV_NEW
    let s := ((s.putReg R.KST_PCV v).clr R.KST_STAT_PCV_BAD).clr R.KST_STAT_CONF_EMPTY
    let s := s.putKst { s.kst with conf := some v }
    let s := (s.setF R.KST_FW_STAT_RES 1).kstRun s.winImage true
    s.raise 0x64 1 1
  else s

/-! ## Publication -/

/-- Is output `n` on by its mode (R323), for a core? -/
def KCore.outOn (c : KCore) (m : Tab Byte) (n : Nat) : Bool :=
  match outMode m n with
  | 0 => false
  | 2 => sixteen.any (fun f => fnType m f == 2 && fnLock m f == n && (c.fn f).lock)
  | _ => (outZones m n &&& c.sto) == 0

/-- Is the present cycle output `n`'s off-test? -/
def offTest (m : Tab Byte) (n cycle : Nat) : Bool := outTop m n != 0 && cycle % (outTop m n * 100) == 0

/-- The outputs commanded on in the coming cycle: both cores toggle, no read-back fault, no off-test. -/
def State.kstCommand (s : State) : Nat :=
  let m := s.kst.img
  let flt := s.f R.KST_OUT_FLT
  sumOf ((List.range 4).map (fun n =>
    if s.kst.k0.outOn m n && s.kst.k1.outOn m n && !flt.testBit n && !offTest m n s.kst.cycle then 2 ^ n else 0))

/-- The bit set of the indices below 16 that pass a test. -/
def bits16 (p : Nat → Bool) : Nat := sumOf (sixteen.map (fun n => if p n then 2 ^ n else 0))

/-- Show inputs and functions. A demanding function shows in RSTW until it is cleared (R319). -/
def State.kstMirror (s : State) : State :=
  let k0 := s.kst.k0
  let k1 := s.kst.k1
  let m := s.kst.img
  let run (n : Nat) : Bool := inType m n != 0 && (k0.inp n).st == .run && (k1.inp n).st == .run
  let flt (n : Nat) : Bool := (k0.inp n).st == .fault || (k1.inp n).st == .fault
  let dem (f : Nat) : Bool := fnType m f != 0 && ((k0.fn f).dem || (k1.fn f).dem)
  let s := (s.setF R.KST_IN_RUN (bits16 run)).setF R.KST_IN_FLT (bits16 flt)
  if s.kstState = 1 then (s.setF R.KST_FUNC_DEM (bits16 dem)).setF R.KST_FUNC_RSTW (bits16 dem)
  else (s.setF R.KST_FUNC_DEM 0xFFFF).setF R.KST_FUNC_RSTW 0

/-- Functions reset in both cores end read-back faults of their zones' outputs, and the latches of stations of their zones (R323, R328). -/
def State.kstResets (s : State) : State :=
  let m := s.kst.img
  let fs := s.kst.k0.resets.filter (fun f => s.kst.k1.resets.contains f)
  let zones := orAll (fs.map (fun f => fnZones m f))
  let s := s.setF R.KST_OUT_FLT (sumOf ((List.range 4).map (fun n =>
    if (s.f R.KST_OUT_FLT).testBit n && (zones &&& outZones m n) == 0 && !(outMode m n == 2 && fs.any (fun f => fnLock m f == n)) then 2 ^ n else 0)))
  let keep (n : Nat) : Bool := (zones &&& stnZones m n) == 0
  let s := s.bothCores (fun c => { c with lossDem := c.lossDem.filter keep, resets := [] })
  s.putKst { s.kst with stn := (List.range 256).foldl (fun t n =>
    let x := tabGet (fun _ => StnWatch.none_) t n
    if x.wdx && !keep n then tabSet (fun _ => StnWatch.none_) t n { x with wdx := false } else t) s.kst.stn }

/-- The span's rate differs from RATE, until it agrees and, in RUN, the functions are reset (R331). -/
def State.kstRateBad (s : State) : State :=
  let m := s.kst.img
  let waits := sixteen.any (fun f => fnType m f != 0 && ((s.kst.k0.fn f).dem || (s.kst.k1.fn f).dem))
  if s.kst.rateDiff then s.set1 R.KST_STAT_RATE_BAD
  else if waits ∨ s.kstState ≠ 1 then s
  else s.clr R.KST_STAT_RATE_BAD

/-- Publish the results of the cycle that ends (R312, R317, R323, R324). -/
def State.kstResults (s : State) : State :=
  let m := s.kst.img
  let all := s.flag R.KST_STAT_RATE_BAD
  let s := s.bothCores (fun c =>
    let sto := if all then 0xFFFF else c.stoZones m
    c.publish sto (c.stop1Zones m sto))
  let stops := s.kst.stops
  let s := s.kstShow ((s.kstSto &&& imgPwmz m) != 0) s.kstCommand
  let s := s.each stops (fun s f => s.raise 0x61 f 0)
  s.putKst { s.kst with stops := [] }

/-- The crossed comparator (R311). -/
def State.kstCross (s : State) : State :=
  let diff := s.kst.k0.published s.kst.img != s.kst.k1.published s.kst.img
  if !diff then s.putKst { s.kst with xdiff := false }
  else if s.kst.xdiff then s.kstFault 1
  else (s.incSat R.KST_XCMP_CNT_COUNT 1).putKst { s.kst with xdiff := true }

/-- The end of a cycle: a cause found in it acts, an ACK operation acts, the results are published. -/
def State.kstPublish (s : State) : State :=
  if s.kst.fc ≠ 0 then (s.putKst { s.kst with fc := 0 }).kstFault s.kst.fc
  else
    let ack := s.kst.k0.ackOp && s.kst.k1.ackOp
    let s := s.when ack (fun s => s.kstAck)
    let s := s.bothCores (fun c => { c with ackOp := false })
    let s := s.when s.kst.hasImg (fun s => s.kstCross)
    if s.kstState = 5 then s
    else
      let s := s.when (s.kstState == 1) (fun s => s.kstResets)
      let s := s.when s.kst.hasImg (fun s => s.kstRateBad)
      (if s.kstState = 1 then s.kstResults else s.kstAllOff).kstMirror

/-! ## Sampling -/

/-- Read-backs of the outputs against the cycle that ends (R323): off by either core while commanded on is the output's fault, on by either while commanded off FAULT
cause 6. -/
def State.kstReadBack (s : State) (x : SafetySample) : State :=
  let all := x.k0.rbA &&& x.k0.rbB &&& x.k1.rbA &&& x.k1.rbB
  let some_ := x.k0.rbA ||| x.k0.rbB ||| x.k1.rbA ||| x.k1.rbB
  let off (n : Nat) : Bool := s.kst.cmd.testBit n && !all.toNat.testBit n
  let on (n : Nat) : Bool := !s.kst.cmd.testBit n && some_.toNat.testBit n
  let s := s.setF R.KST_OUT_FLT (s.f R.KST_OUT_FLT ||| sumOf ((List.range 4).map (fun n => if off n then 2 ^ n else 0)))
  if s.kst.fc = 0 ∧ (List.range 4).any on then s.putKst { s.kst with fc := 6 } else s

/-- Is a test-pulse output read back at a wrong level (R311, R314)? The core that does not drive it reads it. -/
def pulseBad (pulse : Option Nat) (x : SafetySample) : Bool :=
  (List.range 8).any (fun k => (if k % 2 = 0 then x.k1 else x.k0).tp.toNat.testBit k == (pulse == some k))

/-- Inputs of a core newly in FAULT. -/
def newFaults (a b : KCore) : List Nat := sixteen.filter (fun n => (a.inp n).st != .fault && (b.inp n).st == .fault)

/-- Both cores sample and evaluate (R312 steps 1 and 2). -/
def State.kstEvaluate (s : State) (x : SafetySample) : State :=
  let m := s.kst.img
  let pulse := pulseAt (imgTpp m) s.kst.cycle
  let eval (c : KCore) (y : CoreSample) : KCore :=
    let c := c.sample m pulse y
    if s.kstState = 1 then c.functions m s.kst.rateDiff else c
  let k0 := eval s.kst.k0 x.k0
  let k1 := eval s.kst.k1 x.k1
  let flt := (sixteen.filter (fun n => (newFaults s.kst.k0 k0).contains n || (newFaults s.kst.k1 k1).contains n)).length
  let started (a b : KCore) (f : Nat) : Bool := (a.fn f).t1.isNone && (b.fn f).t1.isSome
  let stops := sixteen.filter (fun f => started s.kst.k0 k0 f || started s.kst.k1 k1 f)
  let fc := if s.kst.fc = 0 ∧ s.kst.cycle ≠ 0 ∧ pulseBad pulse x then 7 else s.kst.fc
  (s.incSat R.KST_IFLT_CNT_COUNT flt).putKst { s.kst with k0 := k0, k1 := k1, fc := fc, stops := s.kst.stops ++ stops }

/-- The ACK pair and the supplies. -/
def State.kstPins (s : State) (x : SafetySample) : State :=
  let (k0, bad0) := s.kst.k0.ackStep x.k0
  let (k1, bad1) := s.kst.k1.ackStep x.k1
  let s := s.putKst { s.kst with k0 := k0, k1 := k1 }
  let s := s.when (bad0 || bad1) (fun s => s.incSat R.KST_ACK_CNT_COUNT 1)
  let s := s.setF R.KST_OUT_ACK ((if x.k0.ackA then 1 else 0) + if x.k0.ackB then 2 else 0)
  (s.setB R.KST_SUPPLY_V08_OK x.v08).setB R.KST_SUPPLY_V33_OK x.v33

/-- SAFETY_CYCLE (R309 to R324): the sample is taken, the results of the cycle that ends are published, and the new sample is evaluated. In FAULT and without
KREF the cores do nothing. -/
def execSafetyCycle (smp : SafetySample) (s : State) : Host.Outcome State Fault Refusal :=
  if s.kst.cycleAt ≤ s.kst.k0.now then
    let s := s.putKst { s.kst with cycleAt := s.kst.k0.now + cycleClks }
    if s.kstHeld ∨ s.kstState = 5 then .next s
    else
      let s := (s.kstReadBack smp).kstPublish
      if s.kstState = 5 then .next s
      else
        let s := s.kstPins smp
        let s := s.when s.kst.hasImg (fun s => s.kstEvaluate smp)
        .next (s.putKst { s.kst with cycle := s.kst.cycle + 1 })
  else .next s

/-! ## Timers and causes -/

/-- One SYSCLK clk of the cores' counters, which run on the Keystone PLL whatever SYSCLK does (R21, R308); a core without its clock stands still. -/
def State.kstTick (s : State) : State := if s.kstHeld then s else s.bothCores KCore.clkTick

/-- May the cores act? -/
def State.kstAlive (s : State) : Bool := !s.kstHeld && s.kstState != 5

/-- DISCREPANCY_TIMEOUT: the channels have disagreed for longer than T_D (R315). -/
def execDiscrepancyTimeout (n : Fin 16) (s : State) : Host.Outcome State Fault Refusal :=
  let late (c : KCore) : Bool := (c.inp n.val).st != .fault && (match (c.inp n.val).discAt with
    | some d => decide (d + inTd s.kst.img n.val * c.per < c.now)
    | none => false)
  let l0 := late s.kst.k0
  let l1 := late s.kst.k1
  if s.kstAlive ∧ (l0 || l1) then
    let s := s.putKst { s.kst with k0 := if l0 then s.kst.k0.faultIn n.val else s.kst.k0, k1 := if l1 then s.kst.k1.faultIn n.val else s.kst.k1 }
    .next (s.incSat R.KST_IFLT_CNT_COUNT 1)
  else .next s

/-- CAT1_TIMER_EXPIRY: the function demands STO (R320). -/
def execCat1TimerExpiry (f : Fin 16) (s : State) : Host.Outcome State Fault Refusal :=
  if s.kstAlive then
    .next (s.bothCores (fun c => match (c.fn f.val).t1 with
      | some e => if e ≤ c.now then c.putFn f.val { c.fn f.val with t1 := none, sto := true } else c
      | none => c))
  else .next s

/-- UNLOCK_DELAY_EXPIRY: all zones of the function have been in STO for T_UNLOCK after a request; the lock output is switched on (R321). -/
def execUnlockDelayExpiry (f : Fin 16) (s : State) : Host.Outcome State Fault Refusal :=
  if s.kstAlive ∧ s.kstState = 1 ∧ fnType s.kst.img f.val = 2 then
    let m := s.kst.img
    .next (s.bothCores (fun c =>
      let x := c.fn f.val
      let rest := sixteen.all (fun z => !(fnZones m f.val).testBit z || (match tabGet (fun _ => none) c.stoAt z with
        | some t => decide (t + fnTUnlock m f.val * c.per ≤ c.now)
        | none => false))
      if x.req && x.sto && rest then c.putFn f.val { x with lock := true, req := false } else c))
  else .next s

/-- LOCK_MONITOR_TIMEOUT: IN2 has not reached RUN within 1.0 s of the reset and enters FAULT (R321). -/
def execLockMonitorTimeout (f : Fin 16) (s : State) : Host.Outcome State Fault Refusal :=
  let m := s.kst.img
  let late (c : KCore) : Bool := fnType m f.val == 2 && !c.inRun (fnIn2 m f.val) && (match (c.fn f.val).wait with
    | some t => decide (t ≤ c.now)
    | none => false)
  let act (c : KCore) : KCore := (c.faultIn (fnIn2 m f.val)).putFn f.val { c.fn f.val with wait := none }
  let l0 := late s.kst.k0
  let l1 := late s.kst.k1
  if s.kstAlive ∧ (l0 || l1) then
    let new := (l0 && (s.kst.k0.inp (fnIn2 m f.val)).st != .fault) || (l1 && (s.kst.k1.inp (fnIn2 m f.val)).st != .fault)
    let s := s.putKst { s.kst with k0 := if l0 then act s.kst.k0 else s.kst.k0, k1 := if l1 then act s.kst.k1 else s.kst.k1 }
    .next (s.when new (fun s => s.incSat R.KST_IFLT_CNT_COUNT 1))
  else .next s

/-- SUPPLY_MONITOR_FAULT (R311 causes 3 and 4, R448). -/
def execSupplyMonitorFault (rail : Rail) (s : State) : Host.Outcome State Fault Refusal :=
  match rail with
  | .vdd08 => .next ((s.clr R.KST_SUPPLY_V08_OK).kstFault 3)
  | .vdd33 => .next ((s.clr R.KST_SUPPLY_V33_OK).kstFault 4)

/-- KEYSTONE_SELF_TEST: every 1 s; an error is FAULT cause 2 (R311). -/
def execKeystoneSelfTest (ok : Bool) (s : State) : Host.Outcome State Fault Refusal :=
  if s.kstAlive ∧ s.kst.testAt + 1000 * s.kst.k0.per ≤ s.kst.k0.now then
    let s := s.putKst { s.kst with testAt := s.kst.k0.now }
    .next (if ok then s else s.kstFault 2)
  else .next s

end Sys2Proof.Machine
end

