-- ==== Sys2Proof/Machine/RingStart.lean ====
section
/-! DEFINITION. Ring start and halt (R4, R5, R69, R94, R240 to R245, R251 to R262): listening, delay measurement, the station set, the checks of the matrix, assignment, and the
first SYNC. -/

namespace Sys2Proof.Machine

/-! ## Refusal and stop -/

/-- The head sends no more frames and the span is IDLE (R251, R252). -/
def State.spanStop (s : State) : State :=
  let s := ((s.setF R.ZLP_SSTAT_STATE 0).setF R.ZLP_BUDGET_BUDGET 0).setF R.ZLP_SSTAT_NST 0
  { s with ring := { s.ring with
      live := false, haltAt := none, collReq := false, use := [], meas := [], steps := [], stepAt := none, activeBc := none, joined := [], set_ := [], items := [], seen := [], seenRings := [], presence := [], absentAt := [], rerun := []
      syncMiss := [], syncBc := [], safeTx := [] } }

/-- The status bit of a refused start (R248). -/
def State.startBad (s : State) (status : Nat) : State :=
  if status = stParam then s.set1 R.ZLP_STAT_PAR_BAD
  else if status = stCapacity then s.set1 R.ZLP_STAT_CAP_BAD
  else if status = stTiming then s.set1 R.ZLP_STAT_TIM_BAD
  else s

/-- Why a start is refused: status, check code, and the bc number and window of the failed check (R241, R253, R385). -/
structure StartRefusal where
  status : Nat
  code : Nat
  b : Nat
  w : Nat
  deriving DecidableEq, Repr

/-- Refuse the start: the span is IDLE again, the code shows in `ZLP_FAULT`, the event is raised and the packet completes (R253, R276, R385). -/
def State.startRefuse (s : State) (x : StartRefusal) : State :=
  let s := s.spanStop
  let s := ((s.setF R.ZLP_FAULT_CODE x.code).setF R.ZLP_FAULT_BCN x.b).setF R.ZLP_FAULT_WIN x.w
  let s := (s.startBad x.status).raise 0x40 0 (s.reg R.ZLP_FAULT)
  s.endWaits isRingStart 16 x.status (x.code + 256 * x.b) []

/-! ## Steps 1 and 2 -/

/-- Do the head's own ports of a ring show LINK (R253 step 1, R337)? -/
def State.ringLinked (s : State) (r : Nat) : Bool :=
  let up (p : Nat) : Bool := s.flag (R.ZLP_P_CFG_EN p) && s.flag (R.ZLP_P_STAT_LINK p)
  (!s.hasX0 r || up (portX0 r)) && (!s.hasX1 r || up (portX1 r))

/-- The rings a start goes on with when those of `ok` pass: both, or one under R254. -/
def State.startRings (s : State) (ok : List Nat) : Option (List Nat) :=
  if ok.length = 2 then some ok
  else if ok.length = 1 ∧ s.flag R.ZLP_SCFG_DEGR ∧ !s.zlpFlag R.ZLP_CFG_BMODE then some ok
  else none

/-- The listen time in clk (R253 step 2). -/
def State.listenTime (s : State) : Nat := (if s.f R.ZLP_SCFG_ROLE = 2 then 8 else 2) * 64 * bcClk (s.f R.ZLP_CFG_RATE)

/-- The lease of a pair that starts: to the pylon of higher priority, or to PID 0 (R354). -/
def State.startRole (s : State) : State :=
  if s.twin then
    let own := s.f R.TWN_CFG_PRIO
    let other := s.f R.TWN_PARTNER_PRIO
    let mine := decide (other < own) || (own == other && s.pid == 0)
    let s : State := { s with twn := { s.twn with frozen := false } }
    (s.setF R.TWN_STAT_ROLE (if mine then 1 else 2)).setF R.TWN_EPOCH_EPOCH 1
  else s

/-- The bc rate is taken up (R36, R248, R279): the present index is that of the new rate. -/
def State.takeRate (s : State) : State :=
  let rate := s.f R.ZLP_CFG_RATE
  let i := bcIndexOf rate s.ntSync
  { s with cyc := { s.cyc with rate := rate, bcIdx := i, mark := i } }

/-- While no span runs, the bc rate follows `ZLP_CFG.RATE` (R279; log entry 97). -/
def State.idleRate (s : State) : State :=
  s.when (s.f R.ZLP_SSTAT_STATE == 0 && s.cyc.rate != s.f R.ZLP_CFG_RATE) (fun s => s.takeRate)

/-- The ring reads `ZLP_CFG` and `ZLP_GUARD` (R248). -/
def State.takeCfg (s : State) : State :=
  let s := s.takeRate
  { s with ring := { s.ring with cfg := s.reg R.ZLP_CFG, band := s.f R.ZLP_GUARD_GUARD } }

/-- RING_START on an IDLE span, or the status that refuses it at once (R224, R253, R354, R385). -/
def State.ringStart (s : State) (t : Option PktTag) : State :=
  if s.f R.ZLP_SSTAT_STATE ≠ 0 then s.finishOpt t 16 stState noWord []
  else if s.twin ∧ !s.twn.paired then s.finishOpt t 16 stState noWord []
  else
    let s := s.addWait t .ringStart
    if s.f R.ZLP_CFG_SPAN = 255 then s.startRefuse ⟨stParam, 0, 0, 0⟩
    else
      let s := (s.incWrap R.ZLP_CYMGEN_GEN 1).putReg R.ZLP_FAULT 0
      let s := ((((s.clr R.ZLP_STAT_XOFF).clr R.ZLP_STAT_XMEAS).putReg R.ZLP_RSTAT 0).putReg R.ZLP_BRK 0).clr R.ZLP_SSTAT_NOJOIN
      let s := (s.setF R.ZLP_SSTAT_STATE 1).takeCfg
      match s.startRings ([0, 1].filter (fun r => s.ringLinked r)) with
      | none => s.startRefuse ⟨stTiming, 10, 0, 0⟩
      | some use =>
        let s := s.startRole
        { s with ring := { s.ring with use := use, listenEnd := s.clk + s.listenTime, noRun := [] } }

/-! ## Delay measurement -/

/-- The measurement of a ring. -/
def State.meas (s : State) (r : Nat) : RingMeas := tabGet (fun _ => RingMeas.none_) s.ring.meas r

/-- Change the measurement of a ring. -/
def State.putMeas (s : State) (r : Nat) (m : RingMeas) : State :=
  { s with ring := { s.ring with meas := tabSet (fun _ => RingMeas.none_) s.ring.meas r m } }

/-- The time a MEASURE or REPORT frame has to return, in clk: the budget plus 20 µs (R253). -/
def State.returnLimit (s : State) : Nat := budgetOf s.cyc.rate + 16000

/-- A DELAY frame of the head on a ring. -/
def State.delayFrame (s : State) (ring dst : Nat) (payload : List Byte) : List Byte :=
  frameBytes { s.headHeader 10 ring 0 0 payload.length with dst := dst } payload

/-- Send a MEASURE round on a ring: one frame from x0 and one from x1 on the same clk (R255). -/
def State.sendRound (s : State) (r : Nat) : State :=
  let m := s.meas r
  let fr := s.delayFrame r (s.ownAddr + 255) (s.delayPayload 0 m.round 0 0 [] 0)
  let tx := (if s.hasX0 r then [(portX0 r, fr)] else []) ++ (if s.hasX1 r then [(portX1 r, fr)] else [])
  let s := s.putMeas r { m with sentAt := s.clk, dn := none, up := none }
  { s with ring := { s.ring with lastTx := s.ring.lastTx ++ tx } }

/-- Has the holder shown over the PAIR link that it has left LISTEN (R354)? -/
def State.holderLeft (s : State) : Bool := match s.twn.info with
  | some i => i.left
  | none => false

/-- May this head leave LISTEN now? A single head after its listen time, the holder of a pair at once, the partner once the holder has left it (R253, R354). With the PAIR link
down the listen time holds for a pylon too. -/
def State.listenOver (s : State) : Bool :=
  s.f R.ZLP_SSTAT_STATE == 1 && (if s.twin && s.twn.linkUp then s.f R.TWN_STAT_ROLE == 1 || s.holderLeft else decide (s.ring.listenEnd ≤ s.clk))

/-- A step of a start that sends frames: a head alone takes it at once; in a pair it waits for the clk that the holder names, which the holder chooses within a bc (R354; log
entry 98). -/
def State.startStep (s : State) (x : StartStep) (g : State → State) : State :=
  if s.twin then
    let s : State := { s with ring := { s.ring with steps := s.ring.steps ++ [x] } }
    if s.f R.TWN_STAT_ROLE = 1 ∧ s.ring.stepAt.isNone then
      ({ s with ring := { s.ring with stepAt := some (s.clk + 1 + s.freeNow.toNat % s.nBc) } } : State).drewFree
    else s
  else g s

/-- LISTEN_TIME_END (R251, R253, R255). -/
def execListenTimeEnd (s : State) : Host.Outcome State Fault Refusal :=
  if s.listenOver then
    let s := s.setF R.ZLP_SSTAT_STATE 2
    let s : State := { s with ring := { s.ring with lastTx := [], meas := [] } }
    .next (s.each s.ring.use (fun s r => s.startStep (.round r) (fun s => s.sendRound r)))
  else .next s

/-- The sum of 16 loop delays of a rotation; a rotation that another pylon receives is taken equal to the other one (log entry 52). -/
def State.lamSum (s : State) (r : Nat) (up : Bool) : Nat :=
  let m := s.meas r
  if up then (if s.hasX0 r then m.sumUp else m.sumDn) else (if s.hasX1 r then m.sumDn else m.sumUp)

/-- The loop delay of a rotation in 1/400 clk: the mean of R255. -/
def State.lam400 (s : State) (r : Nat) (up : Bool) : Nat := s.lamSum r up * 25

/-- Show the measured loop delays in clk (R248), to the nearest clk. -/
def State.showLoops (s : State) : State :=
  s.each s.ring.use (fun s r =>
    (s.setF (R.ZLP_LOOP_LOOP (2 * r)) ((s.lamSum r false + 8) / 16)).setF (R.ZLP_LOOP_LOOP (2 * r + 1)) ((s.lamSum r true + 8) / 16))

/-- Room for one record of every possible station (R256). -/
def reportRoom : Nat := 5 * 254

/-- Send the REPORT frames (R253 step 4). -/
def State.sendReports (s : State) : State :=
  let s := s.showLoops
  s.each s.ring.use (fun s r =>
    let fr := s.delayFrame r (s.ownAddr + 255) (s.delayPayload 1 0 0 (s.lamSum r true * 5 / 4) [] reportRoom)
    let tx := if s.hasX1 r then [(portX1 r, fr)] else []
    let s := s.putMeas r { s.meas r with sentAt := s.clk, recs := none }
    { s with ring := { s.ring with lastTx := s.ring.lastTx ++ tx } })

/-- Have all rings in use made their 16 rounds? -/
def State.measured (s : State) : Bool := s.ring.use.all (fun r => (s.meas r).round == 16)

/-- A round of a ring is complete: sum it and start the next, or the REPORT once every ring is measured (R255). -/
def State.roundDone (s : State) (r : Nat) : State :=
  let m := s.meas r
  let s := s.putMeas r { m with round := m.round + 1, sumDn := m.sumDn + m.dn.getD 0, sumUp := m.sumUp + m.up.getD 0, dn := none, up := none }
  if m.round + 1 < 16 then s.startStep (.round r) (fun s => s.sendRound r)
  else if s.measured then s.startStep .report (fun s => s.sendReports)
  else s

/-- Is a received frame a valid DELAY frame of this head with a phase (R227, R256)? -/
def State.ownDelay (s : State) (fr : RxFrame) (phase : Nat) : Bool :=
  let h := parseHeader fr.bytes
  hcrcOk fr.bytes && fcsOk fr.bytes && h.type == 10 && h.src == s.ownAddr && h.dst / 256 == s.zlpF R.ZLP_CFG_SPAN && h.hid == s.zlpF R.ZLP_CFG_HID &&
    ((payloadOf fr.bytes).getD 0 0).toNat == phase

/-- DELAY_FRAME_RETURN (R255). -/
def execDelayFrameReturn (port : Fin 6) (fr : RxFrame) (s : State) : Host.Outcome State Fault Refusal :=
  let r := ringOfPort port.val
  let m := s.meas r
  let up := !isX1 port.val
  let s := s.when (decide (port.val < 4)) (fun s => s.rxCount port.val fr)
  if port.val < 4 ∧ s.f R.ZLP_SSTAT_STATE = 2 ∧ s.ring.use.contains r ∧ m.round < 16 ∧ s.ownDelay fr 0 ∧
      ((payloadOf fr.bytes).getD 1 0).toNat = m.round ∧ (if up then m.up.isNone else m.dn.isNone) ∧ m.sentAt ≤ fr.sfd then
    let d := fr.sfd - m.sentAt
    let m := if up then { m with up := some d } else { m with dn := some d }
    let s : State := { s.putMeas r m with ring := { (s.putMeas r m).ring with lastTx := [] } }
    if (!s.hasX1 r || m.dn.isSome) && (!s.hasX0 r || m.up.isSome) then .next (s.roundDone r) else .next s
  else .next s

/-- The rings whose frame of the present phase has not returned in time (R253 steps 3 and 4). -/
def State.lateRings (s : State) : List Nat :=
  s.ring.use.filter (fun r =>
    let m := s.meas r
    decide (m.sentAt + s.returnLimit < s.clk) && 
      ((decide (m.round < 16) && !s.ring.steps.contains (.round r)) || (s.measured && !s.ring.steps.contains .report && m.recs.isNone)))

/-- MEASURE_TIMEOUT: in MEASURE a ring may drop out under R254, otherwise the start is refused with code 10 (R253). -/
def execMeasureTimeout (s : State) : Host.Outcome State Fault Refusal :=
  let late := s.lateRings
  if s.f R.ZLP_SSTAT_STATE = 2 ∧ late ≠ [] then
    if s.measured then .next (s.startRefuse ⟨stTiming, 10, 0, 0⟩)
    else match s.startRings (s.ring.use.filter (fun r => !late.contains r)) with
      | none => .next (s.startRefuse ⟨stTiming, 10, 0, 0⟩)
      | some use =>
        let s : State := { s with ring := { s.ring with use := use, lastTx := [] } }
        .next (if s.measured then s.startStep .report (fun s => s.sendReports) else s)
  else .next s

/-! ## The station set -/

/-- The records of a REPORT or RUN payload (R256, R257): record r comes from the station at position HOPS - r. -/
def parseRecords (p : List Byte) : List StnRec :=
  let hops := natBe (sliceOf p 2 2)
  let alen := natBe (sliceOf p 14 2)
  (List.range hops).filterMap (fun r =>
    let x := sliceOf p (16 + alen + 5 * r) 5
    if x.length = 5 then
      let st := (x.getD 1 0).toNat
      some ⟨(x.getD 0 0).toNat, if 5 < st then 0 else st, natBe (x.drop 2), hops - r⟩
    else none)

/-- The records of a ring; where only the partner receives that ring's REPORT, those of the ring this pylon receives (log entry 52). -/
def State.ringRecs (s : State) (r : Nat) : List StnRec :=
  if s.hasX0 r then (s.meas r).recs.getD []
  else (s.meas (1 - r)).recs.getD []

/-- Are the numbers 1 to 254, each once? -/
def recsOk (l : List StnRec) : Bool := l.all (fun x => decide (1 ≤ x.stn) && decide (x.stn ≤ 254) && l.countP (fun y => y.stn == x.stn) == 1)

/-- The stations of the rings in use, ascending. -/
def State.foundSet (s : State) : List Nat :=
  (List.range 255).filter (fun n => s.ring.use.any (fun r => (s.ringRecs r).any (fun x => x.stn == n)))

/-- Step 5 of R253. -/
def State.setOk (s : State) : Bool :=
  s.ring.use.all (fun r => recsOk (s.ringRecs r)) &&
    (s.zlpFlag R.ZLP_CFG_BMODE || s.foundSet.all (fun n => s.ring.use.all (fun r => (s.ringRecs r).any (fun x => x.stn == n))))

/-- The fields of a station table entry that belong to a ring (R278). -/
def stnPosFld (r n : Nat) : Fld := if r = 0 then R.ZLP_STN_STAT_POS_A n else R.ZLP_STN_STAT_POS_B n
def stnOnFld (r n : Nat) : Fld := if r = 0 then R.ZLP_STN_STAT_ON_A n else R.ZLP_STN_STAT_ON_B n
def stnDFld (r n : Nat) : Fld := if r = 0 then R.ZLP_STN_DA_D n else R.ZLP_STN_DB_D n

/-- Enter a station's record of a ring in the station table (R264, R278). -/
def State.putStation (s : State) (r : Nat) (x : StnRec) : State :=
  if x.stn = 0 ∨ 254 < x.stn then s
  else (((s.setF (stnPosFld r x.stn) x.pos).setF (stnOnFld r x.stn) 1).setF (stnDFld r x.stn) x.d)

/-- The station table after a REPORT: what each ring reported; stations not found have STATE 6. -/
def State.tableFromReport (s : State) : State :=
  let found := s.foundSet
  let s := s.each (List.range 255) (fun s n =>
    if n = 0 then s else (((s.putReg (R.ZLP_STN_STAT n) 0).putReg (R.ZLP_STN_DA n) 0).putReg (R.ZLP_STN_DB n) 0).setF (R.ZLP_STN_STAT_STATE n) (if found.contains n then 0 else 6))
  s.each s.ring.use (fun t r => t.each (s.ringRecs r) (fun t x =>
    if x.stn = 0 ∨ 254 < x.stn then t else (t.putStation r x).setF (R.ZLP_STN_STAT_STATE x.stn) x.status))

/-! ## The checks of R241 -/

/-- d of a station on a ring in 1/400 clk (R241, R257). -/
def State.dOf400 (s : State) (r n : Nat) : Nat := s.f (stnDFld r n) * 80

/-- The enabled ring axes of the span: classes S, X and P (R4). DESIGN CHOICE: an enabled entry counts whatever span its STN names, as R4 gives no other test
(log entry 95). -/
def State.ringAxes (s : State) : List Nat := axisList.filter (fun a => s.axisOn a && s.axisClass a != 2)

/-- The station number of an axis on this span, if it has one. -/
def State.axisStation (s : State) (a : Nat) : Option Nat :=
  let stn := s.f (R.AXT_W0_STN a)
  if stn / 256 = s.zlpF R.ZLP_CFG_SPAN ∧ stn % 256 ≠ 0 then some (stn % 256) else none

/-- The ring axis whose command slot or feedback slot a slot is. -/
def State.slotOwner (s : State) (fb : Bool) (slot : Nat) : Option Nat :=
  s.ringAxes.find? (fun a => (if fb then s.fbSlots a else s.cmdSlots a).contains slot)

/-- d of the farthest position holding a record of a command window on a ring in half `h`; frame-buffer records name no station (log entry 53). -/
def State.farthest400 (s : State) (e : CymEntry) (r h : Nat) : Nat :=
  if e.src ≠ 0 then 0
  else (List.range e.count).foldl (fun m i =>
    match s.slotOwner false (recordSlot e i h) with
    | none => m
    | some a => match s.axisStation a with
      | none => m
      | some n => max m (s.dOf400 r n)) 0

/-- The halves a window serves. -/
def halvesOf (e : CymEntry) : List Nat := if isExpress e then [0, 1] else [0]

/-- The rings in use a window is sent on. -/
def State.usedRings (s : State) (e : CymEntry) : List Nat := (ringsOf e).filter (fun r => s.ring.use.contains r)

/-- Loop delay used for express samples: Λup, in a twin span Λup + Λdn (R244, R351). -/
def State.sampleLoop400 (s : State) (r : Nat) : Nat := s.lam400 r true + if s.twin then s.lam400 r false else 0

/-- t_S of an express sample window on a ring (R244), in 1/400 clk. -/
def State.tS400 (s : State) (e : CymEntry) (r : Nat) : Nat :=
  e.start * 3200 + s.wire400 (payloadLen e) + s.sampleLoop400 r + ((if s.zlpFlag R.ZLP_CFG_SPD then 31 else 77) + 4) * 400

/-- t_C of an express command window on a ring (R244), in 1/400 clk. -/
def State.tC400 (s : State) (e : CymEntry) (r : Nat) : Nat :=
  s.wire400 (payloadLen e) + max (s.farthest400 e r 0) (s.farthest400 e r 1)

/-- A number of 1/400 clk rounded up to a whole clk. -/
def ceil400 (n : Nat) : Nat := (n + 399) / 400

/-- The largest of a list of numbers. -/
def maxOf (l : List Nat) : Nat := l.foldl max 0

/-- Do the fields of an entry take permitted values (R236, R237; check 11)? -/
def State.permitted (s : State) (e : CymEntry) : Bool :=
  let own := e.owner == s.ownAddr
  let station := e.owner / 256 == s.zlpF R.ZLP_CFG_SPAN && decide (1 ≤ e.owner % 256) && decide (e.owner % 256 ≤ 254)
  let carries := e.count != 0 || e.cls == 6
  let sizeOk := decide (4 ≤ e.rsize) && decide (e.rsize ≤ 64) && e.rsize % 4 == 0
  let last := recordSlot e (e.count - 1) 1
  let rangeOk := e.count == 0 || (if e.src = 0 then decide (last ≤ 511) else if e.src = 1 then decide (last ≤ 9215) else true)
  let evOk := e.evcap == 0 || (decide (e.evcap ≤ 64) && e.cls == 2 && e.dir == 0 && own)
  decide (e.cls ≤ 6) && decide (e.ring ≤ 2) && decide (e.src ≤ 2) && evOk && decide (payloadLen e ≤ 1496) &&
    (match e.cls with
     | 1 => e.w == 0 && e.start == 0 && e.dir == 0 && e.ring == 2
     | 2 => (own || (station && e.dir == 1 && e.src == 1)) && (!carries || sizeOk) && rangeOk
     | 3 => e.dir == 1 && e.src == 2
     | 4 => e.dir == 1 && e.src == 0 && e.rsize == 24 && rangeOk
     | 5 => e.dir == 0 && e.src == 0 && e.rsize == 24 && rangeOk
     | _ => e.ring == 2 && e.src == 2 && e.rsize == 16 && decide (1 ≤ e.count) && decide (e.count ≤ 48))

/-- A window's intervals within the bc, in clk: one, for express classes one in each half. -/
def State.spansOf (s : State) (e : CymEntry) : List (Nat × Nat) := (halvesOf e).map (fun h => (s.startOf e h, s.startOf e h + e.len * 8))

/-- Do two windows share a rotation of a ring? -/
def shareRotation (x y : CymEntry) : Bool := x.dir == y.dir && (ringsOf x).any (fun r => (ringsOf y).contains r)

/-- Does a window overlap another of its rotation, or leave the bc (check 1)? -/
def State.overlaps (s : State) (e : CymEntry) : Bool :=
  let mine := s.spansOf e
  mine.any (fun x => decide (s.nBc < x.2)) ||
    (match mine with | [x, y] => decide (y.1 < x.2) | _ => false) ||
    (s.windowsOf e.b).any (fun o => decide (o.w < e.w) && shareRotation o e &&
      (s.spansOf o).any (fun x => mine.any (fun y => decide (x.1 < y.2) && decide (y.1 < x.2))))

/-- Check 4: a command frame is complete at the farthest position 1,000 clk before its apply instant. -/
def State.commandLate (s : State) (e : CymEntry) : Bool :=
  (e.cls == 5 || (e.cls == 2 && e.dir == 0)) &&
    (s.usedRings e).any (fun r => (halvesOf e).any (fun h =>
      decide (((if e.cls = 5 then s.pExp else s.nBc) - 1000) * 400 < e.start * 3200 + s.wire400 (payloadLen e) + s.farthest400 e r h)))

/-- Check 5: the compute interval opens after the last express sample, and the express command is read at OPEN + 1,760 or later (R67, R245). -/
def State.expressBad (s : State) (e : CymEntry) : Bool :=
  let o := s.f R.DSP_CWIN_OPEN
  (e.cls == 4 && (s.usedRings e).any (fun r => decide (o * 400 < s.tS400 e r + 2400))) || (e.cls == 5 && decide (e.start * 8 < o + 1760 + 32))

/-- Check 3: a COLLECT or XSAMP window starts at least 320 clk after its sync instant. -/
def State.collectEarly (s : State) (e : CymEntry) : Bool :=
  (e.cls == 4 || (e.cls == 2 && e.dir == 1 && e.owner == s.ownAddr)) && decide (e.start * 8 < 320)

/-- The axes whose slots lie in windows of a ring (R242). -/
def State.axesOnRing (s : State) (ws : List CymEntry) (r : Nat) : List Nat :=
  s.ringAxes.filter (fun a => ws.any (fun e => (ringsOf e).contains r && e.src == 0 &&
    (if e.dir = 0 then s.cmdSlots a else s.fbSlots a).any (fun x => (halvesOf e).any (fun h => (slotRecord e x h).isSome))))

/-- The value of R4. -/
def State.axisLimit (s : State) : Nat := if !s.zlpFlag R.ZLP_CFG_SPD ∧ s.cyc.rate = 3 then 64 else 144

/-- Check 7 (R4, R242). -/
def State.overCapacity (s : State) (ws : List CymEntry) : Bool :=
  let n := s.ringAxes.length
  if s.zlpFlag R.ZLP_CFG_BMODE then decide (2 * s.axisLimit < n) || [0, 1].any (fun r => decide (s.axisLimit < (s.axesOnRing ws r).length))
  else decide (s.axisLimit < n)

/-- The first window for which a test fails, as a refusal. -/
def failOf (status code : Nat) (ws : List CymEntry) (bad : CymEntry → Bool) : Option StartRefusal := (ws.find? bad).map (fun e => ⟨status, code, e.b, e.w⟩)

/-- The first bc that lacks its sync window or a safety window in a direction (check 8). -/
def State.missingWindow (s : State) : Option StartRefusal :=
  ((List.range 64).find? (fun b =>
    (s.cym b 0).cls != 1 || [0, 1].any (fun d => !(s.windowsOf b).any (fun e => e.cls == 6 && e.dir == d)))).map (fun b => ⟨stParam, 8, b, 0⟩)

/-- Check 6: a loop delay over its budget. -/
def State.loopLong (s : State) : Bool :=
  s.ring.use.any (fun r => decide (budgetOf s.cyc.rate * 400 < s.lam400 r false) || decide (budgetOf s.cyc.rate * 400 < s.lam400 r true))

/-- The checks of R241 in their order; the first that fails. -/
def State.matrixChecks (s : State) (ws : List CymEntry) : Option StartRefusal :=
  (failOf stParam 11 ws (fun e => !s.permitted e)).or <|
  s.missingWindow.or <|
  (failOf stParam 9 ws (fun e => e.ring != 2 && (!s.zlpFlag R.ZLP_CFG_BMODE || e.cls == 1 || e.cls == 6))).or <|
  (if s.loopLong then some ⟨stTiming, 6, 0, 0⟩ else none).or <|
  (failOf stTiming 2 ws (fun e => s.headSent e && decide (e.len * 3200 < s.wire400 (payloadLen e) + s.guard * 400))).or <|
  (failOf stTiming 1 ws s.overlaps).or <|
  (failOf stTiming 3 ws s.collectEarly).or <|
  (failOf stTiming 4 ws s.commandLate).or <|
  (failOf stTiming 5 ws s.expressBad).or <|
  (if s.overCapacity ws then some ⟨stCapacity, 7, 0, 0⟩ else none)

/-- The checks that a join or a changed loop runs again (R263, R271): 1, 3, 4, 5 and 6. -/
def State.rerunOk (s : State) (ws : List CymEntry) : Bool :=
  !s.loopLong && !ws.any (fun e => s.overlaps e || s.collectEarly e || s.commandLate e || s.expressBad e)

/-! ## Deadlines and capacity -/

/-- Do the enabled axes fit the compute window of the Piers in SERVICE (R94)? -/
def State.computeFits (s : State) : Bool :=
  let cost := sumOf ((axisList.filter (fun a => s.axisOn a)).map (fun a => if s.axisClass a = 1 then 1760 else 720))
  decide (cost ≤ 2 * intervalLen s.cyc.rate * pierList.countP (fun p => s.inService p))

/-- Do the enabled flows keep the member limit of the rate (R81)? -/
def State.flowsFit (s : State) : Bool :=
  (List.range 256).all (fun n => !s.flag (R.DSP_FLOW_EN n) ||
    (let m := s.flowMembers n
     decide (m.length ≤ flowLimit s.cyc.rate (s.axisClass (m.headD 0)))))

/-- The tests after those of R241: deadlines (code 14), compute capacity and flows (code 0; log entry 54). -/
def State.lastChecks (s : State) (ws : List CymEntry) : Option StartRefusal :=
  if s.ringAxes.any (fun a => (s.matrixDeadline ws a).isNone) then some ⟨stTiming, 14, 0, 0⟩
  else if !s.computeFits ∨ !s.flowsFit then some ⟨stCapacity, 0, 0, 0⟩
  else none

/-- The express loop time and R5: `ZLP_XLOOP`, XMEAS (R244, R245, R248). -/
def State.showXloop (s : State) (ws : List CymEntry) : State :=
  let ts := maxOf (ws.flatMap (fun e => if e.cls = 4 then (s.usedRings e).map (fun r => ceil400 (s.tS400 e r)) else []))
  let tc := maxOf (ws.flatMap (fun e => if e.cls = 5 then (s.usedRings e).map (fun r => ceil400 (s.tC400 e r)) else []))
  ((s.setF R.ZLP_XLOOP_TS (min 65535 ts)).setF R.ZLP_XLOOP_TC (min 65535 tc)).set1 R.ZLP_STAT_XMEAS

/-- An express loop time above 4,800 clk: class X is disabled and the event raised (R5, R245). -/
def State.xloopTest (s : State) : State :=
  if 4800 < max (s.f R.ZLP_XLOOP_TS) (s.f R.ZLP_XLOOP_TC) then
    let s := (s.set1 R.ZLP_STAT_XOFF).raise 0x4B 0 (s.reg R.ZLP_XLOOP)
    s.each (axisList.filter (fun a => s.axisOn a && s.axisClass a == 1)) (fun s a => s.axisDisable a)
  else s

/-! ## Assignment -/

/-- An insertion point of a station (R260), for one bc number. -/
structure Insertion where
  win : Nat
  kind : Nat
  ring : Nat
  offset : Nat
  size : Nat
  start : Nat
  wlen : Nat
  deriving DecidableEq, Repr

/-- The insertion points a window gives a station (R236, R260, R326). `idx` is the station's place in the set, `base` the window's first container. -/
def State.insertionsOf (s : State) (n idx base : Nat) (e : CymEntry) : List Insertion :=
  let at_ (kind off size : Nat) : Insertion := ⟨e.w, kind, e.ring, off, size, 0, 0⟩
  let recs (fb : Bool) (kind : Nat) : List Insertion :=
    if e.src = 0 then (List.range e.count).filterMap (fun i =>
      match s.slotOwner fb (recordSlot e i 0) with
      | some a => if s.axisStation a = some n then some (at_ kind (i * e.rsize) e.rsize) else none
      | none => none)
    else []
  match e.cls with
  | 2 =>
    if e.owner = s.ownAddr then
      if e.dir = 0 then recs false 0 ++ (if e.evcap = 0 then [] else [at_ 5 (e.count * e.rsize) (12 * e.evcap)]) else recs true 1
    else if e.owner % 256 = n then [⟨e.w, 4, e.ring, 0, payloadLen e, e.start, e.len⟩] else []
  | 4 => recs true 1
  | 5 => recs false 0
  | 6 => if base ≤ idx ∧ idx < base + e.count then [at_ (if e.dir = 0 then 3 else 2) ((idx - base) * 16) 16] else []
  | _ => []

/-- A station's insertion points in bc number `b`. -/
def State.insertionsAt (s : State) (n b : Nat) : List Insertion :=
  let idx := (s.ring.set_.filter (fun m => decide (m < n))).length
  let ws := s.windowsOf b
  ws.flatMap (fun e =>
    let base := sumOf ((ws.filter (fun o => o.cls == 6 && o.dir == e.dir && decide (o.w < e.w))).map (fun o => o.count))
    s.insertionsOf n idx base e)

/-- The 16 bytes of an assign entry (R260). -/
def insertionBytes (x : Insertion) (bcf bcs : Nat) : List Byte :=
  [BitVec.ofNat 8 x.win, BitVec.ofNat 8 bcf, BitVec.ofNat 8 bcs, BitVec.ofNat 8 x.kind, BitVec.ofNat 8 x.ring, 0] ++
    be16 x.offset ++ be16 x.size ++ be16 x.start ++ be16 x.wlen ++ [0, 0]

/-- A station's assign entries: one with step 1 for a point of every bc, one with step 64 for each other bc (log entry 55). -/
def State.assignEntries (s : State) (n : Nat) : List (List Byte) :=
  let per := (List.range 64).map (fun b => s.insertionsAt n b)
  let all := (per.headD []).filter (fun x => per.all (fun l => l.contains x))
  all.map (fun x => insertionBytes x 0 1) ++
    (per.zipIdx.flatMap (fun p => (p.1.filter (fun x => !all.contains x)).map (fun x => insertionBytes x p.2 64)))

/-- Cut a list into pieces of `n`; `k` bounds their number. -/
def chunksOf {α : Type} (n : Nat) : Nat → List α → List (List α)
  | 0, _ => []
  | _, [] => []
  | k + 1, l => l.take n :: chunksOf n k (l.drop n)

/-- A station's assign items in order, of at most `k` entries each (R260). -/
def State.assignItems (s : State) (k n : Nat) : List (List Byte) :=
  let cs := match chunksOf k 128 (s.assignEntries n) with | [] => [[]] | l => l
  cs.zipIdx.map (fun p =>
    [BitVec.ofNat 8 n, BitVec.ofNat 8 (p.2 + if p.2 + 1 = cs.length then 128 else 0), BitVec.ofNat 8 p.1.length, 0] ++ p.1.flatten)

/-- The ring on whose downstream rotation assign frames go (R260). -/
def State.assignRing (s : State) : Nat := if s.ring.use.contains 0 then 0 else 1

/-- Send the assign frames and enter ASSIGN (R253 step 7, R260). -/
def State.sendAssign (s : State) : State :=
  let r := s.assignRing
  let items := s.ring.set_.flatMap (fun n => (s.assignItems 12 n).map (fun it => (n, it)))
  let frames := items.map (fun x => s.delayFrame r (s.ownAddr + x.1) (s.delayPayload 2 0 0 (s.lamSum r true * 5 / 4) x.2 0))
  let time := sumOf (items.map (fun x => ceil400 (s.wire400 (16 + x.2.length))))
  let s := s.setF R.ZLP_SSTAT_STATE 3
  { s with ring := { s.ring with lastTx := if s.hasX0 r then frames.map (fun f => (portX0 r, f)) else [], assignEnd := s.clk + time } }

/-- The rings that can carry no RUN frame (R262). -/
def State.runlessRings (s : State) : List Nat :=
  let e := s.cym 0 (s.f R.ZLP_SCFG_RUNWIN)
  [0, 1].filter (fun r => !(s.flag R.ZLP_SCFG_RUN_EN && e.cls == 3 && e.dir == 1 && (ringsOf e).contains r))

/-- Every check has passed: the span goes to ASSIGN (R251, R254, R262). -/
def State.startPass (s : State) (ws : List CymEntry) : State :=
  let set_ := s.foundSet
  let s := (s.each axisList (fun s a => s.showDeadline ws a)).xloopTest.setF R.ZLP_SSTAT_NST set_.length
  let ring (r : Nat) : Nat := if s.ring.use.contains r then 1 else 2
  let s := (s.setF R.ZLP_RSTAT_A (ring 0)).setF R.ZLP_RSTAT_B (ring 1)
  let runless := s.runlessRings
  let s := s.setB R.ZLP_SSTAT_NOJOIN (s.ring.use.all (fun r => runless.contains r))
  let s : State := { s with ring := { s.ring with set_ := set_, noRun := runless } }
  s.startStep .assign (fun s => s.sendAssign)

/-- The frames of a start that wait are sent on the clk that the holder has named (R354). -/
def State.stepsDue (s : State) : State :=
  match s.ring.stepAt with
  | none => s
  | some c =>
    if s.clk < c then s
    else
      let l := s.ring.steps
      let s : State := { s with ring := { s.ring with steps := [], stepAt := none, lastTx := [] } }
      s.each l (fun s x => match x with
        | .round r => if s.ring.use.contains r then s.sendRound r else s
        | .report => s.sendReports
        | .assign => s.sendAssign)

/-- All REPORT records are in: the station set and the checks (R253 steps 5 and 6). -/
def State.evaluateStart (s : State) : State :=
  let s := s.tableFromReport
  if !s.setOk then s.startRefuse ⟨stParam, 12, 0, 0⟩
  else
    let ws := s.windows
    let s := s.showXloop ws
    match (s.matrixChecks ws).or (s.lastChecks ws) with
    | some x => s.startRefuse x
    | none => s.startPass ws

/-- REPORT_FRAME_RETURN (R241, R253, R257). -/
def execReportFrameReturn (port : Fin 6) (fr : RxFrame) (s : State) : Host.Outcome State Fault Refusal :=
  let r := ringOfPort port.val
  let s := s.when (decide (port.val < 4)) (fun s => s.rxCount port.val fr)
  if port.val < 4 ∧ !isX1 port.val ∧ s.f R.ZLP_SSTAT_STATE = 2 ∧ s.measured ∧ s.ring.use.contains r ∧ (s.meas r).recs.isNone ∧ s.ownDelay fr 1 then
    let s := s.putMeas r { s.meas r with recs := some (parseRecords (payloadOf fr.bytes)) }
    let s : State := { s with ring := { s.ring with lastTx := [] } }
    .next (if s.ring.use.all (fun q => !s.hasX0 q || (s.meas q).recs.isSome) then s.evaluateStart else s)
  else .next s

/-- ASSIGN_DONE: the last assign frame has left (R251). -/
def execAssignDone (s : State) : Host.Outcome State Fault Refusal :=
  if s.f R.ZLP_SSTAT_STATE = 3 ∧ s.ring.assignEnd ≤ s.clk then
    .next ((s.setF R.ZLP_SSTAT_STATE 4).setF R.ZLP_BUDGET_BUDGET (budgetOf s.cyc.rate))
  else .next s

/-- FIRST_SYNC: at the first t0 at least 1 bc after the last assign frame the SYNC leaves and the start completes (R253 step 8, R354, R385). -/
def execFirstSync (s : State) : Host.Outcome State Fault Refusal :=
  if s.spanRuns ∧ !s.ring.live ∧ s.ring.assignEnd + s.nBc ≤ s.cyc.t0 then
    let s := s.when s.twin (fun s => s.set1 R.TWN_STAT_PSEND)
    let first := s.cyc.bcIdx + BitVec.ofNat 32 ((64 - s.bcn) % 64 + 64)
    let s : State := { s with ring := { s.ring with live := true, activeBc := some first } }
    let s := s.windowSend (s.cym s.bcn 0) 0
    .next (s.endWaits isRingStart 0 stOk 0 []).cqDue
  else .next s

/-! ## Halt -/

/-- RING_HALT in RUN registers a halt for the next t0 (R385). -/
def State.ringHalt (s : State) (t : Option PktTag) : State :=
  if s.spanRuns then
    let s := s.addWait t .ringHalt
    { s with ring := { s.ring with haltAt := some (s.ring.haltAt.getD s.clk) } }
  else s.finishOpt t 16 stState noWord []

/-- Has the t0 come at which a halt takes effect? -/
def State.haltDue (s : State) : Bool :=
  match s.ring.haltAt with
  | some c => decide (c < s.cyc.t0)
  | none => false

/-- RING_HALT_EFFECT (R252, R385): a start that still waits for its first SYNC is cancelled (log entry 56). -/
def execRingHaltEffect (s : State) : Host.Outcome State Fault Refusal :=
  if s.haltDue then
    let s := s.spanStop
    let s := s.endWaits isRingStart 16 stAborted noWord []
    .next (s.endWaits isRingHalt 16 stOk 0 [])
  else .next s

end Sys2Proof.Machine
end

