-- ==== Sys2Proof/Machine/KstFw.lean ====
section
/-! DEFINITION. Keystone: the image window and Falsework mode (R333, R334, R336), safe PDUs (R325 to R331), and the loss of a clock (R29). -/

namespace Sys2Proof.Machine

/-! ## Falsework -/

/-- Take an accepted Falsework request if it is the one named (R334). -/
def State.takeRequest (s : State) (req : Nat) : Option State :=
  match s.takeAccepted R.KST_FW_REQ with
  | none => none
  | some (v, t) => if v.toNat % 4 = req then some t else none

/-- FALSEWORK_ENTER: from RUN to FW_ARM for 60 s (R334 step 1). The zones, outputs and force line follow at the end of the cycle (R312). -/
def execFalseworkEnter (s : State) : Host.Outcome State Fault Refusal :=
  match s.takeRequest 1 with
  | none => .next s
  | some s =>
    if s.kstHeld ∨ s.kstState ≠ 1 then .next s
    else
      let s := s.putKst { s.kst with fwEnd := s.kst.k0.after 60000 }
      .next ((s.setF R.KST_FW_STAT_RES 0).kstStep 2)

/-- FALSEWORK_ABORT: the image before is restored and runs; an ACK operation of the same cycle is void (R334). -/
def execFalseworkAbort (s : State) : Host.Outcome State Fault Refusal :=
  match s.takeRequest 2 with
  | none => .next s
  | some s =>
    let st := s.kstState
    if s.kstHeld ∨ st = 1 ∨ st = 5 then .next s
    else .next (s.bothCores (fun c => { c with ackOp := false })).kstAbort

/-- FALSEWORK_VALIDATE: in FW_LOAD or BOOT the window's image is validated (R332, R334 step 4). -/
def execFalseworkValidate (s : State) : Host.Outcome State Fault Refusal :=
  match s.takeRequest 3 with
  | none => .next s
  | some s =>
    let st := s.kstState
    if s.kstHeld ∨ (st ≠ 0 ∧ st ≠ 3) then .next s
    else
      let m := s.winImage
      let code := imgValidate m
      if code ≠ 0 then .next (s.setF R.KST_FW_STAT_RES code)
      else
        let s := (s.putReg R.KST_PCV_NEW (imgCheck m)).setF R.KST_FW_STAT_RES 0
        let s := s.putKst { s.kst with fwEnd := s.kst.k0.after 300000 }
        .next (s.kstStep 4)

/-- FALSEWORK_TIMEOUT: FW_ARM returns to RUN after 60 s, FW_LOAD and FW_CONFIRM abort after 30 min and 300 s; RES reads 7 (R334). -/
def execFalseworkTimeout (s : State) : Host.Outcome State Fault Refusal :=
  let st := s.kstState
  if !s.kstHeld ∧ 2 ≤ st ∧ st ≤ 4 ∧ s.kst.fwEnd ≤ s.kst.k0.now then
    .next ((s.bothCores (fun c => { c with ackOp := false })).setF R.KST_FW_STAT_RES 7).kstAbort
  else .next s

/-- A write of a word of the window: in BOOT and FW_LOAD it is stored, otherwise ignored and counted (R336). -/
def State.pwinWrite (s : State) (off : Nat) (v : Word) : State :=
  if s.kstState = 0 ∨ s.kstState = 3 then (s.putReg (R.KST_PWIN (off / 4)) v).putKst { s.kst with winSet := true }
  else s.incSat R.KST_WIGN_CNT_COUNT 1

/-- KST_PWIN_WRITE (R28, R336). -/
def execKstPwinWrite (off : Nat) (val : Word) (s : State) : Host.Outcome State Fault Refusal :=
  if off < 4096 ∧ off % 4 = 0 then .next (s.bar0Write (R.KST_PWIN (off / 4)) (fun s => s.pwinWrite off val)) else .next s

/-- KEYSTONE_BOOT_VALIDATE: RUN if the image is valid and its check value is the confirmed one (R333). A window that nothing has written is not validated. -/
def execKeystoneBootValidate (s : State) : Host.Outcome State Fault Refusal :=
  if s.kstHeld ∨ s.kstState ≠ 0 then .next s
  else
    let s := s.putReg R.KST_PCV (s.kst.conf.getD 0)
    let m := s.winImage
    let code := imgValidate m
    let s := if !s.kst.winSet then s else if code = 0 then s.putReg R.KST_PCV_NEW (imgCheck m) else s.setF R.KST_FW_STAT_RES code
    match s.kst.conf with
    | none => .next (s.set1 R.KST_STAT_CONF_EMPTY)
    | some v =>
      if s.kst.winSet ∧ code = 0 ∧ imgCheck m = v then .next (s.kstRun m true)
      else .next (s.set1 R.KST_STAT_PCV_BAD)

/-! ## Downstream containers -/

/-- What Keystone keeps of a station. -/
def State.watch (s : State) (n : Nat) : StnWatch := tabGet (fun _ => StnWatch.none_) s.kst.stn n

/-- Replace it. -/
def State.putWatch (s : State) (n : Nat) (x : StnWatch) : State := s.putKst { s.kst with stn := tabSet (fun _ => StnWatch.none_) s.kst.stn n x }

/-- Is STO sent to a station by a core (R326)? -/
def State.stoFor (s : State) (c : KCore) (n : Nat) : Bool :=
  (stnZones s.kst.img n &&& c.sto) != 0 || stnCid s.kst.img n == 0 || (s.watch n).wdx

/-- A downstream container (R325): `init` is the ring's initial CRC value. -/
def State.containerOf (s : State) (c : KCore) (init : Nat) (bc : Word) (n : Nat) : List Byte :=
  let m := s.kst.img
  let z := stnZones m n
  let sto := s.stoFor c n
  let stop1 := (z &&& c.stop1) != 0
  let sbc := sto && sixteen.any (fun k => (z &&& c.sto).testBit k && zoneSbc m k)
  let flags := (if sto then 1 else 0) + (if stop1 then 2 else 0) + if sbc then 4 else 0
  let body := bytesOf 2 (s.ownAddr + n) ++ bytesOf 1 flags ++ bytesOf 1 (imgW m) ++ bytesOf 2 bc.toNat ++ bytesOf 2 (stnCid m n) ++ bytesOf 4 0
  body ++ bytesOf 4 (crc32c init body)

/-- The initial CRC value of a ring's copies (R325). -/
def crcInit (ring : Nat) : Nat := if ring = 0 then 0xFFFFFFFF else 0x0F0F0F0F

/-- From which bc STO is commanded to a station (R328); what it reported before no longer counts. -/
def State.noteCommand (s : State) (bc : Word) (n : Nat) : State :=
  let x := s.watch n
  if s.stoFor s.kst.k0 n || s.stoFor s.kst.k1 n then s.putWatch n { x with cmd := some (x.cmd.getD bc), flags := if x.cmd.isNone then 0 else x.flags }
  else s.putWatch n { x with cmd := none }

/-- CONTAINER_BUILD: on the t0 item of bc k both cores build the containers of bc k + 1 (R309, R326, R331): K0 those of ring A, K1 those of ring B. Without an image none
is posted. -/
def execContainerBuild (s : State) : Host.Outcome State Fault Refusal :=
  if !s.kstAlive ∨ s.kst.builtBc = some s.cyc.bcIdx then .next s
  else
    let s := s.putKst { s.kst with builtBc := some s.cyc.bcIdx, rateDiff := s.kst.hasImg && imgRate s.kst.img != s.cyc.rate }
    if !s.kst.hasImg ∨ !s.spanRuns then .next s
    else
      let bc := s.cyc.bcIdx + 1
      let a := s.ring.set_.map (fun n => s.containerOf s.kst.k0 (crcInit 0) bc n)
      let b := s.ring.set_.map (fun n => s.containerOf s.kst.k1 (crcInit 1) bc n)
      let s : State := { s with ring := { s.ring with safeTx := ((bc, a, b) :: s.ring.safeTx).take 2 } }
      .next (s.each s.ring.set_ (fun s n => s.noteCommand bc n))

/-! ## Upstream containers -/

/-- Is an upstream copy valid (R327 step 1, R328)? -/
def State.copyValid (s : State) (x : SafeCopy) : Bool :=
  let n16 (i : Nat) : Nat := natOfBytes (sliceOf x.bytes i 2)
  x.bytes.length == 16 && n16 0 == s.ownAddr + x.stn && n16 4 == x.bc.toNat % 65536 && n16 6 == stnCid s.kst.img x.stn &&
    natOfBytes (sliceOf x.bytes 12 4) == crc32c (crcInit x.ring) (x.bytes.take 12)

/-- A bitmap bit of a station. -/
def State.setMap (s : State) (fld : Nat → Fld) (n : Nat) (v : Bool) : State :=
  let x := fld (n / 32)
  let w := s.f x
  s.setF x (if v then w ||| 2 ^ (n % 32) else if w.testBit (n % 32) then w - 2 ^ (n % 32) else w)

/-- A bitmap bit of a station. -/
def State.getMap (s : State) (fld : Nat → Fld) (n : Nat) : Bool := (s.f (fld (n / 32))).testBit (n % 32)

/-- The flags reported since STO was last commanded (R328): a copy of an earlier bc does not count. -/
def StnWatch.report (w : StnWatch) (bc : Word) (flags : Nat) : Nat :=
  match w.cmd with
  | none => flags
  | some k => if (bc - k).toInt < 0 then w.flags else w.flags ||| flags

/-- Take one copy (R328): WDX latches STO when it rises, and a station of no zone is released when it falls. A station with CID 0 has no valid copy. -/
def State.takeCopy (s : State) (x : SafeCopy) : State :=
  if stnCid s.kst.img x.stn = 0 ∨ !s.copyValid x then s.incSat R.KST_UPS_CNT_COUNT 1
  else
    let n := x.stn
    let flags := (x.bytes.getD 2 0).toNat
    let wdx := flags.testBit 2
    let rise := wdx && !s.getMap R.KST_STN_WDX_MAP n
    let w := s.watch n
    let latch := if rise then true else if !wdx && stnZones s.kst.img n == 0 then false else w.wdx
    (s.setMap R.KST_STN_WDX_MAP n wdx).putWatch n { w with lastOk := some x.bc, flags := w.report x.bc flags, wdx := latch }

/-- How many bc, ended before the present one, a bc index lies back; modulo 2^32. -/
def State.bcAgo (s : State) (bc : Word) : Int := (s.cyc.bcIdx - 1 - bc).toInt

/-- A station's loss (R328). -/
def State.lostTest (s : State) (n : Nat) : State :=
  let m := s.kst.img
  let lost : Bool := match (s.watch n).lastOk with
    | none => false
    | some b => decide ((imgW m : Int) ≤ s.bcAgo b)
  let was := s.getMap R.KST_STN_LOST_MAP n
  let s := s.setMap R.KST_STN_LOST_MAP n lost
  if lost && !was then
    let s := s.raise 0x63 (s.ownAddr + n) 1
    if imgLossDem m then s.bothCores (fun c => { c with lossDem := n :: c.lossDem.filter (fun k => k != n) }) else s
  else s

/-- A station's STO feedback (R328): commanded from bc k, it must be reported by bc k + W. -/
def State.feedbackTest (s : State) (n : Nat) : State :=
  let x := s.watch n
  let bad : Bool := match x.cmd with
    | none => false
    | some k => decide ((imgW s.kst.img : Int) ≤ s.bcAgo k) && !x.flags.testBit 0
  let was := s.getMap R.KST_STN_FB_MAP n
  let s := s.setMap R.KST_STN_FB_MAP n bad
  if bad && !was then s.raise 0x63 (s.ownAddr + n) 2 else s

/-- A station that is not in the set is not watched. -/
def State.unwatch (s : State) (n : Nat) : State :=
  let s := ((s.setMap R.KST_STN_LOST_MAP n false).setMap R.KST_STN_FB_MAP n false).setMap R.KST_STN_WDX_MAP n false
  s.putWatch n StnWatch.none_

/-- UPSTREAM_CONTAINER_CHECK (R328): the copies received since the last check, then every station of the set. -/
def execUpstreamContainerCheck (s : State) : Host.Outcome State Fault Refusal :=
  if !s.kstAlive ∨ !s.kst.hasImg ∨ !s.spanRuns ∨ !s.ring.live then .next s
  else
    let copies := s.ring.safeRx
    let s : State := { s with ring := { s.ring with safeRx := [] } }
    let s := s.each s.ring.set_ (fun s n =>
      if (s.watch n).lastOk.isNone then s.putWatch n { s.watch n with lastOk := some (s.cyc.bcIdx - 1) } else s)
    let s := s.each copies (fun s x => if s.ring.set_.contains x.stn then s.takeCopy x else s)
    let s := s.each s.ring.set_ (fun s n => (s.lostTest n).feedbackTest n)
    .next (s.each ((List.range 256).filter (fun n => !s.ring.set_.contains n && s.watch n != StnWatch.none_)) (fun s n => s.unwatch n))

/-! ## Clocks -/

/-- SYSCLK is lost: Keystone enters FAULT with cause 5; the SYSCLK domain stands still until a full reset (R29, R32, R311, R430). -/
def State.sysclkLose (s : State) : State := { s.kstFault 5 with sysLost := true }

/-- SYSCLK_LOSS (R29, R311). -/
def execSysclkLoss (s : State) : Host.Outcome State Fault Refusal := .next s.sysclkLose

/-- KREF is lost: both cores stop without a change of state; the safety outputs are de-energised, the event is raised and class-X axes get zero vector (R29, R311). -/
def State.krefLose (s : State) : State :=
  if s.krefLost then s
  else
    let s := (s.setF R.KST_OUT_ON 0).putKst { s.kst with cmd := 0 }
    let s : State := { s with krefLost := true, ring := { s.ring with safeTx := [] } }
    s.raise 0x65 0 0

/-- KREF_LOSS (R29). -/
def execKrefLoss (s : State) : Host.Outcome State Fault Refusal := .next s.krefLose

/-! ## Registers -/

/-- KST registers whose value follows from the state: the seconds left in a Falsework step. -/
def kstRead (s : State) (a : Nat) : Option Word :=
  let st := s.kstState
  if a = R.KST_FW_STAT ∧ 2 ≤ st ∧ st ≤ 4 then
    some (setBits (s.reg a) 16 16 (min 65535 ((s.kst.fwEnd - s.kst.k0.now + 1000 * s.kst.k0.per - 1) / (1000 * s.kst.k0.per))))
  else none

/-- KST registers with a rule of their own for a write. -/
def kstRegWrite (s : State) (a : Nat) (v : Word) : Option State :=
  if 0x201000 ≤ a ∧ a < 0x202000 then some (s.pwinWrite (a - 0x201000) v) else none

end Sys2Proof.Machine
end

