-- ==== Sys2Proof/Machine/Params.lean ====
section
/-! DEFINITION. The parameters of an axis state as a task uses them (R142, R143, R177): each at its range's nearer edge when it lies outside. -/

namespace Sys2Proof.Machine

/-- A parameter's type with its range: fp32 patterns, or unsigned numbers. -/
inductive ParKind where
  | f32 (lo hi : F32)
  | u32 (lo hi : Nat)
  deriving DecidableEq, Repr

/-- Largest finite binary32. -/
def fMaxFinite : F32 := 0x7F7FFFFF

/-- Ranges of the parameter words, by state offset (R142, R177). -/
def paramRanges : List (Nat × ParKind) :=
  [(0x004, .f32 0x3F800000 0x5368D4A5), (0x008, .f32 0x3F800000 0x58635FA9), (0x00C, .f32 0x3F800000 0x58635FA9), (0x010, .f32 0x3F800000 0x5D5E0B6B),
   (0x014, .u32 0 10000), (0x018, .f32 0x00000000 0x4E6E6B28), (0x034, .f32 0x3F800000 0x4E6E6B28), (0x038, .f32 0x3F800000 0x4E6E6B28),
   (0x03C, .f32 0x3F800000 0x5368D4A5), (0x048, .f32 0x00000000 0x5368D4A5), (0x04C, .f32 0x3F800000 0x4E6E6B28), (0x050, .u32 1 65535),
   (0x104, .u32 1 8), (0x108, .u32 1 16), (0x10C, .f32 0x3A83126F 0x3F800000), (0x110, .f32 0x3F800000 0x5368D4A5),
   (0x114, .f32 0x3F800000 0x58635FA9), (0x118, .f32 0x00000000 0x469C4000), (0x11C, .f32 0x00000000 0x3FC00000), (0x120, .f32 0x3F800000 0x5368D4A5),
   (0x124, .f32 0x00000000 0x3F800000), (0x128, .f32 0x00000000 0x469C4000), (0x12C, .f32 0x00000000 0x44FA0000), (0x130, .f32 0x00000000 0x3F800000),
   (0x134, .f32 0x00000000 0x3F800000), (0x138, .f32 0x00000000 0x44FA0000), (0x13C, .f32 0x00000000 0x457A0000), (0x140, .f32 0x00000000 0x5368D4A5),
   (0x144, .f32 0x00000000 0x58635FA9), (0x148, .f32 0x00000000 0x4E6E6B28)] ++
  [(0x14C, .u32 1 1000000), (0x304, .f32 0xFF7FFFFF fMaxFinite), (0x308, .f32 0xFF7FFFFF fMaxFinite), (0x30C, .f32 0xFF7FFFFF fMaxFinite),
   (0x310, .f32 0xFF7FFFFF fMaxFinite), (0x314, .f32 0xFF7FFFFF fMaxFinite), (0x324, .f32 0xFF7FFFFF fMaxFinite), (0x328, .f32 0xFF7FFFFF fMaxFinite),
   (0x32C, .f32 0xFF7FFFFF fMaxFinite), (0x330, .f32 0xFF7FFFFF fMaxFinite), (0x334, .f32 0xFF7FFFFF fMaxFinite), (0x344, .f32 0xFF7FFFFF fMaxFinite),
   (0x348, .f32 0xFF7FFFFF fMaxFinite), (0x34C, .f32 0xFF7FFFFF fMaxFinite), (0x350, .f32 0xFF7FFFFF fMaxFinite), (0x354, .f32 0xFF7FFFFF fMaxFinite),
   (0x364, .f32 0xFF7FFFFF fMaxFinite), (0x368, .f32 0xFF7FFFFF fMaxFinite), (0x36C, .f32 0xFF7FFFFF fMaxFinite), (0x370, .f32 0xFF7FFFFF fMaxFinite),
   (0x374, .f32 0xFF7FFFFF fMaxFinite), (0x404, .f32 0x00000000 0x5368D4A5), (0x408, .f32 0x00000000 0x5368D4A5), (0x40C, .f32 0x00000000 0x5368D4A5),
   (0x444, .f32 0xFF7FFFFF fMaxFinite), (0x448, .f32 0x00000000 fMaxFinite), (0x44C, .f32 0x00000000 fMaxFinite), (0x450, .u32 0 2147483648),
   (0x454, .f32 0xFF7FFFFF fMaxFinite), (0x500, .f32 0x00000000 0x447A0000)] ++
  [(0x504, .f32 0x00000000 0x47C35000), (0x508, .f32 0x00000000 0x447A0000), (0x50C, .f32 0x00000000 0x47C35000), (0x510, .f32 0x00000000 0x3F800000),
   (0x514, .f32 0x00000000 0x3F800000), (0x518, .f32 0x00000000 0x3F800000), (0x51C, .f32 0xC0490FDB 0x40490FDB), (0x520, .f32 0xC4FA0000 0x44FA0000),
   (0x524, .f32 0x3F000000 0x3F800000), (0x528, .f32 0x00000000 0x40400000)]

/-- A parameter word brought into its range (R143): a NaN or infinity counts as 0 first. -/
def parUse (k : ParKind) (w : Word) : Word :=
  match k with
  | .f32 lo hi => fClamp (if fFinite w then w else 0) lo hi
  | .u32 lo hi => wordOf (max lo (min hi w.toNat))

/-- The kind of the parameter at an offset; words without a range are used as they are. -/
def parKind (off : Nat) : Option ParKind := (paramRanges.find? (fun e => e.1 == off)).map (fun e => e.2)

/-- The parameter of an axis as its tasks use it. -/
def State.par (s : State) (a off : Nat) : Word :=
  match parKind off with
  | none => s.resPar a off
  | some k => parUse k (s.resPar a off)

/-- The parameter as a number. -/
def State.parN (s : State) (a off : Nat) : Nat := (s.par a off).toNat

/-- A 64-bit position parameter, low word first. -/
def State.par64 (s : State) (a off : Nat) : Pos64 := BitVec.ofNat 64 (nat64 (s.resPar a off) (s.resPar a (off + 4)))

/-- `SL_NEG` as it is used: its range lies below `SL_POS` (R143, R177). -/
def State.slNeg (s : State) (a : Nat) : Pos64 :=
  let p := s.par64 a 0x20
  let n := s.par64 a 0x28
  if n.toInt < p.toInt then n else if p.toInt = -(2 : Int) ^ 63 then p else p - 1

/-- Does a task of a class use the parameter at an offset (R87, R115)? Stage 9 runs for class X only; stages 5 to 8 of class P pass through. -/
def parUsed (cls off : Nat) : Bool :=
  if 0x500 ≤ off then cls == 1
  else cls != 3 || !((decide (0x118 ≤ off) && decide (off ≤ 0x13C)) || (decide (0x300 ≤ off) && decide (off < 0x400)))

/-- The stage that uses the parameter at an offset (R104, R142, R177). -/
def parStage (cls off : Nat) : Nat :=
  if off < 0x100 then 3
  else if off < 0x110 ∨ off = 0x404 ∨ off = 0x40C then 2
  else if off < 0x118 ∨ (0x144 ≤ off ∧ off < 0x150) then 4
  else if off < 0x124 then 5
  else if off < 0x130 then 6
  else if off < 0x138 then 7
  else if off = 0x138 then (if cls = 1 then 9 else 10)
  else if off < 0x144 then 11
  else if off < 0x400 then 8
  else if off < 0x440 then 11
  else if off < 0x500 then 12
  else 9

/-- Does a stage of an axis's task use some parameter at its range's edge (`STATUS.PCLIP`, R143)? `PL_CFG.COUNT`, `MG_CFG.MST_AXIS` and `SL_NEG` have ranges of their own. -/
def State.parClipped (s : State) (a cls k : Nat) : Bool :=
  paramRanges.any (fun e => parStage cls e.1 == k && parUsed cls e.1 && parUse e.2 (s.resPar a e.1) != s.resPar a e.1) ||
    (k == 11 && bitsOf (s.resPar a 0x400).toNat 8 8 == 0) || (k == 3 && (decide (159 < bitsOf (s.resPar a 0).toNat 8 8) || s.slNeg a != s.par64 a 0x28))

end Sys2Proof.Machine
end

