-- ==== Sys2Proof/Machine/Profile.lean ====
section
/-! DEFINITION. Jerk-limited profiles (R158 to R161): the plan of least time as segments of constant jerk, and its evaluation. Plans are computed in fixed point with
64 fraction bits, in counts and seconds; the spec fixes the ideal plan and not its arithmetic, so outputs round by a free choice (log entry 31). -/

namespace Sys2Proof.Machine

/-- One in the plan's fixed point. -/
def qOne : Int := (2 : Int) ^ 64

def qMul (a b : Int) : Int := a * b / qOne
def qDiv (a b : Int) : Int := if b = 0 then 0 else a * qOne / b
def qSqrt (a : Int) : Int := (isqrt (a.toNat * qOne.toNat) : Nat)
def qAbs (a : Int) : Int := (a.natAbs : Int)
def qSign (a : Int) : Int := if 0 < a then 1 else if a < 0 then -1 else 0

/-- A finite binary32 in the plan's fixed point, truncated. -/
def qOfF (x : F32) : Int := fTruncScaled x 64

/-- A position difference in 2^-16 count in the plan's fixed point. -/
def qOfPos (i : Int) : Int := i * (2 : Int) ^ 48

/-- A fixed-point value as binary32: the value itself where it lies within 2^-40 of one, else the nearer neighbour or, by the free choice, the one above it. -/
def fOfQ (tag : Nat) (q : Int) : F32 :=
  let x := fRound q 1 (-64) false
  if (fFix x * qOne - q * (2 : Int) ^ 149).natAbs * 2 ^ 40 ≤ q.natAbs * 2 ^ 149 then x
  else if Config.planRoundUp tag q qOne && fFinite x && !fIsZero x then x + (if fSign x then -1 else 1) else x

/-- A fixed-point value in units of `d`: the unit it lies next to, within `e`, else rounded down or, by the free choice, up. -/
def unitsOfQ (tag : Nat) (q d e : Int) : Int :=
  let n := (q + d / 2) / d
  if qAbs (q - n * d) ≤ e then n else q / d + (if Config.planRoundUp tag q d then 1 else 0)

/-- A fixed-point number of counts as a position in 2^-16 count. -/
def posOfQ (tag : Nat) (q : Int) : Int := unitsOfQ tag q ((2 : Int) ^ 48) ((2 : Int) ^ 44)

/-- A fixed-point number of counts in whole counts. -/
def cntOfQ (q : Int) : Int := unitsOfQ 0 q qOne ((2 : Int) ^ 48)

/-- The limits of a plan: V, A, D, J. -/
structure Limits where
  v : Int
  a : Int
  d : Int
  j : Int
  deriving DecidableEq, Repr

/-- A state of motion: position from the plan's start, velocity, acceleration. -/
structure Kin where
  p : Int
  v : Int
  a : Int
  deriving DecidableEq, Repr

/-- The state after `t` of constant jerk. -/
def kinStep (k : Kin) (jerk t : Int) : Kin :=
  let t2 := qMul t t
  ⟨k.p + qMul k.v t + qMul k.a t2 / 2 + qMul jerk (qMul t2 t) / 6, k.v + qMul k.a t + qMul jerk t2 / 2, k.a + qMul jerk t⟩

/-- The state at time `t` of a plan; after its last segment the velocity stands and the acceleration is 0. -/
def kinAt : List JerkSeg → Kin → Int → Kin
  | [], k, t => ⟨k.p + qMul k.v t, k.v, 0⟩
  | s :: ss, k, t => if t ≤ s.dur then kinStep k s.jerk t else kinAt ss (kinStep k s.jerk s.dur) (t - s.dur)

/-- The state at the end of a plan. -/
def kinEnd (l : List JerkSeg) (k : Kin) : Kin := l.foldl (fun k s => kinStep k s.jerk s.dur) k

/-- The duration of a plan. -/
def planDur (l : List JerkSeg) : Int := l.foldl (fun t s => t + s.dur) 0

/-- Segments that take the acceleration from `b` to `c` with the velocity change `dv` in the direction of positive acceleration, in least time under jerk J, with a peak of at most
`lim` (R159); an acceleration above `lim` is brought down to it first. -/
def accSegs (b c dv lim j : Int) : List JerkSeg :=
  let full := qDiv (2 * qMul lim lim - qMul b b - qMul c c) (2 * j) -- change made by a peak of `lim` without a hold
  if lim < b then
    [⟨-j, qDiv (b - lim) j⟩, ⟨0, qDiv (max 0 (dv - qDiv (qMul b b - qMul c c) (2 * j))) lim⟩, ⟨-j, qDiv (lim - c) j⟩]
  else if dv ≤ full then
    let peak := qSqrt (max 0 (qMul j dv + (qMul b b + qMul c c) / 2))
    [⟨j, qDiv (max 0 (peak - b)) j⟩, ⟨-j, qDiv (max 0 (peak - c)) j⟩]
  else
    [⟨j, qDiv (lim - b) j⟩, ⟨0, qDiv (dv - full) lim⟩, ⟨-j, qDiv (lim - c) j⟩]

/-- The segments of a plan mirrored to the other direction. -/
def mirrorSegs (l : List JerkSeg) : List JerkSeg := l.map (fun s => ⟨-s.jerk, s.dur⟩)

/-- Segments that take velocity and acceleration (v0, a0), v0 ≥ 0, to (v1, 0), v1 ≥ 0, in least time (R159, R161): the acceleration is bounded by D where the speed falls and by A where
it rises, also on the way back from a short travel backward that a0 forces. -/
def velSegs (v0 a0 v1 : Int) (l : Limits) : List JerkSeg :=
  let vz := v0 + qDiv (qMul a0 (qAbs a0)) (2 * l.j)      -- velocity reached when a0 is brought straight to 0
  if vz = v1 then [⟨-(qSign a0) * l.j, qDiv (qAbs a0) l.j⟩]
  else if v1 < vz then mirrorSegs (accSegs (-a0) 0 (v0 - v1) l.d l.j)
  else if 0 ≤ vz ∨ 0 ≤ a0 then accSegs a0 0 (v1 - v0) l.a l.j
  else
    let c := min (min l.a l.d) (qSqrt (2 * qMul l.j v1)) -- the largest acceleration at standstill
    if qDiv (qMul c c - qMul a0 a0) (2 * l.j) ≤ -v0 then accSegs a0 c (-v0) l.d l.j ++ accSegs c 0 v1 l.a l.j
    else accSegs a0 0 (v1 - v0) l.a l.j

/-- The stopping plan under D and J from velocity `v0` in the direction of travel (R159, R160). -/
def stopSegs (v0 a0 : Int) (l : Limits) : List JerkSeg := velSegs v0 a0 0 l

/-- The distance a plan covers from (v0, a0). -/
def planDist (segs : List JerkSeg) (v0 a0 : Int) : Int := (kinEnd segs ⟨0, v0, a0⟩).p

/-- The plan that rises (or falls) to `vp`, cruises for `hold` and stops, for travel in the positive direction. -/
def cruiseSegs (v0 a0 vp hold : Int) (l : Limits) : List JerkSeg := velSegs v0 a0 vp l ++ [⟨0, hold⟩] ++ stopSegs vp 0 l

/-- The largest `vp` of `n` bisection steps whose plan stays within `dist`. -/
def bisectVp (v0 a0 dist : Int) (l : Limits) : Nat → Int → Int → Int
  | 0, lo, _ => lo
  | n + 1, lo, hi =>
    let mid := (lo + hi) / 2
    if planDist (cruiseSegs v0 a0 mid 0 l) v0 a0 ≤ dist then bisectVp v0 a0 dist l n mid hi else bisectVp v0 a0 dist l n lo mid

/-- The part of a plan before a time. -/
def takeTime : List JerkSeg → Int → List JerkSeg
  | [], _ => []
  | s :: ss, t => if t ≤ s.dur then [⟨s.jerk, t⟩] else s :: takeTime ss (t - s.dur)

/-- The time at which a plan's velocity has fallen to `v`, by `n` bisection steps. -/
def bisectFall (segs : List JerkSeg) (k : Kin) (v : Int) : Nat → Int → Int → Int
  | 0, _, hi => hi
  | n + 1, lo, hi =>
    let mid := (lo + hi) / 2
    if v < (kinAt segs k mid).v then bisectFall segs k v n mid hi else bisectFall segs k v n lo mid

/-- The braking of a stopping plan until the speed is within V (R159); nothing where it already is. -/
def brakeSegs (v0 a0 : Int) (l : Limits) : List JerkSeg :=
  let stop := stopSegs v0 a0 l
  if v0 ≤ l.v then [] else takeTime stop (bisectFall stop ⟨0, v0, a0⟩ l.v 96 0 (planDur stop))

/-- The plan that brakes as `pre` does, eases the braking by +J for `t`, and stops. -/
def easeSegs (pre : List JerkSeg) (v0 a0 t : Int) (l : Limits) : List JerkSeg :=
  let k := kinEnd (pre ++ [⟨l.j, t⟩]) ⟨0, v0, a0⟩
  pre ++ [⟨l.j, t⟩] ++ stopSegs k.v k.a l

/-- The largest easing time of `n` bisection steps whose plan stays within `dist`. -/
def bisectEase (pre : List JerkSeg) (v0 a0 dist : Int) (l : Limits) : Nat → Int → Int → Int
  | 0, lo, _ => lo
  | n + 1, lo, hi =>
    let mid := (lo + hi) / 2
    if planDist (easeSegs pre v0 a0 mid l) v0 a0 ≤ dist then bisectEase pre v0 a0 dist l n mid hi else bisectEase pre v0 a0 dist l n lo mid

/-- The plan over `dist` ahead, at or beyond the stopping point, with v0 ≥ 0 (R160, first and third rows). A speed above V is reduced to V at D; where the target is too near to cruise at V,
the braking is eased as early as the target allows, and else the plan rises (or falls) to the highest speed from which it still stops on the target. -/
def aheadSegs (v0 a0 dist : Int) (l : Limits) : List JerkSeg :=
  let dTop := planDist (cruiseSegs v0 a0 l.v 0 l) v0 a0
  if dTop ≤ dist then cruiseSegs v0 a0 l.v (qDiv (dist - dTop) l.v) l
  else
    let pre := brakeSegs v0 a0 l
    let k := kinEnd pre ⟨0, v0, a0⟩
    let ease := qDiv (max 0 (-k.a)) l.j                  -- the easing that ends the braking
    if k.a < 0 ∧ dist < planDist (easeSegs pre v0 a0 ease l) v0 a0 then easeSegs pre v0 a0 (bisectEase pre v0 a0 dist l 96 0 ease) l
    else
      let vz := k.v + qDiv (qMul k.a (qAbs k.a)) (2 * l.j)
      cruiseSegs v0 a0 (bisectVp v0 a0 dist l 128 (max 0 (min vz l.v)) l.v) 0 l

/-- A point-to-point plan over the signed distance `dist` from (v0, a0): its segments and the overshoot (R160). -/
def profilePlan (v0 a0 dist : Int) (l : Limits) : List JerkSeg × Int :=
  let s : Int := if v0 ≠ 0 then qSign v0 else if a0 ≠ 0 then qSign a0 else if dist < 0 then -1 else 1
  let flip (x : List JerkSeg) (neg : Bool) : List JerkSeg := if neg then mirrorSegs x else x
  let w := s * v0
  let b := s * a0
  let d := s * dist
  let stop := stopSegs w b l
  let ds := planDist stop w b
  if ds ≤ d then (flip (aheadSegs w b d l) (decide (s < 0)), 0)
  else
    let back := aheadSegs 0 0 (ds - d) l
    (flip (stop ++ mirrorSegs back) (decide (s < 0)), ds - d)

/-- A plan to a signed velocity (R161): through a stop when the sign changes. -/
def velocityPlan (v0 a0 v1 : Int) (l : Limits) : List JerkSeg :=
  let s : Int := if v0 ≠ 0 then qSign v0 else if v1 < 0 then -1 else 1
  let flip (x : List JerkSeg) (neg : Bool) : List JerkSeg := if neg then mirrorSegs x else x
  let w := s * v0
  let b := s * a0
  let t := s * v1
  if 0 ≤ t then flip (velSegs w b t l) (decide (s < 0))
  else flip (stopSegs w b l ++ mirrorSegs (velSegs 0 0 (-t) l)) (decide (s < 0))

/-- The stopping distance of a state under D and J, signed (R162). -/
def stopDistance (v0 a0 : Int) (l : Limits) : Int :=
  let s : Int := if v0 ≠ 0 then qSign v0 else qSign a0
  s * planDist (stopSegs (s * v0) (s * a0) l) (s * v0) (s * a0)

end Sys2Proof.Machine
end

