-- ==== Sys2Proof/Machine/Motion.lean ====
section
/-! DEFINITION. Stage 3 of an axis task (R152 to R177): motion commands, profiles, gearing, cams, limit inputs and homing. -/

namespace Sys2Proof.Machine

/-- What stage 3 reads beside its own state: task period in fixed-point seconds as a ratio of ns, feedback after stage 2, the digital inputs of a delivered sample (DIN, LPOS, POS), the master, the bc index,
and the axis's state code. -/
structure S3In where
  ax : Nat
  perNs : Nat          -- task period, in units of 0.5 ns
  t : F32              -- task period, s
  pFb : Pos64
  pFbPrev : Pos64
  vFb : F32
  din : Option (Nat × Word × Word)
  lposOk : Bool        -- the sample carries LPOS (class X: the second pass only, R230)
  m : Pos64            -- master position
  mVel : F32           -- master velocity, master units/s
  mUnit : Nat          -- one master unit in the master's format: 2^32 for mc, 2^16 for counts
  bcIdx : Word
  firstOfBc : Bool     -- the first task of a bc
  state : Nat
  fresh : Bool
  deriving DecidableEq, Repr

/-! ## Commands -/

/-- The command block of an axis's resident copy (R154). -/
def State.motionBlock (s : State) (a : Nat) : MotionCmd :=
  let w (o : Nat) : Word := s.resPar a (0xC0 + o)
  let w2 (o : Nat) : Pos64 := BitVec.ofNat 64 (nat64 (w o) (w (o + 4)))
  ⟨w 0, w2 4, w2 0xC, w 0x14, w 0x18, w 0x1C, w 0x20, w 0x24, w 0x28, w 0x2C, w2 0x30, w 0x3C⟩

def MotionCmd.op (c : MotionCmd) : Nat := c.ctl.toNat % 16
def MotionCmd.startKind (c : MotionCmd) : Nat := bitsOf c.ctl.toNat 4 2
def MotionCmd.abs (c : MotionCmd) : Bool := c.ctl.toNat.testBit 6

/-- Is a command's limit usable: zero means the axis limit, its magnitude otherwise (R158)? -/
def limitUse (cmd axis : F32) : F32 := if fIsZero cmd || !fFinite cmd then axis else fMin (fAbs cmd) axis

/-- The limits of a command on an axis (R158); those of a GROUP command are used as written, 0 meaning the axis limit (R163). -/
def State.motionLimits (s : State) (a : Nat) (c : MotionCmd) : Limits :=
  let use (x : F32) (off : Nat) : Int :=
    let ax := s.par a off
    qOfF (if c.op = 5 then (if fIsZero x || !fFinite x then ax else fAbs x) else limitUse x ax)
  ⟨max 1 (use c.v 4), max 1 (use c.a 8), max 1 (use c.d 0xC), max 1 (use c.j 0x10)⟩

/-- The axis's own limits (R162). -/
def State.axisLimits (s : State) (a : Nat) : Limits :=
  ⟨qOfF (s.par a 4), qOfF (s.par a 8), qOfF (s.par a 0xC), qOfF (s.par a 0x10)⟩

/-- The cam points that stage 3 reads of a command (R108): the header when it is checked, and at its start the first and last data points. -/
def State.camReads (s : State) (c : MotionCmd) (checked started : Bool) : List Nat :=
  let h := c.x1.toNat
  if c.op != 7 || decide (131071 < h + 1) then []
  else
    let n := bitsOf (s.deckWord (0x100000 + 8 * h)).toNat 0 18
    (if checked || started then [h, h + 1] else []) ++ (if started then [h + 2, h + 1 + n] else [])

/-- The two words of a cam point. -/
def State.camPoint (s : State) (i : Nat) : Word × Word := (s.deckWord (0x100000 + 8 * i), s.deckWord (0x100004 + 8 * i))

/-- A cam table's header (R168): number of points, interpolation, periodic, span. -/
structure CamHead where
  n : Nat
  interp : Nat
  periodic : Bool
  span : Int
  deriving DecidableEq, Repr

/-- Read the header at a point. -/
def State.camHead (s : State) (h : Nat) : CamHead :=
  let w := (s.camPoint h).1.toNat
  let sp := s.camPoint (h + 1)
  ⟨bitsOf w 0 18, bitsOf w 18 2, w.testBit 20, (nat64 sp.1 sp.2 : Nat)⟩

/-- May a CAM command use the table at its header point (R168)? -/
def State.camOk (s : State) (h : Nat) : Bool :=
  let c := s.camHead h
  decide (c.interp ≤ 1) && decide (2 ≤ c.n) && decide (c.n ≤ 131070) && decide (h + 1 + c.n ≤ 131071) && decide (c.span ≠ 0)

/-- Axis coordinates of a loop position (R176). -/
def Motion.toAxis (x : Motion) (p : Pos64) : Int := p.toInt + x.h.toInt

/-- Is a position in axis coordinates within [SL_NEG, SL_POS]? -/
def State.softOk (s : State) (a : Nat) (p : Int) : Bool :=
  decide ((s.slNeg a).toInt ≤ p) && decide (p ≤ (s.par64 a 0x20).toInt)

/-- Are soft limits in force? -/
def State.softOn (s : State) (a : Nat) : Bool := (s.resPar a 0).toNat.testBit 0

/-- Any limit latched, with limits in force. -/
def State.limitAny (s : State) (i : S3In) (x : Motion) : Bool :=
  (s.resPar i.ax 0).toNat.testBit 1 && (x.limP.latched || x.limN.latched)

/-- Is the motion toward +1 or -1 kept out by a latched limit (R173)? -/
def State.limitBlocks (s : State) (a : Nat) (x : Motion) (dir : Int) : Bool :=
  (s.resPar a 0).toNat.testBit 1 && ((decide (0 < dir) && x.limP.latched) || (decide (dir < 0) && x.limN.latched))

/-- The direction of travel of a moving setpoint: of its velocity, at velocity 0 of its acceleration. -/
def Motion.heading (x : Motion) : Int := if qOfF x.vSet ≠ 0 then qSign (qOfF x.vSet) else qSign (qOfF x.aSet)

/-- The direction in which a PROFILE, VELOCITY or GROUP command would move the axis from its present setpoint (R173). -/
def Motion.wayOf (x : Motion) (c : MotionCmd) : Int :=
  if c.op = 1 ∨ c.op = 5 then qSign (c.p - x.h - x.pSet).toInt
  else if c.op = 2 then qSign c.p.toInt
  else if c.op = 3 then qSign (qOfF (if fFinite c.v then c.v else 0))
  else if c.op = 4 then x.heading
  else 0

/-- The checks of a command by the task that takes it (R154, R155, R162, R168, R173, R174). `x` is the motion in force. -/
def State.motionCheck (s : State) (i : S3In) (x : Motion) (c : MotionCmd) : MotionStatus :=
  if i.state = 3 then .state
  else if c.op = 0 ∨ 8 < c.op ∨ c.startKind = 3 then .param
  else if c.op = 6 ∧ (c.x2 = 0 ∨ !fFinite c.x3 ∨ fLt c.x3 0) then .param
  else if c.op = 7 ∧ (131071 < c.x1.toNat + 1 ∨ !s.camOk c.x1.toNat ∨ !fFinite c.x2) then .param
  else if c.op = 8 ∧ 6 < bitsOf (s.resPar i.ax 0x30).toNat 0 4 then .param
  else if (c.op = 1 ∨ c.op = 5) ∧ s.softOn i.ax ∧ !s.softOk i.ax c.p.toInt then .limit
  else if s.limitBlocks i.ax x (x.wayOf c) then .limit
  else if (c.op = 6 ∨ c.op = 7) ∧ s.limitAny i x then .limit
  else .ok

/-- Does the master's step of this task cross a position (R156)? -/
def masterCrosses (c mPrev m : Pos64) : Bool :=
  let step := (m - mPrev).toInt
  let d := (c - mPrev).toInt
  (decide (0 < step) && decide (0 < d) && decide (d ≤ step)) || (decide (step < 0) && decide (step ≤ d) && decide (d < 0))

/-- Is this the start task of a pending command (R156)? -/
def motionStarts (i : S3In) (x : Motion) (c : MotionCmd) : Bool :=
  if c.startKind = 0 then true
  else if c.startKind = 1 then i.firstOfBc && decide (0 ≤ (i.bcIdx - BitVec.ofNat 32 c.at_.toNat).toInt)
  else x.mSeen && masterCrosses c.at_ x.mPrev i.m

/-! ## Evaluation of the modes -/

/-- The time of `k` task periods in fixed-point seconds. -/
def planTime (perNs k : Nat) : Int := (k : Int) * (perNs : Int) * qOne / 2000000000

/-- The task count of a plan, rounded up; the start task outputs at least the target. -/
def planTasks (perNs : Nat) (l : List JerkSeg) : Nat :=
  let t := planDur l
  max 1 ((t * 2000000000 + (perNs : Int) * qOne - 1) / ((perNs : Int) * qOne)).toNat

/-- The state of the plan in force at a profile time of `k` periods. -/
def Motion.planAt (x : Motion) (perNs k : Nat) : Kin := kinAt x.plan ⟨0, x.v0, x.a0⟩ (planTime perNs k)

/-- The setpoint of a plan: position from the plan's start. After the plan its last velocity stands (R161). -/
def Motion.planOut (x : Motion) (perNs k : Nat) : Pos64 × F32 × F32 :=
  let q := x.planAt perNs k
  let p := x.p0 + BitVec.ofInt 64 (posOfQ k q.p)
  if planDur x.plan ≤ planTime perNs k then (p, x.vEnd, 0) else (p, fOfQ k q.v, fOfQ k q.a)

/-- Give a motion a plan that starts from its previous output and leaves it at a velocity. -/
def Motion.withPlan (x : Motion) (mode : MotionMode) (segs : List JerkSeg) (perNs : Nat) (vEnd : F32) : Motion :=
  { x with mode := mode, plan := segs, tau := 0, p0 := x.pSet, v0 := qOfF x.vSet, a0 := qOfF x.aSet, dur := planTasks perNs segs, vEnd := vEnd }

/-- The ratio NUM/DEN of a GEAR command in fixed point. -/
def MotionCmd.ratioQ (c : MotionCmd) : Int := c.x1.toInt * qOne / max 1 (c.x2.toNat : Int)

/-- A gearing position (R165, R167): `g` is the master travel from M0 in the master's format. -/
def gearPos (x : Motion) (i : S3In) (g : Int) : Int :=
  let c := x.cmd
  let u : Int := (i.mUnit : Nat)
  if !x.ramping then (c.x1.toInt * g * 65536).tdiv ((max 1 c.x2.toNat : Nat) * u)
  else
    let ramp := qOfF c.x3                                      -- master units
    let d := g * qOne / u                                      -- travel, master units
    let q := if d ≤ 0 then qMul x.rFrom d
      else if d ≤ ramp then qMul x.rFrom d + qDiv (qMul (c.ratioQ - x.rFrom) (qMul d d)) (2 * max 1 ramp)
      else qMul (x.rFrom + c.ratioQ) ramp / 2 + qMul c.ratioQ (d - ramp)
    q.tdiv ((2 : Int) ^ 48)

/-- The present ratio of a gearing in fixed point (R167). -/
def gearRatio (x : Motion) (i : S3In) (g : Int) : Int :=
  if !x.ramping then x.cmd.ratioQ
  else
    let ramp := max 1 (qOfF x.cmd.x3)
    let d := max 0 (min ramp (g * qOne / ((i.mUnit : Nat) : Int)))
    x.rFrom + qDiv (qMul (x.cmd.ratioQ - x.rFrom) d) ramp

/-- Master travel from M0. -/
def Motion.travel (x : Motion) (m : Pos64) : Int := (m - BitVec.ofInt 64 x.m0).toInt

/-- The gearing setpoint at a master position. -/
def gearAt (x : Motion) (i : S3In) (m : Pos64) : Pos64 := x.off + BitVec.ofInt 64 (gearPos x i (x.travel m))

/-- A cam's value and slope at a fraction of a point interval (R169 step 3). -/
def camInterp (interp : Nat) (y0 s0 y1 s1 f : F32) : F32 × F32 :=
  let f2 := fMul f f
  let f3 := fMul f2 f
  let three : F32 := 0x40400000
  let six : F32 := 0x40C00000
  if interp = 0 then (fMadd f (fSub y1 y0) y0, fSub y1 y0)
  else
    let h00 := fAdd (fMadd (fNeg three) f2 (fMul fTwo f3)) fOne
    let h10 := fAdd (fMadd (fNeg fTwo) f2 f3) f
    let h01 := fMadd (fNeg fTwo) f3 (fMul three f2)
    let h11 := fSub f3 f2
    let d00 := fMul six (fSub f2 f)
    let d10 := fAdd (fMadd (fNeg 0x40800000) f (fMul three f2)) fOne
    let d01 := fMul six (fSub f f2)
    let d11 := fMadd (fNeg fTwo) f (fMul three f2)
    (fAdd (fMadd h10 s0 (fMul h00 y0)) (fMadd h11 s1 (fMul h01 y1)),
     fAdd (fMadd d10 s0 (fMul d00 y0)) (fMadd d11 s1 (fMul d01 y1)))

/-- An evaluated cam (R169): the position without OFF, the velocity, the wraps, and the points read. -/
structure CamEval where
  p : Int
  v : F32
  wraps : Int
  points : List Nat
  deriving DecidableEq, Repr

/-- Evaluate a cam table at a master position (R169). -/
def State.camEval (s : State) (x : Motion) (i : S3In) (m : Pos64) : CamEval :=
  let h := x.cmd.x1.toNat
  let c := s.camHead h
  let scale := x.cmd.x2
  let span := max 1 c.span
  let g := x.travel m
  let k : Int := if c.periodic then g / span else 0
  let u : Int := if c.periodic then g % span else max 0 (min span g)
  let xn := u * ((c.n - 1 : Nat) : Int)
  let idx := (min ((c.n : Int) - 2) (xn / span)).toNat
  let f := fOfRat ((xn - (idx : Int) * span) * (2 : Int) ^ 24 / span) (2 ^ 24)
  let p0 := s.camPoint (h + 2 + idx)
  let p1 := s.camPoint (h + 3 + idx)
  let y := camInterp c.interp p0.1 p0.2 p1.1 p1.2 f
  let spanU := fOfRat span i.mUnit
  let v := fMul (fDiv (fMul (fMul scale y.2) (fOfInt ((c.n : Int) - 1))) spanU) i.mVel
  ⟨posOfF (fMul scale y.1) + k * x.rise, v, k, [h, h + 1, h + 2 + idx, h + 3 + idx]⟩

/-- The cam points that the start of a CAM command reads at its start position (R108, R170): of the new table, and of the old one that it follows up to there. -/
def State.camStartReads (s : State) (old new : Motion) (i : S3In) : List Nat :=
  let at_ : Pos64 := if new.cmd.startKind = 2 then new.cmd.at_ else if old.mSeen then old.mPrev else i.m
  if new.mode = .cam then (s.camEval new i at_).points ++ (if old.mode = .cam then (s.camEval old i at_).points else []) else []

/-- SSCALE × RISE of a command's table in pos64 (R169 step 4). -/
def State.camRise (s : State) (c : MotionCmd) : Int :=
  let h := c.x1.toNat
  let n := (s.camHead h).n
  posOfF (fMul c.x2 (fSub (s.camPoint (h + 1 + n)).1 (s.camPoint (h + 2)).1))

/-- The origin of a CAM command: M0, for a periodic table moved by the whole spans that lie between it and the start position, so that wraps count from the start (R169, R170). -/
def State.camOrigin (s : State) (c : MotionCmd) (start : Pos64) : Int :=
  let hd := s.camHead c.x1.toNat
  let span := max 1 hd.span
  if hd.periodic then c.m0.toInt + (start - c.m0).toInt / span * span else c.m0.toInt

/-- The error of a deviation: velocity change per period (R165, R169). -/
def accelOf (v vPrev t : F32) : F32 := fDiv (fSub v vPrev) t

/-! ## Limit and reference inputs (R172) -/

/-- Qualification and latch of one input; `away` is the signed direction of leaving, 0 for either. -/
def inputStep (x : InputLatch) (active : Bool) (q : Nat) (p : Pos64) (hyst : Int) (away : Int) : InputLatch :=
  let first := if active && x.active = 0 then p else x.first
  let act := if active then x.active + 1 else 0
  let ina := if active then 0 else x.inactive + 1
  let y : InputLatch := { x with active := act, inactive := ina, first := first }
  if !y.latched && decide (q ≤ act) then { y with latched := true, at_ := first }
  else
    let moved := (p - y.at_).toInt
    let left := if away = 0 then decide (hyst ≤ qAbs moved) else decide (hyst ≤ away * moved)
    if y.latched && decide (q ≤ ina) && left then { y with latched := false } else y

/-- The consecutive samples that qualify an edge: max(1, ceil(LIM_DEB / T)) (R172). -/
def State.qualify (s : State) (i : S3In) : Nat := max 1 ((s.parN i.ax 0x14 * 2000 + i.perNs - 1) / i.perNs)

/-- Step the three inputs on a delivered sample. -/
def State.inputsStep (s : State) (i : S3In) (x : Motion) : Motion :=
  match i.din with
  | none => x
  | some (din, _, _) =>
    let cfg := (s.resPar i.ax 0).toNat
    let q := s.qualify i
    let hy := posOfF (s.par i.ax 0x18)
    let act (b pol : Nat) : Bool := din.testBit b != cfg.testBit pol
    { x with
      limP := inputStep x.limP (act 0 2) q i.pFb hy (-1)
      limN := inputStep x.limN (act 1 2) q i.pFb hy 1
      ref := inputStep x.ref (act 2 3) q i.pFb hy 0
      armed := x.armed || !din.testBit 7 }

/-! ## Starting a command -/

/-- The direction and limits of HOME's method (R174). -/
def State.homeDir (s : State) (a : Nat) : Int := if (s.resPar a 0x30).toNat.testBit 4 then -1 else 1
def State.homeMethod (s : State) (a : Nat) : Nat := bitsOf (s.resPar a 0x30).toNat 0 4
def State.homeLimits (s : State) (a : Nat) : Limits :=
  ⟨qOfF (s.par a 0x34), max 1 (qOfF (s.par a 0x3C)), max 1 (qOfF (s.par a 0x3C)), max 1 (qOfF (s.par a 0x10))⟩

/-- Enter a phase of HOME with a motion at a signed velocity. -/
def State.homeGo (s : State) (i : S3In) (x : Motion) (ph : HomePhase) (vel : F32) (lreq : Nat) : Motion :=
  let x' := x.withPlan .home (velocityPlan (qOfF x.vSet) (qOfF x.aSet) (qOfF vel) (s.homeLimits i.ax)) i.perNs vel
  { x' with phase := ph, lreq := lreq, armed := if lreq = x.lreq then x.armed else false }

/-- `HM_V1` and `HM_V2` along a signed direction. -/
def State.homeV1 (s : State) (a : Nat) (d : Int) : F32 := if d < 0 then fNeg (s.par a 0x34) else s.par a 0x34
def State.homeV2 (s : State) (a : Nat) (d : Int) : F32 := if d < 0 then fNeg (s.par a 0x38) else s.par a 0x38

/-- The LREQ code of the limit in a direction. -/
def limitReq (d : Int) : Nat := if 0 < d then 3 else 4

/-- The approach phase of a method (R174). -/
def State.homeApproach (s : State) (i : S3In) (x : Motion) : Motion :=
  let d := s.homeDir i.ax
  let v := s.homeV2 i.ax d
  if s.homeMethod i.ax = 3 then s.homeGo i x .approach v (limitReq d)
  else s.homeGo i x .approach v 1

/-- A command starts (R156 to R174): the new motion and the report of stage 14. `p` is the mode's previous output. -/
def State.motionStart (s : State) (i : S3In) (x : Motion) (c : MotionCmd) : Motion × List MotionReport × Bool × Option Pos64 :=
  let lim := s.motionLimits i.ax c
  let v0 := qOfF x.vSet
  let a0 := qOfF x.aSet
  let ok (x : Motion) (over_ : Int) (dur : Nat) : Motion × List MotionReport × Bool × Option Pos64 := (x, [⟨.ok, c.seq, over_, dur⟩], false, none)
  let no (st : MotionStatus) : Motion × List MotionReport × Bool × Option Pos64 := (x, [⟨st, c.seq, 0, 0⟩], false, none)
  let x1 : Motion := { x with cmd := c, target := x.pSet }
  if c.op = 1 ∨ c.op = 2 then
    let target : Pos64 := if c.op = 1 then c.p - x.h else x.pSet + c.p
    let dist := qOfPos (target - x.pSet).toInt
    if s.softOn i.ax && !s.softOk i.ax (x.toAxis target) then no .limit
    else if s.limitBlocks i.ax x (qSign dist) then no .limit
    else
      let r := profilePlan v0 a0 dist lim
      let y := { x1.withPlan .profile r.1 i.perNs 0 with target := target }
      ok y (cntOfQ r.2) y.dur
  else if c.op = 3 then
    let vmax := s.par i.ax 4
    let v1 := fClamp (if fFinite c.v then c.v else 0) (fNeg vmax) vmax
    if s.limitBlocks i.ax x (qSign (qOfF v1)) then no .limit
    else ok (x1.withPlan .velocity (velocityPlan v0 a0 (qOfF v1) lim) i.perNs v1) 0 0
  else if c.op = 4 then
    let d := stopDistance v0 a0 lim
    let sg : Int := if v0 ≠ 0 then qSign v0 else if a0 < 0 then -1 else 1
    let segs := stopSegs (sg * v0) (sg * a0) lim
    if s.limitBlocks i.ax x x.heading then no .limit
    else
      let y := x1.withPlan .profile (if sg < 0 then mirrorSegs segs else segs) i.perNs 0
      let y := { y with target := x.pSet + BitVec.ofInt 64 (posOfQ 0 d) }
      ok y 0 y.dur
  else if c.op = 5 then
    if !fIsZero x.vSet || !fIsZero x.aSet then no .state
    else
      let target := c.p - x.h
      if s.softOn i.ax && !s.softOk i.ax (x.toAxis target) then no .limit
      else if s.limitBlocks i.ax x (target - x.pSet).toInt then no .limit
      else
        let l := qOfPos ((nat64 c.x2 c.x3 : Nat) * 65536)
        let r := profilePlan 0 0 l lim
        let y := { x1.withPlan .group r.1 i.perNs 0 with target := target, v0 := 0, a0 := 0 }
        ok y 0 y.dur
  else if c.op = 6 then
    if s.limitAny i x then no .limit
    else
      let m0 : Pos64 := if c.startKind = 2 then c.at_ else if x.mSeen then x.mPrev else i.m
      let p0 : Pos64 := if c.abs then c.p - x.h
        else if x.mode = .gear then gearAt x i m0 else x.pSet
      let rf : Int := if x.mode = .gear then gearRatio x i (x.travel m0)
        else if fIsZero i.mVel then 0 else qOfF (fDiv x.vSet i.mVel)
      ok { x1 with mode := .gear, m0 := m0.toInt, off := p0, rFrom := rf, ramping := fLt 0 c.x3 } 0 0
  else if c.op = 7 then
    if s.limitAny i x then no .limit
    else
      let st : Pos64 := if c.startKind = 2 then c.at_ else if x.mSeen then x.mPrev else i.m
      let y := { x1 with mode := .cam, m0 := s.camOrigin c st, off := 0, wraps := 0, rise := s.camRise c }
      let prev : Pos64 := if x.mode = .cam ∧ c.startKind = 2 then x.off + BitVec.ofInt 64 (s.camEval x i st).p
        else if x.mode = .gear ∧ c.startKind = 2 then gearAt x i st else x.pSet
      let off : Pos64 := if c.abs then c.p - x.h else prev - BitVec.ofInt 64 (s.camEval y i st).p
      ok { y with off := off } 0 0
  else
    let hm := s.par64 i.ax 0x40
    let meth := s.homeMethod i.ax
    let d := s.homeDir i.ax
    let x2 := { x1 with homeStart := x.pSet, reversed := false, feRun := 0 }
    if meth = 0 then
      ({ x2 with mode := .hold, h := hm - x.pSet }, [⟨.ok, c.seq, 0, 0⟩], true, some x.pSet)
    else if meth = 6 then
      ({ x2 with mode := .hold, h := hm }, [⟨.ok, c.seq, 0, 0⟩], true, some x.pSet)
    else if meth = 4 then ok (s.homeGo i x2 .approach (s.homeV2 i.ax d) 2) 0 0
    else if meth = 5 then ok (s.homeGo i x2 .hard (s.homeV2 i.ax d) 0) 0 0
    else ok (s.homeGo i x2 .search (s.homeV1 i.ax d) 0) 0 0

/-! ## HOME (R174, R175) -/

/-- What HOME does on a task: its motion, faults, completion and latched position. -/
structure HomeOut where
  m : Motion
  fault : Bool
  done : Option Pos64
  deriving DecidableEq, Repr

/-- The latch of LPOS (R174): LVAL in a sample taken since the latch was armed. -/
def homeLatch (i : S3In) (x : Motion) : Option Pos64 :=
  match i.din with
  | none => none
  | some (din, lpos, pos) =>
    if i.lposOk && din.testBit 7 && x.armed then some (i.pFb + BitVec.ofInt 64 ((lpos - pos).toInt * 65536)) else none

/-- Has the plan in force come to its end at the next period? -/
def Motion.planOver (x : Motion) (perNs : Nat) : Bool := decide (planDur x.plan ≤ planTime perNs x.tau)

/-- The latch acts: H is set so that the latched position reads HM_POS, and the axis stops (R174). -/
def State.homeLatched (s : State) (i : S3In) (x : Motion) (p : Pos64) : HomeOut :=
  let x := { x with h := s.par64 i.ax 0x40 - p, target := p }
  ⟨s.homeGo i x .stopEnd 0 0, false, none⟩

/-- One task of HOME before its output is formed (R174, R175). `newD` and `newO` say that the limit in d, or the other one, latched in this task: only a latch that comes in HOME acts. A limit in
d that comes in the search reverses it once, or ends HOME; any other latch ends HOME, but for the limit that is METHOD 3's own switch (log entry 29). -/
def State.homeStep (s : State) (i : S3In) (x : Motion) (newD newO : Bool) : HomeOut :=
  let d := s.homeDir i.ax
  let meth := s.homeMethod i.ax
  let limD := if 0 < d then x.limP.latched else x.limN.latched
  let sw := if meth = 3 then limD else x.ref.latched
  let trip := newO || (newD && meth != 3)
  let dist := s.par i.ax 0x48
  let far := !fIsZero dist && fLt dist (fAbs (fOfPos (x.pSet - x.homeStart).toInt))
  let fail : HomeOut := ⟨x, true, none⟩
  let go (ph : HomePhase) (v : F32) (lreq : Nat) : HomeOut := ⟨s.homeGo i x ph v lreq, false, none⟩
  let stay : HomeOut := ⟨x, false, none⟩
  if far then fail
  else match x.phase with
    | .search =>
      if !x.reversed then
        if sw then (if trip then fail else go .stopClear 0 0)
        else if newD && meth != 3 && !newO && (s.resPar i.ax 0x30).toNat.testBit 5 then ⟨{ s.homeGo i x .stopApproach 0 0 with reversed := true }, false, none⟩
        else if trip then fail
        else stay
      else if trip then fail
      else if sw then ⟨{ x with phase := .clear }, false, none⟩
      else stay
    | .stopClear => if trip then fail else if x.planOver i.perNs then go .clear (s.homeV1 i.ax (-d)) 0 else stay
    | .stopApproach => if trip then fail else if x.planOver i.perNs then go .search (s.homeV1 i.ax (-d)) 0 else stay
    | .clear => if trip then fail else if !sw then ⟨s.homeApproach i x, false, none⟩ else stay
    | .approach =>
      if trip then fail
      else if meth = 2 then (if x.ref.latched then go .approachIndex (s.homeV2 i.ax d) 2 else stay)
      else match homeLatch i x with
        | some p => s.homeLatched i x p
        | none => stay
    | .approachIndex =>
      if trip then fail
      else match homeLatch i x with
        | some p => s.homeLatched i x p
        | none => stay
    | .stopEnd =>
      if trip then fail
      else if x.planOver i.perNs then ⟨{ x with mode := .hold, vSet := 0, aSet := 0 }, false, some x.target⟩ else stay
    | .hard =>
      if trip then fail
      else if s.parN i.ax 0x50 ≤ x.feRun then
        let p := i.pFbPrev
        ⟨{ x with mode := .hold, h := s.par64 i.ax 0x40 - p, pSet := i.pFb, vSet := 0, aSet := 0 }, false, some p⟩
      else stay

/-! ## The stage -/

/-- A motion that has come to its end enters HOLD at its target. -/
def Motion.holdAt (x : Motion) (p : Pos64) : Motion := { x with mode := .hold, pSet := p, vSet := 0, aSet := 0, plan := [] }

/-- At the end of its ramp a gearing is re-based (R167): M0 becomes the ramp end, P0 the position reached there. -/
def gearRebase (x : Motion) (i : S3In) : Motion :=
  let ramp := qOfF x.cmd.x3 * ((i.mUnit : Nat) : Int) / qOne
  if x.ramping ∧ ramp ≤ x.travel i.m then
    { x with ramping := false, m0 := x.m0 + ramp, off := x.off + BitVec.ofInt 64 (gearPos x i ramp) }
  else x

/-- The output of the mode in force for this task, with the motion advanced, and whether the motion ended with its output (R152, R159 to R170). -/
def State.motionOutput (s : State) (i : S3In) (x : Motion) : Motion × Bool × List Nat :=
  match x.mode with
  | .hold => ({ x with vSet := 0, aSet := 0 }, false, [])
  | .profile =>
    let k := x.tau + 1
    if x.dur ≤ k then ({ x.holdAt x.target with tau := k }, true, [])
    else
      let o := x.planOut i.perNs k
      ({ x with tau := k, pSet := o.1, vSet := o.2.1, aSet := o.2.2 }, false, [])
  | .velocity =>
    let o := x.planOut i.perNs (x.tau + 1)
    ({ x with tau := x.tau + 1, pSet := o.1, vSet := o.2.1, aSet := o.2.2 }, false, [])
  | .group =>
    let k := x.tau + 1
    if x.dur ≤ k then ({ x.holdAt x.target with tau := k }, true, [])
    else
      let q := x.planAt i.perNs k
      let kk := x.cmd.x1.toInt
      let sc (z : Int) : Int := z * kk / (2 : Int) ^ 30
      ({ x with tau := k, pSet := x.p0 + BitVec.ofInt 64 (posOfQ k (sc q.p)), vSet := fOfQ k (sc q.v), aSet := fOfQ k (sc q.a) }, false, [])
  | .gear =>
    let x := gearRebase x i
    let g := x.travel i.m
    let p := gearAt x i i.m
    let r := gearRatio x i g
    let v := if x.ramping then fMul (fOfQ 0 r) i.mVel else fMul (fDiv (fOfInt x.cmd.x1.toInt) (fOfInt x.cmd.x2.toNat)) i.mVel
    ({ x with pSet := p, vSet := v, aSet := accelOf v x.vSet i.t }, false, [])
  | .cam =>
    let e := s.camEval x i i.m
    ({ x with pSet := x.off + BitVec.ofInt 64 e.p, vSet := e.v, aSet := accelOf e.v x.vSet i.t, wraps := e.wraps }, false, e.points)
  | .home =>
    let o := x.planOut i.perNs (x.tau + 1)
    ({ x with tau := x.tau + 1, pSet := o.1, vSet := o.2.1, aSet := o.2.2 }, false, [])

/-- Stage 3 (R152 to R177). -/
def State.stage3 (s : State) (i : S3In) (x : Motion) : S3Out :=
  let a := i.ax
  -- the first task after an enable or a resume holds the feedback position (R152)
  let x : Motion := if i.fresh then { x with mode := .hold, pSet := i.pFb, vSet := 0, aSet := 0, mSeen := false } else x
  let before := x
  let x := s.inputsStep i x
  let newP := x.limP.latched && !before.limP.latched
  let newN := x.limN.latched && !before.limN.latched
  let f20 : List Nat := if (newP || newN) && (s.resPar a 0).toNat.testBit 1 && x.mode != .home then [0x20] else []
  -- a new command is taken (R155)
  let blk := s.motionBlock a
  let take := blk.seq != x.seqTaken
  let chk := s.motionCheck i x blk
  let r1 : List MotionReport := if take then
      (if chk = .ok then (match x.wait with | some w => [⟨.aborted, w.seq, 0, 0⟩] | none => []) else [⟨chk, blk.seq, 0, 0⟩])
    else []
  let x : Motion := if take then { x with seqTaken := blk.seq, wait := if chk = .ok then some blk else x.wait } else x
  -- its start task (R156)
  let st : Motion × List MotionReport × Bool × Option Pos64 := match x.wait with
    | some c => if motionStarts i x c then s.motionStart i { x with wait := none } c else (x, [], false, none)
    | none => (x, [], false, none)
  let x := st.1
  -- HOME (R174, R175)
  let pos := decide (0 < s.homeDir a)
  let hm : HomeOut := if x.mode = .home then s.homeStep i x (if pos then newP else newN) (if pos then newN else newP) else ⟨x, false, none⟩
  let x := hm.m
  let out := s.motionOutput i x
  let y : Motion := { out.1 with mPrev := i.m, mSeen := true }
  -- the stopping point against the soft limits (R162)
  let lim := s.axisLimits a
  let stopAt := y.toAxis y.pSet + posOfQ 0 (stopDistance (qOfF y.vSet) (qOfF y.aSet) lim)
  let f22 : List Nat := if s.softOn a && y.mode != .home && decide (i.state ≠ 3) &&
      (decide ((s.par64 a 0x20).toInt < stopAt) || decide (stopAt < (s.slNeg a).toInt)) then [0x22] else []
  let f21 : List Nat := if hm.fault then [0x21] else []
  let started := st.2.1.any (fun r => r.status == .ok)
  let read := out.2.2 ++ (if take then s.camReads blk true false else []) ++ (if started then s.camReads x.cmd false true ++ s.camStartReads before x i else [])
  let f4 : List Nat := if read.any (fun k => s.deckBad (0x100000 + 8 * k)) then [4] else []
  let reps := st.2.1.map (fun r => if !f22.isEmpty && r.status = .ok then { r with status := .limit } else r)
  ⟨y, y.pSet, y.vSet, y.aSet, f20 ++ f21 ++ f22 ++ f4, r1 ++ reps, out.2.1 || st.2.2.1 || hm.done.isSome,
    match hm.done with | some p => some p | none => st.2.2.2⟩

end Sys2Proof.Machine
end

