-- ==== Sys2Proof/Machine/Axis.lean ====
section
/-! DEFINITION. The axis control law (R113 to R150): feedback decode, slew limiter, position, velocity and current loops, feed-forward, notch filters, supervision,
load test, export, and fault reactions. -/

namespace Sys2Proof.Machine

/-! ## The feedback sample -/

/-- Is a slot usable in a period (R116): VALID, its PER, no bad word (R108)? -/
def State.slotOk (s : State) (slot per : Nat) : Bool :=
  let h := (s.deckWord (fbAddr slot)).toNat
  h.testBit 31 && bitsOf h 16 8 == per % 256 && !(s.deck.bad.any (fun b => decide (fbAddr slot ≤ b) && decide (b < fbAddr slot + 64)))

/-- The record in a feedback slot. -/
def State.slotSample (s : State) (slot : Nat) (x2 : Bool) : FbSample :=
  let w (k : Nat) : Word := s.deckWord (fbAddr slot + 4 + 4 * k)
  ⟨w 0, (w 1).toNat % 65536, bitsOf (w 1).toNat 16 8, if x2 then w 5 else w 2, w 3, w 2, w 3, (w 4).toNat % 65536, w 5⟩

/-- The pass of a task: 1 in the second express period of class X. -/
def State.passOf (s : State) (a : Nat) : Nat := if s.axisClass a = 1 then s.cyc.half else 0

/-- Does the axis follow a master axis in an ordered flow (R79, R153)? -/
def State.inFlow (s : State) (a m : Nat) : Bool :=
  match s.flowOf a, s.flowOf m with
  | some x, some y => x == y && s.flag (R.DSP_FLOW_ORD x)
  | _, _ => false

/-- The delivered sample of an axis's task in a pass (R116): its slot usable, and no bad export word of a flow master (R108). -/
def State.sampleOf (s : State) (a h : Nat) : Option FbSample :=
  let slot := s.f (R.AXT_W1_FB_SLOT a) + h
  let cfg := (s.resPar a 0).toNat
  let m := bitsOf cfg 8 8
  let expBad := bitsOf cfg 4 3 != 0 && s.inFlow a m && s.deck.bad.any (fun b => decide (0x60000 + 64 * m ≤ b) && decide (b < 0x60018 + 64 * m))
  if s.slotOk slot (2 * s.bcn + h) && !expBad then some (s.slotSample slot (h == 1)) else none

/-! ## Stage 2 -/

/-- Saturating count of a published counter. -/
def satInc (n : Nat) : Nat := min 0xFFFFFFFF (n + 1)

/-- Stage 2 (R116 to R121, R147). Log entry 91 says how it reads the corners of these rules: p_fb_prev, the first task, and the flags of a sample that is not used. -/
def State.stage2 (s : State) (a cls : Nat) (t : F32) (d : AxisDyn) (smp : Option FbSample) : Decoded :=
  let inv := (s.resPar a 0x100).toNat.testBit 0
  let first := d.fresh || !d.posOk
  let nT := fMul (fOfInt ((d.missRun + 1 : Nat) : Int)) t
  let decode (x : FbSample) : Int × Pos64 × F32 :=
    let d0 := (x.pos - d.posPrev).toInt
    let dd : Int := if first then 0 else if inv then -d0 else d0
    let p : Pos64 := if first then BitVec.ofInt 64 (x.pos.toInt * 65536) else d.pRef + BitVec.ofInt 64 (dd * 65536)
    let model := fMul (fMul (fMul fHalf (s.par a 0x404)) (if cls = 3 then 0 else d.iApp)) (fMul nT nT)
    let r := fSub (fMadd (fNeg d.vFb) nT (fOfInt dd)) model
    (dd, p, r)
  let jump := s.par a 0x40C
  let hz := match smp with | some x => x.flags.testBit 2 || x.flags.testBit 3 | none => false
  let ok := match smp with | some x => !x.flags.testBit 0 | none => false
  let rej := match smp with
    | some x => ok && !fIsZero jump && fGt (fAbs (decode x).2.2) jump
    | none => false
  let good := ok && !rej
  let d1 : AxisDyn := match smp with
    | some x =>
      if good then
        let c := decode x
        let vRaw := fDiv (fOfInt c.1) nT
        let v := fMadd (s.par a 0x10C) (fSub vRaw d.vFb) d.vFb
        let cur := if cls = 0 ∨ cls = 2 then x.iMeas else d.iMeas
        { d with pFb := c.2.1, pRef := c.2.1, vFb := v, posPrev := x.pos, posOk := true, missRun := 0, iMeas := cur }
      else { d with pFb := d.pFb + BitVec.ofInt 64 (posOfF (fMul d.vFb t)), missRun := satInc d.missRun, missTot := satInc d.missTot }
    | none => { d with pFb := d.pFb + BitVec.ofInt 64 (posOfF (fMul d.vFb t)), missRun := satInc d.missRun, missTot := satInc d.missTot }
  let counted := hz && !d.fresh
  let d2 : AxisDyn := match smp with
    | some _ =>
      if counted then { d1 with cmdRun := satInc d1.cmdRun, cmdTot := satInc d1.cmdTot }
      else if hz then d1
      else { d1 with cmdRun := 0 }
    | none => d1
  let d3 : AxisDyn := { d2 with posOk := d2.posOk && (good || !first) }
  let f10 : List Nat := if s.parN a 0x104 < d3.missRun then [0x10] else []
  let f16 : List Nat := if counted && decide (s.parN a 0x108 ≤ d3.cmdRun) then [0x16] else []
  let r := match smp with | some x => if ok then (decode x).2.2 else 0 | none => 0
  ⟨d3, good, hz, r, d.pFb, f10 ++ f16, (if good then 0 else 1) + (if rej then 32 else 0) + (if hz then 256 else 0)⟩

/-! ## Master -/

/-- A word of a master axis's export block as a slave reads it (R79, R82, R153): as it stands for a member of the same ordered flow, of the express period before for the other member
of an exclusive class-X flow, else of the bc before. -/
def State.exportWord (s : State) (a m k : Nat) : Word :=
  if s.inFlow a m then s.deckWord (0x60000 + 64 * m + 4 * k)
  else if (s.flowOf a).isSome && s.flowOf a == s.flowOf m && s.axisClass a == 1 then tabGet (fun _ => 0) s.deck.expX (16 * m + k)
  else tabGet (fun _ => 0) s.deck.expT0 (16 * m + k)

/-- The master's position and velocity, and one master unit in its format (R153). `x2` says that it is the second pass of class X. -/
def State.masterOf (s : State) (a cls : Nat) (x2 : Bool) : Pos64 × F32 × Nat :=
  let cfg := (s.resPar a 0).toNat
  let mst := bitsOf cfg 4 3
  let m := min 159 (bitsOf cfg 8 8)
  if mst = 1 ∨ mst = 2 then
    let w (k : Nat) : Word := s.exportWord a m k
    let o := if mst = 1 then 0 else 2
    (BitVec.ofNat 64 (nat64 (w o) (w (o + 1))), w (if mst = 1 then 4 else 5), 2 ^ 16)
  else
    let g := if x2 then s.chn.xsnap else s.chn.snap
    (chn64 (segAt g (if cls = 1 then s.pExp else s.nBc)), fOfRat (g.v.toInt * 800000000) (2 ^ 64), 2 ^ 32)

/-! ## Stage 4 -/

/-- Stage 4 (R122). Landing sets p_lim to p_set itself, as its comment says, where the product of the next line would round (log entry 91). -/
def State.stage4 (s : State) (a : Nat) (t : F32) (pPrev : Pos64) (vPrev : F32) (p : Pos64) (v acc : F32) : Slewed :=
  if !(s.resPar a 0x100).toNat.testBit 1 then ⟨p, v, acc, v, false⟩
  else
    let as := s.par a 0x114
    let e := fOfPos (p - pPrev).toInt
    let vmax := fMin (s.par a 0x110) (fSqrt (fMul (fMul fTwo as) (fAbs e)))
    let et := fDiv e t
    let vreq := fClamp et (fNeg vmax) vmax
    let dv := fMul as t
    let v1 := fClamp vreq (fSub vPrev dv) (fAdd vPrev dv)
    let land_ := fGe (fAbs (fMul v1 t)) (fAbs e)
    let v2 := if land_ then et else v1
    let pl := if land_ then p else pPrev + BitVec.ofInt 64 (posOfF (fMul v2 t))
    if v2 = et then ⟨pl, v, acc, v2, false⟩ else ⟨pl, v2, fDiv (fSub v2 vPrev) t, v2, true⟩

/-! ## Stage 8 -/

/-- One notch filter (R126, R127): its new state and output. -/
def State.notchStep (s : State) (a n : Nat) (st : NotchState) (x : F32) : NotchState × F32 :=
  let o := 0x300 + n * 0x20
  let en := (s.resPar a o).toNat.testBit 0
  let b0 := s.par a (o + 4)
  let b1 := s.par a (o + 8)
  let b2 := s.par a (o + 12)
  let a1 := s.par a (o + 16)
  let a2 := s.par a (o + 20)
  if !en then ({ st with en := false }, x)
  else if !st.en then
    let s2 := fMul (fSub b2 a2) x
    let s1 := fMadd (fSub b1 a1) x s2
    (⟨s1, s2, true⟩, fMul (fSub (fSub (fAdd (fAdd b0 b1) b2) a1) a2) x)
  else
    let y := fMadd b0 x st.s1
    (⟨fAdd (fMadd (fNeg a1) y (fMul b1 x)) st.s2, fMadd (fNeg a2) y (fMul b2 x), true⟩, y)

/-- The four filters in series. -/
def State.stage8 (s : State) (a : Nat) (l : List NotchState) (x : F32) : List NotchState × F32 :=
  let f (acc : Nat × List NotchState × F32) (st : NotchState) : Nat × List NotchState × F32 :=
    let r := s.notchStep a acc.1 st acc.2.2
    (acc.1 + 1, acc.2.1 ++ [r.1], r.2)
  let r := l.foldl f (0, [], x)
  (r.2.1, r.2.2)

/-! ## Stage 9 -/

/-- Stage 9 (R129 to R132). `smp` is the sample used, if any. UDC comes with the first pass's sample; the second pass, and a pass without a sample, use the last valid one (R120, R230). -/
def State.stage9 (s : State) (a pass : Nat) (t : F32) (d : AxisDyn) (smp : Option FbSample) (hz : Bool) (iIn uff injD injQ : F32) : CurOut :=
  let imax := s.par a 0x138
  let iref := fClamp iIn (fNeg imax) imax
  let sat := fClampSign iIn imax
  let we := fMul (s.par a 0x518) d.vFb
  let ph : F32 × F32 × F32 × F32 := match smp with
    | some x =>
      let ial := x.ia
      let ibe := fDiv (fMadd fTwo x.ib x.ia) fSqrt3
      let th := fMadd (fOfInt x.theta) (fMul fTwoPi 0x37800000) (s.par a 0x51C)
      let sn := Config.sinF32 th
      let cs := Config.cosF32 th
      (th, fMadd ibe sn (fMul ial cs), fMadd (fNeg ial) sn (fMul ibe cs), if pass = 0 then x.udc else d.udc)
    | none => (fMadd d.omega t d.theta, d.idLast, d.iqLast, d.udc)
  let th := ph.1
  let o := dqControl ⟨ph.2.1, ph.2.2.1, s.par a 0x520, iref, we, uff, injD, injQ, s.par a 0x500, s.par a 0x504, s.par a 0x508, s.par a 0x50C,
    s.par a 0x510, s.par a 0x514, s.par a 0x524, ph.2.2.2, t, d.xD, d.xQ, d.satD, d.satQ, smp.isNone || hz⟩
  let tho := fMadd (fMul we (s.par a 0x528)) t th
  let sn := Config.sinF32 tho
  let cs := Config.cosF32 tho
  ⟨fMadd (fNeg o.uq) sn (fMul o.ud cs), fMadd o.uq cs (fMul o.ud sn), iref, ph.2.1, ph.2.2.1,
    { d with
      theta := th, omega := we, udc := ph.2.2.2, idLast := s.par a 0x520, iqLast := iref
      xD := o.xD, xQ := o.xQ, satD := o.satD, satQ := o.satQ },
    sat, o.clip⟩

/-! ## Load test -/

/-- The order and the second tap of a PRBS register (R138). -/
def prbsOrder (k : Nat) : Nat × Nat := if k = 0 then (7, 6) else if k = 1 then (9, 5) else if k = 2 then (11, 9) else (15, 14)

/-- One shift of the register; stage i is bit i - 1 (R138). -/
def prbsShift (n tap r : Nat) : Nat := (2 * r + (if r.testBit (n - 1) != r.testBit (tap - 1) then 1 else 0)) % 2 ^ n

/-- Stage 12's load test: the injection for the next task (R136, R137). The Boolean is LT_DONE set by this task. A linear chirp's frequency is formed as LT_F1 + (LT_F2 − LT_F1)·(t / LT_DUR)
(log entry 30). -/
def State.loadTest (s : State) (a : Nat) (t : F32) (d : AxisDyn) (faulted : Bool) : AxisDyn × Bool :=
  let c := (s.resPar a 0x440).toNat
  let en := c.testBit 0
  let n := (prbsOrder (bitsOf c 8 2)).1
  let tap := (prbsOrder (bitsOf c 8 2)).2
  let begin_ (d : AxisDyn) : AxisDyn := { d with ltOn := true, ltT := 0, ltPhase := 0, ltPrbs := 2 ^ n - 1, ltStep := 0 }
  let d0 : AxisDyn := if en && !d.ltEn && !faulted then begin_ d else d
  let d0 : AxisDyn := { d0 with ltEn := en }
  if !en || faulted || !d0.ltOn then ({ d0 with ltOn := false, ltW := 0 }, false)
  else
    let dur := s.parN a 0x450
    let over_ := dur ≠ 0 ∧ dur ≤ d0.ltT
    if over_ ∧ c.testBit 24 = false then ({ d0 with ltOn := false, ltW := 0 }, true)
    else
      let d1 := if over_ then begin_ d0 else d0
      let f1 := s.par a 0x448
      let f2 := s.par a 0x44C
      let frac := fDiv (fOfInt d1.ltT) (fOfInt dur)
      let sig := bitsOf c 1 3
      let f := if dur = 0 ∨ sig = 0 then f1
        else if sig = 1 then fMadd (fSub f2 f1) frac f1
        else if fIsZero f1 then 0
        else fMul f1 (Config.powF32 (fDiv f2 f1) frac)
      let amp := s.par a 0x444
      let bias := s.par a 0x454
      let w := if sig ≤ 2 then fMadd amp (Config.sinF32 d1.ltPhase) bias
        else if sig = 3 then (if d1.ltPrbs.testBit (n - 1) then fAdd bias amp else fSub bias amp)
        else 0
      let shift := decide (bitsOf c 16 8 < d1.ltStep + 1)
      ({ d1 with
          ltW := w
          ltT := satInc d1.ltT
          ltPhase := if sig ≤ 2 then fMadd (fMul fTwoPi f) t d1.ltPhase else d1.ltPhase
          ltStep := if shift then 0 else d1.ltStep + 1
          ltPrbs := if shift then prbsShift n tap d1.ltPrbs else d1.ltPrbs }, false)

/-! ## Fault reactions -/

/-- Does a code's reaction follow FLT_REACT (R148)? -/
def reactRamp (code : Nat) : Bool := [0x12, 0x20, 0x21, 0x22, 4].contains code

/-- The reaction to faults found in a task (R149, R150): 0 none, 1 ramp, 2 off. -/
def State.reactTo (s : State) (a : Nat) (react : Nat) (codes : List Nat) : Nat :=
  let ramp := bitsOf (s.resPar a 0x100).toNat 4 2 == 1 && !fIsZero (s.par a 0x144)
  codes.foldl (fun r c =>
    let off := !(reactRamp c && ramp)
    if off then 2 else if r = 0 then 1 else r) react

/-! ## The law -/

/-- A value as stage 10 passes it: 0 for infinity or NaN (R88). -/
def fNum (x : F32) : F32 := if fFinite x then x else 0

/-- Stage 11 (R134, R135): the counter, PL_RES, and the faults in order. -/
def State.stage11 (s : State) (a cls : Nat) (d : AxisDyn) (smp : Option FbSample) (r id iq : F32) : Nat × Bool × List Nat :=
  match smp with
  | none => (d.plRun, false, [])
  | some x =>
    let cfg := (s.resPar a 0x400).toNat
    let en := cfg.testBit 0
    let big := en && fGt (fAbs r) (s.par a 0x408)
    let run := if en then (if big then satInc d.plRun else 0) else d.plRun
    let f11 : List Nat := if big && decide (max 1 (bitsOf cfg 8 8) ≤ run) then [0x11] else []
    let vt := s.par a 0x140
    let f13 : List Nat := if !fIsZero vt && fGt (fAbs d.vFb) vt then [0x13] else []
    let it := s.par a 0x13C
    let cur := if cls = 1 then fSqrt (fMadd iq iq (fMul id id)) else fAbs d.iMeas
    let f14 : List Nat := if cls ≠ 3 ∧ fIsZero it = false ∧ fGt cur it then [0x14] else []
    (run, big, f11 ++ f13 ++ f14 ++ (if x.flags.testBit 1 then [0x15] else []))

/-- The task period T in s of a class at a rate (R113). -/
def taskT (cls rate : Nat) : F32 := fOfRat (bcNs rate) (if cls = 1 then 2000000000 else 1000000000)

/-- The reaction in force after faults of a stage. -/
def State.lawFaults (s : State) (w : LawWork) (fs : List Nat) : LawWork := { w with react := s.reactTo w.a w.react fs, faults := w.faults ++ fs }

/-- The load-test injection at a point (R137, R139): what the task before computed, added while the test runs, the task has found no fault, and `POINT` names the point. -/
def State.lawInj (s : State) (w : LawWork) (k : Nat) : F32 :=
  let c := (s.resPar w.a 0x440).toNat
  if w.e2.d.ltOn && c.testBit 0 && w.faults.isEmpty && w.state != 3 && bitsOf c 4 3 == k && w.cls != 3 then w.e2.d.ltW else 0

/-- A value with an injection. -/
def fInj (x w : F32) : F32 := if fIsZero w then x else fAdd x w

/-- Stage 1 (R104, R116): the feedback slot, the period, and the dynamic part as it stands. -/
def State.law1 (s : State) (w : LawWork) : LawWork :=
  let h := s.passOf w.a
  let d := s.resDyn w.a
  { w with
    pass := h, rate := s.cyc.rate, bc := s.cyc.bcIdx, t := taskT w.cls s.cyc.rate, fresh := d.fresh, state := s.axisState w.a, d0 := d
    smp := s.sampleOf w.a h, e2 := Decoded.none_ d }

/-- Stage 2 (R116 to R121), and how far a running ramp has come (R149). -/
def State.law2 (s : State) (w : LawWork) : LawWork :=
  let a := w.a
  let e := s.stage2 a w.cls w.t w.d0 w.smp
  let d := e.d
  let was := w.state == 3
  let fltT := if was then satInc d.fltT else 0
  let still := if fLe (fAbs d.vFb) (s.par a 0x148) then d.still + 1 else 0
  let react := if was && d.react == 1 && (decide (8 ≤ still) || decide (s.parN a 0x14C ≤ fltT)) then 2 else if was then d.react else 0
  s.lawFaults { w with smp := if e.good then w.smp else none, e2 := e, fltT := fltT, still := still, react := react } e.faults

/-- Stage 3 (R152 to R177), with the digital inputs of the sample that is used. -/
def State.law3 (s : State) (w : LawWork) : LawWork :=
  let m := s.masterOf w.a w.cls (w.pass == 1)
  let d := w.e2.d
  let x0 : Motion := if w.state = 3 then { d.motion with mode := .hold, wait := none, plan := [] } else d.motion
  let o := s.stage3
    { ax := w.a, perNs := if w.cls = 1 then bcNs w.rate else 2 * bcNs w.rate, t := w.t, pFb := d.pFb, pFbPrev := w.e2.pPrev, vFb := d.vFb
      din := w.smp.map (fun x => (x.din, x.lpos, x.pos)), lposOk := w.cls != 1 || w.pass == 1, m := m.1, mVel := m.2.1, mUnit := m.2.2
      bcIdx := w.bc, firstOfBc := w.pass == 0, state := w.state, fresh := w.fresh } x0
  s.lawFaults { w with s3 := o } o.faults

/-- Stage 4 (R122), or the ramp of R149. -/
def State.law4 (s : State) (w : LawWork) : LawWork :=
  let a := w.a
  let d := w.e2.d
  let dec := s.par a 0x144
  let vOld := if d.fltT = 0 then d.vFb else d.vLim
  let vRamp := if d.fltT = 0 then d.vFb
    else if fLe (fAbs d.vLim) (fMul dec w.t) then 0
    else if fLt d.vLim 0 then fMadd dec w.t d.vLim else fMadd (fNeg dec) w.t d.vLim
  let aRamp := if fIsZero vOld then 0 else if fLt vOld 0 then dec else fNeg dec
  { w with sl := if w.state = 3 ∧ d.react = 1 then ⟨d.pFb, vRamp, aRamp, vRamp, false⟩
    else s.stage4 a w.t (if w.fresh then d.pFb else d.pLim) (if w.fresh then d.vFb else d.vLim) w.s3.p w.s3.v w.s3.a }

/-- Stage 5 (R123). -/
def State.law5 (s : State) (w : LawWork) : LawWork :=
  if w.cls = 3 then { w with vref := w.sl.v }
  else
    let a := w.a
    let w0 := s.lawInj w 0
    let w1 := s.lawInj w 1
    let ep := fOfPos (w.sl.p + BitVec.ofInt 64 (posOfF w0) - w.e2.d.pFb).toInt
    let vref := fInj (fMadd (s.par a 0x11C) w.sl.v (fMul (s.par a 0x118) ep)) w1
    let f5 : List Nat := if (s.resPar a 0x100).toNat.testBit 2 && fGt (fAbs ep) (s.par a 0x120) then [0x12] else []
    s.lawFaults { w with ep := ep, vref := vref, w := if fIsZero w0 then w1 else w0 } f5

/-- Stage 6 (R124). -/
def State.law6 (s : State) (w : LawWork) : LawWork :=
  let d := w.e2.d
  if w.cls = 3 then { w with xi := d.xI }
  else
    let a := w.a
    let ev := fSub w.vref d.vFb
    let kv := s.par a 0x124
    let xim := s.par a 0x12C
    let hold := !w.e2.good || w.e2.hz || antiWind d.satPrev ev
    let xi := if hold then d.xI else fClamp (fMadd (fMul (fMul kv (s.par a 0x128)) w.t) ev d.xI) (fNeg xim) xim
    { w with xi := xi, iv := fMadd kv ev xi }

/-- Stage 7 (R125). -/
def State.law7 (s : State) (w : LawWork) : LawWork :=
  if w.cls = 3 then w
  else { w with iset := fMadd (s.par w.a 0x130) w.sl.a w.iv, uff := fMul (s.par w.a 0x134) w.sl.v }

/-- Stage 8 (R126, R127), with the injections before and after the filters. -/
def State.law8 (s : State) (w : LawWork) : LawWork :=
  if w.cls = 3 then { w with notch := w.e2.d.notch }
  else
    let w2 := s.lawInj w 2
    let w3 := s.lawInj w 3
    let iset := fInj w.iset w2
    let nf := s.stage8 w.a w.e2.d.notch iset
    { w with iset := iset, notch := nf.1, inotch := fInj nf.2 w3, w := if !fIsZero w2 then w2 else if !fIsZero w3 then w3 else w.w }

/-- Stage 9 (R129 to R132), class X only. -/
def State.law9 (s : State) (w : LawWork) : LawWork :=
  if w.cls = 1 then
    let w4 := s.lawInj w 4
    let w5 := s.lawInj w 5
    { w with
      cur := s.stage9 w.a w.pass w.t w.e2.d w.smp w.e2.hz w.inotch w.uff w4 w5
      w := if !fIsZero w4 then w4 else if !fIsZero w5 then w5 else w.w }
  else { w with cur := ⟨0, 0, 0, 0, 0, w.e2.d, 0, false⟩ }

/-- Stage 10 (R88, R133). -/
def State.law10 (s : State) (w : LawWork) : LawWork :=
  let x := w.cls == 1
  let p := w.cls == 3
  let imax := s.par w.a 0x138
  let sat : Int := if x then w.cur.satQ else if p then 0 else fClampSign w.inotch imax
  let iout := if x then w.cur.iRef else if p then 0 else fClamp (fNum w.inotch) (fNeg imax) imax
  let bad := if x then !fFinite w.cur.ua || !fFinite w.cur.ub else if p then !fFinite w.sl.v || !fFinite w.sl.a else !fFinite w.inotch
  s.lawFaults { w with sat := sat, iout := iout } (if bad then [3] else [])

/-- Stage 11 (R134, R135). -/
def State.law11 (s : State) (w : LawWork) : LawWork :=
  let o := s.stage11 w.a w.cls w.e2.d w.smp w.e2.r w.cur.id w.cur.iq
  s.lawFaults { w with plRun := o.1, plBig := o.2.1 } o.2.2

/-- The motion a task leaves (R149, R150): a fault ends it and whatever waits, which is reported as aborted. -/
def LawWork.motion (w : LawWork) : Motion × List MotionReport :=
  let m := w.s3.m
  let mo : Motion := if w.faults.isEmpty then m else { m with mode := .hold, wait := none, plan := [] }
  let aborted : Option MotionCmd := (if w.faults.isEmpty then none else m.wait).or (if w.state = 3 then w.e2.d.motion.wait else none)
  (mo, match aborted with | some c => [⟨.aborted, c.seq, 0, 0⟩] | none => [])

/-- `STATUS` of a task (R141). -/
def State.lawStatus (s : State) (w : LawWork) (lt : AxisDyn × Bool) : Nat :=
  let bit (b : Bool) (k : Nat) : Nat := if b then 2 ^ k else 0
  let fcode := s.f (R.AXT_W2_FCODE w.a)
  let code := if w.state = 3 then fcode else w.faults.headD fcode
  let doneWas := w.e2.d.status.toNat.testBit 7 && !(lt.1.ltOn && lt.1.ltT == 1)
  w.e2.status + bit w.sl.acted 1 + bit (w.sat != 0) 2 + bit w.cur.clip 3 + bit w.plBig 4 + bit lt.1.ltOn 6 + bit (lt.2 || doneWas) 7 +
    bit w.clip 9 + bit (w.react != 0) 10 + bit (w.react == 2) 11 + code % 256 * 2 ^ 24

/-- Stage 12 (R136 to R141): the load test, and with it what stages 13 and 14 write. i_app is the current reference of stage 10 also while the reaction sends 0 (log entry 91).
Class X sends the zero vector while KREF is lost or Keystone is in FAULT (R32). -/
def State.law12 (s : State) (w : LawWork) : LawWork :=
  let d := w.e2.d
  let x := w.cls == 1
  let lt := s.loadTest w.a w.t w.cur.d (!w.faults.isEmpty || w.state == 3)
  let off := w.react == 2
  let status := wordOf (s.lawStatus w lt)
  let mo := w.motion
  let feRun := if fGe (fAbs w.ep) (s.par w.a 0x4C) then mo.1.feRun + 1 else 0
  let dn : AxisDyn := { lt.1 with
    status := status, fresh := false, plRun := w.plRun, fltT := w.fltT, still := if w.state = 3 then w.still else 0
    react := w.react, pLim := w.sl.p, vLim := w.sl.vLim, xI := w.xi, satPrev := w.sat, notch := w.notch
    iApp := if x then w.cur.iq else w.iout
    hlatch := w.s3.hlatch.getD d.hlatch, motion := { mo.1 with feRun := feRun } }
  let zx := s.krefLost || s.f R.KST_STAT_STATE == 5
  let lreq := if mo.1.mode = .home then mo.1.lreq else 0
  let cmd : AxisCmd :=
    if off then ⟨true, lreq, 0, 0, 0, 0, d.pFb, 0, 0⟩
    else ⟨false, lreq, w.iout, w.uff, if zx then 0 else fNum w.cur.ua, if zx then 0 else fNum w.cur.ub, w.sl.p, fNum w.sl.v, fNum w.sl.a⟩
  let w12 : F32 := if x then w.cur.iq else if w.cls = 3 then 0 else d.iMeas
  let ex : List Word := words64 w.sl.p.toNat ++ words64 d.pFb.toNat ++ [w.sl.v, d.vFb, w.vref, w.ep, w.iset, w.iout, w.uff, w.w, w12, w.cur.id, w.e2.r, status]
  { w with out := some ⟨dn, cmd, ex, w.s3.reports ++ mo.2, if w.s3.done && w.faults.isEmpty then some w.s3.m.cmd.seq else none⟩ }

/-- Carry out stage `k` of a task, 1 to 12, with the parameters as they stand now in the resident copy (R98, R104). -/
def State.lawStage (s : State) (w : LawWork) (k : Nat) : LawWork :=
  let w : LawWork := { w with done := k, clip := w.clip || s.parClipped w.a w.cls k }
  match k with
  | 1 => s.law1 w
  | 2 => s.law2 w
  | 3 => s.law3 w
  | 4 => s.law4 w
  | 5 => s.law5 w
  | 6 => s.law6 w
  | 7 => s.law7 w
  | 8 => s.law8 w
  | 9 => s.law9 w
  | 10 => s.law10 w
  | 11 => s.law11 w
  | _ => s.law12 w

/-- What an accepted fault clear leaves of a dynamic part (R151). -/
def clearedDyn (d : AxisDyn) : AxisDyn :=
  { d with
    xI := 0, xD := 0, xQ := 0, notch := d.notch.map (fun n => { n with s1 := 0, s2 := 0 }), pLim := 0, vLim := 0
    missRun := 0, cmdRun := 0, plRun := 0, fltT := 0, react := 0, still := 0 }

/-- What a quiesce leaves of a dynamic part: the load test ends (R136). -/
def quiescedDyn (d : AxisDyn) : AxisDyn := { d with ltOn := false, ltW := 0 }

/-- What a quiesce or a fault clear that came while the task ran does to the dynamic part that the task writes back (R136, R151). -/
def LawWork.settle (w : LawWork) (d : AxisDyn) : AxisDyn :=
  let d := if w.quiesced then quiescedDyn d else d
  if w.cleared then clearedDyn d else d

/-- Note something in the work of the task of an axis that runs now. -/
def State.markWork (s : State) (a : Nat) (g : LawWork → LawWork) : State :=
  match s.runningOn a with
  | none => s
  | some p => s.putPier p { s.pier p with run := (s.pier p).run.map (fun r => { r with work := r.work.map g }) }

/-! ## Stage 13 -/

/-- The command record of an axis (R231): 40 bytes, for class X 24. -/
def cmdRecord (cls : Nat) (c : AxisCmd) : List Byte :=
  let ctl : Nat := 1 + (if c.off then 2 else 0) + c.lreq % 8 * 4
  let body : List Word :=
    if cls = 0 then [c.i, c.uff, 0, 0] else if cls = 3 then words64 c.p.toNat ++ [c.v, c.a] else [c.ua, c.ub, 0, 0]
  bytesOfWords (wordOf ctl :: body) ++ List.replicate (if cls = 1 then 4 else 20) 0

/-- Write the command slot of a task, header last (R101, R144). -/
def State.cmdWrite (s : State) (w : LawWork) (c : AxisCmd) : State :=
  let slot := s.f (R.AXT_W1_CMD_SLOT w.a) + w.pass
  let bs := cmdRecord w.cls c
  (s.deckPutAll (cmdAddr slot + 4) (wordsOfBytes bs)).deckPut (cmdAddr slot) (slotHeader false (2 * (w.bc.toNat % 64) + w.pass) bs.length)

end Sys2Proof.Machine
end

