-- ==== Sys2Proof/Machine/PairTx.lean ====
section
/-! DEFINITION. Frames this pylon sends on the PAIR link (R355, R358): their form, and the stream of dynamic parts to a joining pylon. -/

namespace Sys2Proof.Machine

/-- A PAIR frame with its CRC-32 over the earlier bytes (R358). -/
def pairFrame (bs : List Byte) : List Byte := bs ++ bytesOf 4 (crc32 bs)

/-- Has a received PAIR frame a correct CRC (R358)? -/
def pairCrcOk (bs : List Byte) : Bool :=
  decide (4 < bs.length) && natOfBytes (bs.drop (bs.length - 4)) == crc32 (bs.take (bs.length - 4))

/-- A field of a PAIR frame, little-endian (R358). -/
def pairField (bs : List Byte) (off n : Nat) : Nat := natOfBytes ((bs.drop off).take n)

/-- Send a frame on the PAIR link, if it is up. -/
def State.pairSend (s : State) (fr : List Byte) : State :=
  if s.twn.linkUp then { s with twn := { s.twn with pairTx := s.twn.pairTx ++ [fr] } } else s

/-- The 512 bytes of a dynamic part: the published words, then bytes without a published layout (R141; log entry 67). -/
def dynBytes (d : AxisDyn) : List Byte :=
  bytesOfWords ((List.range 10).map (fun k => dynWord d (0x600 + 4 * k))) ++ (List.range 472).map (fun k => Config.dynByte d (0x628 + k))

/-- The dynamic part that 512 streamed bytes hold: the published words as sent, the rest as the free function of the bytes (R141; log entry 67). -/
def dynFromBytes (bs : List Byte) : AxisDyn :=
  let w (k : Nat) : Nat := pairField bs (4 * k) 4
  { Config.dynOfBytes bs with
    status := wordOf (w 0), missRun := w 1, missTot := w 2, cmdRun := w 3, cmdTot := w 4, plRun := w 5, ltT := w 6, fltT := w 7
    hlatch := BitVec.ofNat 64 (w 8 + 2 ^ 32 * w 9), fresh := false }

/-- A State frame (R358). -/
def stateFrame (a : Nat) (m : Word) (d : AxisDyn) : List Byte :=
  pairFrame (bytesOf 1 4 ++ bytesOf 1 a ++ bytesOf 2 0 ++ bytesOf 4 m.toNat ++ dynBytes d ++ bytesOf 4 0)

/-- The holder streams one axis per bc to a joining pylon: the first axis still to be sent, once its dynamic part of this bc stands (R355). -/
def State.streamAxis (s : State) (a : Nat) : State :=
  if s.twn.streaming ∧ s.twn.stream.head? = some a ∧ s.twn.streamBc ≠ s.cyc.bcIdx then
    let s := s.pairSend (stateFrame a s.cyc.bcIdx (s.homeDyn a))
    { s with twn := { s.twn with stream := s.twn.stream.drop 1, streamBc := s.cyc.bcIdx } }
  else s

end Sys2Proof.Machine
end

