-- ==== Sys2Proof/Machine/Pir.lean ====
section
/-! DEFINITION. Piers and their tasks (R73, R90 to R108): axis tasks from start to end, re-homing, Pier states, health supervision and the Deck scrubber. -/

namespace Sys2Proof.Machine

/-! ## Axis tasks -/

/-- Does the home copy's dynamic part hold a bad word (R108)? -/
def State.homeDynBad (s : State) (a : Nat) : Bool :=
  s.deck.bad.any (fun b => decide (a * 0x800 + 0x600 ≤ b) && decide (b < a * 0x800 + 0x800))

/-- Write back the dynamic part to both copies (R97); a bad word of it is rewritten (R108). -/
def State.writeBack (s : State) (a : Nat) (d : AxisDyn) : State :=
  let s := s.putDyn a d
  { s with deck := { s.deck with bad := s.deck.bad.filter (fun b => !(decide (a * 0x800 + 0x600 ≤ b) && decide (b < a * 0x800 + 0x800))) } }

/-- Stage 13 (R101, R104, R140, R144): the command slot with its header last, or the lane; the export block; both copies of the dynamic part. -/
def State.law13 (s : State) (w : LawWork) : State :=
  match w.out with
  | none => s
  | some o =>
    let s := if w.cls = 2 then s.laneWrite (s.f (R.AXT_W0_LANE w.a)) (if o.cmd.off then 0 else o.cmd.i) (if o.cmd.off then 0 else o.cmd.uff) o.cmd.off o.cmd.lreq
      else s.cmdWrite w o.cmd
    (s.deckPutAll (0x60000 + 64 * w.a) o.export_).writeBack w.a (w.settle o.d)

/-- The work of the axis task that runs on a Pier, if its next stage, of 1 to 13, is due (R104). -/
def State.lawNext (s : State) (p : Nat) : Option (Running × LawWork) :=
  match (s.pier p).run with
  | none => none
  | some r => match r.work with
    | none => none
    | some w => if w.done < 13 ∧ w.start + stageClk w.cls (w.done + 1) ≤ s.clk then some (r, w) else none

/-- Carry out the stages 1 to 13 that are due on a Pier, at most `n` (R104). -/
def State.lawDue (s : State) (p : Nat) : Nat → State
  | 0 => s
  | n + 1 =>
    match s.lawNext p with
    | none => s
    | some (r, w) =>
      let w' : LawWork := if w.done = 12 then { w with done := 13 } else s.lawStage w (w.done + 1)
      let t := if w.done = 12 then s.law13 w else s
      (t.putPier p { t.pier p with run := some { r with work := some w' } }).lawDue p n

/-- Stage 14 (R104, R149, R157): STATE, FCODE, the events, and the reports to Tollgate. An entry disabled while its task ran stays disabled. -/
def State.law14 (s : State) (w : LawWork) : State :=
  let s := if w.state = 3 then s else match w.faults with
    | [] => s
    | c :: _ => if s.axisOn w.a then s.axisFault w.a c else s.axisFaultMark w.a c
  match w.out with
  | none => s
  | some o =>
    let s : State := { s with dsp := { s.dsp with reports := s.dsp.reports ++ o.reports.map (fun r => (s.clk + 16, w.a, s.nt.ns, r)) } }
    match o.done with
    | some q => s.raise 0x31 w.a q
    | none => s

/-- A Pier runs an ordered flow in this bc (R85). -/
def State.flowSeen (s : State) (p a : Nat) : State :=
  match s.flowOf a with
  | some n => s.when (s.flag (R.DSP_FLOW_ORD n) && !s.dsp.flowRan.contains (n, p)) (fun s => { s with dsp := { s.dsp with flowRan := s.dsp.flowRan ++ [(n, p)] } })
  | none => s

/-- Start an axis task on a Pier: the move it needs, then the law's first stage. A restore that reads a bad dynamic part leaves the axis disabled with code 1 (R108). -/
def State.startAxis (s : State) (p : Nat) (g : Assigned) : State :=
  let a := g.task.id
  if g.move = .restore ∧ s.homeDynBad a then
    let s := s.putPier p { s.pier p with asg := none }
    (s.axisDisable a).axisFaultMark a 1
  else
    let s := (s.takeUp p g).flowSeen p a
    let s := s.putPier p { s.pier p with useNow := (s.pier p).useNow + g.cost }
    let s := s.putAxis a { s.axis a with done := true }
    let s := (s.migCount g.move).startMove a p g.move
    let w := LawWork.begin a (s.axisClass a) (g.start + g.cost - s.axisCost a) (s.resDyn a)
    let s := s.putPier p { s.pier p with run := (s.pier p).run.map (fun r => { r with work := some w }) }
    s.lawDue p 13

/-- AXIS_TASK_START: the axis task given to Pier `p` starts on its start clk (R73, R104). -/
def execAxisTaskStart (p : Fin 16) (s : State) : Host.Outcome State Fault Refusal :=
  match s.startable p.val with
  | some g => if g.task.kind = .axis ∧ (s.pier p.val).run.isNone then .next (s.startAxis p.val g) else .next s
  | none => .next s

/-! ## Re-homing -/

/-- An axis loses its home (R106, R107). -/
def State.loseHome (s : State) (a : Nat) : State :=
  let s := s.dropSlot (s.axisHome a) a
  let s := s.each (match (s.axis a).moving with | some (src, _, _) => [src] | none => []) (fun s q => s.dropSlot q a)
  (s.clr (R.AXT_W2_RES a)).putAxis a { s.axis a with lostHome := true, moving := none, loadEnd := none }

/-- A class-X axis of a lost Pier is pinned again, or left disabled with code 2 (R76, R107). -/
def State.repin (s : State) (a : Nat) : State :=
  let t := (s.dropPending a).unplace a
  match t.chooseHome a 1 with
  | some q =>
    let t := t.startLoad a q
    t.putAxis a { t.axis a with runFrom := t.clk + 80 }
  | none => ((t.axisDisable a).set1 R.AXT_STAT_PIN_FAIL).axisFaultMark a 2

/-- Re-home the axes of a Pier that has left SERVICE, in ascending order (R93, R107). -/
def State.rehome (s : State) (p : Nat) : State :=
  let touches (s : State) (a : Nat) : Bool :=
    s.axisOn a && (s.axisHome a == p && !(s.axis a).lostHome || (match (s.axis a).moving with | some (src, _, _) => src == p | none => false))
  s.each axisList (fun s a => if !touches s a then s else if s.axisClass a = 1 then s.repin a else s.loseHome a)

/-- A Pier enters OFFLINE (R93). -/
def State.pierOffline (s : State) (p : Nat) : State :=
  let s := s.unassign p
  let s := (s.setF (R.PIR_STAT_STATE p) 4).putPier p { s.pier p with flow := [], passOk := false, scrub := 0, scrubAt := s.clk }
  (s.rehome p).clr (R.PIR_CTL_OFFLINE p)

/-- After the end of a task: a draining Pier enters OFFLINE, another goes on with its flow (R79, R93). -/
def State.afterTask (s : State) (p : Nat) : State :=
  if s.f (R.PIR_STAT_STATE p) = 3 then s.pierOffline p else s.flowNext p

/-- AXIS_TASK_END (R93, R97, R99). -/
def execAxisTaskEnd (p : Fin 16) (s : State) : Host.Outcome State Fault Refusal :=
  match (s.pier p.val).run with
  | none => .next s
  | some r =>
    if r.task.kind = .axis ∧ r.finish ≤ s.clk then
      let a := r.task.id
      let s := s.lawDue p.val 13
      let s := match (s.pier p.val).run.bind (fun r => r.work) with | some w => s.law14 w | none => s
      let s := (s.taskDone p.val).incWrap (R.AXT_W2_TASKS a) 1
      let s := s.streamAxis a
      let s := if (s.axis a).leaving then (s.unplace a).putAxis a AxisCtl.idle else s
      .next (s.afterTask p.val)
    else .next s

/-- A background slice ends: its PEND bit clears, unless the job has been posted again meanwhile (R26, R85). -/
def State.jobOff (s : State) (j : Nat) : State :=
  if s.isPending .background j then s else s.putReg R.DSP_BG_PEND (s.reg R.DSP_BG_PEND &&& ~~~(wordOf (2 ^ j)))

/-- EVENT_OR_BACKGROUND_TASK_END (R72, R85, R93). -/
def execEventOrBackgroundTaskEnd (p : Fin 16) (s : State) : Host.Outcome State Fault Refusal :=
  match (s.pier p.val).run with
  | none => .next s
  | some r =>
    if r.task.kind ≠ .axis ∧ r.finish ≤ s.clk then
      let s := s.taskDone p.val
      let s := if r.task.kind = .background then s.jobOff r.task.id else s
      .next (s.afterTask p.val)
    else .next s

/-! ## Pier faults -/

/-- Abandon the task that runs on a Pier (R106, R107): the stages to come do nothing, so its command slot, lane, export, status and events are left as they are. The home copy holds the
state after the last completed task also where the write-back had come (R107). -/
def State.abandon (s : State) (p : Nat) : State :=
  let x := s.pier p
  match x.run with
  | none => s
  | some r =>
    let s := s.putPier p { x with run := none, scrubAt := s.clk }
    let s := match r.work with | some w => if w.done = 13 then s.putDyn r.task.id w.d0 else s | none => s
    if r.task.kind = .background then s.jobOff r.task.id else s

/-- The first uncorrectable error of a Pier since its register was read (R109). -/
def State.pierUe (s : State) (p mem word : Nat) : State :=
  if s.flag (R.PIR_UE_INFO_VALID p) then s
  else ((s.setF (R.PIR_UE_INFO_MEM p) mem).setF (R.PIR_UE_INFO_WORD p) word).set1 (R.PIR_UE_INFO_VALID p)

/-- The cause bit of a Pier fault. -/
def pierCauseFld (p : Nat) : PierCause → Fld
  | .crc => R.PIR_STAT_CRC p
  | .iue => R.PIR_STAT_IUE p
  | .due => R.PIR_STAT_DUE p
  | .par => R.PIR_STAT_PAR p
  | .wdog => R.PIR_STAT_WDOG p

/-- A Pier fault (R107). -/
def State.pierFault (s : State) (p : Nat) (c : PierCause) : State :=
  let st := s.f (R.PIR_STAT_STATE p)
  if st = 0 ∨ 5 ≤ st then s
  else
    let s := (s.abandon p).unassign p
    let s := ((s.setF (R.PIR_STAT_STATE p) 5).set1 (pierCauseFld p c)).incSat (R.PIR_FAULT_CNT_COUNT p) 1
    let s := s.putPier p Pier.idle
    let s := (s.clr (R.PIR_CTL_RELOAD p)).clr (R.PIR_CTL_OFFLINE p)
    let s := s.raise (0x20 + p) (bitsOf (s.reg (R.PIR_STAT p)).toNat 8 5) 0
    (s.rehome p).each (List.range 32) (fun s i => s.putSlot p i 0xFF)

/-- PIER_FAULT: a fault of `cause`, found in memory `mem` at word `word` (R106, R107, R109). -/
def execPierFault (p : Fin 16) (cause : PierCause) (mem : Fin 8) (word : Nat) (s : State) : Host.Outcome State Fault Refusal :=
  let st := s.f (R.PIR_STAT_STATE p.val)
  if st = 0 ∨ 5 ≤ st then .next s
  else
    let s := match cause with
      | .iue | .due | .par => s.pierUe p.val mem.val word
      | _ => s
    .next (s.pierFault p.val cause)

/-- TASK_WATCHDOG_EXPIRY: a task not ended at its cost + 8 clk (R106). -/
def execTaskWatchdogExpiry (p : Fin 16) (s : State) : Host.Outcome State Fault Refusal :=
  match (s.pier p.val).run with
  | some r => if r.finish + 8 ≤ s.clk then .next (s.pierFault p.val .wdog) else .next s
  | none => .next s

/-- The CRC-32 of a Pier's code and constants (R90). -/
def State.pierCrc (s : State) (p : Nat) : Word := wordOf (crc32 (tabRead (fun _ => 0) s.deck.uc (p * 0x18000) 0x18000))

/-- PIER_SCRUB_PASS: 12,288 idle clk after the pass began it ends, with the single-bit errors that have been corrected in
instruction and data SRAM since the last one (R90, R93, R106; log entry 92). -/
def execPierScrubPass (x : ScrubPass) (s : State) : Host.Outcome State Fault Refusal :=
  let st := s.f (R.PIR_STAT_STATE x.pier.val)
  if (st = 2 ∨ st = 3 ∨ st = 4) ∧ 12288 ≤ s.scrubbed x.pier.val then
    let c := s.pierCrc x.pier.val
    let over_ := s.scrubbed x.pier.val - 12288
    let s := ((s.putReg (R.PIR_UC_CALC x.pier.val) c).incWrap (R.PIR_SCRUB_PASS x.pier.val) 1).incSat (R.PIR_ICE_CNT_COUNT x.pier.val) x.ice |>.incSat (R.PIR_DCE_CNT_COUNT x.pier.val) x.dce
    let s := s.putPier x.pier.val { s.pier x.pier.val with scrub := over_, scrubAt := s.clk }
    if c = s.reg (R.PIR_UC_CRC x.pier.val) then
      .next (if st = 4 then s.putPier x.pier.val { s.pier x.pier.val with passOk := true } else s)
    else .next (s.pierFault x.pier.val .crc)
  else .next s

/-- STATE_SLOT_DISCARD: a double-bit error in the resident state of axis `a` on Pier `p`, word `w` of the slot (R106). -/
def execStateSlotDiscard (p : Fin 16) (a : Fin 160) (w : Fin 256) (s : State) : Host.Outcome State Fault Refusal :=
  match (List.range 32).find? (fun i => s.slotAxis p.val i == a.val) with
  | none => .next s
  | some i =>
    let s := (s.pierUe p.val 1 (i * 256 + w.val)).incSat (R.PIR_REST_CNT_COUNT p.val) 1
    if s.runningOn a.val == some p.val then .next (((s.abandon p.val).loseHome a.val).afterTask p.val)
    else .next (s.loseHome a.val)

/-! ## Pier states -/

/-- A Pier enters SERVICE with no resident state; its scrubber goes on (R93). -/
def State.pierService (s : State) (p : Nat) : State :=
  let s := s.putPier p { s.pier p with scrub := s.scrubbed p, scrubAt := s.clk }
  (s.each (List.range 32) (fun s i => s.putSlot p i 0xFF)).setF (R.PIR_STAT_STATE p) 2

/-- A write of OFFLINE (R93). -/
def State.pirOffline (s : State) (p : Nat) : State :=
  if s.inService p then
    let s := s.unassign p
    if (s.pier p).run.isSome then (s.setF (R.PIR_STAT_STATE p) 3).set1 (R.PIR_CTL_OFFLINE p) else s.pierOffline p
  else s

/-- A write of ONLINE (R93). -/
def State.pirOnline (s : State) (p : Nat) : State :=
  if s.f (R.PIR_STAT_STATE p) = 4 ∧ (s.pier p).passOk then s.pierService p else s

/-- PIR_OFFLINE (R93). -/
def execPirOffline (p : Fin 16) (s : State) : Host.Outcome State Fault Refusal :=
  .next (s.bar0Write (R.PIR_CTL p.val) (fun s => s.pirOffline p.val))

/-- PIR_ONLINE (R93). -/
def execPirOnline (p : Fin 16) (s : State) : Host.Outcome State Fault Refusal :=
  .next (s.bar0Write (R.PIR_CTL p.val) (fun s => s.pirOnline p.val))

/-- PIR registers whose value follows from the Pier's state (R109): RESN, and the scrubber's next word. -/
def pirRead (s : State) (a : Nat) : Option Word :=
  match pierList.find? (fun p => a == R.PIR_STAT p) with
  | some p => some (setBits (s.reg a) 16 6 (s.residentCount p))
  | none => match pierList.find? (fun p => a == R.PIR_SCRUB p) with
    | some p => some (setBits (s.reg a) 0 14 (s.scrubbed p % 12288))
    | none => none

/-! ## The Deck scrubber -/

/-- A double-bit error in a Deck word, by region (R106, R108). -/
def State.deckDouble (s : State) (a : Nat) : State :=
  let w := a / 8 * 8
  let s := (s.incSat R.DCK_UE_CNT_COUNT 1).set1 R.DCK_STAT_UE
  let s := if s.flag R.DCK_UE_ADDR_VALID then s else (s.setF R.DCK_UE_ADDR_ADDR w).set1 R.DCK_UE_ADDR_VALID
  let mark (s : State) : State := { s with deck := { s.deck with bad := if s.deck.bad.contains w then s.deck.bad else s.deck.bad ++ [w] } }
  if w < 0x50000 then
    let x := w / 0x800
    let o := w % 0x800
    if 0x600 ≤ o then mark s
    else if s.isResident x then (s.deckPut w (s.resPar x o)).deckPut (w + 4) (s.resPar x (o + 4))
    else ((mark s).axisDisable x).axisFaultMark x 1
  else if w < 0x62800 then mark s
  else if w < 0x70000 then s
  else if w < 0x100000 then mark s
  else
    let s := (mark s).set1 R.DCK_STAT_CAM_UE
    if s.flag R.DCK_CAM_BAD_VALID then s else (s.setF R.DCK_CAM_BAD_IDX ((w - 0x100000) / 8)).set1 R.DCK_CAM_BAD_VALID

/-- DECK_SCRUB: the scrubber, or with the scrubber off any read, reads the word at a Deck address and finds no error, a single-bit or a double-bit error (R106, R112; log entry 92). -/
def execDeckScrub (addr : Nat) (err : EccError) (s : State) : Host.Outcome State Fault Refusal :=
  if addr < 0x200000 then
    let s := match err with
      | .none => s
      | .single => (s.incSat R.DCK_CE_CNT_COUNT 1).set1 R.DCK_STAT_CE
      | .double => s.deckDouble addr
    .next (if s.flag R.DCK_CFG_SCRUB_EN ∧ addr / 8 = 0x3FFFF then s.incWrap R.DCK_SCRUB_PASS 1 else s)
  else .next s

end Sys2Proof.Machine
end

