-- ==== Sys2Proof/Machine/Nvs.lean ====
section
/-! DEFINITION. The non-volatile store and the black-box record (R408 to R428): the black-box ring, hold-up energy, the flash operation queue, parameter banks, the commit of the
ring, Pier reloads (R92), and the event writer, which feeds both the event queue and the ring (R403, R420). -/

namespace Sys2Proof.Machine

/-- Change the store. -/
def State.putNvs (s : State) (n : Nvs) : State := { s with nvs := n }

/-! ## The black-box ring -/

/-- The black box's STATE: 0 RECORDING, 1 FROZEN, 2 COMMITTING, 3 COMMITTED, 4 LOADED. -/
def State.boxState (s : State) : Nat := s.f R.BBX_STAT_STATE

/-- Does the ring record (R420)? -/
def State.boxRecords (s : State) : Bool := s.boxState == 0 && !s.nvs.loading

/-- The eight words of an entry (R421). -/
def State.boxEntry (s : State) (kind src : Nat) (t : NetTime) (detail : Nat) (bc data chn : Word) : List Word :=
  let ws : List Word := [t.ns, wordOf t.sec.toNat, wordOf (t.sec.toNat / 2 ^ 32 % 2 ^ 16 + src % 256 * 2 ^ 16 + kind * 2 ^ 24), s.nvs.boxSeq,
    wordOf (detail % 2 ^ 16 + bc.toNat % 2 ^ 16 * 2 ^ 16), data, chn]
  let hid := s.f R.ZLP_CFG_HID
  ws ++ [wordOf (hid + crc16 (bytesOfWords ws ++ bytesOf 2 hid) * 2 ^ 16)]

/-- Put an entry at the head of the ring; the oldest of 16,384 is overwritten (R420). -/
def State.boxPut (s : State) (e : List Word) : State :=
  let box := (e :: s.nvs.box).take 16384
  let seq := s.nvs.boxSeq
  let s := s.putNvs { s.nvs with box := box, boxSeq := seq + 1 }
  (s.setF R.BBX_COUNT_N box.length).putReg R.BBX_SEQ seq

/-- The start marker, the first entry of a recording (R420). -/
def State.boxStart (s : State) : State := s.boxPut (s.boxEntry 4 0 s.nt 0 s.cyc.bcIdx 0 (chnFrac s.chnLive))

/-- Record an entry while the ring records, else count it as refused (R420, R422). -/
def State.boxAdd (s : State) (kind src : Nat) (t : NetTime) (detail : Nat) (bc data chn : Word) : State :=
  if !s.flag R.BBX_CFG_EN then s
  else if !s.boxRecords then s.incSat R.BBX_DISC_CNT_COUNT 1
  else
    let s := if s.nvs.box.isEmpty then s.boxStart else s
    s.boxPut (s.boxEntry kind src t detail bc data chn)

/-- Tiles that hold entries. -/
def State.tilesNeeded (s : State) : Nat := (s.nvs.box.length + 127) / 128

/-- Start a commit (R424): to area 0 if it is erased, else to area 1; with neither erased NOROOM. -/
def State.boxCommit (s : State) (pf : Bool) : State :=
  let er := s.f R.BBX_STAT_ER
  if er = 0 then s.set1 R.BBX_STAT_NOROOM
  else
    let area := if er.testBit 0 then 0 else 1
    let need := s.tilesNeeded
    let s := ((s.setF R.BBX_STAT_STATE 2).setF R.BBX_TILES_NEED need).setF R.BBX_TILES_DONE 0
    let s := s.setF R.BBX_STAT_ER (if area = 0 then er - 1 else er - 2)
    s.putNvs { s.nvs with commit := some ⟨area, pf, 0, need⟩ }

/-- Freeze the ring with a cause (R422): the freeze marker, the frozen event, and the commit where one starts. -/
def State.boxFreeze (s : State) (cause : Nat) : State :=
  if !s.boxRecords then s
  else
    let mark := s.nvs.boxSeq
    let s := s.boxPut (s.boxEntry 3 0 s.nt cause s.cyc.bcIdx 0 (chnFrac s.chnLive))
    let s := s.putNvs { s.nvs with boxTime := s.nt, boxMark := mark }
    let s := ((s.setF R.BBX_STAT_STATE 1).setF R.BBX_STAT_CAUSE cause).raise 0x82 cause mark
    if cause = 1 then s.boxCommit true else if s.flag R.BBX_CFG_AUTO then s.boxCommit false else s

/-- A bit of a black-box map over the sources: `BBX_MASKn` from 0x250040, `BBX_FRZn` from 0x250060 (R428). -/
def State.boxBit (s : State) (base src : Nat) : Bool := (s.reg (base + src / 32 * 4)).toNat.testBit (src % 32)

/-- The black box's part of a served latch (R420, R422). -/
def State.boxServe (s : State) (src : Nat) (l : EvtLatch) : State :=
  let s := s.when (s.boxBit (R.BBX_MASK 0) src) (fun s => s.boxAdd 1 src l.time l.detail.toNat l.bcIdx l.data l.chn)
  s.when (s.boxBit R.BBX_FRZ0 src) (fun s => s.boxFreeze 2)

/-- EVENT_WRITER_SERVE: a loss entry that is due, else the next occupied latch, one a clk; its queue entry is written 2 clk later, the black box's now (R403, R420). -/
def execEventWriterServe (s : State) : Host.Outcome State Fault Refusal :=
  if s.clk < s.evt.served then .next s
  else if s.evtLossDue then .next s.evtWriteLoss
  else match s.evtNextLatch with
    | none => .next s
    | some (src, l) =>
      let w := if l.queued then [(s.clk + 2, src, l)] else []
      let s : State := { s with evt := { s.evt with
        latch := tabSet (fun _ => none) s.evt.latch src none
        scan := (src + 1) % 256
        served := s.clk + 1
        writes := s.evt.writes ++ w } }
      .next (s.boxServe src l)

/-! ## Requests to the black box -/

/-- BBX_NOTE: a host note (R420). -/
def State.boxNote (s : State) (v : Word) : State := s.boxAdd 2 0 s.nt v.toNat s.cyc.bcIdx (s.reg R.BBX_NOTE_D) (chnFrac s.chnLive)

/-- Flash address of a black-box area, and of its sectors. -/
def areaAt (area : Nat) : Nat := 0x1200000 + area * 0x100000

/-- A request a state does not accept (R425). -/
def State.boxBad (s : State) : State := s.set1 R.BBX_STAT_CMD_BAD

/-- The requests in the queue. -/
def State.showQueue (s : State) : State := s.setF R.NVS_QFILL_FILL s.nvs.queue.length

/-- Enter a request in the flash operation queue. -/
def State.flashQueue (s : State) (q : FlashReq) : State := (s.putNvs { s.nvs with queue := s.nvs.queue ++ [q] }).showQueue

/-- May another request enter (R30)? -/
def State.queueRoom (s : State) : Bool := decide (s.nvs.queue.length < 16)

/-- FREEZE: cause 3, accepted while recording (R422, R425). -/
def State.boxFreezeReq (s : State) : State := if s.boxRecords then s.boxFreeze 3 else s.boxBad

/-- COMMIT: while the ring is frozen and uncommitted (R424). -/
def State.boxCommitReq (s : State) : State := if s.boxState = 1 then s.boxCommit false else s.boxBad

/-- RELEASE: the ring is emptied and records again (R425). -/
def State.boxRelease (s : State) : State :=
  let st := s.boxState
  if st = 1 ∨ st = 3 ∨ st = 4 then
    let s := ((s.setF R.BBX_STAT_STATE 0).setF R.BBX_STAT_CAUSE 0).putNvs { s.nvs with box := [] }
    (s.setF R.BBX_COUNT_N 0).boxStart
  else s.boxBad

/-- Does a commit, a load or a queued erase use an area? -/
def State.areaBusy (s : State) (area : Nat) : Bool :=
  (match s.nvs.commit with
    | some c => c.area == area
    | none => false) || s.nvs.queue.any (fun q => q.job == .load area)

/-- The reads of a load: the freeze record, then each tile with its marker (R425). -/
def loadSteps (area : Nat) : List FlashStep := [.read (areaAt area) 4096]

/-- LOAD: while recording, if the area holds a record (R425). -/
def State.boxLoad (s : State) (area : Nat) : State :=
  if s.boxRecords ∧ s.reg (R.BBX_ASEQ area) ≠ 0 ∧ s.queueRoom then
    (s.putNvs { s.nvs with loading := true }).flashQueue ⟨.load area, loadSteps area, none, areaAt area, false⟩
  else s.boxBad

/-- ERASE: the 129 sectors are erased as queued operations (R425). -/
def State.boxErase (s : State) (area : Nat) : State :=
  if s.areaBusy area ∨ !s.queueRoom then s.boxBad
  else s.flashQueue ⟨.erase area, (List.range 129).map (fun k => .erase (areaAt area + 4096 * k)), none, areaAt area, false⟩

/-- A write of `BBX_CTL` (R422, R424, R425): AREA, then the requests from bit 0 up. -/
def State.boxCtl (s : State) (v : Word) : State :=
  let b := v.toNat
  let area := bitsOf b 8 1
  let s := s.setF R.BBX_CTL_AREA area
  let s := s.when (b.testBit 0) (fun s => s.boxFreezeReq)
  let s := s.when (b.testBit 1) (fun s => s.boxCommitReq)
  let s := s.when (b.testBit 2) (fun s => s.boxRelease)
  let s := s.when (b.testBit 3) (fun s => s.boxLoad area)
  s.when (b.testBit 4) (fun s => s.boxErase area)

/-- BBX_NOTE (R420). -/
def execBbxNote (val : Word) (s : State) : Host.Outcome State Fault Refusal := .next (s.bar0Write R.BBX_NOTE (fun s => s.boxNote val))
/-- FREEZE (R422). -/
def execFreeze (val : Word) (s : State) : Host.Outcome State Fault Refusal := .next (s.bar0Write R.BBX_CTL (fun s => s.boxCtl val))
/-- COMMIT (R424). -/
def execCommit (val : Word) (s : State) : Host.Outcome State Fault Refusal := .next (s.bar0Write R.BBX_CTL (fun s => s.boxCtl val))
/-- RELEASE (R425). -/
def execRelease (val : Word) (s : State) : Host.Outcome State Fault Refusal := .next (s.bar0Write R.BBX_CTL (fun s => s.boxCtl val))
/-- LOAD (R425). -/
def execLoad (val : Word) (s : State) : Host.Outcome State Fault Refusal := .next (s.bar0Write R.BBX_CTL (fun s => s.boxCtl val))
/-- ERASE (R425). -/
def execErase (val : Word) (s : State) : Host.Outcome State Fault Refusal := .next (s.bar0Write R.BBX_CTL (fun s => s.boxCtl val))

/-! ## Flash contents -/

/-- An erased byte of NOR flash. -/
def flashErased : Nat → Byte := fun _ => 0xFF

/-- Read the flash. -/
def State.flashBytes (s : State) (a n : Nat) : List Byte := tabRead flashErased s.nvs.flash a n

/-- Write bytes into the flash as they are. -/
def State.flashSet (s : State) (a : Nat) (bs : List Byte) : State := s.putNvs { s.nvs with flash := tabWrite flashErased s.nvs.flash a bs }

/-- Program bytes: bits go from 1 to 0 only. -/
def State.flashProgram (s : State) (a : Nat) (bs : List Byte) : State := s.flashSet a (((s.flashBytes a bs.length).zip bs).map (fun x => x.1 &&& x.2))

/-- Erase a sector. -/
def State.flashErase (s : State) (a : Nat) : State := s.flashSet a (List.replicate 4096 0xFF)

/-- Bytes whose program or erase has failed hold free values. -/
def State.flashSpoil (s : State) (a n : Nat) : State :=
  { s.flashSet a ((List.range n).map (fun k => BitVec.ofNat 8 (Config.freeWord (s.free + k)).toNat)) with free := s.free + n }

/-- The page programs of bytes from an address (R408). -/
def pagePrograms : Nat → Nat → List Byte → List FlashStep
  | 0, _, _ => []
  | _, _, [] => []
  | k + 1, a, bs =>
    let n := 256 - a % 256
    .prog a (bs.take n) :: pagePrograms k (a + n) (bs.drop n)

/-! ## Times and energy -/

/-- SYSCLK clk in one cycle of the QSPI clock (R427). -/
def State.sckClk (s : State) : Nat := 2 * max 4 (min 15 (s.f R.NVS_CFG_SCK_DIV))

/-- How long a program of `k` bytes lasts, in clk (R410). -/
def State.progClk (s : State) (k : Nat) : Nat := s.f R.NVS_T_PP_T * 800 + (16 + 2 * k) * s.sckClk

/-- t_op of an operation in clk (R410). -/
def State.stepClk (s : State) : FlashStep → Nat
  | .read _ k => (40 + 2 * k) * s.sckClk
  | .prog _ bs => s.progClk bs.length
  | .erase _ => s.f R.NVS_T_SE_T * 800 + 16 * s.sckClk

/-- t_op of an operation of the black-box commit (R424). -/
def State.boxClk (s : State) (n : Nat) : Nat := if n = 0 then s.progClk 64 else 16 * s.progClk 256 + s.progClk 16

/-- E as the energy test takes it: 0 while the codes are not valid (R417, R457). -/
def State.energyNow (s : State) : Word := if s.clk < s.nvs.validAt then fZero false else s.reg R.NVS_HU_E

/-- Does the hold-up energy cover `t` clk (R417)? -/
def State.energyCovers (s : State) (t : Nat) : Bool :=
  fGe s.energyNow (fAdd (fMul (s.reg R.NVS_HU_P) (fOfRat t 800000000)) (s.reg R.NVS_HU_RES))

/-- Is an operation covered (R417)? -/
def State.covered (s : State) (t : Nat) (read : Bool) : Bool := if s.flag R.NVS_CFG_HU_EN then s.energyCovers t else read

/-- A conversion of ADC channel 7: V from the lowest of the four newest codes, and E (R416, R417). -/
def State.holdUp (s : State) (code : Nat) : State :=
  let codes := (code :: s.nvs.codes).take 4
  let low := codes.foldl min code
  let v := fMul (s.reg R.NVS_HU_SCALE) (fOfInt low)
  let vm := s.reg R.NVS_HU_VMIN
  let e := if fLe v vm then fZero false
    else fMul (fMul (fMul fHalf (s.reg R.NVS_HU_EFF)) (s.reg R.NVS_HU_C)) (fSub (fMul v v) (fMul vm vm))
  ((s.putNvs { s.nvs with codes := codes, wait := none }).putReg R.NVS_HU_V v).putReg R.NVS_HU_E e

/-- A power fail (R419). One that finds a commit waiting for energy turns it into a power-fail commit (R424). -/
def State.powerFail (s : State) : State :=
  let s := s.set1 R.NVS_STAT_PF
  if s.boxState = 1 then s.boxCommit true
  else match s.nvs.commit with
    | some c => if s.nvs.run.isSome then s else s.putNvs { s.nvs with commit := some { c with pf := true } }
    | none => s.boxFreeze 1

/-! ## The operation queue -/

/-- The operation kind of events (R426): 1 read, 2 program, 3 erase, 4 bank commit. -/
def jobKind : FlashJob → Nat
  | .write _ _ _ => 2
  | .commit _ => 4
  | .erase _ => 3
  | .reload _ => 1
  | .load _ => 1

/-- The head of the queue is deferred until the next conversion: DEFER, the count, and the event, once for that operation (R418). -/
def State.flashDefer (s : State) (q : FlashReq) (rest : List FlashReq) : State :=
  let s := s.putNvs { s.nvs with wait := some .head }
  if q.deferred then s
  else
    let s := s.putNvs { s.nvs with queue := { q with deferred := true } :: rest }
    let mj := posOfF (fMul (s.reg R.NVS_HU_E) (fOfRat 1000 65536))
    ((s.set1 R.NVS_STAT_DEFER).incSat R.NVS_DEFER_CNT_COUNT 1).raise 0x81 (jobKind q.job) (wordOf mj.toNat)

/-- Is it a read? -/
def isRead : FlashStep → Bool
  | .read _ _ => true
  | _ => false

/-- Start what the flash runs next, if it is covered (R418, R424): the commit first, then the head of the queue. What has been found uncovered is tested again at the
next conversion. -/
def State.flashStart (s : State) : State :=
  match s.nvs.commit with
  | some c =>
    let t := s.boxClk c.next
    if s.nvs.wait = some (.boxed c.next) ∧ !c.pf then s
    else if s.covered t false then (s.putNvs { s.nvs with run := some (.boxed c.next, s.clk + t) }).set1 R.NVS_STAT_BUSY
    else if c.pf then ((s.putNvs { s.nvs with commit := none, wait := none }).set1 R.BBX_STAT_SHORT).setF R.BBX_STAT_STATE 3
    else s.putNvs { s.nvs with wait := some (.boxed c.next) }
  | none =>
    match s.nvs.queue with
    | [] => s
    | q :: rest =>
      match q.steps with
      | [] => s
      | x :: _ =>
        let t := s.stepClk x
        if s.nvs.wait = some .head then s
        else if s.covered t (isRead x) then
          (s.putNvs { s.nvs with queue := { q with deferred := false } :: rest, run := some (.head, s.clk + t) }).set1 R.NVS_STAT_BUSY
        else s.flashDefer q rest

/-- FLASH_OPERATION_START (R417, R418, R424). -/
def execFlashOperationStart (s : State) : Host.Outcome State Fault Refusal :=
  if s.nvs.run.isSome then .next s else .next s.flashStart

/-! ## Parameter banks -/

/-- Flash address of a bank. -/
def bankAt (b : Nat) : Nat := 0x1000000 + b * 0x100000

/-- Is a bank active (R413)? -/
def State.bankActive (s : State) (b : Nat) : Bool := !s.flag R.NVS_STAT_NOACT && s.f R.NVS_STAT_ACT == b

/-- Does a commit of a bank wait or run? -/
def State.bankCommits (s : State) (b : Nat) : Bool := s.nvs.queue.any (fun q => q.job == .commit b)

/-- The operations of a write (R414): sectors from the write pointer on that have not been erased are erased before the first program into them. -/
def State.writeSteps (s : State) (b off : Nat) (ws : List Word) : List FlashStep :=
  let from_ := if s.f (R.NVS_WP_WP b) = 16 then 0 else s.f (R.NVS_WP_WP b) / 1024
  let last := (off + ws.length - 1) / 1024
  let sectors := (List.range (last + 1 - from_)).map (fun k => bankAt b / 4096 + from_ + k)
  let dirty := sectors.filter (fun k => !s.nvs.erased.contains k)
  dirty.map (fun k => .erase (4096 * k)) ++ pagePrograms (ws.length + 1) (bankAt b + 4 * off) (bytesOfWords ws)

/-- A bank write (R414, R386): its status, and the queue. -/
def State.nvsWrite (s : State) (t : PktTag) (b off : Nat) (ws : List Word) : Nat × State :=
  if s.bankCommits b then (stState, s)
  else if s.bankActive b then (stState, s)
  else if off < 16 ∨ 262144 < off + ws.length then (stParam, s)
  else if off < s.f (R.NVS_WP_WP b) then (stState, s)
  else (stOk, s.flashQueue ⟨.write b off ws, s.writeSteps b off ws, some t, bankAt b + 4 * off, false⟩)

/-- Is a commit of a bank refused (R415)? -/
def State.commitRefused (s : State) (b : Nat) : Bool := s.bankActive b || s.f (R.NVS_WP_WP b) == 16

/-- A bank commit: first the words from 16 on are read (R415). -/
def State.nvsCommit (s : State) (t : Option PktTag) (b : Nat) : State :=
  s.flashQueue ⟨.commit b, [.read (bankAt b + 64) (4 * (s.f (R.NVS_WP_WP b) - 16))], t, bankAt b, false⟩

/-- NVS_SWITCH: an accepted pair commits BANK, or sets CMD_BAD (R415). -/
def execNvsSwitch (s : State) : Host.Outcome State Fault Refusal :=
  match s.takeAccepted R.NVS_SWITCH with
  | none => .next s
  | some (v, s) =>
    let b := v.toNat % 2
    .next (if s.commitRefused b || s.bankCommits b || !s.queueRoom then s.set1 R.NVS_STAT_CMD_BAD else s.nvsCommit none b)

/-- The GEN of the next commit (R415). -/
def State.nextGen (s : State) : Word := if s.flag R.NVS_STAT_NOACT then 1 else s.reg (R.NVS_GEN (s.f R.NVS_STAT_ACT)) + 1

/-- Words 0 to 15 of a bank (R412). -/
def State.bankHeader (s : State) (b : Nat) : List Word :=
  let n := s.f (R.NVS_WP_WP b) - 16
  let ws : List Word := [0x4B4E425A, s.nextGen, wordOf n, wordOf (crc32 (s.flashBytes (bankAt b + 64) (4 * n)))]
  ws ++ [wordOf (crc32 (bytesOfWords ws))] ++ List.replicate 11 0

/-- Bank `b` becomes active (R415). -/
def State.bankSwitch (s : State) (b : Nat) (gen : Word) : State :=
  let s := ((s.clr R.NVS_STAT_NOACT).setF R.NVS_STAT_ACT b).putReg (R.NVS_GEN b) gen
  let s := (s.setF (R.NVS_WP_WP 0) 16).setF (R.NVS_WP_WP 1) 16
  (s.putNvs { s.nvs with erased := [] }).raise 0x84 b gen

/-! ## Ends of operations -/

/-- The reads of a Pier's reload enter the queue (R92). -/
def State.reloadQueue (s : State) (p : Nat) : State :=
  s.flashQueue ⟨.reload p, [.read s.nvs.ucAt 0x10000, .read s.nvs.konstAt 0x8000], none, s.nvs.ucAt, false⟩

/-- The oldest reload that waits enters the queue if it has room: Tollgate waits for a full queue (R30). -/
def State.reloadAdmit (s : State) : State :=
  match s.nvs.reloads with
  | p :: more => if s.queueRoom then (s.putNvs { s.nvs with reloads := more }).reloadQueue p else s
  | [] => s

/-- The head of the queue ends: the done event, its packet's completion (R418, R426). -/
def State.headDone (s : State) (q : FlashReq) (status : Nat) : State :=
  let s := (s.putNvs { s.nvs with queue := s.nvs.queue.tail }).showQueue.reloadAdmit
  (s.raise 0x80 (jobKind q.job) (wordOf q.first)).packetEnds q.tag status 0 []

/-- A media error at an address (R415, R426). -/
def State.mediaError (s : State) (kind a : Nat) : State :=
  ((s.set1 R.NVS_STAT_MEDIA).incSat R.NVS_ERR_CNT_COUNT 1).raise 0x85 kind (wordOf a)

/-- Replace the operations of the head. -/
def State.headSteps (s : State) (q : FlashReq) (steps : List FlashStep) : State :=
  s.putNvs { s.nvs with queue := { q with steps := steps } :: s.nvs.queue.tail }

/-- A tile's marker in the index of an area. -/
def State.tileMarker (s : State) (area t : Nat) : List Word := wordsOfBytes (s.flashBytes (areaAt area + 0x100 + 16 * t) 16)

/-- Is tile `t` of an area valid: its marker and its CRC (R423, R425)? -/
def State.tileOk (s : State) (area t : Nat) : Bool :=
  let m := s.tileMarker area t
  m.getD 0 0 == wordOf t && m.getD 2 0 == 0x4C495454 && m.getD 1 0 == wordOf (crc32 (s.flashBytes (areaAt area + 4096 * (t + 1)) 4096))

/-- Cut words into entries of eight. -/
def entriesOf : Nat → List Word → List (List Word)
  | 0, _ => []
  | n + 1, ws => ws.take 8 :: entriesOf n (ws.drop 8)

/-- A tile has been read into the ring (R425): the next tile is read if it is needed and valid, else the load ends. -/
def State.loadStep (s : State) (q : FlashReq) (area next : Nat) : State :=
  let rec_ := wordsOfBytes (s.flashBytes (areaAt area) 64)
  let n := (rec_.getD 8 0).toNat
  let need := min 128 (rec_.getD 9 0).toNat
  if next < need ∧ s.tileOk area next then
    s.headSteps q [.read (areaAt area + 4096 * (next + 1)) 4096]
  else
    let s := ((s.putNvs { s.nvs with loading := false, box := s.nvs.box.take n }).setF R.BBX_COUNT_N (min n s.nvs.box.length)).setF R.BBX_STAT_STATE 4
    let s := (s.setF R.BBX_TILES_NEED need).setF R.BBX_TILES_DONE next
    let s := match s.nvs.box with
      | e :: _ => s.putReg R.BBX_SEQ (e.getD 3 0)
      | [] => s
    s.headDone q stOk

/-- A read of a load ends: the index first, then a tile (R425). -/
def State.loadRead (s : State) (q : FlashReq) (area a : Nat) : State :=
  if a = areaAt area then
    if (wordsOfBytes (s.flashBytes a 4)).getD 0 0 = 0x58424258 then
      (s.putNvs { s.nvs with box := [] }).loadStep q area 0
    else ((s.putNvs { s.nvs with loading := false }).set1 R.BBX_STAT_LOAD_BAD).headDone q stOk
  else
    let t := (a - areaAt area) / 4096 - 1
    let s := s.putNvs { s.nvs with box := s.nvs.box ++ entriesOf 128 (wordsOfBytes (s.flashBytes a 4096)) }
    s.loadStep q area (t + 1)

/-- A reload has read the image's sections: both memories are written (R92). -/
def State.reloadWrite (s : State) (p : Nat) : State :=
  let code := s.flashBytes s.nvs.ucAt 0x10000
  let konst := s.flashBytes s.nvs.konstAt 0x8000
  let s : State := { s with deck := { s.deck with uc := tabWrite (fun _ => 0) s.deck.uc (p * 0x18000) (code ++ konst) } }
  s.putPier p { s.pier p with loaded := true }

/-- A commit's step ends: after the read the header is programmed, after that it is read back (R415). -/
def State.commitStep (s : State) (q : FlashReq) (b : Nat) (x : FlashStep) : State :=
  match x with
  | .prog _ _ => s.headSteps q [.read (bankAt b) 64]
  | .erase _ => s
  | .read a _ =>
    if a ≠ bankAt b then s.headSteps q [.prog (bankAt b) (bytesOfWords (s.bankHeader b))]
    else if wordsOfBytes (s.flashBytes (bankAt b) 64) = s.bankHeader b then (s.bankSwitch b s.nextGen).headDone q stOk
    else ((s.mediaError 4 (bankAt b)).putReg (R.NVS_GEN b) 0).headDone q stMedia

/-- A sector's erase or a failed write of it leaves the bank whose header stood there invalid (R413, R414). -/
def State.headerGone (s : State) (a : Nat) : State := s.each [0, 1] (fun s b => s.when (a == bankAt b) (fun s => s.putReg (R.NVS_GEN b) 0))

/-- The head's operation has ended well: its effect on the flash, then the next operation or the end of the request. -/
def State.headStep (s : State) (q : FlashReq) (x : FlashStep) (more : List FlashStep) : State :=
  let s := match x with
    | .prog a bs => s.flashProgram a bs
    | .erase a =>
      let s := (s.flashErase a).headerGone a
      s.putNvs { s.nvs with erased := a / 4096 :: s.nvs.erased }
    | .read _ _ => s
  match q.job with
  | .load area => match x with
    | .read a _ => s.loadRead q area a
    | _ => s
  | .commit b => s.commitStep q b x
  | .write b off ws => if more.isEmpty then (s.setF (R.NVS_WP_WP b) (off + ws.length)).headDone q stOk else s.headSteps q more
  | .erase area =>
    if more.isEmpty then
      let s := (s.setF R.BBX_STAT_ER (s.f R.BBX_STAT_ER ||| 2 ^ area)).putReg (R.BBX_ASEQ area) 0
      s.headDone q stOk
    else s.headSteps q more
  | .reload p => if more.isEmpty then (s.reloadWrite p).headDone q stOk else s.headSteps q more

/-- The head's operation has failed: its bytes are spoilt and the request ends with a media error. -/
def State.headFail (s : State) (q : FlashReq) (x : FlashStep) : State :=
  let (s, a) := match x with
    | .prog a bs => (s.flashSpoil a bs.length, a)
    | .erase a => ((s.flashSpoil a 4096).headerGone a, a)
    | .read a _ => (s, a)
  let s := s.mediaError (jobKind q.job) a
  let s := match q.job with
    | .load _ => (s.putNvs { s.nvs with loading := false }).set1 R.BBX_STAT_LOAD_BAD
    | .reload p => (s.setF (R.PIR_STAT_STATE p) 5).clr (R.PIR_CTL_RELOAD p)
    | .commit b => s.putReg (R.NVS_GEN b) 0
    | _ => s
  s.headDone q stMedia

/-- The freeze record of a commit (R423), a word an item in the order the spec lists them (log entry 64). -/
def State.freezeRecord (s : State) : List Word :=
  let seq := (if (s.reg (R.BBX_ASEQ 0)).toNat < (s.reg (R.BBX_ASEQ 1)).toNat then s.reg (R.BBX_ASEQ 1) else s.reg (R.BBX_ASEQ 0)) + 1
  [0x58424258, seq, wordOf (s.f R.BBX_STAT_CAUSE), s.nvs.boxMark] ++ ntWords3 s.nvs.boxTime ++
    [wordOf (s.f R.ZLP_CFG_HID), wordOf s.nvs.box.length, wordOf s.tilesNeeded] ++ List.replicate 6 0

/-- The bytes of a tile: 128 entries in order of age; the last tile's missing entries stay erased. -/
def State.tileBytes (s : State) (t : Nat) : List Byte :=
  let bs := bytesOfWords (((s.nvs.box.drop (128 * t)).take 128).flatMap (fun e => e))
  bs ++ List.replicate (4096 - bs.length) 0xFF

/-- The commit ends (R424). -/
def State.boxCommitted (s : State) : State := (s.putNvs { s.nvs with commit := none, wait := none }).setF R.BBX_STAT_STATE 3

/-- An operation of the black-box commit ends (R423, R424). -/
def State.boxStep (s : State) (c : BoxCommit) (n : Nat) : State :=
  let s := if n = 0 then
      let r := s.freezeRecord
      (s.flashProgram (areaAt c.area) (bytesOfWords r)).putReg (R.BBX_ASEQ c.area) (r.getD 1 0)
    else
      let t := n - 1
      let bs := s.tileBytes t
      let s := s.flashProgram (areaAt c.area + 4096 * n) bs
      let s := s.flashProgram (areaAt c.area + 0x100 + 16 * t) (bytesOfWords [wordOf t, wordOf (crc32 bs), 0x4C495454, 0xFFFFFFFF])
      (s.setF R.BBX_TILES_DONE n).raise 0x83 t (wordOf c.area)
  if n < c.need then s.putNvs { s.nvs with commit := some { c with next := n + 1 } } else s.boxCommitted

/-- FLASH_OPERATION_END (R414, R415, R418, R424, R426): the operation under way ends, well or with an error the device reports. -/
def execFlashOperationEnd (ok : Bool) (s : State) : Host.Outcome State Fault Refusal :=
  match s.nvs.run with
  | none => .next s
  | some (r, end_) =>
    if s.clk < end_ then .next s
    else
      let s := (s.putNvs { s.nvs with run := none }).clr R.NVS_STAT_BUSY
      match r with
      | .boxed n =>
        match s.nvs.commit with
        | none => .next s
        | some c => .next (if ok then s.boxStep c n else (s.mediaError 2 (areaAt c.area + 4096 * n)).boxCommitted)
      | .head =>
        match s.nvs.queue with
        | [] => .next s
        | q :: _ =>
          match q.steps with
          | [] => .next s
          | x :: more => .next (if ok then s.headStep q x more else s.headFail q x)

/-! ## Pier reloads -/

/-- A write of `PIR_CTL.RELOAD` to a Pier in OFFLINE or FAULT: the read of the image's sections is queued, behind a full queue once it has room (R30, R92). -/
def State.pirReload (s : State) (p : Nat) : State :=
  let st := s.f (R.PIR_STAT_STATE p)
  if st = 4 ∨ st = 5 then
    let s := ((s.setF (R.PIR_STAT_STATE p) 1).set1 (R.PIR_CTL_RELOAD p)).putPier p { s.pier p with passOk := false, loaded := false }
    (s.putNvs { s.nvs with reloads := s.nvs.reloads ++ [p] }).reloadAdmit
  else s

/-- PIR_RELOAD (R92). -/
def execPirReload (p : Fin 16) (s : State) : Host.Outcome State Fault Refusal :=
  .next (s.bar0Write (R.PIR_CTL p.val) (fun s => s.pirReload p.val))

/-- PIER_RELOAD_DONE: the check of R90 after a load. A Pier that passes enters SERVICE at the next t0, one that fails enters FAULT (R92, R93). -/
def execPierReloadDone (p : Fin 16) (s : State) : Host.Outcome State Fault Refusal :=
  let x := s.pier p.val
  if s.f (R.PIR_STAT_STATE p.val) = 1 ∧ x.loaded then
    let c := s.pierCrc p.val
    let s := ((s.putReg (R.PIR_UC_CALC p.val) c).clr (R.PIR_CTL_RELOAD p.val)).putPier p.val { x with loaded := false, passOk := c == s.reg (R.PIR_UC_CRC p.val) }
    .next (if c = s.reg (R.PIR_UC_CRC p.val) then s else s.pierFault p.val .crc)
  else .next s

/-- At t0 the Piers whose check has passed enter SERVICE (R92, R93). -/
def State.piersServe (s : State) : State :=
  s.each pierList (fun s p =>
    if s.f (R.PIR_STAT_STATE p) = 1 ∧ (s.pier p).passOk then (s.pierService p).putPier p { (s.pierService p).pier p with passOk := false } else s)

/-! ## The ADC -/

/-- The SEQ field of a slot (R306): channel and SKIP; slots 3, 7, 11 and 15 are fixed. -/
def State.adcField (s : State) (slot : Nat) : Nat :=
  if slot % 4 = 3 then 7 else bitsOf (s.reg (if slot < 8 then R.ADC_SEQ0 else R.ADC_SEQ1)).toNat (4 * (slot % 8)) 4

/-- The channel a slot converts, if it converts one (R303). -/
def State.adcChannel (s : State) (slot : Nat) : Option Nat :=
  if slot % 4 = 3 then some 7
  else
    let x := s.adcField slot
    if s.flag R.ADC_CFG_EN ∧ x < 8 then some (x % 8) else none

/-- ADC_CONVERSION: the slot's conversion completes with a 16-bit code every 400 clk (R303, R416, R419). -/
def execAdcConversion (code : BitVec 16) (s : State) : Host.Outcome State Fault Refusal :=
  if s.clk < s.acq.adcAt then .next s
  else
    let slot := s.acq.adcSlot
    let s : State := { s with acq := { s.acq with adcSlot := (slot + 1) % 16, adcAt := s.clk + 400 } }
    let s := (s.setF R.ADC_STAT_SLOT ((slot + 1) % 16)).set1 R.ADC_STAT_RUN
    match s.adcChannel slot with
    | none => .next s
    | some c =>
      let s := (s.setF (R.ADC_DATA_CODE c) code.toNat).incWrap (R.ADC_DATA_CNT c) 1
      if c = 7 then
        let s := if slot % 4 = 3 then s.holdUp code.toNat else s
        .next (s.when (slot % 4 == 3 && s.flag R.NVS_CFG_PF_EN && fLt (s.reg R.NVS_HU_V) (s.reg R.NVS_PF_V)) (fun s => s.powerFail))
      else .next s

/-! ## Registers -/

/-- NVS, BBX and ADC registers whose value follows from the state. -/
def nvsRead (s : State) (a : Nat) : Option Word :=
  if a = R.ADC_SEQ0 ∨ a = R.ADC_SEQ1 then some ((s.reg a &&& 0x0FFF0FFF) ||| 0x70007000) else none

/-- NVS, BBX and ADC registers with a rule of their own for a write: `NVS_T_PP` and `NVS_T_SE` keep at least the SFDP value (R410), BBX requests and notes. -/
def nvsRegWrite (s : State) (a : Nat) (v : Word) : Option State :=
  if a = R.NVS_T_PP then some (s.putReg a (wordOf (max s.nvs.tpp v.toNat)))
  else if a = R.NVS_T_SE then some (s.putReg a (wordOf (max s.nvs.tse v.toNat)))
  else if a = R.BBX_CTL then some (s.boxCtl v)
  else if a = R.BBX_NOTE then some (s.boxNote v)
  else if a = R.ADC_SEQ0 ∨ a = R.ADC_SEQ1 then some (s.plainWrite a ((v &&& 0x0FFF0FFF) ||| 0x70007000))
  else none

end Sys2Proof.Machine
end

