-- ==== Sys2Proof/Machine/Stp.lean ====
section
/-! DEFINITION. Step/direction channels (R211 to R213). -/

namespace Sys2Proof.Machine

def State.stp (s : State) (c : Nat) : StepChan := tabGet (fun _ => StepChan.idle) s.pwr.step c
def State.putStp (s : State) (c : Nat) (x : StepChan) : State :=
  { s with pwr := { s.pwr with step := tabSet (fun _ => StepChan.idle) s.pwr.step c x } }

/-- The source of a channel (R211): p_lim of its axis in 2^-16 count, or the chainage of the segment in 2^-32 mc. -/
def State.stpSource (s : State) (c : Nat) : Pos64 :=
  if s.flag (R.STP_CFG_SRC c) then chn64 s.chn.seg.s
  else
    let a := s.f (R.STP_CFG_AXIS c)
    BitVec.ofNat 64 (nat64 (s.deckWord (0x60000 + 64 * a)) (s.deckWord (0x60004 + 64 * a)))

/-- The target in steps (R211), rounded down. -/
def State.stpTarget (s : State) (c : Nat) : Int :=
  let x := (s.stpSource c - (s.stp c).x0).toInt
  let den : Nat := s.f (R.STP_DEN_DEN c) * (if s.flag (R.STP_CFG_SRC c) then 1 else 65536)
  (s.reg (R.STP_NUM c)).toInt * x / (max 1 den : Nat)

/-- The emitted steps. -/
def State.stpCount (s : State) (c : Nat) : Int := (s.stp c).made

/-- x at an enable (R211): p_lim as it stands, or the chainage on this clk. -/
def State.stpStart (s : State) (c : Nat) : Pos64 := if s.flag (R.STP_CFG_SRC c) then chn64 s.chnLive else s.stpSource c

/-- A write of `STP_Cc_CFG` (R211, R212): an enable takes x0 and counts from 0; a disable stops the channel. -/
def State.stpCfgWrite (s : State) (c : Nat) (v : Word) : State :=
  let was := s.flag (R.STP_CFG_EN c)
  let s := s.plainWrite (R.STP_CFG c) v
  if s.flag (R.STP_CFG_EN c) then
    if was then s
    else
      let s := s.putStp c { s.stp c with x0 := s.stpStart c, plan := none, planned := s.cyc.t0, made := 0 }
      (s.putReg (R.STP_POS c) 0).set1 (R.STP_STAT_RUN c)
  else (s.putStp c { s.stp c with plan := none }).clr (R.STP_STAT_RUN c)

/-- STEP_ENABLE: a write of `STP_Cc_CFG`, meant with EN = 1 (R211). -/
def execStepEnable (c : Fin 32) (val : Word) (s : State) : Host.Outcome State Fault Refusal :=
  .next (s.bar0Write (R.STP_CFG c.val) (fun s => s.stpCfgWrite c.val (val ||| 1)))

/-- The place of step `i` (from 1) after t0 (R212): ceil((i - 0.5) × N / n). -/
def stepPlace (nBc n i : Nat) : Nat := ((2 * i - 1) * nBc + 2 * n - 1) / (2 * max 1 n)

/-- STEP_PLAN: at t0 the steps of the bc are set out (R212, R213). -/
def execStepPlan (c : Fin 32) (s : State) : Host.Outcome State Fault Refusal :=
  let x := s.stp c.val
  if s.flag (R.STP_STAT_RUN c.val) = false ∨ s.cyc.t0 ≤ x.planned then .next s
  else
    let d := s.stpTarget c.val - s.stpCount c.val
    let s := s.putReg (R.STP_LAG c.val) (BitVec.ofInt 32 d)
    let lagMax := s.f (R.STP_LAGMAX_LAGMAX c.val)
    if lagMax ≠ 0 ∧ lagMax < d.natAbs then
      let s := s.putStp c.val { x with planned := s.cyc.t0, plan := none }
      .next (((s.clr (R.STP_STAT_RUN c.val)).set1 (R.STP_STAT_LAG c.val)).raise 0x3C c.val 0)
    else
      let n := min d.natAbs (s.nBc / max 80 (s.f (R.STP_TIM_MINPER c.val)))
      let neg := decide (d < 0)
      let turn := decide (d ≠ 0) && neg != x.dir
      let at_ := match x.pulseEnd with | some e => max e s.cyc.t0 | none => s.cyc.t0
      let first := s.cyc.t0 + stepPlace s.nBc n 1
      let delay := if turn then at_ + s.f (R.STP_TIM_DSETUP c.val) - first else 0
      let s := s.putStp c.val { x with
        planned := s.cyc.t0, plan := some ⟨s.cyc.t0, n, 0, neg, delay⟩
        dirDue := if turn then some (at_, neg) else none }
      .next (s.when (decide (n < d.natAbs)) (fun s => (s.set1 (R.STP_STAT_CLIP c.val)).raise 0x10 4 (wordOf c.val)))

/-- The clk of the next step of a plan, if one is left (R212). -/
def State.nextStep (s : State) (x : StepChan) : Option Nat :=
  match x.plan with
  | none => none
  | some p => if p.made < p.n then some (p.t0 + stepPlace s.nBc p.n (p.made + 1) + p.delay) else none

/-- STEP_PULSE: the earliest of the falling edge of the pulse under way, a change of DIR, and the next step, if its clk has come (R212, R213). -/
def execStepPulse (c : Fin 32) (s : State) : Host.Outcome State Fault Refusal :=
  let x := s.stp c.val
  match x.pulseEnd, x.dirDue, s.nextStep x with
  | some e, _, _ => if e ≤ s.clk then .next (s.putStp c.val { x with pulseEnd := none }) else .next s
  | none, some (t, neg), _ => if t ≤ s.clk then .next (s.putStp c.val { x with dirDue := none, dir := neg }) else .next s
  | none, none, some t =>
    if t ≤ s.clk then
      let neg := match x.plan with | some p => p.neg | none => false
      let s := s.putStp c.val { x with
        pulseEnd := some (t + max 4 (s.f (R.STP_TIM_WIDTH c.val))), plan := x.plan.map (fun p => { p with made := p.made + 1 })
        made := x.made + if neg then -1 else 1 }
      .next (s.putReg (R.STP_POS c.val) (BitVec.ofInt 32 (s.stpCount c.val)))
    else .next s
  | none, none, none => .next s

/-- The levels of the pins STEPc and DIRc (R213, R216): DIR is 1 for negative steps (log entry 47). -/
def State.stepPin (s : State) (c : Nat) : Bool := (s.stp c).pulseEnd.isSome != s.flag (R.STP_CFG_STEP_POL c)
def State.dirPin (s : State) (c : Nat) : Bool := (s.stp c).dir != s.flag (R.STP_CFG_DIR_INV c)

/-- STP registers with a rule of their own for a write (R216): DEN of 0 is ignored, WIDTH below 4 stores 4, MINPER below 80 stores 80. -/
def stpRegWrite (s : State) (a : Nat) (v : Word) : Option State :=
  if 0x120000 ≤ a ∧ a < 0x120800 then
    let c := (a - 0x120000) / 64
    if a = R.STP_CFG c then some (s.stpCfgWrite c v)
    else if a = R.STP_DEN c then some (if v = 0 then s else s.plainWrite a v)
    else if a = R.STP_TIM c then
      let s := s.plainWrite a v
      let s := s.setF (R.STP_TIM_WIDTH c) (max 4 (s.f (R.STP_TIM_WIDTH c)))
      some (s.setF (R.STP_TIM_MINPER c) (max 80 (s.f (R.STP_TIM_MINPER c))))
    else none
  else none

end Sys2Proof.Machine
end

