-- ==== Sys2Proof/Machine/RingRx.lean ====
section
/-! DEFINITION. Frames that reach the head's ports and the running ring (R20 to R24, R220, R221, R226 to R235, R262 to R272, R346): checks, feedback and frame-buffer slots,
presence, drift, joins, breaks, collisions, and the ports' own events. -/

namespace Sys2Proof.Machine

/-! ## Checks of a received frame -/

/-- DISCARDED_FRAME_RECEIVE (R226 to R228). -/
def execDiscardedFrameReceive (port : Fin 6) (fr : RxFrame) (s : State) : Host.Outcome State Fault Refusal :=
  match frameCheck fr.bytes with
  | .good => .next s
  | _ => .next (s.rxCount port.val fr)

/-- Is epoch `a` newer than `b` (R343)? -/
def epochNewer (a b : Nat) : Bool := let d := (a + 65536 - b) % 65536; decide (1 ≤ d) && decide (d ≤ 32767)

/-- A valid frame of the pylon's span and head ID with a newer epoch fences it from the next bc, under that epoch (R346); a pylon that is not paired holds nothing to lose (log entry 66). -/
def State.epochSeen (s : State) (h : ZlHeader) : State :=
  if s.twin ∧ s.f R.TWN_STAT_ROLE ≠ 0 ∧ s.f R.TWN_STAT_ROLE ≠ 4 ∧ h.src / 256 = s.zlpF R.ZLP_CFG_SPAN ∧ h.dst / 256 = s.zlpF R.ZLP_CFG_SPAN ∧ h.hid = s.zlpF R.ZLP_CFG_HID ∧
      epochNewer h.epoch (s.f R.TWN_EPOCH_EPOCH) then
    { s with twn := { s.twn with fenceReq := some h.epoch } }
  else s

/-- The t0 of the bc a frame belongs to: the present bc or the one before. -/
def State.frameBase (s : State) (h : ZlHeader) : Option Nat :=
  if hdrBcn h = s.bcn then some s.cyc.t0
  else if hdrBcn h = (s.bcn + 63) % 64 ∧ s.cyc.prevN ≤ s.cyc.t0 then some (s.cyc.t0 - s.cyc.prevN)
  else none

/-- The bc index a frame belongs to. -/
def State.frameBc (s : State) (h : ZlHeader) : Word := if hdrBcn h = s.bcn then s.cyc.bcIdx else s.cyc.bcIdx - 1

/-- Does an arrival lie in the interval of a head-emitted upstream frame at x0 (R268), or of a wrapped copy at the emitting pylon's own x1 (R338)? Edges are inside. -/
def State.headInterval (s : State) (port : Nat) (h : ZlHeader) (fr : RxFrame) : Bool :=
  match s.frameBase h with
  | none => false
  | some base =>
    let e := s.cym (hdrBcn h) (hdrWin h)
    let r := ringOfPort port
    let g := s.guard * 200
    let x1 := isX1 port
    let at_ := (base + s.startOf e (hdrHalf h)) * 400 + s.lam400 r true + if x1 then s.lam400 r false else 0
    (!x1 || s.twin) && decide (at_ ≤ fr.sfd * 400 + g) &&
      decide (fr.last * 400 ≤ at_ + s.wire400 (payloadOf fr.bytes).length + if x1 then 2 * g else g)

/-- Does a station-owned frame lie in its interval at x0 (R268)? -/
def State.ownedInterval (s : State) (port : Nat) (h : ZlHeader) (fr : RxFrame) : Bool :=
  match s.frameBase h with
  | none => false
  | some base =>
    let e := s.cym (hdrBcn h) (hdrWin h)
    let g := s.guard * 200
    let a := (base + e.start * 8) * 400
    !isX1 port && decide (a ≤ fr.sfd * 400 + g) && decide (fr.last * 400 + g ≤ a + e.len * 3200)

/-- A window violation (R268): a station's frame counts for the station, a head-emitted one in `ZLP_WV_CNT`. -/
def State.windowViolation (s : State) (owner : Option Nat) : State :=
  match owner with
  | some a => (s.when (a % 256 != 0 && a % 256 != 255) (fun s => s.incSat (R.ZLP_STN_CNT_WV (a % 256)) 1)).raise 0x45 a 0
  | none => (s.incSat R.ZLP_WV_CNT_COUNT 1).raise 0x45 0 0

/-- Is this copy's key already used? -/
def State.keyUsed (s : State) (h : ZlHeader) : Bool := s.ring.rxKeys.contains (h.type, h.src, h.win, h.seq)

/-- Keep a frame's key; the last 64 are kept. -/
def State.useKey (s : State) (h : ZlHeader) : State :=
  { s with ring := { s.ring with rxKeys := ((h.type, h.src, h.win, h.seq) :: s.ring.rxKeys).take 64 } }

/-- The return delay of a wrapped upstream frame at x1 (R271). -/
def State.noteRet1 (s : State) (port : Nat) (h : ZlHeader) (fr : RxFrame) : State :=
  if isX1 port ∧ hdrWrap h then
    match s.frameBase h with
    | none => s
    | some base =>
      let at_ := base + s.startOf (s.cym (hdrBcn h) (hdrWin h)) (hdrHalf h)
      { s with ring := { s.ring with ret1 := tabSet (fun _ => none) s.ring.ret1 (ringOfPort port) (some (fr.sfd - at_)) } }
  else s

/-- A good frame of this head's span at a ring port while the span runs, with a type: the state after its counts and the epoch check, and its header. -/
def State.rxFrame (s : State) (port : Nat) (fr : RxFrame) (type : Nat) : State × Option ZlHeader :=
  let t := s.rxCount port fr
  match frameCheck fr.bytes with
  | .good =>
    let h := parseHeader fr.bytes
    let t := (t.epochSeen h).noteRet1 port h fr
    if port < 4 ∧ t.spanRuns ∧ h.type = type ∧ h.dst / 256 = t.zlpF R.ZLP_CFG_SPAN then (t, some h) else (t, none)
  | _ => (t, none)

/-! ## Feedback -/

/-- Do RUN frames report the stations' STATUS (R262)? -/
def State.statusKnown (s : State) : Bool := s.flag R.ZLP_SCFG_RUN_EN && !s.ring.use.all (fun r => s.ring.noRun.contains r)

/-- Has the bc come from which the stations of the start are ACTIVE (R261)? -/
def State.stationsActive (s : State) (bc : Word) : Bool := match s.ring.activeBc with
  | some i => decide (0 ≤ (bc - i).toInt)
  | none => false

/-- Is a station ACTIVE (R258, R261): by the STATUS it reports, or, where no RUN frame reports one, from bc 0 of the second cc after the first SYNC on? -/
def State.stnActive (s : State) (n : Nat) : Bool :=
  let st := s.f (R.ZLP_STN_STAT_STATE n)
  st == 3 || (!s.statusKnown && st != 6 && st != 7 && s.stationsActive s.cyc.bcIdx)

/-- Is the station of a slot's axis ACTIVE, so that the record can be a sample (R261; log entry 57)? A slot of no axis counts. A record of zero bytes is what a muted station
leaves: a free bit says whether it is one. -/
def State.recordFilled (s : State) (slot : Nat) (bs : List Byte) : Bool :=
  match s.slotOwner true slot with
  | none => true
  | some a => match s.axisStation a with
    | none => true
    | some n => s.stnActive n && (bs.any (fun b => b != 0) || s.freeNow.getLsbD 0)

/-- An express sample that becomes valid after OPEN - 6 is late (R77). -/
def State.xsampLate (s : State) (a half : Nat) : State :=
  if s.axisClass a = 1 ∧ s.axisOn a ∧ 2 ≤ s.axisState a ∧ half * s.pExp + s.dsp.open_ < s.sinceT0 + 6 then
    (s.set1 R.DSP_STAT_XLATE).raise 0x19 a 0
  else s

/-- A feedback record of a good frame: the slot becomes valid and its axis's task is posted; a slot already valid for the period keeps the earlier copy (R23, R24, R101, R338). -/
def State.feedbackIn (s : State) (slot per : Nat) (bs : List Byte) : State :=
  let hd := (s.deckWord (fbAddr slot)).toNat
  let filled := s.recordFilled slot bs
  let s := s.when (bs.all (fun b => b == 0)) (fun s => s.drewFree)
  if (hd.testBit 31 && bitsOf hd 16 8 == per % 256) || !filled then s
  else
    let s := s.fbWrite slot per bs
    match s.slotOwner true slot with
    | none => s
    | some a => (if per % 2 = 0 then s.chnFeed a (wordOf (natOfBytes (bs.take 4))) else s).xsampLate a (per % 2) |>.postAxis a

/-- A record for a frame-buffer slot (R100, R236). -/
def State.bufferIn (s : State) (slot : Nat) (bs : List Byte) : State := s.deckPutAll (0x70000 + 64 * slot) (wordsOfBytes bs)

/-- The records of an upstream process-data frame go to their slots. -/
def State.recordsIn (s : State) (e : CymEntry) (h : ZlHeader) (p : List Byte) : State :=
  let half := hdrHalf h
  s.each (List.range e.count) (fun s i =>
    let bs := sliceOf p (i * e.rsize) e.rsize
    let slot := recordSlot e i half
    if e.src = 0 then s.feedbackIn slot (2 * hdrBcn h + half) bs else if e.src = 1 then s.bufferIn slot bs else s)

/-- COLLECT_RECEIVE (R23, R24, R226 to R230, R268). -/
def execCollectReceive (port : Fin 6) (fr : RxFrame) (s : State) : Host.Outcome State Fault Refusal :=
  match s.rxFrame port.val fr 3 with
  | (s, none) => .next s
  | (s, some h) =>
    let e := s.cym (hdrBcn h) (hdrWin h)
    if !(e.cls == 2 && e.dir == 1) || (isX1 port.val && !s.twin) then .next s
    else if !s.headInterval port.val h fr then .next (s.windowViolation none)
    else if s.frameBc h ≠ s.cyc.bcIdx then .next s
    else .next (s.recordsIn e h (payloadOf fr.bytes))

/-- XSAMP_RECEIVE (R23, R24, R77, R230, R268). -/
def execXsampReceive (port : Fin 6) (fr : RxFrame) (s : State) : Host.Outcome State Fault Refusal :=
  match s.rxFrame port.val fr 4 with
  | (s, none) => .next s
  | (s, some h) =>
    let e := s.cym (hdrBcn h) (hdrWin h)
    if e.cls != 4 || (isX1 port.val && !s.twin) then .next s
    else if !s.headInterval port.val h fr then .next (s.windowViolation none)
    else if s.frameBc h ≠ s.cyc.bcIdx ∨ hdrHalf h ≠ s.cyc.half then .next s
    else .next (s.recordsIn e h (payloadOf fr.bytes))

/-- STNPD_RECEIVE: a station's own frame goes to its frame-buffer slots; the first copy is kept (R237, R238, R268). -/
def execStnpdReceive (port : Fin 6) (fr : RxFrame) (s : State) : Host.Outcome State Fault Refusal :=
  match s.rxFrame port.val fr 9 with
  | (s, none) => .next s
  | (s, some h) =>
    let e := s.cym (hdrBcn h) (hdrWin h)
    if isX1 port.val && !s.twin then .next s
    else if !isX1 port.val && !s.ownedInterval port.val h fr then .next (s.windowViolation (some h.src))
    else if e.cls != 2 || e.dir != 1 || e.owner != h.src || s.keyUsed h then .next s
    else .next ((s.useKey h).recordsIn e h (payloadOf fr.bytes))

/-! ## Vacancy frames -/

/-- SERVICE_RECEIVE: a station's message is taken (R235, R268, R349). -/
def execServiceReceive (port : Fin 6) (fr : RxFrame) (s : State) : Host.Outcome State Fault Refusal :=
  match s.rxFrame port.val fr 8 with
  | (s, none) => .next s
  | (s, some h) =>
    if isX1 port.val && !s.twin then .next s
    else if !s.headInterval port.val h fr then .next (s.windowViolation (some h.src))
    else if s.keyUsed h then .next s
    else
      let s := s.useKey h
      .next { s with ring := { s.ring with service := s.ring.service ++ [bytesOf 2 h.src ++ payloadOf fr.bytes] } }

/-- VACANT_UNCLAIMED_RETURN: ROUND is incremented in the next vacancy frame (R235, R268). -/
def execVacantUnclaimedReturn (port : Fin 6) (fr : RxFrame) (s : State) : Host.Outcome State Fault Refusal :=
  match s.rxFrame port.val fr 7 with
  | (s, none) => .next s
  | (s, some h) =>
    if (isX1 port.val && !s.twin) || hdrClm h then .next s
    else if !s.headInterval port.val h fr then .next (s.windowViolation none)
    else .next { s with ring := { s.ring with roundUp := true } }

/-! ## Upstream safety containers -/

/-- The rings that should carry a station's upstream container to this head (R265): those in use and not broken. -/
def State.carryRings (s : State) : List Nat :=
  let mine := s.ring.use.filter (fun r => s.hasX0 r)
  let whole := mine.filter (fun r => !(if r = 0 then s.f R.ZLP_RSTAT_A else s.f R.ZLP_RSTAT_B).testBit 1)
  if whole.isEmpty then mine else whole

/-- A station is reported absent (R265). -/
def State.stationAbsent (s : State) (n : Nat) : State :=
  let s := ((s.setF (R.ZLP_STN_STAT_STATE n) 7).incSat (R.ZLP_STN_CNT_LOST n) 1).raise 0x43 (s.ownAddr + n) 0
  { s with ring := { s.ring with absentAt := tabSet (fun _ => none) s.ring.absentAt n (some s.clk) } }

/-- An absent station fills its container again: it is absent no longer. Where no RUN frame reports its STATUS, it is ACTIVE. -/
def State.stationBack (s : State) (n : Nat) : State :=
  if s.f (R.ZLP_STN_STAT_STATE n) = 7 then
    let s : State := { s with ring := { s.ring with absentAt := tabSet (fun _ => none) s.ring.absentAt n none } }
    s.when (!s.statusKnown) (fun s => s.setF (R.ZLP_STN_STAT_STATE n) 3)
  else s

/-- Look at one returned container of a station of the set that should carry it: from the bc in which the stations become ACTIVE on (R261), a station that has joined since once it
has been ACTIVE (R265; log entry 99). -/
def State.presenceOf (s : State) (n r : Nat) (bc : Word) (empty : Bool) : State :=
  if !s.stationsActive bc ∨ s.ring.joined.contains n then s
  else
    let s := s.when (!empty) (fun s => s.stationBack n)
    let p0 := tabGet (fun _ => Presence.none_) s.ring.presence n
    let p := if p0.bc = bc then p0 else { p0 with bc := bc, empty := [], full := [] }
    let p1 := if empty then { p with empty := if p.empty.contains r then p.empty else r :: p.empty } else { p with full := r :: p.full }
    let all (q : Presence) : Bool := q.full.isEmpty && s.carryRings.all (fun x => q.empty.contains x)
    let now := all p1 && !all p
    let p2 := if now then { p1 with before := some bc } else p1
    let s : State := { s with ring := { s.ring with presence := tabSet (fun _ => Presence.none_) s.ring.presence n p2 } }
    if now ∧ p.before = some (bc - 1) ∧ s.f (R.ZLP_STN_STAT_STATE n) ≠ 7 then s.stationAbsent n else s

/-- SAFE_UPSTREAM_RECEIVE (R27, R233, R265, R326, R338). -/
def execSafeUpstreamReceive (port : Fin 6) (fr : RxFrame) (s : State) : Host.Outcome State Fault Refusal :=
  match s.rxFrame port.val fr 6 with
  | (s, none) => .next s
  | (s, some h) =>
    let e := s.cym (hdrBcn h) (hdrWin h)
    if e.cls != 6 || e.dir != 1 || (isX1 port.val && !s.twin) then .next s
    else if !s.headInterval port.val h fr then .next (s.windowViolation none)
    else
      let r := ringOfPort port.val
      let bc := s.frameBc h
      let p := payloadOf fr.bytes
      let base := sumOf (((s.windowsOf (hdrBcn h)).filter (fun o => o.cls == 6 && o.dir == 1 && decide (o.w < e.w))).map (fun o => o.count))
      .next (s.each (List.range e.count) (fun s i =>
        match s.safeStation (base + i) with
        | none => s
        | some n =>
          let bs := sliceOf p (16 * i) 16
          let s : State := { s with ring := { s.ring with safeRx := s.ring.safeRx ++ [⟨r, bc, n, bs⟩] } }
          s.presenceOf n r bc (natOfBytes (bs.take 2) == 0)))

/-- STATION_REMOVAL: absent for 1 cc (R266). -/
def execStationRemoval (n : Fin 256) (s : State) : Host.Outcome State Fault Refusal :=
  match tabGet (fun _ => none) s.ring.absentAt n.val with
  | some c =>
    if c + 64 * s.nBc ≤ s.clk then
      let set_ := s.ring.set_.filter (fun m => m != n.val)
      let s : State := { s with ring := { s.ring with set_ := set_, joined := s.ring.joined.erase n.val, absentAt := tabSet (fun _ => none) s.ring.absentAt n.val none } }
      let s := ((s.setF (R.ZLP_STN_STAT_STATE n.val) 6).clr (R.ZLP_STN_STAT_ON_A n.val)).clr (R.ZLP_STN_STAT_ON_B n.val)
      .next (s.setF R.ZLP_SSTAT_NST set_.length)
    else .next s
  | none => .next s

/-! ## RUN frames -/

/-- The STATUS of a station of the set (R258, R276). -/
def State.stationStatus (s : State) (x : StnRec) : State :=
  let was := s.f (R.ZLP_STN_STAT_STATE x.stn)
  let s := s.setF (R.ZLP_STN_STAT_STATE x.stn) x.status
  let s : State := { s with ring := { s.ring with
    absentAt := tabSet (fun _ => none) s.ring.absentAt x.stn none
    joined := if x.status = 3 then s.ring.joined.erase x.stn else s.ring.joined } }
  if x.status = 3 ∧ was ≠ 3 then (s.incSat R.ZLP_JOIN_CNT_OK 1).raise 0x41 (s.ownAddr + x.stn) 0
  else if x.status = 4 ∨ x.status = 5 then ((s.incSat (R.ZLP_STN_CNT_DRIFT x.stn) 1).incSat R.ZLP_DRIFT_CNT_COUNT 1).raise 0x44 (s.ownAddr + x.stn) 0
  else s

/-- A join is not admitted (R263). -/
def State.joinRefuse (s : State) (n : Nat) : State := (s.incSat R.ZLP_JOIN_CNT_BAD 1).raise 0x42 (s.ownAddr + n) 0

/-- The rings whose RUN frames report in this cc. -/
def State.runRings (s : State) : List Nat := s.carryRings.filter (fun r => !s.ring.noRun.contains r)

/-- Entries of an assign item that goes out in RUN frames: as many as the window's frame holds, up to 12 (R239, R260, R263). -/
def State.joinCut (s : State) : Nat := max 1 (min 12 ((s.itemRoom (s.cym 0 (s.f R.ZLP_SCFG_RUNWIN)) - 4) / 16))

/-- Admit or refuse one station that is not in the set; its records are in the station table already (R263, R264). -/
def State.joinTest (s : State) (n : Nat) : State :=
  let recs (r : Nat) : List StnRec := (tabGet (fun _ => []) s.ring.seen r).filter (fun x => x.stn == n)
  let rs := s.runRings
  let once := rs.all (fun r => decide ((recs r).length ≤ 1))
  let both := s.zlpFlag R.ZLP_CFG_BMODE || s.ring.use.length != 2 || rs.all (fun r => !(recs r).isEmpty)
  if 1 ≤ n ∧ n ≤ 254 ∧ once ∧ both ∧ s.rerunOk s.windows then
    let set_ := s.ring.set_.filter (fun m => decide (m < n)) ++ [n] ++ s.ring.set_.filter (fun m => decide (n < m))
    let t : State := { s with ring := { s.ring with set_ := set_, joined := if s.ring.joined.contains n then s.ring.joined else n :: s.ring.joined } }
    let t : State := { t with ring := { t.ring with items := t.ring.items ++ (t.assignItems t.joinCut n).map (fun it => (n, it)) } }
    (t.setF (R.ZLP_STN_STAT_STATE n) 0).setF R.ZLP_SSTAT_NST set_.length
  else s.joinRefuse n

/-- All RUN frames of the cc are in: stations seen that are not in the set, and numbers used twice (R263). -/
def State.joinAll (s : State) : State :=
  let rs := s.runRings
  let found := (List.range 256).filter (fun n => rs.any (fun r => (tabGet (fun _ => []) s.ring.seen r).any (fun x => x.stn == n)))
  s.each found (fun s n =>
    if s.ring.set_.contains n then
      (if rs.any (fun r => decide (1 < ((tabGet (fun _ => []) s.ring.seen r).filter (fun x => x.stn == n)).length)) then s.joinRefuse n else s)
    else s.joinTest n)

/-- Run the checks again for a ring whose loop has changed (R271). -/
def State.rerunTest (s : State) (r : Nat) : State :=
  if s.ring.rerun.contains r then
    let bad := !s.rerunOk s.windows
    let s : State := { s with ring := { s.ring with rerun := s.ring.rerun.filter (fun q => q != r) } }
    let x := if r = 0 then R.ZLP_RSTAT_A else R.ZLP_RSTAT_B
    s.setF x (s.f x % 8 + if bad then 8 else 0)
  else s

/-- The records of a RUN frame that are a station's own: its number stands once, or the record is the only one of its number that is not NEW, since a station that was plugged in
under a number in use stays NEW (R263; log entry 99). -/
def ownRecords (l : List StnRec) : List StnRec :=
  l.filter (fun x => l.countP (fun y => y.stn == x.stn) == 1 || (x.status != 0 && l.countP (fun y => y.stn == x.stn && y.status != 0) == 1))

/-- Stations that do not report on a ring any more (R278). -/
def State.clearOn (s : State) (r : Nat) (l : List StnRec) : State :=
  s.each ((List.range 255).filter (fun n => s.flag (stnOnFld r n) && !l.any (fun x => x.stn == n))) (fun s n => s.clr (stnOnFld r n))

/-- Λup as the RUN frame of this cc gives it, with the checks that a changed loop has asked for (R255, R264, R271). -/
def State.lamUp (s : State) (r lam : Nat) : State :=
  ((s.putMeas r { s.meas r with sumUp := lam * 16 }).setF (R.ZLP_LOOP_LOOP (2 * r + 1)) lam).rerunTest r

/-- The records of a RUN frame (R257, R263, R264, R278). -/
def State.runRecords (s : State) (r : Nat) (bc : Word) (recs : List StnRec) : State :=
  let fresh := s.ring.seenBc ≠ bc
  let s : State := { s with ring := { s.ring with
    seen := tabSet (fun _ => []) (if fresh then [] else s.ring.seen) r recs
    seenBc := bc
    seenRings := if fresh then [r] else r :: s.ring.seenRings } }
  let own := ownRecords recs
  let s := (s.each own (fun s x => s.putStation r x)).clearOn r own
  let s := s.each (own.filter (fun x => s.ring.set_.contains x.stn)) (fun s x =>
    if (tabGet (fun _ => []) s.ring.seen (1 - r)).any (fun y => y.stn == x.stn && y.status == x.status) then s else s.stationStatus x)
  if s.runRings.all (fun q => s.ring.seenRings.contains q) then s.joinAll else s

/-- RUN_FRAME_RETURN (R257, R262 to R264, R268, R271). A frame that comes too late by a changed loop is discarded, and its stamp is the loop's new delay, as the worked example of
R264 has it (log entry 99). -/
def execRunFrameReturn (port : Fin 6) (fr : RxFrame) (s : State) : Host.Outcome State Fault Refusal :=
  match s.rxFrame port.val fr 10 with
  | (s, none) => .next s
  | (s, some h) =>
    let r := ringOfPort port.val
    let p := payloadOf fr.bytes
    if isX1 port.val || (p.getD 0 0).toNat != 3 then .next s
    else
      match s.frameBase h with
      | none => .next (s.windowViolation none)
      | some base =>
        let t := if hdrWrap h then s else s.lamUp r (fr.sfd - (base + (s.cym (hdrBcn h) (hdrWin h)).start * 8))
        if !s.headInterval port.val h fr then .next (t.windowViolation none)
        else .next (t.runRecords r (t.frameBc h) (parseRecords p))

/-! ## Collisions -/

/-- The twin priority a SYNC payload shows: 0 for a head that is not of a pair (R343). -/
def syncPrio (p : List Byte) : Nat := if (p.getD 18 0).toNat.testBit 0 then (p.getD 19 0).toNat else 0

/-- Does this head lose a collision with a SYNC that is neither its own nor its partner's (R269)? -/
def State.losesTo (s : State) (h : ZlHeader) (p : List Byte) : Bool :=
  let other := (p.getD 18 0).toNat.testBit 0
  let mine := if s.twin then s.f R.TWN_CFG_PRIO else 0
  decide (mine < syncPrio p) || (!s.twin && !other && decide (s.zlpF R.ZLP_CFG_HID < h.hid)) || s.zlpF R.ZLP_CFG_HID == h.hid

/-- The head loses a collision: COLL, the event, and no frame from the next bc (R269). -/
def State.collisionLost (s : State) (hid : Nat) : State :=
  let s := (s.set1 R.ZLP_SSTAT_COLL).raise 0x49 hid 0
  { s with ring := { s.ring with collReq := true } }

/-- Is this pylon one that holds the lease? -/
def State.isHolder (s : State) : Bool := s.twin && (s.f R.TWN_STAT_ROLE == 1 || s.f R.TWN_STAT_ROLE == 5)

/-- Both pylons hold the lease under one epoch: the one of lower priority, or PID 1, is fenced and counts as the loser of R269 (R347). -/
def State.splitLease (s : State) (prio : Nat) : State :=
  if s.isHolder ∧ (s.f R.TWN_CFG_PRIO < prio ∨ (s.f R.TWN_CFG_PRIO = prio ∧ s.pid = 1)) then
    ({ s with twn := { s.twn with fenceReq := some (s.f R.TWN_EPOCH_EPOCH) } } : State).collisionLost (s.zlpF R.ZLP_CFG_HID)
  else s

/-- FOREIGN_SYNC_RECEIVE (R253, R269, R346, R347). -/
def execForeignSyncReceive (port : Fin 6) (fr : RxFrame) (s : State) : Host.Outcome State Fault Refusal :=
  let h := parseHeader fr.bytes
  let t := s.rxCount port.val fr
  let p := payloadOf fr.bytes
  if 4 ≤ port.val ∨ !hcrcOk fr.bytes ∨ 1518 < fr.bytes.length ∨ h.type ≠ 1 ∨ h.src / 256 ≠ t.zlpF R.ZLP_CFG_SPAN ∨ h.dst / 256 ≠ t.zlpF R.ZLP_CFG_SPAN then .next t
  else if t.f R.ZLP_SSTAT_STATE = 1 then
    .next (if t.twin && t.twn.linkUp then t else (t.set1 R.ZLP_SSTAT_HEARD).startRefuse ⟨stState, 13, 0, 0⟩)
  else if !fcsOk fr.bytes ∨ !t.spanRuns then .next t
  else if h.hid = t.zlpF R.ZLP_CFG_HID ∧ t.twin ∧ (p.getD 18 0).toNat.testBit 0 then
    let t := t.epochSeen h
    let x := (p.getD 18 0).toNat
    .next (if h.epoch = t.f R.TWN_EPOCH_EPOCH ∧ x.testBit 0 ∧ x / 2 % 2 ≠ t.pid then t.splitLease (p.getD 19 0).toNat else t)
  else .next (if t.losesTo h p then t.collisionLost h.hid else t)

/-! ## SYNC returns, breaks -/

/-- The ring's flags in `ZLP_RSTAT` (R277). -/
def ringFld (r : Nat) : Fld := if r = 0 then R.ZLP_RSTAT_A else R.ZLP_RSTAT_B

/-- Is a ring shown as broken? -/
def State.isWrap (s : State) (r : Nat) : Bool := (s.f (ringFld r)).testBit 1

/-- The SYNC returns on a broken ring: closed again (R271). -/
def State.ringClosed (s : State) (r lam : Nat) : State :=
  let old := s.f (R.ZLP_LOOP_LOOP (2 * r))
  let x := s.f (ringFld r)
  let s := (s.setF (ringFld r) (x / 4 * 4 + 1)).raise 0x47 r (s.reg R.ZLP_BRK)
  let s : State := { s with ring := { s.ring with
    use := if s.ring.use.contains r then s.ring.use else [0, 1].filter (fun q => q == r || s.ring.use.contains q)
    ret0 := tabSet (fun _ => none) s.ring.ret0 r none
    ret1 := tabSet (fun _ => none) s.ring.ret1 r none } }
  if lam ≤ old + 16 ∧ old ≤ lam + 16 then s
  else
    let s := s.setF (ringFld r) (x / 8 * 8 + 5)
    let s := (s.putMeas r { s.meas r with sumDn := lam * 16 }).setF (R.ZLP_LOOP_LOOP (2 * r)) lam
    let s : State := { s with ring := { s.ring with rerun := s.ring.rerun ++ [r] } }
    s.raise 0x48 r (s.reg R.ZLP_BRK)

/-- The network time offset to the holder as a SYNC of its shows it: the own time at the stamp minus Λdn, less the time the SYNC carries, in 2^-4 ns (R234, R341). -/
def State.holderOffset (s : State) (r sfd : Nat) (p : List Byte) : State :=
  let lam := s.f (R.ZLP_LOOP_LOOP (2 * r))
  let own : Int := (ntFix s.nt : Int) - ((s.clk : Int) - ((sfd : Int) - (lam : Int))) * (s.inc.toNat : Int)
  let t : NetTime := ⟨BitVec.ofNat 48 (natOfBytes (sliceOf p 8 6)), wordOf (natOfBytes (sliceOf p 4 4)), 0⟩
  s.setF R.TWN_TOFF_OFF (ofSigned 32 (clampSigned 32 ((own - (ntFix t : Int)) / 2 ^ 28)))

/-- The partner follows the holder's SYNC: its phase moves by at most 64 clk, and the offset of its network time shows (R341). -/
def State.phaseFollow (s : State) (r sfd base : Nat) (p : List Byte) : State :=
  let role := s.f R.TWN_STAT_ROLE
  if s.twin ∧ (role = 2 ∨ role = 3) ∧ !s.twn.frozen then
    let s := s.holderOffset r sfd p
    let diff : Int := (sfd : Int) - (s.f (R.ZLP_LOOP_LOOP (2 * r)) : Int) - (base : Int)
    let step := max (-64) (min 64 diff)
    s.setF R.TWN_PHASE_PH (ofSigned 16 (s.fSigned R.TWN_PHASE_PH + step))
  else s

/-- SYNC_RETURN: the own SYNC at x1, or wrapped at x0 (R271, R341). -/
def execSyncReturn (port : Fin 6) (fr : RxFrame) (s : State) : Host.Outcome State Fault Refusal :=
  match s.rxFrame port.val fr 1 with
  | (s, none) => .next s
  | (s, some h) =>
    let r := ringOfPort port.val
    match s.frameBase h with
    | none => .next s
    | some base =>
      if h.hid ≠ s.zlpF R.ZLP_CFG_HID then .next s
      else if !isX1 port.val then
        .next (if hdrWrap h then { s with ring := { s.ring with ret0 := tabSet (fun _ => none) s.ring.ret0 r (some (fr.sfd - base)) } } else s)
      else if hdrWrap h then .next s
      else
        let s : State := { s with ring := { s.ring with
          syncBc := tabSet (fun _ => none) s.ring.syncBc r (some (s.frameBc h))
          syncMiss := tabSet (fun _ => 0) s.ring.syncMiss r 0 } }
        let s := s.phaseFollow r fr.sfd base (payloadOf fr.bytes)
        .next (if s.isWrap r then s.ringClosed r (fr.sfd - base) else s)

/-- Positions of the set's stations on a ring that pass a test on d in fifths of a clk. -/
def State.highestPos (s : State) (r : Nat) (p : Nat → Bool) : Nat :=
  maxOf ((s.ring.set_.filter (fun n => p (s.f (stnDFld r n)))).map (fun n => s.f (stnPosFld r n)))

/-- A ring is broken between two positions (R271). -/
def State.ringBreak (s : State) (r x0 x1 : Nat) : State :=
  let s := s.setF (ringFld r) (s.f (ringFld r) / 4 * 4 + 2)
  let s := (s.setF (if r = 0 then R.ZLP_BRK_A_X0 else R.ZLP_BRK_B_X0) x0).setF (if r = 0 then R.ZLP_BRK_A_X1 else R.ZLP_BRK_B_X1) x1
  (s.incSat R.ZLP_BRK_CNT_COUNT 1).raise 0x46 r (s.reg R.ZLP_BRK)

/-- RING_BREAK_DETECT: two consecutive bc without the SYNC return (R271). The places follow from the wrapped returns; without one, position 0 is shown (log entry 99). -/
def execRingBreakDetect (ring : Fin 2) (s : State) : Host.Outcome State Fault Refusal :=
  let r := ring.val
  if s.ringSends ∧ s.ring.use.contains r ∧ !s.isWrap r ∧ 2 ≤ tabGet (fun _ => 0) s.ring.syncMiss r then
    let lam := s.f (R.ZLP_LOOP_LOOP (2 * r + 1)) * 5
    let before := match tabGet (fun _ => none) s.ring.ret0 r with
      | some r0 => s.highestPos r (fun d => decide (2 * d ≤ r0 * 5))
      | none => 0
    let after := match tabGet (fun _ => none) s.ring.ret1 r with
      | some r1 => s.highestPos r (fun d => decide (r1 * 5 + 2 * d ≤ 2 * lam))
      | none => 0
    .next (s.ringBreak r before after)
  else .next s

/-! ## Ports -/

/-- LINK of a port follows EN, synchronisation, signal, and the lock of its PLL (R220, R430). Its loss at the head's own port of a running ring is a break at position 0 or n + 1 (R271). -/
def State.linkSet (s : State) (p : Nat) (sync : Bool) : State :=
  let on := s.flag (R.ZLP_P_CFG_EN p) && sync && !s.flag (R.ZLP_P_STAT_LOS p) && s.pllLocked (if p < 4 then 2 else 3)
  let was := s.flag (R.ZLP_P_STAT_LINK p)
  let s := s.setB (R.ZLP_P_STAT_LINK p) on
  let r := ringOfPort p
  let mine := if isX1 p then s.hasX1 r else s.hasX0 r
  if was && !on && decide (p < 4) && s.ringSends && mine && s.ring.use.contains r && !s.isWrap r then
    let n := s.highestPos r (fun _ => true)
    if isX1 p then s.ringBreak r n (n + 1) else s.ringBreak r 0 1
  else s

/-- PORT_LINK_CHANGE: what the port sees of its link and module, and the code and disparity errors since (R220, R249). Without a module the module's inputs are ignored
(R443). -/
def execPortLinkChange (port : Fin 6) (sync los modabs txfault : Bool) (codeErrs : Nat) (s : State) : Host.Outcome State Fault Refusal :=
  let p := port.val
  let s : State := { s with ring := { s.ring with pins := tabSet (fun _ => 0) s.ring.pins p (if sync then 1 else 0) } }
  let m := s.flag (R.ZLP_P_CFG_SFP p)
  let s := ((s.setB (R.ZLP_P_STAT_LOS p) (m && los)).setB (R.ZLP_P_STAT_MODABS p) (m && modabs)).setB (R.ZLP_P_STAT_TXFAULT p) (m && txfault)
  .next ((s.incSat (R.ZLP_P_CODECNT_COUNT p) codeErrs).linkSet p sync)

/-- EXPANSION_JOINT_ERROR: the frame in transit is dropped (R20). -/
def execExpansionJointError (port : Fin 6) (s : State) : Host.Outcome State Fault Refusal :=
  .next (((s.set1 (R.ZLP_P_STAT_EJ_ERR port.val)).incSat (R.ZLP_P_EJCNT_COUNT port.val) 1).portError port.val)

/-- SFP_TRANSFER: a write of `ZLP_Pp_SFP_CTL` (R221). -/
def execSfpTransfer (port : Fin 6) (val : Word) (s : State) : Host.Outcome State Fault Refusal :=
  .next (s.bar0Write (R.ZLP_P_SFP_CTL port.val) (fun s => s.plainWrite (R.ZLP_P_SFP_CTL port.val) val))

/-- SFP_TRANSFER_END: the byte read, or ERR with DATA unchanged (R221). -/
def execSfpTransferEnd (port : Fin 6) (ack : Bool) (data : Byte) (s : State) : Host.Outcome State Fault Refusal :=
  let p := port.val
  if s.flag (R.ZLP_P_SFP_CTL_GO p) then
    let s := (s.clr (R.ZLP_P_SFP_CTL_GO p)).setB (R.ZLP_P_SFP_CTL_ERR p) (!ack)
    .next (if ack && !s.flag (R.ZLP_P_SFP_CTL_WR p) then s.setF (R.ZLP_P_SFP_CTL_DATA p) data.toNat else s)
  else .next s

/-- DDM_READ: every 100 ms (R221). -/
def execDdmRead (port : Fin 6) (temp rx : BitVec 16) (s : State) : Host.Outcome State Fault Refusal :=
  let p := port.val
  if s.flag (R.ZLP_P_CFG_DDM_EN p) ∧ tabGet (fun _ => 0) s.ring.ddmAt p + 80000000 ≤ s.clk then
    let s : State := { s with ring := { s.ring with ddmAt := tabSet (fun _ => 0) s.ring.ddmAt p s.clk } }
    .next ((s.setF (R.ZLP_P_DDM_TEMP p) temp.toNat).setF (R.ZLP_P_DDM_RXPWR p) rx.toNat)
  else .next s

/-! ## Registers -/

/-- The downstream window being sent on x0 now (R250). -/
def State.presentWindow (s : State) : Nat :=
  if !s.ringSends then 0
  else match (s.windowsOf s.bcn).find? (fun e => e.dir == 0 && (s.spansOf e).any (fun x => decide (x.1 ≤ s.sinceT0) && decide (s.sinceT0 < x.2))) with
    | some e => e.w
    | none => 0

/-- ZLP and CYM registers whose value follows from the unit's state. -/
def zlpRead (s : State) (a : Nat) : Option Word :=
  if a = R.ZLP_STAT then some (setBits (s.reg a) 0 1 (if s.spanRuns then 1 else 0))
  else if a = R.CYM_STAT then some (setBits (s.reg a) 1 1 (if s.f R.ZLP_SSTAT_STATE = 0 then 0 else 1))
  else if a = R.CYM_POS then some (wordOf (s.bcn * 256 + s.presentWindow))
  else if a / 16 * 16 = R.ZLP_STN_STAT 0 ∨ a / 16 * 16 = R.ZLP_STN_STAT 255 then some 0
  else none

/-- ZLP and CYM registers with a rule of their own for a write (R220, R240, R248). -/
def zlpRegWrite (s : State) (a : Nat) (v : Word) : Option State :=
  if a = R.ZLP_CFG then some (s.plainWrite a v).idleRate
  else if a = R.ZLP_GUARD then some (s.setF R.ZLP_GUARD_GUARD (max 80 (min 1024 (v.toNat % 2048))))
  else if 0x190000 ≤ a ∧ a < 0x1A0000 then
    some (if s.f R.ZLP_SSTAT_STATE = 0 then s.plainWrite a v else s.set1 R.CYM_STAT_WR_IGN)
  else match (List.range 6).find? (fun p => a == R.ZLP_P_CFG p) with
    | some p => some ((s.plainWrite a v).linkSet p (tabGet (fun _ => 0) s.ring.pins p == 1))
    | none => none

end Sys2Proof.Machine
end

