-- ==== Sys2Proof/Machine/Trunk.lean ====
section
/-! DEFINITION. The trunk between heads (R225, R273 to R275): measurement, time frames and segment frames. Port T0 (4) serves as x0 and T1 (5) as x1, so the downstream rotation
leaves a head at T0 and reaches the next at T1 (R219, R273; log entry 58). -/

namespace Sys2Proof.Machine

/-- The trunk runs. -/
def State.trunkOn (s : State) : Bool := s.flag R.ZLP_TCFG_EN

/-- The trunk's state after a change of it. -/
def State.putTrunk (s : State) (t : Trunk) : State := { s with ring := { s.ring with trunk := t } }

/-- Send frames on trunk ports. -/
def State.trunkTx (s : State) (l : List (Nat × List Byte)) : State := { s with ring := { s.ring with lastTx := s.ring.lastTx ++ l } }

/-- The trunk starts, or stops, with a write of `ZLP_TCFG` (R273). -/
def State.trunkWrite (s : State) (v : Word) : State :=
  let was := s.trunkOn
  let s := s.plainWrite R.ZLP_TCFG v
  if s.trunkOn == was then s
  else ((s.putTrunk ⟨none, RingMeas.none_, none, false, none, 0, none, none, s.clk⟩).clr R.ZLP_TSTAT_TRUN).clr R.ZLP_TSTAT_TLOST

/-- TRUNK_START (R273). -/
def execTrunkStart (val : Word) (s : State) : Host.Outcome State Fault Refusal :=
  .next (s.bar0Write R.ZLP_TCFG (fun s => s.trunkWrite val))

/-! ## Measurement -/

/-- The master sends a MEASURE round on both ports on the same clk (R255, R273). -/
def State.trunkRound (s : State) : State :=
  let m := s.ring.trunk.meas
  let fr := s.delayFrame 0 (s.ownAddr + 255) (s.delayPayload 0 m.round 0 0 [] 0)
  (s.putTrunk { s.ring.trunk with meas := { m with sentAt := s.clk, dn := none, up := none } }).trunkTx [(4, fr), (5, fr)]

/-- TRUNK_MEASURE: every 128 ms (R273). -/
def execTrunkMeasure (s : State) : Host.Outcome State Fault Refusal :=
  let t := s.ring.trunk
  let due : Bool := match t.measAt with
    | none => true
    | some c => decide (c + 102400000 ≤ s.clk)
  if s.trunkOn ∧ s.flag R.ZLP_TCFG_TMASTER ∧ due then
    let s := s.putTrunk { t with measAt := some s.clk, meas := RingMeas.none_, repAt := none, dup := s.flag R.ZLP_TSTAT_DUP }
    .next ({ s with ring := { s.ring with lastTx := [] } } : State).trunkRound
  else .next s

/-- A second master's DELAY frame is seen (R273). -/
def State.trunkDup (s : State) : State :=
  let s := s.putTrunk { s.ring.trunk with dup := true }
  if s.flag R.ZLP_TSTAT_DUP then s else (s.set1 R.ZLP_TSTAT_DUP).raise 0x4A 1 0

/-- The master sends the REPORT frame from x1 (R253, R257). -/
def State.trunkReport (s : State) : State :=
  let t := s.ring.trunk
  let fr := s.delayFrame 0 (s.ownAddr + 255) (s.delayPayload 1 0 0 (t.meas.sumUp * 5 / 4) [] reportRoom)
  (s.putTrunk { t with repAt := some s.clk, lup := t.meas.sumUp * 5 / 4 }).trunkTx [(5, fr)]

/-- An own MEASURE frame returns (R255). -/
def State.trunkMeasureReturn (s : State) (port round : Nat) (sfd : Nat) : State :=
  let t := s.ring.trunk
  let m := t.meas
  let up := port == 4
  if t.dup ∨ 16 ≤ m.round ∨ round ≠ m.round ∨ (if up then m.up.isSome else m.dn.isSome) ∨ sfd < m.sentAt then s
  else
    let d := sfd - m.sentAt
    let m := if up then { m with up := some d } else { m with dn := some d }
    match m.dn, m.up with
    | some a, some b =>
      let m := { m with round := m.round + 1, sumDn := m.sumDn + a, sumUp := m.sumUp + b, dn := none, up := none }
      let s := s.putTrunk { t with meas := m }
      if m.round < 16 then s.trunkRound else s.trunkReport
    | _, _ => s.putTrunk { t with meas := m }

/-- The own REPORT frame returns at x0: the heads found (R257, R273). -/
def State.trunkReportReturn (s : State) (port : Nat) (p : List Byte) : State :=
  let t := s.ring.trunk
  if t.dup ∨ port ≠ 4 ∨ t.repAt.isNone then s
  else
    let s := s.putTrunk { t with repAt := none, d := some 0 }
    (s.setF R.ZLP_TSTAT_NHEADS (natBe (sliceOf p 2 2))).set1 R.ZLP_TSTAT_TRUN

/-- The greatest forwarding delay of a head, 160 ns, in 2^-4 ns (R273). -/
def fwdMax : Nat := 2560

/-- The mean of b - a over the rounds stamped, in 2^-4 ns (R255). -/
def trunkDelta (m : RingMeas) : Int := ((m.sumUp : Int) - (m.sumDn : Int)) * 20 / (max 1 m.round : Nat)

/-- Another head's MEASURE frame passes: this head stamps it as a station does (R255). -/
def State.trunkStamp (s : State) (port round sfd : Nat) : State :=
  let t := s.ring.trunk
  let m := if round = 0 ∧ t.meas.round ≠ 0 then RingMeas.none_ else t.meas
  let m := if port = 5 then { m with dn := some sfd } else { m with up := some sfd }
  let m := match m.dn, m.up with
    | some a, some b => { m with round := round + 1, sumDn := m.sumDn + a, sumUp := m.sumUp + b, dn := none, up := none }
    | _, _ => m
  s.putTrunk { t with meas := m }

/-- Another head's REPORT frame passes: the own delay is known, and the own record is written if one is free (R257). The forwarding delay is a free value up to
160 ns. -/
def State.trunkRecord (s : State) (p : List Byte) : State × List Byte :=
  let t := s.ring.trunk
  let lup := natBe (sliceOf p 8 4)
  let f := s.freeNow.toNat % (fwdMax + 1)
  let d := (((lup : Int) - (f : Int) - trunkDelta t.meas) / 2).toNat
  let hops := natBe (sliceOf p 2 2)
  let at_ := 16 + natBe (sliceOf p 14 2) + 5 * hops
  let q := if at_ + 5 ≤ p.length then
      p.take 2 ++ be16 (hops + 1) ++ sliceOf p 4 (at_ - 4) ++ [BitVec.ofNat 8 (s.zlpF R.ZLP_CFG_SPAN), 3] ++ (be32 (d / 4)).drop 1 ++ p.drop (at_ + 5)
    else p
  let s := s.drewFree
  if t.dup then (s, q) else ((s.putTrunk { t with lup := lup, d := some d }).set1 R.ZLP_TSTAT_TRUN, q)

/-- The port a trunk frame leaves by. -/
def trunkOther (port : Nat) : Nat := if port = 4 then 5 else 4

/-- A head that is no master takes the part of a station; a DELAY frame of a second master within 128 ms is a duplicate (R273). -/
def State.trunkAsStation (s : State) (port : Nat) (fr : RxFrame) (h : ZlHeader) : State :=
  let t := s.ring.trunk
  let p := payloadOf fr.bytes
  let me := some (h.src, h.hid)
  let recent : Bool := match t.measAt with
    | some c => decide (s.clk < c + 102400000)
    | none => false
  let phase := (p.getD 0 0).toNat
  if t.master.isSome && t.master != me && recent then s.trunkDup.trunkTx [(trunkOther port, fr.bytes)]
  else
    let fresh := phase == 0 && (p.getD 1 0).toNat == 0
    let s := s.putTrunk { t with master := me, measAt := some s.clk, dup := if fresh then s.flag R.ZLP_TSTAT_DUP else t.dup }
    if phase = 0 then (s.trunkStamp port (p.getD 1 0).toNat fr.sfd).trunkTx [(trunkOther port, fr.bytes)]
    else if phase = 1 then
      let x := s.trunkRecord p
      x.1.trunkTx [(trunkOther port, frameBytes h x.2)]
    else s.trunkTx [(trunkOther port, fr.bytes)]

/-- TRUNK_DELAY_FRAME_RECEIVE (R255 to R257, R273). -/
def execTrunkDelayFrameReceive (port : Fin 6) (fr : RxFrame) (s : State) : Host.Outcome State Fault Refusal :=
  let t := s.rxCount port.val fr
  let h := parseHeader fr.bytes
  if port.val < 4 then .next s
  else if frameCheck fr.bytes ≠ .good ∨ h.type ≠ 10 ∨ !t.trunkOn then .next t
  else
    let t : State := { (t.epochSeen h) with ring := { (t.epochSeen h).ring with lastTx := [] } }
    let p := payloadOf fr.bytes
    if h.src = t.ownAddr ∧ h.hid = t.zlpF R.ZLP_CFG_HID then
      .next (if (p.getD 0 0).toNat = 0 then t.trunkMeasureReturn port.val (p.getD 1 0).toNat fr.sfd
        else if (p.getD 0 0).toNat = 1 then t.trunkReportReturn port.val p else t)
    else if t.flag R.ZLP_TCFG_TMASTER then .next (t.trunkDup.trunkTx [(trunkOther port.val, fr.bytes)])
    else .next (t.trunkAsStation port.val fr h)

/-! ## Trunk frames -/

/-- The 48 bytes of a TRUNK frame (R274). -/
def trunkPayload (kind span : Nat) (bc : Word) (t : NetTime) (g : Segment) : List Byte :=
  bytesOf 1 kind ++ bytesOf 1 span ++ [0, 0] ++ bytesOf 4 bc.toNat ++ bytesOf 4 t.ns.toNat ++ bytesOf 6 t.sec.toNat ++ [0, 0] ++
    bytesOf 8 (chn64 g.s).toNat ++ bytesOf 8 g.v.toNat ++ List.replicate 12 0

/-- Send a TRUNK frame on T0 and on T1. -/
def State.trunkSend (s : State) (payload : List Byte) : State :=
  let fr := frameBytes (s.headHeader 11 0 0 0 48) payload
  s.trunkTx [(4, fr), (5, fr)]

/-- The time master's frame of a t0 (R274). -/
def State.trunkTime (s : State) : State :=
  s.when (s.trunkOn && s.flag R.ZLP_TCFG_TMASTER) (fun s => s.trunkSend (trunkPayload 0 (s.zlpF R.ZLP_CFG_SPAN) s.cyc.bcIdx s.nt ⟨0, 0⟩))

/-- The chainage owner's frame of a plan instant: the segment of the next bc and the time it starts (R39, R274). -/
def State.trunkSegment (s : State) (g : Segment) : State :=
  s.when (s.trunkOn && s.flag R.ZLP_TCFG_CSRC) (fun s =>
    let start := ntOfFix ((bcCount s.cyc.rate s.nt + 1) * bcNs s.cyc.rate * 2 ^ 32)
    s.trunkSend (trunkPayload 1 (s.zlpF R.ZLP_CFG_SPAN) s.cyc.bcIdx start g))

/-- The network time of a received TRUNK frame. -/
def trunkNt (p : List Byte) : NetTime := ⟨BitVec.ofNat 48 (natOfBytes (sliceOf p 12 6)), wordOf (natOfBytes (sliceOf p 8 4)), 0⟩

/-- A time frame: the stamp minus the delay on its rotation minus the departure time, in 2^-4 ns (R274). A head that has measured no delay shows a free value. -/
def State.trunkOffset (s : State) (port : Nat) (p : List Byte) (sfd : Nat) : State :=
  let t := s.ring.trunk
  match t.d with
  | none => (s.putReg R.ZLP_TOFF s.freeNow).drewFree
  | some d =>
    let stamp : Int := ((ntFix s.nt : Int) - ((s.clk - sfd) * s.inc.toNat : Nat)) / 2 ^ 28
    let delay : Int := if port = 5 then (d : Int) else (d : Int) + trunkDelta t.meas
    let off := stamp - delay - ((ntFix (trunkNt p) : Int) / 2 ^ 28)
    s.putReg R.ZLP_TOFF (wordOf (ofSigned 32 off))

/-- A segment frame: the sample of source 3 for the bc that starts at its time (R43, R45). `ZLP_TDLV` counts from the owner's plan instant, at clk `sent` of this head (R274; log
entry 100). -/
def State.trunkSample (s : State) (p : List Byte) (sent : Nat) : State :=
  let bc := bcIndexOf s.cyc.rate (trunkNt p)
  let g : Segment := ⟨chn96 (BitVec.ofNat 64 (natOfBytes (sliceOf p 20 8))), BitVec.ofNat 64 (natOfBytes (sliceOf p 28 8))⟩
  if s.chn.trunkKept.any (fun x => x.1 == bc) then s
  else
    let s : State := { s with chn := { s.chn with trunkKept := ((bc, g) :: s.chn.trunkKept).take 2 } }
    s.setF R.ZLP_TDLV_DLV (min (2 ^ 18 - 1) (s.clk - sent))

/-- A valid time frame ends a loss (R275). -/
def State.trunkAlive (s : State) (bc : Word) : State :=
  (s.putTrunk { s.ring.trunk with timeAt := s.clk, timeBc := some bc }).clr R.ZLP_TSTAT_TLOST

/-- TRUNK_FRAME_RECEIVE: the first valid copy is used; a frame of another head is forwarded (R273, R274). -/
def execTrunkFrameReceive (port : Fin 6) (fr : TrunkRx) (s : State) : Host.Outcome State Fault Refusal :=
  let t := s.rxCount port.val fr.frame
  let h := parseHeader fr.frame.bytes
  if port.val < 4 then .next s
  else if frameCheck fr.frame.bytes ≠ .good ∨ h.type ≠ 11 ∨ h.len ≠ 48 ∨ !t.trunkOn then .next t
  else
    let p := payloadOf fr.frame.bytes
    let kind := (p.getD 0 0).toNat
    let bc := wordOf (natOfBytes (sliceOf p 4 4))
    let own := h.src == t.ownAddr && h.hid == t.zlpF R.ZLP_CFG_HID
    let t := t.epochSeen h
    let t : State := { t with ring := { t.ring with lastTx := if own then [] else [(trunkOther port.val, fr.frame.bytes)] } }
    if kind = 0 then
      let first := t.ring.trunk.timeBc != some bc
      let t := t.when (first && !own) (fun t => t.trunkOffset port.val p fr.frame.sfd)
      .next (t.trunkAlive bc)
    else if kind = 1 ∧ !own then .next (t.trunkSample p fr.sent)
    else .next t

/-- TRUNK_LOST: no valid time frame for 8 bc (R275). -/
def execTrunkLost (s : State) : Host.Outcome State Fault Refusal :=
  if s.trunkOn ∧ !s.flag R.ZLP_TSTAT_TLOST ∧ s.ring.trunk.timeAt + 8 * s.nBc ≤ s.clk then
    .next ((s.set1 R.ZLP_TSTAT_TLOST).raise 0x4A 0 0)
  else .next s

/-- Trunk registers with a rule of their own for a write. -/
def trunkRegWrite (s : State) (a : Nat) (v : Word) : Option State :=
  if a = R.ZLP_TCFG then some (s.trunkWrite v) else none

end Sys2Proof.Machine
end

