-- ==== Sys2Proof/Machine/Twn.lean ====
section
/-! DEFINITION. Twin heads (R337 to R359): heartbeats and the lease, takeover and fencing, pairing and joining, the configuration digest, the comparison of copies, and the
TWN registers. -/

namespace Sys2Proof.Machine

/-- Change the twin logic. -/
def State.putTwn (s : State) (t : Twin) : State := { s with twn := t }

/-- `TWN_STAT.ROLE`. -/
def State.role (s : State) : Nat := s.f R.TWN_STAT_ROLE

/-- Can this pylon take the lease: a partner whose copies are enabled, its span running (READY of its heartbeat; log entry 68)? -/
def State.twinReady (s : State) : Bool := s.role == 2 && s.flag R.TWN_STAT_PSEND && s.spanRuns

/-! ## Sending on the PAIR link -/

/-- The heartbeat that carries segment k + 1 (R341, R346, R358). -/
def State.heartbeat (s : State) (g : Segment) : List Byte :=
  let holder := s.isHolder && s.twn.oldLease.isNone
  let flags := s.pid + (if holder then 2 else 0) + (if s.twinReady then 4 else 0) + if s.role = 4 then 8 else 0
  pairFrame (bytesOf 1 1 ++ bytesOf 1 flags ++ bytesOf 2 s.sentEpoch ++ bytesOf 4 s.cyc.bcIdx.toNat ++ bytesOf 2 (s.f R.TWN_EPOCH_LEXP) ++
    bytesOf 1 (s.f R.TWN_CFG_PRIO) ++ bytesOf 1 s.role ++ bytesOf 8 (chn64 g.s).toNat ++ bytesOf 8 g.v.toNat ++ bytesOf 4 (s.reg R.TWN_DIGEST).toNat)

/-- A timing mark (R354, R358). -/
def State.timingMark (s : State) : List Byte :=
  pairFrame (bytesOf 4 5 ++ bytesOf 4 s.nt.ns.toNat ++ bytesOf 4 s.nt.frac.toNat)

/-- What a pylon sends on the PAIR link at its plan instant (R355, R358): its heartbeat; a holder before the first SYNC or with a joining partner adds a timing mark
(log entry 69), and the dynamic part of a joining partner's next axis where that axis runs no task. -/
def State.pairPlan (s : State) (g : Segment) : State :=
  if s.twin ∧ s.twn.linkUp then
    let s := (s.putTwn { s.twn with pairTx := [] }).pairSend (s.heartbeat g)
    if s.isHolder then
      let s := s.when (!s.ring.live || s.twn.joinBc.isSome) (fun s => s.pairSend s.timingMark)
      match s.twn.stream.head? with
      | some a => if s.axisState a ≤ 1 then s.streamAxis a else s
      | none => s
    else s
  else s

/-! ## Heartbeats -/

/-- A heartbeat of the PAIR link, if the frame is one (R358). -/
def parseHb (bs : List Byte) : Option PairHb :=
  if bs.length = 36 ∧ pairField bs 0 1 = 1 then
    let f := pairField bs 1 1
    some { pid := f % 2, holder := f.testBit 1, ready := f.testBit 2, fenced := f.testBit 3, epoch := pairField bs 2 2, bc := wordOf (pairField bs 4 4)
           lexp := pairField bs 8 2, prio := pairField bs 10 1, role := pairField bs 11 1
           seg := ⟨chn96 (BitVec.ofNat 64 (pairField bs 12 8)), BitVec.ofNat 64 (pairField bs 20 8)⟩, digest := wordOf (pairField bs 28 4) }
  else none

/-- A PAIR frame with a bad CRC is discarded and counted (R358). -/
def State.pairBad (s : State) : State := s.incSat R.TWN_PAIR_ERR_COUNT 1

/-- Give `g` a PAIR frame that arrives on a link that is up with a correct CRC (R357, R358). -/
def State.pairRx (s : State) (bs : List Byte) (g : State → State) : State :=
  if s.twin ∧ s.twn.linkUp then (if pairCrcOk bs then g s else s.pairBad) else s

/-- Compare the two latest digests (R342). -/
def State.digestCompare (s : State) : State :=
  match s.twn.hb with
  | none => s
  | some h =>
    if s.twn.digestAt = 0 then s
    else
      let diff := h.digest != s.reg R.TWN_DIGEST
      (s.putTwn { s.twn with digDiff := diff }).when diff (fun s => (s.set1 R.TWN_STAT_DIG_BAD).raise 0x73 0 0)

/-- A holder's heartbeat from bc `j` is accepted (R344). -/
def State.leaseHeard (s : State) (j : Word) : State :=
  match s.twn.hbBc with
  | some i => if 0 < (j - i).toInt then s.putTwn { s.twn with hbBc := some j } else s
  | none => s.putTwn { s.twn with hbBc := some j }

/-- A wait of a kind, with the bit of `TWN_CTL` that shows it. -/
def isPairWait : WaitKind → Bool
  | .pair => true
  | _ => false
def isYieldWait : WaitKind → Bool
  | .yield => true
  | _ => false
def isJoinWait : WaitKind → Bool
  | .join => true
  | _ => false

/-- Pairing fails with an item (R354). -/
def State.pairFail (s : State) (join : Bool) (item : Nat) : State :=
  let s := ((s.putTwn { s.twn with pairAt := none }).setF R.TWN_STAT_PCODE item).set1 R.TWN_STAT_PAIR_BAD
  let s := s.clr (if join then R.TWN_CTL_JOIN else R.TWN_CTL_PAIR)
  s.endWaits (if join then isJoinWait else isPairWait) 16 stState noWord []

/-- The new pylon takes up the running span (R355 step 3): the holder's epoch, ROLE 3, the bc rate, and the rings; its stations come with the holder's RUN frames
(log entry 70). -/
def State.joinStart (s : State) (h : PairHb) : State :=
  let s := ((s.setF R.TWN_EPOCH_EPOCH h.epoch).setF R.TWN_STAT_ROLE 3).clr R.TWN_STAT_PSEND
  let s := (s.putReg R.TWN_JOIN 0).setF R.ZLP_SSTAT_STATE 4
  let s := s.takeCfg
  let s : State := { s with ring := { s.ring with live := true, activeBc := some s.cyc.bcIdx, use := [0, 1], haltAt := none, collReq := false } }
  s.putTwn { s.twn with paired := true, fenceReq := none, frozen := false, hbBc := none, seg := none, states := [], install := [], joinEnd := if s.ringAxes = [] then some s.clk else none }

/-- The digests decide a pairing or a join under way, once a pass of its own and a heartbeat after it have come (R342, R354; log entry 71). -/
def State.pairDecide (s : State) (h : PairHb) : State :=
  match s.twn.pairAt with
  | none => s
  | some (c, join) =>
    if s.twn.digestAt ≤ c then s
    else if h.digest ≠ s.reg R.TWN_DIGEST then s.pairFail join 5
    else
      let s := (s.putTwn { s.twn with pairAt := none }).setF R.TWN_STAT_PCODE 0
      if join then s.joinStart h
      else ((s.putTwn { s.twn with paired := true }).clr R.TWN_CTL_PAIR).endWaits isPairWait 16 stOk 0 []

/-- After the last axis, one digest pass decides a join (R355 step 6). -/
def State.joinDecide (s : State) (h : PairHb) : State :=
  match s.twn.joinEnd with
  | none => s
  | some c =>
    if s.role ≠ 3 ∨ s.twn.digestAt ≤ c then s
    else
      let s := (s.putTwn { s.twn with joinEnd := none }).clr R.TWN_CTL_JOIN
      if h.digest = s.reg R.TWN_DIGEST then
        (((s.set1 R.TWN_STAT_PSEND).setF R.TWN_STAT_ROLE 2).set1 R.TWN_JOIN_DONE).endWaits isJoinWait 16 stOk 0 []
      else (s.set1 R.TWN_STAT_DIG_BAD).endWaits isJoinWait 16 stState noWord []

/-- What a holder reads from its partner's heartbeat (R355): a joining partner, or one whose copies are enabled again. -/
def State.partnerRole (s : State) (h : PairHb) : State :=
  if !s.isHolder then s
  else if h.role = 3 then (if s.twn.joinBc.isNone then s.putTwn { s.twn with joinBc := some s.cyc.bcIdx } else s)
  else if h.role = 2 then
    let s := s.putTwn { s.twn with joinBc := none, streaming := false, stream := [] }
    s.when (s.role == 5) (fun s => (s.setF R.TWN_STAT_ROLE 1).set1 R.TWN_STAT_PSEND)
  else s

/-- A partner or joining pylon takes what its holder announces (R341, R343 to R345). -/
def State.holderHeard (s : State) (h : PairHb) : State :=
  let s := s.leaseHeard h.bc
  let lease := bytesOf 1 (1 + 2 * h.pid + if h.role = 1 then 4 else 0) ++ bytesOf 1 h.prio ++ be16 h.lexp ++ [0, 0]
  let s := (s.setF R.TWN_EPOCH_LEXP h.lexp).setF R.TWN_PDLV_DLV (min 65535 (s.clk - s.planClk))
  let yielded := decide ((BitVec.ofNat 16 h.lexp - BitVec.ofNat 16 h.bc.toNat).toInt ≤ 0)
  s.putTwn { s.twn with lease := lease, seg := some (h.bc + 1, h.seg), takeReq := s.twn.takeReq || (yielded && s.role == 2) }

/-- A heartbeat of the PAIR link arrives (R341 to R347, R354, R355). -/
def State.pairHeard (s : State) (h : PairHb) (info : PartnerInfo) : State :=
  let newDigest := s.reg R.TWN_PDIGEST != h.digest || s.twn.hb.isNone
  let s := ((s.setF R.TWN_PARTNER_PRIO h.prio).setF R.TWN_PARTNER_ROLE h.role).setB R.TWN_PARTNER_READY h.ready
  let s := (s.putReg R.TWN_PDIGEST h.digest).set1 R.TWN_STAT_PAIR_UP
  let s := s.putTwn { s.twn with hb := some h, info := some info, pairBc := some s.cyc.bcIdx }
  let s := s.when newDigest (fun s => s.digestCompare)
  let s : State := s.when (s.role == 2 && info.named.isSome) (fun s => { s with ring := { s.ring with stepAt := info.named } })
  let own := s.f R.TWN_EPOCH_EPOCH
  let s := s.when (s.role != 0 && s.role != 4 && epochNewer h.epoch own) (fun s => s.putTwn { s.twn with fenceReq := some h.epoch })
  let s := s.when (h.holder && h.epoch == own) (fun s => s.splitLease h.prio)
  let s := s.when (h.holder && h.epoch == own && (s.role == 2 || s.role == 3)) (fun s => s.holderHeard h)
  ((s.partnerRole h).pairDecide h).joinDecide h

/-- Is a frame the heartbeat of ring B: the other pylon's SYNC at this pylon's x1, or its VACANT or upstream SAFE frame at x0 (R344)? -/
def State.isRingHb (s : State) (port : Nat) (h : ZlHeader) : Bool :=
  !hdrWrap h && h.src == s.ownAddr && h.dst / 256 == s.zlpF R.ZLP_CFG_SPAN && h.hid == s.zlpF R.ZLP_CFG_HID && h.epoch == s.f R.TWN_EPOCH_EPOCH &&
    ((s.pid == 0 && port == 3 && h.type == 1) || (s.pid == 1 && port == 2 && (h.type == 7 || h.type == 6)))

/-- A frame of ring B arrives (R344, R346). A holder takes it as a sign of its partner (R352; log entry 72). -/
def State.ringHeard (s : State) (port : Nat) (fr : RxFrame) : State :=
  let h := parseHeader fr.bytes
  if !hcrcOk fr.bytes ∨ !fcsOk fr.bytes then s
  else
    let s := s.epochSeen h
    if s.isRingHb port h then
      let bc := s.frameBc h
      let s := (s.putTwn { s.twn with ringBc := some s.cyc.bcIdx }).set1 R.TWN_STAT_RB_UP
      s.when (s.role == 2 || s.role == 3) (fun s => s.leaseHeard bc)
    else s

/-- PAIR_HEARTBEAT_RECEIVE (R344). -/
def execPairHeartbeatReceive (hb : Heartbeat) (s : State) : Host.Outcome State Fault Refusal :=
  match hb with
  | .pair bs info => .next (s.pairRx bs (fun s => match parseHb bs with
      | some h => s.pairHeard h info
      | none => s))
  | .ring port fr => .next (if s.twin then s.ringHeard port.val fr else s)

/-! ## The lease -/

/-- Mirrored packets received whose effect bc is still to come become this pylon's own (R353): each has a completion entry; its queue is not named by the mirror frame, so
SQ of the completion is a free value (log entry 73). -/
def State.adoptMirror (s : State) (m : Mirror) : State × Mirror :=
  match m.tag with
  | some _ => (s, m)
  | none =>
    let w0 := (m.entry.getD 0 0).toNat
    let t : PktTag := ⟨m.entry.getD 1 0, w0 % 256, s.freeNow.toNat % 4, w0.testBit 9, s.clk, s.hif.gen⟩
    (s.drewFree.cqReserve, { m with tag := some t, acked := true })

/-- Adopt a list of mirrored packets. -/
def State.adoptMirrors (s : State) : List Mirror → State × List Mirror
  | [] => (s, [])
  | m :: ms =>
    let a := s.adoptMirror m
    let b := a.1.adoptMirrors ms
    (b.1, a.2 :: b.2)

/-- The partner takes the lease (R345, R353). Its new epoch, HPID and lease show in its frames from the next bc. -/
def State.twnTake (s : State) : State :=
  let old := (s.sentEpoch, s.leaseBytes)
  let e := (s.f R.TWN_EPOCH_EPOCH + 1) % 65536
  let up := s.flag R.TWN_STAT_PAIR_UP || s.flag R.TWN_STAT_RB_UP
  let s := ((s.setF R.TWN_EPOCH_EPOCH e).setF R.TWN_STAT_ROLE (if up then 1 else 5)).clr R.TWN_STAT_PSEND
  let s := (s.incSat R.TWN_TAKE_CNT_COUNT 1).raise 0x70 e 0
  let a := s.adoptMirrors (s.twn.mirrors.filter (fun m => decide (0 ≤ (m.bc - s.cyc.bcIdx).toInt)))
  a.1.putTwn { a.1.twn with mirrors := a.2, oldLease := some old, relSwitch := true, frozen := true, takeReq := false, hbBc := none, seg := none }

/-- Has the lease deadline, t0 of bc j + 8, passed (R344)? -/
def State.leaseOver (s : State) : Bool :=
  match s.twn.hbBc with
  | none => false
  | some j => let d := (s.cyc.bcIdx - j).toInt; decide (8 < d) || (decide (d = 8) && decide (s.cyc.t0 < s.clk))

/-- LEASE_DEADLINE (R345). -/
def execLeaseDeadline (s : State) : Host.Outcome State Fault Refusal :=
  if s.twin ∧ s.role = 2 ∧ s.leaseOver then .next s.twnTake else .next s

/-- Is the partner lost: on no path a heartbeat within 8 bc (R344, R356), or fenced? -/
def State.partnerGone (s : State) : Bool :=
  (!s.flag R.TWN_STAT_PAIR_UP && !s.flag R.TWN_STAT_RB_UP) || (match s.twn.hb with | some h => h.fenced | none => false)

/-- PARTNER_LOSS (R356). -/
def execPartnerLoss (s : State) : Host.Outcome State Fault Refusal :=
  if s.twin ∧ s.role = 1 ∧ s.partnerGone then .next ((s.setF R.TWN_STAT_ROLE 5).clr R.TWN_STAT_PSEND) else .next s

/-- A yield: LEXP becomes the present bc index, unless the partner is not ready (R345). -/
def State.twinYield (s : State) (t : Option PktTag) : State :=
  if s.isHolder ∧ s.flag R.TWN_PARTNER_READY then
    let s := (s.setF R.TWN_EPOCH_LEXP (s.cyc.bcIdx.toNat % 65536)).set1 R.TWN_CTL_YIELD
    (s.putTwn { s.twn with yieldReq := true }).addWait t .yield
  else (s.set1 R.TWN_STAT_CMD_REF).finishOpt t 16 stState noWord []

/-- YIELD: a write of `TWN_CTL.YIELD` (R345). -/
def execYield (s : State) : Host.Outcome State Fault Refusal := .next (s.bar0Write R.TWN_CTL (fun s => s.twinYield none))

/-! ## Pairing -/

/-- May pairing be asked for now: the link up and twin operation on both pylons (R354)? -/
def State.pairOpen (s : State) : Bool :=
  s.twin && s.twn.linkUp && s.flag R.TWN_STAT_PAIR_UP && s.twn.pairAt.isNone && (match s.twn.info with | some i => i.en | none => false)

/-- The first pairing item that fails, the digest apart (R339, R354, R359). -/
def State.pairItem (s : State) (h : PairHb) (i : PartnerInfo) : Option Nat :=
  if s.f R.ZLP_CFG_HID ≠ i.hid ∨ s.f R.ZLP_CFG_SPAN ≠ i.span ∨ s.flag R.ZLP_CFG_SPD ≠ i.spd ∨ s.f R.ZLP_CFG_RATE ≠ i.rate then some 1
  else if s.flag R.ZLP_CFG_BMODE ∨ i.bmode ∨ !i.ring2 ∨ s.windows.any (fun e => e.ring != 2) then some 2
  else if s.reg (R.PIR_UC_VER 0) ≠ i.ucVer then some 3
  else if s.reg R.KST_PCV ≠ i.kst then some 4
  else if h.pid = s.pid then some 6
  else none

/-- Ask for pairing or for a join (R354, R355): what can be compared at once is, and the digests decide. -/
def State.twinPair (s : State) (join : Bool) (t : Option PktTag) : State :=
  match s.twn.hb, s.twn.info with
  | some h, some i =>
    if s.pairOpen then
      let s := (s.set1 (if join then R.TWN_CTL_JOIN else R.TWN_CTL_PAIR)).addWait t (if join then .join else .pair)
      let s := s.putTwn { s.twn with pairAt := some (s.clk, join) }
      match s.pairItem h i with
      | some x => s.pairFail join x
      | none => s
    else ((s.setF R.TWN_STAT_PCODE 0).set1 R.TWN_STAT_PAIR_BAD).finishOpt t 16 stState noWord []
  | _, _ => ((s.setF R.TWN_STAT_PCODE 0).set1 R.TWN_STAT_PAIR_BAD).finishOpt t 16 stState noWord []

/-- PAIR: a write of `TWN_CTL.PAIR` (R354). -/
def execPair (s : State) : Host.Outcome State Fault Refusal := .next (s.bar0Write R.TWN_CTL (fun s => s.twinPair false none))
/-- JOIN: a write of `TWN_CTL.JOIN` (R355). -/
def execJoin (s : State) : Host.Outcome State Fault Refusal := .next (s.bar0Write R.TWN_CTL (fun s => s.twinPair true none))

/-- STATE_FRAME_RECEIVE (R355 step 5). -/
def execStateFrameReceive (bytes : List Byte) (s : State) : Host.Outcome State Fault Refusal :=
  .next (s.pairRx bytes (fun s =>
    if bytes.length = 528 ∧ pairField bytes 0 1 = 4 ∧ s.role = 3 then
      s.putTwn { s.twn with states := s.twn.states ++ [(pairField bytes 1 1, wordOf (pairField bytes 4 4), (bytes.drop 8).take 512)] }
    else s))

/-- Install a streamed dynamic part: from now this pylon computes the axis (R355 step 5; log entry 74). -/
def State.installAxis (s : State) (x : Nat × Word × List Byte) : State :=
  let a := x.1
  if s.ringAxes.contains a then
    let s := s.putDyn a (dynFromBytes x.2.2)
    let s := s.when (s.axisState a == 1) (fun s => s.setF (R.AXT_W2_STATE a) 2)
    let l := if s.twn.install.contains a then s.twn.install else s.twn.install ++ [a]
    let s := s.setF R.TWN_JOIN_AXES l.length
    s.putTwn { s.twn with install := l, joinEnd := if s.ringAxes.all (fun b => l.contains b) then some (s.twn.joinEnd.getD s.clk) else s.twn.joinEnd }
  else s

/-- STATE_INSTALL: parts of bc m are installed at t0 of bc m + 1 (R355 step 5). -/
def execStateInstall (s : State) : Host.Outcome State Fault Refusal :=
  let due := s.twn.states.filter (fun x => decide (0 < (s.cyc.bcIdx - x.2.1).toInt))
  let rest := s.twn.states.filter (fun x => !decide (0 < (s.cyc.bcIdx - x.2.1).toInt))
  if s.role = 3 then .next ((s.putTwn { s.twn with states := rest }).each due (fun s x => s.installAxis x)) else .next s

/-- The time by which this pylon's counter is ahead of a send stamp, in 2^-32 ns, both taken within a second. -/
def aheadOf (own sent : Nat) : Int :=
  let sec : Int := (nsPerSec * 2 ^ 32 : Nat)
  let d := ((own : Int) - (sent : Int)) % sec
  if d * 2 < sec then d else d - sec

/-- TIMING_MARK_RECEIVE (R354): before the first SYNC the mark sets PH. The spec states the result to ±8 ns; the error within it is a free value (log entry 69). `stamp` is the
clk of its arrival. -/
def execTimingMarkReceive (bytes : List Byte) (stamp : Nat) (s : State) : Host.Outcome State Fault Refusal :=
  .next (s.pairRx bytes (fun s =>
    if bytes.length = 16 ∧ pairField bytes 0 1 = 5 ∧ ((s.role = 2 ∧ !s.ring.live) ∨ (s.role = 3 ∧ s.ring.syncBc = [])) then
      let own := ntFix s.nt - (s.clk - stamp) * s.inc.toNat
      let sent := pairField bytes 4 4 * 2 ^ 32 + pairField bytes 8 4
      let d := aheadOf (own % (nsPerSec * 2 ^ 32)) sent
      let err : Int := (s.freeNow.toNat % 13 : Nat) - 6
      let s := s.drewFree
      let s := s.setF R.TWN_PHASE_PH (ofSigned 16 (clampSigned 16 (d * 4 / (5 * 2 ^ 32) + err)))
      s.setF R.TWN_TOFF_OFF (ofSigned 32 (clampSigned 32 (d / 2 ^ 28)))
    else s))

/-! ## The configuration digest -/

/-- The bytes of the configuration, in the order of R342. -/
def State.digestBytes (s : State) : List Byte :=
  let regs (l : List Nat) : List Byte := bytesOfWords (l.map (fun a => s.reg a))
  let est (n : Nat) : List Word := [s.estWord n 0, s.estWord n 1, s.estWord n 2 &&& 0xFF1FFFFF, s.estWord n 3]
  axisList.flatMap (fun a => regs [R.AXT_W0 a, R.AXT_W1 a]) ++
    s.ringAxes.flatMap (fun a => tabRead deckDefault s.deck.mem (a * 0x800) 0xC0 ++ tabRead deckDefault s.deck.mem (a * 0x800 + 0x100) 0x500) ++
    regs [R.DSP_CFG, R.DSP_CWIN] ++ regs ((List.range 256).map R.DSP_FLOW) ++ regs (axisList.map R.DSP_FMEM) ++
    (List.range 4096).flatMap (fun n => regs [R.CYM_W0 n, R.CYM_W1 n, R.CYM_W2 n, R.CYM_W3 n]) ++
    regs [R.CHN_CFG, R.CHN_SCALE, R.CHN_PLAN, R.CHN_VM_DV, R.EST_CFG] ++
    (List.range 8192).flatMap (fun n => bytesOfWords (est n)) ++
    tabRead deckDefault s.deck.mem 0x100000 0x100000

/-- DIGEST_PASS_END (R342). -/
def execDigestPassEnd (s : State) : Host.Outcome State Fault Refusal :=
  if s.twin then
    let s := s.putReg R.TWN_DIGEST (wordOf (crc32 s.digestBytes))
    .next (s.putTwn { s.twn with digestAt := s.clk }).digestCompare
  else .next s

/-! ## Comparing copies -/

/-- A partner's copy differs (R350). -/
def State.twinMismatch (s : State) (bcn win : Nat) : State :=
  let s := s.incSat R.TWN_MIS_CNT_COUNT 1
  let s := s.when (!s.flag R.TWN_MIS_FIRST_VALID) (fun s => ((s.setF R.TWN_MIS_FIRST_BCN bcn).setF R.TWN_MIS_FIRST_WIN win).set1 R.TWN_MIS_FIRST_VALID)
  (s.set1 R.TWN_STAT_MIS).raise 0x72 win 0

/-- PARTNER_COPY_COMPARE: a downstream frame of the partner at this pylon's x1 (R350); a head alone only counts what returns there (R222, R249). A SYNC is counted as received by its own row. -/
def execPartnerCopyCompare (port : Fin 6) (fr : RxFrame) (s : State) : Host.Outcome State Fault Refusal :=
  let h := parseHeader fr.bytes
  if 4 ≤ port.val then .next s
  else
    let s := if h.type = 1 then s else s.rxCount port.val fr
    if !s.twin ∨ !isX1 port.val ∨ !s.hasX1 (ringOfPort port.val) then .next s
    else if frameCheck fr.bytes ≠ .good ∨ hdrWrap h ∨ h.src ≠ s.ownAddr ∨ h.hid ≠ s.zlpF R.ZLP_CFG_HID then .next s
    else
      let s := s.epochSeen h
      match tabGet (fun _ => none) s.twn.txCrc (2 * hdrWin h + hdrHalf h) with
      | none => .next s
      | some (seq, type, crc) =>
        if seq = h.seq ∧ type = h.type ∧ crc ≠ wordOf (crc32 (comparePart h.type (payloadOf fr.bytes))) then .next (s.twinMismatch (hdrBcn h) (hdrWin h))
        else .next s

/-! ## The PAIR link itself -/

/-- PAIR_FRAME_ERROR (R358, R359). -/
def execPairFrameError (s : State) : Host.Outcome State Fault Refusal := .next s.pairBad

/-- PAIR_LINK_CHANGE (R357). -/
def execPairLinkChange (up : Bool) (s : State) : Host.Outcome State Fault Refusal := .next (s.putTwn { s.twn with linkUp := up })

/-! ## At t0 -/

/-- The paths a heartbeat has come on within the last 8 bc, and the misses of the bc that ends (R344). -/
def State.twinPaths (s : State) : State :=
  let k := s.cyc.bcIdx
  let miss (x : Option Word) : Bool := match x with
    | some j => decide (1 < (k - j).toInt)
    | none => true
  let up (x : Option Word) : Bool := match x with
    | some j => decide ((k - j).toInt ≤ 8)
    | none => false
  let s := s.when (s.role != 0 && miss s.twn.pairBc) (fun s => s.incSat R.TWN_HB_MISS_PAIR 1)
  let s := s.when (s.role != 0 && miss s.twn.ringBc) (fun s => s.incSat R.TWN_HB_MISS_RB 1)
  (s.setB R.TWN_STAT_PAIR_UP (up s.twn.pairBc)).setB R.TWN_STAT_RB_UP (up s.twn.ringBc)

/-- A pylon is fenced under an epoch (R346, R400). -/
def State.twinFence (s : State) (epoch : Nat) : State :=
  let s := (s.putTwn { s.twn with fenceReq := none, takeReq := false, oldLease := none, yieldReq := false }).setF R.TWN_STAT_ROLE 4
  s.raise 0x71 epoch 0

/-- A yield of this pylon ends at the next t0 (R345, R372). -/
def State.yieldEnd (s : State) : State :=
  s.when (s.flag R.TWN_CTL_YIELD) (fun s => (s.clr R.TWN_CTL_YIELD).endWaits isYieldWait 16 stOk 0 [])

/-- The holder begins to stream to a joining partner with the first cc that starts after one full cc of its copies (R355; log entry 74). -/
def State.streamBegin (s : State) : State :=
  match s.twn.joinBc with
  | some j =>
    if !s.twn.streaming ∧ s.bcn = 0 ∧ 64 ≤ (s.cyc.bcIdx - j).toInt then s.putTwn { s.twn with streaming := true, stream := s.ringAxes, streamBc := s.cyc.bcIdx - 1 } else s
  | none => s

/-- What the twin logic does at t0 of a bc, its index already in place (R343 to R346, R355). -/
def State.twinSync (s : State) : State :=
  if s.twin then
    let s := (s.putTwn { s.twn with oldLease := none }).twinPaths
    let s := s.yieldEnd
    let s := match s.twn.fenceReq with
      | some e => s.twinFence e
      | none => if s.twn.takeReq && s.role == 2 then s.twnTake else s
    if s.isHolder then
      (s.when (!s.twn.yieldReq) (fun s => s.setF R.TWN_EPOCH_LEXP ((s.cyc.bcIdx.toNat + 8) % 65536))).streamBegin
    else s
  else s

/-! ## Registers -/

/-- TWN registers with a rule of their own for a write: the three commands, and clearing MIS (R359). -/
def twnRegWrite (s : State) (a : Nat) (v : Word) : Option State :=
  if a = R.TWN_CTL then
    let n := v.toNat
    let s := s.when (n.testBit 0) (fun s => s.twinPair false none)
    let s := s.when (n.testBit 1) (fun s => s.twinPair true none)
    some (s.when (n.testBit 2) (fun s => s.twinYield none))
  else if a = R.TWN_STAT then
    let s := s.plainWrite a v
    some (s.when (v.toNat.testBit 7) (fun s => s.clr R.TWN_MIS_FIRST_VALID))
  else none

end Sys2Proof.Machine
end

