-- ==== Sys2Proof/Machine/HostAccess.lean ====
section
/-! DEFINITION. Host reads and writes of BAR0 as a whole (R8 to R13, R390, R391, R437): which addresses are mapped, what a write does at each, and what a read returns and clears. -/

namespace Sys2Proof.Machine

/-- Is an address the complement address of a paired-write register (R11, R390)? -/
def isComplement (a : Nat) : Bool := decide (0x800 ≤ a) && isPw (a - 0x800)

/-- Is an address in the Deck window (R102)? -/
def isWindow (a : Nat) : Bool := decide (0xC0000 ≤ a) && decide (a ≤ 0xFFFFF)

/-- Is an address mapped (R390)? -/
def isMapped (a : Nat) : Bool := isComplement a || isWindow a || (findReg a).isSome

/-! ## Writes -/

/-- PIR registers with a rule of their own for a write: the three requests of `PIR_CTL` (R92, R93). -/
def pirRegWrite (s : State) (a : Nat) (v : Word) : Option State :=
  match pierList.find? (fun p => a == R.PIR_CTL p) with
  | none => none
  | some p =>
    let s := s.when (v.toNat.testBit 0) (fun s => s.pirOnline p)
    let s := s.when (v.toNat.testBit 1) (fun s => s.pirOffline p)
    some (s.when (v.toNat.testBit 2) (fun s => s.pirReload p))

/-- The block rules for a write, tried in turn. -/
def regWriteRules : List (State → Nat → Word → Option State) :=
  [glbRegWrite, acqRegWrite, chnRegWrite, estRegWrite, dspRegWrite, pirRegWrite, axtRegWrite, dckRegWrite, pwmRegWrite, clnRegWrite, stpRegWrite, encRegWrite, sdmRegWrite,
   zlpRegWrite, trunkRegWrite, kstRegWrite, twnRegWrite, evtRegWrite, nvsRegWrite]

/-- The first rule of a list that applies to a write. -/
def firstRule (s : State) (a : Nat) (v : Word) : List (State → Nat → Word → Option State) → Option State
  | [] => none
  | g :: gs => match g s a v with
    | some t => some t
    | none => firstRule s a v gs

/-- A write lands at a mapped register: its block's rule, else the access codes of its fields (R10, R11). -/
def State.regWrite (s : State) (a : Nat) (v : Word) : State := (firstRule s a v regWriteRules).getD (s.plainWrite a v)

/-- A 32-bit write lands at a BAR0 address (R10 to R13, R102, R390). -/
def State.landWrite (s : State) (a : Nat) (v : Word) : State :=
  if isComplement a then s.pwComplement (a - 0x800) v
  else if isPw a then s.pwValue a v
  else if isWindow a then s.deckHostWrite (s.windowAddr (a - 0xC0000)) v
  else if (findReg a).isSome then s.regWrite a v
  else s.unmapped a

/-- REGISTER_WRITE (R10, R11, R391, R437). -/
def execRegisterWrite (addr : Nat) (val : Word) (s : State) : Host.Outcome State Fault Refusal :=
  .next (s.bar0Write addr (fun s => s.landWrite addr val))

/-! ## Reads -/

/-- The block rules for a read, tried in turn. -/
def regReadRules : List (State → Nat → Option Word) := [chnRead, estRead, dspRead, axtRead, pirRead, pwmRead, zlpRead, kstRead, evtRead, nvsRead, hifRead]

/-- The first rule of a list that applies to a read. -/
def firstRead (s : State) (a : Nat) : List (State → Nat → Option Word) → Option Word
  | [] => none
  | g :: gs => match g s a with
    | some w => some w
    | none => firstRead s a gs

/-- The bits of a register under an access code. -/
def codeMask (p : Access → Bool) (a : Nat) : Word :=
  match findReg a with
  | none => 0
  | some r => accMask p r.fields

/-- The value a read of a register returns: derived fields as they stand, write-only fields 0 (R11). -/
def State.readValue (s : State) (a : Nat) : Word := ((firstRead s a regReadRules).getD (s.reg a)) &&& ~~~(codeMask (fun c => c == .wo) a)

/-- What a read clears: RC fields, and the flags that a read of `PIR_UE_INFO` and `HIF_REF_CNT` clears beside them (R11, R112, R389). -/
def State.readClears (s : State) (a : Nat) : State :=
  let m := codeMask (fun c => c == .rc) a
  let s := if m = 0 then s else s.putReg a (s.reg a &&& ~~~m)
  if a = R.HIF_REF_CNT then s.clr R.HIF_FIRST_REF_VALID
  else match pierList.find? (fun p => a == R.PIR_UE_INFO p) with
    | some p => s.clr (R.PIR_UE_INFO_VALID p)
    | none => s

/-- A read of a register (R11, R60, R393, R396). -/
def State.regRead (s : State) (a : Nat) : State :=
  if a = R.GLB_MBX_STAT then s.mbxReadStat
  else match (List.range 4).find? (fun k => a == R.GLB_MBX_D k) with
    | some k => s.mbxReadWord k
    | none =>
      if a = R.CHN_CAP_REC 7 then s.capPop
      else
        let s := s.voteCorrect a
        (s.readClears a).answer (s.readValue a)

/-- A 32-bit read of a BAR0 address (R9, R13, R102, R390). -/
def State.landRead (s : State) (a : Nat) : State :=
  if isComplement a then s.answer (~~~(s.reg (a - 0x800)))
  else if isWindow a then (s.deckRead (s.windowAddr (a - 0xC0000))).2.answer (s.deckRead (s.windowAddr (a - 0xC0000))).1
  else if (findReg a).isSome then s.regRead a
  else (s.unmapped a).answer 0

/-- A host read of BAR0 (R32, R437). -/
def State.bar0Read (s : State) (a : Nat) : State :=
  s.bar0Answer a (fun s => s.landRead a)

/-- READ_CLEAR: a host read (R11). -/
def execReadClear (addr : Nat) (s : State) : Host.Outcome State Fault Refusal := .next (s.bar0Read addr)

/-- UNMAPPED_ACCESS (R390). At a mapped address it is the access it names. -/
def execUnmappedAccess (addr : Nat) (wr : Bool) (val : Word) (s : State) : Host.Outcome State Fault Refusal :=
  .next (if wr then s.bar0Write addr (fun s => s.landWrite addr val) else s.bar0Read addr)

end Sys2Proof.Machine
end

