-- ==== Sys2Proof/Machine/Tollgate.lean ====
section
/-! DEFINITION. Tollgate (R360 to R372, R387): BAR2 and its doorbells, fetching packets, the checks of R370 and the costs of R372, payload DMA, fences, and how a core
runs its packet. -/

namespace Sys2Proof.Machine

/-- Change the host interface. -/
def State.putHif (s : State) (h : Hif) : State := { s with hif := h }

/-! ## BAR2 -/

/-- A BAR2 write is ignored and counted (R362, R364). -/
def State.bar2Ignored (s : State) : State := (s.set1 R.HIF_STAT_WR_IGN).incSat R.HIF_WR_IGN_CNT_COUNT 1

/-- A doorbell value is ignored (R364, R369). -/
def State.bellBad (s : State) : State := s.set1 R.HIF_STAT_DB_BAD

/-- Does slot `i` of queue `q` lie between head and tail (R364)? -/
def State.slotHeld (s : State) (q i : Nat) : Bool := decide ((i + 256 - s.sqHead q) % 256 < (s.sqTail q + 256 - s.sqHead q) % 256)

/-- A tail doorbell (R364): the entries it submits carry its clk. -/
def State.sqBell (s : State) (q : Nat) (v : Word) : State :=
  let tail := s.sqTail q
  let d := (v.toNat % 256 + 256 - tail) % 256
  let fill := (tail + 256 - s.sqHead q) % 256
  if !s.flag R.HIF_CTL_EN ∨ 255 < fill + d then s.bellBad
  else
    let s := s.setF (R.HIF_SQ_STAT_TAIL q) v.toNat
    s.each (List.range d) (fun s k => s.putHif { s.hif with bell := tabSet (fun _ => 0) s.hif.bell (q * 256 + (tail + k) % 256) s.clk })

/-- The head doorbell of the completion queue (R369). -/
def State.cqBell (s : State) (v : Word) : State :=
  let d := (v.toNat % 1024 + 1024 - s.f R.HIF_CQ_PTR_HEAD) % 1024
  if !s.flag R.HIF_CTL_EN ∨ s.cqFill < d then s.bellBad
  else (s.setF R.HIF_CQ_PTR_HEAD v.toNat).cqSync

/-- Is a write in a queue window well formed: 4 to 64 bytes, a power of two, aligned to its size (R362)? -/
def windowWrite (off : Nat) (ws : List Word) : Bool :=
  [1, 2, 4, 8, 16].contains ws.length && off % (4 * ws.length) == 0 && decide (off < 0x10000)

/-- A BAR2 write (R362, R364). -/
def State.bar2Write (s : State) (off : Nat) (ws : List Word) : State :=
  if windowWrite off ws then
    if s.slotHeld (off / 0x4000) (off % 0x4000 / 64) then s.bar2Ignored else s.bar2Put off ws
  else match ws with
    | [v] =>
      if off = 0x18000 ∨ off = 0x18004 ∨ off = 0x18008 ∨ off = 0x1800C then s.sqBell ((off - 0x18000) / 4) v
      else if off = 0x18010 then s.cqBell v
      else s.bar2Ignored
    | _ => s.bar2Ignored

/-- A write to a queue window by the host: none is served without SYSCLK (R32), nor after a failed boot (R437). -/
def State.bar2Host (s : State) (g : State → State) : State := if s.sysLost ∨ s.f R.GLB_BOOT_STATE = 15 then s else g s

/-- SQ_ENTRY_WRITE (R362, R364). -/
def execSqEntryWrite (off : Nat) (words : List Word) (s : State) : Host.Outcome State Fault Refusal := .next (s.bar2Host (fun s => s.bar2Write off words))
/-- SQ_DOORBELL (R364, R389, R437). -/
def execSqDoorbell (q : Fin 4) (val : Word) (s : State) : Host.Outcome State Fault Refusal := .next (s.hostWrite false (fun s => s.sqBell q.val val))
/-- CQ_HEAD_DOORBELL (R369, R437). -/
def execCqHeadDoorbell (val : Word) (s : State) : Host.Outcome State Fault Refusal := .next (s.hostWrite false (fun s => s.cqBell val))

/-! ## Opcodes -/

/-- The smallest and largest payload of an opcode in words (R372). -/
def opLen (op : Nat) : Option (Nat × Nat) :=
  if op = 0x00 ∨ op = 0x01 ∨ op = 0x40 ∨ op = 0x41 ∨ op = 0x60 ∨ op = 0x61 ∨ op = 0x62 then some (0, 0)
  else if op = 0x02 then some (2, 512)
  else if op = 0x03 ∨ op = 0x11 ∨ op = 0x14 ∨ op = 0x53 then some (1, 1)
  else if op = 0x04 then some (2, 5)
  else if op = 0x10 ∨ op = 0x13 ∨ op = 0x26 then some (3, 3)
  else if op = 0x12 then some (3, 386)
  else if op = 0x15 ∨ op = 0x23 ∨ op = 0x30 ∨ op = 0x51 then some (5, 5)
  else if op = 0x16 ∨ op = 0x24 then some (8, 8)
  else if op = 0x20 ∨ op = 0x21 ∨ op = 0x25 then some (9, 9)
  else if op = 0x22 then some (7, 7)
  else if op = 0x27 then some (13, 55)
  else if op = 0x31 ∨ op = 0x33 then some (5, 4093)
  else if op = 0x32 then some (3, 4095)
  else if op = 0x50 ∨ op = 0x52 then some (2, 1025)
  else if op = 0x54 then some (4, 4)
  else none

/-- Is LEN permitted (R370 step 3, R372)? -/
def opLenOk (op len : Nat) : Bool :=
  match opLen op with
  | none => false
  | some r => decide (r.1 ≤ len) && decide (len ≤ r.2) && (op != 0x02 || len % 2 == 0)

/-- The bulk opcodes (R372). -/
def opBulk (op : Nat) : Bool := [0x31, 0x32, 0x33, 0x50, 0x51, 0x52, 0x54].contains op

/-- The mirrored class of R387. -/
def opMirrored (op : Nat) : Bool :=
  op == 0x04 || (decide (0x10 ≤ op) && decide (op ≤ 0x16)) || (decide (0x20 ≤ op) && decide (op ≤ 0x27)) || (decide (0x30 ≤ op) && decide (op ≤ 0x33)) || op == 0x40 || op == 0x41

/-- The motion opcodes. -/
def opMotion (op : Nat) : Bool := decide (0x20 ≤ op) && decide (op ≤ 0x27)

/-- The clk per 32 bytes on the PCIe link (R372). -/
def State.beatClk (s : State) : Nat :=
  let w := s.f R.HIF_LINK_WIDTH
  let v := s.f R.HIF_LINK_SPEED
  8 * (if w = 1 then 4 else if w = 2 then 2 else 1) * (if v = 1 then 4 else if v = 2 then 2 else 1)

/-- A payload word. -/
def pw (p : List Word) (k : Nat) : Nat := (p.getD k 0).toNat

/-- The clk between the items that an opcode lands one after another (R373, R377, R384, R386, R465). -/
def opGap (op : Nat) : Nat := if op = 0x12 ∨ op = 0x50 then 2 else 4

/-- From a packet's decode and checks to its effect, or to the first item that lands, in clk (R372, R465): where the cost names another wait, up to that wait. -/
def State.opClk (s : State) (op : Nat) (p : List Word) : Nat :=
  if op = 0x01 then 16
  else if op = 0x02 then 4
  else if op = 0x03 ∨ op = 0x04 ∨ op = 0x15 ∨ op = 0x16 ∨ op = 0x41 ∨ op = 0x52 ∨ op = 0x53 then 24
  else if op = 0x10 ∨ op = 0x11 ∨ op = 0x14 then 40
  else if op = 0x12 ∨ op = 0x50 then 26
  else if op = 0x13 then 24 + 2 * pw p 2
  else if op = 0x20 ∨ op = 0x21 ∨ op = 0x25 then 44
  else if op = 0x22 then 40
  else if op = 0x23 then 36
  else if op = 0x24 then 42
  else if op = 0x26 then 32
  else if op = 0x27 then 184 + 50 * (pw p 0 % 256)
  else if op = 0x30 then 32
  else if op = 0x31 ∨ op = 0x32 ∨ op = 0x33 then 28
  else if op = 0x51 then 24 + s.beatClk * (pw p 2 / 32)
  else if op = 0x54 then 24 + s.beatClk * pw p 1
  else 0

/-- How many items an opcode lands one after another (R465). -/
def opItems (op : Nat) (p : List Word) : Nat :=
  let n := p.length
  if op = 0x02 then n / 2
  else if op = 0x12 then n - 2
  else if op = 0x31 ∨ op = 0x33 then (n - 1) / 4
  else if op = 0x32 then (n - 1) / 2
  else if op = 0x50 then n - 1
  else 1

/-- From a packet's decode and checks to the last item that lands, in clk (R372, R465). -/
def State.opEnd (s : State) (op : Nat) (p : List Word) : Nat := s.opClk op p + opGap op * (opItems op p - 1)

/-! ## Checks -/

/-- Does a range of host memory lie inside the DMA window (R370, R389)? -/
def State.dmaRange (s : State) (a n : Nat) : Bool :=
  let base := nat64 (s.reg R.HIF_DMA_BASE_LO) (s.reg R.HIF_DMA_BASE_HI)
  let lim := nat64 (s.reg R.HIF_DMA_LIM_LO) (s.reg R.HIF_DMA_LIM_HI)
  decide (base ≤ a) && decide (a + n ≤ lim)

/-- The payload pointer of an entry (R368). -/
def entryPtr (e : List Word) : Nat := nat64 (e.getD 2 0) (e.getD 3 0)

/-- LEN of an entry (R368). -/
def entryLen (e : List Word) : Nat := bitsOf (e.getD 0 0).toNat 16 12

/-- The host range a payload names, where its opcode has one: address and length (R370 step 3, R386). -/
def payloadRange (op : Nat) (p : List Word) : Option (Nat × Nat) :=
  if op = 0x51 then some (nat64 (p.getD 3 0) (p.getD 4 0), pw p 2)
  else if op = 0x54 then some (nat64 (p.getD 2 0) (p.getD 3 0), 32 * pw p 1)
  else none

/-- Does the twin's authority forbid a mirrored opcode here (R352, R346, R387)? A pylon that is not paired acts alone (log entry 75). -/
def State.twinForbids (s : State) (op : Nat) : Bool :=
  s.twin && opMirrored op &&
    (let r := s.role
     r == 2 || r == 3 || r == 4 || (r == 1 && !s.flag R.TWN_STAT_PAIR_UP))

/-- Checks 1 to 4 of R370: the status of the first that fails. -/
def State.packetCheck (s : State) (sq : Nat) (e : List Word) : Option Nat :=
  let op := (e.getD 0 0).toNat % 256
  let n := entryLen e
  if (opLen op).isNone then some stOpcode
  else if opBulk op && sq != 3 then some stQueue
  else if !opLenOk op n then some stLength
  else if 12 < n ∧ (entryPtr e % 4 ≠ 0 ∨ !s.dmaRange (entryPtr e) (4 * n)) then some stLength
  else if (match payloadRange op (e.drop 4) with | some r => !s.dmaRange r.1 r.2 | none => false) then some stLength
  else if s.twinForbids op then some stState
  else none

/-! ## Fetching -/

/-- The queues a core serves, in their order (R365). -/
def coreQueues (k : Nat) : List Nat := if k = 0 then [0, 1] else [2, 3]

/-- The clk of the doorbell that submitted the entry at the head of a queue. -/
def State.headBell (s : State) (q : Nat) : Nat := tabGet (fun _ => 0) s.hif.bell (q * 256 + s.sqHead q)

/-- May the head of a queue be fetched by its free core now: 24 clk after its doorbell, or behind another packet 8 clk after the end of that one's execution
(R365, R372)? -/
def State.fetchable (s : State) (q : Nat) : Bool :=
  s.sqHead q != s.sqTail q && (decide (s.headBell q + 24 ≤ s.clk) || decide (s.headBell q + 8 < (s.core (q / 2)).freeAt))

/-- A core begins to decode a packet (R370, R372): a check that fails completes it (one of the twin's authority also sets `TWN_STAT.CMD_REF`), a long payload is fetched by
DMA, and otherwise its opcode acts after decode and execution. -/
def State.packetStart (s : State) (k : Nat) (p : Packet) : State :=
  match s.packetCheck p.tag.sq p.entry with
  | some st =>
    let s := s.when (st == stState) (fun s => s.set1 R.TWN_STAT_CMD_REF)
    (s.putCore k { s.core k with cur := none, freeAt := s.clk + 24 }).finish p.tag 32 st noWord []
  | none =>
    let n := entryLen p.entry
    let p := { p with fence := false }
    if 12 < n then s.putCore k { s.core k with cur := some { p with dma := some (s.clk + 16) } }
    else
      let pay := (p.entry.drop 4).take n
      s.putCore k { s.core k with cur := some { p with pay := pay, readyAt := s.clk + 16 + s.opClk p.tag.op pay } }

/-- Count the bc of a stall once (R366). -/
def State.countStall (s : State) : State :=
  if ((s.core 0).stalled || (s.core 1).stalled) && s.hif.stallBc != s.cyc.bcIdx + 1 then
    (s.putHif { s.hif with stallBc := s.cyc.bcIdx + 1 }).incSat R.HIF_STALL_CNT_COUNT 1
  else s

/-- Fetch the packet at the head of a queue (R364 to R368). -/
def State.fetch (s : State) (k q : Nat) : State :=
  let head := s.sqHead q
  let e := (List.range 16).map (fun i => s.bar2Word (0x4000 * q + 64 * head + 4 * i))
  let w0 := (e.getD 0 0).toNat
  let t : PktTag := ⟨e.getD 1 0, w0 % 256, q, w0.testBit 9, s.headBell q, s.hif.gen⟩
  let p : Packet := ⟨t, e, [], 0, none, w0.testBit 8, false, 0, false⟩
  let s := (s.setF (R.HIF_SQ_STAT_HEAD q) (head + 1)).cqReserve
  let s := s.putCore k { s.core k with stalled := false }
  if p.fence then s.putCore k { s.core k with cur := some p } else s.packetStart k p

/-- PACKET_FETCH (R365, R366). -/
def execPacketFetch (core : Fin 2) (s : State) : Host.Outcome State Fault Refusal :=
  let k := core.val
  let c := s.core k
  if c.cur.isSome ∨ s.clk < c.freeAt ∨ s.hif.restart.isSome ∨ s.sysLost then .next s
  else match (coreQueues k).find? s.fetchable with
    | none => .next s
    | some q =>
      if s.cqMay q then .next (s.fetch k q)
      else .next (s.putCore k { c with stalled := true }).countStall

/-! ## Payload DMA -/

/-- A payload fetch fails (R370 step 5). -/
def State.dmaFail (s : State) (t : PktTag) : State := ((s.set1 R.HIF_STAT_DMA_ERR).raise 0xE2 0 0).packetEnds (some t) stDma noWord []

/-- The round trip of a DMA read is shown (R372, R389). -/
def State.dmaLat (s : State) (n : Nat) : State :=
  let s := s.setF R.HIF_DMA_LAT_LAST (min 65535 n)
  s.setF R.HIF_DMA_LAT_MAX (max (s.f R.HIF_DMA_LAT_MAX) (min 65535 n))

/-- PAYLOAD_DMA_COMPLETE (R370 step 5, R372). -/
def execPayloadDmaComplete (core : Fin 2) (res : DmaResult) (s : State) : Host.Outcome State Fault Refusal :=
  let k := core.val
  match (s.core k).cur with
  | none => .next s
  | some p =>
    match p.dma with
    | none => .next s
    | some c =>
      if s.clk < c ∨ s.hif.restart.isSome then .next s
      else match res with
        | .failed => .next (s.dmaFail p.tag)
        | .ok ws =>
          if ws.length ≠ entryLen p.entry then .next s
          else
            let s := s.dmaLat (s.clk - c - s.beatClk * ((ws.length + 7) / 8))
            .next (s.putCore k { s.core k with cur := some { p with dma := none, pay := ws, readyAt := s.clk + s.opClk p.tag.op ws } })

/-! ## Fences -/

/-- Is a packet whose doorbell landed before a clk still without its completion (R367)? -/
def State.olderPending (s : State) (bell : Nat) : Bool :=
  s.hif.compl.any (fun c => decide (c.tag.bell < bell)) ||
    s.hif.waits.any (fun w => match w.tag with | some t => decide (t.bell < bell) | none => false) ||
    [0, 1].any (fun k => match (s.core k).cur with | some p => decide (p.tag.bell < bell) | none => false) ||
    [0, 1, 2, 3].any (fun q => s.sqHead q != s.sqTail q && decide (s.headBell q < bell))

/-- FENCE_RELEASE (R367). -/
def execFenceRelease (core : Fin 2) (s : State) : Host.Outcome State Fault Refusal :=
  let k := core.val
  match (s.core k).cur with
  | none => .next s
  | some p =>
    if p.fence ∧ !s.olderPending p.tag.bell ∧ s.hif.restart.isNone then .next (s.packetStart k p) else .next s

/-! ## Running -/

/-- The packet a core runs now, if its opcode is `op` and its execution is over (R365, R372). -/
def State.opDue (s : State) (k op : Nat) : Option Packet :=
  match (s.core k).cur with
  | none => none
  | some p =>
    if p.tag.op = op ∧ p.dma.isNone ∧ !p.fence ∧ !p.held ∧ !p.busy ∧ p.readyAt ≤ s.clk ∧ s.hif.restart.isNone ∧ !s.sysLost then some p else none

/-- Change the packet a core holds. -/
def State.putCur (s : State) (k : Nat) (p : Packet) : State := s.putCore k { s.core k with cur := some p }

/-- The clk one byte takes on the PAIR link, at 20 MB/s (R357). -/
def pairByteClk : Nat := 40

/-- The bytes that leave ahead of any mirror frame in a bc: the heartbeat, and during a join a state frame and an acknowledgement (R358, R470). -/
def State.pairFirst (s : State) : Nat := 36 + if s.twn.streaming then 536 else 0

/-- The clk on which a frame of `len` bytes has been sent completely (R466): it starts now, after the frames queued before it and the heartbeat of this bc, and what
leaves first in each later bc breaks it. -/
def State.pairSent (s : State) (len : Nat) : Nat :=
  let first := pairByteClk * s.pairFirst
  let start := max (max s.clk s.twn.pairFree) (s.planClk + first)
  let next := s.planClk + s.nBc * ((start - s.planClk) / s.nBc + 1)
  let need := pairByteClk * len
  let chunk := s.nBc - first
  if start + need ≤ next then start + need
  else
    let rest := need - (next - start)
    next + (rest - 1) / chunk * s.nBc + first + ((rest - 1) % chunk + 1)

/-- `TWN_CFG.MDLY` as it is used (R359). -/
def State.mdly (s : State) : Nat := max 2 (min 15 (s.f R.TWN_CFG_MDLY))

/-- A mirror frame (R358). -/
def mirrorFrame (num : Nat) (bc : Word) (entry pay : List Word) : List Byte :=
  pairFrame (bytesOf 2 2 ++ bytesOf 2 num ++ bytesOf 4 bc.toNat ++ bytesOfWords entry ++ bytesOfWords (if pay.length ≤ 12 then [] else pay))

/-- The holder mirrors a packet (R352): it names the effect bc, MDLY bc after the bc in which the frame has been sent completely, and its core holds it until then. -/
def State.mirrorSend (s : State) (k : Nat) (p : Packet) : State :=
  let len := 76 + 4 * if p.pay.length ≤ 12 then 0 else p.pay.length
  let sent := s.pairSent len
  let bc := s.cyc.bcIdx + wordOf ((sent - s.cyc.t0) / s.nBc + s.mdly)
  let m : Mirror := ⟨s.twn.mirNum, bc, p.entry, p.pay, some p.tag, false⟩
  let s := (s.pairSend (mirrorFrame m.num bc p.entry p.pay)).putCur k { p with busy := true }
  s.putTwn { s.twn with mirrors := s.twn.mirrors ++ [m], mirNum := (m.num + 1) % 65536, pairFree := sent }

/-- A core runs the opcode of its packet. A holder with a partner mirrors it first (R352). -/
def State.runPacket (s : State) (k op : Nat) (g : State → Option PktTag → List Word → State) : State :=
  match s.opDue k op with
  | none => s
  | some p =>
    if s.twin && opMirrored op && s.role == 1 then s.mirrorSend k p
    else g s (some p.tag) p.pay

end Sys2Proof.Machine
end

