-- ==== Sys2Proof/Machine/TollOps.lean ====
section
/-! DEFINITION. The opcodes of command packets but for motion and groups (R373 to R377, R384 to R387): each is one operation over a payload, whose packet may belong to this
pylon or (none) to its partner. -/

namespace Sys2Proof.Machine

/-- A packet's execution ends now and its completion is written `more` clk later than usual (R372). -/
def State.packetEndsLate (s : State) (t : Option PktTag) (more status detail : Nat) (res : List Word) : State :=
  match t with
  | none => s
  | some t =>
    (s.finish t (16 + more) status detail res).each [0, 1] (fun s k =>
      match (s.core k).cur with
      | some p => if p.tag = t then s.putCore k { s.core k with cur := none, freeAt := s.clk + more + 8 } else s
      | none => s)

/-- The execution of a packet ends and its completion waits (R372). -/
def State.packetWaits (s : State) (t : Option PktTag) : State :=
  match t with
  | none => s
  | some t => s.coreEnds t

/-- The packet of a tag that a core holds. -/
def State.packetOf (s : State) (t : PktTag) : Option Packet :=
  ((s.core 0).cur.toList ++ (s.core 1).cur.toList).find? (fun p => p.tag == t)

/-- Change the packet of a tag in the core that holds it. -/
def State.onPacket (s : State) (t : PktTag) (f : Packet → Packet) : State :=
  s.each [0, 1] (fun s k => match (s.core k).cur with
    | some p => if p.tag = t then s.putCur k (f p) else s
    | none => s)

/-- Items of a packet already landed. -/
def State.itemsMoved (s : State) (t : PktTag) : Nat := (s.packetOf t).elim 0 (fun p => p.moved)

/-- The `n` items of a packet land one after another, the first when its opcode acts: those whose clk has come land now, and with the last the packet ends (R373, R377,
R384, R386, R465). Those of a mirrored packet land together. -/
def State.landItems (s : State) (t : Option PktTag) (op n : Nat) (land : State → Nat → State) : State :=
  match t with
  | none => s.each (List.range n) land
  | some g =>
    let due := match s.packetOf g with
      | some p => if p.busy then n else min n ((s.clk - p.readyAt) / opGap op + 1)
      | none => n
    let s := s.each ((List.range due).drop (s.itemsMoved g)) land
    if due = n then s.packetEnds t stOk 0 [] else s.onPacket g (fun p => { p with moved := due })

/-- Has a packet begun to land its items? Its checks are over then (R370). -/
def State.landing (s : State) (t : Option PktTag) : Bool := t.elim false (fun g => s.itemsMoved g != 0)

/-- The axis index of an axis packet (before R375). -/
def payAxis (p : List Word) : Nat := pw p 0 % 256

/-- Free words, `n` of them (log entry 10). -/
def State.freeWords (s : State) (n : Nat) : List Word × State := ((List.range n).map (fun i => Config.freeWord (s.free + i)), { s with free := s.free + n })

/-! ## Registers, mailbox, identity -/

/-- OP_NOP (R372). -/
def State.opNop (s : State) (t : Option PktTag) (_ : List Word) : State := s.packetEnds t stOk 0 []

/-- OP_IDENT (R374). -/
def State.opIdent (s : State) (t : Option PktTag) (_ : List Word) : State :=
  s.packetEnds t stOk 0 [0x014400A1, s.reg (R.PIR_UC_VER 0), s.reg R.NVS_IMG_VER, s.reg R.HIF_LINK]

/-- Does a BAR0 byte offset lie in a block of the map, 4-aligned (R373, R390)? -/
def inBlocks (a : Nat) : Bool := a % 4 == 0 && (isWindow a || regBlocks.any (fun b => decide (b.first ≤ a) && decide (a ≤ b.last)))

/-- The pairs of a register-write payload. -/
def writePairs : List Word → List (Nat × Word)
  | a :: v :: rest => (a.toNat, v) :: writePairs rest
  | _ => []

/-- OP_REG_WRITE (R373). -/
def State.opRegWrite (s : State) (t : Option PktTag) (p : List Word) : State :=
  let ws := writePairs p
  match ws.findIdx? (fun x => !inBlocks x.1) with
  | some i => s.packetEnds t stParam (2 * i) []
  | none => s.landItems t 0x02 ws.length (fun s i => let x := ws.getD i (0, 0); s.landWrite x.1 x.2)

/-- Item codes of R398: is the item known, is it a write item, and its words. -/
def mbxCode (c : Nat) : Option (Bool × Nat) :=
  if c = 0x10 then some (false, 4) else if c = 0x11 then some (true, 4) else if c = 0x20 then some (false, 2) else if c = 0x21 then some (false, 4)
  else if c = 0x22 then some (true, 2) else if c = 0x23 ∨ c = 0x24 then some (true, 2) else if c = 0x30 ∨ c = 0x40 ∨ c = 0x41 then some (false, 3)
  else if c = 0x42 ∨ c = 0x43 then some (false, 2) else none

/-- OP_MBX_READ (R374, R397). -/
def State.opMbxRead (s : State) (t : Option PktTag) (p : List Word) : State :=
  match mbxCode (pw p 0) with
  | none => s.packetEnds t stParam 0 []
  | some _ => match s.mbxItem (pw p 0) with
    | some ws => s.packetEnds t stOk 0 ws
    | none => s.packetEnds t stState noWord []

/-- OP_MBX_WRITE (R374, R397). -/
def State.opMbxWrite (s : State) (t : Option PktTag) (p : List Word) : State :=
  match mbxCode (pw p 0) with
  | none => s.packetEnds t stParam 0 []
  | some (_, n) =>
    if p.length ≠ 1 + n then s.packetEnds t stLength noWord []
    else match s.mbxApply (pw p 0) (p.drop 1) with
      | some s' => s'.packetEnds t stOk 0 []
      | none => s.packetEnds t stState noWord []

/-! ## Axes -/

/-- The status a refused enable maps to, and the payload word at fault (R375). -/
def enableStatus : EnableRefusal → Nat × Nat
  | .cap => (stCapacity, noWord)
  | .lane => (stParam, 1)
  | .slot => (stParam, 2)
  | .pier => (stCapacity, noWord)
  | .bad => (stState, noWord)

/-- OP_AXIS_ENABLE (R375). -/
def State.opAxisEnable (s : State) (t : Option PktTag) (p : List Word) : State :=
  let a := payAxis p
  if 159 < a then s.packetEnds t stParam 0 []
  else if s.axisOn a then s.packetEnds t stState 0 []
  else
    let w0 := s.reg (R.AXT_W0 a)
    let w1 := s.reg (R.AXT_W1 a)
    let r := ((s.plainWrite (R.AXT_W1 a) (p.getD 2 0)).axisFields a (p.getD 1 0)).axisEnable a
    match r.1 with
    | none => r.2.packetEndsLate t 80 stOk 0 []
    | some x => ((r.2.putReg (R.AXT_W0 a) w0).putReg (R.AXT_W1 a) w1).packetEndsLate t 80 (enableStatus x).1 (enableStatus x).2 []

/-- OP_AXIS_DISABLE (R376): accepted in STATE 1 or 3. A running task of the axis completes first. -/
def State.opAxisDisable (s : State) (t : Option PktTag) (p : List Word) : State :=
  let a := payAxis p
  if 159 < a then s.packetEnds t stParam 0 []
  else if s.axisState a ≠ 1 ∧ s.axisState a ≠ 3 then s.packetEnds t stState 0 []
  else
    let more := if (s.runningOn a).isSome then s.axisCost a else 0
    (s.axisDisable a).packetEndsLate t more stOk 0 []

/-- May OP_PARAM_WRITE write the state word at an offset (R377)? -/
def parWritable (off : Nat) : Bool := decide (off < 0x600) && !(decide (0xC0 ≤ off) && decide (off < 0x100))

/-- OP_PARAM_WRITE (R377). -/
def State.opParamWrite (s : State) (t : Option PktTag) (p : List Word) : State :=
  let a := payAxis p
  let off := pw p 1 % 4096
  let ws := p.drop 2
  if 159 < a then s.packetEnds t stParam 0 []
  else if off % 4 ≠ 0 then s.packetEnds t stParam 1 []
  else match (List.range ws.length).find? (fun i => !parWritable (off + 4 * i)) with
    | some i => s.packetEnds t stParam (2 + i) []
    | none => s.landItems t 0x12 ws.length (fun s i => s.parWrite a (off + 4 * i) (ws.getD i 0))

/-- Read words of an axis's home copy in turn. -/
def State.deckReads (s : State) (a : Nat) : Nat → List Word × State
  | 0 => ([], s)
  | n + 1 =>
    let x := s.deckRead a
    let y := x.2.deckReads (a + 4) n
    (x.1 :: y.1, y.2)

/-- OP_PARAM_READ (R377). -/
def State.opParamRead (s : State) (t : Option PktTag) (p : List Word) : State :=
  let a := payAxis p
  let off := pw p 1 % 4096
  let k := pw p 2
  if 159 < a then s.packetEnds t stParam 0 []
  else if off % 4 ≠ 0 then s.packetEnds t stParam 1 []
  else if k < 1 ∨ 4 < k then s.packetEnds t stParam 2 []
  else if 0x800 < off + 4 * k then s.packetEnds t stParam 1 []
  else
    let x := s.deckReads (a * 0x800 + off) k
    x.2.packetEnds t stOk 0 x.1

/-- OP_FAULT_CLEAR (R151, R377). -/
def State.opFaultClear (s : State) (t : Option PktTag) (p : List Word) : State :=
  let a := payAxis p
  if 159 < a then s.packetEnds t stParam 0 []
  else if s.axisState a = 3 ∧ (s.homeDyn a).status.toNat.testBit 11 then
    (((s.putDyn a (clearedDyn (s.homeDyn a))).markWork a (fun w => { w with cleared := true })).setF (R.AXT_W2_STATE a) 1).packetEnds t stOk 0 []
  else s.packetEnds t stState 0 []

/-! ## Tables -/

/-- Groups of four words. -/
def quads : List Word → List (List Word)
  | a :: b :: c :: d :: rest => [a, b, c, d] :: quads rest
  | _ => []

/-- May an EST entry be committed; if not, which of its words is at fault: W2 for the action, W3 for the object (R51)? -/
def estFault (e : List Word) : Option Nat :=
  if estCommitOk (e.getD 2 0) (e.getD 3 0) then none else if 8 < w2Act (e.getD 2 0) then some 2 else some 3

/-- Commit an EST entry (R50, R51). -/
def State.estCommitWords (s : State) (idx : Nat) (e : List Word) : State := s.estCommitEntry idx (e.getD 0 0) (e.getD 1 0) (e.getD 2 0) (e.getD 3 0)

/-- OP_EST_WRITE (R51, R384). -/
def State.opEstWrite (s : State) (t : Option PktTag) (p : List Word) : State :=
  match estFault (p.drop 1) with
  | some w => (s.set1 R.EST_STAT_BAD).packetEnds t stParam (1 + w) []
  | none => (s.estCommitWords (pw p 0 % 8192) (p.drop 1)).packetEnds t stOk 0 []

/-- OP_EST_LOAD (R384). -/
def State.opEstLoad (s : State) (t : Option PktTag) (p : List Word) : State :=
  let first := pw p 0 % 8192
  let es := quads (p.drop 1)
  if p.length % 4 ≠ 1 then s.packetEnds t stLength noWord []
  else if 8192 < first + es.length then s.packetEnds t stParam 0 []
  else match es.findIdx? (fun e => (estFault e).isSome) with
    | some i => s.packetEnds t stParam (1 + 4 * i + (estFault (es.getD i [])).getD 0) []
    | none => s.landItems t 0x31 es.length (fun s i => s.estCommitWords (first + i) (es.getD i []))

/-- OP_CAM_LOAD (R103, R384). -/
def State.opCamLoad (s : State) (t : Option PktTag) (p : List Word) : State :=
  let first := pw p 0 % 131072
  let n := (p.length - 1) / 2
  if p.length % 2 ≠ 1 then s.packetEnds t stLength noWord []
  else if 131072 < first + n then s.packetEnds t stParam 0 []
  else s.landItems t 0x32 n (fun s i => s.camPut (0x100000 + 8 * (first + i)) (p.getD (1 + 2 * i) 0) (p.getD (2 + 2 * i) 0))

/-- Write a matrix entry's words. -/
def State.cymPut (s : State) (n : Nat) (e : List Word) : State :=
  s.each (List.range 4) (fun s k => s.plainWrite (R.CYM_W0 n + 4 * k) (e.getD k 0))

/-- OP_CYM_LOAD (R384). -/
def State.opCymLoad (s : State) (t : Option PktTag) (p : List Word) : State :=
  let first := pw p 0 % 4096
  let es := quads (p.drop 1)
  if p.length % 4 ≠ 1 then s.packetEnds t stLength noWord []
  else if 4096 < first + es.length then s.packetEnds t stParam 0 []
  else if s.f R.ZLP_SSTAT_STATE ≠ 0 ∧ !s.landing t then s.packetEnds t stState noWord []
  else s.landItems t 0x33 es.length (fun s i => s.cymPut (first + i) (es.getD i []))

/-! ## Ring -/

/-- OP_RING_START (R253, R385): its core is free once the span has taken the start (log entry 77). -/
def State.opRingStart (s : State) (t : Option PktTag) (_ : List Word) : State := (s.ringStart t).packetWaits t

/-- OP_RING_HALT (R252, R385). -/
def State.opRingHalt (s : State) (t : Option PktTag) (_ : List Word) : State := (s.ringHalt t).packetWaits t

/-! ## Safety image, capture, store -/

/-- OP_SAFETY_LOAD (R336, R386). -/
def State.opSafetyLoad (s : State) (t : Option PktTag) (p : List Word) : State :=
  let off := pw p 0
  let ws := p.drop 1
  if off % 4 ≠ 0 ∨ 0xFFC < off ∨ 4096 < off + 4 * ws.length then s.packetEnds t stParam 0 []
  else if s.kstState ≠ 0 ∧ s.kstState ≠ 3 ∧ !s.landing t then s.packetEnds t stState noWord []
  else s.landItems t 0x50 ws.length (fun s i => s.pwinWrite (off + 4 * i) (ws.getD i 0))

/-- Bytes of capture memory that `DDR_CFG.SIZE` gives (R307). -/
def State.ddrSize (s : State) : Nat := 2 ^ 30 * 2 ^ s.f R.DDR_CFG_SIZE

/-- Send bytes to host memory (R386). -/
def State.hostMemWrite (s : State) (a : Nat) (bs : List Byte) : State := s.putHif { s.hif with dmaOut := [(a, bs)] }

/-- Is a request of the DDR4 queue a read-out of a packet that a core holds? -/
def State.readHeld (s : State) : DdrReq → Bool
  | .write _ _ => true
  | .read t => [0, 1].any (fun k => match (s.core k).cur with
    | some p => p.tag == t
    | none => false)

/-- Up to `n` requests of a read-out enter the DDR4 request queue while it has room; those of packets that no core holds any more leave it (R30). -/
def State.readAsk (s : State) (t : PktTag) (n : Nat) : State :=
  let q := s.acq.ddrQ.filter (fun x => s.readHeld x && x != .read t)
  s.putAcq { s.acq with ddrQ := q ++ List.replicate (min n (64 - q.length)) (.read t) }

/-- The beats a read-out moves now: all that are left where no session writes, else a free number of those in the queue (R301: memory as it stands at each beat). -/
def State.readBeats (s : State) (left : Nat) : Nat := if s.acqRuns then 1 + s.freeNow.toNat % max 1 (min 64 left) else left

/-- A read-out of `total` beats at `a`, of which `moved` are done, goes on: single-bit errors of its beats are corrected, a free number of them; an uncorrectable error
ends the transfer before its beat (R302, R386). -/
def State.readMove (s : State) (t : PktTag) (host a moved total : Nat) : State :=
  let n := s.readBeats (total - moved)
  let s := s.drewFree
  let s := (s.ddrCorrect (s.freeNow.toNat % (n + 1))).drewFree
  let s := s.readAsk t 0
  let from_ := a + 32 * moved
  match (List.range n).find? (fun i => s.acq.ueAt.contains (from_ / 32 + i)) with
  | none =>
    let s := s.hostMemWrite (host + 32 * moved) (tabRead ddrDefault s.acq.ddr from_ (32 * n))
    if total ≤ moved + n then s.packetEnds (some t) stOk 0 [wordOf (32 * total)] else s.onPacket t (fun p => { p with moved := moved + n })
  | some i =>
    ((s.hostMemWrite (host + 32 * moved) (tabRead ddrDefault s.acq.ddr from_ (32 * i))).ddrUe (from_ + 32 * i)).packetEnds (some t) stMedia noWord
      [wordOf (32 * (moved + i))]

/-- A read-out finds capture writes pending: its requests stand behind them, a free number of the writes is served, and the controller cycles it has waited are counted;
how many is free (R30, R301). -/
def State.readWait (s : State) (t : PktTag) (left : Nat) : State :=
  let s := s.readAsk t left
  let s := (s.ddrAdmit.ddrRun (1 + s.freeNow.toNat % s.ddrPending)).drewFree
  (s.incSat R.DDR_WAIT_CNT_COUNT (1 + s.freeNow.toNat)).drewFree

/-- OP_CAPTURE_READ (R301, R302, R386). Its core holds the packet until the last beat has moved. -/
def State.opCaptureRead (s : State) (t : Option PktTag) (p : List Word) : State :=
  let a := nat64 (p.getD 0 0) (p.getD 1 0)
  let n := pw p 2
  let host := nat64 (p.getD 3 0) (p.getD 4 0)
  if a % 32 ≠ 0 then s.packetEnds t stParam 0 []
  else if n % 32 ≠ 0 ∨ n < 32 ∨ 16777216 < n then s.packetEnds t stParam 2 []
  else if s.ddrSize < a + n then s.packetEnds t stParam 0 []
  else match t with
    | none => s
    | some g =>
      let moved := s.itemsMoved g
      let s := s.when (s.ddrPending != 0) (fun s => s.readWait g (n / 32 - moved))
      if s.ddrPending = 0 then s.readMove g host a moved (n / 32) else s

/-- A core's packet waits for the flash (R372). -/
def State.flashHolds (s : State) (t : PktTag) : State := s.onPacket t (fun p => { p with busy := true })

/-- OP_NVS_WRITE (R414, R386): its core holds the packet until the last operation has ended. -/
def State.opNvsWrite (s : State) (t : Option PktTag) (p : List Word) : State :=
  match t with
  | none => s
  | some g =>
    if !s.queueRoom then s
    else
      let r := s.nvsWrite g (pw p 0 % 2) (pw p 0 / 4) (p.drop 1)
      if r.1 = stOk then r.2.flashHolds g else r.2.packetEnds t r.1 (if r.1 = stParam then 0 else noWord) []

/-- OP_NVS_COMMIT (R415, R386). -/
def State.opNvsCommit (s : State) (t : Option PktTag) (p : List Word) : State :=
  let b := pw p 0 % 2
  if s.bankCommits b || s.commitRefused b then s.packetEnds t stState noWord []
  else if !s.queueRoom then s
  else match t with
    | none => s
    | some g => (s.nvsCommit t b).flashHolds g

/-- OP_BBX_READ (R386): entry 0 is the newest; what entries that the ring does not hold read as is a free value (log entry 78). -/
def State.opBbxRead (s : State) (t : Option PktTag) (p : List Word) : State :=
  let first := pw p 0
  let n := pw p 1
  let host := nat64 (p.getD 2 0) (p.getD 3 0)
  if 16384 < first + n then s.packetEnds t stParam 0 []
  else
    let x := s.freeWords (8 * n)
    let ws := (List.range n).flatMap (fun i => (s.nvs.box[first + i]?).getD ((x.1.drop (8 * i)).take 8))
    (x.2.hostMemWrite host (bytesOfWords ws)).packetEnds t stOk 0 []

/-! ## Twin -/

/-- OP_TWIN_PAIR (R354). -/
def State.opTwinPair (s : State) (t : Option PktTag) (_ : List Word) : State := (s.twinPair false t).packetWaits t
/-- OP_TWIN_YIELD (R345). -/
def State.opTwinYield (s : State) (t : Option PktTag) (_ : List Word) : State := (s.twinYield t).packetWaits t
/-- OP_TWIN_JOIN (R355). -/
def State.opTwinJoin (s : State) (t : Option PktTag) (_ : List Word) : State := (s.twinPair true t).packetWaits t

/-! ## The rows -/

def execOpNop (core : Fin 2) (s : State) : Host.Outcome State Fault Refusal := .next (s.runPacket core.val 0x00 State.opNop)
def execOpIdent (core : Fin 2) (s : State) : Host.Outcome State Fault Refusal := .next (s.runPacket core.val 0x01 State.opIdent)
def execOpRegWrite (core : Fin 2) (s : State) : Host.Outcome State Fault Refusal := .next (s.runPacket core.val 0x02 State.opRegWrite)
def execOpMbxRead (core : Fin 2) (s : State) : Host.Outcome State Fault Refusal := .next (s.runPacket core.val 0x03 State.opMbxRead)
def execOpMbxWrite (core : Fin 2) (s : State) : Host.Outcome State Fault Refusal := .next (s.runPacket core.val 0x04 State.opMbxWrite)
def execOpAxisEnable (core : Fin 2) (s : State) : Host.Outcome State Fault Refusal := .next (s.runPacket core.val 0x10 State.opAxisEnable)
def execOpAxisDisable (core : Fin 2) (s : State) : Host.Outcome State Fault Refusal := .next (s.runPacket core.val 0x11 State.opAxisDisable)
def execOpParamWrite (core : Fin 2) (s : State) : Host.Outcome State Fault Refusal := .next (s.runPacket core.val 0x12 State.opParamWrite)
def execOpParamRead (core : Fin 2) (s : State) : Host.Outcome State Fault Refusal := .next (s.runPacket core.val 0x13 State.opParamRead)
def execOpFaultClear (core : Fin 2) (s : State) : Host.Outcome State Fault Refusal := .next (s.runPacket core.val 0x14 State.opFaultClear)
def execOpEstWrite (core : Fin 2) (s : State) : Host.Outcome State Fault Refusal := .next (s.runPacket core.val 0x30 State.opEstWrite)
def execOpEstLoad (core : Fin 2) (s : State) : Host.Outcome State Fault Refusal := .next (s.runPacket core.val 0x31 State.opEstLoad)
def execOpCamLoad (core : Fin 2) (s : State) : Host.Outcome State Fault Refusal := .next (s.runPacket core.val 0x32 State.opCamLoad)
def execOpCymLoad (core : Fin 2) (s : State) : Host.Outcome State Fault Refusal := .next (s.runPacket core.val 0x33 State.opCymLoad)
def execOpRingStart (core : Fin 2) (s : State) : Host.Outcome State Fault Refusal := .next (s.runPacket core.val 0x40 State.opRingStart)
def execOpRingHalt (core : Fin 2) (s : State) : Host.Outcome State Fault Refusal := .next (s.runPacket core.val 0x41 State.opRingHalt)
def execOpSafetyLoad (core : Fin 2) (s : State) : Host.Outcome State Fault Refusal := .next (s.runPacket core.val 0x50 State.opSafetyLoad)
def execOpCaptureRead (core : Fin 2) (s : State) : Host.Outcome State Fault Refusal := .next (s.runPacket core.val 0x51 State.opCaptureRead)
def execOpNvsWrite (core : Fin 2) (s : State) : Host.Outcome State Fault Refusal := .next (s.runPacket core.val 0x52 State.opNvsWrite)
def execOpNvsCommit (core : Fin 2) (s : State) : Host.Outcome State Fault Refusal := .next (s.runPacket core.val 0x53 State.opNvsCommit)
def execOpBbxRead (core : Fin 2) (s : State) : Host.Outcome State Fault Refusal := .next (s.runPacket core.val 0x54 State.opBbxRead)
def execOpTwinPair (core : Fin 2) (s : State) : Host.Outcome State Fault Refusal := .next (s.runPacket core.val 0x60 State.opTwinPair)
def execOpTwinYield (core : Fin 2) (s : State) : Host.Outcome State Fault Refusal := .next (s.runPacket core.val 0x61 State.opTwinYield)
def execOpTwinJoin (core : Fin 2) (s : State) : Host.Outcome State Fault Refusal := .next (s.runPacket core.val 0x62 State.opTwinJoin)

end Sys2Proof.Machine
end

