-- ==== Sys2Proof/Machine/TollMotion.lean ====
section
/-! DEFINITION. Motion packets and group packets (R378 to R383): writing command blocks, holds, completions, group moves, and the atomic stop and start of axes. -/

namespace Sys2Proof.Machine

/-! ## Command blocks (R154, R381) -/

/-- Write words of an axis's home copy in turn. -/
def State.putBlock (s : State) (a : Nat) (ws : List (Nat × Word)) : State := s.each ws (fun s x => s.parWrite a x.1 x.2)

/-- The `MC_SEQ` of an axis's next motion packet (R381). -/
def State.nextSeq (s : State) (a : Nat) : Word := tabGet (fun _ => 0) s.hif.mcSeq a + 1

/-- Write a command block, `MC_SEQ` last (R381). -/
def State.sendBlock (s : State) (a : Nat) (ws : List (Nat × Word)) : State :=
  let seq := s.nextSeq a
  let s := s.putBlock a (ws ++ [(0xFC, seq)])
  s.putHif { s.hif with mcSeq := tabSet (fun _ => 0) s.hif.mcSeq a seq, mcAt := tabSet (fun _ => none) s.hif.mcAt a (some s.clk) }

/-- `MC_CTL` and `MC_AT` from the common words of a payload (R154, R381). -/
def commonWords (op : Nat) (p : List Word) : List (Nat × Word) :=
  let w := pw p 0
  [(0xC0, wordOf (op + 16 * bitsOf w 8 2 + 64 * bitsOf w 10 1)), (0xC4, p.getD 1 0), (0xC8, p.getD 2 0)]

/-- The words of a payload from word 3 on at block offsets (R381). -/
def placeWords (offs : List Nat) (p : List Word) : List (Nat × Word) := offs.zip (p.drop 3)

/-- A motion packet for one axis (R381). -/
def State.motionOp (s : State) (t : Option PktTag) (op : Nat) (offs : List Nat) (p : List Word) : State :=
  let a := payAxis p
  if 159 < a ∨ bitsOf (pw p 0) 8 2 = 3 then s.packetEnds t stParam 0 []
  else if !s.axisOn a then s.packetEnds t stState 0 []
  else
    let seq := s.nextSeq a
    let s := s.sendBlock a (commonWords op p ++ placeWords offs p)
    (s.addWait t (.motion a seq.toNat)).packetWaits t

def State.opMoveAbs (s : State) (t : Option PktTag) (p : List Word) : State := s.motionOp t 1 [0xCC, 0xD0, 0xD4, 0xD8, 0xDC, 0xE0] p
def State.opMoveRel (s : State) (t : Option PktTag) (p : List Word) : State := s.motionOp t 2 [0xCC, 0xD0, 0xD4, 0xD8, 0xDC, 0xE0] p
def State.opVelocity (s : State) (t : Option PktTag) (p : List Word) : State := s.motionOp t 3 [0xD4, 0xD8, 0xDC, 0xE0] p
def State.opStop (s : State) (t : Option PktTag) (p : List Word) : State := s.motionOp t 4 [0xDC, 0xE0] p
def State.opGear (s : State) (t : Option PktTag) (p : List Word) : State := s.motionOp t 6 [0xCC, 0xD0, 0xE4, 0xE8, 0xEC] p
def State.opCam (s : State) (t : Option PktTag) (p : List Word) : State := s.motionOp t 7 [0xCC, 0xD0, 0xE4, 0xE8, 0xF0, 0xF4] p
def State.opHome (s : State) (t : Option PktTag) (p : List Word) : State := s.motionOp t 8 [] p

/-! ## Group moves (R163, R383) -/

/-- A member of a group move: axis and target. -/
structure GroupMember where
  axis : Nat
  target : Int
  deriving DecidableEq, Repr

/-- The members a payload names. -/
def groupMembers (p : List Word) : List GroupMember :=
  (List.range (pw p 0 % 256)).map (fun i =>
    ⟨pw p (7 + 3 * i), (BitVec.ofNat 64 (nat64 (p.getD (8 + 3 * i) 0) (p.getD (9 + 3 * i) 0))).toInt⟩)

/-- A member's distance Δ in pos64, from its setpoint in axis coordinates (R163, R176). -/
def State.memberDelta (s : State) (g : GroupMember) : Int :=
  let x := (s.homeDyn g.axis).motion
  g.target - x.toAxis x.pSet

/-- Is a member at rest (R164)? -/
def State.memberRests (s : State) (g : GroupMember) : Bool :=
  let x := (s.homeDyn g.axis).motion
  fIsZero x.vSet && fIsZero x.aSet

/-- L in whole counts from the largest |Δ| in pos64; its rounding is open (log entry 76). -/
def groupLength (d : Nat) : Nat := d / 65536 + if d % 65536 ≠ 0 ∧ Config.planRoundUp 100 (d : Int) 65536 then 1 else 0

/-- K of a member in Q2.30: ±1 for the longest, else Δ / L, its rounding open (R163; log entry 76). -/
def groupRatio (longest : Nat) (d : Int) : Int :=
  let l : Int := (groupLength longest * 65536 : Nat)
  if d.natAbs = longest then (if d < 0 then -(2 ^ 30) else 2 ^ 30)
  else if l = 0 then 0
  else d * 2 ^ 30 / l + if d * 2 ^ 30 % l ≠ 0 ∧ Config.planRoundUp 101 (d * 2 ^ 30) l then 1 else 0

/-- A parameter of the home copy as it is used (R143). -/
def State.homeParUse (s : State) (a off : Nat) : Word :=
  match parKind off with
  | none => s.homePar a off
  | some k => parUse k (s.homePar a off)

/-- A path limit (R383): the smallest over the members that move of their limit × L / |Δ|, and the payload's limit where one is given. -/
def State.pathLimit (s : State) (gs : List GroupMember) (len off : Nat) (given : Word) : Word :=
  let each (g : GroupMember) : List F32 :=
    let d := s.memberDelta g
    if d = 0 then [] else [fDiv (fMul (s.homeParUse g.axis off) (fOfInt (len : Int))) (fOfPos (d.natAbs : Int))]
  let ls := gs.flatMap each ++ (if fIsZero given then [] else [given])
  match ls with
  | [] => 0
  | l :: rest => rest.foldl fMin l

/-- The index of the first payload word at fault in the members: an axis past 159, named twice, or disabled (R383). -/
def State.groupBad (s : State) (gs : List GroupMember) : Option Nat :=
  (List.range gs.length).find? (fun i =>
    let a := (gs.map (fun g => g.axis)).getD i 0
    decide (159 < a) || !s.axisOn a || ((gs.take i).any (fun g => g.axis == a)))

/-- OP_GROUP_MOVE (R163, R383). -/
def State.opGroupMove (s : State) (t : Option PktTag) (p : List Word) : State :=
  let m := pw p 0 % 256
  let gs := groupMembers p
  if p.length ≠ 7 + 3 * m then s.packetEnds t stLength noWord []
  else if bitsOf (pw p 0) 8 2 = 3 then s.packetEnds t stParam 0 []
  else match s.groupBad gs with
    | some i => s.packetEnds t stParam (7 + 3 * i) []
    | none =>
      match gs.findIdx? (fun g => !s.memberRests g) with
      | some i => s.packetEnds t stState (7 + 3 * i) []
      | none =>
        let ds := gs.map (fun g => (s.memberDelta g).natAbs)
        let longest := ds.foldl max 0
        let len := groupLength longest
        let start := bitsOf (pw p 0) 8 2
        let ctl := wordOf (5 + 16 * if start = 0 then 1 else start)
        let at_ : List Word := if start = 0 then [s.cyc.bcIdx + 2, 0] else [p.getD 1 0, p.getD 2 0]
        let lim (off k : Nat) : Word := s.pathLimit gs len off (p.getD k 0)
        let block (g : GroupMember) : List (Nat × Word) :=
          let k := BitVec.ofInt 32 (groupRatio longest (s.memberDelta g))
          [(0xC0, ctl), (0xC4, at_.getD 0 0), (0xC8, at_.getD 1 0), (0xCC, BitVec.ofInt 32 g.target), (0xD0, BitVec.ofInt 32 (g.target / 2 ^ 32)),
           (0xD4, lim 4 3), (0xD8, lim 8 4), (0xDC, lim 0xC 5), (0xE0, lim 0x10 6), (0xE4, k), (0xE8, wordOf len), (0xEC, wordOf (len / 2 ^ 32))]
        let seqs := gs.map (fun g => (g.axis, (s.nextSeq g.axis).toNat))
        let last := (gs.find? (fun g => (s.memberDelta g).natAbs == longest)).elim 0 (fun g => g.axis)
        let blocks := gs.map (fun g => (g.axis, block g))
        let s := s.each blocks (fun s b => s.sendBlock b.1 b.2)
        (s.addWait t (.group seqs last [])).packetWaits t

/-! ## Holds (R381) -/

/-- The axes a motion payload names. -/
def motionAxes (op : Nat) (p : List Word) : List Nat := if op = 0x27 then (groupMembers p).map (fun g => g.axis) else [payAxis p]

/-- The task period of an axis in clk. -/
def State.taskClk (s : State) (a : Nat) : Nat := if s.axisClass a = 1 then s.pExp else s.nBc

/-- Have 2 task periods passed since the previous `MC_SEQ` for the axis landed? -/
def State.holdOver (s : State) (a : Nat) : Bool :=
  match tabGet (fun _ => none) s.hif.mcAt a with
  | none => true
  | some c => decide (c + 2 * s.taskClk a ≤ s.clk)

/-- Run a motion packet, or hold it (R381). -/
def State.runMotion (s : State) (k op : Nat) (g : State → Option PktTag → List Word → State) : State :=
  match s.opDue k op with
  | none => s
  | some p => if (motionAxes op p.pay).all s.holdOver then s.runPacket k op g else s.putCur k { p with held := true }

/-- MOTION_HOLD_END (R381): held packets whose axes are past their hold go on. -/
def execMotionHoldEnd (s : State) : Host.Outcome State Fault Refusal :=
  .next (s.each [0, 1] (fun s k => match (s.core k).cur with
    | some p => if p.held && (motionAxes p.tag.op p.pay).all s.holdOver then s.putCur k { p with held := false, readyAt := s.clk } else s
    | none => s))

def execOpMoveAbs (core : Fin 2) (s : State) : Host.Outcome State Fault Refusal := .next (s.runMotion core.val 0x20 State.opMoveAbs)
def execOpMoveRel (core : Fin 2) (s : State) : Host.Outcome State Fault Refusal := .next (s.runMotion core.val 0x21 State.opMoveRel)
def execOpVelocity (core : Fin 2) (s : State) : Host.Outcome State Fault Refusal := .next (s.runMotion core.val 0x22 State.opVelocity)
def execOpStop (core : Fin 2) (s : State) : Host.Outcome State Fault Refusal := .next (s.runMotion core.val 0x23 State.opStop)
def execOpGear (core : Fin 2) (s : State) : Host.Outcome State Fault Refusal := .next (s.runMotion core.val 0x24 State.opGear)
def execOpCam (core : Fin 2) (s : State) : Host.Outcome State Fault Refusal := .next (s.runMotion core.val 0x25 State.opCam)
def execOpHome (core : Fin 2) (s : State) : Host.Outcome State Fault Refusal := .next (s.runMotion core.val 0x26 State.opHome)
def execOpGroupMove (core : Fin 2) (s : State) : Host.Outcome State Fault Refusal := .next (s.runMotion core.val 0x27 State.opGroupMove)

/-! ## Completions (R157, R382, R383) -/

/-- The status code of a report. -/
def motionStatusCode : MotionStatus → Nat
  | .ok => stOk
  | .limit => stLimit
  | .param => stParam
  | .state => stState
  | .aborted => stAborted

/-- RES0 to RES3 of a report (R382). -/
def reportWords (r : MotionReport) : List Word :=
  [BitVec.ofInt 32 r.overshoot, BitVec.ofInt 32 (r.overshoot / 2 ^ 32), wordOf r.dur, r.seq]

/-- DETAIL of a status (R369). -/
def detailOf (st : Nat) : Nat := if st = stOk then 0 else noWord

/-- Complete a waiting motion packet whose status was decided at a time (R369). -/
def State.motionDone (s : State) (t : Option PktTag) (ns : Word) (status : Nat) (r : MotionReport) : State :=
  match t with
  | none => s
  | some t => s.finishAt t 0 status (detailOf status) ns (reportWords r)

/-- A group packet whose members have all reported (R383): the first status other than ST_OK in member order, the results of the longest member. -/
def State.groupDone (s : State) (t : Option PktTag) (ns : Word) (members : List (Nat × Nat)) (longest : Nat) (reports : List (Nat × MotionReport)) : State :=
  let rs := members.filterMap (fun m => reports.find? (fun r => r.1 == m.1))
  let st := (((rs.map (fun r => motionStatusCode r.2.status)).find? (fun c => c != stOk))).getD stOk
  s.motionDone t ns st ((rs.find? (fun r => r.1 == longest)).elim ⟨.ok, 0, 0, 0⟩ (fun r => r.2))

/-- Give a report to one wait: what is left of the wait, and the state. -/
def State.reportTo (s : State) (a : Nat) (ns : Word) (r : MotionReport) (w : Waiting) : State × List Waiting :=
  match w.kind with
  | .motion b q => if b = a ∧ q = r.seq.toNat then (s.motionDone w.tag ns (motionStatusCode r.status) r, []) else (s, [w])
  | .group ms l rs =>
    if ms.contains (a, r.seq.toNat) ∧ !rs.any (fun x => x.1 == a) then
      let rs := rs ++ [(a, r)]
      if rs.length = ms.length then (s.groupDone w.tag ns ms l rs, []) else (s, [{ w with kind := .group ms l rs }])
    else (s, [w])
  | _ => (s, [w])

/-- Give a report to every wait. -/
def State.reportAll (s : State) (a : Nat) (ns : Word) (r : MotionReport) : List Waiting → State × List Waiting
  | [] => (s, [])
  | w :: ws =>
    let x := s.reportTo a ns r w
    let y := x.1.reportAll a ns r ws
    (y.1, x.2 ++ y.2)

/-- A report reaches Tollgate. -/
def State.report (s : State) (a : Nat) (ns : Word) (r : MotionReport) : State :=
  let x := s.reportAll a ns r s.hif.waits
  x.1.putHif { x.1.hif with waits := x.2 }

/-- MOTION_COMPLETION: reports whose clk has come complete their packets (R157, R382). -/
def execMotionCompletion (s : State) : Host.Outcome State Fault Refusal :=
  let due := s.dsp.reports.filter (fun x => decide (x.1 ≤ s.clk))
  let s : State := { s with dsp := { s.dsp with reports := s.dsp.reports.filter (fun x => !decide (x.1 ≤ s.clk)) } }
  .next (s.each due (fun s x => s.report x.2.1 x.2.2.1 x.2.2.2)).cqDue

/-! ## Quiesce and resume (R378, R379) -/

/-- The axes a map of five words names. -/
def mapAxes (p : List Word) : List Nat := axisList.filter (fun a => (pw p (a / 32)).testBit (a % 32))

/-- Drop the pending resumes that a test picks, each with a status `after` clk from now. -/
def State.dropResumes (s : State) (g : Resume → Bool) (after status : Nat) : State :=
  s.endWaits (fun k => match k with | .resume r => g r | _ => false) after status noWord []

/-- OP_GROUP_QUIESCE (R378): a pending resume that names an axis of the map is cancelled at once (log entry 79); the axes stop at the next t0. -/
def State.opGroupQuiesce (s : State) (t : Option PktTag) (p : List Word) : State :=
  let axes := mapAxes p
  match axes.find? (fun a => !s.axisOn a) with
  | some a => s.packetEnds t stState a []
  | none =>
    let s := s.dropResumes (fun r => r.axes.any (fun a => axes.contains a)) 16 stAborted
    (s.addWait t (.quiesce axes s.clk)).packetWaits t

/-- A running axis enters STATE 1; its load test ends (R136), and its taken command that has not reached its start task ends with ST_ABORTED (R378). -/
def State.quiesceAxis (s : State) (a : Nat) : State :=
  if s.axisState a = 2 then
    let d := quiescedDyn (s.homeDyn a)
    let s := (s.setF (R.AXT_W2_STATE a) 1).markWork a (fun w => { w with quiesced := true })
    match d.motion.wait with
    | none => s.putDyn a d
    | some c =>
      let s := s.putDyn a { d with motion := { d.motion with wait := none } }
      { s with dsp := { s.dsp with reports := s.dsp.reports ++ [(s.clk, a, s.nt.ns, ⟨.aborted, c.seq, 0, 0⟩)] } }
  else s

/-- A quiesce wait that is due at this t0. -/
def State.quiesceDue (s : State) (k : WaitKind) : Bool :=
  match k with
  | .quiesce _ at_ => decide (at_ < s.cyc.t0)
  | _ => false

/-- GROUP_QUIESCE_EFFECT (R378). -/
def execGroupQuiesceEffect (s : State) : Host.Outcome State Fault Refusal :=
  let due := s.waiting s.quiesceDue
  let s' := s.each due (fun s w => match w.kind with
    | .quiesce axes _ => s.each axes (fun s a => s.quiesceAxis a)
    | _ => s)
  .next (s'.endWaits s.quiesceDue 16 stOk 0 [])

/-- OP_GROUP_RESUME (R379): registration. -/
def State.opGroupResume (s : State) (t : Option PktTag) (p : List Word) : State :=
  let axes := mapAxes p
  let start := pw p 5 % 4
  let taken (a : Nat) : Bool := s.hif.waits.any (fun w => match w.kind with | .resume r => r.axes.contains a | _ => false)
  if start = 3 then s.packetEnds t stParam 5 []
  else match axes.find? (fun a => s.axisState a != 1 || taken a) with
    | some a => s.packetEnds t stState a []
    | none => (s.addWait t (.resume ⟨axes, start, p.getD 6 0, p.getD 7 0, s.cyc.bcIdx, pw p 5 / 65536⟩)).packetWaits t

/-- Does the snapshot of this bc cross a chainage position (R379)? -/
def State.snapCrosses (s : State) (lo hi : Word) : Bool :=
  let c := chn96 (BitVec.ofNat 64 (nat64 lo hi))
  let step := chnAhead s.chn.snap.s s.chn.prevS
  let d := chnAhead c s.chn.prevS
  (decide (0 < step) && decide (0 < d) && decide (d ≤ step)) || (decide (step < 0) && decide (step ≤ d) && decide (d < 0))

/-- Is this bc the resume bc (R379)? It begins after the registration; one past the deadline is none. -/
def State.resumeNow (s : State) (r : Resume) : Bool :=
  let past := (s.cyc.bcIdx - r.regBc).toInt
  decide (0 < past) && (r.tmo == 0 || decide (past ≤ 64 * (r.tmo : Int))) &&
    (if r.start = 0 then true
     else if r.start = 1 then decide (0 ≤ (s.cyc.bcIdx - r.atLo).toInt)
     else s.snapCrosses r.atLo r.atHi)

/-- Is the station of a ring axis ACTIVE (R261, R379)? Class L has none. -/
def State.stationActive (s : State) (a : Nat) : Bool :=
  s.axisClass a == 2 || (match s.axisStation a with | some n => s.stnActive n | none => false)

/-- A quiesced axis enters STATE 2; its next task is its first after a resume (R118, R152, R379). -/
def State.resumeAxis (s : State) (a : Nat) : State :=
  if s.axisState a = 1 then (s.setF (R.AXT_W2_STATE a) 2).putDyn a { s.homeDyn a with fresh := true } else s

/-- A resume whose bc has come (R379). -/
def State.resumeRun (s : State) (w : Waiting) (r : Resume) : State :=
  match r.axes.find? (fun a => !s.stationActive a) with
  | some a => s.finishOpt w.tag 16 stState a []
  | none => (s.each r.axes (fun s a => s.resumeAxis a)).finishOpt w.tag 16 stOk 0 []

/-- Is a wait a resume whose bc has come? -/
def State.isResumeNow (s : State) (k : WaitKind) : Bool :=
  match k with
  | .resume r => s.resumeNow r
  | _ => false

/-- GROUP_RESUME_EFFECT (R379). -/
def execGroupResumeEffect (s : State) : Host.Outcome State Fault Refusal :=
  let due := s.waiting s.isResumeNow
  let s' := s.putHif { s.hif with waits := s.hif.waits.filter (fun w => !s.isResumeNow w.kind) }
  .next (s'.each due (fun s w => match w.kind with
    | .resume r => s.resumeRun w r
    | _ => s))

/-- Has a resume passed its deadline, t0 of the bc 64 × TMO after its registration (R379)? On that bc the resume wins. -/
def State.resumeLate (s : State) (r : Resume) : Bool := r.tmo != 0 && decide (64 * (r.tmo : Int) ≤ (s.cyc.bcIdx - r.regBc).toInt) && !s.resumeNow r

/-- GROUP_RESUME_TIMEOUT (R379). -/
def execGroupResumeTimeout (s : State) : Host.Outcome State Fault Refusal := .next (s.dropResumes s.resumeLate 16 stTimeout)

def execOpGroupQuiesce (core : Fin 2) (s : State) : Host.Outcome State Fault Refusal := .next (s.runPacket core.val 0x15 State.opGroupQuiesce)
def execOpGroupResume (core : Fin 2) (s : State) : Host.Outcome State Fault Refusal := .next (s.runPacket core.val 0x16 State.opGroupResume)

/-! ## Any opcode of the mirrored class (R352, R387) -/

/-- The effect of a mirrored packet. -/
def State.runMirrored (s : State) (op : Nat) (t : Option PktTag) (p : List Word) : State :=
  if op = 0x04 then s.opMbxWrite t p
  else if op = 0x10 then s.opAxisEnable t p
  else if op = 0x11 then s.opAxisDisable t p
  else if op = 0x12 then s.opParamWrite t p
  else if op = 0x13 then s.opParamRead t p
  else if op = 0x14 then s.opFaultClear t p
  else if op = 0x15 then s.opGroupQuiesce t p
  else if op = 0x16 then s.opGroupResume t p
  else if op = 0x20 then s.opMoveAbs t p
  else if op = 0x21 then s.opMoveRel t p
  else if op = 0x22 then s.opVelocity t p
  else if op = 0x23 then s.opStop t p
  else if op = 0x24 then s.opGear t p
  else if op = 0x25 then s.opCam t p
  else if op = 0x26 then s.opHome t p
  else if op = 0x27 then s.opGroupMove t p
  else if op = 0x30 then s.opEstWrite t p
  else if op = 0x31 then s.opEstLoad t p
  else if op = 0x32 then s.opCamLoad t p
  else if op = 0x33 then s.opCymLoad t p
  else if op = 0x40 then s.opRingStart t p
  else if op = 0x41 then s.opRingHalt t p
  else s

end Sys2Proof.Machine
end

