-- ==== Sys2Proof/Machine/TwnMirror.lean ====
section
/-! DEFINITION. Mirrored packets of twin heads (R352, R353, R358): the mirror frame, its acknowledgement, and the execution on both pylons. -/

namespace Sys2Proof.Machine

/-- An acknowledgement of a mirror frame (R358). -/
def ackFrame (num : Nat) : List Byte := pairFrame (bytesOf 1 3 ++ [0] ++ bytesOf 2 num)

/-- The mirrored packet that a mirror frame carries, if it is one (R358). A payload of up to 12 words stands in the entry itself (R368). -/
def parseMirror (bs : List Byte) : Option Mirror :=
  let entry := wordsOfBytes ((bs.drop 8).take 64)
  let n := entryLen entry
  let more := if 12 < n then 4 * n else 0
  if bs.length = 76 + more ∧ pairField bs 0 1 = 2 then
    some ⟨pairField bs 2 2, wordOf (pairField bs 4 4), entry, if 12 < n then wordsOfBytes ((bs.drop 72).take (4 * n)) else (entry.drop 4).take n, none, false⟩
  else none

/-- A partner takes a mirrored packet and acknowledges it (R352). -/
def State.mirrorTake (s : State) (m : Mirror) : State :=
  if s.role = 2 then (s.putTwn { s.twn with mirrors := s.twn.mirrors ++ [m] }).pairSend (ackFrame m.num) else s

/-- MIRROR_FRAME_RECEIVE (R352). -/
def execMirrorFrameReceive (bytes : List Byte) (s : State) : Host.Outcome State Fault Refusal :=
  .next (s.pairRx bytes (fun s => match parseMirror bytes with
    | some m => s.mirrorTake m
    | none => s))

/-- The acknowledgement of a mirror number arrives at the holder, in time where the effect bc is still to come (R352). -/
def State.mirrorAck (s : State) (num : Nat) : State :=
  s.putTwn { s.twn with mirrors := s.twn.mirrors.map (fun m => if m.num = num ∧ (s.cyc.bcIdx - m.bc).toInt < 0 then { m with acked := true } else m) }

/-- MIRROR_ACK_RECEIVE (R352, R358). -/
def execMirrorAckReceive (bytes : List Byte) (s : State) : Host.Outcome State Fault Refusal :=
  .next (s.pairRx bytes (fun s => if bytes.length = 8 ∧ pairField bytes 0 1 = 3 ∧ s.isHolder then s.mirrorAck (pairField bytes 2 2) else s))

/-- Is a mirrored packet refused when its effect bc comes (R352): the holder's without its acknowledgement, and any by a fenced pylon (R346)? -/
def State.mirrorRefused (s : State) (m : Mirror) : Bool := s.role == 4 || (m.tag.isSome && !m.acked)

/-- The opcode of a mirrored packet. -/
def Mirror.op (m : Mirror) : Nat := (m.entry.getD 0 0).toNat % 256

/-- A mirrored packet's effect (R352). -/
def State.mirrorRun (s : State) (m : Mirror) : State :=
  if s.mirrorRefused m then (s.set1 R.TWN_STAT_CMD_REF).packetEnds m.tag stState noWord []
  else s.runMirrored m.op m.tag m.pay

/-- Is a mirrored packet due: refused at t0 of its effect bc, or its execution over, which begins at that t0 (R352, R387, R466)? -/
def State.mirrorDue (s : State) (m : Mirror) : Bool :=
  let d := (s.cyc.bcIdx - m.bc).toInt
  decide (0 < d) || (d == 0 && (s.mirrorRefused m || decide (s.cyc.t0 + s.opEnd m.op m.pay ≤ s.clk)))

/-- MIRROR_EXECUTE: the oldest mirrored packet that is due in its effect bc (R352, R353, R466). -/
def execMirrorExecute (s : State) : Host.Outcome State Fault Refusal :=
  match s.twn.mirrors.find? s.mirrorDue with
  | none => .next s
  | some m => .next ((s.putTwn { s.twn with mirrors := s.twn.mirrors.erase m }).mirrorRun m)

end Sys2Proof.Machine
end

