-- ==== Sys2Proof/Machine/HifReset.lean ====
section
/-! DEFINITION. The PCIe link and the resets of host scope (R32, R363, R432), and the restart of Tollgate by its watchdog (R388). -/

namespace Sys2Proof.Machine

/-! ## The PCIe link -/

/-- The link goes down (R32, R363): every queue stays. -/
def State.linkDown (s : State) : State :=
  if s.flag R.HIF_LINK_UP then ((s.putReg R.HIF_LINK 0).set1 R.HIF_STAT_LINKDN).raise 0xE1 0 0 else s

/-- PCIE_LINK_DOWN (R32, R363). -/
def execPcieLinkDown (s : State) : Host.Outcome State Fault Refusal := .next s.linkDown

/-- PCIE_LINK_UP: the link has trained 1, 2 or 4 lanes at a speed code 1 to 3 (R360, R363, R389); messages held for it are sent (R405). Without the PCIe PLL there is no
link (R430). -/
def execPcieLinkUp (width speed : Nat) (s : State) : Host.Outcome State Fault Refusal :=
  if !s.pllLocked 4 ∨ !([1, 2, 4].contains width && [1, 2, 3].contains speed) then .next s
  else .next (((s.set1 R.HIF_LINK_UP).setF R.HIF_LINK_WIDTH width).setF R.HIF_LINK_SPEED speed).msixRelease

/-! ## Host scope -/

/-- Registers of a range but one return to their reset values. -/
def State.resetRange (s : State) (lo hi keep : Nat) : State :=
  { s with regs := s.regs.filter (fun e => decide (e.1 < lo) || decide (hi ≤ e.1) || e.1 == keep) }

/-- The host interface resets (R363, R432): every queue is empty, packets not fetched are discarded, those in execution write no completion, and the MSI-X configuration is
that of reset. The HIF registers but for the link's return to their reset values (log entry 80). -/
def State.hostReset (s : State) : State :=
  let s := s.resetRange 0x220000 0x221000 R.HIF_LINK
  let cores := s.hif.cores.map (fun e => (e.1, { e.2 with stalled := false }))
  let s := s.putHif { s.hif with bell := [], gen := s.hif.gen + 1, cores := cores.filter (fun e => e.2 != Core.idle), stallBc := 0 }
  { s with evt := { s.evt with msixMask := 0xFFFFFFFF, msixPend := 0, msgs := [] } }

/-- FUNCTION_LEVEL_RESET: a Function Level Reset, or a hot reset (R363, R432, R440). -/
def execFunctionLevelReset (_ : Bool) (s : State) : Host.Outcome State Fault Refusal := .next (s.hostReset.set1 R.GLB_RST_CAUSE_FLR)

/-- PERST: PERST_N low; the PHY is reset too, and the link trains anew (R432, R440). -/
def execPerst (s : State) : Host.Outcome State Fault Refusal := .next (s.linkDown.hostReset.set1 R.GLB_RST_CAUSE_PERST)

/-- SOFTWARE_RESET_HOST: an accepted `GLB_SWRST` pair with SCOPE 1 (R432, R440). -/
def execSoftwareResetHost (s : State) : Host.Outcome State Fault Refusal :=
  match s.takeAccepted R.GLB_SWRST with
  | none => .next s
  | some (_, s) => .next (s.hostReset.set1 R.GLB_RST_CAUSE_SW)

/-! ## Tollgate's watchdog -/

/-- The packets whose execution has begun and has not ended: those the cores hold, and those that wait (R388; log entry 81). -/
def State.inFlight (s : State) : List PktTag :=
  let held := [0, 1].flatMap (fun k => match (s.core k).cur with
    | some p => [p.tag]
    | none => [])
  let waits := s.hif.waits.flatMap (fun w => match w.tag with
    | some t => if held.contains t then [] else [t]
    | none => [])
  held ++ waits

/-- Both cores restart (R388): every packet in flight completes with `ST_RESTART`; what flash requests and mirrored packets still do, they do without a packet. -/
def State.tollRestart (s : State) : State :=
  let tags := s.inFlight
  let s := s.putHif { s.hif with cores := [], waits := [], restart := some s.clk }
  let s : State := { s with nvs := { s.nvs with queue := s.nvs.queue.map (fun q => { q with tag := none }) } }
  let s := s.putTwn { s.twn with mirrors := s.twn.mirrors.map (fun m => { m with tag := none }), pairAt := none }
  let s := s.each tags (fun s t => s.finish t 0 stRestart noWord [])
  ((s.set1 R.HIF_STAT_RESTART).set1 R.GLB_RST_CAUSE_TG_WDOG).raise 0xE3 0 0

/-- TOLLGATE_WATCHDOG_EXPIRY (R32, R388). -/
def execTollgateWatchdogExpiry (s : State) : Host.Outcome State Fault Refusal := .next s.tollRestart

/-- TOLLGATE_RESTART_END: fetching resumes at each queue's head, within 2 ms of the expiry (R388). -/
def execTollgateRestartEnd (s : State) : Host.Outcome State Fault Refusal := .next (s.putHif { s.hif with restart := none })

end Sys2Proof.Machine
end

