-- ==== Sys2Proof/Machine/Reset.lean ====
section
/-! DEFINITION. Clocks, resets and the debug port (R429 to R433, R439, R440, R444, R448): PLLs, the reset sources and their scopes, JTAG instructions. -/

namespace Sys2Proof.Machine

/-! ## PLLs -/

/-- Set or clear the LOCK bit of a PLL. -/
def State.pllLock (s : State) (i : Nat) (on : Bool) : State :=
  let l := s.f R.GLB_CLK_STAT_LOCK
  s.setF R.GLB_CLK_STAT_LOCK (if on then l ||| 2 ^ i else l - (if l.testBit i then 2 ^ i else 0))

/-- LINK of the ports of a SerDes PLL follows it: ports 0 to 3 for PLL 2, 4 and 5 for PLL 3 (R430). -/
def State.pllPorts (s : State) (i : Nat) : State :=
  s.each (if i = 2 then [0, 1, 2, 3] else if i = 3 then [4, 5] else []) (fun s p => s.linkSet p (tabGet (fun _ => 0) s.ring.pins p == 1))

/-- PLL_LOCK (R430). The main PLL is not relocked after a loss until a full reset. -/
def execPllLock (i : Fin 6) (s : State) : Host.Outcome State Fault Refusal :=
  if i.val = 0 ∧ s.sysLost then .next s else .next ((s.pllLock i.val true).pllPorts i.val)

/-- What the failure of a PLL, which had locked before or not, does beside its FAIL bit (R430). -/
def State.pllFail (s : State) (i : Nat) (was : Bool) : State :=
  if i = 0 then (if was then s.sysclkLose else s)
  else if i = 1 then
    let s := (s.set1 R.DDR_STAT_TFAIL).clr R.DDR_STAT_TRAINED
    s.when s.acqRuns (fun s => s.acqStop 5)
  else if i = 4 then s.linkDown
  else if i = 5 then (if was then s.krefLose else s)
  else s.pllPorts i

/-- PLL_LOCK_TIMEOUT: the lock time is exceeded, or lock is lost (R430, R440). -/
def execPllLockTimeout (i : Fin 6) (s : State) : Host.Outcome State Fault Refusal :=
  let was := s.pllLocked i.val
  let s := s.pllLock i.val false
  .next ((s.setF R.GLB_CLK_STAT_FAIL (s.f R.GLB_CLK_STAT_FAIL ||| 2 ^ i.val)).pllFail i.val was)

/-! ## Flash at a reset -/

/-- Pages of a tile's operation that are whole `t` clk after its start, of 17 programs (R424). -/
def State.tilePages (s : State) (t : Nat) : Nat := min 16 (t / s.progClk 256)

/-- Program the first pages of a tile. -/
def State.tileProgram (s : State) (area n pages : Nat) : State := s.flashProgram (areaAt area + 4096 * n) ((s.tileBytes (n - 1)).take (256 * pages))

/-- A reset that acts at once cuts off the program or erase under way: what it was writing holds free values (R433). -/
def State.flashCut (s : State) : State :=
  match s.nvs.run with
  | none => s
  | some (.head, _) =>
    match (s.nvs.queue.head?).bind (fun q => q.steps.head?) with
    | some (.prog a bs) => s.flashSpoil a bs.length
    | some (.erase a) => s.flashSpoil a 4096
    | _ => s
  | some (.boxed n, end_) =>
    match s.nvs.commit with
    | none => s
    | some c =>
      if n = 0 then s.flashSpoil (areaAt c.area) 64
      else
        let k := s.tilePages (s.clk + s.boxClk n - end_)
        let s := s.tileProgram c.area n k
        if k < 16 then s.flashSpoil (areaAt c.area + 4096 * n + 256 * k) 256 else s.flashSpoil (areaAt c.area + 0x100 + 16 * (n - 1)) 16

/-- Must a reset by software wait: a page program or a sector erase runs (R433)? A tile's pages are programs of their own. -/
def State.flashWrites (s : State) : Bool :=
  match s.nvs.run with
  | none => false
  | some (.head, _) => match (s.nvs.queue.head?).bind (fun q => q.steps.head?) with
    | some (.read _ _) => false
    | none => false
    | _ => true
  | some (.boxed n, end_) => n == 0 || decide (16 * s.progClk 256 ≤ s.clk + s.boxClk n - end_)

/-- A reset by software lets the page program under way end (R433). -/
def State.flashSettle (s : State) : State :=
  match s.nvs.run, s.nvs.commit with
  | some (.boxed n, end_), some c => if n = 0 then s else s.tileProgram c.area n (min 16 (s.tilePages (s.clk + s.boxClk n - end_) + 1))
  | _, _ => s

/-! ## Full resets -/

/-- A full reset: every block, with the flash contents and the confirmation store kept (R432). The commands still waiting, the model's counter of free values and the JTAG
instruction are no part of it. -/
def State.fullReset (s : State) : State :=
  { State.reset with
    pending := s.pending, free := s.free
    host := { State.reset.host with jtag := s.host.jtag }
    nvs := { Nvs.reset with flash := s.nvs.flash }
    kst := { Keystone.reset with conf := s.kst.conf } }

/-- A full reset with its cause added to the causes kept (R432, R440). -/
def State.fullResetBy (s : State) (cause : Fld) : State := (s.fullReset.putReg R.GLB_RST_CAUSE (s.reg R.GLB_RST_CAUSE)).set1 cause

/-- RESET_PIN: RESET_N low for at least 1 µs (R432, R433). An EXTEST or SAMPLE instruction acts as BYPASS once RESET_N is high (R439). -/
def execResetPin (s : State) : Host.Outcome State Fault Refusal :=
  let j := s.host.jtag
  let s := s.flashCut.fullResetBy R.GLB_RST_CAUSE_PIN
  .next { s with host := { s.host with jtag := if j = .idcode then .idcode else .bypass } }

/-- The state after the power-on reset: POR is the only cause (R431, R440, R448); the JTAG port is reset too. -/
def State.powerReset (s : State) : State :=
  let s := s.flashCut.fullReset
  { s with host := { s.host with jtag := .idcode } }

/-- POWER_ON (R431, R432, R448). -/
def execPowerOn (s : State) : Host.Outcome State Fault Refusal := .next s.powerReset

/-- SUPPLY_BROWNOUT: the internal power-on reset asserts a full reset (R448). -/
def execSupplyBrownout (_ : Rail) (s : State) : Host.Outcome State Fault Refusal := .next s.powerReset

/-! ## Resets by software -/

/-- Is a reset of a scope due: asked for 64 clk ago or more, with no page program or erase running (R433)? -/
def State.resetDue (s : State) (scope : Nat) : Bool :=
  match s.host.swrst with
  | some (c, at_) => c == scope && decide (at_ + 64 ≤ s.clk) && !s.flashWrites
  | none => false

/-- SOFTWARE_RESET_FULL (R432, R433). -/
def execSoftwareResetFull (s : State) : Host.Outcome State Fault Refusal :=
  if s.resetDue 3 then .next (s.flashSettle.fullResetBy R.GLB_RST_CAUSE_SW) else .next s

/-- Does a register keep its value across a core reset: Keystone's, the PCIe link's, the causes, and what SFDP gave (R432, R435; log entry 82)? -/
def coreKeeps (a : Nat) : Bool :=
  (decide (0x200000 ≤ a) && decide (a < 0x202000)) || a == R.HIF_LINK || a == R.GLB_RST_CAUSE || a == R.NVS_SIZE

/-- The PLLs whose lock a core reset keeps: main, PCIe, Keystone (R432). -/
def State.coreLocks (s : State) (x : Fld) : Nat := s.f x &&& 0x31

/-- A core reset: every block but Keystone, the PCIe endpoint and its link; the boot goes on from step 3 (R432, R435). -/
def State.coreReset (s : State) : State :=
  let n := s.nvs
  let t : State := { State.reset with
    pending := s.pending, free := s.free, clk := s.clk
    regs := s.regs.filter (fun e => coreKeeps e.1)
    host := { State.reset.host with coreBoot := true, jtag := s.host.jtag }
    evt := { State.reset.evt with msixMask := s.evt.msixMask }
    cyc := { State.reset.cyc with t0 := s.clk }
    kst := { s.kst with builtBc := none }
    krefLost := s.krefLost
    acq := { Acq.reset with adcAt := s.clk + 400 }
    nvs := { Nvs.reset with flash := n.flash, tpp := n.tpp, tse := n.tse, validAt := s.clk + 800000 } }
  let t := (t.setF R.GLB_CLK_STAT_LOCK (s.coreLocks R.GLB_CLK_STAT_LOCK)).setF R.GLB_CLK_STAT_FAIL (s.coreLocks R.GLB_CLK_STAT_FAIL)
  let t := ((t.putReg R.NVS_T_PP (wordOf n.tpp)).putReg R.NVS_T_SE (wordOf n.tse)).setB R.NVS_STAT_SFDP_OK (s.flag R.NVS_STAT_SFDP_OK)
  let t := t.setB R.PWM_FLT_STAT_KST (s.flag R.KST_STAT_FORCE)
  t.setF R.GLB_BOOT_STATE 3

/-- SOFTWARE_RESET_CORE (R432, R433, R440). -/
def execSoftwareResetCore (s : State) : Host.Outcome State Fault Refusal :=
  if s.resetDue 2 then .next ((s.flashSettle.coreReset.set1 R.GLB_RST_CAUSE_SW).set1 R.GLB_RST_CAUSE_SWCORE) else .next s

/-! ## The debug port -/

/-- The instruction that acts (R439): BYPASS and IDCODE always, SAMPLE/PRELOAD and EXTEST only while RESET_N is low; every other acts as BYPASS. -/
def jtagActs (ir : JtagIr) (resetLow : Bool) : JtagIr :=
  match ir with
  | .idcode => .idcode
  | .extest => if resetLow then .extest else .bypass
  | .sample => if resetLow then .sample else .bypass
  | .bypass => .bypass
  | .other => .bypass

/-- The word IDCODE reads (R439). -/
def jtagIdcode : Word := 0x11440A1B

/-- The data register the acting instruction selects, where it is one of the device's identification: IDCODE reads its word, BYPASS one bit of 0. -/
def State.jtagData (s : State) : Option Word := if s.host.jtag = .idcode then some jtagIdcode else none

/-- JTAG_INSTRUCTION (R439, R440). -/
def execJtagInstruction (ir : JtagIr) (resetLow : Bool) (s : State) : Host.Outcome State Fault Refusal :=
  let j := jtagActs ir resetLow
  let s := s.setB R.GLB_DBG_EXTEST (j == .extest || j == .sample)
  .next { s with host := { s.host with jtag := j } }

end Sys2Proof.Machine
end

