-- ==== Sys2Proof/Machine/Boot.lean ====
section
/-! DEFINITION. The boot sequence (R411 to R413, R434 to R438): one command a step, from reset release to READY or FAILED. -/

namespace Sys2Proof.Machine

/-- The boot's present step (R440). -/
def State.bootStep (s : State) : Nat := s.f R.GLB_BOOT_STATE

/-- The boot goes on with a step (R434). -/
def State.bootTo (s : State) (n : Nat) : State := s.setF R.GLB_BOOT_STATE n

/-- The boot is over in a STATE: the boot-done event (R434, R440; log entry 83). -/
def State.bootDone (s : State) (n : Nat) : State :=
  let s := s.bootTo n
  s.raise 0x03 n (s.reg R.GLB_BOOT)

/-- A step fails with a code (R434). -/
def State.bootFail (s : State) (code : Nat) : State := (s.setF R.GLB_BOOT_CODE code).bootDone 15

/-! ## The image (R411, R434 steps 3 to 5) -/

/-- A word of the flash. -/
def State.flashWord (s : State) (a : Nat) : Word := wordOf (natOfBytes (s.flashBytes a 4))

/-- The sections of the image, as many as the header counts. The layout of an entry of the section table is open, so the boot's environment names what it lists (log
entry 84). -/
def State.imageSections (s : State) (e : BootEnv) : List ImageSection := e.sections.take (s.flashWord 0xC).toNat

/-- The header checks (R434 step 3). -/
def State.imageOk (s : State) (e : BootEnv) : Bool :=
  let len := (s.flashWord 8).toNat
  let n := (s.flashWord 0xC).toNat
  let ss := s.imageSections e
  s.flashWord 0 == 0x5A494D47 && decide (len ≤ 16777216) && decide (1 ≤ n) && decide (n ≤ 8) && decide (ss.length = n) &&
    ss.all (fun x => decide (x.off + x.len ≤ len)) && [1, 2, 3].all (fun t => decide ((ss.filter (fun x => x.type == t)).length = 1))

/-- Flash address of the first section of a type. -/
def sectionAt (ss : List ImageSection) (t : Nat) : Nat := (ss.find? (fun x => x.type == t)).elim 0 (fun x => x.off)

/-- Sections 2 and 3 are written into the memories of every Pier (R89, R434 step 3); the Piers are in LOAD (R93). -/
def State.bootLoad (s : State) (e : BootEnv) : State :=
  let ss := s.imageSections e
  let s := s.putNvs { s.nvs with ucAt := sectionAt ss 2, konstAt := sectionAt ss 3 }
  let s := s.putReg R.NVS_IMG_VER (s.flashWord 4)
  s.each pierList (fun s p => (s.reloadWrite p).setF (R.PIR_STAT_STATE p) 1)

/-- Step 3 (R434): header, then the load. -/
def State.bootImage (s : State) (e : BootEnv) : State :=
  if !s.imageOk e then s.bootFail 3 else if !e.readOk then s.bootFail 6 else (s.bootLoad e).bootTo 4

/-- Step 4 (R434): an invalid signature clears the loaded memories. -/
def State.bootVerify (s : State) (e : BootEnv) : State :=
  if e.sigOk then s.bootTo 5 else ({ s with deck := { s.deck with uc := [] } } : State).bootFail 4

/-- The check of a Pier at boot (R90, R434 step 5): it enters SERVICE at the next t0, or FAULT. -/
def State.bootPier (s : State) (e : BootEnv) (p : Nat) : State :=
  let c := s.pierCrc p
  let s := ((s.putReg (R.PIR_UC_VER p) e.ucVer).putReg (R.PIR_UC_CRC p) e.ucCrc).putReg (R.PIR_UC_CALC p) c
  let s := s.putPier p { s.pier p with loaded := false, passOk := c == e.ucCrc }
  if c = e.ucCrc then s else s.pierFault p .crc

/-- Step 5 (R434). -/
def State.bootPiers (s : State) (e : BootEnv) : State := (s.each pierList (fun s p => s.bootPier e p)).bootTo 6

/-! ## The parameter banks (R412, R413, R434 step 6) -/

/-- Length of a bank's payload in words. -/
def State.bankLen (s : State) (b : Nat) : Nat := (s.flashWord (bankAt b + 8)).toNat

/-- Is a bank valid: its magic and both CRCs (R413)? A payload longer than the bank makes none. -/
def State.bankValid (s : State) (b : Nat) : Bool :=
  s.flashWord (bankAt b) == 0x4B4E425A && s.flashWord (bankAt b + 16) == wordOf (crc32 (s.flashBytes (bankAt b) 16)) &&
    decide (16 + s.bankLen b ≤ 262144) && s.flashWord (bankAt b + 12) == wordOf (crc32 (s.flashBytes (bankAt b + 64) (4 * s.bankLen b)))

/-- The active bank (R413). -/
def State.bankChoice (s : State) : Option Nat :=
  let newer := decide (0 < (s.flashWord (bankAt 1 + 4) - s.flashWord (bankAt 0 + 4)).toInt)
  match s.bankValid 0, s.bankValid 1 with
  | true, true => some (if newer then 1 else 0)
  | true, false => some 0
  | false, true => some 1
  | false, false => none

/-- One pair of the register list: the effect of a host write, or a skip (R10, R390, R434). -/
def State.listPair (s : State) (a : Nat) (v : Word) : State :=
  if a % 4 = 0 ∧ isMapped a then s.landWrite a v else s.incSat R.GLB_BOOT_LSKIP 1

/-- The pairs of the register list land one per 4 clk, up to its end: those whose clk has come land now; the rest, if any, and its clk (R412, R434). -/
def State.listLand (s : State) (at_ : Nat) : List Word → State × Option (List Word × Nat)
  | a :: v :: rest =>
    if a = 0xFFFFFFFF then (s, none)
    else if s.clk < at_ then (s, some (a :: v :: rest, at_))
    else (s.listPair a.toNat v).listLand (at_ + 4) rest
  | _ => (s, none)

/-- The list goes on; after its last pair the boot goes on with step 7 (R434). -/
def State.listRun (s : State) (ws : List Word) (at_ : Nat) : State :=
  let x := s.listLand at_ ws
  let t : State := { x.1 with host := { x.1.host with bootList := x.2 } }
  t.when x.2.isNone (fun s => s.bootTo 7)

/-- Words 16 to 1,039 go to `KST_PWIN`, but for a boot after a core reset (R412, R434, R435). -/
def State.bootKeystone (s : State) (b : Nat) : State :=
  if s.host.coreBoot then s
  else s.each (List.range 1024) (fun s k => s.pwinWrite (4 * k) (s.flashWord (bankAt b + 64 + 4 * k)))

/-- What stands in the black-box areas is found at boot (log entry 85). -/
def State.bootBox (s : State) : State :=
  let erased (area : Nat) : Bool := s.nvs.flash.all (fun e => decide (e.1 < areaAt area) || decide (areaAt area + 129 * 4096 ≤ e.1))
  let s := s.setF R.BBX_STAT_ER ((if erased 0 then 1 else 0) + if erased 1 then 2 else 0)
  s.each [0, 1] (fun s area => s.when (s.flashWord (areaAt area) == 0x58424258) (fun s => s.putReg (R.BBX_ASEQ area) (s.flashWord (areaAt area + 4))))

/-- Step 6 begins (R434). -/
def State.bootParams (s : State) : State :=
  let s := s.bootBox
  let s := s.each [0, 1] (fun s b => s.when (s.bankValid b) (fun s => s.putReg (R.NVS_GEN b) (s.flashWord (bankAt b + 4))))
  match s.bankChoice with
  | none => s.bootTo 7
  | some b =>
    let s := ((s.setF R.NVS_STAT_ACT b).clr R.NVS_STAT_NOACT).bootKeystone b
    s.listRun (wordsOfBytes (s.flashBytes (bankAt b + 4 * 1040) (4 * (s.bankLen b - 1024)))) (s.clk + 4)

/-! ## DDR4 and the start (R434 steps 7 and 8) -/

/-- The tag under which the boot issues a command. -/
def State.bootTag (s : State) (op : Nat) : PktTag := ⟨0, op, 4, false, s.clk, s.hif.gen⟩

/-- Does a command of the boot still wait for its end? -/
def State.bootWaits (s : State) : Bool :=
  s.hif.compl.any (fun c => c.tag.sq == 4) || s.hif.waits.any (fun w => match w.tag with
    | some t => t.sq == 4
    | none => false)

/-- The boot starts the span: `PAIR` first where twin operation is enabled; the next step then issues `RING_START` (R434 step 8). -/
def State.bootStart (s : State) : State :=
  if !s.flag R.GLB_BOOTCFG_AUTO_START then (s.setF R.GLB_BOOT_RSTAT 0xFF).bootDone 9
  else
    let s := s.bootTo 8
    if s.twin then s.twinPair false (some (s.bootTag 0x60)) else s.ringStart (some (s.bootTag 0x40))

/-- Step 7 (R434): training, not fatal. -/
def State.bootDdr (s : State) (e : BootEnv) : State :=
  let good := e.ddrOk && s.pllLocked 1 && s.f R.DDR_CFG_RATE != 3
  let s := s.setB R.DDR_STAT_TRAINED good
  (s.when (!good) (fun s => s.set1 R.DDR_STAT_TFAIL)).bootStart

/-- Step 2 (R408, R434). -/
def State.bootFlash (s : State) (e : BootEnv) : State :=
  match e.sfdp with
  | none => s.bootFail 2
  | some (mb, tpp, tse) =>
    let s := ((s.setF R.NVS_SIZE_MB mb).putReg R.NVS_T_PP (wordOf tpp)).putReg R.NVS_T_SE (wordOf tse)
    ((s.putNvs { s.nvs with tpp := tpp, tse := tse }).set1 R.NVS_STAT_SFDP_OK).bootTo 3

/-- Step 1 (R430, R434): the main PLL locks, or has not within its time. -/
def State.bootClocks (s : State) : State :=
  if s.pllLocked 0 then s.bootTo 2 else if (s.f R.GLB_CLK_STAT_FAIL).testBit 0 then s.bootFail 1 else s

/-- The boot's present step ends (R434). -/
def State.bootNext (s : State) (e : BootEnv) : State :=
  match s.bootStep with
  | 0 => s.bootTo 1
  | 1 => s.bootClocks
  | 2 => s.bootFlash e
  | 3 => s.bootImage e
  | 4 => s.bootVerify e
  | 5 => s.bootPiers e
  | 6 => match s.host.bootList with
    | none => s.bootParams
    | some l => s.listRun l.1 l.2
  | 7 => s.bootDdr e
  | 8 => if s.bootWaits then s else s.ringStart (some (s.bootTag 0x40))
  | _ => s

/-- BOOT: one step of the boot ROM, with what it finds (R434, R435). -/
def execBoot (env : BootEnv) (s : State) : Host.Outcome State Fault Refusal := .next (s.bootNext env)

end Sys2Proof.Machine
end

