-- ==== Sys2Proof/Machine/Fire.lean ====
section
/-! DEFINITION. What an EST entry does when it fires (R50, R54, R57), and edges on the capture inputs (R58 to R60, R298). -/

namespace Sys2Proof.Machine

/-- The action of an entry (R50). A ring event waits for a command window (R57). -/
def State.estAct (s : State) (x : FireSlot) : State :=
  let w2 := s.estWord x.idx 2
  let w3 := (s.estWord x.idx 3).toNat
  let act := w2Act w2
  let obj := bitsOf w3 0 8
  if act ≤ 3 then s.estPinAct act obj (w2Width w2)
  else if act = 4 then
    if s.flag R.EST_CFG_RING_EN then { s with est := { s.est with ring := s.est.ring ++ [⟨bitsOf w3 16 16, bitsOf w3 8 8, x.ringT.getD s.nt⟩] } } else s
  else if act = 5 then (s.gateSet obj true).capOpened obj
  else if act = 6 then s.gateSet obj false
  else if act = 7 then s.postEvent obj
  else if act = 8 then s.trgFromEst obj
  else s

/-- EST_FIRE: an entry whose crossing clk has come (R52, R54, R55). -/
def execEstFire (idx : Fin 8192) (s : State) : Host.Outcome State Fault Refusal :=
  match s.est.cur.find? (fun x => x.idx == idx.val && decide (x.n ≤ s.sinceT0)) with
  | none => .next s
  | some x => if s.flag R.EST_CFG_EN then .next ((s.estMarkFired x).estAct x) else .next s

/-- EDGE_CAPTURE: an edge on CAPn with interpolator code m (R58 to R60); the register-mark unit of the input sees it too (R298). -/
def execEdgeCapture (inp : Fin 16) (rising : Bool) (m : Fin 10) (s : State) : Host.Outcome State Fault Refusal :=
  .next ((s.capEdge inp.val rising m.val).markEdge inp.val rising m.val)

end Sys2Proof.Machine
end

