-- ==== Sys2Proof/Machine/Sync.lean ====
section
/-! DEFINITION. The instants of a bc (R22, R36, R39, R65): t0, the express sync instant, and the plan instant of the chainage unit; and the tick of SYSCLK (R33, R34). -/

namespace Sys2Proof.Machine

/-! ## t0 -/

/-- Has t0 of a new bc come (R36)? -/
def State.t0Due (s : State) : Bool := s.bcNow != s.cyc.mark && !s.sysLost

/-- The bc starts (R22, R36). -/
def State.bcStart (s : State) : State :=
  let k := s.bcNow
  { s with cyc := { s.cyc with mark := k, bcIdx := k, prevN := s.clk - s.cyc.t0, t0 := s.clk, half := 0 } }

/-- Words 0 to 5 of every export block as they stand now. -/
def State.exportRows (s : State) : Tab Word :=
  (axisList.flatMap (fun a => (List.range 6).map (fun k => (16 * a + k, s.deckWord (0x60000 + 64 * a + 4 * k))))).filter (fun e => e.2 != 0)

/-- The export words at t0 (R153), which is an express sync instant too (R82). -/
def State.exportSnap (s : State) : State := { s with deck := { s.deck with expT0 := s.exportRows, expX := s.exportRows } }

/-- The line encoder's sample of the bc (R40): present where its interface is enabled and, for a serial one, its transfer is valid. -/
def State.lineSample (s : State) : State :=
  let e := s.f R.CHN_CFG_ENC_SEL
  s.when (s.flag (R.ENC_CFG_EN e) && !(s.encSerial e && (s.enc e).errT0)) (fun s => s.chnEncSample (s.enc e).posT0)

/-- Was the SYNC of the bc before seen back on a ring (R271)? -/
def State.ringMiss (s : State) (r : Nat) : State :=
  if tabGet (fun _ => none) s.ring.syncBc r = some (s.cyc.bcIdx - 1) then s
  else { s with ring := { s.ring with syncMiss := tabSet (fun _ => 0) s.ring.syncMiss r (tabGet (fun _ => 0) s.ring.syncMiss r + 1) } }

/-- What the ring unit does at t0: the returns of the bc before are counted (R271), and a lost collision stops the head (R269). -/
def State.ringSync (s : State) : State :=
  let s := s.when (s.spanRuns && s.ring.live) (fun s => s.each s.ring.use (fun s r => s.ringMiss r))
  if s.ring.collReq then s.spanStop else s

/-- SYNC_INSTANT: t0 of a bc (R22, R24, R36, R38, R153, R200, R269, R271, R274, R279, R343). -/
def execSyncInstant (s : State) : Host.Outcome State Fault Refusal :=
  if s.t0Due then
    let s := s.chnStart.bcStart
    let s := s.dspBc.powerSync
    let s := s.exportSnap.lineSample
    let s := s.acqSync.piersServe
    .next ((s.twinSync.ringSync.trunkTime.countStall).idleRate)
  else .next s

/-! ## The express sync instant -/

/-- EXPRESS_SYNC_INSTANT: the second express period starts (R22, R65). -/
def execExpressSyncInstant (s : State) : Host.Outcome State Fault Refusal :=
  if s.cyc.half = 0 ∧ s.pExp ≤ s.sinceT0 ∧ !s.sysLost then
    let s : State := { s with
      cyc := { s.cyc with half := 1 }
      chn := { s.chn with xsnap := ⟨s.chnLive, s.chn.seg.v⟩ }
      deck := { s.deck with expX := s.exportRows } }
    .next s.dspExpress
  else .next s

/-! ## The plan instant -/

/-- Does this pylon follow a holder: a partner or a joining pylon (R341)? -/
def State.follows (s : State) : Bool := s.twin && (s.role == 2 || s.role == 3)

/-- The plan instant: a partner's lies 2,200 clk after the holder's, and so does the first of a pylon that has just taken the lease (R39, R341). -/
def State.planAt (s : State) : Nat := s.planClk + if s.follows || s.twn.relSwitch then 2200 else 0

/-- The holder's segment is installed unchanged (R341). -/
def State.planInstall (s : State) (g : Segment) : State :=
  { s with
    chn := { s.chn with plan := some (g.v, some g.s), planJump := false }
    est := { s.est with sweepAt := some (s.clk + 32), swept := false, next := [] } }

/-- The holder's segment for the next bc, if it has come. -/
def State.heardSegment (s : State) : Option Segment :=
  match s.twn.seg with
  | some (b, g) => if b = s.cyc.bcIdx + 1 then some g else none
  | none => none

/-- Make the plan of this bc (R39, R341, R345). -/
def State.planMake (s : State) : State :=
  if s.follows then
    match s.heardSegment with
    | some g => s.planInstall g
    | none => (s.incSat R.TWN_HB_MISS_SEG 1).chnPlan true
  else (s.putTwn { s.twn with relSwitch := false }).chnPlan s.twn.relSwitch

/-- CHAINAGE_PLAN: the plan, then what is sent at the plan instant (R39, R274, R355, R358). -/
def execChainagePlan (s : State) : Host.Outcome State Fault Refusal :=
  if s.chn.plan.isNone ∧ s.planAt ≤ s.clk ∧ !s.sysLost then
    let s := s.planMake
    let g := s.nextSegment
    .next ((s.trunkSegment g).pairPlan g)
  else .next s

/-! ## The tick of SYSCLK -/

/-- What hardware does at the end of a clk, after the host accesses of that clk (R11, R402; log entry 3): the event entries whose clk has come are written and merged
occurrences enter theirs (R403, R404), and completions whose clk has come are written (R372). -/
def State.clkEnd (s : State) : State := s.evtLand.evtMergeAll.cqDue

/-- What a new clk brings at its start: the stages of the axis tasks that are due (R104), the next Deck word of a capture sample (R280), the DDR4 scrubber (R302),
the frames of a start whose clk has been named (R354), and the lanes' watch on their sources (R210). -/
def State.clkBegin (s : State) : State := (((s.each pierList (fun s p => s.lawDue p 13)).shotStep).ddrScrub).stepsDue.lanesWatch

/-- One clk of SYSCLK: the network time counter counts (R34). Without SYSCLK only Keystone's counters move (R21, R29). This is what the block does when no command waits (log entry 1). -/
def State.tick (s : State) : State :=
  let s := s.kstTick
  if s.sysLost then s
  else
    let s := s.clkEnd
    ({ s with clk := s.clk + 1, nt := ntTick s.nt s.inc } : State).clkBegin

end Sys2Proof.Machine
end

