-- ==== Sys2Proof/Machine/Dispatch.lean ====
section
/-! DEFINITION. The dispatcher of commands: one arm per constructor of Instr, each one direct call of its meaning. -/

namespace Sys2Proof.Machine

def exec (i : Instr) (s : State) : Host.Outcome State Fault Refusal :=
  match i with
  | .registerWrite addr val => Sys2Proof.Machine.execRegisterWrite addr val s
  | .badWidthAccess addr => Sys2Proof.Machine.execBadWidthAccess addr s
  | .unmappedAccess addr wr val => Sys2Proof.Machine.execUnmappedAccess addr wr val s
  | .readClear addr => Sys2Proof.Machine.execReadClear addr s
  | .pairedWriteValue addr val => Sys2Proof.Machine.execPairedWriteValue addr val s
  | .pairedWriteComplement addr val => Sys2Proof.Machine.execPairedWriteComplement addr val s
  | .pwWindowExpiry => Sys2Proof.Machine.execPwWindowExpiry s
  | .tvScrub => Sys2Proof.Machine.execTvScrub s
  | .ntNow => Sys2Proof.Machine.execNtNow s
  | .ntSet => Sys2Proof.Machine.execNtSet s
  | .chnNow => Sys2Proof.Machine.execChnNow s
  | .chnSnap => Sys2Proof.Machine.execChnSnap s
  | .chnPreset => Sys2Proof.Machine.execChnPreset s
  | .vmVtgtRead => Sys2Proof.Machine.execVmVtgtRead s
  | .vmVtgtWrite => Sys2Proof.Machine.execVmVtgtWrite s
  | .srcOffsetRead => Sys2Proof.Machine.execSrcOffsetRead s
  | .srcOffsetWrite => Sys2Proof.Machine.execSrcOffsetWrite s
  | .capLossT => Sys2Proof.Machine.execCapLossT s
  | .evtLossT => Sys2Proof.Machine.execEvtLossT s
  | .voteT => Sys2Proof.Machine.execVoteT s
  | .bcIndex => Sys2Proof.Machine.execBcIndex s
  | .pirTasks64 => Sys2Proof.Machine.execPirTasks64 s
  | .mbxUnknownCode wr code => Sys2Proof.Machine.execMbxUnknownCode wr code s
  | .mbxReady => Sys2Proof.Machine.execMbxReady s
  | .mbxDataRead k => Sys2Proof.Machine.execMbxDataRead k s
  | .mbxStatRead => Sys2Proof.Machine.execMbxStatRead s
  | .syncInstant => Sys2Proof.Machine.execSyncInstant s
  | .expressSyncInstant => Sys2Proof.Machine.execExpressSyncInstant s
  | .classLFeedbackWrite => Sys2Proof.Machine.execClassLFeedbackWrite s
  | .sysclkLoss => Sys2Proof.Machine.execSysclkLoss s
  | .krefLoss => Sys2Proof.Machine.execKrefLoss s
  | .chnIncHi val => Sys2Proof.Machine.execChnIncHi val s
  | .chainagePlan => Sys2Proof.Machine.execChainagePlan s
  | .sourceSwitchArm val => Sys2Proof.Machine.execSourceSwitchArm val s
  | .estSweep => Sys2Proof.Machine.execEstSweep s
  | .estFire idx => Sys2Proof.Machine.execEstFire idx s
  | .pulseTimerEnd pin => Sys2Proof.Machine.execPulseTimerEnd pin s
  | .estCommit val => Sys2Proof.Machine.execEstCommit val s
  | .estCommitCompare idx => Sys2Proof.Machine.execEstCommitCompare idx s
  | .estIdxLoad val => Sys2Proof.Machine.execEstIdxLoad val s
  | .estPinPolWrite val => Sys2Proof.Machine.execEstPinPolWrite val s
  | .edgeCapture inp rising m => Sys2Proof.Machine.execEdgeCapture inp rising m s
  | .captureRecordPop => Sys2Proof.Machine.execCaptureRecordPop s
  | .collectReceive port fr => Sys2Proof.Machine.execCollectReceive port fr s
  | .xsampReceive port fr => Sys2Proof.Machine.execXsampReceive port fr s
  | .safeUpstreamReceive port fr => Sys2Proof.Machine.execSafeUpstreamReceive port fr s
  | .serviceReceive port fr => Sys2Proof.Machine.execServiceReceive port fr s
  | .vacantUnclaimedReturn port fr => Sys2Proof.Machine.execVacantUnclaimedReturn port fr s
  | .stnpdReceive port fr => Sys2Proof.Machine.execStnpdReceive port fr s
  | .foreignSyncReceive port fr => Sys2Proof.Machine.execForeignSyncReceive port fr s
  | .syncReturn port fr => Sys2Proof.Machine.execSyncReturn port fr s
  | .ringBreakDetect ring => Sys2Proof.Machine.execRingBreakDetect ring s
  | .expansionJointError port => Sys2Proof.Machine.execExpansionJointError port s
  | .portLinkChange port sync los modabs txfault codeErrs => Sys2Proof.Machine.execPortLinkChange port sync los modabs txfault codeErrs s
  | .dispatchDecision => Sys2Proof.Machine.execDispatchDecision s
  | .axisTaskStart p => Sys2Proof.Machine.execAxisTaskStart p s
  | .axisTaskEnd p => Sys2Proof.Machine.execAxisTaskEnd p s
  | .eventTask e => Sys2Proof.Machine.execEventTask e s
  | .backgroundSlice j => Sys2Proof.Machine.execBackgroundSlice j s
  | .stateMoveEnd a => Sys2Proof.Machine.execStateMoveEnd a s
  | .substitutePost a => Sys2Proof.Machine.execSubstitutePost a s
  | .overrun a => Sys2Proof.Machine.execOverrun a s
  | .laneWriteDeadline l => Sys2Proof.Machine.execLaneWriteDeadline l s
  | .taskWatchdogExpiry p => Sys2Proof.Machine.execTaskWatchdogExpiry p s
  | .assemblerSlotRead slot => Sys2Proof.Machine.execAssemblerSlotRead slot s
  | .windowSend b w => Sys2Proof.Machine.execWindowSend b w s
  | .backgroundPost val => Sys2Proof.Machine.execBackgroundPost val s
  | .flowEnable n val => Sys2Proof.Machine.execFlowEnable n val s
  | .pirReload p => Sys2Proof.Machine.execPirReload p s
  | .pierReloadDone p => Sys2Proof.Machine.execPierReloadDone p s
  | .pirOffline p => Sys2Proof.Machine.execPirOffline p s
  | .pirOnline p => Sys2Proof.Machine.execPirOnline p s
  | .pierScrubPass x => Sys2Proof.Machine.execPierScrubPass x s
  | .pierFault p cause mem word => Sys2Proof.Machine.execPierFault p cause mem word s
  | .stateSlotDiscard p a w => Sys2Proof.Machine.execStateSlotDiscard p a w s
  | .deckScrub addr err => Sys2Proof.Machine.execDeckScrub addr err s
  | .deckWindowWrite off val => Sys2Proof.Machine.execDeckWindowWrite off val s
  | .residentCopyUpdate => Sys2Proof.Machine.execResidentCopyUpdate s
  | .camPointHighWrite off val => Sys2Proof.Machine.execCamPointHighWrite off val s
  | .axisEnableWrite a val => Sys2Proof.Machine.execAxisEnableWrite a val s
  | .axisDisableWrite a val => Sys2Proof.Machine.execAxisDisableWrite a val s
  | .stateLoadEnd a => Sys2Proof.Machine.execStateLoadEnd a s
  | .pwmPeriodStart m => Sys2Proof.Machine.execPwmPeriodStart m s
  | .pwmMidpoint m => Sys2Proof.Machine.execPwmMidpoint m s
  | .pwmSyncRestart m => Sys2Proof.Machine.execPwmSyncRestart m s
  | .pwmModuleEnable m val => Sys2Proof.Machine.execPwmModuleEnable m val s
  | .pwmFaultInput k level ps => Sys2Proof.Machine.execPwmFaultInput k level ps s
  | .faultStateTurnOn m => Sys2Proof.Machine.execFaultStateTurnOn m s
  | .faultLatchClear val => Sys2Proof.Machine.execFaultLatchClear val s
  | .pwmForce => Sys2Proof.Machine.execPwmForce s
  | .sdmFilterOutput c bits => Sys2Proof.Machine.execSdmFilterOutput c bits s
  | .sdmStuck x => Sys2Proof.Machine.execSdmStuck x s
  | .sdmClockLoss c => Sys2Proof.Machine.execSdmClockLoss c s
  | .encoderEdge e a b => Sys2Proof.Machine.execEncoderEdge e a b s
  | .serialTransferStart e => Sys2Proof.Machine.execSerialTransferStart e s
  | .serialTransferEnd e rx => Sys2Proof.Machine.execSerialTransferEnd e rx s
  | .encoderLatchEdge e src level => Sys2Proof.Machine.execEncoderLatchEdge e src level s
  | .encoderEnable e val => Sys2Proof.Machine.execEncoderEnable e val s
  | .laneEnable l val => Sys2Proof.Machine.execLaneEnable l val s
  | .laneEvaluation l => Sys2Proof.Machine.execLaneEvaluation l s
  | .laneCompareWrite l => Sys2Proof.Machine.execLaneCompareWrite l s
  | .stepEnable c val => Sys2Proof.Machine.execStepEnable c val s
  | .stepPlan c => Sys2Proof.Machine.execStepPlan c s
  | .stepPulse c => Sys2Proof.Machine.execStepPulse c s
  | .adcConversion code => Sys2Proof.Machine.execAdcConversion code s
  | .sfpTransfer port val => Sys2Proof.Machine.execSfpTransfer port val s
  | .sfpTransferEnd port ack data => Sys2Proof.Machine.execSfpTransferEnd port ack data s
  | .ddmRead port temp rx => Sys2Proof.Machine.execDdmRead port temp rx s
  | .listenTimeEnd => Sys2Proof.Machine.execListenTimeEnd s
  | .delayFrameReturn port fr => Sys2Proof.Machine.execDelayFrameReturn port fr s
  | .measureTimeout => Sys2Proof.Machine.execMeasureTimeout s
  | .reportFrameReturn port fr => Sys2Proof.Machine.execReportFrameReturn port fr s
  | .assignDone => Sys2Proof.Machine.execAssignDone s
  | .firstSync => Sys2Proof.Machine.execFirstSync s
  | .runFrameReturn port fr => Sys2Proof.Machine.execRunFrameReturn port fr s
  | .stationRemoval n => Sys2Proof.Machine.execStationRemoval n s
  | .trunkStart val => Sys2Proof.Machine.execTrunkStart val s
  | .trunkMeasure => Sys2Proof.Machine.execTrunkMeasure s
  | .trunkFrameReceive port fr => Sys2Proof.Machine.execTrunkFrameReceive port fr s
  | .trunkLost => Sys2Proof.Machine.execTrunkLost s
  | .acqTick => Sys2Proof.Machine.execAcqTick s
  | .captureDrainEnd => Sys2Proof.Machine.execCaptureDrainEnd s
  | .arm val => Sys2Proof.Machine.execArm val s
  | .stop val => Sys2Proof.Machine.execStop val s
  | .swtrig val => Sys2Proof.Machine.execSwtrig val s
  | .triggerUnitEnable u val => Sys2Proof.Machine.execTriggerUnitEnable u val s
  | .registerMarkGateClose k => Sys2Proof.Machine.execRegisterMarkGateClose k s
  | .registerMarkResult k => Sys2Proof.Machine.execRegisterMarkResult k s
  | .ddrUncorrectableError addr => Sys2Proof.Machine.execDdrUncorrectableError addr s
  | .ddrTrainingLoss => Sys2Proof.Machine.execDdrTrainingLoss s
  | .train val => Sys2Proof.Machine.execTrain val s
  | .ddrTrainingDone ok => Sys2Proof.Machine.execDdrTrainingDone ok s
  | .safetyCycle smp => Sys2Proof.Machine.execSafetyCycle smp s
  | .discrepancyTimeout n => Sys2Proof.Machine.execDiscrepancyTimeout n s
  | .cat1TimerExpiry f => Sys2Proof.Machine.execCat1TimerExpiry f s
  | .unlockDelayExpiry f => Sys2Proof.Machine.execUnlockDelayExpiry f s
  | .lockMonitorTimeout f => Sys2Proof.Machine.execLockMonitorTimeout f s
  | .supplyMonitorFault rail => Sys2Proof.Machine.execSupplyMonitorFault rail s
  | .keystoneSelfTest ok => Sys2Proof.Machine.execKeystoneSelfTest ok s
  | .containerBuild => Sys2Proof.Machine.execContainerBuild s
  | .upstreamContainerCheck => Sys2Proof.Machine.execUpstreamContainerCheck s
  | .falseworkEnter => Sys2Proof.Machine.execFalseworkEnter s
  | .falseworkAbort => Sys2Proof.Machine.execFalseworkAbort s
  | .falseworkValidate => Sys2Proof.Machine.execFalseworkValidate s
  | .falseworkTimeout => Sys2Proof.Machine.execFalseworkTimeout s
  | .kstPwinWrite off val => Sys2Proof.Machine.execKstPwinWrite off val s
  | .keystoneBootValidate => Sys2Proof.Machine.execKeystoneBootValidate s
  | .pairHeartbeatReceive hb => Sys2Proof.Machine.execPairHeartbeatReceive hb s
  | .leaseDeadline => Sys2Proof.Machine.execLeaseDeadline s
  | .partnerLoss => Sys2Proof.Machine.execPartnerLoss s
  | .yield => Sys2Proof.Machine.execYield s
  | .pair => Sys2Proof.Machine.execPair s
  | .join => Sys2Proof.Machine.execJoin s
  | .mirrorFrameReceive bytes => Sys2Proof.Machine.execMirrorFrameReceive bytes s
  | .mirrorAckReceive bytes => Sys2Proof.Machine.execMirrorAckReceive bytes s
  | .mirrorExecute => Sys2Proof.Machine.execMirrorExecute s
  | .stateFrameReceive bytes => Sys2Proof.Machine.execStateFrameReceive bytes s
  | .stateInstall => Sys2Proof.Machine.execStateInstall s
  | .timingMarkReceive bytes stamp => Sys2Proof.Machine.execTimingMarkReceive bytes stamp s
  | .digestPassEnd => Sys2Proof.Machine.execDigestPassEnd s
  | .partnerCopyCompare port fr => Sys2Proof.Machine.execPartnerCopyCompare port fr s
  | .pairFrameError => Sys2Proof.Machine.execPairFrameError s
  | .sqEntryWrite off words => Sys2Proof.Machine.execSqEntryWrite off words s
  | .sqDoorbell q val => Sys2Proof.Machine.execSqDoorbell q val s
  | .cqHeadDoorbell val => Sys2Proof.Machine.execCqHeadDoorbell val s
  | .packetFetch core => Sys2Proof.Machine.execPacketFetch core s
  | .payloadDmaComplete core res => Sys2Proof.Machine.execPayloadDmaComplete core res s
  | .fenceRelease core => Sys2Proof.Machine.execFenceRelease core s
  | .opNop core => Sys2Proof.Machine.execOpNop core s
  | .opIdent core => Sys2Proof.Machine.execOpIdent core s
  | .opRegWrite core => Sys2Proof.Machine.execOpRegWrite core s
  | .opMbxRead core => Sys2Proof.Machine.execOpMbxRead core s
  | .opMbxWrite core => Sys2Proof.Machine.execOpMbxWrite core s
  | .opAxisEnable core => Sys2Proof.Machine.execOpAxisEnable core s
  | .opAxisDisable core => Sys2Proof.Machine.execOpAxisDisable core s
  | .opParamWrite core => Sys2Proof.Machine.execOpParamWrite core s
  | .opParamRead core => Sys2Proof.Machine.execOpParamRead core s
  | .opFaultClear core => Sys2Proof.Machine.execOpFaultClear core s
  | .opGroupQuiesce core => Sys2Proof.Machine.execOpGroupQuiesce core s
  | .groupQuiesceEffect => Sys2Proof.Machine.execGroupQuiesceEffect s
  | .opGroupResume core => Sys2Proof.Machine.execOpGroupResume core s
  | .groupResumeEffect => Sys2Proof.Machine.execGroupResumeEffect s
  | .groupResumeTimeout => Sys2Proof.Machine.execGroupResumeTimeout s
  | .opMoveAbs core => Sys2Proof.Machine.execOpMoveAbs core s
  | .opMoveRel core => Sys2Proof.Machine.execOpMoveRel core s
  | .opVelocity core => Sys2Proof.Machine.execOpVelocity core s
  | .opStop core => Sys2Proof.Machine.execOpStop core s
  | .opGear core => Sys2Proof.Machine.execOpGear core s
  | .opCam core => Sys2Proof.Machine.execOpCam core s
  | .opHome core => Sys2Proof.Machine.execOpHome core s
  | .opGroupMove core => Sys2Proof.Machine.execOpGroupMove core s
  | .motionHoldEnd => Sys2Proof.Machine.execMotionHoldEnd s
  | .motionCompletion => Sys2Proof.Machine.execMotionCompletion s
  | .opEstWrite core => Sys2Proof.Machine.execOpEstWrite core s
  | .opEstLoad core => Sys2Proof.Machine.execOpEstLoad core s
  | .opCamLoad core => Sys2Proof.Machine.execOpCamLoad core s
  | .opCymLoad core => Sys2Proof.Machine.execOpCymLoad core s
  | .opRingStart core => Sys2Proof.Machine.execOpRingStart core s
  | .opRingHalt core => Sys2Proof.Machine.execOpRingHalt core s
  | .ringHaltEffect => Sys2Proof.Machine.execRingHaltEffect s
  | .opSafetyLoad core => Sys2Proof.Machine.execOpSafetyLoad core s
  | .opCaptureRead core => Sys2Proof.Machine.execOpCaptureRead core s
  | .opNvsWrite core => Sys2Proof.Machine.execOpNvsWrite core s
  | .opNvsCommit core => Sys2Proof.Machine.execOpNvsCommit core s
  | .opBbxRead core => Sys2Proof.Machine.execOpBbxRead core s
  | .opTwinPair core => Sys2Proof.Machine.execOpTwinPair core s
  | .opTwinYield core => Sys2Proof.Machine.execOpTwinYield core s
  | .opTwinJoin core => Sys2Proof.Machine.execOpTwinJoin core s
  | .functionLevelReset hot => Sys2Proof.Machine.execFunctionLevelReset hot s
  | .pcieLinkDown => Sys2Proof.Machine.execPcieLinkDown s
  | .pcieLinkUp width speed => Sys2Proof.Machine.execPcieLinkUp width speed s
  | .tollgateWatchdogExpiry => Sys2Proof.Machine.execTollgateWatchdogExpiry s
  | .tollgateRestartEnd => Sys2Proof.Machine.execTollgateRestartEnd s
  | .eventWriterServe => Sys2Proof.Machine.execEventWriterServe s
  | .evtHeadWrite val => Sys2Proof.Machine.execEvtHeadWrite val s
  | .vectorTimeExpiry v => Sys2Proof.Machine.execVectorTimeExpiry v s
  | .msixMessage v => Sys2Proof.Machine.execMsixMessage v s
  | .bbxNote val => Sys2Proof.Machine.execBbxNote val s
  | .freeze val => Sys2Proof.Machine.execFreeze val s
  | .commit val => Sys2Proof.Machine.execCommit val s
  | .release val => Sys2Proof.Machine.execRelease val s
  | .load val => Sys2Proof.Machine.execLoad val s
  | .erase val => Sys2Proof.Machine.execErase val s
  | .nvsSwitch => Sys2Proof.Machine.execNvsSwitch s
  | .flashOperationStart => Sys2Proof.Machine.execFlashOperationStart s
  | .flashOperationEnd ok => Sys2Proof.Machine.execFlashOperationEnd ok s
  | .softwareResetHost => Sys2Proof.Machine.execSoftwareResetHost s
  | .softwareResetCore => Sys2Proof.Machine.execSoftwareResetCore s
  | .softwareResetFull => Sys2Proof.Machine.execSoftwareResetFull s
  | .resetPin => Sys2Proof.Machine.execResetPin s
  | .perst => Sys2Proof.Machine.execPerst s
  | .powerOn => Sys2Proof.Machine.execPowerOn s
  | .supplyBrownout rail => Sys2Proof.Machine.execSupplyBrownout rail s
  | .pllLock k => Sys2Proof.Machine.execPllLock k s
  | .pllLockTimeout k => Sys2Proof.Machine.execPllLockTimeout k s
  | .boot env => Sys2Proof.Machine.execBoot env s
  | .jtagInstruction ir resetLow => Sys2Proof.Machine.execJtagInstruction ir resetLow s
  | .discardedFrameReceive port fr => Sys2Proof.Machine.execDiscardedFrameReceive port fr s
  | .trunkDelayFrameReceive port fr => Sys2Proof.Machine.execTrunkDelayFrameReceive port fr s
  | .pairLinkChange up => Sys2Proof.Machine.execPairLinkChange up s
  | .msixVectorUnmask v => Sys2Proof.Machine.execMsixVectorUnmask v s
  | .eventOrBackgroundTaskEnd p => Sys2Proof.Machine.execEventOrBackgroundTaskEnd p s

end Sys2Proof.Machine
end

