-- ==== Sys2Proof/Safety.lean ====
section
/-! DEFINITION. What a claim about a step says in common terms: which parts of the state a command may change (its frame), and the properties of the
state that every step keeps. -/

namespace Sys2Proof.Machine

/-- A part of the state beside the registers. The memories that a record holds are parts of their own: a frame that names the record and not its memory
says that the memory is unchanged. -/
inductive Part where
  | queue | clk | free | nt | inc | host | evt | cyc | chn | est | cap | dsp | piers | axes
  | deck | deckMem | pierMem
  | pwr
  | hif | window
  | ring | twn
  | kst | kstImg | kstConf
  | acq | ddr
  | nvs | flash
  | krefLost | sysLost | fbDone
  deriving DecidableEq, Repr

/-- A part is the same in two states. -/
def Part.same (p : Part) (s t : State) : Prop :=
  match p with
  | .queue => t.pending = s.pending
  | .clk => t.clk = s.clk
  | .free => t.free = s.free
  | .nt => t.nt = s.nt
  | .inc => t.inc = s.inc
  | .host => t.host = s.host
  | .evt => t.evt = s.evt
  | .cyc => t.cyc = s.cyc
  | .chn => t.chn = s.chn
  | .est => t.est = s.est
  | .cap => t.cap = s.cap
  | .dsp => t.dsp = s.dsp
  | .piers => t.piers = s.piers
  | .axes => t.axes = s.axes
  | .deck => t.deck = s.deck
  | .deckMem => t.deck.mem = s.deck.mem
  | .pierMem => t.deck.uc = s.deck.uc
  | .pwr => t.pwr = s.pwr
  | .hif => t.hif = s.hif
  | .window => t.hif.bar2 = s.hif.bar2
  | .ring => t.ring = s.ring
  | .twn => t.twn = s.twn
  | .kst => t.kst = s.kst
  | .kstImg => t.kst.img = s.kst.img
  | .kstConf => t.kst.conf = s.kst.conf
  | .acq => t.acq = s.acq
  | .ddr => t.acq.ddr = s.acq.ddr
  | .nvs => t.nvs = s.nvs
  | .flash => t.nvs.flash = s.nvs.flash
  | .krefLost => t.krefLost = s.krefLost
  | .sysLost => t.sysLost = s.sysLost
  | .fbDone => t.fbDone = s.fbDone

/-- `t` differs from `s` at most in the parts listed and in the registers at the addresses that `W` holds of. -/
def Frame (ps : List Part) (W : Nat → Prop) (s t : State) : Prop :=
  (∀ p, p ∉ ps → p.same s t) ∧ ∀ a, ¬ W a → t.reg a = s.reg a

/-- The registers that a write to `addr` may change where it takes effect: the register, those that the write commands of its unit or arm, and the
registers that count and report. -/
def writeRegs (addr a : Nat) : Prop :=
  a ∈ [R.GLB_ACC_ERR, R.GLB_PW_ERR, R.GLB_PW_LAST, R.EVT_PEND (1 / 32), R.EVT_LOST_CNT, R.EVT_STAT, (addr - 2048), R.DCK_STAT, R.GLB_MBX_REQ,
    R.GLB_MBX_STAT, R.ACQ_STAT, R.ACQ_BSIZE, R.ACQ_BLK, R.ACQ_CTL, R.ACQ_FIFO, R.EVT_PEND (81 / 32), addr, R.ACQ_CH_SRC ((addr - R.ACQ_CH_SRC 0) /
    4), R.DDR_CTL, R.DDR_UE_ADDR, R.TRG_STAT, R.CHN_CAP_FILL, R.CHN_STAT, R.EVT_PEND (21 / 32), R.CHN_INC_HI, R.CHN_INC_LO, R.EVT_PEND (16 / 32),
    R.CHN_SRC, R.CHN_CFG, R.CHN_PLAN, R.EST_OVFL_CNT, R.EST_STAT, R.EVT_PEND (20 / 32), R.EST_SKIP_CNT, R.EST_IDX, R.EST_PIN_POL, R.EST_FIRST_LATE,
    R.DSP_BG_OVR, R.DSP_STAT, R.EVT_PEND (26 / 32), R.DSP_BG_PEND, R.DSP_CWIN, R.DSP_FLOW ((addr - R.DSP_FLOW 0) / 4), R.DSP_OVR_FIRST, R.AXT_STAT,
    R.EVT_PEND (48 / 32), R.NVS_QFILL, R.DSP_DL ((addr - 327680) / 16), R.DCK_UE_ADDR, R.DCK_CAM_BAD, R.PWM_FLT_STAT, R.PWM_FLT_FIRST,
    R.PWM_FLT_CNT, R.EVT_PEND (56 / 32), R.PWM_CFG ((addr - 1048576) / 64), R.PWM_STAT ((addr - 1048576) / 64), R.PWM_PER ((addr - 1048576) / 64),
    R.CLN_CFG ((addr - 1114112) / 256), R.CLN_STAT ((addr - 1114112) / 256), R.EVT_PEND (57 / 32), R.STP_TIM ((addr - 1179648) / 64), R.STP_CFG
    ((addr - 1179648) / 64), R.STP_POS ((addr - 1179648) / 64), R.STP_STAT ((addr - 1179648) / 64), R.ENC_CFG ((addr - 1245184) / 64), R.ENC_STAT
    ((addr - 1245184) / 64), R.SDM_CLK ((addr - 1310720) / 4), R.SDM_CFG ((addr - 1310976) / 16), R.ZLP_GUARD, R.CYM_STAT, R.ZLP_RSTAT, R.ZLP_BRK,
    R.ZLP_BRK_CNT, R.EVT_PEND (70 / 32), R.ZLP_TCFG, R.ZLP_TSTAT, R.KST_PWIN ((addr - 2101248) / 4), R.KST_WIGN_CNT, R.TWN_CTL, R.TWN_STAT,
    R.TWN_EPOCH, R.TWN_MIS_FIRST, R.EVT_HEAD, R.BBX_CTL, R.BBX_COUNT, R.BBX_SEQ, R.BBX_STAT, R.EVT_PEND (130 / 32), R.BBX_TILES, R.BBX_DISC_CNT,
    R.EVT_PEND (2 / 32)] ∨ (∃ i, a = R.GLB_MBX_D i) ∨ (∃ i, a = R.TRG_CFG i) ∨ (∃ i, a = R.CHN_CAP_CFG i) ∨ (∃ i, a = R.ACQ_RM_STAT i) ∨ (∃ i, a =
    R.EST_W i) ∨ (∃ i j, a = R.PIR_RES i j) ∨ (∃ i, a = R.AXT_W2 i) ∨ (∃ i, a = R.PIR_STAT i) ∨ (∃ i, a = R.PIR_CTL i) ∨ (∃ i, a = R.AXT_W0 i) ∨ (∃
    i, a = R.AXT_FLT_MAP i) ∨ (∃ i, a = R.PWM_CMP ((addr - 1048576) / 64) i) ∨ (∃ i, a = R.ZLP_P_STAT i)

/-- The parts of the state beside the registers that a command may change: a part not listed is unchanged by it. -/
def partsOf : Instr → List Part
  | .registerWrite _ _ => [.free, .nt, .inc, .host, .evt, .cyc, .chn, .est, .cap, .dsp, .piers, .axes, .deck, .deckMem, .pwr, .hif, .ring, .twn, .kst,
      .acq, .ddr, .nvs]
  | .badWidthAccess _ => [.evt]
  | .unmappedAccess _ _ _ => [.free, .nt, .inc, .host, .evt, .cyc, .chn, .est, .cap, .dsp, .piers, .axes, .deck, .deckMem, .pwr, .hif, .ring, .twn,
      .kst, .acq, .ddr, .nvs]
  | .readClear _ => [.free, .host, .evt, .cap]
  | .pairedWriteValue _ _ => [.host, .evt]
  | .pairedWriteComplement _ _ => [.host, .evt]
  | .pwWindowExpiry => [.host, .evt]
  | .tvScrub => [.host, .evt]
  | .ntNow => [.host]
  | .ntSet => [.nt, .host, .cyc, .chn]
  | .chnNow => [.host]
  | .chnSnap => [.host]
  | .chnPreset => [.nt, .host, .cyc, .chn]
  | .vmVtgtRead => [.host]
  | .vmVtgtWrite => [.nt, .host, .cyc, .chn]
  | .srcOffsetRead => [.host]
  | .srcOffsetWrite => [.nt, .host, .cyc, .chn]
  | .capLossT => [.host]
  | .evtLossT => [.host]
  | .voteT => [.host]
  | .bcIndex => [.host]
  | .pirTasks64 => [.host]
  | .mbxUnknownCode _ _ => [.nt, .host, .cyc, .chn]
  | .mbxReady => [.host]
  | .mbxDataRead _ => [.host]
  | .mbxStatRead => [.host]
  | .syncInstant => [.free, .evt, .cyc, .chn, .est, .dsp, .piers, .axes, .deck, .pwr, .hif, .ring, .twn, .acq]
  | .expressSyncInstant => [.cyc, .chn, .dsp, .axes, .deck]
  | .classLFeedbackWrite => [.chn, .dsp, .piers, .axes, .deck, .deckMem, .fbDone]
  | .sysclkLoss => [.free, .evt, .pwr, .ring, .kst, .sysLost]
  | .krefLoss => [.evt, .ring, .kst, .krefLost]
  | .chnIncHi _ => [.inc, .evt]
  | .chainagePlan => [.evt, .chn, .est, .ring, .twn]
  | .sourceSwitchArm _ => []
  | .estSweep => [.evt, .est]
  | .estFire _ => [.evt, .est, .cap, .dsp, .acq]
  | .pulseTimerEnd _ => [.est]
  | .estCommit _ => [.evt, .est]
  | .estCommitCompare _ => [.evt, .est]
  | .estIdxLoad _ => []
  | .estPinPolWrite _ => [.est]
  | .edgeCapture _ _ _ => [.evt, .cap, .acq]
  | .captureRecordPop => [.host, .cap]
  | .collectReceive _ _ => [.free, .evt, .chn, .dsp, .piers, .axes, .deck, .deckMem, .ring, .twn]
  | .xsampReceive _ _ => [.free, .evt, .chn, .dsp, .piers, .axes, .deck, .deckMem, .ring, .twn]
  | .safeUpstreamReceive _ _ => [.evt, .ring, .twn]
  | .serviceReceive _ _ => [.evt, .ring, .twn]
  | .vacantUnclaimedReturn _ _ => [.evt, .ring, .twn]
  | .stnpdReceive _ _ => [.free, .evt, .chn, .dsp, .piers, .axes, .deck, .deckMem, .ring, .twn]
  | .foreignSyncReceive _ _ => [.evt, .hif, .ring, .twn]
  | .syncReturn _ _ => [.evt, .ring, .twn]
  | .ringBreakDetect _ => [.evt]
  | .expansionJointError _ => [.evt]
  | .portLinkChange _ _ _ _ _ _ => [.evt, .ring]
  | .dispatchDecision => [.evt, .dsp, .piers]
  | .axisTaskStart _ => [.free, .evt, .dsp, .piers, .axes, .deck, .deckMem, .pwr]
  | .axisTaskEnd _ => [.free, .evt, .dsp, .piers, .axes, .deck, .deckMem, .pwr, .twn]
  | .eventTask _ => [.free, .piers]
  | .backgroundSlice _ => [.free, .piers]
  | .stateMoveEnd _ => [.axes, .deck]
  | .substitutePost _ => [.dsp, .piers, .axes]
  | .overrun _ => [.evt, .dsp, .piers, .axes]
  | .laneWriteDeadline _ => [.pwr]
  | .taskWatchdogExpiry _ => [.evt, .dsp, .piers, .axes, .deck]
  | .assemblerSlotRead _ => [.ring]
  | .windowSend _ _ => [.est, .deck, .deckMem, .ring, .twn]
  | .backgroundPost _ => [.evt, .dsp]
  | .flowEnable _ _ => [.axes]
  | .pirReload _ => [.piers, .nvs]
  | .pierReloadDone _ => [.evt, .dsp, .piers, .axes, .deck]
  | .pirOffline _ => [.evt, .dsp, .piers, .axes]
  | .pirOnline _ => [.piers]
  | .pierScrubPass _ => [.evt, .dsp, .piers, .axes, .deck]
  | .pierFault _ _ _ _ => [.evt, .dsp, .piers, .axes, .deck]
  | .stateSlotDiscard _ _ _ => [.evt, .dsp, .piers, .axes, .deck]
  | .deckScrub _ _ => [.evt, .dsp, .piers, .axes, .deck, .deckMem]
  | .deckWindowWrite _ _ => [.deck, .deckMem]
  | .residentCopyUpdate => [.deck]
  | .camPointHighWrite _ _ => [.deck, .deckMem]
  | .axisEnableWrite _ _ => [.dsp, .piers, .axes, .deck]
  | .axisDisableWrite _ _ => [.dsp, .piers, .axes, .deck]
  | .stateLoadEnd _ => [.axes, .deck]
  | .pwmPeriodStart _ => [.pwr]
  | .pwmMidpoint _ => [.pwr]
  | .pwmSyncRestart _ => [.pwr]
  | .pwmModuleEnable _ _ => [.pwr]
  | .pwmFaultInput _ _ _ => [.free, .evt, .pwr]
  | .faultStateTurnOn _ => [.pwr]
  | .faultLatchClear _ => [.pwr]
  | .pwmForce => [.host, .pwr]
  | .sdmFilterOutput _ _ => [.evt, .pwr]
  | .sdmStuck _ => [.evt, .pwr]
  | .sdmClockLoss _ => [.evt]
  | .encoderEdge _ _ _ => [.evt, .pwr]
  | .serialTransferStart _ => [.pwr]
  | .serialTransferEnd _ _ => [.evt, .pwr]
  | .encoderLatchEdge _ _ _ => []
  | .encoderEnable _ _ => [.pwr]
  | .laneEnable _ _ => [.evt, .pwr]
  | .laneEvaluation _ => [.free, .evt, .pwr]
  | .laneCompareWrite _ => [.pwr]
  | .stepEnable _ _ => [.pwr]
  | .stepPlan _ => [.evt, .pwr]
  | .stepPulse _ => [.pwr]
  | .adcConversion _ => [.evt, .acq, .nvs]
  | .sfpTransfer _ _ => []
  | .sfpTransferEnd _ _ _ => []
  | .ddmRead _ _ _ => [.ring]
  | .listenTimeEnd => [.free, .ring]
  | .delayFrameReturn _ _ => [.free, .evt, .ring]
  | .measureTimeout => [.free, .evt, .hif, .ring]
  | .reportFrameReturn _ _ => [.free, .evt, .dsp, .piers, .axes, .hif, .ring]
  | .assignDone => []
  | .firstSync => [.evt, .est, .deck, .deckMem, .hif, .window, .ring, .twn]
  | .runFrameReturn _ _ => [.evt, .ring, .twn]
  | .stationRemoval _ => [.ring]
  | .trunkStart _ => [.ring]
  | .trunkMeasure => [.ring]
  | .trunkFrameReceive _ _ => [.free, .evt, .chn, .ring, .twn]
  | .trunkLost => [.evt]
  | .acqTick => [.free, .evt, .acq, .ddr]
  | .captureDrainEnd => [.evt, .acq, .ddr]
  | .arm _ => [.evt, .acq, .ddr]
  | .stop _ => [.evt, .acq, .ddr]
  | .swtrig _ => [.evt, .acq, .ddr]
  | .triggerUnitEnable _ _ => [.acq]
  | .registerMarkGateClose _ => [.acq]
  | .registerMarkResult _ => [.evt, .acq]
  | .ddrUncorrectableError _ => [.evt, .acq, .ddr]
  | .ddrTrainingLoss => [.evt, .acq, .ddr]
  | .train _ => []
  | .ddrTrainingDone _ => []
  | .safetyCycle _ => [.free, .evt, .pwr, .ring, .kst, .kstImg, .kstConf]
  | .discrepancyTimeout _ => [.kst]
  | .cat1TimerExpiry _ => [.kst]
  | .unlockDelayExpiry _ => [.kst]
  | .lockMonitorTimeout _ => [.kst]
  | .supplyMonitorFault _ => [.free, .evt, .pwr, .ring, .kst]
  | .keystoneSelfTest _ => [.free, .evt, .pwr, .ring, .kst]
  | .containerBuild => [.ring, .kst]
  | .upstreamContainerCheck => [.evt, .ring, .kst]
  | .falseworkEnter => [.host, .evt, .kst]
  | .falseworkAbort => [.host, .evt, .kst, .kstImg]
  | .falseworkValidate => [.host, .evt, .kst]
  | .falseworkTimeout => [.evt, .kst, .kstImg]
  | .kstPwinWrite _ _ => [.kst]
  | .keystoneBootValidate => [.kst, .kstImg]
  | .pairHeartbeatReceive _ => [.evt, .cyc, .hif, .ring, .twn]
  | .leaseDeadline => [.free, .evt, .twn]
  | .partnerLoss => []
  | .yield => [.hif, .twn]
  | .pair => [.hif, .twn]
  | .join => [.hif, .twn]
  | .mirrorFrameReceive _ => [.twn]
  | .mirrorAckReceive _ => [.twn]
  | .mirrorExecute => [.free, .nt, .evt, .cyc, .chn, .est, .dsp, .piers, .axes, .deck, .deckMem, .hif, .ring, .twn]
  | .stateFrameReceive _ => [.twn]
  | .stateInstall => [.deck, .twn]
  | .timingMarkReceive _ _ => [.free]
  | .digestPassEnd => [.evt, .twn]
  | .partnerCopyCompare _ _ => [.evt, .twn]
  | .pairFrameError => []
  | .sqEntryWrite _ _ => [.hif, .window]
  | .sqDoorbell _ _ => [.hif]
  | .cqHeadDoorbell _ => []
  | .packetFetch _ => [.hif]
  | .payloadDmaComplete _ _ => [.evt, .hif]
  | .fenceRelease _ => [.hif]
  | .opNop _ => [.hif, .twn]
  | .opIdent _ => [.hif, .twn]
  | .opRegWrite _ => [.free, .nt, .inc, .host, .evt, .cyc, .chn, .est, .cap, .dsp, .piers, .axes, .deck, .deckMem, .pwr, .hif, .ring, .twn, .kst,
      .acq, .ddr, .nvs]
  | .opMbxRead _ => [.hif, .twn]
  | .opMbxWrite _ => [.nt, .cyc, .chn, .hif, .twn]
  | .opAxisEnable _ => [.axes, .deck, .hif, .twn]
  | .opAxisDisable _ => [.dsp, .piers, .axes, .hif, .twn]
  | .opParamWrite _ => [.deck, .deckMem, .hif, .twn]
  | .opParamRead _ => [.free, .hif, .twn]
  | .opFaultClear _ => [.piers, .deck, .hif, .twn]
  | .opGroupQuiesce _ => [.hif, .twn]
  | .groupQuiesceEffect => [.dsp, .piers, .deck, .hif]
  | .opGroupResume _ => [.hif, .twn]
  | .groupResumeEffect => [.deck, .hif]
  | .groupResumeTimeout => [.hif]
  | .opMoveAbs _ => [.deck, .deckMem, .hif, .twn]
  | .opMoveRel _ => [.deck, .deckMem, .hif, .twn]
  | .opVelocity _ => [.deck, .deckMem, .hif, .twn]
  | .opStop _ => [.deck, .deckMem, .hif, .twn]
  | .opGear _ => [.deck, .deckMem, .hif, .twn]
  | .opCam _ => [.deck, .deckMem, .hif, .twn]
  | .opHome _ => [.deck, .deckMem, .hif, .twn]
  | .opGroupMove _ => [.deck, .deckMem, .hif, .twn]
  | .motionHoldEnd => [.hif]
  | .motionCompletion => [.evt, .dsp, .hif, .window]
  | .opEstWrite _ => [.evt, .est, .hif, .twn]
  | .opEstLoad _ => [.evt, .est, .hif, .twn]
  | .opCamLoad _ => [.deck, .deckMem, .hif, .twn]
  | .opCymLoad _ => [.hif, .twn]
  | .opRingStart _ => [.evt, .cyc, .hif, .ring, .twn]
  | .opRingHalt _ => [.hif, .ring, .twn]
  | .ringHaltEffect => [.hif, .ring]
  | .opSafetyLoad _ => [.hif, .twn, .kst]
  | .opCaptureRead _ => [.free, .evt, .hif, .twn, .acq, .ddr]
  | .opNvsWrite _ => [.hif, .twn, .nvs]
  | .opNvsCommit _ => [.hif, .twn, .nvs]
  | .opBbxRead _ => [.free, .hif, .twn]
  | .opTwinPair _ => [.hif, .twn]
  | .opTwinYield _ => [.hif, .twn]
  | .opTwinJoin _ => [.hif, .twn]
  | .functionLevelReset _ => [.evt, .hif]
  | .pcieLinkDown => [.evt]
  | .pcieLinkUp _ _ => [.evt]
  | .tollgateWatchdogExpiry => [.evt, .hif, .twn, .nvs]
  | .tollgateRestartEnd => [.hif]
  | .eventWriterServe => [.evt, .nvs]
  | .evtHeadWrite _ => []
  | .vectorTimeExpiry _ => [.evt]
  | .msixMessage _ => [.evt]
  | .bbxNote _ => [.nvs]
  | .freeze _ => [.evt, .nvs]
  | .commit _ => [.evt, .nvs]
  | .release _ => [.evt, .nvs]
  | .load _ => [.evt, .nvs]
  | .erase _ => [.evt, .nvs]
  | .nvsSwitch => [.host, .nvs]
  | .flashOperationStart => [.evt, .nvs]
  | .flashOperationEnd _ => [.free, .evt, .piers, .deck, .pierMem, .hif, .nvs, .flash]
  | .softwareResetHost => [.host, .evt, .hif]
  | .softwareResetCore => [.nt, .inc, .host, .evt, .cyc, .chn, .est, .cap, .dsp, .piers, .axes, .deck, .deckMem, .pierMem, .pwr, .hif, .window, .ring,
      .twn, .kst, .acq, .ddr, .nvs, .flash, .sysLost, .fbDone]
  | .softwareResetFull => [.clk, .nt, .inc, .host, .evt, .cyc, .chn, .est, .cap, .dsp, .piers, .axes, .deck, .deckMem, .pierMem, .pwr, .hif, .window,
      .ring, .twn, .kst, .kstImg, .acq, .ddr, .nvs, .flash, .krefLost, .sysLost, .fbDone]
  | .resetPin => [.clk, .free, .nt, .inc, .host, .evt, .cyc, .chn, .est, .cap, .dsp, .piers, .axes, .deck, .deckMem, .pierMem, .pwr, .hif, .window,
      .ring, .twn, .kst, .kstImg, .acq, .ddr, .nvs, .flash, .krefLost, .sysLost, .fbDone]
  | .perst => [.evt, .hif]
  | .powerOn => [.clk, .free, .nt, .inc, .host, .evt, .cyc, .chn, .est, .cap, .dsp, .piers, .axes, .deck, .deckMem, .pierMem, .pwr, .hif, .window,
      .ring, .twn, .kst, .kstImg, .acq, .ddr, .nvs, .flash, .krefLost, .sysLost, .fbDone]
  | .supplyBrownout _ => [.clk, .free, .nt, .inc, .host, .evt, .cyc, .chn, .est, .cap, .dsp, .piers, .axes, .deck, .deckMem, .pierMem, .pwr, .hif,
      .window, .ring, .twn, .kst, .kstImg, .acq, .ddr, .nvs, .flash, .krefLost, .sysLost, .fbDone]
  | .pllLock _ => [.evt]
  | .pllLockTimeout _ => [.free, .evt, .pwr, .ring, .kst, .acq, .ddr, .krefLost, .sysLost]
  | .boot _ => [.free, .nt, .inc, .host, .evt, .cyc, .chn, .est, .cap, .dsp, .piers, .axes, .deck, .deckMem, .pierMem, .pwr, .hif, .ring, .twn, .kst,
      .acq, .ddr, .nvs]
  | .jtagInstruction _ _ => [.host]
  | .discardedFrameReceive _ _ => [.evt]
  | .trunkDelayFrameReceive _ _ => [.free, .evt, .ring, .twn]
  | .pairLinkChange _ => [.twn]
  | .msixVectorUnmask _ => [.evt]
  | .eventOrBackgroundTaskEnd _ => [.free, .evt, .dsp, .piers, .axes]

/-- The registers that a command may change: a register at an address that this does not hold of is unchanged by it. A family whose index the command
takes from the state, not from an operand, is named whole. `True` stands where the command writes a register of any address: a reset, boot, the
scrubber of triple-voted registers, a register write by a command packet. -/
def regsOf : Instr → Nat → Prop
  | .registerWrite addr _, a => writeRegs addr a
  | .badWidthAccess _, a => a ∈ [R.GLB_ACC_ERR, R.EVT_PEND (2 / 32), R.EVT_LOST_CNT, R.EVT_STAT]
  | .unmappedAccess addr _ _, a => writeRegs addr a ∨ a ∈ [R.GLB_VOTE_CNT, R.GLB_VOTE_LAST, R.EVT_PEND (0 / 32), R.HIF_FIRST_REF] ∨ (∃ i, a =
      R.PIR_UE_INFO i)
  | .readClear addr, a => a ∈ [R.GLB_MBX_STAT, addr, R.GLB_VOTE_CNT, R.GLB_VOTE_LAST, R.EVT_PEND (0 / 32), R.EVT_LOST_CNT, R.EVT_STAT,
      R.HIF_FIRST_REF, R.GLB_ACC_ERR, R.EVT_PEND (2 / 32)] ∨ (∃ i, a = R.PIR_UE_INFO i)
  | .pairedWriteValue _ _, a => a ∈ [R.GLB_ACC_ERR, R.GLB_PW_ERR, R.GLB_PW_LAST, R.EVT_PEND (1 / 32), R.EVT_LOST_CNT, R.EVT_STAT]
  | .pairedWriteComplement addr _, a => a ∈ [R.GLB_ACC_ERR, R.GLB_PW_ERR, R.GLB_PW_LAST, R.EVT_PEND (1 / 32), R.EVT_LOST_CNT, R.EVT_STAT, addr]
  | .pwWindowExpiry, a => a ∈ [R.GLB_PW_ERR, R.GLB_PW_LAST, R.EVT_PEND (1 / 32), R.EVT_LOST_CNT, R.EVT_STAT]
  | .tvScrub, _ => True
  | .ntNow, a => a ∈ [R.GLB_ACC_ERR, R.GLB_MBX_REQ, R.GLB_MBX_STAT] ∨ (∃ i, a = R.GLB_MBX_D i)
  | .ntSet, a => a ∈ [R.GLB_ACC_ERR, R.GLB_MBX_REQ, R.GLB_MBX_STAT]
  | .chnNow, a => a ∈ [R.GLB_ACC_ERR, R.GLB_MBX_REQ, R.GLB_MBX_STAT] ∨ (∃ i, a = R.GLB_MBX_D i)
  | .chnSnap, a => a ∈ [R.GLB_ACC_ERR, R.GLB_MBX_REQ, R.GLB_MBX_STAT] ∨ (∃ i, a = R.GLB_MBX_D i)
  | .chnPreset, a => a ∈ [R.GLB_ACC_ERR, R.GLB_MBX_REQ, R.GLB_MBX_STAT]
  | .vmVtgtRead, a => a ∈ [R.GLB_ACC_ERR, R.GLB_MBX_REQ, R.GLB_MBX_STAT] ∨ (∃ i, a = R.GLB_MBX_D i)
  | .vmVtgtWrite, a => a ∈ [R.GLB_ACC_ERR, R.GLB_MBX_REQ, R.GLB_MBX_STAT]
  | .srcOffsetRead, a => a ∈ [R.GLB_ACC_ERR, R.GLB_MBX_REQ, R.GLB_MBX_STAT] ∨ (∃ i, a = R.GLB_MBX_D i)
  | .srcOffsetWrite, a => a ∈ [R.GLB_ACC_ERR, R.GLB_MBX_REQ, R.GLB_MBX_STAT]
  | .capLossT, a => a ∈ [R.GLB_ACC_ERR, R.GLB_MBX_REQ, R.GLB_MBX_STAT] ∨ (∃ i, a = R.GLB_MBX_D i)
  | .evtLossT, a => a ∈ [R.GLB_ACC_ERR, R.GLB_MBX_REQ, R.GLB_MBX_STAT] ∨ (∃ i, a = R.GLB_MBX_D i)
  | .voteT, a => a ∈ [R.GLB_ACC_ERR, R.GLB_MBX_REQ, R.GLB_MBX_STAT] ∨ (∃ i, a = R.GLB_MBX_D i)
  | .bcIndex, a => a ∈ [R.GLB_ACC_ERR, R.GLB_MBX_REQ, R.GLB_MBX_STAT] ∨ (∃ i, a = R.GLB_MBX_D i)
  | .pirTasks64, a => a ∈ [R.GLB_ACC_ERR, R.GLB_MBX_REQ, R.GLB_MBX_STAT] ∨ (∃ i, a = R.GLB_MBX_D i)
  | .mbxUnknownCode _ _, a => a ∈ [R.GLB_ACC_ERR, R.GLB_MBX_REQ, R.GLB_MBX_STAT] ∨ (∃ i, a = R.GLB_MBX_D i)
  | .mbxReady, a => a = R.GLB_MBX_STAT
  | .mbxDataRead _, a => a = R.GLB_MBX_STAT
  | .mbxStatRead, a => a = R.GLB_MBX_STAT
  | .syncInstant, a => a ∈ [R.EST_SKIP_CNT, R.EST_STAT, R.EVT_PEND (19 / 32), R.EVT_LOST_CNT, R.EVT_STAT, R.CHN_STAT, R.DSP_MIG, R.EVT_PEND (58 / 32),
      R.ACQ_STAT, R.TWN_HB_MISS, R.TWN_STAT, R.TWN_CTL, R.EVT_PEND (113 / 32), R.TWN_EPOCH, R.TWN_TAKE_CNT, R.EVT_PEND (112 / 32), R.HIF_CQ_STAT,
      R.ZLP_SSTAT, R.ZLP_BUDGET, R.HIF_STALL_CNT] ∨ (∃ i, a = R.DSP_FLOW i) ∨ (∃ i, a = R.DSP_USE i) ∨ (∃ i, a = R.DSP_PEAK i) ∨ (∃ i, a = R.ENC_STAT
      i) ∨ (∃ i, a = R.ENC_ERRCNT i) ∨ (∃ i j, a = R.PIR_RES i j) ∨ (∃ i, a = R.PIR_STAT i)
  | .expressSyncInstant, _ => False
  | .classLFeedbackWrite, _ => False
  | .sysclkLoss, a => a ∈ [R.KST_STAT, R.KST_ZONE, R.EVT_PEND (96 / 32), R.EVT_LOST_CNT, R.EVT_STAT, R.PWM_FLT_STAT, R.EVT_PEND (56 / 32), R.KST_OUT,
      R.EVT_PEND (98 / 32)]
  | .krefLoss, a => a ∈ [R.KST_OUT, R.EVT_PEND (101 / 32), R.EVT_LOST_CNT, R.EVT_STAT]
  | .chnIncHi _, a => a ∈ [R.GLB_ACC_ERR, R.CHN_INC_HI, R.CHN_INC_LO, R.CHN_STAT, R.EVT_PEND (16 / 32), R.EVT_LOST_CNT, R.EVT_STAT]
  | .chainagePlan, a => a ∈ [R.TWN_HB_MISS, R.CHN_STAT, R.CHN_MISS_CNT, R.CHN_MISS, R.EVT_PEND (17 / 32), R.EVT_LOST_CNT, R.EVT_STAT, R.CHN_SRC]
  | .sourceSwitchArm _, a => a ∈ [R.GLB_ACC_ERR, R.CHN_SRC]
  | .estSweep, a => a ∈ [R.EST_OVFL_CNT, R.EST_STAT, R.EVT_PEND (20 / 32), R.EVT_LOST_CNT, R.EVT_STAT, R.EST_SKIP_CNT]
  | .estFire _, a => a ∈ [R.EST_FIRE_CNT, R.EST_FIRST_LATE, R.EST_STAT, R.EST_LATE_CNT, R.EVT_PEND (18 / 32), R.EVT_LOST_CNT, R.EVT_STAT,
      R.CHN_CAP_FILL, R.CHN_STAT, R.EVT_PEND (21 / 32), R.DSP_STAT, R.EVT_PEND (26 / 32), R.TRG_STAT, R.EVT_PEND (83 / 32)] ∨ (∃ i, a = R.CHN_CAP_CFG
      i) ∨ (∃ i, a = R.ACQ_RM_STAT i) ∨ (∃ i, a = R.DSP_EVT_OVR i) ∨ (∃ i, a = R.TRG_CNT i) ∨ (∃ i, a = R.TRG_LAST i)
  | .pulseTimerEnd _, _ => False
  | .estCommit _, a => a ∈ [R.GLB_ACC_ERR, R.EST_W 3, R.EST_OVFL_CNT, R.EST_STAT, R.EVT_PEND (20 / 32), R.EVT_LOST_CNT, R.EVT_STAT, R.EST_SKIP_CNT]
  | .estCommitCompare _, a => a ∈ [R.EST_OVFL_CNT, R.EST_STAT, R.EVT_PEND (20 / 32), R.EVT_LOST_CNT, R.EVT_STAT, R.EST_SKIP_CNT]
  | .estIdxLoad _, a => a ∈ [R.GLB_ACC_ERR, R.EST_IDX] ∨ (∃ i, a = R.EST_W i)
  | .estPinPolWrite _, a => a ∈ [R.GLB_ACC_ERR, R.EST_PIN_POL]
  | .edgeCapture _ _ _, a => a ∈ [R.CHN_CAP_FILL, R.CHN_STAT, R.EVT_PEND (21 / 32), R.EVT_LOST_CNT, R.EVT_STAT]
  | .captureRecordPop, _ => False
  | .collectReceive port _, a => a ∈ [R.ZLP_P_RXCNT ↑port, R.ZLP_P_STAT ↑port, R.EVT_PEND (76 / 32), R.EVT_LOST_CNT, R.EVT_STAT, R.ZLP_P_HCRCCNT
      ↑port, R.ZLP_P_FCSCNT ↑port, R.EVT_PEND (69 / 32), R.ZLP_WV_CNT, R.DSP_STAT, R.EVT_PEND (25 / 32)] ∨ (∃ i, a = R.ZLP_STN_CNT i)
  | .xsampReceive port _, a => a ∈ [R.ZLP_P_RXCNT ↑port, R.ZLP_P_STAT ↑port, R.EVT_PEND (76 / 32), R.EVT_LOST_CNT, R.EVT_STAT, R.ZLP_P_HCRCCNT ↑port,
      R.ZLP_P_FCSCNT ↑port, R.EVT_PEND (69 / 32), R.ZLP_WV_CNT, R.DSP_STAT, R.EVT_PEND (25 / 32)] ∨ (∃ i, a = R.ZLP_STN_CNT i)
  | .safeUpstreamReceive port _, a => a ∈ [R.ZLP_P_RXCNT ↑port, R.ZLP_P_STAT ↑port, R.EVT_PEND (76 / 32), R.EVT_LOST_CNT, R.EVT_STAT, R.ZLP_P_HCRCCNT
      ↑port, R.ZLP_P_FCSCNT ↑port, R.EVT_PEND (69 / 32), R.ZLP_WV_CNT, R.EVT_PEND (67 / 32)] ∨ (∃ i, a = R.ZLP_STN_CNT i) ∨ (∃ i, a = R.ZLP_STN_STAT
      i)
  | .serviceReceive port _, a => a ∈ [R.ZLP_P_RXCNT ↑port, R.ZLP_P_STAT ↑port, R.EVT_PEND (76 / 32), R.EVT_LOST_CNT, R.EVT_STAT, R.ZLP_P_HCRCCNT
      ↑port, R.ZLP_P_FCSCNT ↑port, R.EVT_PEND (69 / 32), R.ZLP_WV_CNT] ∨ (∃ i, a = R.ZLP_STN_CNT i)
  | .vacantUnclaimedReturn port _, a => a ∈ [R.ZLP_P_RXCNT ↑port, R.ZLP_P_STAT ↑port, R.EVT_PEND (76 / 32), R.EVT_LOST_CNT, R.EVT_STAT,
      R.ZLP_P_HCRCCNT ↑port, R.ZLP_P_FCSCNT ↑port, R.EVT_PEND (69 / 32), R.ZLP_WV_CNT] ∨ (∃ i, a = R.ZLP_STN_CNT i)
  | .stnpdReceive port _, a => a ∈ [R.ZLP_P_RXCNT ↑port, R.ZLP_P_STAT ↑port, R.EVT_PEND (76 / 32), R.EVT_LOST_CNT, R.EVT_STAT, R.ZLP_P_HCRCCNT ↑port,
      R.ZLP_P_FCSCNT ↑port, R.EVT_PEND (69 / 32), R.ZLP_WV_CNT, R.DSP_STAT, R.EVT_PEND (25 / 32)] ∨ (∃ i, a = R.ZLP_STN_CNT i)
  | .foreignSyncReceive port _, a => a ∈ [R.ZLP_P_RXCNT ↑port, R.ZLP_P_STAT ↑port, R.EVT_PEND (76 / 32), R.EVT_LOST_CNT, R.EVT_STAT, R.ZLP_P_HCRCCNT
      ↑port, R.ZLP_P_FCSCNT ↑port, R.ZLP_SSTAT, R.ZLP_BUDGET, R.ZLP_FAULT, R.ZLP_STAT, R.EVT_PEND (64 / 32), R.EVT_PEND (73 / 32)]
  | .syncReturn port _, a => a ∈ [R.ZLP_P_RXCNT ↑port, R.ZLP_P_STAT ↑port, R.EVT_PEND (76 / 32), R.EVT_LOST_CNT, R.EVT_STAT, R.ZLP_P_HCRCCNT ↑port,
      R.ZLP_P_FCSCNT ↑port, R.TWN_TOFF, R.TWN_PHASE, R.ZLP_RSTAT, R.EVT_PEND (71 / 32), R.ZLP_LOOP (2 * ringOfPort ↑port), R.EVT_PEND (72 / 32)]
  | .ringBreakDetect _, a => a ∈ [R.ZLP_RSTAT, R.ZLP_BRK, R.ZLP_BRK_CNT, R.EVT_PEND (70 / 32), R.EVT_LOST_CNT, R.EVT_STAT]
  | .expansionJointError port, a => a ∈ [R.ZLP_P_STAT ↑port, R.ZLP_P_EJCNT ↑port, R.EVT_PEND (76 / 32), R.EVT_LOST_CNT, R.EVT_STAT]
  | .portLinkChange port _ _ _ _ _, a => a ∈ [R.ZLP_P_STAT ↑port, R.ZLP_P_CODECNT ↑port, R.ZLP_RSTAT, R.ZLP_BRK, R.ZLP_BRK_CNT, R.EVT_PEND (70 / 32),
      R.EVT_LOST_CNT, R.EVT_STAT]
  | .dispatchDecision, a => a ∈ [R.DSP_STAT, R.EVT_PEND (16 / 32), R.EVT_LOST_CNT, R.EVT_STAT]
  | .axisTaskStart _, a => a ∈ [R.DSP_MIG_CNT, R.EVT_PEND (48 / 32), R.EVT_LOST_CNT, R.EVT_STAT] ∨ (∃ i, a = R.AXT_W2 i) ∨ (∃ i, a = R.AXT_W0 i) ∨ (∃
      i j, a = R.PIR_RES i j) ∨ (∃ i, a = R.AXT_FLT_MAP i) ∨ (∃ i, a = R.CLN_STAT i) ∨ (∃ i, a = R.ENC_STAT i)
  | .axisTaskEnd p, a => a ∈ [R.EVT_PEND (48 / 32), R.EVT_LOST_CNT, R.EVT_STAT, R.EVT_PEND (49 / 32), R.PIR_TASKS ↑p, R.PIR_STAT ↑p, R.AXT_STAT,
      R.PIR_CTL ↑p] ∨ (∃ i, a = R.CLN_STAT i) ∨ (∃ i, a = R.ENC_STAT i) ∨ (∃ i, a = R.AXT_W2 i) ∨ (∃ i, a = R.AXT_FLT_MAP i) ∨ (∃ i j, a = R.PIR_RES i
      j) ∨ (∃ i, a = R.AXT_W0 i)
  | .eventTask _, _ => False
  | .backgroundSlice _, _ => False
  | .stateMoveEnd _, r => (∃ i j, r = R.PIR_RES i j)
  | .substitutePost _, r => r ∈ [R.DSP_SUB_CNT, R.DSP_STAT]
  | .overrun _, r => r ∈ [R.DSP_OVR_FIRST, R.DSP_OVR_CNT, R.DSP_STAT, R.EVT_PEND (24 / 32), R.EVT_LOST_CNT, R.EVT_STAT] ∨ (∃ i, r = R.DSP_OVR_MAP i)
  | .laneWriteDeadline _, _ => False
  | .taskWatchdogExpiry p, a => a ∈ [R.DSP_BG_PEND, R.PIR_STAT ↑p, R.PIR_FAULT_CNT ↑p, R.PIR_CTL ↑p, R.EVT_PEND ((32 + ↑p) / 32), R.EVT_LOST_CNT,
      R.EVT_STAT, R.AXT_STAT, R.EVT_PEND (48 / 32)] ∨ (∃ i j, a = R.PIR_RES i j) ∨ (∃ i, a = R.AXT_W2 i) ∨ (∃ i, a = R.AXT_W0 i) ∨ (∃ i, a =
      R.AXT_FLT_MAP i)
  | .assemblerSlotRead _, _ => False
  | .windowSend _ _, a => a = R.DCK_STAT
  | .backgroundPost _, a => a ∈ [R.GLB_ACC_ERR, R.DSP_BG_OVR, R.DSP_STAT, R.EVT_PEND (26 / 32), R.EVT_LOST_CNT, R.EVT_STAT, R.DSP_BG_PEND]
  | .flowEnable n _, a => a ∈ [R.GLB_ACC_ERR, R.DSP_FLOW ↑n, R.DSP_STAT] ∨ (∃ i j, a = R.PIR_RES i j) ∨ (∃ i, a = R.AXT_W2 i)
  | .pirReload p, a => a ∈ [R.GLB_ACC_ERR, R.PIR_STAT ↑p, R.PIR_CTL ↑p, R.NVS_QFILL]
  | .pierReloadDone p, a => a ∈ [R.PIR_UC_CALC ↑p, R.PIR_CTL ↑p, R.DSP_BG_PEND, R.PIR_STAT ↑p, R.PIR_FAULT_CNT ↑p, R.EVT_PEND ((32 + ↑p) / 32),
      R.EVT_LOST_CNT, R.EVT_STAT, R.AXT_STAT, R.EVT_PEND (48 / 32)] ∨ (∃ i j, a = R.PIR_RES i j) ∨ (∃ i, a = R.AXT_W2 i) ∨ (∃ i, a = R.AXT_W0 i) ∨ (∃
      i, a = R.AXT_FLT_MAP i)
  | .pirOffline p, a => a ∈ [R.GLB_ACC_ERR, R.PIR_STAT ↑p, R.PIR_CTL ↑p, R.AXT_STAT, R.EVT_PEND (48 / 32), R.EVT_LOST_CNT, R.EVT_STAT] ∨ (∃ i j, a =
      R.PIR_RES i j) ∨ (∃ i, a = R.AXT_W2 i) ∨ (∃ i, a = R.AXT_W0 i) ∨ (∃ i, a = R.AXT_FLT_MAP i)
  | .pirOnline p, a => a ∈ [R.GLB_ACC_ERR, R.PIR_STAT ↑p] ∨ (∃ i, a = R.PIR_RES ↑p i)
  | .pierScrubPass x, a => a ∈ [R.PIR_UC_CALC ↑x.pier, R.PIR_SCRUB ↑x.pier, R.PIR_ICE_CNT ↑x.pier, R.PIR_DCE_CNT ↑x.pier, R.DSP_BG_PEND, R.PIR_STAT ↑x.pier,
      R.PIR_FAULT_CNT ↑x.pier, R.PIR_CTL ↑x.pier, R.EVT_PEND ((32 + ↑x.pier) / 32), R.EVT_LOST_CNT, R.EVT_STAT, R.AXT_STAT, R.EVT_PEND (48 / 32)] ∨ (∃ i j, a =
      R.PIR_RES i j) ∨ (∃ i, a = R.AXT_W2 i) ∨ (∃ i, a = R.AXT_W0 i) ∨ (∃ i, a = R.AXT_FLT_MAP i)
  | .pierFault p _ _ _, a => a ∈ [R.PIR_UE_INFO ↑p, R.DSP_BG_PEND, R.PIR_STAT ↑p, R.PIR_FAULT_CNT ↑p, R.PIR_CTL ↑p, R.EVT_PEND ((32 + ↑p) / 32),
      R.EVT_LOST_CNT, R.EVT_STAT, R.AXT_STAT, R.EVT_PEND (48 / 32)] ∨ (∃ i j, a = R.PIR_RES i j) ∨ (∃ i, a = R.AXT_W2 i) ∨ (∃ i, a = R.AXT_W0 i) ∨ (∃
      i, a = R.AXT_FLT_MAP i)
  | .stateSlotDiscard p _ _, r => r ∈ [R.PIR_UE_INFO ↑p, R.PIR_REST_CNT ↑p, R.DSP_BG_PEND, R.PIR_STAT ↑p, R.AXT_STAT, R.EVT_PEND (48 / 32),
      R.EVT_LOST_CNT, R.EVT_STAT, R.PIR_CTL ↑p] ∨ (∃ i j, r = R.PIR_RES i j) ∨ (∃ i, r = R.AXT_W2 i) ∨ (∃ i, r = R.AXT_W0 i) ∨ (∃ i, r = R.AXT_FLT_MAP
      i)
  | .deckScrub addr _, a => a ∈ [R.DCK_CE_CNT, R.DCK_STAT, R.DCK_UE_CNT, R.DCK_UE_ADDR, R.AXT_W0 (addr / 8 * 8 / 2048), R.AXT_W2 (addr / 8 * 8 /
      2048), R.AXT_FLT_MAP (addr / 8 * 8 / 2048 / 32), R.EVT_PEND (48 / 32), R.EVT_LOST_CNT, R.EVT_STAT, R.DCK_CAM_BAD, R.DCK_SCRUB] ∨ (∃ i j, a =
      R.PIR_RES i j)
  | .deckWindowWrite _ _, a => a ∈ [R.GLB_ACC_ERR, R.DCK_STAT]
  | .residentCopyUpdate, _ => False
  | .camPointHighWrite _ _, a => a ∈ [R.GLB_ACC_ERR, R.DCK_STAT]
  | .axisEnableWrite a _, r => r ∈ [R.GLB_ACC_ERR, R.AXT_STAT, R.AXT_W0 ↑a, R.AXT_W2 ↑a, R.DSP_DL ↑a] ∨ (∃ i j, r = R.PIR_RES i j)
  | .axisDisableWrite a _, r => r ∈ [R.GLB_ACC_ERR, R.AXT_STAT, R.AXT_W0 ↑a, R.AXT_W2 ↑a, R.DSP_DL ↑a] ∨ (∃ i j, r = R.PIR_RES i j)
  | .stateLoadEnd a, r => r = R.AXT_W2 ↑a
  | .pwmPeriodStart m, a => a = R.PWM_STAT ↑m
  | .pwmMidpoint m, a => a = R.PWM_STAT ↑m
  | .pwmSyncRestart m, a => a = R.PWM_STAT ↑m
  | .pwmModuleEnable m _, a => a ∈ [R.GLB_ACC_ERR, R.PWM_CFG ↑m, R.PWM_STAT ↑m]
  | .pwmFaultInput _ _ _, a => a ∈ [R.PWM_FLT_STAT, R.PWM_FLT_FIRST, R.PWM_FLT_CNT, R.EVT_PEND (56 / 32), R.EVT_LOST_CNT, R.EVT_STAT]
  | .faultStateTurnOn _, _ => False
  | .faultLatchClear _, a => a ∈ [R.GLB_ACC_ERR, R.PWM_FLT_STAT]
  | .pwmForce, _ => False
  | .sdmFilterOutput c _, a => a ∈ [R.SDM_DATA ↑c, R.SDM_STAT ↑c, R.EVT_PEND (59 / 32), R.EVT_LOST_CNT, R.EVT_STAT]
  | .sdmStuck x, a => a ∈ [R.SDM_DATA ↑x.chan, R.SDM_STAT ↑x.chan, R.EVT_PEND (59 / 32), R.EVT_LOST_CNT, R.EVT_STAT]
  | .sdmClockLoss c, a => a ∈ [R.SDM_STAT ↑c, R.EVT_PEND (59 / 32), R.EVT_LOST_CNT, R.EVT_STAT]
  | .encoderEdge e _ _, r => r ∈ [R.ENC_STAT ↑e, R.ENC_ERRCNT ↑e, R.EVT_PEND (58 / 32), R.EVT_LOST_CNT, R.EVT_STAT, R.ENC_POS ↑e]
  | .serialTransferStart _, _ => False
  | .serialTransferEnd e _, a => a ∈ [R.ENC_DLY ↑e, R.ENC_STAT ↑e, R.ENC_POS ↑e, R.ENC_ERRCNT ↑e, R.EVT_PEND (58 / 32), R.EVT_LOST_CNT, R.EVT_STAT]
  | .encoderLatchEdge e _ _, a => a ∈ [R.ENC_STAT ↑e, R.ENC_LPOS ↑e]
  | .encoderEnable e _, a => a ∈ [R.GLB_ACC_ERR, R.ENC_CFG ↑e, R.ENC_STAT ↑e]
  | .laneEnable l _, a => a ∈ [R.GLB_ACC_ERR, R.CLN_CFG ↑l, R.CLN_STAT ↑l, R.EVT_PEND (57 / 32), R.EVT_LOST_CNT, R.EVT_STAT]
  | .laneEvaluation l, a => a ∈ [R.CLN_STAT ↑l, R.EVT_PEND (57 / 32), R.EVT_LOST_CNT, R.EVT_STAT, R.CLN_ID ↑l, R.CLN_IQ ↑l, R.CLN_UD ↑l, R.CLN_UQ ↑l,
      R.CLN_THETA ↑l, R.CLN_IQ_REF ↑l, R.CLN_I_SET ↑l, R.EVT_PEND (16 / 32)]
  | .laneCompareWrite _, a => (∃ i, a = R.PWM_STAT i) ∨ (∃ i, a = R.PWM_PER i) ∨ (∃ i j, a = R.PWM_CMP i j)
  | .stepEnable c _, a => a ∈ [R.GLB_ACC_ERR, R.STP_CFG ↑c, R.STP_POS ↑c, R.STP_STAT ↑c]
  | .stepPlan c, a => a ∈ [R.STP_LAG ↑c, R.STP_STAT ↑c, R.EVT_PEND (60 / 32), R.EVT_LOST_CNT, R.EVT_STAT, R.EVT_PEND (16 / 32)]
  | .stepPulse c, a => a = R.STP_POS ↑c
  | .adcConversion _, a => a ∈ [R.ADC_STAT, R.NVS_HU_V, R.NVS_HU_E, R.NVS_STAT, R.BBX_STAT, R.BBX_TILES, R.BBX_COUNT, R.BBX_SEQ, R.EVT_PEND (130 /
      32), R.EVT_LOST_CNT, R.EVT_STAT] ∨ (∃ i, a = R.ADC_DATA i)
  | .sfpTransfer port _, a => a ∈ [R.GLB_ACC_ERR, R.ZLP_P_SFP_CTL ↑port]
  | .sfpTransferEnd port _ _, a => a = R.ZLP_P_SFP_CTL ↑port
  | .ddmRead port _ _, a => a = R.ZLP_P_DDM ↑port
  | .listenTimeEnd, a => a = R.ZLP_SSTAT
  | .delayFrameReturn port _, a => a ∈ [R.ZLP_P_RXCNT ↑port, R.ZLP_P_STAT ↑port, R.EVT_PEND (76 / 32), R.EVT_LOST_CNT, R.EVT_STAT, R.ZLP_P_HCRCCNT
      ↑port, R.ZLP_P_FCSCNT ↑port] ∨ (∃ i, a = R.ZLP_LOOP i)
  | .measureTimeout, a => a ∈ [R.ZLP_SSTAT, R.ZLP_BUDGET, R.ZLP_FAULT, R.ZLP_STAT, R.EVT_PEND (64 / 32), R.EVT_LOST_CNT, R.EVT_STAT] ∨ (∃ i, a =
      R.ZLP_LOOP i)
  | .reportFrameReturn port _, a => a ∈ [R.ZLP_P_RXCNT ↑port, R.ZLP_P_STAT ↑port, R.EVT_PEND (76 / 32), R.EVT_LOST_CNT, R.EVT_STAT, R.ZLP_P_HCRCCNT
      ↑port, R.ZLP_P_FCSCNT ↑port, R.ZLP_XLOOP, R.ZLP_STAT, R.ZLP_SSTAT, R.ZLP_BUDGET, R.ZLP_FAULT, R.EVT_PEND (64 / 32), R.EVT_PEND (75 / 32),
      R.ZLP_RSTAT] ∨ (∃ i, a = R.ZLP_STN_STAT i) ∨ (∃ i, a = R.ZLP_STN_DA i) ∨ (∃ i, a = R.ZLP_STN_DB i) ∨ (∃ i, a = R.DSP_DL i) ∨ (∃ i, a = R.AXT_W0
      i) ∨ (∃ i, a = R.AXT_W2 i) ∨ (∃ i j, a = R.PIR_RES i j)
  | .assignDone, a => a ∈ [R.ZLP_SSTAT, R.ZLP_BUDGET]
  | .firstSync, a => a ∈ [R.TWN_STAT, R.DCK_STAT, R.GLB_BOOT, R.EVT_PEND (3 / 32), R.EVT_LOST_CNT, R.EVT_STAT, R.HIF_CQ_PTR, R.HIF_CQ_STAT,
      R.HIF_CMD_CNT, R.HIF_FIRST_REF, R.HIF_REF_CNT, R.EVT_PEND (224 / 32)]
  | .runFrameReturn port _, a => a ∈ [R.ZLP_P_RXCNT ↑port, R.ZLP_P_STAT ↑port, R.EVT_PEND (76 / 32), R.EVT_LOST_CNT, R.EVT_STAT, R.ZLP_P_HCRCCNT
      ↑port, R.ZLP_P_FCSCNT ↑port, R.EVT_PEND (69 / 32), R.ZLP_WV_CNT, R.ZLP_LOOP (2 * ringOfPort ↑port + 1), R.ZLP_RSTAT, R.ZLP_JOIN_CNT, R.EVT_PEND
      (65 / 32), R.ZLP_DRIFT_CNT, R.EVT_PEND (68 / 32), R.EVT_PEND (66 / 32), R.ZLP_SSTAT] ∨ (∃ i, a = R.ZLP_STN_CNT i) ∨ (∃ i, a = R.ZLP_STN_STAT i)
      ∨ (∃ i, a = R.ZLP_STN_DA i) ∨ (∃ i, a = R.ZLP_STN_DB i)
  | .stationRemoval n, a => a ∈ [R.ZLP_STN_STAT ↑n, R.ZLP_SSTAT]
  | .trunkStart _, a => a ∈ [R.GLB_ACC_ERR, R.ZLP_TCFG, R.ZLP_TSTAT]
  | .trunkMeasure, _ => False
  | .trunkFrameReceive port _, a => a ∈ [R.ZLP_P_RXCNT ↑port, R.ZLP_P_STAT ↑port, R.EVT_PEND (76 / 32), R.EVT_LOST_CNT, R.EVT_STAT, R.ZLP_P_HCRCCNT
      ↑port, R.ZLP_P_FCSCNT ↑port, R.ZLP_TOFF, R.ZLP_TSTAT, R.ZLP_TDLV]
  | .trunkLost, a => a ∈ [R.ZLP_TSTAT, R.EVT_PEND (74 / 32), R.EVT_LOST_CNT, R.EVT_STAT]
  | .acqTick, a => a ∈ [R.TRG_STAT, R.EVT_PEND (83 / 32), R.EVT_LOST_CNT, R.EVT_STAT, R.EVT_PEND (84 / 32), R.ACQ_TIGN_CNT, R.ACQ_STAT, R.EVT_PEND (82
      / 32), R.EVT_PEND (16 / 32), R.ACQ_FIFO, R.EVT_PEND (81 / 32), R.ACQ_BLK, R.ACQ_DEAD, R.ACQ_CTL] ∨ (∃ i, a = R.TRG_CNT i) ∨ (∃ i, a = R.TRG_LAST
      i) ∨ (∃ i, a = R.ACQ_MK_CNT i)
  | .captureDrainEnd, a => a ∈ [R.ACQ_FIFO, R.ACQ_STAT, R.EVT_PEND (80 / 32), R.EVT_LOST_CNT, R.EVT_STAT]
  | .arm _, a => a ∈ [R.GLB_ACC_ERR, R.ACQ_STAT, R.ACQ_BSIZE, R.ACQ_BLK, R.ACQ_CTL, R.ACQ_FIFO, R.EVT_PEND (81 / 32), R.EVT_LOST_CNT, R.EVT_STAT]
  | .stop _, a => a ∈ [R.GLB_ACC_ERR, R.ACQ_STAT, R.ACQ_BSIZE, R.ACQ_BLK, R.ACQ_CTL, R.ACQ_FIFO, R.EVT_PEND (81 / 32), R.EVT_LOST_CNT, R.EVT_STAT]
  | .swtrig _, a => a ∈ [R.GLB_ACC_ERR, R.ACQ_STAT, R.ACQ_BSIZE, R.ACQ_BLK, R.ACQ_CTL, R.ACQ_FIFO, R.EVT_PEND (81 / 32), R.EVT_LOST_CNT, R.EVT_STAT]
  | .triggerUnitEnable u _, a => a ∈ [R.GLB_ACC_ERR, R.TRG_CFG ↑u, R.TRG_STAT]
  | .registerMarkGateClose k, a => a = R.ACQ_RM_STAT ↑k
  | .registerMarkResult k, a => a ∈ [R.ACQ_RM_ERR ↑k, R.EVT_PEND (85 / 32), R.EVT_LOST_CNT, R.EVT_STAT]
  | .ddrUncorrectableError _, a => a ∈ [R.DDR_STAT, R.DDR_UE_CNT, R.DDR_UE_ADDR, R.EVT_PEND (86 / 32), R.EVT_LOST_CNT, R.EVT_STAT, R.ACQ_STAT,
      R.ACQ_FIFO, R.EVT_PEND (81 / 32)]
  | .ddrTrainingLoss, a => a ∈ [R.DDR_STAT, R.EVT_PEND (86 / 32), R.EVT_LOST_CNT, R.EVT_STAT, R.ACQ_STAT, R.ACQ_FIFO, R.EVT_PEND (81 / 32)]
  | .train _, a => a ∈ [R.GLB_ACC_ERR, R.DDR_CTL]
  | .ddrTrainingDone _, a => a ∈ [R.DDR_CTL, R.DDR_STAT]
  | .safetyCycle _, a => a ∈ [R.KST_OUT, R.KST_STAT, R.KST_ZONE, R.EVT_PEND (96 / 32), R.EVT_LOST_CNT, R.EVT_STAT, R.PWM_FLT_STAT, R.EVT_PEND (56 /
      32), R.EVT_PEND (98 / 32), R.KST_PCV, R.KST_FW_STAT, R.EVT_PEND (100 / 32), R.KST_XCMP_CNT, R.EVT_PEND (97 / 32), R.KST_IN, R.KST_FUNC,
      R.KST_ACK_CNT, R.KST_SUPPLY, R.KST_IFLT_CNT]
  | .discrepancyTimeout _, a => a = R.KST_IFLT_CNT
  | .cat1TimerExpiry _, _ => False
  | .unlockDelayExpiry _, _ => False
  | .lockMonitorTimeout _, a => a = R.KST_IFLT_CNT
  | .supplyMonitorFault _, a => a ∈ [R.KST_SUPPLY, R.KST_STAT, R.KST_ZONE, R.EVT_PEND (96 / 32), R.EVT_LOST_CNT, R.EVT_STAT, R.PWM_FLT_STAT,
      R.EVT_PEND (56 / 32), R.KST_OUT, R.EVT_PEND (98 / 32)]
  | .keystoneSelfTest _, a => a ∈ [R.KST_STAT, R.KST_ZONE, R.EVT_PEND (96 / 32), R.EVT_LOST_CNT, R.EVT_STAT, R.PWM_FLT_STAT, R.EVT_PEND (56 / 32),
      R.KST_OUT, R.EVT_PEND (98 / 32)]
  | .containerBuild, _ => False
  | .upstreamContainerCheck, a => a ∈ [R.KST_UPS_CNT, R.EVT_PEND (99 / 32), R.EVT_LOST_CNT, R.EVT_STAT] ∨ (∃ i, a = R.KST_STN_WDX i) ∨ (∃ i, a =
      R.KST_STN_LOST i) ∨ (∃ i, a = R.KST_STN_FB i)
  | .falseworkEnter, a => a ∈ [R.KST_FW_STAT, R.KST_STAT, R.EVT_PEND (100 / 32), R.EVT_LOST_CNT, R.EVT_STAT]
  | .falseworkAbort, a => a ∈ [R.KST_STAT, R.EVT_PEND (100 / 32), R.EVT_LOST_CNT, R.EVT_STAT] ∨ (∃ i, a = R.KST_PWIN i)
  | .falseworkValidate, a => a ∈ [R.KST_PCV_NEW, R.KST_FW_STAT, R.KST_STAT, R.EVT_PEND (100 / 32), R.EVT_LOST_CNT, R.EVT_STAT]
  | .falseworkTimeout, a => a ∈ [R.KST_FW_STAT, R.KST_STAT, R.EVT_PEND (100 / 32), R.EVT_LOST_CNT, R.EVT_STAT] ∨ (∃ i, a = R.KST_PWIN i)
  | .kstPwinWrite off _, a => a ∈ [R.GLB_ACC_ERR, R.KST_PWIN (off / 4), R.KST_WIGN_CNT]
  | .keystoneBootValidate, a => a ∈ [R.KST_PCV, R.KST_PCV_NEW, R.KST_FW_STAT, R.KST_STAT]
  | .pairHeartbeatReceive _, a => a ∈ [R.TWN_PAIR_ERR, R.TWN_PARTNER, R.TWN_PDIGEST, R.TWN_STAT, R.EVT_PEND (115 / 32), R.EVT_LOST_CNT, R.EVT_STAT,
      R.ZLP_SSTAT, R.EVT_PEND (73 / 32), R.TWN_EPOCH, R.TWN_PDLV, R.TWN_CTL, R.TWN_JOIN]
  | .leaseDeadline, a => a ∈ [R.TWN_EPOCH, R.TWN_STAT, R.TWN_TAKE_CNT, R.EVT_PEND (112 / 32), R.EVT_LOST_CNT, R.EVT_STAT, R.HIF_CQ_STAT]
  | .partnerLoss, a => a = R.TWN_STAT
  | .yield, a => a ∈ [R.GLB_ACC_ERR, R.TWN_EPOCH, R.TWN_CTL, R.TWN_STAT]
  | .pair, a => a ∈ [R.GLB_ACC_ERR, R.TWN_CTL, R.TWN_STAT]
  | .join, a => a ∈ [R.GLB_ACC_ERR, R.TWN_CTL, R.TWN_STAT]
  | .mirrorFrameReceive _, a => a = R.TWN_PAIR_ERR
  | .mirrorAckReceive _, a => a = R.TWN_PAIR_ERR
  | .mirrorExecute, a => a ∈ [R.TWN_STAT, R.AXT_STAT, R.EST_STAT, R.EST_OVFL_CNT, R.EVT_PEND (20 / 32), R.EVT_LOST_CNT, R.EVT_STAT, R.EST_SKIP_CNT,
      R.ZLP_CYMGEN, R.ZLP_FAULT, R.ZLP_STAT, R.ZLP_RSTAT, R.ZLP_BRK, R.ZLP_SSTAT, R.TWN_EPOCH, R.ZLP_BUDGET, R.EVT_PEND (64 / 32)] ∨ (∃ i, a =
      R.AXT_W1 i) ∨ (∃ i, a = R.AXT_W0 i) ∨ (∃ i j, a = R.PIR_RES i j) ∨ (∃ i, a = R.AXT_W2 i) ∨ (∃ i, a = R.DSP_DL i) ∨ (∃ i j, a = R.CYM_W0 i + 4 *
      j)
  | .stateFrameReceive _, a => a = R.TWN_PAIR_ERR
  | .stateInstall, a => a = R.TWN_JOIN ∨ (∃ i, a = R.AXT_W2 i)
  | .timingMarkReceive _ _, a => a ∈ [R.TWN_PAIR_ERR, R.TWN_PHASE, R.TWN_TOFF]
  | .digestPassEnd, a => a ∈ [R.TWN_DIGEST, R.TWN_STAT, R.EVT_PEND (115 / 32), R.EVT_LOST_CNT, R.EVT_STAT]
  | .partnerCopyCompare port _, a => a ∈ [R.ZLP_P_RXCNT ↑port, R.ZLP_P_STAT ↑port, R.EVT_PEND (76 / 32), R.EVT_LOST_CNT, R.EVT_STAT, R.ZLP_P_HCRCCNT
      ↑port, R.ZLP_P_FCSCNT ↑port, R.TWN_MIS_CNT, R.TWN_MIS_FIRST, R.TWN_STAT, R.EVT_PEND (114 / 32)]
  | .pairFrameError, a => a = R.TWN_PAIR_ERR
  | .sqEntryWrite off _, a => a ∈ [R.HIF_STAT, R.HIF_WR_IGN_CNT, R.HIF_SQ_STAT ((off - 98304) / 4), R.HIF_CQ_PTR, R.HIF_CQ_STAT]
  | .sqDoorbell q _, a => a ∈ [R.GLB_ACC_ERR, R.HIF_SQ_STAT ↑q, R.HIF_STAT]
  | .cqHeadDoorbell _, a => a ∈ [R.GLB_ACC_ERR, R.HIF_STAT, R.HIF_CQ_PTR, R.HIF_CQ_STAT]
  | .packetFetch _, a => a ∈ [R.HIF_CQ_STAT, R.TWN_STAT, R.HIF_STALL_CNT] ∨ (∃ i, a = R.HIF_SQ_STAT i)
  | .payloadDmaComplete _ _, a => a ∈ [R.HIF_STAT, R.EVT_PEND (226 / 32), R.EVT_LOST_CNT, R.EVT_STAT, R.HIF_DMA_LAT]
  | .fenceRelease _, a => a = R.TWN_STAT
  | .opNop _, _ => False
  | .opIdent _, _ => False
  | .opRegWrite _, _ => True
  | .opMbxRead _, _ => False
  | .opMbxWrite _, _ => False
  | .opAxisEnable _, a => a = R.AXT_STAT ∨ (∃ i, a = R.AXT_W1 i) ∨ (∃ i, a = R.AXT_W0 i) ∨ (∃ i j, a = R.PIR_RES i j) ∨ (∃ i, a = R.AXT_W2 i) ∨ (∃ i,
      a = R.DSP_DL i)
  | .opAxisDisable _, a => (∃ i, a = R.AXT_W0 i) ∨ (∃ i, a = R.AXT_W2 i) ∨ (∃ i j, a = R.PIR_RES i j)
  | .opParamWrite _, _ => False
  | .opParamRead _, _ => False
  | .opFaultClear _, a => (∃ i, a = R.AXT_W2 i)
  | .opGroupQuiesce _, _ => False
  | .groupQuiesceEffect, a => (∃ i, a = R.AXT_W2 i)
  | .opGroupResume _, _ => False
  | .groupResumeEffect, a => (∃ i, a = R.AXT_W2 i)
  | .groupResumeTimeout, _ => False
  | .opMoveAbs _, _ => False
  | .opMoveRel _, _ => False
  | .opVelocity _, _ => False
  | .opStop _, _ => False
  | .opGear _, _ => False
  | .opCam _, _ => False
  | .opHome _, _ => False
  | .opGroupMove _, _ => False
  | .motionHoldEnd, _ => False
  | .motionCompletion, a => a ∈ [R.GLB_BOOT, R.EVT_PEND (3 / 32), R.EVT_LOST_CNT, R.EVT_STAT, R.HIF_CQ_PTR, R.HIF_CQ_STAT, R.HIF_CMD_CNT,
      R.HIF_FIRST_REF, R.HIF_REF_CNT, R.EVT_PEND (224 / 32)]
  | .opEstWrite _, a => a ∈ [R.EST_STAT, R.EST_OVFL_CNT, R.EVT_PEND (20 / 32), R.EVT_LOST_CNT, R.EVT_STAT, R.EST_SKIP_CNT]
  | .opEstLoad _, a => a ∈ [R.EST_OVFL_CNT, R.EST_STAT, R.EVT_PEND (20 / 32), R.EVT_LOST_CNT, R.EVT_STAT, R.EST_SKIP_CNT]
  | .opCamLoad _, _ => False
  | .opCymLoad _, a => (∃ i j, a = R.CYM_W0 i + 4 * j)
  | .opRingStart _, a => a ∈ [R.ZLP_CYMGEN, R.ZLP_FAULT, R.ZLP_STAT, R.ZLP_RSTAT, R.ZLP_BRK, R.ZLP_SSTAT, R.TWN_STAT, R.TWN_EPOCH, R.ZLP_BUDGET,
      R.EVT_PEND (64 / 32), R.EVT_LOST_CNT, R.EVT_STAT]
  | .opRingHalt _, _ => False
  | .ringHaltEffect, a => a ∈ [R.ZLP_SSTAT, R.ZLP_BUDGET]
  | .opSafetyLoad _, a => a = R.KST_WIGN_CNT ∨ (∃ i, a = R.KST_PWIN i)
  | .opCaptureRead _, a => a ∈ [R.ACQ_FIFO, R.DDR_WAIT_CNT, R.DDR_STAT, R.DDR_CE_CNT, R.DDR_UE_CNT, R.DDR_UE_ADDR, R.EVT_PEND (86 / 32),
      R.EVT_LOST_CNT, R.EVT_STAT, R.ACQ_STAT, R.EVT_PEND (81 / 32)]
  | .opNvsWrite _, a => a = R.NVS_QFILL
  | .opNvsCommit _, a => a = R.NVS_QFILL
  | .opBbxRead _, _ => False
  | .opTwinPair _, a => a ∈ [R.TWN_CTL, R.TWN_STAT]
  | .opTwinYield _, a => a ∈ [R.TWN_EPOCH, R.TWN_CTL, R.TWN_STAT]
  | .opTwinJoin _, a => a ∈ [R.TWN_CTL, R.TWN_STAT]
  | .functionLevelReset _, _ => True
  | .pcieLinkDown, a => a ∈ [R.HIF_LINK, R.HIF_STAT, R.EVT_PEND (225 / 32), R.EVT_LOST_CNT, R.EVT_STAT]
  | .pcieLinkUp _ _, a => a = R.HIF_LINK
  | .tollgateWatchdogExpiry, a => a ∈ [R.HIF_STAT, R.GLB_RST_CAUSE, R.EVT_PEND (227 / 32), R.EVT_LOST_CNT, R.EVT_STAT]
  | .tollgateRestartEnd, _ => False
  | .eventWriterServe, a => a ∈ [R.EVT_PEND (4 / 32), R.EVT_TAIL, R.BBX_DISC_CNT, R.BBX_COUNT, R.BBX_SEQ, R.BBX_STAT, R.EVT_PEND (130 / 32),
      R.EVT_LOST_CNT, R.EVT_STAT, R.BBX_TILES] ∨ (∃ i, a = R.EVT_QUEUE i) ∨ (∃ i, a = R.EVT_QUEUE i + 4) ∨ (∃ i, a = R.EVT_QUEUE i + 8) ∨ (∃ i, a =
      R.EVT_QUEUE i + 12)
  | .evtHeadWrite _, a => a ∈ [R.GLB_ACC_ERR, R.EVT_HEAD]
  | .vectorTimeExpiry _, _ => False
  | .msixMessage _, _ => False
  | .bbxNote _, a => a ∈ [R.GLB_ACC_ERR, R.BBX_DISC_CNT, R.BBX_COUNT, R.BBX_SEQ]
  | .freeze _, a => a ∈ [R.GLB_ACC_ERR, R.BBX_CTL, R.BBX_COUNT, R.BBX_SEQ, R.BBX_STAT, R.EVT_PEND (130 / 32), R.EVT_LOST_CNT, R.EVT_STAT, R.BBX_TILES,
      R.NVS_QFILL]
  | .commit _, a => a ∈ [R.GLB_ACC_ERR, R.BBX_CTL, R.BBX_COUNT, R.BBX_SEQ, R.BBX_STAT, R.EVT_PEND (130 / 32), R.EVT_LOST_CNT, R.EVT_STAT, R.BBX_TILES,
      R.NVS_QFILL]
  | .release _, a => a ∈ [R.GLB_ACC_ERR, R.BBX_CTL, R.BBX_COUNT, R.BBX_SEQ, R.BBX_STAT, R.EVT_PEND (130 / 32), R.EVT_LOST_CNT, R.EVT_STAT,
      R.BBX_TILES, R.NVS_QFILL]
  | .load _, a => a ∈ [R.GLB_ACC_ERR, R.BBX_CTL, R.BBX_COUNT, R.BBX_SEQ, R.BBX_STAT, R.EVT_PEND (130 / 32), R.EVT_LOST_CNT, R.EVT_STAT, R.BBX_TILES,
      R.NVS_QFILL]
  | .erase _, a => a ∈ [R.GLB_ACC_ERR, R.BBX_CTL, R.BBX_COUNT, R.BBX_SEQ, R.BBX_STAT, R.EVT_PEND (130 / 32), R.EVT_LOST_CNT, R.EVT_STAT, R.BBX_TILES,
      R.NVS_QFILL]
  | .nvsSwitch, a => a ∈ [R.NVS_STAT, R.NVS_QFILL]
  | .flashOperationStart, a => a ∈ [R.NVS_STAT, R.BBX_STAT, R.NVS_DEFER_CNT, R.EVT_PEND (129 / 32), R.EVT_LOST_CNT, R.EVT_STAT]
  | .flashOperationEnd _, a => a ∈ [R.NVS_STAT, R.BBX_TILES, R.EVT_PEND (131 / 32), R.EVT_LOST_CNT, R.EVT_STAT, R.BBX_STAT, R.NVS_ERR_CNT, R.EVT_PEND
      (133 / 32), R.BBX_COUNT, R.BBX_SEQ, R.NVS_QFILL, R.EVT_PEND (128 / 32), R.EVT_PEND (132 / 32)] ∨ (∃ i, a = R.BBX_ASEQ i) ∨ (∃ i, a = R.NVS_GEN
      i) ∨ (∃ i, a = R.NVS_WP i) ∨ (∃ i, a = R.PIR_STAT i) ∨ (∃ i, a = R.PIR_CTL i)
  | .softwareResetHost, _ => True
  | .softwareResetCore, _ => True
  | .softwareResetFull, _ => True
  | .resetPin, _ => True
  | .perst, _ => True
  | .powerOn, _ => True
  | .supplyBrownout _, _ => True
  | .pllLock _, a => a ∈ [R.GLB_CLK_STAT, R.ZLP_RSTAT, R.ZLP_BRK, R.ZLP_BRK_CNT, R.EVT_PEND (70 / 32), R.EVT_LOST_CNT, R.EVT_STAT] ∨ (∃ i, a =
      R.ZLP_P_STAT i)
  | .pllLockTimeout _, a => a ∈ [R.GLB_CLK_STAT, R.KST_STAT, R.KST_ZONE, R.EVT_PEND (96 / 32), R.EVT_LOST_CNT, R.EVT_STAT, R.PWM_FLT_STAT, R.EVT_PEND
      (56 / 32), R.KST_OUT, R.EVT_PEND (98 / 32), R.DDR_STAT, R.ACQ_STAT, R.ACQ_FIFO, R.EVT_PEND (81 / 32), R.HIF_LINK, R.HIF_STAT, R.EVT_PEND (225 /
      32), R.EVT_PEND (101 / 32), R.ZLP_RSTAT, R.ZLP_BRK, R.ZLP_BRK_CNT, R.EVT_PEND (70 / 32)] ∨ (∃ i, a = R.ZLP_P_STAT i)
  | .boot _, _ => True
  | .jtagInstruction _ _, a => a = R.GLB_DBG
  | .discardedFrameReceive port _, a => a ∈ [R.ZLP_P_RXCNT ↑port, R.ZLP_P_STAT ↑port, R.EVT_PEND (76 / 32), R.EVT_LOST_CNT, R.EVT_STAT,
      R.ZLP_P_HCRCCNT ↑port, R.ZLP_P_FCSCNT ↑port]
  | .trunkDelayFrameReceive port _, a => a ∈ [R.ZLP_P_RXCNT ↑port, R.ZLP_P_STAT ↑port, R.EVT_PEND (76 / 32), R.EVT_LOST_CNT, R.EVT_STAT,
      R.ZLP_P_HCRCCNT ↑port, R.ZLP_P_FCSCNT ↑port, R.ZLP_TSTAT, R.EVT_PEND (74 / 32)]
  | .pairLinkChange _, _ => False
  | .msixVectorUnmask _, _ => False
  | .eventOrBackgroundTaskEnd p, a => a ∈ [R.PIR_TASKS ↑p, R.DSP_BG_PEND, R.PIR_STAT ↑p, R.AXT_STAT, R.EVT_PEND (48 / 32), R.EVT_LOST_CNT, R.EVT_STAT,
      R.PIR_CTL ↑p] ∨ (∃ i j, a = R.PIR_RES i j) ∨ (∃ i, a = R.AXT_W2 i) ∨ (∃ i, a = R.AXT_W0 i) ∨ (∃ i, a = R.AXT_FLT_MAP i)

/-- The host's BAR0 writes act (R437): SYSCLK runs and boot has ended in STATE 9. -/
abbrev HostOpen (s : State) : Prop := s.sysLost = false ∧ s.f R.GLB_BOOT_STATE = 9

/-- The pending bit of an event source is set (R407). -/
abbrev Pends (t : State) (src : Nat) : Prop := (t.reg (R.EVT_PEND (src / 32))).getLsbD (src % 32) = true

/-- From `s` to `t` a saturating counter counts `n` more. -/
abbrev Counts (x : Fld) (n : Nat) (s t : State) : Prop := t.f x = min (2 ^ x.width - 1) (s.f x + n)

/-- A mailbox read item with the words `ws` has been sampled (R396): the data words hold them, words beyond its length 0; BUSY is set, VALID and ERR
are not, and the request becomes ready, not failed, 4 clk later. -/
abbrev Sampled (ws : List Word) (s t : State) : Prop :=
  (∀ k < 4, t.reg (R.GLB_MBX_D k) = ws.getD k 0) ∧ t.f R.GLB_MBX_STAT_BUSY = 1 ∧ t.f R.GLB_MBX_STAT_VALID = 0 ∧ t.f R.GLB_MBX_STAT_ERR = 0 ∧
  t.host.mbx.readyAt = some (s.clk + 4) ∧ t.host.mbx.failed = false

/-- A mailbox write item has been taken, or has failed (R396, R397). -/
abbrev Requested (failed : Bool) (s t : State) : Prop :=
  t.f R.GLB_MBX_STAT_BUSY = 1 ∧ t.f R.GLB_MBX_STAT_VALID = 0 ∧ t.f R.GLB_MBX_STAT_ERR = 0 ∧
  t.host.mbx.readyAt = some (s.clk + 4) ∧ t.host.mbx.failed = failed

/-- A good frame of a type for this head's span reaches a ring port while the span runs (R226 to R228). -/
abbrev GoodFrame (s : State) (port : Fin 6) (fr : RxFrame) (type : Nat) : Prop :=
  frameCheck fr.bytes = .good ∧ port.val < 4 ∧ s.spanRuns = true ∧ (parseHeader fr.bytes).type = type ∧ (parseHeader fr.bytes).dst / 256 = s.zlpF R.ZLP_CFG_SPAN

/-- The window that a frame names (R227). -/
abbrev frameWindow (s : State) (fr : RxFrame) : CymEntry := s.cym (hdrBcn (parseHeader fr.bytes)) (hdrWin (parseHeader fr.bytes))

/-- A core runs a packet's opcode now, and here: it is not one that the holder of a pair mirrors first (R352, R365, R372). -/
abbrev Runs (s : State) (core : Fin 2) (op : Nat) (p : Packet) : Prop :=
  s.opDue core.val op = some p ∧ (s.twin && opMirrored op && s.role == 1) = false

/-- A packet has ended: its completion is decided, to be written 16 clk later, and its core holds it no more (R365, R369, R372). -/
abbrev Ended (s t : State) (core : Fin 2) (p : Packet) (status detail : Nat) (res : List Word) : Prop :=
  (⟨p.tag, s.clk + 16, status, detail, t.nt.ns, res⟩ : Completion) ∈ t.hif.compl ∧ (t.core core.val).cur = none

/-- How many of the `n` items of a packet have landed by now: the first lands on `readyAt`, each of the others `opGap` clk after the one before (R372, R465). -/
abbrev itemsDue (s : State) (p : Packet) (n : Nat) : Nat := min n ((s.clk - p.readyAt) / opGap p.tag.op + 1)

/-- A packet lands the items whose clk has come: with the last of its `n` it ends, and before that its core holds it with their number (R372, R465). -/
abbrev Lands (s t : State) (core : Fin 2) (p : Packet) (n : Nat) : Prop :=
  (itemsDue s p n = n → Ended s t core p stOk 0 []) ∧ (itemsDue s p n < n → (t.core core.val).cur = some { p with moved := itemsDue s p n })

/-- The flash operation queue after its head has left it: the oldest reload that waits enters it where it has room (R30, R92). -/
abbrev queueNext (s : State) (rest : List FlashReq) : List FlashReq :=
  match s.nvs.reloads with
  | p :: _ => if rest.length < 16 then rest ++ [⟨.reload p, [.read s.nvs.ucAt 0x10000, .read s.nvs.konstAt 0x8000], none, s.nvs.ucAt, false⟩] else rest
  | [] => rest

/-- Network time is well formed: nanoseconds below 1,000,000,000 (R33). -/
def NtLegal (s : State) : Prop := s.nt.ns.toNat < nsPerSec

end Sys2Proof.Machine
end

