-- ==== Sys2Proof/Certificates/Slice0/Obligations.lean ====
section
/-! DEFINITION. The statements about the ZB144 that the provers are asked to prove. Each says which rules of the spec it rests on. -/

open Sys2Proof Sys2Proof.Machine

/-! ## The step and host accesses -/

/-- The command at the front of the queue is run with the queue's rest. -/
def Obligations.StepRunsFrontCommand : Prop :=
  ∀ (c : Instr) (rest : List Instr) (s : State), s.pending = c :: rest → step s = exec c { s with pending := rest }

/-- R9, R11: a write to a register with no rule of its own gives each bit of each field what its access code says, keeps every reserved bit, and changes
nothing else. -/
def Obligations.PlainWriteFollowsAccessCodes : Prop :=
  ∀ (addr : Nat) (val : Word) (r : RegRow) (s : State), HostOpen s → findReg addr = some r → isComplement addr = false → isPw addr = false →
    isWindow addr = false → firstRule s addr val regWriteRules = none →
    ∃ t, exec (.registerWrite addr val) s = .next t ∧ Frame [] (· = addr) s t ∧
      (∀ fld ∈ r.fields, ∀ i, fld.lo ≤ i → i < fld.lo + fld.width → (t.reg addr).getLsbD i =
        (match fld.acc with
        | .rw | .tv => val.getLsbD i
        | .w1c => (s.reg addr).getLsbD i && !val.getLsbD i
        | .w1s => (s.reg addr).getLsbD i || val.getLsbD i
        | .ro | .wo | .rc | .pw => (s.reg addr).getLsbD i)) ∧
      ∀ i, (∀ fld ∈ r.fields, ¬ (fld.lo ≤ i ∧ i < fld.lo + fld.width)) → (t.reg addr).getLsbD i = (s.reg addr).getLsbD i

/-- R8, R390, R437: an access of a wrong width, an access at an unmapped address and a write before boot ends have no effect but their counts and, for the
first two, the access-error event; an unmapped read returns 0. -/
def Obligations.IneffectiveAccessesAreCounted : Prop :=
  ((∀ (addr : Nat) (s : State), s.sysLost = false → ∃ t, exec (.badWidthAccess addr) s = .next t ∧ Counts R.GLB_ACC_ERR_WIDTH 1 s t ∧
      t.f R.GLB_ACC_ERR_UNMAP = s.f R.GLB_ACC_ERR_UNMAP ∧ Pends t 0x02 ∧
      Frame [.evt] (· ∈ [R.GLB_ACC_ERR, R.EVT_PEND 0, R.EVT_LOST_CNT, R.EVT_STAT]) s t) ∧
    (∀ (addr : Nat) (val : Word) (s : State), HostOpen s → isMapped addr = false →
      ∃ t, exec (.unmappedAccess addr true val) s = .next t ∧ Counts R.GLB_ACC_ERR_UNMAP 1 s t ∧ Pends t 0x02 ∧
      Frame [.evt] (· ∈ [R.GLB_ACC_ERR, R.EVT_PEND 0, R.EVT_LOST_CNT, R.EVT_STAT]) s t) ∧
    (∀ (addr : Nat) (val : Word) (s : State), s.sysLost = false → 5 ≤ s.f R.GLB_BOOT_STATE → isMapped addr = false →
      ∃ t, exec (.unmappedAccess addr false val) s = .next t ∧ t.host.hostRead = 0 ∧ Counts R.GLB_ACC_ERR_UNMAP 1 s t ∧ Pends t 0x02)) ∧
  (∀ (addr : Nat) (val : Word) (s : State), s.sysLost = false → s.f R.GLB_BOOT_STATE ≠ 9 → s.f R.GLB_BOOT_STATE ≠ 15 →
      ∃ t, exec (.registerWrite addr val) s = .next t ∧ Counts R.GLB_ACC_ERR_UNMAP 1 s t ∧ Frame [] (· = R.GLB_ACC_ERR) s t)

/-- R11: a read of an RC field returns the value held and then clears the field. -/
def Obligations.ReadReturnsThenClears : Prop :=
  ∀ (addr : Nat) (r : RegRow) (fld : FieldRow) (s : State), s.sysLost = false → 5 ≤ s.f R.GLB_BOOT_STATE → findReg addr = some r → fld ∈ r.fields →
    fld.acc = .rc → isTv addr = false → isComplement addr = false → isWindow addr = false →
    ∃ t, exec (.readClear addr) s = .next t ∧
      (∀ i, fld.lo ≤ i → i < fld.lo + fld.width → (t.reg addr).getLsbD i = false) ∧
      (firstRead s addr regReadRules = none → ∀ i, fld.lo ≤ i → i < fld.lo + fld.width → t.host.hostRead.getLsbD i = (s.reg addr).getLsbD i)

/-- R12, R395, R399, R433: a complement that matches takes effect; a discard keeps the register, is counted and records the first cause. -/
def Obligations.PairedWriteProtocol : Prop :=
  (∀ (a : Nat) (v : Word) (at_ : Nat) (s : State), HostOpen s → isPw a = true → a ≠ R.GLB_SWRST → s.host.pw = some ⟨a, v, at_⟩ → s.clk ≤ at_ + 64 →
    ∃ t, exec (.pairedWriteComplement a (~~~v)) s = .next t ∧ t.host.pw = none ∧ t.reg a = v &&& pwMask a ∧
      t.f R.GLB_PW_ERR_COUNT = s.f R.GLB_PW_ERR_COUNT) ∧
  (∀ (v : Word) (at_ : Nat) (s : State), HostOpen s → s.host.pw = some ⟨R.GLB_SWRST, v, at_⟩ → s.clk ≤ at_ + 64 → 2 ≤ v.toNat % 4 → s.host.swrst = none →
    ∃ t, exec (.pairedWriteComplement R.GLB_SWRST (~~~v)) s = .next t ∧ t.host.pw = none ∧ t.host.swrst = some (v.toNat % 4, s.clk) ∧
      t.reg R.GLB_SWRST = s.reg R.GLB_SWRST) ∧
  (∀ (a : Nat) (v w : Word) (at_ : Nat) (s : State), HostOpen s → isPw a = true → s.host.pw = some ⟨a, v, at_⟩ → s.clk ≤ at_ + 64 → w ≠ ~~~v →
    ∃ t, exec (.pairedWriteComplement a w) s = .next t ∧ t.host.pw = none ∧ t.reg a = s.reg a ∧ Counts R.GLB_PW_ERR_COUNT 1 s t ∧
      (s.f R.GLB_PW_LAST_VALID = 0 → t.f R.GLB_PW_LAST_VALID = 1 ∧ t.f R.GLB_PW_LAST_CAUSE = 0 ∧ t.f R.GLB_PW_LAST_ADDR = a)) ∧
  (∀ (a : Nat) (v : Word) (s : State), HostOpen s → isPw a = true → s.host.pw = none →
    ∃ t, exec (.pairedWriteComplement a v) s = .next t ∧ t.reg a = s.reg a ∧ Counts R.GLB_PW_ERR_COUNT 1 s t ∧
      (s.f R.GLB_PW_LAST_VALID = 0 → t.f R.GLB_PW_LAST_CAUSE = 2)) ∧
  (∀ (p : PwPending) (s : State), s.host.pw = some p → p.at_ + 64 < s.clk →
    ∃ t, exec .pwWindowExpiry s = .next t ∧ t.host.pw = none ∧ Counts R.GLB_PW_ERR_COUNT 1 s t ∧ Pends t 0x01 ∧
      (s.f R.GLB_PW_LAST_VALID = 0 → t.f R.GLB_PW_LAST_CAUSE = 1))

/-- R13: one paired write is pending at a time, and a read at the complement address returns the complement of the register's present value. -/
def Obligations.OnePairIsPendingAtATime : Prop :=
  (∀ (a : Nat) (v : Word) (p : PwPending) (s : State), HostOpen s → isPw a = true → isPw p.addr = true → s.host.pw = some p → s.clk ≤ p.at_ + 64 →
    ∃ t, exec (.pairedWriteValue a v) s = .next t ∧ t.host.pw = some ⟨a, v, s.clk⟩ ∧ Counts R.GLB_PW_ERR_COUNT 1 s t ∧ Pends t 0x01 ∧
      Frame [.host, .evt] (· ∈ [R.GLB_PW_ERR, R.GLB_PW_LAST, R.EVT_PEND 0, R.EVT_LOST_CNT, R.EVT_STAT]) s t ∧
      (s.f R.GLB_PW_LAST_VALID = 0 → t.f R.GLB_PW_LAST_CAUSE = 3 ∧ t.f R.GLB_PW_LAST_ADDR = p.addr)) ∧
  (∀ (a : Nat) (v : Word) (s : State), HostOpen s → isPw a = true → s.host.pw = none →
    ∃ t, exec (.pairedWriteValue a v) s = .next t ∧ t.host.pw = some ⟨a, v, s.clk⟩ ∧ Frame [.host] (fun _ => False) s t) ∧
  (∀ (a : Nat) (v : Word) (p : PwPending) (s : State), HostOpen s → isPw a = true → isPw p.addr = true → s.host.pw = some p → p.at_ + 64 < s.clk →
    ∃ t u, exec .pwWindowExpiry s = .next t ∧ t.host.pw = none ∧ exec (.pairedWriteValue a v) t = .next u ∧ u.host.pw = some ⟨a, v, s.clk⟩ ∧
      u.f R.GLB_PW_ERR_COUNT = t.f R.GLB_PW_ERR_COUNT) ∧
  (∀ (a : Nat) (w : Word) (p : PwPending) (s : State), HostOpen s → isPw a = true → isPw p.addr = true → s.host.pw = some p → s.clk ≤ p.at_ + 64 →
    p.addr ≠ a → ∃ t, exec (.pairedWriteComplement a w) s = .next t ∧ t.host.pw = none ∧ Counts R.GLB_PW_ERR_COUNT 2 s t ∧ Pends t 0x01 ∧
      Frame [.host, .evt] (· ∈ [R.GLB_PW_ERR, R.GLB_PW_LAST, R.EVT_PEND 0, R.EVT_LOST_CNT, R.EVT_STAT]) s t) ∧
  (∀ (a : Nat) (s : State), s.sysLost = false → 5 ≤ s.f R.GLB_BOOT_STATE → isPw a = true →
    ∃ t, exec (.readClear (a + 0x800)) s = .next t ∧ t.host.hostRead = ~~~(s.reg a) ∧ Frame [.host] (fun _ => False) s t)

/-- R393: every 64 clk the scrubber corrects the next triple-voted register to the vote of its copies, counts a correction, keeps the address and the time
of the first, and moves on. -/
def Obligations.ScrubberCorrectsToTheVote : Prop :=
  (∀ (a : Nat) (s : State), isTv a = true → s.reg a = vote (tabGet regReset s.regs a) (tabGet regReset s.tvB a) (tabGet regReset s.tvC a)) ∧
  ∀ s : State, s.f R.GLB_CFG_SCRUB_EN = 1 → s.host.scrubAt ≤ s.clk → s.f R.GLB_SCRUB_POS < 162 →
    ∃ t, exec .tvScrub s = .next t ∧
      tabGet regReset t.regs (tvAddr (s.f R.GLB_SCRUB_POS)) = s.reg (tvAddr (s.f R.GLB_SCRUB_POS)) ∧
      tabGet regReset t.tvB (tvAddr (s.f R.GLB_SCRUB_POS)) = s.reg (tvAddr (s.f R.GLB_SCRUB_POS)) ∧
      tabGet regReset t.tvC (tvAddr (s.f R.GLB_SCRUB_POS)) = s.reg (tvAddr (s.f R.GLB_SCRUB_POS)) ∧
      (s.copiesAgree (tvAddr (s.f R.GLB_SCRUB_POS)) = false → Counts R.GLB_VOTE_CNT_COUNT 1 s t ∧ Pends t 0x00 ∧
        (s.f R.GLB_VOTE_LAST_VALID = 0 → t.f R.GLB_VOTE_LAST_VALID = 1 ∧ t.f R.GLB_VOTE_LAST_ADDR = tvAddr (s.f R.GLB_SCRUB_POS) ∧ t.host.voteT = s.nt) ∧
        (s.f R.GLB_VOTE_LAST_VALID = 1 → t.reg R.GLB_VOTE_LAST = s.reg R.GLB_VOTE_LAST ∧ t.host.voteT = s.host.voteT)) ∧
      (s.copiesAgree (tvAddr (s.f R.GLB_SCRUB_POS)) = true → t.f R.GLB_VOTE_CNT_COUNT = s.f R.GLB_VOTE_CNT_COUNT) ∧
      t.f R.GLB_SCRUB_POS = (s.f R.GLB_SCRUB_POS + 1) % 162 ∧ t.host.scrubAt = s.clk + 64

/-- R62, R398: what each read item of the mailbox samples. -/
def Obligations.MailboxReadItemsSample : Prop :=
  ∀ s : State, HostOpen s →
    (∃ t, exec .ntNow s = .next t ∧ Sampled [s.nt.ns, wordOf s.nt.sec.toNat, wordOf (s.nt.sec.toNat / 2 ^ 32), s.nt.frac] s t) ∧
    (∃ t, exec .chnNow s = .next t ∧ Sampled (words64 (s.chnLive.toNat / 2 ^ 32)) s t) ∧
    (∃ t, exec .chnSnap s = .next t ∧ Sampled (words64 (s.chn.seg.s.toNat / 2 ^ 32) ++ words64 s.chn.seg.v.toNat) s t) ∧
    (∃ t, exec .vmVtgtRead s = .next t ∧ Sampled (words64 s.chn.vmTgt.toNat) s t) ∧
    (∃ t, exec .srcOffsetRead s = .next t ∧ Sampled (words64 s.chn.srcOff.toNat) s t) ∧
    (∃ t, exec .capLossT s = .next t ∧ Sampled (ntWords3 s.cap.lossT) s t) ∧
    (∃ t, exec .evtLossT s = .next t ∧ Sampled (ntWords3 s.evt.lossT) s t) ∧
    (∃ t, exec .voteT s = .next t ∧ Sampled (ntWords3 s.host.voteT) s t) ∧
    (∃ t, exec .bcIndex s = .next t ∧ Sampled [s.cyc.bcIdx, wordOf (s.clk - s.cyc.t0)] s t) ∧
    (∃ t, exec .pirTasks64 s = .next t ∧ Sampled (words64 s.dsp.tasks64) s t)

/-- R37: `NT_SET` loads the counter while the span is IDLE and its nanoseconds are below 1,000,000,000; otherwise it fails and the counter is unchanged.
-/
def Obligations.NtSetLoadsOrIsRefused : Prop :=
  (∀ s : State, HostOpen s → s.f R.ZLP_SSTAT_STATE = 0 → (s.reg (R.GLB_MBX_D 0)).toNat < 1000000000 →
    ∃ t, exec .ntSet s = .next t ∧ t.nt.ns = s.reg (R.GLB_MBX_D 0) ∧ t.nt.frac = s.reg (R.GLB_MBX_D 3) ∧
      t.nt.sec.toNat = (s.reg (R.GLB_MBX_D 1)).toNat + (s.reg (R.GLB_MBX_D 2)).toNat % 2 ^ 16 * 2 ^ 32 ∧ Requested false s t) ∧
  (∀ s : State, HostOpen s → (s.f R.ZLP_SSTAT_STATE ≠ 0 ∨ 1000000000 ≤ (s.reg (R.GLB_MBX_D 0)).toNat) →
    ∃ t, exec .ntSet s = .next t ∧ t.nt = s.nt ∧ Requested true s t ∧
      ∃ u, exec .mbxReady { t with clk := s.clk + 4 } = .next u ∧ u.nt = s.nt ∧ u.f R.GLB_MBX_STAT_VALID = 1 ∧ u.f R.GLB_MBX_STAT_ERR = 1)

/-- R46, R62, R396, R397: the other write items, an unknown code, the instant a request becomes ready, and the reads that clear VALID and ERR. -/
def Obligations.MailboxProtocol : Prop :=
  (∀ s : State, HostOpen s →
    (∃ t, exec .chnPreset s = .next t ∧ t.chn.preset = some (BitVec.ofNat 64 (nat64 (s.reg (R.GLB_MBX_D 0)) (s.reg (R.GLB_MBX_D 1)))) ∧ Requested false s t) ∧
    (∃ t, exec .vmVtgtWrite s = .next t ∧ t.chn.vmTgt = BitVec.ofNat 64 (nat64 (s.reg (R.GLB_MBX_D 0)) (s.reg (R.GLB_MBX_D 1))) ∧ Requested false s t) ∧
    (∃ t, exec .srcOffsetWrite s = .next t ∧ t.chn.srcOff = BitVec.ofNat 64 (nat64 (s.reg (R.GLB_MBX_D 0)) (s.reg (R.GLB_MBX_D 1))) ∧ Requested false s t)) ∧
  (∀ (wr : Bool) (code : Byte) (s : State), HostOpen s → code.toNat ∉ (if wr then [0x11, 0x22, 0x23, 0x24] else [0x10, 0x20, 0x21, 0x23, 0x24, 0x30, 0x40, 0x41, 0x42, 0x43]) →
    ∃ t, exec (.mbxUnknownCode wr code) s = .next t ∧ t.nt = s.nt ∧ t.chn = s.chn ∧ Requested true s t) ∧
  (∀ (n : Nat) (s : State), s.host.mbx.readyAt = some n → n ≤ s.clk →
    ∃ t, exec .mbxReady s = .next t ∧ t.f R.GLB_MBX_STAT_BUSY = 0 ∧ t.f R.GLB_MBX_STAT_VALID = 1 ∧
      t.f R.GLB_MBX_STAT_ERR = (if s.host.mbx.failed then 1 else 0) ∧ t.host.mbx.readyAt = none) ∧
  (∀ (k : Fin 4) (s : State), s.sysLost = false → s.f R.GLB_MBX_STAT_VALID = 1 → s.host.mbx.isWrite = false → s.host.mbx.failed = false → k.val + 1 = s.host.mbx.words →
    ∃ t, exec (.mbxDataRead k) s = .next t ∧ t.f R.GLB_MBX_STAT_VALID = 0 ∧ t.host.hostRead = s.reg (R.GLB_MBX_D k.val)) ∧
  (∀ s : State, s.sysLost = false → s.f R.GLB_MBX_STAT_VALID = 1 → (s.host.mbx.isWrite = true ∨ s.host.mbx.failed = true) →
    ∃ t, exec .mbxStatRead s = .next t ∧ t.f R.GLB_MBX_STAT_VALID = 0 ∧ t.f R.GLB_MBX_STAT_ERR = 0 ∧ t.host.hostRead = s.reg R.GLB_MBX_STAT)

/-! ## Time, chainage and the EST -/

/-- R22, R36, R38, R39: at t0 the bc takes its index, the planned segment starts where the last one ends, the snapshot is taken and LEAD sampled; at the
express sync instant the second snapshot is the live chainage. R35: a write of `CHN_INC_LO` is staged;
`CHN_INC_HI` applies the staged low word and the new high word together, clipped to the envelope. -/
def Obligations.SyncInstantsAndIncrements : Prop :=
  ((∀ s : State, s.sysLost = false → bcIndexOf s.cyc.rate s.ntSync ≠ s.cyc.mark →
      ∃ t, exec .syncInstant s = .next t ∧ t.cyc.bcIdx = bcIndexOf s.cyc.rate s.ntSync ∧ t.cyc.t0 = s.clk ∧ t.chn.snap = t.chn.seg ∧ t.chn.plan = none ∧
        t.chn.lead = s.f R.CHN_PLAN_LEAD ∧
        (∀ v, s.chn.plan = some (v, none) → t.chn.seg = ⟨segAt s.chn.seg (s.clk - s.cyc.t0), v⟩) ∧
        (∀ v c, s.chn.plan = some (v, some c) → t.chn.seg = ⟨c, v⟩)) ∧
    (∀ s : State, s.sysLost = false → s.cyc.half = 0 → s.pExp ≤ s.clk - s.cyc.t0 →
      ∃ t, exec .expressSyncInstant s = .next t ∧ t.cyc.half = 1 ∧ t.chn.xsnap = ⟨segAt s.chn.seg (s.clk - s.cyc.t0), s.chn.seg.v⟩ ∧ t.chn.seg = s.chn.seg)) ∧
  ((∀ (val : Word) (s : State), HostOpen s → 0x13FEF9DB2 ≤ (s.reg R.CHN_INC_LO).toNat + val.toNat % 256 * 2 ^ 32 →
      (s.reg R.CHN_INC_LO).toNat + val.toNat % 256 * 2 ^ 32 ≤ 0x14010624E →
      ∃ t, exec (.chnIncHi val) s = .next t ∧ t.inc.toNat = (s.reg R.CHN_INC_LO).toNat + val.toNat % 256 * 2 ^ 32 ∧ t.nt = s.nt) ∧
    (∀ (val : Word) (s : State), HostOpen s → (s.reg R.CHN_INC_LO).toNat + val.toNat % 256 * 2 ^ 32 < 0x13FEF9DB2 →
      ∃ t, exec (.chnIncHi val) s = .next t ∧ t.inc.toNat = 0x13FEF9DB2 ∧ t.f R.CHN_STAT_INC_CLIP = 1 ∧ Pends t 0x10) ∧
    (∀ (val : Word) (s : State), HostOpen s → 0x14010624E < (s.reg R.CHN_INC_LO).toNat + val.toNat % 256 * 2 ^ 32 →
      ∃ t, exec (.chnIncHi val) s = .next t ∧ t.inc.toNat = 0x14010624E ∧ t.f R.CHN_STAT_INC_CLIP = 1 ∧ Pends t 0x10) ∧
    (∀ (val : Word) (s : State), HostOpen s →
      ∃ t, exec (.registerWrite R.CHN_INC_LO val) s = .next t ∧ t.inc = s.inc ∧ t.reg R.CHN_INC_LO = val))

/-- R42, R44, R48: what a plan with no switch, no preset and no lost source fixes, for the virtual master, for an absent sample and for a stopped unit;
R45: arming a switch. -/
def Obligations.PlanFixesTheNextSegment : Prop :=
  (∀ s : State, s.sysLost = false → s.chn.plan = none → s.planAt ≤ s.clk → s.follows = false → s.twn.relSwitch = false → s.chn.preset = none →
    s.f R.CHN_SRC_ARM = 0 → s.f R.CHN_SRC_CUR = 0 → s.f R.CHN_CFG_RUN = 1 →
    ∃ t v, exec .chainagePlan s = .next t ∧ t.chn.plan = some (v, none) ∧ t.est.sweepAt = some (s.clk + 32) ∧
      v.toInt = (if s.chn.seg.v.toInt < s.chn.vmTgt.toInt then min s.chn.vmTgt.toInt (s.chn.seg.v.toInt + s.f R.CHN_VM_DV_DV)
        else max s.chn.vmTgt.toInt (s.chn.seg.v.toInt - s.f R.CHN_VM_DV_DV))) ∧
  (∀ s : State, s.sysLost = false → s.chn.plan = none → s.planAt ≤ s.clk → s.follows = false → s.twn.relSwitch = false → s.chn.preset = none →
    s.f R.CHN_SRC_ARM = 0 → s.f R.CHN_SRC_CUR ≠ 0 → s.chnPresent (s.f R.CHN_SRC_CUR) = false → s.f R.CHN_CFG_RUN = 1 →
    ∃ t, exec .chainagePlan s = .next t ∧ t.chn.plan = some (s.chn.seg.v, none) ∧ t.f R.CHN_STAT_MISS = 1 ∧ Counts R.CHN_MISS_CNT_COUNT 1 s t ∧
      t.f R.CHN_MISS_RUN = min 255 (s.f R.CHN_MISS_RUN + 1)) ∧
  (∀ s : State, s.sysLost = false → s.chn.plan = none → s.planAt ≤ s.clk → s.follows = false → s.twn.relSwitch = false → s.chn.preset = none →
    s.f R.CHN_SRC_ARM = 0 → s.f R.CHN_SRC_CUR = 0 → s.f R.CHN_CFG_RUN = 0 →
    ∃ t, exec .chainagePlan s = .next t ∧ t.chn.plan = some (0, none)) ∧
  (∀ (val : Word) (s : State), HostOpen s →
    ∃ t, exec (.sourceSwitchArm val) s = .next t ∧ t.f R.CHN_SRC_CUR = s.f R.CHN_SRC_CUR ∧
      t.f R.CHN_SRC_ARM = (if val.getLsbD 8 then 1 else s.f R.CHN_SRC_ARM) ∧
      (val.toNat / 16 % 8 ≤ 3 → t.f R.CHN_SRC_NEXT = val.toNat / 16 % 8))

/-- R51, R53: what a commit stores or refuses, the comparison 16 clk later, and what `EST_IDX` loads; an entry that the sweep has still to read is read as
committed (R52). R52, R56: the sweep places every entry that crosses
in the next segment, in a list of at most 512 slots. -/
def Obligations.EstEntriesAreCommittedAndSwept : Prop :=
  ((∀ (val : Word) (s : State), HostOpen s → estCommitOk (s.reg (R.EST_W 2)) val = true →
      ∃ t, exec (.estCommit val) s = .next t ∧ t.estWord (s.f R.EST_IDX_IDX) 0 = s.reg (R.EST_W 0) ∧ t.estWord (s.f R.EST_IDX_IDX) 1 = s.reg (R.EST_W 1) ∧
        t.estWord (s.f R.EST_IDX_IDX) 2 = s.reg (R.EST_W 2) &&& 0xFF00FFFF ∧ t.estWord (s.f R.EST_IDX_IDX) 3 = val ∧
        slotHas t.est.cur (s.f R.EST_IDX_IDX) = false ∧ (s.f R.EST_IDX_IDX, s.clk + 16) ∈ t.est.cmp ∧
        ((s.est.swept = false ∨ s.estReadBySweep (s.f R.EST_IDX_IDX) = true) → slotHas t.est.next (s.f R.EST_IDX_IDX) = false) ∧
        (s.est.swept = true → s.estReadBySweep (s.f R.EST_IDX_IDX) = false → s.f R.EST_CFG_EN = 1 → s.est.next.length < 512 →
          ∀ x, (t.estSlotNext (s.f R.EST_IDX_IDX)).1 = some x → x ∈ t.est.next)) ∧
    (∀ (val : Word) (s : State), HostOpen s → estCommitOk (s.reg (R.EST_W 2)) val = false →
      ∃ t, exec (.estCommit val) s = .next t ∧ t.est = s.est ∧ t.f R.EST_STAT_BAD = 1) ∧
    (∀ (idx : Fin 8192) (at_ n : Nat) (s : State), (idx.val, at_) ∈ s.est.cmp → at_ ≤ s.clk → s.f R.EST_CFG_EN = 1 → s.est.cur.length < 512 →
      w2En (s.estWord idx.val 2) = true → w2Act (s.estWord idx.val 2) ≠ 4 →
      estCrossing (s.estWord idx.val 0) (s.estWord idx.val 1) (s.estWord idx.val 2) ⟨s.chnLive, s.chn.seg.v⟩ (s.clkToT0 1) = some n →
      ∃ t, exec (.estCommitCompare idx) s = .next t ∧ ⟨idx.val, s.sinceT0 + n, false, none⟩ ∈ t.est.cur ∧ ∀ x ∈ t.est.cmp, x.1 ≠ idx.val) ∧
    (∀ (val : Word) (s : State), HostOpen s →
      ∃ t, exec (.estIdxLoad val) s = .next t ∧ t.f R.EST_IDX_IDX = val.toNat % 8192 ∧ ∀ w < 4, t.reg (R.EST_W w) = s.estWord (val.toNat % 8192) w)) ∧
  (∀ (c : Nat) (s : State), s.est.sweepAt = some c → c ≤ s.clk → s.est.swept = false → s.f R.EST_CFG_EN = 1 →
      ∃ t, exec .estSweep s = .next t ∧ t.est.swept = true ∧ t.est.next.length ≤ 512 ∧
        (∀ x ∈ t.est.next, ∃ idx ∈ s.estListed, (s.estSlotNext idx).1 = some x) ∧
        (s.estListed.length ≤ 512 → ∀ (idx : Nat) (x : FireSlot),
          (slotHas s.est.cur idx = false ∨ w2Rep (s.estWord idx 2) = true) → (s.estSlotNext idx).1 = some x → x ∈ t.est.next))

/-- R50, R54, R55, R57, R59: what a firing does in every case (FIRED, the counts, a late firing), and for each action on its object: a pin, a ring event, a
capture gate, an event task and a trigger unit; the end of a pulse; and a write of the pins' polarity. -/
def Obligations.FiringActsOnItsObject : Prop :=
  (∀ (idx : Fin 8192) (x : FireSlot) (s : State), s.f R.EST_CFG_EN = 1 → s.est.cur.find? (fun y => y.idx == idx.val && decide (y.n ≤ s.sinceT0)) = some x →
    ∃ t, exec (.estFire idx) s = .next t ∧ t.est.cur = s.est.cur.erase x ∧ (t.estWord idx.val 2).getLsbD 23 = true ∧
      w2En (t.estWord idx.val 2) = (w2Rep (s.estWord idx.val 2) && w2En (s.estWord idx.val 2)) ∧
      t.f R.EST_FIRE_CNT_COUNT = (s.f R.EST_FIRE_CNT_COUNT + 1) % 2 ^ 32 ∧
      (x.late = true → (t.estWord idx.val 2).getLsbD 22 = true ∧ Counts R.EST_LATE_CNT_COUNT 1 s t ∧ t.f R.EST_STAT_LATE = 1 ∧ Pends t 0x12 ∧
        (s.f R.EST_STAT_LATE = 0 → t.f R.EST_FIRST_LATE_IDX = idx.val ∧ t.f R.EST_FIRST_LATE_VALID = 1)) ∧
      (x.late = false → t.f R.EST_LATE_CNT_COUNT = s.f R.EST_LATE_CNT_COUNT ∧ t.f R.EST_STAT_LATE = s.f R.EST_STAT_LATE)) ∧
  (∀ (idx : Fin 8192) (x : FireSlot) (n : Nat) (s : State), s.f R.EST_CFG_EN = 1 →
    s.est.cur.find? (fun y => y.idx == idx.val && decide (y.n ≤ s.sinceT0)) = some x → (s.estWord idx.val 3).toNat % 256 = n → n < 32 →
    w2Act (s.estWord idx.val 2) ≤ 3 →
    ∃ t, exec (.estFire idx) s = .next t ∧
      t.est.pins.getLsbD n = (if w2Act (s.estWord idx.val 2) = 1 then false else if w2Act (s.estWord idx.val 2) = 2 then !s.est.pins.getLsbD n else true) ∧
      tabGet (fun _ => none) t.est.timers n = (if w2Act (s.estWord idx.val 2) = 3 then some (s.clk + max 1 (w2Width (s.estWord idx.val 2))) else none) ∧
      ∀ p < 32, p ≠ n → t.est.pins.getLsbD p = s.est.pins.getLsbD p ∧ tabGet (fun _ => none) t.est.timers p = tabGet (fun _ => none) s.est.timers p) ∧
  (∀ (idx : Fin 8192) (x : FireSlot) (at_ : NetTime) (s : State), s.f R.EST_CFG_EN = 1 →
    s.est.cur.find? (fun y => y.idx == idx.val && decide (y.n ≤ s.sinceT0)) = some x → w2Act (s.estWord idx.val 2) = 4 → x.ringT = some at_ →
    ∃ t, exec (.estFire idx) s = .next t ∧
      t.est.ring = s.est.ring ++ (if s.f R.EST_CFG_RING_EN = 1 then
        [⟨(s.estWord idx.val 3).toNat / 2 ^ 16 % 2 ^ 16, (s.estWord idx.val 3).toNat / 2 ^ 8 % 2 ^ 8, at_⟩] else [])) ∧
  (∀ (idx : Fin 8192) (x : FireSlot) (n : Nat) (s : State), s.f R.EST_CFG_EN = 1 →
    s.est.cur.find? (fun y => y.idx == idx.val && decide (y.n ≤ s.sinceT0)) = some x → (s.estWord idx.val 3).toNat % 256 = n → n < 16 →
    (w2Act (s.estWord idx.val 2) = 5 ∨ w2Act (s.estWord idx.val 2) = 6) →
    ∃ t, exec (.estFire idx) s = .next t ∧ t.f (R.CHN_CAP_CFG_GATE n) = (if w2Act (s.estWord idx.val 2) = 5 then 1 else 0)) ∧
  (∀ (idx : Fin 8192) (x : FireSlot) (n : Nat) (s : State), s.f R.EST_CFG_EN = 1 →
    s.est.cur.find? (fun y => y.idx == idx.val && decide (y.n ≤ s.sinceT0)) = some x → (s.estWord idx.val 3).toNat % 256 = n → n < 64 →
    w2Act (s.estWord idx.val 2) = 7 →
    ∃ t, exec (.estFire idx) s = .next t ∧
      t.dsp.ready = s.dsp.ready ++ (if s.isPending .event n = true then [] else [⟨.event, n, s.clk⟩]) ∧
      (s.isPending .event n = true → (t.reg (R.DSP_EVT_OVR (n / 32))).getLsbD (n % 32) = true ∧ t.f R.DSP_STAT_EVT_OVR = 1 ∧ Pends t 0x1A)) ∧
  (∀ (idx : Fin 8192) (x : FireSlot) (n : Nat) (s : State), s.f R.EST_CFG_EN = 1 →
    s.est.cur.find? (fun y => y.idx == idx.val && decide (y.n ≤ s.sinceT0)) = some x → (s.estWord idx.val 3).toNat % 256 = n → n < 16 →
    w2Act (s.estWord idx.val 2) = 8 → s.f (R.TRG_CFG_EN n) = 1 →
    ∃ t, exec (.estFire idx) s = .next t ∧ Counts (R.TRG_CNT_COUNT n) 1 s t ∧ t.f R.TRG_STAT_FIRED = s.f R.TRG_STAT_FIRED ||| 2 ^ n ∧ Pends t 0x53) ∧
  (∀ (pin : Fin 32) (c : Nat) (s : State), tabGet (fun _ => none) s.est.timers pin.val = some c → c ≤ s.clk →
    ∃ t, exec (.pulseTimerEnd pin) s = .next t ∧ t.est.pins.getLsbD pin.val = false ∧ tabGet (fun _ => none) t.est.timers pin.val = none ∧
      (∀ p < 32, p ≠ pin.val → t.est.pins.getLsbD p = s.est.pins.getLsbD p ∧ tabGet (fun _ => none) t.est.timers p = tabGet (fun _ => none) s.est.timers p) ∧
      Frame [.est] (fun _ => False) s t) ∧
  (∀ (val : Word) (s : State), HostOpen s →
    ∃ t, exec (.estPinPolWrite val) s = .next t ∧ t.reg R.EST_PIN_POL = val ∧ t.est.pins = s.est.pins ∧ t.estLevels = s.estLevels ∧
      State.estPol { t with clk := s.clk + 8 } = val ∧ Frame [.est] (· = R.EST_PIN_POL) s t)

/-- R58 to R60: an edge that its input's configuration stamps is queued with its stamps, or lost and counted; one that it does not stamp is neither; the read of the
last word pops the head record and numbers nothing anew. The time of the first loss is the counter's, without the edge's interpolator code: the model's choice (log
entry 27). -/
def Obligations.EdgesAreQueuedOrCountedLost : Prop :=
  (∀ (inp : Fin 16) (rising : Bool) (m : Fin 10) (s : State), s.capStamps inp.val rising = true → s.capSpaced inp.val m.val = true → s.cap.fifo.length < 256 →
    ∃ t, exec (.edgeCapture inp rising m) s = .next t ∧ t.cap.fifo = s.cap.fifo ++ [s.capRecord inp.val rising m.val] ∧ t.cap.seq = s.cap.seq + 1 ∧
      t.f R.CHN_CAP_FILL_LOST = s.f R.CHN_CAP_FILL_LOST) ∧
  (∀ (inp : Fin 16) (rising : Bool) (m : Fin 10) (s : State), s.capStamps inp.val rising = true →
    (s.capSpaced inp.val m.val = false ∨ 256 ≤ s.cap.fifo.length) →
    ∃ t, exec (.edgeCapture inp rising m) s = .next t ∧ t.cap.fifo = s.cap.fifo ∧ Counts R.CHN_CAP_FILL_LOST 1 s t ∧ t.f R.CHN_STAT_CAP_LOSS = 1 ∧ Pends t 0x15 ∧
      (s.f R.CHN_STAT_CAP_LOSS = 0 → t.cap.lossT = s.nt)) ∧
  (∀ (inp : Fin 16) (rising : Bool) (m : Fin 10) (s : State), s.capStamps inp.val rising = false →
    ∃ t, exec (.edgeCapture inp rising m) s = .next t ∧ t.cap.fifo = s.cap.fifo ∧ t.cap.seq = s.cap.seq ∧
      t.f R.CHN_CAP_FILL_LOST = s.f R.CHN_CAP_FILL_LOST ∧ Frame [.cap, .acq] (fun _ => False) s t) ∧
  (∀ (r : List Word) (rest : List (List Word)) (s : State), s.sysLost = false → 5 ≤ s.f R.GLB_BOOT_STATE → s.cap.fifo = r :: rest →
    ∃ t, exec .captureRecordPop s = .next t ∧ t.cap.fifo = rest ∧ t.host.hostRead = r.getD 7 0)

/-! ## The ring and the trunk -/

/-- R20, R226 to R228: a frame with a fault is counted against its port and goes no further: no slot is marked and no task posted. R253, R269: a SYNC of the head's
span in LISTEN refuses the start of a head that no partner answers; in RUN the head that loses the comparison, or shares the other's HID, shows COLL and stops at
the next bc. -/
def Obligations.BadAndForeignFrames : Prop :=
  ((∀ (port : Fin 6) (fr : RxFrame) (s : State), frameCheck fr.bytes = .fcs →
      ∃ t, exec (.discardedFrameReceive port fr) s = .next t ∧ t.deck = s.deck ∧ t.dsp = s.dsp ∧ t.f (R.ZLP_P_STAT_FCS_ERR port.val) = 1 ∧
        Counts (R.ZLP_P_FCSCNT_COUNT port.val) 1 s t ∧ Pends t 0x4C) ∧
    (∀ (port : Fin 6) (fr : RxFrame) (s : State), frameCheck fr.bytes = .hcrc →
      ∃ t, exec (.discardedFrameReceive port fr) s = .next t ∧ t.deck = s.deck ∧ t.dsp = s.dsp ∧ t.f (R.ZLP_P_STAT_HCRC_ERR port.val) = 1 ∧
        Counts (R.ZLP_P_HCRCCNT_COUNT port.val) 1 s t ∧ Pends t 0x4C) ∧
    (∀ (port : Fin 6) (fr : RxFrame) (s : State), frameCheck fr.bytes = .long →
      ∃ t, exec (.discardedFrameReceive port fr) s = .next t ∧ t.deck = s.deck ∧ t.dsp = s.dsp ∧ t.f (R.ZLP_P_STAT_LONG port.val) = 1 ∧ Pends t 0x4C) ∧
    (∀ (port : Fin 6) (fr : RxFrame) (s : State), frameCheck fr.bytes = .type →
      ∃ t, exec (.discardedFrameReceive port fr) s = .next t ∧ t.deck = s.deck ∧ t.dsp = s.dsp ∧ t.f (R.ZLP_P_STAT_BADTYPE port.val) = 1 ∧ Pends t 0x4C) ∧
    (∀ (port : Fin 6) (s : State),
      ∃ t, exec (.expansionJointError port) s = .next t ∧ t.deck = s.deck ∧ t.dsp = s.dsp ∧ t.f (R.ZLP_P_STAT_EJ_ERR port.val) = 1 ∧
        Counts (R.ZLP_P_EJCNT_COUNT port.val) 1 s t ∧ Pends t 0x4C)) ∧
  ((∀ (port : Fin 6) (fr : RxFrame) (s : State), port.val < 4 → frameCheck fr.bytes = .good → (parseHeader fr.bytes).type = 1 →
      (parseHeader fr.bytes).src / 256 = s.zlpF R.ZLP_CFG_SPAN → (parseHeader fr.bytes).dst / 256 = s.zlpF R.ZLP_CFG_SPAN → s.f R.ZLP_SSTAT_STATE = 1 →
      (s.twin && s.twn.linkUp) = false →
      ∃ t, exec (.foreignSyncReceive port fr) s = .next t ∧ t.f R.ZLP_SSTAT_HEARD = 1 ∧ t.f R.ZLP_SSTAT_STATE = 0 ∧ t.f R.ZLP_FAULT_CODE = 13 ∧ Pends t 0x40) ∧
    (∀ (port : Fin 6) (fr : RxFrame) (s : State), port.val < 4 → frameCheck fr.bytes = .good → (parseHeader fr.bytes).type = 1 →
      (parseHeader fr.bytes).src / 256 = s.zlpF R.ZLP_CFG_SPAN → (parseHeader fr.bytes).dst / 256 = s.zlpF R.ZLP_CFG_SPAN → s.spanRuns = true →
      ((parseHeader fr.bytes).hid ≠ s.zlpF R.ZLP_CFG_HID ∨ s.twin = false ∨ ((payloadOf fr.bytes).getD 18 0).getLsbD 0 = false) →
      s.losesTo (parseHeader fr.bytes) (payloadOf fr.bytes) = true →
      ∃ t, exec (.foreignSyncReceive port fr) s = .next t ∧ t.f R.ZLP_SSTAT_COLL = 1 ∧ t.ring.collReq = true ∧ Pends t 0x49))

/-- R23, R77, R237, R338: process data of a good frame that arrives in its interval. For a window of one feedback record that its station has filled (R261; which record
of zero bytes a station left is free, log entry 57), the slot is valid with the period's number. A record of a station's own frame goes to the frame buffer. -/
def Obligations.FeedbackSlotsBecomeValid : Prop :=
  (∀ (port : Fin 6) (fr : RxFrame) (s : State), GoodFrame s port fr 3 → (frameWindow s fr).cls = 2 → (frameWindow s fr).dir = 1 →
    (isX1 port.val = true → s.twin = true) → s.headInterval port.val (parseHeader fr.bytes) fr = true → s.frameBc (parseHeader fr.bytes) = s.cyc.bcIdx →
    ∃ t, exec (.collectReceive port fr) s = .next t ∧ t.f (R.ZLP_P_RXCNT_COUNT port.val) = (s.f (R.ZLP_P_RXCNT_COUNT port.val) + 1) % 2 ^ 32 ∧
      ((frameWindow s fr).count = 1 → (frameWindow s fr).src = 0 → s.recordFilled (recordSlot (frameWindow s fr) 0 (hdrHalf (parseHeader fr.bytes)))
          (sliceOf (payloadOf fr.bytes) 0 (frameWindow s fr).rsize) = true →
        (t.deckWord (fbAddr (recordSlot (frameWindow s fr) 0 (hdrHalf (parseHeader fr.bytes))))).getLsbD 31 = true ∧
        (t.deckWord (fbAddr (recordSlot (frameWindow s fr) 0 (hdrHalf (parseHeader fr.bytes))))).toNat / 2 ^ 16 % 2 ^ 8 =
          (2 * hdrBcn (parseHeader fr.bytes) + hdrHalf (parseHeader fr.bytes)) % 256)) ∧
  (∀ (port : Fin 6) (fr : RxFrame) (s : State), GoodFrame s port fr 4 → (frameWindow s fr).cls = 4 → (isX1 port.val = true → s.twin = true) →
    s.headInterval port.val (parseHeader fr.bytes) fr = true → s.frameBc (parseHeader fr.bytes) = s.cyc.bcIdx → hdrHalf (parseHeader fr.bytes) = s.cyc.half →
    ∃ t, exec (.xsampReceive port fr) s = .next t ∧ t.f (R.ZLP_P_RXCNT_COUNT port.val) = (s.f (R.ZLP_P_RXCNT_COUNT port.val) + 1) % 2 ^ 32 ∧
      (∀ a, s.cyc.half * s.pExp + s.dsp.open_ < s.sinceT0 + 6 → (frameWindow s fr).count = 1 → (frameWindow s fr).src = 0 →
        s.recordFilled (recordSlot (frameWindow s fr) 0 s.cyc.half) (sliceOf (payloadOf fr.bytes) 0 (frameWindow s fr).rsize) = true →
        (s.deckWord (fbAddr (recordSlot (frameWindow s fr) 0 s.cyc.half))).getLsbD 31 = false →
        s.slotOwner true (recordSlot (frameWindow s fr) 0 s.cyc.half) = some a → s.axisOn a = true → s.axisClass a = 1 → 2 ≤ s.axisState a →
        t.f R.DSP_STAT_XLATE = 1 ∧ Pends t 0x19) ∧
      ((frameWindow s fr).count = 1 → (frameWindow s fr).src = 0 →
        s.recordFilled (recordSlot (frameWindow s fr) 0 s.cyc.half) (sliceOf (payloadOf fr.bytes) 0 (frameWindow s fr).rsize) = true →
        (t.deckWord (fbAddr (recordSlot (frameWindow s fr) 0 s.cyc.half))).getLsbD 31 = true)) ∧
  (∀ (port : Fin 6) (fr : RxFrame) (s : State), GoodFrame s port fr 9 → (frameWindow s fr).cls = 2 → (frameWindow s fr).dir = 1 →
    (frameWindow s fr).owner = (parseHeader fr.bytes).src → s.keyUsed (parseHeader fr.bytes) = false →
    isX1 port.val = false → s.ownedInterval port.val (parseHeader fr.bytes) fr = true →
    ∃ t, exec (.stnpdReceive port fr) s = .next t ∧ t.keyUsed (parseHeader fr.bytes) = true ∧
      t.f (R.ZLP_P_RXCNT_COUNT port.val) = (s.f (R.ZLP_P_RXCNT_COUNT port.val) + 1) % 2 ^ 32 ∧
      ((frameWindow s fr).count = 1 → (frameWindow s fr).src = 1 → (frameWindow s fr).rsize = 4 → 4 ≤ (payloadOf fr.bytes).length →
        t.deckWord (0x70000 + 64 * recordSlot (frameWindow s fr) 0 (hdrHalf (parseHeader fr.bytes))) = wordOf (natOfBytes ((payloadOf fr.bytes).take 4))))

/-- R28, R233, R235, R257, R266: vacancy frames, upstream safety containers, RUN frames and the removal of a station. Safety containers do not enter the
Deck. -/
def Obligations.OtherUpstreamFramesAreTaken : Prop :=
  (∀ (port : Fin 6) (fr : RxFrame) (s : State), GoodFrame s port fr 8 → (isX1 port.val = true → s.twin = true) →
    s.headInterval port.val (parseHeader fr.bytes) fr = true → s.keyUsed (parseHeader fr.bytes) = false →
    ∃ t, exec (.serviceReceive port fr) s = .next t ∧
      t.ring.service = s.ring.service ++ [bytesOf 2 (parseHeader fr.bytes).src ++ payloadOf fr.bytes] ∧ t.keyUsed (parseHeader fr.bytes) = true) ∧
  (∀ (port : Fin 6) (fr : RxFrame) (s : State), GoodFrame s port fr 7 → (isX1 port.val = true → s.twin = true) → hdrClm (parseHeader fr.bytes) = false →
    s.headInterval port.val (parseHeader fr.bytes) fr = true →
    ∃ t, exec (.vacantUnclaimedReturn port fr) s = .next t ∧ t.ring.roundUp = true) ∧
  (∀ (port : Fin 6) (fr : RxFrame) (n : Nat) (s : State), GoodFrame s port fr 6 → (frameWindow s fr).cls = 6 → (frameWindow s fr).dir = 1 →
    (isX1 port.val = true → s.twin = true) → s.headInterval port.val (parseHeader fr.bytes) fr = true →
    (∀ e ∈ s.windowsOf (hdrBcn (parseHeader fr.bytes)), e.cls = 6 → e.dir = 1 → (frameWindow s fr).w ≤ e.w) →
    (frameWindow s fr).count = 1 → s.ring.set_[0]? = some n →
    ∃ t, exec (.safeUpstreamReceive port fr) s = .next t ∧ t.deck = s.deck ∧
      t.ring.safeRx = s.ring.safeRx ++ [⟨ringOfPort port.val, s.frameBc (parseHeader fr.bytes), n, (payloadOf fr.bytes).take 16⟩]) ∧
  (∀ (port : Fin 6) (fr : RxFrame) (base : Nat) (s : State), GoodFrame s port fr 10 → isX1 port.val = false → ((payloadOf fr.bytes).getD 0 0).toNat = 3 →
    s.headInterval port.val (parseHeader fr.bytes) fr = true → s.frameBase (parseHeader fr.bytes) = some base → hdrWrap (parseHeader fr.bytes) = false →
    ∃ t, exec (.runFrameReturn port fr) s = .next t ∧ t.ring.seenBc = s.frameBc (parseHeader fr.bytes) ∧
      tabGet (fun _ => []) t.ring.seen (ringOfPort port.val) = parseRecords (payloadOf fr.bytes) ∧
      t.f (R.ZLP_LOOP_LOOP (2 * ringOfPort port.val + 1)) = (fr.sfd - (base + (frameWindow s fr).start * 8)) % 2 ^ 18) ∧
  (∀ (n : Fin 256) (c : Nat) (s : State), tabGet (fun _ => none) s.ring.absentAt n.val = some c → c + 64 * s.nBc ≤ s.clk →
    ∃ t, exec (.stationRemoval n) s = .next t ∧ n.val ∉ t.ring.set_ ∧ (∀ m, m ≠ n.val → (m ∈ t.ring.set_ ↔ m ∈ s.ring.set_)) ∧ t.f (R.ZLP_STN_STAT_STATE n.val) = 6)

/-- R271: the SYNC return at x1 closes a broken ring, with the loop delay stored anew where it has changed by more than 16 clk; a wrapped one at x0 gives the return
delay of the break; two bc without the return break a ring, and `ZLP_BRK` shows where. R220, R430, R443: LINK follows synchronisation, the signal of a module and the
PLL, and its loss at the head's own port breaks the ring (R271). -/
def Obligations.RingBreaksAndCloses : Prop :=
  (∀ (port : Fin 6) (fr : RxFrame) (base : Nat) (s : State), GoodFrame s port fr 1 → isX1 port.val = true → s.frameBase (parseHeader fr.bytes) = some base →
    (parseHeader fr.bytes).hid = s.zlpF R.ZLP_CFG_HID → hdrWrap (parseHeader fr.bytes) = false →
    ∃ t, exec (.syncReturn port fr) s = .next t ∧ tabGet (fun _ => 0) t.ring.syncMiss (ringOfPort port.val) = 0 ∧
      tabGet (fun _ => none) t.ring.syncBc (ringOfPort port.val) = some (s.frameBc (parseHeader fr.bytes)) ∧
      (s.isWrap (ringOfPort port.val) = true → t.isWrap (ringOfPort port.val) = false ∧ Pends t 0x47 ∧
        (fr.sfd - base ≤ s.f (R.ZLP_LOOP_LOOP (2 * ringOfPort port.val)) + 16 → s.f (R.ZLP_LOOP_LOOP (2 * ringOfPort port.val)) ≤ fr.sfd - base + 16 →
          t.f (R.ZLP_LOOP_LOOP (2 * ringOfPort port.val)) = s.f (R.ZLP_LOOP_LOOP (2 * ringOfPort port.val))) ∧
        ((s.f (R.ZLP_LOOP_LOOP (2 * ringOfPort port.val)) + 16 < fr.sfd - base ∨ fr.sfd - base + 16 < s.f (R.ZLP_LOOP_LOOP (2 * ringOfPort port.val))) →
          t.f (R.ZLP_LOOP_LOOP (2 * ringOfPort port.val)) = (fr.sfd - base) % 2 ^ 18 ∧ Pends t 0x48)) ∧
      (s.isWrap (ringOfPort port.val) = false → t.reg R.ZLP_RSTAT = s.reg R.ZLP_RSTAT)) ∧
  (∀ (port : Fin 6) (fr : RxFrame) (base : Nat) (s : State), GoodFrame s port fr 1 → isX1 port.val = false → s.frameBase (parseHeader fr.bytes) = some base →
    (parseHeader fr.bytes).hid = s.zlpF R.ZLP_CFG_HID → hdrWrap (parseHeader fr.bytes) = true →
    ∃ t, exec (.syncReturn port fr) s = .next t ∧ tabGet (fun _ => none) t.ring.ret0 (ringOfPort port.val) = some (fr.sfd - base) ∧
      t.reg R.ZLP_RSTAT = s.reg R.ZLP_RSTAT) ∧
  (∀ (ring : Fin 2) (s : State), s.ringSends = true → s.ring.use.contains ring.val = true → s.isWrap ring.val = false →
    2 ≤ tabGet (fun _ => 0) s.ring.syncMiss ring.val →
    ∃ t, exec (.ringBreakDetect ring) s = .next t ∧ t.isWrap ring.val = true ∧ Counts R.ZLP_BRK_CNT_COUNT 1 s t ∧ Pends t 0x46 ∧
      (∀ r0, tabGet (fun _ => none) s.ring.ret0 ring.val = some r0 →
        t.f (if ring.val = 0 then R.ZLP_BRK_A_X0 else R.ZLP_BRK_B_X0) = s.highestPos ring.val (fun d => decide (2 * d ≤ 5 * r0)) % 256) ∧
      (∀ r1, tabGet (fun _ => none) s.ring.ret1 ring.val = some r1 →
        t.f (if ring.val = 0 then R.ZLP_BRK_A_X1 else R.ZLP_BRK_B_X1) =
          s.highestPos ring.val (fun d => decide (5 * r1 + 2 * d ≤ 2 * (5 * s.f (R.ZLP_LOOP_LOOP (2 * ring.val + 1))))) % 256)) ∧
  (∀ (port : Fin 6) (sync los modabs txfault : Bool) (codeErrs : Nat) (s : State),
    ∃ t, exec (.portLinkChange port sync los modabs txfault codeErrs) s = .next t ∧
      t.f (R.ZLP_P_STAT_LINK port.val) =
        (if s.f (R.ZLP_P_CFG_EN port.val) = 1 ∧ sync = true ∧ (s.f (R.ZLP_P_CFG_SFP port.val) = 0 ∨ los = false) ∧
          s.pllLocked (if port.val < 4 then 2 else 3) = true then 1 else 0) ∧
      t.f (R.ZLP_P_STAT_LOS port.val) = (if s.f (R.ZLP_P_CFG_SFP port.val) = 1 ∧ los = true then 1 else 0) ∧
      t.f (R.ZLP_P_STAT_MODABS port.val) = (if s.f (R.ZLP_P_CFG_SFP port.val) = 1 ∧ modabs = true then 1 else 0) ∧
      t.f (R.ZLP_P_STAT_TXFAULT port.val) = (if s.f (R.ZLP_P_CFG_SFP port.val) = 1 ∧ txfault = true then 1 else 0) ∧
      Counts (R.ZLP_P_CODECNT_COUNT port.val) codeErrs s t ∧
      (port.val < 4 → s.ringSends = true → (if isX1 port.val then s.hasX1 (ringOfPort port.val) else s.hasX0 (ringOfPort port.val)) = true →
        s.ring.use.contains (ringOfPort port.val) = true → s.isWrap (ringOfPort port.val) = false → s.f (R.ZLP_P_STAT_LINK port.val) = 1 → sync = false →
        t.isWrap (ringOfPort port.val) = true ∧ Counts R.ZLP_BRK_CNT_COUNT 1 s t ∧ Pends t 0x46))

/-- R25, R221, R238: the assembler's snapshot of a command slot, a window's frame on the head's ports, and the module bus of a port. -/
def Obligations.WindowsAreSentAndModulesRead : Prop :=
  (∀ (slot h : Nat) (s : State), s.spanRuns = true → s.ring.live = true → s.asmDue slot = some h →
    ∃ t, exec (.assemblerSlotRead slot) s = .next t ∧ tabGet (fun _ => none) t.ring.asm_ slot = some ⟨s.cyc.bcIdx, h, s.asmBytes slot h⟩ ∧ t.deck = s.deck) ∧
  (∀ (b w : Fin 64) (h : Nat) (s : State), s.ringSends = true → s.bcn = b.val → (s.cym b.val w.val).cls ≠ 0 → (s.cym b.val w.val).cls ≠ 7 →
    s.headSent (s.cym b.val w.val) = true → s.dueHalf (s.cym b.val w.val) = some h →
    ∃ t, exec (.windowSend b w) s = .next t ∧ t.wasSent w.val h = true ∧
      (s.sendHeld (s.cym b.val w.val) = false → t.ring.lastTx.map (fun x => x.1) = (s.txPorts (s.cym b.val w.val)).map (fun x => x.1)) ∧
      (s.sendHeld (s.cym b.val w.val) = true → t.ring.lastTx = [])) ∧
  (∀ (port : Fin 6) (val : Word) (s : State), HostOpen s →
    ∃ t, exec (.sfpTransfer port val) s = .next t ∧ (val.getLsbD 31 = true → t.f (R.ZLP_P_SFP_CTL_GO port.val) = 1)) ∧
  (∀ (port : Fin 6) (ack : Bool) (data : Byte) (s : State), s.f (R.ZLP_P_SFP_CTL_GO port.val) = 1 →
    ∃ t, exec (.sfpTransferEnd port ack data) s = .next t ∧ t.f (R.ZLP_P_SFP_CTL_GO port.val) = 0 ∧ t.f (R.ZLP_P_SFP_CTL_ERR port.val) = (if ack then 0 else 1) ∧
      t.f (R.ZLP_P_SFP_CTL_DATA port.val) = (if ack = true ∧ s.f (R.ZLP_P_SFP_CTL_WR port.val) = 0 then data.toNat else s.f (R.ZLP_P_SFP_CTL_DATA port.val))) ∧
  (∀ (port : Fin 6) (temp rx : BitVec 16) (s : State), s.f (R.ZLP_P_CFG_DDM_EN port.val) = 1 → tabGet (fun _ => 0) s.ring.ddmAt port.val + 80000000 ≤ s.clk →
    ∃ t, exec (.ddmRead port temp rx) s = .next t ∧ t.f (R.ZLP_P_DDM_TEMP port.val) = temp.toNat ∧ t.f (R.ZLP_P_DDM_RXPWR port.val) = rx.toNat)

/-- R251, R253 to R255, R354: the steps of a ring start from LISTEN to the first SYNC, and the effect of a halt (R252). The frames of a step of a pair leave on a clk that
the holder names: which clk is the model's choice (log entry 98). -/
def Obligations.RingStartSteps : Prop :=
  (∀ s : State, s.f R.ZLP_SSTAT_STATE = 1 → s.twin = false → s.ring.listenEnd ≤ s.clk →
    ∃ t, exec .listenTimeEnd s = .next t ∧ t.f R.ZLP_SSTAT_STATE = 2 ∧ ∀ r ∈ s.ring.use, (t.meas r).sentAt = s.clk ∧ (t.meas r).round = 0) ∧
  (∀ s : State, s.f R.ZLP_SSTAT_STATE = 1 → s.twin = true →
    (s.twn.linkUp = true → s.f R.TWN_STAT_ROLE = 1 ∨ s.holderLeft = true) → (s.twn.linkUp = false → s.ring.listenEnd ≤ s.clk) →
    ∃ t, exec .listenTimeEnd s = .next t ∧ t.f R.ZLP_SSTAT_STATE = 2 ∧ ∀ r ∈ s.ring.use, .round r ∈ t.ring.steps ∧ (t.meas r).round = 0) ∧
  (∀ (port : Fin 6) (fr : RxFrame) (s : State), port.val < 4 → isX1 port.val = false → s.f R.ZLP_SSTAT_STATE = 2 → s.ring.use.contains (ringOfPort port.val) = true →
    (s.meas (ringOfPort port.val)).round < 16 → s.ownDelay fr 0 = true → ((payloadOf fr.bytes).getD 1 0).toNat = (s.meas (ringOfPort port.val)).round →
    (s.meas (ringOfPort port.val)).up = none → (s.meas (ringOfPort port.val)).sentAt ≤ fr.sfd → s.twin = false → (s.meas (ringOfPort port.val)).dn = none →
    ∃ t, exec (.delayFrameReturn port fr) s = .next t ∧ (t.meas (ringOfPort port.val)).up = some (fr.sfd - (s.meas (ringOfPort port.val)).sentAt) ∧
      (t.meas (ringOfPort port.val)).round = (s.meas (ringOfPort port.val)).round) ∧
  (∀ (port : Fin 6) (fr : RxFrame) (d : Nat) (s : State), port.val < 4 → isX1 port.val = false → s.f R.ZLP_SSTAT_STATE = 2 →
    s.ring.use.contains (ringOfPort port.val) = true → (s.meas (ringOfPort port.val)).round < 15 → s.ownDelay fr 0 = true →
    ((payloadOf fr.bytes).getD 1 0).toNat = (s.meas (ringOfPort port.val)).round → (s.meas (ringOfPort port.val)).up = none →
    (s.meas (ringOfPort port.val)).sentAt ≤ fr.sfd → (s.meas (ringOfPort port.val)).dn = some d →
    ∃ t, exec (.delayFrameReturn port fr) s = .next t ∧ (t.meas (ringOfPort port.val)).round = (s.meas (ringOfPort port.val)).round + 1 ∧
      (t.meas (ringOfPort port.val)).sumUp = (s.meas (ringOfPort port.val)).sumUp + (fr.sfd - (s.meas (ringOfPort port.val)).sentAt) ∧
      (t.meas (ringOfPort port.val)).sumDn = (s.meas (ringOfPort port.val)).sumDn + d ∧
      (s.twin = false → (t.meas (ringOfPort port.val)).sentAt = s.clk) ∧ (s.twin = true → .round (ringOfPort port.val) ∈ t.ring.steps)) ∧
  (∀ s : State, s.f R.ZLP_SSTAT_STATE = 2 → s.measured = true → s.lateRings ≠ [] →
    ∃ t, exec .measureTimeout s = .next t ∧ t.f R.ZLP_SSTAT_STATE = 0 ∧ t.f R.ZLP_FAULT_CODE = 10 ∧ Pends t 0x40) ∧
  (∀ s : State, s.f R.ZLP_SSTAT_STATE = 2 → s.measured = false → s.lateRings ≠ [] →
    ∃ t, exec .measureTimeout s = .next t ∧
      (∀ use, s.startRings (s.ring.use.filter (fun r => !s.lateRings.contains r)) = some use → t.f R.ZLP_SSTAT_STATE = 2 ∧ t.ring.use = use) ∧
      (s.startRings (s.ring.use.filter (fun r => !s.lateRings.contains r)) = none →
        t.f R.ZLP_SSTAT_STATE = 0 ∧ t.f R.ZLP_FAULT_CODE = 10 ∧ Pends t 0x40)) ∧
  (∀ (port : Fin 6) (fr : RxFrame) (s : State), port.val < 4 → isX1 port.val = false → s.f R.ZLP_SSTAT_STATE = 2 → s.measured = true →
    s.ring.use.contains (ringOfPort port.val) = true → (s.meas (ringOfPort port.val)).recs = none → s.ownDelay fr 1 = true →
    ∃ t, exec (.reportFrameReturn port fr) s = .next t ∧
      ((∃ r ∈ s.ring.use, r ≠ ringOfPort port.val ∧ s.hasX0 r = true ∧ (s.meas r).recs = none) →
        (t.meas (ringOfPort port.val)).recs = some (parseRecords (payloadOf fr.bytes)) ∧ t.f R.ZLP_SSTAT_STATE = 2) ∧
      ((∀ r ∈ s.ring.use, r = ringOfPort port.val) →
        (t.f R.ZLP_SSTAT_STATE = 0 ∧ Pends t 0x40) ∨
        (if s.twin = true then t.f R.ZLP_SSTAT_STATE = 2 ∧ .assign ∈ t.ring.steps else t.f R.ZLP_SSTAT_STATE = 3 ∧ s.clk ≤ t.ring.assignEnd))) ∧
  (∀ s : State, s.f R.ZLP_SSTAT_STATE = 3 → s.ring.assignEnd ≤ s.clk →
    ∃ t, exec .assignDone s = .next t ∧ t.f R.ZLP_SSTAT_STATE = 4 ∧ t.f R.ZLP_BUDGET_BUDGET = budgetOf s.cyc.rate % 2 ^ 18) ∧
  (∀ s : State, s.spanRuns = true → s.ring.live = false → s.ring.assignEnd + s.nBc ≤ s.cyc.t0 →
    ∃ t, exec .firstSync s = .next t ∧ t.ring.live = true ∧ t.wasSent (s.cym s.bcn 0).w 0 = true ∧ t.waiting isRingStart = []) ∧
  (∀ (c : Nat) (s : State), s.ring.haltAt = some c → c < s.cyc.t0 →
    ∃ t, exec .ringHaltEffect s = .next t ∧ t.f R.ZLP_SSTAT_STATE = 0 ∧ t.ring.live = false ∧ t.waiting isRingHalt = [])

/-- R273 to R275: the trunk starts, the time master measures, a second master is a duplicate, time frames end a loss, segment frames feed source 3, and
eight bc without a time frame are a loss. -/
def Obligations.TrunkFollowsItsMaster : Prop :=
  (∀ (val : Word) (s : State), HostOpen s → val.getLsbD 0 = true → s.f R.ZLP_TCFG_EN = 0 →
    ∃ t, exec (.trunkStart val) s = .next t ∧ t.f R.ZLP_TCFG_EN = 1 ∧ t.f R.ZLP_TSTAT_TRUN = 0 ∧ t.f R.ZLP_TSTAT_TLOST = 0 ∧ t.ring.trunk.timeAt = s.clk) ∧
  (∀ s : State, s.f R.ZLP_TCFG_EN = 1 → s.f R.ZLP_TCFG_TMASTER = 1 → (∀ c, s.ring.trunk.measAt = some c → c + 102400000 ≤ s.clk) →
    ∃ t, exec .trunkMeasure s = .next t ∧ t.ring.trunk.measAt = some s.clk ∧ t.ring.lastTx.map (fun x => x.1) = [4, 5] ∧ t.ring.trunk.meas.sentAt = s.clk) ∧
  (∀ (port : Fin 6) (fr : RxFrame) (s : State), 4 ≤ port.val → frameCheck fr.bytes = .good → (parseHeader fr.bytes).type = 10 → s.f R.ZLP_TCFG_EN = 1 →
    s.f R.ZLP_TCFG_TMASTER = 1 → (parseHeader fr.bytes).src ≠ s.ownAddr →
    ∃ t, exec (.trunkDelayFrameReceive port fr) s = .next t ∧ t.f R.ZLP_TSTAT_DUP = 1 ∧ t.ring.lastTx = [(trunkOther port.val, fr.bytes)]) ∧
  (∀ (port : Fin 6) (fr : RxFrame) (sent : Nat) (s : State), 4 ≤ port.val → frameCheck fr.bytes = .good → (parseHeader fr.bytes).type = 11 → (parseHeader fr.bytes).len = 48 →
    s.f R.ZLP_TCFG_EN = 1 → ((payloadOf fr.bytes).getD 0 0).toNat = 0 →
    ∃ t, exec (.trunkFrameReceive port ⟨fr, sent⟩) s = .next t ∧ t.ring.trunk.timeAt = s.clk ∧ t.f R.ZLP_TSTAT_TLOST = 0) ∧
  (∀ (port : Fin 6) (fr : RxFrame) (sent : Nat) (s : State), 4 ≤ port.val → frameCheck fr.bytes = .good → (parseHeader fr.bytes).type = 11 → (parseHeader fr.bytes).len = 48 →
    s.f R.ZLP_TCFG_EN = 1 → ((payloadOf fr.bytes).getD 0 0).toNat = 1 → (parseHeader fr.bytes).src ≠ s.ownAddr →
    (∀ x ∈ s.chn.trunkKept, x.1 ≠ bcIndexOf s.cyc.rate (trunkNt (payloadOf fr.bytes))) →
    ∃ t, exec (.trunkFrameReceive port ⟨fr, sent⟩) s = .next t ∧ t.f R.ZLP_TDLV_DLV = min (2 ^ 18 - 1) (s.clk - sent) ∧ t.chn.trunkKept.head? = some (bcIndexOf s.cyc.rate (trunkNt (payloadOf fr.bytes)),
      ⟨chn96 (BitVec.ofNat 64 (natOfBytes (sliceOf (payloadOf fr.bytes) 20 8))), BitVec.ofNat 64 (natOfBytes (sliceOf (payloadOf fr.bytes) 28 8))⟩)) ∧
  (∀ s : State, s.f R.ZLP_TCFG_EN = 1 → s.f R.ZLP_TSTAT_TLOST = 0 → s.ring.trunk.timeAt + 8 * s.nBc ≤ s.clk →
    ∃ t, exec .trunkLost s = .next t ∧ t.f R.ZLP_TSTAT_TLOST = 1 ∧ Pends t 0x4A)

/-! ## Dispatcher, Piers, Deck and axes -/

/-- R72 to R74, R104, R105: a decision gives a Pier in service a posted task whose start clk is 6 clk away; on that clk the task starts and runs for its cost, with the
migration or restore it needs counted (R75); a restore that would read a bad dynamic part leaves the axis disabled with code 1 (R108). R85, R93, R96, R106: what the end of a task, the end of a state move and a task that does not end in time leave. -/
def Obligations.TasksStartAndEnd : Prop :=
  ((∀ s : State, s.f R.DSP_CFG_EN = 1 → ∃ t, exec .dispatchDecision s = .next t ∧
      ∀ (p : Fin 16) (g : Assigned), (t.pier p.val).asg = some g → (s.pier p.val).asg = some g ∨
        ((s.pier p.val).asg = none ∧ s.inService p.val = true ∧ g.task ∈ s.dsp.ready ∧ g.start = s.clk + 6 ∧
          (g.task.kind = .event → g.cost = 240) ∧ (g.task.kind = .background → g.cost = 2400))) ∧
    (∀ (p : Fin 16) (g : Assigned) (s : State), s.startable p.val = some g → g.task.kind = .axis →
      (g.move = .restore → s.homeDynBad g.task.id = false) →
      ∃ t, exec (.axisTaskStart p) s = .next t ∧ (t.pier p.val).asg = none ∧ (t.axis g.task.id).done = true ∧
        (t.pier p.val).useNow = (s.pier p.val).useNow + g.cost ∧
        (∃ r, (t.pier p.val).run = some r ∧ r.task = g.task ∧ r.start = g.start ∧ r.finish = g.start + g.cost) ∧
        t.dsp.migNow = s.dsp.migNow + (if g.move = .stay then 0 else 1) ∧
        t.f R.DSP_MIG_CNT_COUNT = (s.f R.DSP_MIG_CNT_COUNT + (if g.move = .stay then 0 else 1)) % 2 ^ 32 ∧
        (∀ src, g.move = .move src → g.task.id < 160 → t.axisHome g.task.id = p.val ∧ (t.axis g.task.id).moving = some (src, p.val, s.clk + 80)) ∧
        (g.move = .restore → g.task.id < 160 → t.axisHome g.task.id = p.val ∧ t.isResident g.task.id = true ∧ (t.axis g.task.id).lostHome = false)) ∧
    (∀ (p : Fin 16) (g : Assigned) (s : State), s.startable p.val = some g → g.task.kind = .axis → g.move = .restore → s.homeDynBad g.task.id = true →
      g.task.id < 160 →
      ∃ t, exec (.axisTaskStart p) s = .next t ∧ (t.pier p.val).asg = none ∧ t.axisOn g.task.id = false ∧ t.f (R.AXT_W2_FCODE g.task.id) = 1 ∧
        Pends t 0x30) ∧
    (∀ (e : Fin 64) (p : Fin 16) (g : Assigned) (s : State), s.startable p.val = some g → g.task.kind = .event → g.task.id = e.val →
      (∀ q < p.val, ∀ h, s.startable q = some h → ¬ (h.task.kind = .event ∧ h.task.id = e.val)) →
      ∃ t, exec (.eventTask e) s = .next t ∧ (t.pier p.val).run = some ⟨g.task, g.start, g.start + g.cost, none⟩ ∧ (t.pier p.val).asg = none) ∧
    (∀ (j : Fin 32) (p : Fin 16) (g : Assigned) (s : State), s.startable p.val = some g → g.task.kind = .background → g.task.id = j.val →
      (∀ q < p.val, ∀ h, s.startable q = some h → ¬ (h.task.kind = .background ∧ h.task.id = j.val)) →
      ∃ t, exec (.backgroundSlice j) s = .next t ∧ (t.pier p.val).run = some ⟨g.task, g.start, g.start + g.cost, none⟩ ∧
        (t.pier p.val).asg = none)) ∧
  ((∀ (p : Fin 16) (r : Running) (s : State), (s.pier p.val).run = some r → r.task.kind = .axis → r.task.id < 160 → r.finish ≤ s.clk →
      ∃ t, exec (.axisTaskEnd p) s = .next t ∧ (t.pier p.val).run = none ∧ t.dsp.tasks64 = s.dsp.tasks64 + 1 ∧
        t.f (R.PIR_TASKS_COUNT p.val) = (s.f (R.PIR_TASKS_COUNT p.val) + 1) % 2 ^ 32 ∧
        (s.f (R.PIR_STAT_STATE p.val) ≠ 3 →
          t.f (R.AXT_W2_TASKS r.task.id) = (s.f (R.AXT_W2_TASKS r.task.id) + 1) % 2 ^ (R.AXT_W2_TASKS r.task.id).width) ∧
        (s.f (R.PIR_STAT_STATE p.val) = 3 → t.f (R.PIR_STAT_STATE p.val) = 4)) ∧
    (∀ (p : Fin 16) (r : Running) (s : State), (s.pier p.val).run = some r → r.task.kind ≠ .axis → r.finish ≤ s.clk →
      ∃ t, exec (.eventOrBackgroundTaskEnd p) s = .next t ∧ (t.pier p.val).run = none ∧ t.dsp.tasks64 = s.dsp.tasks64 + 1 ∧
        t.f (R.PIR_TASKS_COUNT p.val) = (s.f (R.PIR_TASKS_COUNT p.val) + 1) % 2 ^ 32 ∧
        (r.task.kind = .background → s.isPending .background r.task.id = false → (t.reg R.DSP_BG_PEND).getLsbD r.task.id = false) ∧
        (r.task.kind = .background → s.isPending .background r.task.id = true → t.reg R.DSP_BG_PEND = s.reg R.DSP_BG_PEND)) ∧
    (∀ (p : Fin 16) (r : Running) (s : State), (s.pier p.val).run = some r → r.finish + 8 ≤ s.clk → 1 ≤ s.f (R.PIR_STAT_STATE p.val) →
      s.f (R.PIR_STAT_STATE p.val) < 5 →
      ∃ t, exec (.taskWatchdogExpiry p) s = .next t ∧ t.f (R.PIR_STAT_STATE p.val) = 5 ∧ t.f (R.PIR_STAT_WDOG p.val) = 1 ∧
        Counts (R.PIR_FAULT_CNT_COUNT p.val) 1 s t ∧ (t.pier p.val).run = none ∧ Pends t (0x20 + p.val)) ∧
    (∀ (a : Fin 160) (src dst c : Nat) (s : State), (s.axis a.val).moving = some (src, dst, c) → src < 16 → c ≤ s.clk →
      ∃ t, exec (.stateMoveEnd a) s = .next t ∧ (t.axis a.val).moving = none ∧ (∀ i < 32, t.slotAxis src i ≠ a.val) ∧
        ∀ f ∈ t.deck.fwd, f.2.1 / 0x800 = a.val → s.clk < f.1))

/-- R68, R70, R81, R83, R146, R203: substitute posts, overruns, held lanes, background posts, flow enables, and the class-L feedback at t0 + 4. Which
tasks an overrun takes with it is the model's reading (log entry 25). -/
def Obligations.PostsAndOverruns : Prop :=
  (∀ (a : Fin 160) (s : State), s.f R.DSP_CFG_SUB_EN = 1 → s.spanRuns = true → s.axisOn a.val = true → 2 ≤ s.axisState a.val →
    (s.axis a.val).posted = false → (s.axis a.val).done = false → s.xWaits a.val = false → s.xLoading a.val = false → s.isPending .axis a.val = false → s.latestStart a.val ≤ s.sinceT0 + 70 →
    ∃ t, exec (.substitutePost a) s = .next t ∧ Counts R.DSP_SUB_CNT_COUNT 1 s t ∧ t.f R.DSP_STAT_SUB = 1 ∧ (t.axis a.val).posted = true) ∧
  (∀ (a : Fin 160) (s : State), s.spanRuns = true → s.axisOn a.val = true → 2 ≤ s.axisState a.val → (s.axis a.val).done = false →
    (s.xWaits a.val = false ∨ s.isPending .axis a.val = true) → s.latestStart a.val < s.sinceT0 →
    ∃ t, exec (.overrun a) s = .next t ∧ (t.reg (R.DSP_OVR_MAP (a.val / 32))).getLsbD (a.val % 32) = true ∧
      Counts R.DSP_OVR_CNT_COUNT (s.overrunSet a.val).length s t ∧ (s.flowOf a.val = none → s.overrunSet a.val = [a.val]) ∧
      t.f R.DSP_STAT_OVR = 1 ∧ (s.f R.DSP_STAT_OVR = 0 → t.f R.DSP_OVR_FIRST_AXIS = a.val ∧ t.f R.DSP_OVR_FIRST_VALID = 1) ∧
      (∀ b ∈ s.overrunSet a.val, (t.axis b).done = true) ∧ (t.axis a.val).done = true ∧ Pends t 0x18) ∧
  (∀ (l : Fin 16) (s : State), (s.lane l.val).deadAt < s.cyc.t0 → s.pExp + s.dsp.open_ + intervalLen s.cyc.rate ≤ s.sinceT0 →
    ∃ t, exec (.laneWriteDeadline l) s = .next t ∧ (t.lane l.val).written = false ∧
      ((s.lane l.val).written = true → (t.lane l.val).missed = 0 ∧ (t.lane l.val).iqRef = (s.lane l.val).iqRef) ∧
      ((s.lane l.val).written = false → (s.lane l.val).missed = 0 → (t.lane l.val).missed = 1 ∧ (t.lane l.val).iqRef = (s.lane l.val).iqRef) ∧
      ((s.lane l.val).written = false → 1 ≤ (s.lane l.val).missed → (t.lane l.val).iqRef = 0)) ∧
  (∀ (val : Word) (s : State), HostOpen s → ∃ t, exec (.backgroundPost val) s = .next t ∧ ∀ j : Fin 32, val.getLsbD j.val = true →
    (s.isPending .background j.val = false → (t.reg R.DSP_BG_PEND).getLsbD j.val = true ∧ (⟨.background, j.val, s.clk⟩ : Task) ∈ t.dsp.ready) ∧
    (s.isPending .background j.val = true → (t.reg R.DSP_BG_OVR).getLsbD j.val = true ∧ t.f R.DSP_STAT_BG_OVR = 1 ∧ Pends t 0x1A)) ∧
  (∀ (n : Fin 256) (val : Word) (s : State), HostOpen s →
    ∃ t, exec (.flowEnable n val) s = .next t ∧
      ((s.plainWrite (R.DSP_FLOW n.val) (val ||| 0x80000000)).flowTest n.val = none → t.f (R.DSP_FLOW_EN n.val) = 0 ∧ t.f R.DSP_STAT_FLOW_BAD = 1) ∧
      (∀ m, (s.plainWrite (R.DSP_FLOW n.val) (val ||| 0x80000000)).flowTest n.val = some m → s.axisClass (m.headD 0) ≠ 1 →
        t.f (R.DSP_FLOW_EN n.val) = 1 ∧ t.f (R.DSP_FLOW_COUNT n.val) = m.length % 2 ^ (R.DSP_FLOW_COUNT n.val).width) ∧
      (∀ m, (s.plainWrite (R.DSP_FLOW n.val) (val ||| 0x80000000)).flowTest n.val = some m → (∀ a ∈ m, s.axisHome a = s.axisHome (m.headD 0)) →
        t.f (R.DSP_FLOW_EN n.val) = 1 ∧ t.f (R.DSP_FLOW_COUNT n.val) = m.length % 2 ^ (R.DSP_FLOW_COUNT n.val).width) ∧
      (∀ m, (s.plainWrite (R.DSP_FLOW n.val) (val ||| 0x80000000)).flowTest n.val = some m → s.axisClass (m.headD 0) = 1 →
        (∃ a ∈ m, s.axisHome a ≠ s.axisHome (m.headD 0)) → (s.plainWrite (R.DSP_FLOW n.val) (val ||| 0x80000000)).flowPin m = none →
        t.f (R.DSP_FLOW_EN n.val) = 0 ∧ t.f R.DSP_STAT_FLOW_BAD = 1)) ∧
  (∀ s : State, s.fbDone < s.cyc.t0 → s.cyc.t0 + 4 ≤ s.clk →
    ∃ t, exec .classLFeedbackWrite s = .next t ∧ t.fbDone = s.cyc.t0 ∧
      ∀ a < 160, (∀ b < 160, (s.axisOn b = true ∧ s.axisClass b = 2) ↔ b = a) →
        t.deckWord (fbAddr (s.f (R.AXT_W1_FB_SLOT a))) = slotHeader true (2 * s.bcn) 40 ∧
        (2 ≤ s.axisState a → (s.axis a).done = false → s.isPending .axis a = false → (t.axis a).posted = true))

/-- R90, R92, R93, R106: the requests of `PIR_CTL` (a reload waits for room in the flash queue, R30), the check of a reloaded Pier, and the end of a pass of the scrubber
over a Pier's memories, with the single-bit errors it has corrected. -/
def Obligations.PiersChangeState : Prop :=
  (∀ (p : Fin 16) (s : State), HostOpen s → s.inService p.val = true →
    ∃ t, exec (.pirOffline p) s = .next t ∧ (t.pier p.val).asg = none ∧
      ((s.pier p.val).run = none → t.f (R.PIR_STAT_STATE p.val) = 4) ∧
      ((s.pier p.val).run ≠ none → t.f (R.PIR_STAT_STATE p.val) = 3 ∧ t.f (R.PIR_CTL_OFFLINE p.val) = 1)) ∧
  (∀ (p : Fin 16) (s : State), HostOpen s → s.f (R.PIR_STAT_STATE p.val) = 4 →
    ∃ t, exec (.pirOnline p) s = .next t ∧
      ((s.pier p.val).passOk = true → t.f (R.PIR_STAT_STATE p.val) = 2 ∧ ∀ i < 32, t.slotAxis p.val i = 0xFF) ∧
      ((s.pier p.val).passOk = false → t.f (R.PIR_STAT_STATE p.val) = 4)) ∧
  (∀ (p : Fin 16) (s : State), HostOpen s → (s.f (R.PIR_STAT_STATE p.val) = 4 ∨ s.f (R.PIR_STAT_STATE p.val) = 5) →
    ∃ t, exec (.pirReload p) s = .next t ∧ t.f (R.PIR_STAT_STATE p.val) = 1 ∧ t.f (R.PIR_CTL_RELOAD p.val) = 1 ∧
      (s.queueRoom = true → s.nvs.reloads = [] → t.nvs.queue.map (fun q => q.job) = s.nvs.queue.map (fun q => q.job) ++ [.reload p.val]) ∧
      (s.queueRoom = false → t.nvs.reloads = s.nvs.reloads ++ [p.val] ∧ t.nvs.queue = s.nvs.queue)) ∧
  (∀ (p : Fin 16) (s : State), s.f (R.PIR_STAT_STATE p.val) = 1 → (s.pier p.val).loaded = true →
    ∃ t, exec (.pierReloadDone p) s = .next t ∧ t.reg (R.PIR_UC_CALC p.val) = s.pierCrc p.val ∧ t.f (R.PIR_CTL_RELOAD p.val) = 0 ∧
      (s.pierCrc p.val = s.reg (R.PIR_UC_CRC p.val) → (t.pier p.val).passOk = true ∧ t.f (R.PIR_STAT_STATE p.val) = 1) ∧
      (s.pierCrc p.val ≠ s.reg (R.PIR_UC_CRC p.val) → t.f (R.PIR_STAT_STATE p.val) = 5 ∧ t.f (R.PIR_STAT_CRC p.val) = 1)) ∧
  (∀ (p : Fin 16) (ice dce : Nat) (s : State), 2 ≤ s.f (R.PIR_STAT_STATE p.val) → s.f (R.PIR_STAT_STATE p.val) ≤ 4 → 12288 ≤ s.scrubbed p.val →
    ∃ t, exec (.pierScrubPass ⟨p, ice, dce⟩) s = .next t ∧ t.reg (R.PIR_UC_CALC p.val) = s.pierCrc p.val ∧
      t.f (R.PIR_SCRUB_PASS p.val) = (s.f (R.PIR_SCRUB_PASS p.val) + 1) % 2 ^ 16 ∧ Counts (R.PIR_ICE_CNT_COUNT p.val) ice s t ∧
      Counts (R.PIR_DCE_CNT_COUNT p.val) dce s t ∧
      (s.pierCrc p.val = s.reg (R.PIR_UC_CRC p.val) → t.f (R.PIR_STAT_STATE p.val) = s.f (R.PIR_STAT_STATE p.val) ∧
        t.scrubbed p.val = s.scrubbed p.val - 12288 ∧
        (s.f (R.PIR_STAT_STATE p.val) = 4 → (t.pier p.val).passOk = true)) ∧
      (s.pierCrc p.val ≠ s.reg (R.PIR_UC_CRC p.val) → t.f (R.PIR_STAT_STATE p.val) = 5 ∧ t.f (R.PIR_STAT_CRC p.val) = 1 ∧ Pends t (0x20 + p.val)))

/-- R106 to R109, R112: a Pier fault, a resident state with a double-bit error, and what a read of a Deck word, by the scrubber or another, finds. -/
def Obligations.MemoryErrorsAreHandled : Prop :=
  (∀ (p : Fin 16) (cause : PierCause) (mem : Fin 8) (word : Nat) (s : State), 1 ≤ s.f (R.PIR_STAT_STATE p.val) → s.f (R.PIR_STAT_STATE p.val) < 5 →
    ∃ t, exec (.pierFault p cause mem word) s = .next t ∧ t.f (R.PIR_STAT_STATE p.val) = 5 ∧ t.f (pierCauseFld p.val cause) = 1 ∧
      Counts (R.PIR_FAULT_CNT_COUNT p.val) 1 s t ∧ Pends t (0x20 + p.val) ∧ (t.pier p.val).run = none ∧ (∀ i < 32, t.slotAxis p.val i = 0xFF) ∧
      (s.f (R.PIR_UE_INFO_VALID p.val) = 0 → (cause = .iue ∨ cause = .due ∨ cause = .par) →
        t.f (R.PIR_UE_INFO_VALID p.val) = 1 ∧ t.f (R.PIR_UE_INFO_MEM p.val) = mem.val ∧ t.f (R.PIR_UE_INFO_WORD p.val) = word % 2 ^ 14)) ∧
  (∀ (p : Fin 16) (a : Fin 160) (w : Fin 256) (s : State), (∃ i < 32, s.slotAxis p.val i = a.val) →
    ∃ t, exec (.stateSlotDiscard p a w) s = .next t ∧ Counts (R.PIR_REST_CNT_COUNT p.val) 1 s t ∧ t.f (R.AXT_W2_RES a.val) = 0 ∧
      (t.axis a.val).lostHome = true) ∧
  (∀ (addr : Nat) (err : EccError) (s : State), addr < 0x200000 →
    ∃ t, exec (.deckScrub addr err) s = .next t ∧
      (err = .none → t.f R.DCK_CE_CNT_COUNT = s.f R.DCK_CE_CNT_COUNT ∧ t.f R.DCK_UE_CNT_COUNT = s.f R.DCK_UE_CNT_COUNT) ∧
      (err = .single → Counts R.DCK_CE_CNT_COUNT 1 s t ∧ t.f R.DCK_STAT_CE = 1 ∧ t.f R.DCK_UE_CNT_COUNT = s.f R.DCK_UE_CNT_COUNT ∧ t.deck = s.deck) ∧
      (err = .double → Counts R.DCK_UE_CNT_COUNT 1 s t ∧ t.f R.DCK_STAT_UE = 1 ∧ t.f R.DCK_CE_CNT_COUNT = s.f R.DCK_CE_CNT_COUNT ∧
        (s.f R.DCK_UE_ADDR_VALID = 0 → t.f R.DCK_UE_ADDR_VALID = 1) ∧ (0x100000 ≤ addr → t.f R.DCK_STAT_CAM_UE = 1)))

/-- R98, R100, R102, R103: where a write through the Deck window lands, by region. R99, R110, R111: an accepted enable, each reason for a refusal, a
disable, and the end of a state load. -/
def Obligations.DeckAndAxisTableWrites : Prop :=
  ((∀ (off : Nat) (val : Word) (s : State), HostOpen s →
      ∃ t, exec (.deckWindowWrite off val) s = .next t ∧
        (s.windowAddr off < 0x50000 → s.windowAddr off % 0x800 < 0x600 → t.deckWord (s.windowAddr off) = val ∧
          (∀ b, (b < s.windowAddr off ∨ s.windowAddr off + 4 ≤ b) → tabGet deckDefault t.deck.mem b = tabGet deckDefault s.deck.mem b) ∧
          t.deck.fwd = (if s.f (R.AXT_W2_RES (s.windowAddr off / 0x800)) = 1 then s.deck.fwd ++ [(s.clk + 4, s.windowAddr off, val)] else s.deck.fwd)) ∧
        ((s.windowAddr off < 0x50000 ∧ 0x600 ≤ s.windowAddr off % 0x800 ∨ 0x50000 ≤ s.windowAddr off ∧ s.windowAddr off < 0x70000) →
          t.deck = s.deck ∧ t.f R.DCK_STAT_WR_IGN = 1) ∧
        (0x70000 ≤ s.windowAddr off → s.windowAddr off < 0x100000 → t.deckWord (s.windowAddr off) = val ∧
          ∀ b, (b < s.windowAddr off ∨ s.windowAddr off + 4 ≤ b) → tabGet deckDefault t.deck.mem b = tabGet deckDefault s.deck.mem b) ∧
        (0x100000 ≤ s.windowAddr off → s.windowAddr off % 8 = 0 → t.deck.mem = s.deck.mem ∧ t.deck.camLow = some (s.windowAddr off, val))) ∧
    (∀ (off : Nat) (val lo : Word) (s : State), HostOpen s → 0x100000 ≤ s.windowAddr off → s.windowAddr off % 8 = 4 →
      s.deck.camLow = some (s.windowAddr off - 4, lo) →
      ∃ t, exec (.camPointHighWrite off val) s = .next t ∧ t.deckWord (s.windowAddr off) = val ∧ t.deckWord (s.windowAddr off - 4) = lo ∧
        t.deck.camLow = none ∧
        ∀ b, (b < s.windowAddr off - 4 ∨ s.windowAddr off + 4 ≤ b) → tabGet deckDefault t.deck.mem b = tabGet deckDefault s.deck.mem b) ∧
    (∀ s : State, ∃ t, exec .residentCopyUpdate s = .next t ∧ t.deck.mem = s.deck.mem ∧
      (∀ f ∈ t.deck.fwd, f ∈ s.deck.fwd ∧ (s.clk < f.1 ∨ s.isMoving (f.2.1 / 0x800) = true)) ∧
      (∀ c a off v, s.deck.fwd = [(c, a * 0x800 + off, v)] → off < 0x600 → c ≤ s.clk → s.isMoving a = false → t.resPar a off = v))) ∧
  ((∀ (a : Fin 160) (val : Word) (s : State), HostOpen s → s.axisOn a.val = false →
      ∃ t, exec (.axisEnableWrite a val) s = .next t ∧
        ((s.axisFields a.val (val ||| 0x80000000)).enableTest a.val = none → t.axisOn a.val = true ∧ t.axisState a.val = 1 ∧
          t.f (R.AXT_W2_RES a.val) = 0 ∧ (t.axis a.val).loadEnd = some (s.clk + 80) ∧ (t.homeDyn a.val).missTot = 0 ∧ (t.homeDyn a.val).cmdTot = 0) ∧
        ((s.axisFields a.val (val ||| 0x80000000)).enableTest a.val ≠ none → t.axisOn a.val = false) ∧
        ((s.axisFields a.val (val ||| 0x80000000)).enableTest a.val = some .cap → t.f R.AXT_STAT_CAP_BAD = 1 ∧ t.reg (R.AXT_W0 a.val) = s.reg (R.AXT_W0 a.val)) ∧
        ((s.axisFields a.val (val ||| 0x80000000)).enableTest a.val = some .lane → t.f R.AXT_STAT_LANE_BAD = 1) ∧
        ((s.axisFields a.val (val ||| 0x80000000)).enableTest a.val = some .slot → t.f R.AXT_STAT_SLOT_BAD = 1) ∧
        ((s.axisFields a.val (val ||| 0x80000000)).enableTest a.val = some .pier → t.f R.AXT_STAT_PIER_BAD = 1)) ∧
    (∀ (a : Fin 160) (val : Word) (s : State), HostOpen s →
      ∃ t, exec (.axisDisableWrite a val) s = .next t ∧ t.axisOn a.val = false ∧
        (s.axisOn a.val = true → t.axisState a.val = 0 ∧ ((s.runningOn a.val).isSome = false → t.f (R.AXT_W2_RES a.val) = 0))) ∧
    (∀ (a : Fin 160) (c : Nat) (s : State), (s.axis a.val).loadEnd = some c → c ≤ s.clk →
      ∃ t, exec (.stateLoadEnd a) s = .next t ∧ t.f (R.AXT_W2_RES a.val) = 1 ∧ (t.axis a.val).loadEnd = none ∧ t.resDyn a.val = s.homeDyn a.val))

/-! ## The local power stage -/

/-- R178, R181 to R188: period starts, mid-points, restarts and enables of a PWM module. A new PER that a mid-point finds at or below its position ends the
period there (log entry 100). -/
def Obligations.PwmModulesCount : Prop :=
  (∀ (m : Fin 12) (s : State), s.pwmOn m.val = true → (s.pwm m.val).per ≤ (s.pwm m.val).posOn s.clk → s.pwmWaits m.val = false →
    ∃ t, exec (.pwmPeriodStart m) s = .next t ∧ (t.pwm m.val).pos = 0 ∧ (t.pwm m.val).periods = (s.pwm m.val).periods + 1 ∧
      (t.pwm m.val).posAt = (s.pwm m.val).posAt + ((s.pwm m.val).per - (s.pwm m.val).pos) ∧ (t.pwm m.val).midDone = false ∧
      (s.shadowHeld m.val = false → (t.pwm m.val).per = s.perDue m.val ∧ (t.pwm m.val).cmp = pairList.map (s.shadowDue m.val)) ∧
      (s.shadowHeld m.val = true → (t.pwm m.val).per = (s.pwm m.val).per ∧ (t.pwm m.val).cmp = (s.pwm m.val).cmp) ∧
      (s.forceActs m.val = false → t.isForced m.val = false)) ∧
  (∀ (m : Fin 12) (s : State), s.pwmOn m.val = true → (s.pwm m.val).midDone = false → (s.pwm m.val).per / 2 ≤ (s.pwm m.val).posOn s.clk →
    ∃ t, exec (.pwmMidpoint m) s = .next t ∧
      ((s.f (R.PWM_CFG_UPD m.val) = 0 ∨ s.shadowHeld m.val = true) → (t.pwm m.val).midDone = true ∧ (t.pwm m.val).cmp = (s.pwm m.val).cmp ∧
        (t.pwm m.val).per = (s.pwm m.val).per ∧ (t.pwm m.val).pos = (s.pwm m.val).pos ∧ (t.pwm m.val).posAt = (s.pwm m.val).posAt) ∧
      (s.f (R.PWM_CFG_UPD m.val) = 1 → s.shadowHeld m.val = false → (t.pwm m.val).cmp = pairList.map (s.shadowDue m.val) ∧
        ((s.pwm m.val).per / 2 < s.perDue m.val → (t.pwm m.val).midDone = true ∧ (t.pwm m.val).per = min (s.pwm m.val).per (s.perDue m.val) ∧
          (t.pwm m.val).pos = (s.pwm m.val).pos ∧ (t.pwm m.val).posAt = (s.pwm m.val).posAt) ∧
        (s.perDue m.val ≤ (s.pwm m.val).per / 2 → (t.pwm m.val).pos = 0 ∧ (t.pwm m.val).per = s.perDue m.val ∧
          (t.pwm m.val).posAt = (s.pwm m.val).posAt + ((s.pwm m.val).per / 2 - (s.pwm m.val).pos)))) ∧
  (∀ (m : Fin 12) (c p : Nat) (s : State), s.syncEvent m.val = some (c, p) → s.pwmOn m.val = true → (s.pwm m.val).syncSeen < c → c ≤ s.clk →
    ∃ t, exec (.pwmSyncRestart m) s = .next t ∧ (t.pwm m.val).pos = p ∧ (t.pwm m.val).posAt = c ∧ (t.pwm m.val).syncSeen = c ∧ (t.pwm m.val).periods = 0) ∧
  (∀ (m : Fin 12) (val : Word) (s : State), HostOpen s → s.pwmOn m.val = false →
    ∃ t, exec (.pwmModuleEnable m val) s = .next t ∧
      ((s.plainWrite (R.PWM_CFG m.val) (val ||| 1)).pwmTest m.val = true → t.pwmOn m.val = true ∧ (t.pwm m.val).pos = 0 ∧ (t.pwm m.val).posAt = s.clk + 1 ∧
        (t.pwm m.val).per = s.f (R.PWM_PER_PER m.val) ∧ (t.pwm m.val).cmp = pairList.map (s.shadow m.val) ∧ t.ditherPhase m.val = 0) ∧
      ((s.plainWrite (R.PWM_CFG m.val) (val ||| 1)).pwmTest m.val = false → t.pwmOn m.val = false ∧ t.f (R.PWM_STAT_CFG_BAD m.val) = 1))

/-- R190 to R193: an active fault input latches and forces its modules; a latch clears only at the inactive level and after the rearm time; the software
force follows an accepted pair, turns outputs off 4 clk later and on again D after that, and once released lingers to the next period start. -/
def Obligations.ForcesLatchAndClear : Prop :=
  (∀ (i : Fin 8) (level : Bool) (ps : Nat) (s : State), level ≠ s.flag (R.PWM_FLT_MAP_POL i.val) → 1000 ≤ ps → (s.f R.PWM_FLT_STAT_LATCH).testBit i.val = false →
    ∃ t, exec (.pwmFaultInput i level ps) s = .next t ∧ (t.fltIn i.val).pin = level ∧ (t.f R.PWM_FLT_STAT_LATCH).testBit i.val = true ∧
      (∀ m : Fin 12, (s.f (R.PWM_FLT_MAP_MODS i.val)).testBit m.val = true → t.isForced m.val = true) ∧
      ((s.fltIn i.val).clearedAt ≠ some s.clk → Counts R.PWM_FLT_CNT_COUNT 1 s t ∧ Pends t 0x38 ∧
        (s.f R.PWM_FLT_FIRST_VALID = 0 → t.f R.PWM_FLT_FIRST_IDX = i.val ∧ t.f R.PWM_FLT_FIRST_VALID = 1))) ∧
  (∀ (m : Fin 12) (c : Nat) (s : State), (s.pwm m.val).forceOn = some c → s.pwmOn m.val = true → s.isForced m.val = true → c ≤ s.clk →
    ∃ t, exec (.faultStateTurnOn m) s = .next t ∧ (t.pwm m.val).forceOn = none ∧
      ((s.pwm m.val).forceOff ≤ s.clk → ∀ p, t.pairLevel m.val p = s.faultLevel m.val p)) ∧
  (∀ (val : Word) (s : State), HostOpen s → ∃ t, exec (.faultLatchClear val) s = .next t ∧ ∀ i : Fin 8, (s.f R.PWM_FLT_STAT_LATCH).testBit i.val = true →
    (val.getLsbD i.val = true → s.fltActive i.val = false → (s.fltIn i.val).since + s.f R.PWM_FLT_REARM_REARM ≤ s.clk →
      (t.f R.PWM_FLT_STAT_LATCH).testBit i.val = false) ∧
    (val.getLsbD i.val = true → (s.fltActive i.val = true ∨ s.clk < (s.fltIn i.val).since + s.f R.PWM_FLT_REARM_REARM) →
      (t.f R.PWM_FLT_STAT_LATCH).testBit i.val = true ∧ (t.f R.PWM_FLT_STAT_TRIP_ACTIVE).testBit i.val = true) ∧
    (val.getLsbD i.val = false → (t.f R.PWM_FLT_STAT_LATCH).testBit i.val = true)) ∧
  (∀ (v : Word) (u s : State), s.takeAccepted R.PWM_FORCE = some (v, u) →
    ∃ t, exec .pwmForce s = .next t ∧ t.pwr.soft = v.toNat % 2 ^ 12 ∧ ∀ m : Fin 12,
      (v.getLsbD m.val = true → t.isForced m.val = true ∧ (u.isForced m.val = false → (t.pwm m.val).forceOff = u.clk + 4 ∧
        (t.pwm m.val).forceOn = some (u.clk + 4 + u.deadTime m.val))) ∧
      (v.getLsbD m.val = false → u.f R.PWM_FLT_STAT_KST = 0 → u.f R.PWM_FLT_STAT_LATCH = 0 → t.forceActs m.val = false ∧
        (u.pwmOn m.val = true → (u.pwm m.val).linger = true → t.isForced m.val = true)))

/-- R197, R198: the samples of a sigma-delta channel pass its filter, of which the newest output is shown, a decimation period of samples gives their sinc3
output, and 64 equal samples in a row and a lost clock are errors. R204 to R210: a lane's enable, its evaluation (compare values stay
within the period and are written 120 clk after the reload instant), and that write. -/
def Obligations.SigmaDeltaInputsAndLanes : Prop :=
  ((∀ (c : Fin 48) (bits : List Bool) (r : SdmFilter × Option Word) (s : State), s.sdmOn c.val = true →
      r = (s.sdmTaken c.val bits).foldl (SdmFilter.sample (s.sdmOsr c.val)) (s.sdm c.val, none) →
      ∃ t, exec (.sdmFilterOutput c bits) s = .next t ∧ exec (.sdmStuck ⟨c, bits⟩) s = .next t ∧
        t.sdm c.val = { r.1 with hit := false, at_ := if s.sdmTaken c.val bits = [] then r.1.at_ else s.clk } ∧
        t.reg (R.SDM_DATA c.val) = r.2.getD (s.reg (R.SDM_DATA c.val)) ∧
        (r.1.hit = true → t.f (R.SDM_STAT_STUCK c.val) = 1 ∧ (s.f (R.SDM_STAT_STUCK c.val) = 0 → Pends t 0x3B)) ∧
        (r.1.hit = false → t.f (R.SDM_STAT_STUCK c.val) = s.f (R.SDM_STAT_STUCK c.val))) ∧
    (∀ (c : Fin 48) (bits : List Bool) (s : State), s.sdmOn c.val = true → s.sdmExternal c.val = true → (s.sdm c.val).count = 0 → (s.sdm c.val).cuts = [] →
      bits.length = s.sdmOsr c.val →
      ∃ t, exec (.sdmFilterOutput c bits) s = .next t ∧ t.reg (R.SDM_DATA c.val) = ((bits.foldl SdmFilter.bit (s.sdm c.val)).comb).2) ∧
    (∀ (c : Fin 48) (b : Bool) (s : State), s.sdmOn c.val = true → s.sdmExternal c.val = true → ((s.sdm c.val).last ≠ some b ∨ (s.sdm c.val).same = 0) →
      ∃ t, exec (.sdmStuck ⟨c, List.replicate 64 b⟩) s = .next t ∧ t.f (R.SDM_STAT_STUCK c.val) = 1 ∧ (s.f (R.SDM_STAT_STUCK c.val) = 0 → Pends t 0x3B)) ∧
    (∀ (c : Fin 48) (s : State), s.sdmOn c.val = true → s.f (R.SDM_CLK_MODE (c.val / 12)) = 1 → (s.sdm c.val).at_ + 1024 < s.clk →
      s.f (R.SDM_STAT_CLK_LOSS c.val) = 0 →
      ∃ t, exec (.sdmClockLoss c) s = .next t ∧ t.f (R.SDM_STAT_CLK_LOSS c.val) = 1 ∧ Pends t 0x3B)) ∧
  ((∀ (l : Fin 16) (val : Word) (s : State), HostOpen s → s.f (R.CLN_CFG_EN l.val) = 0 →
      ∃ t, exec (.laneEnable l val) s = .next t ∧
        (((s.plainWrite (R.CLN_CFG l.val) (val ||| 1)).clr (R.CLN_CFG_EN l.val)).laneTest l.val = true → t.f (R.CLN_CFG_EN l.val) = 1 ∧
          t.f (R.CLN_STAT_RUN l.val) = (if t.f (R.CLN_CFG_MODE l.val) = 2 then 0 else 1)) ∧
        (((s.plainWrite (R.CLN_CFG l.val) (val ||| 1)).clr (R.CLN_CFG_EN l.val)).laneTest l.val = false → t.f (R.CLN_CFG_EN l.val) = 0 ∧
          t.f (R.CLN_STAT_ENA_BAD l.val) = 1)) ∧
    (∀ (l : Fin 16) (r : Nat) (s : State), s.laneInstant l.val = some r →
      ∃ t ws, exec (.laneEvaluation l) s = .next t ∧ (t.lane l.val).lastEval = r ∧ (t.lane l.val).wr = some (r + 120, ws) ∧
        ws.length = (if s.f (R.CLN_CFG_MODE l.val) = 0 then 3 else 4) ∧ (∀ w ∈ ws, w ≤ 16 * (s.pwm (s.laneModule l.val)).per) ∧
        t.f (R.CLN_STAT_SRC_ERR l.val) = (if s.laneSrcBad l.val then 1 else 0) ∧ (s.laneSrcBad l.val = true → (t.lane l.val).off = true)) ∧
    (∀ (l : Fin 16) (c : Nat) (ws : List Nat) (s : State), (s.lane l.val).wr = some (c, ws) → c ≤ s.clk →
      (s.lanePairs l.val).Nodup → (∀ p ∈ s.lanePairs l.val, p < 48) →
      ∃ t, exec (.laneCompareWrite l) s = .next t ∧ (t.lane l.val).wr = none ∧
        ∀ k p w : Nat, (s.lanePairs l.val)[k]? = some p → ws[k]? = some w → t.shadow (p / 4) (p % 4) = w % 2 ^ 22))

/-- R199 to R202: what an encoder interface does with an edge that passes its glitch filter, a transfer, an index or reference edge, and an enable. Which
direction counts up is the model's choice (log entry 44), and so is the grid that transfers start on while a bc is longer or shorter than N (log entry 103). -/
def Obligations.EncodersFollowTheirInputs : Prop :=
  (∀ (e : Fin 16) (pinA pinB a b : Bool) (stoodA stoodB : Nat) (s : State), s.f (R.ENC_CFG_EN e.val) = 1 → s.f (R.ENC_CFG_MODE e.val) = 0 →
    a = (if s.f (R.ENC_CFG_FILT e.val) ≤ stoodA then pinA else (s.enc e.val).a) →
    b = (if s.f (R.ENC_CFG_FILT e.val) ≤ stoodB then pinB else (s.enc e.val).b) →
    ∃ t, exec (.encoderEdge e ⟨pinA, stoodA⟩ ⟨pinB, stoodB⟩) s = .next t ∧ (t.enc e.val).a = a ∧ (t.enc e.val).b = b ∧
      (((quadPhase a b + 4 - quadPhase (s.enc e.val).a (s.enc e.val).b) % 4 = 0) → t.reg (R.ENC_POS e.val) = s.reg (R.ENC_POS e.val)) ∧
      (((quadPhase a b + 4 - quadPhase (s.enc e.val).a (s.enc e.val).b) % 4 = 1) →
        t.reg (R.ENC_POS e.val) = s.reg (R.ENC_POS e.val) + (if s.f (R.ENC_CFG_INV e.val) = 1 then -1 else 1)) ∧
      (((quadPhase a b + 4 - quadPhase (s.enc e.val).a (s.enc e.val).b) % 4 = 3) →
        t.reg (R.ENC_POS e.val) = s.reg (R.ENC_POS e.val) + (if s.f (R.ENC_CFG_INV e.val) = 1 then 1 else -1)) ∧
      (((quadPhase a b + 4 - quadPhase (s.enc e.val).a (s.enc e.val).b) % 4 = 2) → t.reg (R.ENC_POS e.val) = s.reg (R.ENC_POS e.val) ∧
        t.f (R.ENC_STAT_ERR_AB e.val) = 1 ∧ Counts (R.ENC_ERRCNT_COUNT e.val) 1 s t ∧ (t.enc e.val).errWin = true ∧ Pends t 0x3A)) ∧
  (∀ (e : Fin 16) (s : State), s.encSerial e.val = true → s.f (R.ENC_SPER_SPER e.val) ≠ 0 → (s.enc e.val).xfer = none →
    (s.enc e.val).lastStart + s.f (R.ENC_SPER_SPER e.val) / 2 < s.serialInstant e.val →
    ∃ t, exec (.serialTransferStart e) s = .next t ∧ (t.enc e.val).xfer = some (s.serialInstant e.val) ∧ (t.enc e.val).lastStart = s.serialInstant e.val) ∧
  (∀ (e : Fin 16) (rx : SerialRx) (c : Nat) (s : State), (s.enc e.val).xfer = some c →
    ∃ t, exec (.serialTransferEnd e rx) s = .next t ∧ (t.enc e.val).xfer = none ∧
      (s.serialOk e.val rx = true → t.reg (R.ENC_POS e.val) = s.serialPos e.val rx.data ∧ (t.enc e.val).newest = some (s.serialPos e.val rx.data, c) ∧
        (t.enc e.val).hist.head? = some (c, some (s.serialPos e.val rx.data)) ∧
        (t.enc e.val).older = (s.enc e.val).newest ∧ (t.enc e.val).bad = false) ∧
      (s.serialOk e.val rx = false → t.reg (R.ENC_POS e.val) = s.reg (R.ENC_POS e.val) ∧ t.f (R.ENC_STAT_ERR_SER e.val) = 1 ∧
        Counts (R.ENC_ERRCNT_COUNT e.val) 1 s t ∧ (t.enc e.val).bad = true ∧ (t.enc e.val).hist.head? = some (c, none) ∧ Pends t 0x3A)) ∧
  (∀ (e : Fin 16) (src : LatchSrc) (level : Bool) (s : State), s.f (R.ENC_CFG_EN e.val) = 1 →
    ∃ t, exec (.encoderLatchEdge e src level) s = .next t ∧
      ((s.enc e.val).lreq = latchCode src → s.f (R.ENC_STAT_LVAL e.val) = 0 → s.edgeActive e.val src level = true →
        t.reg (R.ENC_LPOS e.val) = s.encPos e.val s.clk ∧ t.f (R.ENC_STAT_LVAL e.val) = 1) ∧
      (((s.enc e.val).lreq ≠ latchCode src ∨ s.f (R.ENC_STAT_LVAL e.val) = 1 ∨ s.edgeActive e.val src level = false) →
        t.reg (R.ENC_LPOS e.val) = s.reg (R.ENC_LPOS e.val) ∧ t.f (R.ENC_STAT_LVAL e.val) = s.f (R.ENC_STAT_LVAL e.val))) ∧
  (∀ (e : Fin 16) (val : Word) (s : State), HostOpen s → s.f (R.ENC_CFG_EN e.val) = 0 →
    ∃ t, exec (.encoderEnable e val) s = .next t ∧
      ((s.plainWrite (R.ENC_CFG e.val) (val ||| 1)).encTest e.val = true → t.f (R.ENC_CFG_EN e.val) = 1 ∧ (t.enc e.val).xfer = none) ∧
      ((s.plainWrite (R.ENC_CFG e.val) (val ||| 1)).encTest e.val = false → t.f (R.ENC_CFG_EN e.val) = 0 ∧ t.f (R.ENC_STAT_CFG_BAD e.val) = 1))

/-- R211 to R213, R303: a step channel's enable, its plan at t0, its pulses, and a conversion of the ADC. That STP_POS shows the count of emitted steps,
which a pulse assumes, an enable makes true and a pulse keeps true. -/
def Obligations.StepsAndConversions : Prop :=
  (∀ (c : Fin 32) (val : Word) (s : State), HostOpen s → s.f (R.STP_CFG_EN c.val) = 0 →
    ∃ t, exec (.stepEnable c val) s = .next t ∧ t.f (R.STP_CFG_EN c.val) = 1 ∧ t.f (R.STP_STAT_RUN c.val) = 1 ∧ t.reg (R.STP_POS c.val) = 0 ∧
      (t.stp c.val).x0 = t.stpStart c.val ∧ t.stpCount c.val = 0 ∧ (t.stp c.val).plan = none) ∧
  (∀ (c : Fin 32) (d : Int) (s : State), s.f (R.STP_STAT_RUN c.val) = 1 → (s.stp c.val).planned < s.cyc.t0 → d = s.stpTarget c.val - s.stpCount c.val →
    ∃ t, exec (.stepPlan c) s = .next t ∧ t.reg (R.STP_LAG c.val) = BitVec.ofInt 32 d ∧ (t.stp c.val).planned = s.cyc.t0 ∧
      (s.f (R.STP_LAGMAX_LAGMAX c.val) ≠ 0 → s.f (R.STP_LAGMAX_LAGMAX c.val) < d.natAbs →
        t.f (R.STP_STAT_RUN c.val) = 0 ∧ t.f (R.STP_STAT_LAG c.val) = 1 ∧ (t.stp c.val).plan = none ∧ Pends t 0x3C) ∧
      ((s.f (R.STP_LAGMAX_LAGMAX c.val) = 0 ∨ d.natAbs ≤ s.f (R.STP_LAGMAX_LAGMAX c.val)) → ∃ q, (t.stp c.val).plan = some q ∧
        q.n = min d.natAbs (s.nBc / max 80 (s.f (R.STP_TIM_MINPER c.val))) ∧ q.made = 0 ∧ (q.neg = true ↔ d < 0) ∧
        (q.n < d.natAbs → t.f (R.STP_STAT_CLIP c.val) = 1 ∧ Pends t 0x10))) ∧
  (∀ (c : Fin 32) (s : State),
    (∀ e, (s.stp c.val).pulseEnd = some e → e ≤ s.clk → ∃ t, exec (.stepPulse c) s = .next t ∧ (t.stp c.val).pulseEnd = none ∧ t.reg (R.STP_POS c.val) = s.reg (R.STP_POS c.val)) ∧
    (∀ at_ neg, (s.stp c.val).pulseEnd = none → (s.stp c.val).dirDue = some (at_, neg) → at_ ≤ s.clk →
      ∃ t, exec (.stepPulse c) s = .next t ∧ (t.stp c.val).dir = neg ∧ (t.stp c.val).dirDue = none) ∧
    (∀ at_ p, (s.stp c.val).pulseEnd = none → (s.stp c.val).dirDue = none → (s.stp c.val).plan = some p → s.nextStep (s.stp c.val) = some at_ → at_ ≤ s.clk →
      s.reg (R.STP_POS c.val) = BitVec.ofInt 32 (s.stpCount c.val) →
      ∃ t, exec (.stepPulse c) s = .next t ∧ t.reg (R.STP_POS c.val) = s.reg (R.STP_POS c.val) + (if p.neg then -1 else 1) ∧
        t.stpCount c.val = s.stpCount c.val + (if p.neg then -1 else 1) ∧
        (t.stp c.val).pulseEnd = some (at_ + max 4 (s.f (R.STP_TIM_WIDTH c.val))) ∧ (t.stp c.val).plan = some { p with made := p.made + 1 })) ∧
  (∀ (code : BitVec 16) (s : State), s.acq.adcAt ≤ s.clk →
    ∃ t, exec (.adcConversion code) s = .next t ∧ t.acq.adcSlot = (s.acq.adcSlot + 1) % 16 ∧ t.acq.adcAt = s.clk + 400 ∧
      ∀ ch, s.adcChannel s.acq.adcSlot = some ch → t.f (R.ADC_DATA_CODE ch) = code.toNat ∧
        t.f (R.ADC_DATA_CNT ch) = (s.f (R.ADC_DATA_CNT ch) + 1) % 2 ^ (R.ADC_DATA_CNT ch).width)

/-! ## Acquisition -/

/-- R279, R280, R285 to R289, R292: arming, stopping, the software trigger, a tick, which takes its place off the grid and begins the read of the Deck
channels, a tick without Deck channels that triggers an armed session, the end of the drain, and the enable of a trigger unit. -/
def Obligations.CaptureSessionsRun : Prop :=
  (∀ (val : Word) (s : State), HostOpen s → val &&& 7 = 1 → s.acqRuns = false →
    ∃ t, exec (.arm val) s = .next t ∧
      (s.armOk = false → t.f R.ACQ_STAT_ARM_BAD = 1 ∧ t.f R.ACQ_STAT_STATE = s.f R.ACQ_STAT_STATE ∧ t.acq = s.acq) ∧
      (s.armOk = true → t.f R.ACQ_STAT_STATE = 1 ∧ t.f R.ACQ_STAT_SEG = 0 ∧ t.f R.ACQ_STAT_SH = 0 ∧ t.f R.ACQ_STAT_STOPC = 0 ∧ t.reg R.ACQ_BLK = 0 ∧
        t.acq.count = 0 ∧ t.acq.chans = channels.filter (fun c => s.chKind c != 0) ∧ t.acq.pre = s.f R.ACQ_PRE_PRE ∧ t.acq.post = s.f R.ACQ_POST_POST)) ∧
  (∀ (val : Word) (s : State), HostOpen s → val &&& 7 = 2 → s.acqRuns = true →
    ∃ t, exec (.stop val) s = .next t ∧ t.f R.ACQ_STAT_STATE = 5 ∧ t.f R.ACQ_STAT_STOPC = 2 ∧ t.acq.fifo = [] ∧ Pends t 0x51) ∧
  (∀ (val : Word) (s : State), HostOpen s → val &&& 7 = 4 → s.acqRuns = true →
    ∃ t p, exec (.swtrig val) s = .next t ∧ t.f R.ACQ_CTL_SWTRIG = 1 ∧ t.acq.pend = some p ∧ p.soft = true ∧
      (s.acq.pend = none → p.time = s.nt ∧ p.units = 0)) ∧
  (∀ (c : Nat) (s : State), s.tickDue = true → firstTick s.acq.runs = some c → ∃ t, exec .acqTick s = .next t ∧
    t.acq.runs = tookTick c s.acq.runs ∧ t.acq.count = s.acq.count + 1 ∧
    (s.acqRuns = false → t.f R.ACQ_STAT_STATE = s.f R.ACQ_STAT_STATE ∧ t.reg R.ACQ_BLK = s.reg R.ACQ_BLK) ∧
    (channels.filter (fun k => deckKind (s.chSrc k).kind && (s.chSrc k).ok) ≠ [] → ∃ x, t.acq.shot = some x ∧ x.nt = s.nt ∧ x.tick = s.acq.count ∧
      x.chn = chn64 s.chnLive ∧ x.reads = channels.filter (fun k => deckKind (s.chSrc k).kind && (s.chSrc k).ok)) ∧
    (∀ p, channels.filter (fun k => deckKind (s.chSrc k).kind && (s.chSrc k).ok) = [] → s.acq.shot = none →
      s.f R.ACQ_STAT_STATE = 2 → s.acq.draining = false → s.acq.nextSeg = false → s.acq.fifo = [] → s.acq.ddrQ = [] → blockSize s.acq.chans.length ≤ 262144 → s.acq.seg.post < s.acq.post →
      (∀ m : Fin 8, s.f (R.ACQ_MK_CFG_EN m.val) = 0) → s.acq.pend = some p → (p.soft = true ∨ p.units ≠ 0) →
      t.f R.ACQ_STAT_STATE = 3 ∧ t.acq.seg.trig.isSome = true ∧ t.acq.pend = none ∧ t.acq.fifo.length = 1 ∧
        t.f R.ACQ_BLK_COUNT = (s.f R.ACQ_BLK_COUNT + 1) % 2 ^ (R.ACQ_BLK_COUNT).width)) ∧
  (∀ s : State, s.acq.draining = true →
    ∃ t, exec .captureDrainEnd s = .next t ∧ t.f R.ACQ_STAT_STATE = 4 ∧ t.acq.fifo = [] ∧ t.acq.draining = false ∧ Pends t 0x50) ∧
  (∀ (u : Fin 16) (val : Word) (s : State), HostOpen s → val.getLsbD 0 = true →
    ∃ t, exec (.triggerUnitEnable u val) s = .next t ∧
      ((5 ≤ bitsOf val.toNat 1 3 ∨ fLt (s.reg (R.TRG_HI u.val)) (s.reg (R.TRG_LO u.val)) = true) →
        t.f (R.TRG_CFG_EN u.val) = 0 ∧ (t.f R.TRG_STAT_CFG_BAD).testBit u.val = true) ∧
      (bitsOf val.toNat 1 3 ≤ 4 → fLt (s.reg (R.TRG_HI u.val)) (s.reg (R.TRG_LO u.val)) = false → t.f (R.TRG_CFG_EN u.val) = 1 ∧
        (s.f (R.TRG_CFG_EN u.val) = 0 → t.unit u.val = { TrigUnit.idle with from_ := ntFix s.nt })))

/-- R298, R299, R302: a gate that closes, its result 8 clk later, and the errors and the training of capture memory. -/
def Obligations.MarksAndCaptureMemory : Prop :=
  (∀ (k : Fin 16) (c : Nat) (s : State), (s.mark k.val).closeAt = some c →
    ∃ t, exec (.registerMarkGateClose k) s = .next t ∧ (t.mark k.val).closeAt = none ∧
      t.f (R.ACQ_RM_STAT_MULTI k.val) = (if 1 < (s.mark k.val).edges then 1 else 0) ∧
      ((s.mark k.val).edges = 0 → t.f (R.ACQ_RM_STAT_MISS k.val) = 1 ∧ Counts (R.ACQ_RM_STAT_MISS_CNT k.val) 1 s t ∧
        (t.mark k.val).results = (s.mark k.val).results ++ [(c + 8, none)]) ∧
      (1 ≤ (s.mark k.val).edges → t.f (R.ACQ_RM_STAT_MISS k.val) = 0 ∧
        t.f (R.ACQ_RM_STAT_MARKS k.val) = (s.f (R.ACQ_RM_STAT_MARKS k.val) + 1) % 2 ^ (R.ACQ_RM_STAT_MARKS k.val).width ∧
        (t.mark k.val).results = (s.mark k.val).results ++ [(c + 8, some ((s.mark k.val).first - s.reg (R.ACQ_RM_EXP k.val)))])) ∧
  (∀ (k : Fin 16) (c : Nat) (err : Option Word) (more : List (Nat × Option Word)) (s : State), (s.mark k.val).results = (c, err) :: more → c ≤ s.clk →
    ∃ t, exec (.registerMarkResult k) s = .next t ∧ (t.mark k.val).results = more ∧ t.reg (R.ACQ_RM_ERR k.val) = err.getD (s.reg (R.ACQ_RM_ERR k.val)) ∧
      Pends t 0x55) ∧
  (∀ (addr : Nat) (s : State), ∃ t, exec (.ddrUncorrectableError addr) s = .next t ∧ t.f R.DDR_STAT_UE = 1 ∧ Counts R.DDR_UE_CNT_COUNT 1 s t ∧
    addr / 32 ∈ t.acq.ueAt ∧ Pends t 0x56 ∧ (s.f R.DDR_UE_ADDR_VALID = 0 → t.f R.DDR_UE_ADDR_VALID = 1 ∧
      t.f R.DDR_UE_ADDR_ADDR = addr / 32 % 2 ^ (R.DDR_UE_ADDR_ADDR).width) ∧
    (s.acqRuns = true → t.f R.ACQ_STAT_STATE = 5 ∧ t.f R.ACQ_STAT_STOPC = 5 ∧ t.acq.fifo = [] ∧ Pends t 0x51)) ∧
  (∀ s : State, ∃ t, exec .ddrTrainingLoss s = .next t ∧ t.f R.DDR_STAT_LOST = 1 ∧ t.f R.DDR_STAT_TRAINED = 0 ∧ Pends t 0x56 ∧
    (s.acqRuns = true → t.f R.ACQ_STAT_STATE = 5 ∧ t.f R.ACQ_STAT_STOPC = 5 ∧ t.acq.fifo = [])) ∧
  (∀ (val : Word) (s : State), HostOpen s → val.getLsbD 0 = true →
    ∃ t, exec (.train val) s = .next t ∧ (s.acqRuns = false → t.f R.DDR_CTL_TRAIN = 1) ∧ (s.acqRuns = true → t.f R.DDR_CTL_TRAIN = s.f R.DDR_CTL_TRAIN)) ∧
  (∀ (ok : Bool) (s : State), s.f R.DDR_CTL_TRAIN = 1 →
    ∃ t, exec (.ddrTrainingDone ok) s = .next t ∧ t.f R.DDR_CTL_TRAIN = 0 ∧ t.acq = s.acq ∧
      (ok = true → s.f R.DDR_CFG_RATE ≠ 3 → s.pllLocked 1 = true → t.f R.DDR_STAT_TRAINED = 1) ∧
      ((ok = false ∨ s.f R.DDR_CFG_RATE = 3 ∨ s.pllLocked 1 = false) → t.f R.DDR_STAT_TRAINED = 0 ∧ t.f R.DDR_STAT_TFAIL = 1))

/-! ## Keystone -/

/-- R309 to R317: what a safety cycle publishes: outside RUN every zone is in STO and every output off; in RUN the zones of every function whose demand
holds STO in either core are in STO. A core that is held, or in FAULT, does nothing. R29, R311: what takes Keystone to FAULT, with its cause; and the
loss of KREF, which stops the cores without a change of state. -/
def Obligations.SafetyCyclesAndFaults : Prop :=
  ((∀ (smp : SafetySample) (s : State), s.kst.cycleAt ≤ s.kst.k0.now → ∃ t, exec (.safetyCycle smp) s = .next t ∧ t.kst.cycleAt = s.kst.k0.now + 20000 ∧
      ((s.kstHeld = true ∨ s.kstState = 5) → t.kst = { s.kst with cycleAt := s.kst.k0.now + 20000 } ∧ t.reg R.KST_ZONE = s.reg R.KST_ZONE) ∧
      (s.kstHeld = false → s.kstState ≠ 1 → s.kstState ≠ 5 → (s.kst.k0.ackOp && s.kst.k1.ackOp) = false →
        t.f R.KST_ZONE_STO = 0xFFFF ∧ t.f R.KST_OUT_ON = 0 ∧ t.f R.KST_STAT_FORCE = 1) ∧
      (s.kstHeld = false → s.kstState = 1 → ∀ f < 16, fnType s.kst.img f ≠ 0 → ((s.kst.k0.fn f).sto = true ∨ (s.kst.k1.fn f).sto = true) →
        fnZones s.kst.img f &&& t.f R.KST_ZONE_STO = fnZones s.kst.img f))) ∧
  ((∀ (rail : Rail) (s : State), s.kstHeld = false → s.kstState ≠ 5 →
      ∃ t, exec (.supplyMonitorFault rail) s = .next t ∧ t.f R.KST_STAT_STATE = 5 ∧ t.f R.KST_STAT_FCAUSE = (match rail with | .vdd08 => 3 | .vdd33 => 4) ∧
        t.f R.KST_ZONE_STO = 0xFFFF ∧ t.f R.KST_OUT_ON = 0 ∧ t.f R.KST_STAT_FORCE = 1 ∧ t.ring.safeTx = [] ∧ Pends t 0x62) ∧
    (∀ (ok : Bool) (s : State), s.kstAlive = true → s.kst.testAt + 1000 * s.kst.k0.per ≤ s.kst.k0.now →
      ∃ t, exec (.keystoneSelfTest ok) s = .next t ∧ t.kst.testAt = s.kst.k0.now ∧ (ok = true → t.f R.KST_STAT_STATE = s.f R.KST_STAT_STATE) ∧
        (ok = false → t.f R.KST_STAT_STATE = 5 ∧ t.f R.KST_STAT_FCAUSE = 2 ∧ t.f R.KST_ZONE_STO = 0xFFFF ∧ t.f R.KST_OUT_ON = 0)) ∧
    (∀ s : State, ∃ t, exec .sysclkLoss s = .next t ∧ t.sysLost = true ∧
      (s.kstAlive = true → t.f R.KST_STAT_STATE = 5 ∧ t.f R.KST_STAT_FCAUSE = 5 ∧ t.f R.KST_ZONE_STO = 0xFFFF ∧ t.f R.KST_STAT_FORCE = 1)) ∧
    (∀ s : State, s.krefLost = false →
      ∃ t, exec .krefLoss s = .next t ∧ t.krefLost = true ∧ t.f R.KST_OUT_ON = 0 ∧ t.f R.KST_STAT_STATE = s.f R.KST_STAT_STATE ∧
        t.f R.KST_ZONE_STO = s.f R.KST_ZONE_STO ∧ Pends t 0x65))

/-- R315, R320, R321: the timers of inputs and functions, in each core. R325, R326, R328: the containers built for the next bc, and a station from which
no valid copy has come for W bc. -/
def Obligations.KeystoneTimersAndFlow : Prop :=
  ((∀ (n : Fin 16) (s : State), s.kstAlive = true → ∃ t, exec (.discrepancyTimeout n) s = .next t ∧
      (∀ d, (s.kst.k0.inp n.val).st ≠ .fault → (s.kst.k0.inp n.val).discAt = some d → d + inTd s.kst.img n.val * s.kst.k0.per < s.kst.k0.now →
        (t.kst.k0.inp n.val).st = .fault ∧ Counts R.KST_IFLT_CNT_COUNT 1 s t) ∧
      (∀ d, (s.kst.k1.inp n.val).st ≠ .fault → (s.kst.k1.inp n.val).discAt = some d → d + inTd s.kst.img n.val * s.kst.k1.per < s.kst.k1.now →
        (t.kst.k1.inp n.val).st = .fault ∧ Counts R.KST_IFLT_CNT_COUNT 1 s t)) ∧
    (∀ (f : Fin 16) (s : State), s.kstAlive = true → ∃ t, exec (.cat1TimerExpiry f) s = .next t ∧
      (∀ e, (s.kst.k0.fn f.val).t1 = some e → e ≤ s.kst.k0.now → (t.kst.k0.fn f.val).t1 = none ∧ (t.kst.k0.fn f.val).sto = true) ∧
      (∀ e, (s.kst.k1.fn f.val).t1 = some e → e ≤ s.kst.k1.now → (t.kst.k1.fn f.val).t1 = none ∧ (t.kst.k1.fn f.val).sto = true)) ∧
    (∀ (f : Fin 16) (s : State), s.kstAlive = true → s.kstState = 1 → fnType s.kst.img f.val = 2 → ∃ t, exec (.unlockDelayExpiry f) s = .next t ∧
      ((s.kst.k0.fn f.val).req = true → (s.kst.k0.fn f.val).sto = true →
        (∀ z < 16, (fnZones s.kst.img f.val).testBit z = true →
          ∃ c, tabGet (fun _ => none) s.kst.k0.stoAt z = some c ∧ c + fnTUnlock s.kst.img f.val * s.kst.k0.per ≤ s.kst.k0.now) →
        (t.kst.k0.fn f.val).lock = true ∧ (t.kst.k0.fn f.val).req = false) ∧
      (((s.kst.k0.fn f.val).req = false ∨ (s.kst.k0.fn f.val).sto = false) → t.kst.k0 = s.kst.k0)) ∧
    (∀ (f : Fin 16) (c : Nat) (s : State), s.kstAlive = true → fnType s.kst.img f.val = 2 → s.kst.k0.inRun (fnIn2 s.kst.img f.val) = false →
      (s.kst.k0.fn f.val).wait = some c → c ≤ s.kst.k0.now →
      ∃ t, exec (.lockMonitorTimeout f) s = .next t ∧ (t.kst.k0.inp (fnIn2 s.kst.img f.val)).st = .fault ∧ (t.kst.k0.fn f.val).wait = none)) ∧
  ((∀ s : State, s.kstAlive = true → s.kst.builtBc ≠ some s.cyc.bcIdx →
      ∃ t, exec .containerBuild s = .next t ∧ t.kst.builtBc = some s.cyc.bcIdx ∧ t.kst.rateDiff = (s.kst.hasImg && imgRate s.kst.img != s.cyc.rate) ∧
        (s.kst.hasImg = true → s.spanRuns = true →
          t.ring.safeTx.head? = some (s.cyc.bcIdx + 1, s.ring.set_.map (fun n => s.containerOf s.kst.k0 (crcInit 0) (s.cyc.bcIdx + 1) n),
            s.ring.set_.map (fun n => s.containerOf s.kst.k1 (crcInit 1) (s.cyc.bcIdx + 1) n)) ∧
          ∀ x ∈ t.ring.safeTx.head?, ∀ c ∈ x.2.1 ++ x.2.2, c.length = 16)) ∧
    (∀ s : State, s.kstAlive = true → s.kst.hasImg = true → s.spanRuns = true → s.ring.live = true → (∀ m ∈ s.ring.set_, m < 256) →
      ∃ t, exec .upstreamContainerCheck s = .next t ∧ t.ring.safeRx = [] ∧
        ∀ n b, n ∈ s.ring.set_ → (∀ x ∈ s.ring.safeRx, x.stn ≠ n) → (s.watch n).lastOk = some b →
          (imgW s.kst.img : Int) ≤ s.bcAgo b → t.getMap R.KST_STN_LOST_MAP n = true))

/-- R312, R332 to R336: Falsework and the boot: which image runs, and when. Entering Falsework leaves the zones as they are until the cycle ends. -/
def Obligations.ImagesAreConfirmed : Prop :=
  (∀ u s : State, s.takeRequest 1 = some u → s.kstHeld = false → s.kstState = 1 →
    ∃ t, exec .falseworkEnter s = .next t ∧ t.f R.KST_STAT_STATE = 2 ∧ t.kst.fwEnd = s.kst.k0.now + 60000 * s.kst.k0.per ∧
      t.f R.KST_FW_STAT_RES = 0 ∧ t.f R.KST_ZONE_STO = s.f R.KST_ZONE_STO ∧ t.kst.cycleAt = s.kst.cycleAt ∧ Pends t 0x64) ∧
  (∀ u s : State, s.takeRequest 2 = some u → s.kstHeld = false → s.kstState ≠ 1 → s.kstState ≠ 5 →
    ∃ t, exec .falseworkAbort s = .next t ∧
      (s.kst.hasImg = true → t.f R.KST_STAT_STATE = 1 ∧ t.kst.img = s.kst.img ∧ ∀ f, t.kst.k0.fn f = SafeFunc.waiting ∧ t.kst.k1.fn f = SafeFunc.waiting) ∧
      (s.kst.hasImg = false → t.f R.KST_STAT_STATE = 0)) ∧
  (∀ u s : State, s.takeRequest 3 = some u → s.kstHeld = false → (s.kstState = 0 ∨ s.kstState = 3) →
    ∃ t, exec .falseworkValidate s = .next t ∧
      (imgValidate s.winImage ≠ 0 → t.f R.KST_STAT_STATE = s.f R.KST_STAT_STATE ∧ t.f R.KST_FW_STAT_RES = imgValidate s.winImage) ∧
      (imgValidate s.winImage = 0 → t.f R.KST_STAT_STATE = 4 ∧ t.reg R.KST_PCV_NEW = imgCheck s.winImage ∧ t.f R.KST_FW_STAT_RES = 0 ∧
        t.kst.fwEnd = s.kst.k0.now + 300000 * s.kst.k0.per)) ∧
  (∀ s : State, s.kstHeld = false → 2 ≤ s.kstState → s.kstState ≤ 4 → s.kst.fwEnd ≤ s.kst.k0.now →
    ∃ t, exec .falseworkTimeout s = .next t ∧ t.f R.KST_FW_STAT_RES = 7 ∧ t.f R.KST_STAT_STATE = (if s.kst.hasImg then 1 else 0)) ∧
  (∀ (off : Nat) (val : Word) (s : State), HostOpen s → off < 4096 → off % 4 = 0 →
    ∃ t, exec (.kstPwinWrite off val) s = .next t ∧
      ((s.kstState = 0 ∨ s.kstState = 3) → t.reg (R.KST_PWIN (off / 4)) = val ∧ t.kst.winSet = true) ∧
      (s.kstState ≠ 0 → s.kstState ≠ 3 → t.reg (R.KST_PWIN (off / 4)) = s.reg (R.KST_PWIN (off / 4)) ∧ Counts R.KST_WIGN_CNT_COUNT 1 s t)) ∧
  (∀ s : State, s.kstHeld = false → s.kstState = 0 →
    ∃ t, exec .keystoneBootValidate s = .next t ∧
      (s.kst.conf = none → t.f R.KST_STAT_CONF_EMPTY = 1 ∧ t.f R.KST_STAT_STATE = 0) ∧
      (∀ v, s.kst.conf = some v → (s.kst.winSet = false ∨ imgValidate s.winImage ≠ 0 ∨ imgCheck s.winImage ≠ v) →
        t.f R.KST_STAT_PCV_BAD = 1 ∧ t.f R.KST_STAT_STATE = 0) ∧
      (∀ v, s.kst.conf = some v → s.kst.winSet = true → imgValidate s.winImage = 0 → imgCheck s.winImage = v →
        t.f R.KST_STAT_STATE = 1 ∧ t.kst.img = s.winImage ∧ t.kst.hasImg = true ∧ t.reg R.KST_PCV = v))

/-! ## Twin operation -/

/-- R344 to R347, R350, R356 to R358: heartbeats, the lease deadline and the takeover, the loss of the partner, a yield, the comparison of copies, and the
PAIR link. -/
def Obligations.TheLeaseIsKeptAndTaken : Prop :=
  (∀ (bs : List Byte) (info : PartnerInfo) (s : State), s.twin = true → s.twn.linkUp = true →
    ∃ t, exec (.pairHeartbeatReceive (.pair bs info)) s = .next t ∧ (pairCrcOk bs = false → Counts R.TWN_PAIR_ERR_COUNT 1 s t ∧ t.twn = s.twn) ∧
      (∀ h, pairCrcOk bs = true → parseHb bs = some h → t.twn.hb = some h ∧ t.f R.TWN_STAT_PAIR_UP = 1 ∧ t.f R.TWN_PARTNER_PRIO = h.prio % 2 ^ 8 ∧
        t.f R.TWN_PARTNER_ROLE = h.role % 2 ^ 3 ∧ t.f R.TWN_PARTNER_READY = (if h.ready then 1 else 0) ∧ t.reg R.TWN_PDIGEST = h.digest ∧
        (s.role = 2 → s.twn.pairAt = none → h.holder = true → h.epoch = s.f R.TWN_EPOCH_EPOCH →
          t.twn.seg = some (h.bc + 1, h.seg) ∧ t.f R.TWN_EPOCH_LEXP = h.lexp % 2 ^ 16))) ∧
  (∀ (port : Fin 6) (fr : RxFrame) (s : State), s.twin = true → hcrcOk fr.bytes = true → fcsOk fr.bytes = true →
    s.isRingHb port.val (parseHeader fr.bytes) = true →
    ∃ t, exec (.pairHeartbeatReceive (.ring port fr)) s = .next t ∧ t.f R.TWN_STAT_RB_UP = 1 ∧ t.twn.ringBc = some s.cyc.bcIdx) ∧
  (∀ s : State, s.twin = true → s.role = 2 → s.leaseOver = true →
    ∃ t, exec .leaseDeadline s = .next t ∧ t.f R.TWN_EPOCH_EPOCH = (s.f R.TWN_EPOCH_EPOCH + 1) % 2 ^ 16 ∧ Counts R.TWN_TAKE_CNT_COUNT 1 s t ∧ Pends t 0x70 ∧
      t.role = (if s.f R.TWN_STAT_PAIR_UP = 1 ∨ s.f R.TWN_STAT_RB_UP = 1 then 1 else 5) ∧ t.f R.TWN_STAT_PSEND = 0 ∧ t.twn.relSwitch = true ∧
      t.twn.frozen = true) ∧
  (∀ s : State, s.twin = true → s.role = 1 → s.partnerGone = true → ∃ t, exec .partnerLoss s = .next t ∧ t.role = 5 ∧ t.f R.TWN_STAT_PSEND = 0) ∧
  (∀ s : State, HostOpen s → ∃ t, exec .yield s = .next t ∧
    (s.isHolder = true → s.f R.TWN_PARTNER_READY = 1 → t.f R.TWN_EPOCH_LEXP = s.cyc.bcIdx.toNat % 2 ^ 16 ∧ t.f R.TWN_CTL_YIELD = 1 ∧ t.twn.yieldReq = true) ∧
    ((s.isHolder = false ∨ s.f R.TWN_PARTNER_READY = 0) → t.f R.TWN_STAT_CMD_REF = 1 ∧ t.twn = s.twn ∧ t.f R.TWN_EPOCH_LEXP = s.f R.TWN_EPOCH_LEXP)) ∧
  (∀ (port : Fin 6) (fr : RxFrame) (crc : Word) (s : State), s.twin = true → port.val < 4 → isX1 port.val = true → s.hasX1 (ringOfPort port.val) = true →
    frameCheck fr.bytes = .good → hdrWrap (parseHeader fr.bytes) = false → (parseHeader fr.bytes).src = s.ownAddr →
    (parseHeader fr.bytes).hid = s.zlpF R.ZLP_CFG_HID →
    tabGet (fun _ => none) s.twn.txCrc (2 * hdrWin (parseHeader fr.bytes) + hdrHalf (parseHeader fr.bytes)) =
      some ((parseHeader fr.bytes).seq, (parseHeader fr.bytes).type, crc) →
    ∃ t, exec (.partnerCopyCompare port fr) s = .next t ∧
      (crc ≠ wordOf (crc32 (comparePart (parseHeader fr.bytes).type (payloadOf fr.bytes))) → Counts R.TWN_MIS_CNT_COUNT 1 s t ∧ t.f R.TWN_STAT_MIS = 1 ∧ Pends t 0x72) ∧
      (crc = wordOf (crc32 (comparePart (parseHeader fr.bytes).type (payloadOf fr.bytes))) → t.f R.TWN_MIS_CNT_COUNT = s.f R.TWN_MIS_CNT_COUNT)) ∧
  (∀ s : State, ∃ t, exec .pairFrameError s = .next t ∧ Counts R.TWN_PAIR_ERR_COUNT 1 s t ∧ t.twn = s.twn) ∧
  (∀ (up : Bool) (s : State), ∃ t, exec (.pairLinkChange up) s = .next t ∧ t.twn.linkUp = up)

/-- R342, R354, R355: asking for pairing or a join, the stream of dynamic parts and their installation, timing marks (within the ±8 ns that the spec
states; the error is free, log entry 69), and the digest. -/
def Obligations.PylonsPairAndJoin : Prop :=
  (∀ s : State, HostOpen s → ∃ t, exec .pair s = .next t ∧ (s.pairOpen = false → t.f R.TWN_STAT_PAIR_BAD = 1 ∧ t.f R.TWN_STAT_PCODE = 0) ∧
    (∀ h i, s.pairOpen = true → s.twn.hb = some h → s.twn.info = some i → s.pairItem h i = none → t.f R.TWN_CTL_PAIR = 1 ∧ t.twn.pairAt = some (s.clk, false)) ∧
    (∀ h i x, s.pairOpen = true → s.twn.hb = some h → s.twn.info = some i → s.pairItem h i = some x →
      t.f R.TWN_STAT_PAIR_BAD = 1 ∧ t.f R.TWN_STAT_PCODE = x % 2 ^ 4 ∧ t.f R.TWN_CTL_PAIR = 0 ∧ t.twn.pairAt = none)) ∧
  (∀ s : State, HostOpen s → ∃ t, exec .join s = .next t ∧ (s.pairOpen = false → t.f R.TWN_STAT_PAIR_BAD = 1 ∧ t.f R.TWN_STAT_PCODE = 0) ∧
    (∀ h i, s.pairOpen = true → s.twn.hb = some h → s.twn.info = some i → s.pairItem h i = none → t.f R.TWN_CTL_JOIN = 1 ∧ t.twn.pairAt = some (s.clk, true)) ∧
    (∀ h i x, s.pairOpen = true → s.twn.hb = some h → s.twn.info = some i → s.pairItem h i = some x →
      t.f R.TWN_STAT_PAIR_BAD = 1 ∧ t.f R.TWN_STAT_PCODE = x % 2 ^ 4 ∧ t.f R.TWN_CTL_JOIN = 0 ∧ t.twn.pairAt = none)) ∧
  (∀ (bs : List Byte) (s : State), s.twin = true → s.twn.linkUp = true → s.role = 3 → pairCrcOk bs = true → bs.length = 528 → pairField bs 0 1 = 4 →
    ∃ t, exec (.stateFrameReceive bs) s = .next t ∧
      t.twn.states = s.twn.states ++ [(pairField bs 1 1, wordOf (pairField bs 4 4), (bs.drop 8).take 512)]) ∧
  (∀ (a : Nat) (m : Word) (bs : List Byte) (s : State), s.role = 3 → s.twn.states = [(a, m, bs)] → s.ringAxes.contains a = true →
    ∃ t, exec .stateInstall s = .next t ∧
      (0 < (s.cyc.bcIdx - m).toInt → t.twn.states = [] ∧ t.homeDyn a = dynFromBytes bs ∧ a ∈ t.twn.install ∧ (s.axisState a = 1 → t.axisState a = 2)) ∧
      ((s.cyc.bcIdx - m).toInt ≤ 0 → t.twn.states = s.twn.states ∧ t.homeDyn a = s.homeDyn a)) ∧
  (∀ (bs : List Byte) (stamp : Nat) (d : Int) (s : State), s.twin = true → s.twn.linkUp = true → pairCrcOk bs = true → bs.length = 16 → pairField bs 0 1 = 5 →
    s.role = 2 → s.ring.live = false →
    d = aheadOf ((ntFix s.nt - (s.clk - stamp) * s.inc.toNat) % (nsPerSec * 2 ^ 32)) (pairField bs 4 4 * 2 ^ 32 + pairField bs 8 4) →
    ∃ t, exec (.timingMarkReceive bs stamp) s = .next t ∧ t.f R.TWN_TOFF_OFF = ofSigned 32 (clampSigned 32 (d / 2 ^ 28)) % 2 ^ 32 ∧
      ∃ e : Int, -6 ≤ e ∧ e ≤ 6 ∧ t.f R.TWN_PHASE_PH = ofSigned 16 (clampSigned 16 (d * 4 / (5 * 2 ^ 32) + e)) % 2 ^ 16) ∧
  (∀ s : State, s.twin = true → ∃ t, exec .digestPassEnd s = .next t ∧ t.reg R.TWN_DIGEST = wordOf (crc32 s.digestBytes) ∧ t.twn.digestAt = s.clk)

/-! ## Tollgate -/

/-- R362, R364, R369: writes of queue entries and doorbells. R352, R353, R358: a mirrored packet is taken and acknowledged, and at its effect bc is run,
or refused where the acknowledgement is missing. -/
def Obligations.QueuesDoorbellsAndMirroring : Prop :=
  ((∀ (off : Nat) (words : List Word) (s : State), s.sysLost = false → windowWrite off words = true →
      ∃ t, exec (.sqEntryWrite off words) s = .next t ∧
        (s.slotHeld (off / 0x4000) (off % 0x4000 / 64) = false → t.f R.HIF_WR_IGN_CNT_COUNT = s.f R.HIF_WR_IGN_CNT_COUNT ∧
          (∀ i < words.length, t.bar2Word (off + 4 * i) = words.getD i 0) ∧
          ∀ b, (b < off ∨ off + 4 * words.length ≤ b) → tabGet (fun _ => 0) t.hif.bar2 b = tabGet (fun _ => 0) s.hif.bar2 b) ∧
        (s.slotHeld (off / 0x4000) (off % 0x4000 / 64) = true → t.hif = s.hif ∧ t.f R.HIF_STAT_WR_IGN = 1 ∧ Counts R.HIF_WR_IGN_CNT_COUNT 1 s t)) ∧
    (∀ (q : Fin 4) (val : Word) (s : State), s.sysLost = false →
      ∃ t, exec (.sqDoorbell q val) s = .next t ∧
        (s.f R.HIF_CTL_EN = 1 → (s.sqTail q.val + 256 - s.sqHead q.val) % 256 + (val.toNat % 256 + 256 - s.sqTail q.val) % 256 ≤ 255 →
          t.sqTail q.val = val.toNat % 256) ∧
        ((s.f R.HIF_CTL_EN = 0 ∨ 255 < (s.sqTail q.val + 256 - s.sqHead q.val) % 256 + (val.toNat % 256 + 256 - s.sqTail q.val) % 256) →
          t.f R.HIF_STAT_DB_BAD = 1 ∧ t.sqTail q.val = s.sqTail q.val)) ∧
    (∀ (val : Word) (s : State), s.sysLost = false →
      ∃ t, exec (.cqHeadDoorbell val) s = .next t ∧
        (s.f R.HIF_CTL_EN = 1 → (val.toNat % 1024 + 1024 - s.f R.HIF_CQ_PTR_HEAD) % 1024 ≤ s.cqFill → t.f R.HIF_CQ_PTR_HEAD = val.toNat % 1024) ∧
        ((s.f R.HIF_CTL_EN = 0 ∨ s.cqFill < (val.toNat % 1024 + 1024 - s.f R.HIF_CQ_PTR_HEAD) % 1024) → t.f R.HIF_STAT_DB_BAD = 1 ∧
          t.f R.HIF_CQ_PTR_HEAD = s.f R.HIF_CQ_PTR_HEAD))) ∧
  ((∀ (bs : List Byte) (m : Mirror) (s : State), s.twin = true → s.twn.linkUp = true → s.role = 2 → pairCrcOk bs = true → parseMirror bs = some m →
      ∃ t, exec (.mirrorFrameReceive bs) s = .next t ∧ t.twn.mirrors = s.twn.mirrors ++ [m] ∧ t.twn.pairTx = s.twn.pairTx ++ [ackFrame m.num]) ∧
    (∀ (bs : List Byte) (s : State), s.isHolder = true → s.twn.linkUp = true → pairCrcOk bs = true → bs.length = 8 → pairField bs 0 1 = 3 →
      ∃ t, exec (.mirrorAckReceive bs) s = .next t ∧
        t.twn.mirrors = s.twn.mirrors.map (fun m => if m.num = pairField bs 2 2 ∧ (s.cyc.bcIdx - m.bc).toInt < 0 then { m with acked := true } else m)) ∧
    (∀ (m : Mirror) (s : State), s.twn.mirrors.find? s.mirrorDue = some m →
      ∃ t, exec .mirrorExecute s = .next t ∧
        (∀ g, m.tag = some g → (m.acked = false ∨ s.role = 4) → t.f R.TWN_STAT_CMD_REF = 1 ∧ t.twn.mirrors = s.twn.mirrors.erase m ∧
          (⟨g, s.clk + 16, stState, noWord, s.nt.ns, []⟩ : Completion) ∈ t.hif.compl) ∧
        (∀ a, m.tag = none → s.role ≠ 4 → (m.entry.getD 0 0).toNat % 256 = 0x11 → payAxis m.pay = a → a < 160 → (s.axisState a = 1 ∨ s.axisState a = 3) →
          t.axisOn a = false ∧ t.twn.mirrors = s.twn.mirrors.erase m ∧ t.hif.compl = s.hif.compl)))

/-- R365 to R370, R372: a core fetches the next packet of its queues if a completion entry can be reserved; a packet that fails a check is completed with
its status; a payload comes by DMA; a fence holds a packet back. -/
def Obligations.PacketsAreFetchedAndChecked : Prop :=
  (∀ (core : Fin 2) (q : Nat) (e : List Word) (s : State), (s.core core.val).cur = none → (s.core core.val).freeAt ≤ s.clk → s.hif.restart = none → s.sysLost = false →
    (coreQueues core.val).find? s.fetchable = some q → e = (List.range 16).map (fun i => s.bar2Word (0x4000 * q + 64 * s.sqHead q + 4 * i)) →
    ∃ t, exec (.packetFetch core) s = .next t ∧
      (s.cqMay q = false → (t.core core.val).stalled = true ∧ (t.core core.val).cur = none ∧ t.sqHead q = s.sqHead q) ∧
      (s.cqMay q = true → t.sqHead q = (s.sqHead q + 1) % 256 ∧
        ((e.getD 0 0).getLsbD 8 = true → ∃ p, (t.core core.val).cur = some p ∧ p.fence = true ∧ p.entry = e) ∧
        ((e.getD 0 0).getLsbD 8 = false → s.packetCheck q e = none → ∃ p, (t.core core.val).cur = some p ∧ p.entry = e ∧ p.tag.cid = e.getD 1 0 ∧
          p.tag.op = (e.getD 0 0).toNat % 256 ∧ p.tag.sq = q ∧
          (entryLen e ≤ 12 → p.pay = (e.drop 4).take (entryLen e) ∧ p.dma = none ∧ p.readyAt = s.clk + 16 + s.opClk p.tag.op p.pay) ∧
          (12 < entryLen e → p.dma = some (s.clk + 16))) ∧
        (∀ st, (e.getD 0 0).getLsbD 8 = false → s.packetCheck q e = some st → (t.core core.val).cur = none ∧
          ∃ c ∈ t.hif.compl, c.status = st ∧ c.due = s.clk + 32 ∧ c.tag.cid = e.getD 1 0))) ∧
  (∀ (core : Fin 2) (p : Packet) (c : Nat) (s : State), (s.core core.val).cur = some p → p.dma = some c → c ≤ s.clk → s.hif.restart = none →
    (∃ t, exec (.payloadDmaComplete core .failed) s = .next t ∧ Ended s t core p stDma noWord [] ∧ t.f R.HIF_STAT_DMA_ERR = 1 ∧ Pends t 0xE2) ∧
    ∀ ws, ws.length = entryLen p.entry → ∃ t, exec (.payloadDmaComplete core (.ok ws)) s = .next t ∧
      (t.core core.val).cur = some { p with dma := none, pay := ws, readyAt := s.clk + s.opClk p.tag.op ws }) ∧
  (∀ (core : Fin 2) (p : Packet) (s : State), (s.core core.val).cur = some p → p.fence = true → s.hif.restart = none →
    ∃ t, exec (.fenceRelease core) s = .next t ∧ (s.olderPending p.tag.bell = true → t = s) ∧
      (s.olderPending p.tag.bell = false → s.packetCheck p.tag.sq p.entry = none → ∃ u, (t.core core.val).cur = some u ∧ u.fence = false ∧ u.tag = p.tag) ∧
      (∀ st, s.olderPending p.tag.bell = false → s.packetCheck p.tag.sq p.entry = some st → (t.core core.val).cur = none))

/-- R373, R374, R397: the packets for registers and the mailbox. -/
def Obligations.RegisterPacketsComplete : Prop :=
  ∀ (core : Fin 2) (p : Packet) (s : State),
    (Runs s core 0x00 p → ∃ t, exec (.opNop core) s = .next t ∧ Ended s t core p stOk 0 []) ∧
    (Runs s core 0x01 p → ∃ t, exec (.opIdent core) s = .next t ∧ Ended s t core p stOk 0 [0x014400A1, s.reg (R.PIR_UC_VER 0), s.reg R.NVS_IMG_VER, s.reg R.HIF_LINK]) ∧
    (Runs s core 0x02 p → ∃ t, exec (.opRegWrite core) s = .next t ∧
      (∀ i, (writePairs p.pay).findIdx? (fun x => !inBlocks x.1) = some i → Ended s t core p stParam (2 * i) [] ∧ t.regs = s.regs) ∧
      (∀ a v, p.pay = [a, v] → s.itemsMoved p.tag = 0 → inBlocks a.toNat = true → isComplement a.toNat = false → isPw a.toNat = false → isWindow a.toNat = false →
        (findReg a.toNat).isSome = true → firstRule s a.toNat v regWriteRules = none →
        Ended s t core p stOk 0 [] ∧ t.reg a.toNat = (s.plainWrite a.toNat v).reg a.toNat)) ∧
    (Runs s core 0x03 p → ∃ t, exec (.opMbxRead core) s = .next t ∧ (mbxCode (pw p.pay 0) = none → Ended s t core p stParam 0 []) ∧
      (∀ ws, s.mbxItem (pw p.pay 0) = some ws → Ended s t core p stOk 0 ws) ∧
      (mbxCode (pw p.pay 0) ≠ none → s.mbxItem (pw p.pay 0) = none → Ended s t core p stState noWord [])) ∧
    (Runs s core 0x04 p → ∃ t, exec (.opMbxWrite core) s = .next t ∧ (mbxCode (pw p.pay 0) = none → Ended s t core p stParam 0 []) ∧
      (∀ w n, mbxCode (pw p.pay 0) = some (w, n) → p.pay.length ≠ 1 + n → Ended s t core p stLength noWord []) ∧
      (pw p.pay 0 = 0x11 → p.pay.length = 5 → s.f R.ZLP_SSTAT_STATE = 0 → pw p.pay 1 < 1000000000 → Ended s t core p stOk 0 [] ∧ t.nt.ns = p.pay.getD 1 0) ∧
      (pw p.pay 0 = 0x11 → p.pay.length = 5 → (s.f R.ZLP_SSTAT_STATE ≠ 0 ∨ 1000000000 ≤ pw p.pay 1) → Ended s t core p stState noWord [] ∧ t.nt = s.nt))

/-- R151, R375 to R377: the packets for one axis. DETAIL of a refusal for an axis is the model's reading (log entry 15). -/
def Obligations.AxisPacketsComplete : Prop :=
  ∀ (core : Fin 2) (p : Packet) (a : Nat) (s : State), a = payAxis p.pay →
    (Runs s core 0x10 p → ∃ t, exec (.opAxisEnable core) s = .next t ∧ (159 < a → Ended s t core p stParam 0 []) ∧
      (a ≤ 159 → s.axisOn a = true → Ended s t core p stState 0 []) ∧
      (a ≤ 159 → s.axisOn a = false → ((s.plainWrite (R.AXT_W1 a) (p.pay.getD 2 0)).axisFields a (p.pay.getD 1 0)).enableTest a = none →
        t.axisOn a = true ∧ t.axisState a = 1 ∧ (⟨p.tag, s.clk + 96, stOk, 0, s.nt.ns, []⟩ : Completion) ∈ t.hif.compl) ∧
      (∀ r, a ≤ 159 → s.axisOn a = false → ((s.plainWrite (R.AXT_W1 a) (p.pay.getD 2 0)).axisFields a (p.pay.getD 1 0)).enableTest a = some r →
        t.axisOn a = false ∧ t.reg (R.AXT_W0 a) = s.reg (R.AXT_W0 a) ∧ t.reg (R.AXT_W1 a) = s.reg (R.AXT_W1 a) ∧
        (⟨p.tag, s.clk + 96, (enableStatus r).1, (enableStatus r).2, s.nt.ns, []⟩ : Completion) ∈ t.hif.compl)) ∧
    (Runs s core 0x11 p → ∃ t, exec (.opAxisDisable core) s = .next t ∧ (159 < a → Ended s t core p stParam 0 []) ∧
      (a ≤ 159 → s.axisState a ≠ 1 → s.axisState a ≠ 3 → Ended s t core p stState 0 [] ∧ t.axisOn a = s.axisOn a) ∧
      (a ≤ 159 → (s.axisState a = 1 ∨ s.axisState a = 3) → t.axisOn a = false ∧ (s.runningOn a = none → Ended s t core p stOk 0 []))) ∧
    (Runs s core 0x12 p → ∃ t, exec (.opParamWrite core) s = .next t ∧ (159 < a → Ended s t core p stParam 0 []) ∧
      (a ≤ 159 → pw p.pay 1 % 4096 % 4 ≠ 0 → Ended s t core p stParam 1 []) ∧
      (a ≤ 159 → pw p.pay 1 % 4096 % 4 = 0 → (∀ i < (p.pay.drop 2).length, parWritable (pw p.pay 1 % 4096 + 4 * i) = true) → s.packetOf p.tag = some p →
        Lands s t core p (p.pay.drop 2).length ∧ ∀ i, p.moved ≤ i → i < itemsDue s p (p.pay.drop 2).length →
          t.homePar a (pw p.pay 1 % 4096 + 4 * i) = (p.pay.drop 2).getD i 0) ∧
      (∀ i, a ≤ 159 → pw p.pay 1 % 4096 % 4 = 0 → i < (p.pay.drop 2).length → parWritable (pw p.pay 1 % 4096 + 4 * i) = false →
        (∀ j < i, parWritable (pw p.pay 1 % 4096 + 4 * j) = true) → Ended s t core p stParam (2 + i) [] ∧ t.deck = s.deck)) ∧
    (Runs s core 0x13 p → ∃ t, exec (.opParamRead core) s = .next t ∧ t.deck = s.deck ∧ (159 < a → Ended s t core p stParam 0 []) ∧
      (a ≤ 159 → pw p.pay 1 % 4096 % 4 = 0 → 1 ≤ pw p.pay 2 → pw p.pay 2 ≤ 4 → pw p.pay 1 % 4096 + 4 * pw p.pay 2 ≤ 0x600 →
        Ended s t core p stOk 0 ((List.range (pw p.pay 2)).map (fun i => s.homePar a (pw p.pay 1 % 4096 + 4 * i))))) ∧
    (Runs s core 0x14 p → ∃ t, exec (.opFaultClear core) s = .next t ∧ (159 < a → Ended s t core p stParam 0 []) ∧
      (a ≤ 159 → s.axisState a = 3 → (s.homeDyn a).status.getLsbD 11 = true → Ended s t core p stOk 0 [] ∧ t.axisState a = 1 ∧
        t.homeDyn a = clearedDyn (s.homeDyn a)) ∧
      (a ≤ 159 → (s.axisState a ≠ 3 ∨ (s.homeDyn a).status.getLsbD 11 = false) → Ended s t core p stState 0 [] ∧ t.axisState a = s.axisState a))

/-- R30, R103, R301, R336, R384, R386, R465: the packets that load tables and images and read captures. The items of a packet land one after another, its
completion follows the last; a read-out waits for the capture writes that are pending. How many beats of a read-out move at once, and how long it waits, is free
(log entry 94). -/
def Obligations.TablePacketsComplete : Prop :=
  ∀ (core : Fin 2) (p : Packet) (s : State),
    (Runs s core 0x30 p → ∃ t, exec (.opEstWrite core) s = .next t ∧
      (estFault (p.pay.drop 1) = none → Ended s t core p stOk 0 [] ∧ t.estWord (pw p.pay 0 % 8192) 0 = p.pay.getD 1 0 ∧
        t.estWord (pw p.pay 0 % 8192) 1 = p.pay.getD 2 0 ∧ t.estWord (pw p.pay 0 % 8192) 2 = p.pay.getD 3 0 &&& 0xFF00FFFF ∧
        t.estWord (pw p.pay 0 % 8192) 3 = p.pay.getD 4 0) ∧
      (∀ w, estFault (p.pay.drop 1) = some w → Ended s t core p stParam (1 + w) [] ∧ t.f R.EST_STAT_BAD = 1 ∧ t.est = s.est)) ∧
    (Runs s core 0x31 p → ∃ t, exec (.opEstLoad core) s = .next t ∧ (p.pay.length % 4 ≠ 1 → Ended s t core p stLength noWord []) ∧
      (p.pay.length % 4 = 1 → 8192 < pw p.pay 0 % 8192 + (quads (p.pay.drop 1)).length → Ended s t core p stParam 0 [] ∧ t.est = s.est) ∧
      (p.pay.length % 4 = 1 → pw p.pay 0 % 8192 + (quads (p.pay.drop 1)).length ≤ 8192 → (∀ e ∈ quads (p.pay.drop 1), estFault e = none) →
        s.packetOf p.tag = some p →
        Lands s t core p (quads (p.pay.drop 1)).length ∧ ∀ i, p.moved ≤ i → i < itemsDue s p (quads (p.pay.drop 1)).length →
          t.estWord (pw p.pay 0 % 8192 + i) 3 = p.pay.getD (4 + 4 * i) 0 ∧ t.estWord (pw p.pay 0 % 8192 + i) 0 = p.pay.getD (1 + 4 * i) 0)) ∧
    (Runs s core 0x32 p → ∃ t, exec (.opCamLoad core) s = .next t ∧ (p.pay.length % 2 ≠ 1 → Ended s t core p stLength noWord []) ∧
      (p.pay.length % 2 = 1 → 131072 < pw p.pay 0 % 131072 + (p.pay.length - 1) / 2 → Ended s t core p stParam 0 [] ∧ t.deck = s.deck) ∧
      (p.pay.length % 2 = 1 → pw p.pay 0 % 131072 + (p.pay.length - 1) / 2 ≤ 131072 → s.packetOf p.tag = some p →
        Lands s t core p ((p.pay.length - 1) / 2) ∧ ∀ i, p.moved ≤ i → i < itemsDue s p ((p.pay.length - 1) / 2) →
        t.deckWord (0x100000 + 8 * (pw p.pay 0 % 131072 + i)) = p.pay.getD (1 + 2 * i) 0 ∧
        t.deckWord (0x100000 + 8 * (pw p.pay 0 % 131072 + i) + 4) = p.pay.getD (2 + 2 * i) 0)) ∧
    (Runs s core 0x33 p → ∃ t, exec (.opCymLoad core) s = .next t ∧ (p.pay.length % 4 ≠ 1 → Ended s t core p stLength noWord []) ∧
      (p.pay.length % 4 = 1 → pw p.pay 0 % 4096 + (quads (p.pay.drop 1)).length ≤ 4096 → s.f R.ZLP_SSTAT_STATE ≠ 0 → s.itemsMoved p.tag = 0 →
        Ended s t core p stState noWord [] ∧ t.regs = s.regs) ∧
      (p.pay.length % 4 = 1 → pw p.pay 0 % 4096 + (quads (p.pay.drop 1)).length ≤ 4096 → s.f R.ZLP_SSTAT_STATE = 0 → s.packetOf p.tag = some p →
        Lands s t core p (quads (p.pay.drop 1)).length ∧ ∀ i, p.moved ≤ i → i < itemsDue s p (quads (p.pay.drop 1)).length →
          t.reg (R.CYM_W0 (pw p.pay 0 % 4096 + i)) = (s.plainWrite (R.CYM_W0 (pw p.pay 0 % 4096 + i)) (p.pay.getD (1 + 4 * i) 0)).reg (R.CYM_W0 (pw p.pay 0 % 4096 + i)))) ∧
    (Runs s core 0x50 p → ∃ t, exec (.opSafetyLoad core) s = .next t ∧
      ((pw p.pay 0 % 4 ≠ 0 ∨ 4096 < pw p.pay 0 + 4 * (p.pay.drop 1).length) → Ended s t core p stParam 0 []) ∧
      (pw p.pay 0 % 4 = 0 → pw p.pay 0 + 4 * (p.pay.drop 1).length ≤ 4096 → pw p.pay 0 < 4096 →
        (s.kstState ≠ 0 → s.kstState ≠ 3 → s.itemsMoved p.tag = 0 → Ended s t core p stState noWord [] ∧ t.regs = s.regs) ∧
        ((s.kstState = 0 ∨ s.kstState = 3) → s.packetOf p.tag = some p → Lands s t core p (p.pay.drop 1).length ∧
          ∀ i, p.moved ≤ i → i < itemsDue s p (p.pay.drop 1).length → t.reg (R.KST_PWIN (pw p.pay 0 / 4 + i)) = (p.pay.drop 1).getD i 0))) ∧
    (Runs s core 0x51 p → ∃ t, exec (.opCaptureRead core) s = .next t ∧
      (nat64 (p.pay.getD 0 0) (p.pay.getD 1 0) % 32 ≠ 0 → Ended s t core p stParam 0 []) ∧
      (nat64 (p.pay.getD 0 0) (p.pay.getD 1 0) % 32 = 0 → (pw p.pay 2 % 32 ≠ 0 ∨ pw p.pay 2 < 32 ∨ 16777216 < pw p.pay 2) → Ended s t core p stParam 2 []) ∧
      (nat64 (p.pay.getD 0 0) (p.pay.getD 1 0) % 32 = 0 → pw p.pay 2 % 32 = 0 → 32 ≤ pw p.pay 2 → pw p.pay 2 ≤ 16777216 →
        nat64 (p.pay.getD 0 0) (p.pay.getD 1 0) + pw p.pay 2 ≤ s.ddrSize → s.packetOf p.tag = some p → p.moved < pw p.pay 2 / 32 →
        (0 < s.ddrPending → ∃ k, Counts R.DDR_WAIT_CNT_COUNT (1 + k) s t) ∧
        (s.ddrPending = 0 → s.acq.ueAt = [] → ∃ k, 1 ≤ k ∧ p.moved + k ≤ pw p.pay 2 / 32 ∧ (s.acqRuns = false → p.moved + k = pw p.pay 2 / 32) ∧
          t.hif.dmaOut = [(nat64 (p.pay.getD 3 0) (p.pay.getD 4 0) + 32 * p.moved,
            tabRead ddrDefault s.acq.ddr (nat64 (p.pay.getD 0 0) (p.pay.getD 1 0) + 32 * p.moved) (32 * k))] ∧
          (p.moved + k = pw p.pay 2 / 32 → Ended s t core p stOk 0 [wordOf (pw p.pay 2)]) ∧
          (p.moved + k < pw p.pay 2 / 32 → (t.core core.val).cur = some { p with moved := p.moved + k }))))

/-- R252, R253, R345, R354, R385, R386, R414, R415: the packets for the ring, the pair, the store and the black box. -/
def Obligations.RingStoreAndTwinPackets : Prop :=
  ∀ (core : Fin 2) (p : Packet) (s : State),
    (Runs s core 0x40 p → ∃ t, exec (.opRingStart core) s = .next t ∧ (t.core core.val).cur = none ∧
      (s.f R.ZLP_SSTAT_STATE ≠ 0 → Ended s t core p stState noWord [] ∧ t.f R.ZLP_SSTAT_STATE = s.f R.ZLP_SSTAT_STATE) ∧
      (s.f R.ZLP_SSTAT_STATE = 0 → s.twin = true → s.twn.paired = false → Ended s t core p stState noWord [] ∧ t.f R.ZLP_SSTAT_STATE = 0) ∧
      (s.f R.ZLP_SSTAT_STATE = 0 → (s.twin = true → s.twn.paired = true) → s.f R.ZLP_CFG_SPAN = 255 → t.f R.ZLP_SSTAT_STATE = 0 ∧
        t.f R.ZLP_STAT_PAR_BAD = 1 ∧ (⟨p.tag, s.clk + 16, stParam, 0, s.nt.ns, []⟩ : Completion) ∈ t.hif.compl) ∧
      (s.f R.ZLP_SSTAT_STATE = 0 → (s.twin = true → s.twn.paired = true) → s.f R.ZLP_CFG_SPAN ≠ 255 →
        s.startRings ([0, 1].filter (fun r => s.ringLinked r)) ≠ none →
        t.f R.ZLP_SSTAT_STATE = 1 ∧ (⟨some p.tag, .ringStart⟩ : Waiting) ∈ t.hif.waits) ∧
      (s.f R.ZLP_SSTAT_STATE = 0 → (s.twin = true → s.twn.paired = true) → s.f R.ZLP_CFG_SPAN ≠ 255 →
        s.startRings ([0, 1].filter (fun r => s.ringLinked r)) = none →
        t.f R.ZLP_SSTAT_STATE = 0 ∧ t.f R.ZLP_FAULT_CODE = 10 ∧ (⟨p.tag, s.clk + 16, stTiming, 10, s.nt.ns, []⟩ : Completion) ∈ t.hif.compl)) ∧
    (Runs s core 0x41 p → ∃ t, exec (.opRingHalt core) s = .next t ∧ (t.core core.val).cur = none ∧
      (s.spanRuns = true → (⟨some p.tag, .ringHalt⟩ : Waiting) ∈ t.hif.waits ∧ t.ring.haltAt = some (s.ring.haltAt.getD s.clk)) ∧
      (s.spanRuns = false → Ended s t core p stState noWord [])) ∧
    (Runs s core 0x52 p → s.queueRoom = false → exec (.opNvsWrite core) s = .next s) ∧
    (Runs s core 0x52 p → s.queueRoom = true → ∃ t, exec (.opNvsWrite core) s = .next t ∧
      ((s.bankCommits (pw p.pay 0 % 2) = true ∨ s.bankActive (pw p.pay 0 % 2) = true) → Ended s t core p stState noWord [] ∧ t.nvs = s.nvs) ∧
      (s.bankCommits (pw p.pay 0 % 2) = false → s.bankActive (pw p.pay 0 % 2) = false →
        ((pw p.pay 0 / 4 < 16 ∨ 262144 < pw p.pay 0 / 4 + (p.pay.drop 1).length) → Ended s t core p stParam 0 [] ∧ t.nvs = s.nvs) ∧
        (16 ≤ pw p.pay 0 / 4 → pw p.pay 0 / 4 + (p.pay.drop 1).length ≤ 262144 → pw p.pay 0 / 4 < s.f (R.NVS_WP_WP (pw p.pay 0 % 2)) →
          Ended s t core p stState noWord [] ∧ t.nvs = s.nvs) ∧
        (16 ≤ pw p.pay 0 / 4 → pw p.pay 0 / 4 + (p.pay.drop 1).length ≤ 262144 → s.f (R.NVS_WP_WP (pw p.pay 0 % 2)) ≤ pw p.pay 0 / 4 →
          t.nvs.queue.length = s.nvs.queue.length + 1 ∧ (t.core core.val).cur = some { p with busy := true }))) ∧
    (Runs s core 0x53 p → ∃ t, exec (.opNvsCommit core) s = .next t ∧
      ((s.bankCommits (pw p.pay 0 % 2) = true ∨ s.commitRefused (pw p.pay 0 % 2) = true) → Ended s t core p stState noWord [] ∧ t.nvs = s.nvs) ∧
      (s.bankCommits (pw p.pay 0 % 2) = false → s.commitRefused (pw p.pay 0 % 2) = false → s.queueRoom = false → t = s) ∧
      (s.bankCommits (pw p.pay 0 % 2) = false → s.commitRefused (pw p.pay 0 % 2) = false → s.queueRoom = true →
        t.nvs.queue.length = s.nvs.queue.length + 1 ∧ t.bankCommits (pw p.pay 0 % 2) = true ∧ (t.core core.val).cur = some { p with busy := true })) ∧
    (Runs s core 0x54 p → ∃ t, exec (.opBbxRead core) s = .next t ∧ (16384 < pw p.pay 0 + pw p.pay 1 → Ended s t core p stParam 0 []) ∧
      (pw p.pay 0 + pw p.pay 1 ≤ 16384 → pw p.pay 0 + pw p.pay 1 ≤ s.nvs.box.length → Ended s t core p stOk 0 [] ∧
        t.hif.dmaOut = [(nat64 (p.pay.getD 2 0) (p.pay.getD 3 0), bytesOfWords (((s.nvs.box.drop (pw p.pay 0)).take (pw p.pay 1)).flatMap id))])) ∧
    (Runs s core 0x60 p → ∃ t, exec (.opTwinPair core) s = .next t ∧ (t.core core.val).cur = none ∧
      (s.pairOpen = false → t.f R.TWN_STAT_PAIR_BAD = 1 ∧ Ended s t core p stState noWord [])) ∧
    (Runs s core 0x61 p → ∃ t, exec (.opTwinYield core) s = .next t ∧ (t.core core.val).cur = none ∧
      (s.isHolder = false → t.f R.TWN_STAT_CMD_REF = 1 ∧ Ended s t core p stState noWord []) ∧
      (s.isHolder = true → s.f R.TWN_PARTNER_READY = 1 → (⟨some p.tag, .yield⟩ : Waiting) ∈ t.hif.waits ∧ t.twn.yieldReq = true)) ∧
    (Runs s core 0x62 p → ∃ t, exec (.opTwinJoin core) s = .next t ∧ (t.core core.val).cur = none ∧
      (s.pairOpen = false → t.f R.TWN_STAT_PAIR_BAD = 1 ∧ Ended s t core p stState noWord []))

/-- R381: a motion packet for one axis. Its command block is written with `MC_SEQ` last and the packet waits for its report; within 2 task periods of
the block before it is held. DETAIL of a refusal for an axis is the model's reading (log entry 15). -/
def Obligations.MotionPacketsWriteTheirBlock : Prop :=
  ∀ x ∈ ([(Instr.opMoveAbs, 0x20, 1), (Instr.opMoveRel, 0x21, 2), (Instr.opVelocity, 0x22, 3), (Instr.opStop, 0x23, 4), (Instr.opGear, 0x24, 6),
      (Instr.opCam, 0x25, 7), (Instr.opHome, 0x26, 8)] : List ((Fin 2 → Instr) × Nat × Nat)),
    ∀ (core : Fin 2) (p : Packet) (s : State), Runs s core x.2.1 p → ∃ t, exec (x.1 core) s = .next t ∧
      (s.holdOver (payAxis p.pay) = false → (t.core core.val).cur = some { p with held := true } ∧ t.deck = s.deck) ∧
      (s.holdOver (payAxis p.pay) = true →
        ((159 < payAxis p.pay ∨ bitsOf (pw p.pay 0) 8 2 = 3) → Ended s t core p stParam 0 [] ∧ t.deck = s.deck) ∧
        (payAxis p.pay ≤ 159 → bitsOf (pw p.pay 0) 8 2 ≠ 3 → s.axisOn (payAxis p.pay) = false → Ended s t core p stState 0 [] ∧ t.deck = s.deck) ∧
        (payAxis p.pay ≤ 159 → bitsOf (pw p.pay 0) 8 2 ≠ 3 → s.axisOn (payAxis p.pay) = true →
          t.homePar (payAxis p.pay) 0xC0 = wordOf (x.2.2 + 16 * bitsOf (pw p.pay 0) 8 2 + 64 * bitsOf (pw p.pay 0) 10 1) ∧
          t.homePar (payAxis p.pay) 0xFC = s.nextSeq (payAxis p.pay) ∧ t.hif.mcAt ≠ [] ∧ t.nextSeq (payAxis p.pay) = s.nextSeq (payAxis p.pay) + 1 ∧
          (⟨some p.tag, .motion (payAxis p.pay) (s.nextSeq (payAxis p.pay)).toNat⟩ : Waiting) ∈ t.hif.waits ∧ (t.core core.val).cur = none))

/-- R157, R163, R381 to R383: a group move, the end of a hold, and a report that completes its packet. DETAIL of a refusal for a member is the model's
reading (log entry 15). -/
def Obligations.GroupMovesAndReports : Prop :=
  (∀ (core : Fin 2) (p : Packet) (s : State), Runs s core 0x27 p → (motionAxes 0x27 p.pay).all s.holdOver = true → ∃ t, exec (.opGroupMove core) s = .next t ∧
    (p.pay.length ≠ 7 + 3 * (pw p.pay 0 % 256) → Ended s t core p stLength noWord []) ∧
    (p.pay.length = 7 + 3 * (pw p.pay 0 % 256) →
      (bitsOf (pw p.pay 0) 8 2 = 3 → Ended s t core p stParam 0 []) ∧
      (bitsOf (pw p.pay 0) 8 2 ≠ 3 →
        (∀ i, s.groupBad (groupMembers p.pay) = some i → Ended s t core p stParam (7 + 3 * i) []) ∧
        (∀ i, s.groupBad (groupMembers p.pay) = none → (groupMembers p.pay).findIdx? (fun g => !s.memberRests g) = some i →
          Ended s t core p stState (7 + 3 * i) []) ∧
        (s.groupBad (groupMembers p.pay) = none → (∀ g ∈ groupMembers p.pay, s.memberRests g = true) → (t.core core.val).cur = none ∧
          (∃ l, (⟨some p.tag, .group ((groupMembers p.pay).map (fun g => (g.axis, (s.nextSeq g.axis).toNat))) l []⟩ : Waiting) ∈ t.hif.waits ∧
            ∀ g ∈ groupMembers p.pay, (∀ h ∈ groupMembers p.pay, (s.memberDelta h).natAbs < (s.memberDelta g).natAbs ∨ h = g) → l = g.axis) ∧
          ∀ g ∈ groupMembers p.pay, t.homePar g.axis 0xFC = s.nextSeq g.axis)))) ∧
  (∀ s : State, ∃ t, exec .motionHoldEnd s = .next t ∧ ∀ (core : Fin 2) (p : Packet), (s.core core.val).cur = some p →
    (p.held = true → (motionAxes p.tag.op p.pay).all s.holdOver = true → (t.core core.val).cur = some { p with held := false, readyAt := s.clk }) ∧
    ((p.held = false ∨ (motionAxes p.tag.op p.pay).all s.holdOver = false) → (t.core core.val).cur = some p)) ∧
  (∀ (c a : Nat) (ns : Word) (r : MotionReport) (g : PktTag) (s : State), s.dsp.reports = [(c, a, ns, r)] → c ≤ s.clk → s.hif.waits = [⟨some g, .motion a r.seq.toNat⟩] →
    s.hif.compl = [] → g.sq < 4 → g.gen = s.hif.gen →
    ∃ t, exec .motionCompletion s = .next t ∧ t.hif.waits = [] ∧ t.dsp.reports = [] ∧ t.f R.HIF_CQ_PTR_TAIL = (s.f R.HIF_CQ_PTR_TAIL + 1) % 1024 ∧
      t.bar2Word (0x10000 + 32 * s.f R.HIF_CQ_PTR_TAIL) = g.cid ∧
      (t.bar2Word (0x10000 + 32 * s.f R.HIF_CQ_PTR_TAIL + 4)).toNat % 256 = motionStatusCode r.status ∧
      t.bar2Word (0x10000 + 32 * s.f R.HIF_CQ_PTR_TAIL + 12) = ns ∧ t.bar2Word (0x10000 + 32 * s.f R.HIF_CQ_PTR_TAIL + 28) = r.seq)

/-- R378, R379, R388: quiesce and resume of groups of axes, and the restart of Tollgate. -/
def Obligations.GroupsStopStartAndRestart : Prop :=
  (∀ (core : Fin 2) (p : Packet) (s : State), Runs s core 0x15 p → ∃ t, exec (.opGroupQuiesce core) s = .next t ∧
    (∀ a, (mapAxes p.pay).find? (fun a => !s.axisOn a) = some a → Ended s t core p stState a []) ∧
    ((∀ a ∈ mapAxes p.pay, s.axisOn a = true) → (⟨some p.tag, .quiesce (mapAxes p.pay) s.clk⟩ : Waiting) ∈ t.hif.waits ∧ (t.core core.val).cur = none ∧
      ∀ a < 160, t.axisState a = s.axisState a)) ∧
  (∀ (g : PktTag) (axes : List Nat) (c : Nat) (s : State), (⟨some g, .quiesce axes c⟩ : Waiting) ∈ s.hif.waits → c < s.cyc.t0 →
    (∀ w axes' c', (⟨w, .quiesce axes' c'⟩ : Waiting) ∈ s.hif.waits → ∀ b ∈ axes', b < 160) →
    ∃ t, exec .groupQuiesceEffect s = .next t ∧ (⟨g, s.clk + 16, stOk, 0, s.nt.ns, []⟩ : Completion) ∈ t.hif.compl ∧
      (⟨some g, .quiesce axes c⟩ : Waiting) ∉ t.hif.waits ∧ ∀ a ∈ axes, s.axisState a = 2 → t.axisState a = 1) ∧
  (∀ (core : Fin 2) (p : Packet) (s : State), Runs s core 0x16 p → ∃ t, exec (.opGroupResume core) s = .next t ∧ (t.core core.val).cur = none ∧
    (pw p.pay 5 % 4 = 3 → Ended s t core p stParam 5 []) ∧
    (pw p.pay 5 % 4 ≠ 3 → (∀ a ∈ mapAxes p.pay, s.axisState a = 1) → s.hif.waits = [] →
      t.hif.waits = [⟨some p.tag, .resume ⟨mapAxes p.pay, pw p.pay 5 % 4, p.pay.getD 6 0, p.pay.getD 7 0, s.cyc.bcIdx, pw p.pay 5 / 65536⟩⟩]) ∧
    (pw p.pay 5 % 4 ≠ 3 → ∀ a, (mapAxes p.pay).head? = some a → s.axisState a ≠ 1 → Ended s t core p stState a [])) ∧
  (∀ (g : PktTag) (r : Resume) (s : State), (⟨some g, .resume r⟩ : Waiting) ∈ s.hif.waits → s.resumeNow r = true →
    (∀ w r', (⟨w, .resume r'⟩ : Waiting) ∈ s.hif.waits → ∀ b ∈ r'.axes, b < 160) →
    ∃ t, exec .groupResumeEffect s = .next t ∧ (⟨some g, .resume r⟩ : Waiting) ∉ t.hif.waits ∧
      ((∀ a ∈ r.axes, s.stationActive a = true) → (⟨g, s.clk + 16, stOk, 0, s.nt.ns, []⟩ : Completion) ∈ t.hif.compl ∧
        ∀ a ∈ r.axes, s.axisState a = 1 → t.axisState a = 2) ∧
      (∀ a, r.axes.find? (fun a => !s.stationActive a) = some a → (⟨g, s.clk + 16, stState, a, s.nt.ns, []⟩ : Completion) ∈ t.hif.compl)) ∧
  (∀ (g : PktTag) (r : Resume) (s : State), (⟨some g, .resume r⟩ : Waiting) ∈ s.hif.waits → s.resumeLate r = true →
    ∃ t, exec .groupResumeTimeout s = .next t ∧ (⟨some g, .resume r⟩ : Waiting) ∉ t.hif.waits ∧
      (⟨g, s.clk + 16, stTimeout, noWord, s.nt.ns, []⟩ : Completion) ∈ t.hif.compl ∧ ∀ a < 160, t.axisState a = s.axisState a) ∧
  (∀ s : State, ∃ t, exec .tollgateWatchdogExpiry s = .next t ∧ t.hif.restart = some s.clk ∧ t.hif.waits = [] ∧ t.f R.HIF_STAT_RESTART = 1 ∧
    t.f R.GLB_RST_CAUSE_TG_WDOG = 1 ∧ Pends t 0xE3 ∧
    ∀ (core : Fin 2) (p : Packet), (s.core core.val).cur = some p → (t.core core.val).cur = none ∧
      (⟨p.tag, s.clk, stRestart, noWord, s.nt.ns, []⟩ : Completion) ∈ t.hif.compl) ∧
  (∀ s : State, ∃ t, exec .tollgateRestartEnd s = .next t ∧ t.hif.restart = none)

/-! ## Events, store and black box -/

/-- R402 to R404: the event writer serves the loss entry that is due, else the next occupied latch; the entry of a served latch is written 2 clk later, at the
end of that clk: a new entry at the tail, a merge into the source's newest entry, or a loss where the queue is full. Occurrences merged past an occupied latch
enter their entry at the end of a clk too (log entry 39). What ends a clk is part of the step on an empty queue (log entries 1 and 3). -/
def Obligations.EventEntriesAreWritten : Prop :=
  (∀ (slot : Nat) (s : State), s.evt.served ≤ s.clk → s.evtLossDue = true → slot = s.f R.EVT_TAIL_TAIL →
    ∃ t, exec .eventWriterServe s = .next t ∧ t.evt.lossNow = 0 ∧ Pends t 0x04 ∧ t.f R.EVT_TAIL_TAIL = (slot + 1) % 1024 ∧ t.evt.served = s.clk + 1 ∧
      t.reg (R.EVT_QUEUE (4 * slot)) = evtWord0 4 1 (s.flag R.EVT_TAIL_PHASE) (BitVec.ofNat 16 (min 65535 s.evt.lossNow)) ∧
      t.reg (R.EVT_QUEUE (4 * slot + 1)) = s.evt.lossNowT.ns) ∧
  (∀ (src : Nat) (l : EvtLatch) (s : State), s.evt.served ≤ s.clk → s.evtLossDue = false → s.evtNextLatch = some (src, l) → src ≠ 0x82 →
    ∃ t, exec .eventWriterServe s = .next t ∧ tabGet (fun _ => none) t.evt.latch src = none ∧ t.evt.scan = (src + 1) % 256 ∧ t.evt.served = s.clk + 1 ∧
      t.evt.writes = s.evt.writes ++ (if l.queued then [(s.clk + 2, src, l)] else [])) ∧
  (∀ s : State, s.clk < s.evt.served → exec .eventWriterServe s = .next s) ∧
  (∀ s : State, s.pending = [] → s.sysLost = false → ∃ u, u = s.kstTick.evtLand.evtMergeAll.cqDue ∧
    step s = .next ({ u with clk := u.clk + 1, nt := ntTick u.nt u.inc } : State).clkBegin) ∧
  (∀ s : State, (∀ w ∈ s.evt.writes, s.clk < w.1) → s.evtLand = s) ∧
  (∀ (c src : Nat) (l : EvtLatch) (slot : Nat) (s t : State), s.evt.writes = [(c, src, l)] → c ≤ s.clk → s.evtFull = false →
    (routeMerge (s.evtRoute src) = false ∨ s.evtNewest src = none) → slot = s.f R.EVT_TAIL_TAIL → t = s.evtLand →
      t.evt.writes = [] ∧ t.reg (R.EVT_QUEUE (4 * slot)) = evtWord0 src l.count (s.flag R.EVT_TAIL_PHASE) l.detail ∧
      t.reg (R.EVT_QUEUE (4 * slot + 1)) = l.time.ns ∧ t.reg (R.EVT_QUEUE (4 * slot + 2)) = wordOf l.time.sec.toNat ∧
      t.reg (R.EVT_QUEUE (4 * slot + 3)) = l.data ∧ t.f R.EVT_TAIL_TAIL = (slot + 1) % 1024 ∧
      t.flag R.EVT_TAIL_PHASE = (if slot = 1023 then !s.flag R.EVT_TAIL_PHASE else s.flag R.EVT_TAIL_PHASE) ∧
      (routeEn (s.evtRoute src) = true → max 1 (s.f (R.EVT_VEC_CNT (routeVec (s.evtRoute src)))) ≤ tabGet (fun _ => 0) s.evt.vecCnt (routeVec (s.evtRoute src)) + 1 →
        t.evt.msgs = s.evt.msgs ++ [(routeVec (s.evtRoute src), s.clk + 16)] ∧ tabGet (fun _ => 0) t.evt.vecCnt (routeVec (s.evtRoute src)) = 0) ∧
      (routeEn (s.evtRoute src) = true → tabGet (fun _ => 0) s.evt.vecCnt (routeVec (s.evtRoute src)) + 1 < max 1 (s.f (R.EVT_VEC_CNT (routeVec (s.evtRoute src)))) →
        t.evt.msgs = s.evt.msgs ∧ tabGet (fun _ => 0) t.evt.vecCnt (routeVec (s.evtRoute src)) = tabGet (fun _ => 0) s.evt.vecCnt (routeVec (s.evtRoute src)) + 1)) ∧
  (∀ (c src : Nat) (l : EvtLatch) (slot : Nat) (s t : State), s.evt.writes = [(c, src, l)] → c ≤ s.clk → routeMerge (s.evtRoute src) = true →
    s.evtNewest src = some slot → slot < 1024 → bitsOf (s.reg (R.EVT_QUEUE (4 * slot))).toNat 16 16 = l.detail.toNat → t = s.evtLand →
      t.evt.writes = [] ∧ t.f R.EVT_TAIL_TAIL = s.f R.EVT_TAIL_TAIL ∧ t.reg (R.EVT_QUEUE (4 * slot + 3)) = l.data ∧
      bitsOf (t.reg (R.EVT_QUEUE (4 * slot))).toNat 8 7 = min 127 (bitsOf (s.reg (R.EVT_QUEUE (4 * slot))).toNat 8 7 + l.count) ∧
      t.reg (R.EVT_QUEUE (4 * slot + 1)) = s.reg (R.EVT_QUEUE (4 * slot + 1))) ∧
  (∀ (c src : Nat) (l : EvtLatch) (s t : State), s.evt.writes = [(c, src, l)] → c ≤ s.clk → s.evtFull = true → 1 ≤ l.count →
    routeMerge (s.evtRoute src) = false → t = s.evtLand →
      t.evt.writes = [] ∧ t.f R.EVT_TAIL_TAIL = s.f R.EVT_TAIL_TAIL ∧ Counts R.EVT_LOST_CNT_COUNT l.count s t ∧ t.f R.EVT_STAT_LOST = 1 ∧
      (s.f R.EVT_STAT_LOST = 0 → t.evt.lossT = s.nt)) ∧
  (∀ (src slot : Nat) (w : Word) (s t : State), s.evt.merges = [(src, slot, w)] → slot < 1024 → t = s.evtMergeAll →
    t.evt.merges = [] ∧ t.reg (R.EVT_QUEUE (4 * slot + 3)) = w ∧ t.f R.EVT_TAIL_TAIL = s.f R.EVT_TAIL_TAIL ∧
    bitsOf (t.reg (R.EVT_QUEUE (4 * slot))).toNat 8 7 = min 127 (bitsOf (s.reg (R.EVT_QUEUE (4 * slot))).toNat 8 7 + 1))

/-- R402, R405, R407: the host frees entries by `EVT_HEAD`; a vector's time runs out; a message is sent, or held while its vector is masked or the link is
down, and a held one is sent on the unmask. -/
def Obligations.MessagesReachTheHost : Prop :=
  (∀ (val : Word) (s : State), HostOpen s → ∃ t, exec (.evtHeadWrite val) s = .next t ∧ Frame [] (· = R.EVT_HEAD) s t ∧
    ((val.toNat % 1024 + 1024 - s.f R.EVT_HEAD_HEAD) % 1024 ≤ s.evtFill → t.f R.EVT_HEAD_HEAD = val.toNat % 1024) ∧
    (s.evtFill < (val.toNat % 1024 + 1024 - s.f R.EVT_HEAD_HEAD) % 1024 → t.f R.EVT_HEAD_HEAD = s.f R.EVT_HEAD_HEAD)) ∧
  (∀ (v : Fin 32) (s : State), 0 < s.f (R.EVT_VEC_TIME v.val) → 0 < tabGet (fun _ => 0) s.evt.vecCnt v.val →
    tabGet (fun _ => 0) s.evt.vecFirst v.val + 800 * s.f (R.EVT_VEC_TIME v.val) ≤ s.clk →
    ∃ t, exec (.vectorTimeExpiry v) s = .next t ∧ t.evt.msgs = s.evt.msgs ++ [(v.val, s.clk + 16)] ∧ tabGet (fun _ => 0) t.evt.vecCnt v.val = 0) ∧
  (∀ (v : Fin 32) (n : Nat) (rest : List (Nat × Nat)) (s : State), s.evt.msgs = (v.val, n) :: rest → n ≤ s.clk →
    ∃ t, exec (.msixMessage v) s = .next t ∧ t.evt.msgs = rest ∧
      (s.msixBlocked v.val = true → t.evt.msixPend.getLsbD v.val = true ∧ t.evt.msixSent = s.evt.msixSent) ∧
      (s.msixBlocked v.val = false → t.evt.msixPend.getLsbD v.val = false ∧
        tabGet (fun _ => 0) t.evt.msixSent v.val = tabGet (fun _ => 0) s.evt.msixSent v.val + 1)) ∧
  (∀ (v : Fin 32) (s : State), ∃ t, exec (.msixVectorUnmask v) s = .next t ∧ t.evt.msixMask.getLsbD v.val = false ∧
    (s.evt.msixPend.getLsbD v.val = true → s.flag R.HIF_LINK_UP = true → t.evt.msixPend.getLsbD v.val = false ∧
      tabGet (fun _ => 0) t.evt.msixSent v.val = tabGet (fun _ => 0) s.evt.msixSent v.val + 1) ∧
    (s.flag R.HIF_LINK_UP = false → t.evt.msixPend = s.evt.msixPend ∧ t.evt.msixSent = s.evt.msixSent))

/-- R420, R422, R424, R425: notes and the requests of `BBX_CTL`, each where the black box's state accepts it; elsewhere CMD_BAD. -/
def Obligations.BlackBoxTakesNotesAndRequests : Prop :=
  ∀ s : State, HostOpen s →
    (∀ val, ∃ t, exec (.bbxNote val) s = .next t ∧
      (s.f R.BBX_CFG_EN = 1 → s.boxRecords = true → s.nvs.box ≠ [] → t.nvs.boxSeq = s.nvs.boxSeq + 1 ∧
        t.nvs.box = (s.boxEntry 2 0 s.nt val.toNat s.cyc.bcIdx (s.reg R.BBX_NOTE_D) (chnFrac s.chnLive) :: s.nvs.box).take 16384) ∧
      (s.f R.BBX_CFG_EN = 1 → s.boxRecords = false → t.nvs = s.nvs ∧ Counts R.BBX_DISC_CNT_COUNT 1 s t) ∧ (s.f R.BBX_CFG_EN = 0 → t = s)) ∧
    (∃ t, exec (.freeze 1) s = .next t ∧
      (s.boxRecords = true → t.f R.BBX_STAT_CAUSE = 3 ∧ Pends t 0x82 ∧ t.nvs.boxMark = s.nvs.boxSeq ∧ t.nvs.boxTime = s.nt ∧
        (s.f R.BBX_CFG_AUTO = 0 → t.f R.BBX_STAT_STATE = 1 ∧ t.nvs.commit = s.nvs.commit)) ∧
      (s.boxRecords = false → t.f R.BBX_STAT_CMD_BAD = 1 ∧ t.f R.BBX_STAT_STATE = s.f R.BBX_STAT_STATE ∧ t.nvs = s.nvs)) ∧
    (∃ t, exec (.commit 2) s = .next t ∧
      (s.f R.BBX_STAT_STATE = 1 → s.f R.BBX_STAT_ER ≠ 0 → t.f R.BBX_STAT_STATE = 2 ∧
        t.nvs.commit = some ⟨if s.f R.BBX_STAT_ER % 2 = 1 then 0 else 1, false, 0, (s.nvs.box.length + 127) / 128⟩) ∧
      (s.f R.BBX_STAT_STATE = 1 → s.f R.BBX_STAT_ER = 0 → t.f R.BBX_STAT_NOROOM = 1 ∧ t.f R.BBX_STAT_STATE = 1 ∧ t.nvs = s.nvs) ∧
      (s.f R.BBX_STAT_STATE ≠ 1 → t.f R.BBX_STAT_CMD_BAD = 1 ∧ t.nvs = s.nvs)) ∧
    (∃ t, exec (.release 4) s = .next t ∧
      (s.f R.BBX_STAT_STATE ∈ [1, 3, 4] → t.f R.BBX_STAT_STATE = 0 ∧ t.f R.BBX_COUNT_N = 1 ∧
        t.nvs.box = [s.boxEntry 4 0 s.nt 0 s.cyc.bcIdx 0 (chnFrac s.chnLive)]) ∧
      (s.f R.BBX_STAT_STATE ∉ [1, 3, 4] → t.f R.BBX_STAT_CMD_BAD = 1 ∧ t.nvs = s.nvs)) ∧
    (∀ area < 2, ∃ t, exec (.load (wordOf (8 + 256 * area))) s = .next t ∧
      (s.boxRecords = true → s.reg (R.BBX_ASEQ area) ≠ 0 → s.nvs.queue.length < 16 → t.nvs.loading = true ∧ t.f R.NVS_QFILL_FILL = s.nvs.queue.length + 1 ∧
        t.nvs.queue = s.nvs.queue ++ [⟨.load area, [.read (0x1200000 + area * 0x100000) 4096], none, 0x1200000 + area * 0x100000, false⟩]) ∧
      ((s.boxRecords = false ∨ s.reg (R.BBX_ASEQ area) = 0 ∨ 16 ≤ s.nvs.queue.length) → t.f R.BBX_STAT_CMD_BAD = 1 ∧ t.nvs = s.nvs)) ∧
    (∀ area < 2, ∃ t, exec (.erase (wordOf (16 + 256 * area))) s = .next t ∧
      (s.areaBusy area = false → s.nvs.queue.length < 16 → t.f R.NVS_QFILL_FILL = s.nvs.queue.length + 1 ∧ t.nvs.queue = s.nvs.queue ++
        [⟨.erase area, (List.range 129).map (fun k => .erase (0x1200000 + area * 0x100000 + 4096 * k)), none, 0x1200000 + area * 0x100000, false⟩]) ∧
      ((s.areaBusy area = true ∨ 16 ≤ s.nvs.queue.length) → t.f R.BBX_STAT_CMD_BAD = 1 ∧ t.nvs = s.nvs))

/-- R30, R408, R414, R415, R417, R418, R424, R426: a bank switch is queued; an operation starts when the hold-up energy covers it, and else waits for the next
conversion; its end programs or erases the flash, or is a media error, and lets a reload that waits into the queue. -/
def Obligations.FlashOperationsRun : Prop :=
  (∀ (v : Word) (rest : List (Nat × Word)) (s : State), s.host.accepted = (R.NVS_SWITCH, v) :: rest →
    ∃ t, exec .nvsSwitch s = .next t ∧ t.host.accepted = rest ∧
      ((s.commitRefused (v.toNat % 2) = true ∨ s.bankCommits (v.toNat % 2) = true ∨ 16 ≤ s.nvs.queue.length) →
        t.f R.NVS_STAT_CMD_BAD = 1 ∧ t.nvs = s.nvs) ∧
      (s.commitRefused (v.toNat % 2) = false → s.bankCommits (v.toNat % 2) = false → s.nvs.queue.length < 16 →
        ∃ q, t.nvs.queue = s.nvs.queue ++ [q] ∧ q.job = .commit (v.toNat % 2) ∧ q.tag = none)) ∧
  (∀ (q : FlashReq) (rest : List FlashReq) (x : FlashStep) (more : List FlashStep) (s : State), s.nvs.run = none → s.nvs.commit = none →
    s.nvs.queue = q :: rest → q.steps = x :: more → ∃ t, exec .flashOperationStart s = .next t ∧
      (s.nvs.wait = some .head → t = s) ∧
      (s.nvs.wait ≠ some .head → s.covered (s.stepClk x) (isRead x) = true → t.nvs.run = some (.head, s.clk + s.stepClk x) ∧ t.f R.NVS_STAT_BUSY = 1) ∧
      (s.nvs.wait ≠ some .head → s.covered (s.stepClk x) (isRead x) = false → t.nvs.run = none ∧ t.nvs.wait = some .head ∧
        (q.deferred = false → t.f R.NVS_STAT_DEFER = 1 ∧ Counts R.NVS_DEFER_CNT_COUNT 1 s t ∧ Pends t 0x81) ∧
        (q.deferred = true → t.nvs.queue = s.nvs.queue ∧ t.f R.NVS_DEFER_CNT_COUNT = s.f R.NVS_DEFER_CNT_COUNT))) ∧
  (∀ (c : BoxCommit) (s : State), s.nvs.run = none → s.nvs.commit = some c → ∃ t, exec .flashOperationStart s = .next t ∧
      (s.nvs.wait = some (.boxed c.next) → c.pf = false → t = s) ∧
      ((s.nvs.wait ≠ some (.boxed c.next) ∨ c.pf = true) → s.covered (s.boxClk c.next) false = true →
        t.nvs.run = some (.boxed c.next, s.clk + s.boxClk c.next) ∧ t.f R.NVS_STAT_BUSY = 1) ∧
      (s.covered (s.boxClk c.next) false = false → c.pf = true → t.nvs.commit = none ∧ t.f R.BBX_STAT_SHORT = 1 ∧ t.f R.BBX_STAT_STATE = 3) ∧
      (s.nvs.wait ≠ some (.boxed c.next) → s.covered (s.boxClk c.next) false = false → c.pf = false →
        t.nvs.wait = some (.boxed c.next) ∧ t.nvs.commit = s.nvs.commit ∧ t.nvs.run = none)) ∧
  (∀ (q : FlashReq) (rest : List FlashReq) (x : FlashStep) (more : List FlashStep) (n : Nat) (s : State), s.nvs.run = some (.head, n) → n ≤ s.clk →
    s.nvs.queue = q :: rest → q.steps = x :: more → (∀ p, q.job = .reload p → p < 16) → (∀ b, q.job = .commit b → b < 2) →
    (∃ t, exec (.flashOperationEnd false) s = .next t ∧ t.nvs.run = none ∧ t.nvs.queue = queueNext s rest ∧ t.f R.NVS_STAT_MEDIA = 1 ∧ t.f R.NVS_STAT_BUSY = 0 ∧
      Counts R.NVS_ERR_CNT_COUNT 1 s t ∧ Pends t 0x85) ∧
    ∃ t, exec (.flashOperationEnd true) s = .next t ∧ t.nvs.run = none ∧ t.f R.NVS_STAT_BUSY = 0 ∧
      (∀ a bs, x = .prog a bs → ∀ i < bs.length, tabGet flashErased t.nvs.flash (a + i) = tabGet flashErased s.nvs.flash (a + i) &&& bs.getD i 0) ∧
      (∀ a, x = .erase a → ∀ i < 4096, tabGet flashErased t.nvs.flash (a + i) = 0xFF) ∧
      (∀ b off ws, q.job = .write b off ws → more = [] → b < 2 → off + ws.length ≤ 262144 → t.nvs.queue = queueNext s rest ∧ Pends t 0x80 ∧
        t.f (R.NVS_WP_WP b) = off + ws.length) ∧
      (∀ b off ws, q.job = .write b off ws → more ≠ [] → t.nvs.queue = { q with steps := more } :: rest)) ∧
  (∀ (c : BoxCommit) (n k : Nat) (s : State), s.nvs.run = some (.boxed k, n) → n ≤ s.clk → s.nvs.commit = some c → 0 < k → k ≤ 128 →
    ∃ t, exec (.flashOperationEnd true) s = .next t ∧ t.f R.BBX_TILES_DONE = k ∧ Pends t 0x83 ∧
      (k < c.need → t.nvs.commit = some { c with next := k + 1 }) ∧ (c.need ≤ k → t.nvs.commit = none ∧ t.f R.BBX_STAT_STATE = 3))

/-! ## Resets, clocks and boot -/

/-- R32, R363, R432, R440: the resets of host scope empty the queues and set their cause; nothing else changes but the HIF registers, the MSI-X
configuration and messages not sent. A packet in execution goes on, and its completion is of an older generation, which is not written. -/
def Obligations.HostResetsTouchTheHostInterfaceOnly : Prop :=
  (∀ (hot : Bool) (s : State), tabWf (fun _ => Core.idle) s.hif.cores = true → ∃ t, exec (.functionLevelReset hot) s = .next t ∧
    Frame [.hif, .evt] (fun a => (0x220000 ≤ a ∧ a < 0x221000 ∧ a ≠ R.HIF_LINK) ∨ a = R.GLB_RST_CAUSE) s t ∧ t.f R.GLB_RST_CAUSE_FLR = 1 ∧
    (∀ q < 4, t.sqHead q = 0 ∧ t.sqTail q = 0) ∧ t.cqFill = 0 ∧ t.f R.HIF_CQ_PTR_HEAD = 0 ∧ t.f R.HIF_CQ_PTR_PHASE = 1 ∧ t.hif.bell = [] ∧
    t.hif.gen = s.hif.gen + 1 ∧ t.evt.msgs = [] ∧ t.evt.latch = s.evt.latch ∧ t.hif.waits = s.hif.waits ∧
    ∀ k < 2, (t.core k).cur = (s.core k).cur) ∧
  (∀ (v : Word) (rest : List (Nat × Word)) (s : State), s.host.accepted = (R.GLB_SWRST, v) :: rest →
    ∃ t, exec .softwareResetHost s = .next t ∧ t.host.accepted = rest ∧
      Frame [.host, .hif, .evt] (fun a => (0x220000 ≤ a ∧ a < 0x221000 ∧ a ≠ R.HIF_LINK) ∨ a = R.GLB_RST_CAUSE) s t ∧ t.f R.GLB_RST_CAUSE_SW = 1 ∧
      (∀ q < 4, t.sqHead q = 0 ∧ t.sqTail q = 0) ∧ t.cqFill = 0 ∧ t.hif.bell = []) ∧
  (∀ s : State, ∃ t, exec .perst s = .next t ∧ t.f R.GLB_RST_CAUSE_PERST = 1 ∧ (s.f R.HIF_LINK_UP = 1 → t.reg R.HIF_LINK = 0) ∧
    (∀ q < 4, t.sqHead q = 0 ∧ t.sqTail q = 0) ∧ t.cqFill = 0 ∧ t.hif.bell = [] ∧ t.deck = s.deck ∧ t.axes = s.axes ∧ t.kst = s.kst ∧ t.acq = s.acq ∧
    t.ring = s.ring) ∧
  (∀ s : State, ∃ t, exec .pcieLinkDown s = .next t ∧ t.hif = s.hif ∧ (s.f R.HIF_LINK_UP = 0 → t = s) ∧
    (s.f R.HIF_LINK_UP = 1 → t.reg R.HIF_LINK = 0 ∧ t.f R.HIF_STAT_LINKDN = 1 ∧ Pends t 0xE1)) ∧
  (∀ (width speed : Nat) (s : State), s.pllLocked 4 = true → width ∈ [1, 2, 4] → speed ∈ [1, 2, 3] → ∃ t, exec (.pcieLinkUp width speed) s = .next t ∧
    t.f R.HIF_LINK_UP = 1 ∧ t.f R.HIF_LINK_WIDTH = width ∧ t.f R.HIF_LINK_SPEED = speed ∧ t.hif = s.hif)

/-- R431 to R433, R435, R440, R448: a full reset resets every block but the flash contents and the confirmation store; a core reset resets every block but
Keystone, the PCIe endpoint and its link, and boots from step 3. That the waiting commands and the count of free values stay is the model's choice (log entry 2). -/
def Obligations.FullAndCoreResets : Prop :=
  (∀ (c : Instr) (s : State), (c = .powerOn ∨ ∃ r, c = .supplyBrownout r) → ∃ t, exec c s = .next t ∧
    Frame [.queue, .free, .nvs, .flash, .kst, .kstConf] (fun _ => False) State.reset t ∧ t.pending = s.pending ∧ t.kst.conf = s.kst.conf ∧
    (s.nvs.run = none → t.nvs = { Nvs.reset with flash := s.nvs.flash }) ∧ t.f R.GLB_RST_CAUSE_POR = 1) ∧
  (∀ (c : Instr) (x : Fld) (s : State), ((c = .resetPin ∧ x = R.GLB_RST_CAUSE_PIN) ∨ (c = .softwareResetFull ∧ s.resetDue 3 = true ∧ x = R.GLB_RST_CAUSE_SW)) →
    ∃ t, exec c s = .next t ∧ Frame [.queue, .free, .host, .nvs, .flash, .kst, .kstConf] (· = R.GLB_RST_CAUSE) State.reset t ∧ t.pending = s.pending ∧
      t.kst.conf = s.kst.conf ∧ (s.nvs.run = none → t.nvs = { Nvs.reset with flash := s.nvs.flash }) ∧ t.host.pw = none ∧
      t.reg R.GLB_RST_CAUSE = s.reg R.GLB_RST_CAUSE ||| wordOf (2 ^ x.lo)) ∧
  (∀ s : State, s.resetDue 2 = true → ∃ t, exec .softwareResetCore s = .next t ∧ t.f R.GLB_BOOT_STATE = 3 ∧ t.host.coreBoot = true ∧
    t.f R.GLB_RST_CAUSE_SW = 1 ∧ t.f R.GLB_RST_CAUSE_SWCORE = 1 ∧ t.kst = { s.kst with builtBc := none } ∧
    (∀ a, 0x200000 ≤ a → a < 0x202000 → t.reg a = s.reg a) ∧ t.reg R.HIF_LINK = s.reg R.HIF_LINK ∧ t.evt.msixMask = s.evt.msixMask ∧
    (s.nvs.run = none → t.nvs.flash = s.nvs.flash) ∧ t.clk = s.clk ∧
    Frame [.queue, .clk, .free, .host, .evt, .cyc, .kst, .kstImg, .kstConf, .krefLost, .acq, .nvs, .flash] (fun a => (0x200000 ≤ a ∧ a < 0x202000) ∨
      a ∈ [R.GLB_RST_CAUSE, R.HIF_LINK, R.NVS_SIZE, R.GLB_CLK_STAT, R.NVS_T_PP, R.NVS_T_SE, R.NVS_STAT, R.PWM_FLT_STAT, R.GLB_BOOT]) State.reset t) ∧
  (∀ (scope n : Nat) (s : State), (scope = 2 ∨ scope = 3) → s.host.swrst = some (scope, n) → (s.clk < n + 64 ∨ s.flashWrites = true) →
    exec .softwareResetCore s = .next s ∧ exec .softwareResetFull s = .next s)

/-- R29, R430, R440: what the lock of a PLL and its failure do. R439, R440: of the JTAG instructions only BYPASS and IDCODE act while RESET_N is high. -/
def Obligations.PllsAndDebugPort : Prop :=
  ((∀ (i : Fin 6) (s : State), ¬ (i.val = 0 ∧ s.sysLost = true) → ∃ t, exec (.pllLock i) s = .next t ∧ t.pllLocked i.val = true ∧
      ∀ j, j ≠ i.val → t.pllLocked j = s.pllLocked j) ∧
    (∀ (i : Fin 6) (s : State), ∃ t, exec (.pllLockTimeout i) s = .next t ∧ t.pllLocked i.val = false ∧ (t.f R.GLB_CLK_STAT_FAIL).testBit i.val = true ∧
      (∀ j, j ≠ i.val → t.pllLocked j = s.pllLocked j) ∧
      (i.val = 0 → s.pllLocked 0 = true → t.sysLost = true) ∧
      (i.val = 1 → t.f R.DDR_STAT_TFAIL = 1 ∧ t.f R.DDR_STAT_TRAINED = 0) ∧
      (i.val = 4 → s.f R.HIF_LINK_UP = 1 → t.reg R.HIF_LINK = 0 ∧ Pends t 0xE1) ∧
      (i.val = 5 → s.pllLocked 5 = true → t.krefLost = true) ∧ (i.val = 2 → ∀ p < 4, t.f (R.ZLP_P_STAT_LINK p) = 0))) ∧
  (∀ (ir : JtagIr) (resetLow : Bool) (s : State), ∃ t, exec (.jtagInstruction ir resetLow) s = .next t ∧ Frame [.host] (· = R.GLB_DBG) s t ∧
      t.host.jtag = (if ir = .idcode then .idcode else if resetLow = true ∧ (ir = .extest ∨ ir = .sample) then ir else .bypass) ∧
      t.jtagData = (if ir = .idcode then some 0x11440A1B else none) ∧
      t.f R.GLB_DBG_EXTEST = (if resetLow = true ∧ (ir = .extest ∨ ir = .sample) then 1 else 0))

/-- R411, R413, R430, R434, R440: the steps of the boot, by `GLB_BOOT.STATE`. A step that fails sets STATE 15 and its code; that the boot-done event is
raised then too is the model's choice (log entry 83). -/
def Obligations.BootTakesItsSteps : Prop :=
  ∀ (e : BootEnv) (s : State), ∃ t, exec (.boot e) s = .next t ∧
    (s.f R.GLB_BOOT_STATE = 0 → t.f R.GLB_BOOT_STATE = 1) ∧
    (s.f R.GLB_BOOT_STATE = 1 → s.pllLocked 0 = true → t.f R.GLB_BOOT_STATE = 2) ∧
    (s.f R.GLB_BOOT_STATE = 1 → s.pllLocked 0 = false → (s.f R.GLB_CLK_STAT_FAIL).testBit 0 = true → t.f R.GLB_BOOT_STATE = 15 ∧ t.f R.GLB_BOOT_CODE = 1) ∧
    (s.f R.GLB_BOOT_STATE = 1 → s.pllLocked 0 = false → (s.f R.GLB_CLK_STAT_FAIL).testBit 0 = false → t = s) ∧
    (s.f R.GLB_BOOT_STATE = 2 → e.sfdp = none → t.f R.GLB_BOOT_STATE = 15 ∧ t.f R.GLB_BOOT_CODE = 2 ∧ Pends t 0x03) ∧
    (∀ mb tpp tse, s.f R.GLB_BOOT_STATE = 2 → e.sfdp = some (mb, tpp, tse) → t.f R.GLB_BOOT_STATE = 3 ∧ t.f R.NVS_STAT_SFDP_OK = 1 ∧
      t.reg R.NVS_T_PP = wordOf tpp ∧ t.reg R.NVS_T_SE = wordOf tse) ∧
    (s.f R.GLB_BOOT_STATE = 3 → s.imageOk e = false → t.f R.GLB_BOOT_STATE = 15 ∧ t.f R.GLB_BOOT_CODE = 3) ∧
    (s.f R.GLB_BOOT_STATE = 3 → s.imageOk e = true → e.readOk = false → t.f R.GLB_BOOT_STATE = 15 ∧ t.f R.GLB_BOOT_CODE = 6) ∧
    (s.f R.GLB_BOOT_STATE = 3 → s.imageOk e = true → e.readOk = true → t.f R.GLB_BOOT_STATE = 4 ∧ t.reg R.NVS_IMG_VER = s.flashWord 4 ∧
      ∀ p < 16, t.f (R.PIR_STAT_STATE p) = 1) ∧
    (s.f R.GLB_BOOT_STATE = 4 → e.sigOk = true → t = s.bootTo 5) ∧
    (s.f R.GLB_BOOT_STATE = 4 → e.sigOk = false → t.f R.GLB_BOOT_STATE = 15 ∧ t.f R.GLB_BOOT_CODE = 4 ∧ t.deck.uc = []) ∧
    (s.f R.GLB_BOOT_STATE = 5 → t.f R.GLB_BOOT_STATE = 6 ∧ ∀ p < 16, t.reg (R.PIR_UC_VER p) = e.ucVer ∧ t.reg (R.PIR_UC_CRC p) = e.ucCrc) ∧
    (s.f R.GLB_BOOT_STATE = 6 → (t.host.bootList = none ↔ t.f R.GLB_BOOT_STATE = 7) ∧ (t.host.bootList ≠ none → t.f R.GLB_BOOT_STATE = 6)) ∧
    (s.f R.GLB_BOOT_STATE = 6 → s.host.bootList = none → s.bankChoice = none → t.f R.GLB_BOOT_STATE = 7 ∧ t.reg R.NVS_STAT = s.reg R.NVS_STAT) ∧
    (∀ b, s.f R.GLB_BOOT_STATE = 6 → s.host.bootList = none → s.bankChoice = some b → t.f R.NVS_STAT_ACT = b ∧ t.f R.NVS_STAT_NOACT = 0) ∧
    (∀ a v rest n, s.f R.GLB_BOOT_STATE = 6 → s.host.bootList = some (a :: v :: rest, n) → a ≠ 0xFFFFFFFF → s.clk < n → t = s) ∧
    (∀ v rest n, s.f R.GLB_BOOT_STATE = 6 → s.host.bootList = some (0xFFFFFFFF :: v :: rest, n) → t.f R.GLB_BOOT_STATE = 7) ∧
    (∀ a v n, s.f R.GLB_BOOT_STATE = 6 → s.host.bootList = some ([a, v], n) → a ≠ 0xFFFFFFFF → n ≤ s.clk → t.f R.GLB_BOOT_STATE = 7 ∧
      ((a.toNat % 4 ≠ 0 ∨ isMapped a.toNat = false) → Counts R.GLB_BOOT_LSKIP 1 s t)) ∧
    (s.f R.GLB_BOOT_STATE = 7 → (t.f R.DDR_STAT_TRAINED = 1 ↔ e.ddrOk = true ∧ s.pllLocked 1 = true ∧ s.f R.DDR_CFG_RATE ≠ 3)) ∧
    (s.f R.GLB_BOOT_STATE = 7 → s.f R.GLB_BOOTCFG_AUTO_START = 0 → t.f R.GLB_BOOT_STATE = 9 ∧ t.f R.GLB_BOOT_RSTAT = 0xFF ∧ Pends t 0x03) ∧
    (s.f R.GLB_BOOT_STATE = 7 → s.f R.GLB_BOOTCFG_AUTO_START = 1 → t.f R.GLB_BOOT_STATE = 8) ∧
    (s.f R.GLB_BOOT_STATE = 8 → s.bootWaits = true → t = s) ∧
    (s.f R.GLB_BOOT_STATE = 9 ∨ s.f R.GLB_BOOT_STATE = 15 → t = s)

/-! ## The whole block -/

/-- What a command changes: nothing beside the parts of the state and the registers listed for it. Each list is a consequence of the rules that name the
command. -/
def Obligations.CommandsKeepTheirFrames : Prop :=
  ∀ (c : Instr) (s t : State), exec c s = .next t → Frame (partsOf c) (regsOf c) s t

/-- Every command is carried out: none stops the block. With no command waiting one clk of SYSCLK passes: the model choice of log entry 1. -/
def Obligations.EveryStepAnswersANextState : Prop :=
  (∀ (c : Instr) (s : State), ∃ t, exec c s = .next t) ∧
  (∀ s : State, s.pending = [] → step s = .next s.tick ∧ (s.sysLost = false → s.tick.clk = s.clk + 1) ∧ (s.sysLost = true → s.tick.clk = s.clk))

/-- R33: the nanoseconds of network time stay below 1,000,000,000 in every step. -/
def Obligations.NetworkTimeStaysLegal : Prop :=
  ∀ s t : State, NtLegal s → step s = .next t → NtLegal t

/-- What State.reset holds of what the spec gives for reset: a power-on, the first boot step, network time 0 and legal, the nominal increment, the queues
empty, the span IDLE, no bank active, and every register at the reset value of its table. -/
def Obligations.ResetLeavesTheStatedValues : Prop :=
  NtLegal State.reset ∧ State.reset.nt = NetTime.zero ∧ State.reset.inc = 0x140000000 ∧ State.reset.pending = [] ∧
  (∀ a, isTv a = false → State.reset.reg a = regReset a) ∧
  State.reset.f R.GLB_BOOT_STATE = 0 ∧ State.reset.f R.GLB_RST_CAUSE_POR = 1 ∧ State.reset.f R.ZLP_SSTAT_STATE = 0 ∧ State.reset.f R.NVS_STAT_NOACT = 1 ∧
  State.reset.f R.HIF_CQ_PTR_PHASE = 1 ∧ State.reset.cqFill = 0 ∧ State.reset.evtFill = 0 ∧ State.reset.reg R.GLB_SWRST = 0
end

