-- ==== Sys2Proof/Laws/State.lean ====
section
/-! SUPPORT. What the writers of registers leave alone: one lemma per field of State and per operation, so that no proof unfolds a record update. -/

namespace Sys2Proof.Machine

@[simp] theorem State.putReg_pending (s : State) (a : Nat) (v : Word) : (s.putReg a v).pending = s.pending := by
  unfold State.putReg; split <;> rfl
@[simp] theorem State.putReg_clk (s : State) (a : Nat) (v : Word) : (s.putReg a v).clk = s.clk := by
  unfold State.putReg; split <;> rfl
@[simp] theorem State.putReg_free (s : State) (a : Nat) (v : Word) : (s.putReg a v).free = s.free := by
  unfold State.putReg; split <;> rfl
@[simp] theorem State.putReg_nt (s : State) (a : Nat) (v : Word) : (s.putReg a v).nt = s.nt := by
  unfold State.putReg; split <;> rfl
@[simp] theorem State.putReg_inc (s : State) (a : Nat) (v : Word) : (s.putReg a v).inc = s.inc := by
  unfold State.putReg; split <;> rfl
@[simp] theorem State.putReg_host (s : State) (a : Nat) (v : Word) : (s.putReg a v).host = s.host := by
  unfold State.putReg; split <;> rfl
@[simp] theorem State.putReg_evt (s : State) (a : Nat) (v : Word) : (s.putReg a v).evt = s.evt := by
  unfold State.putReg; split <;> rfl
@[simp] theorem State.putReg_cyc (s : State) (a : Nat) (v : Word) : (s.putReg a v).cyc = s.cyc := by
  unfold State.putReg; split <;> rfl
@[simp] theorem State.putReg_chn (s : State) (a : Nat) (v : Word) : (s.putReg a v).chn = s.chn := by
  unfold State.putReg; split <;> rfl
@[simp] theorem State.putReg_est (s : State) (a : Nat) (v : Word) : (s.putReg a v).est = s.est := by
  unfold State.putReg; split <;> rfl
@[simp] theorem State.putReg_cap (s : State) (a : Nat) (v : Word) : (s.putReg a v).cap = s.cap := by
  unfold State.putReg; split <;> rfl
@[simp] theorem State.putReg_dsp (s : State) (a : Nat) (v : Word) : (s.putReg a v).dsp = s.dsp := by
  unfold State.putReg; split <;> rfl
@[simp] theorem State.putReg_piers (s : State) (a : Nat) (v : Word) : (s.putReg a v).piers = s.piers := by
  unfold State.putReg; split <;> rfl
@[simp] theorem State.putReg_axes (s : State) (a : Nat) (v : Word) : (s.putReg a v).axes = s.axes := by
  unfold State.putReg; split <;> rfl
@[simp] theorem State.putReg_deck (s : State) (a : Nat) (v : Word) : (s.putReg a v).deck = s.deck := by
  unfold State.putReg; split <;> rfl
@[simp] theorem State.putReg_pwr (s : State) (a : Nat) (v : Word) : (s.putReg a v).pwr = s.pwr := by
  unfold State.putReg; split <;> rfl
@[simp] theorem State.putReg_hif (s : State) (a : Nat) (v : Word) : (s.putReg a v).hif = s.hif := by
  unfold State.putReg; split <;> rfl
@[simp] theorem State.putReg_ring (s : State) (a : Nat) (v : Word) : (s.putReg a v).ring = s.ring := by
  unfold State.putReg; split <;> rfl
@[simp] theorem State.putReg_twn (s : State) (a : Nat) (v : Word) : (s.putReg a v).twn = s.twn := by
  unfold State.putReg; split <;> rfl
@[simp] theorem State.putReg_kst (s : State) (a : Nat) (v : Word) : (s.putReg a v).kst = s.kst := by
  unfold State.putReg; split <;> rfl
@[simp] theorem State.putReg_acq (s : State) (a : Nat) (v : Word) : (s.putReg a v).acq = s.acq := by
  unfold State.putReg; split <;> rfl
@[simp] theorem State.putReg_nvs (s : State) (a : Nat) (v : Word) : (s.putReg a v).nvs = s.nvs := by
  unfold State.putReg; split <;> rfl
@[simp] theorem State.putReg_krefLost (s : State) (a : Nat) (v : Word) : (s.putReg a v).krefLost = s.krefLost := by
  unfold State.putReg; split <;> rfl
@[simp] theorem State.putReg_sysLost (s : State) (a : Nat) (v : Word) : (s.putReg a v).sysLost = s.sysLost := by
  unfold State.putReg; split <;> rfl
@[simp] theorem State.putReg_fbDone (s : State) (a : Nat) (v : Word) : (s.putReg a v).fbDone = s.fbDone := by
  unfold State.putReg; split <;> rfl

@[simp] theorem State.setF_pending (s : State) (x : Fld) (v : Nat) : (s.setF x v).pending = s.pending := State.putReg_pending ..
@[simp] theorem State.setF_clk (s : State) (x : Fld) (v : Nat) : (s.setF x v).clk = s.clk := State.putReg_clk ..
@[simp] theorem State.setF_free (s : State) (x : Fld) (v : Nat) : (s.setF x v).free = s.free := State.putReg_free ..
@[simp] theorem State.setF_nt (s : State) (x : Fld) (v : Nat) : (s.setF x v).nt = s.nt := State.putReg_nt ..
@[simp] theorem State.setF_inc (s : State) (x : Fld) (v : Nat) : (s.setF x v).inc = s.inc := State.putReg_inc ..
@[simp] theorem State.setF_host (s : State) (x : Fld) (v : Nat) : (s.setF x v).host = s.host := State.putReg_host ..
@[simp] theorem State.setF_evt (s : State) (x : Fld) (v : Nat) : (s.setF x v).evt = s.evt := State.putReg_evt ..
@[simp] theorem State.setF_cyc (s : State) (x : Fld) (v : Nat) : (s.setF x v).cyc = s.cyc := State.putReg_cyc ..
@[simp] theorem State.setF_chn (s : State) (x : Fld) (v : Nat) : (s.setF x v).chn = s.chn := State.putReg_chn ..
@[simp] theorem State.setF_est (s : State) (x : Fld) (v : Nat) : (s.setF x v).est = s.est := State.putReg_est ..
@[simp] theorem State.setF_cap (s : State) (x : Fld) (v : Nat) : (s.setF x v).cap = s.cap := State.putReg_cap ..
@[simp] theorem State.setF_dsp (s : State) (x : Fld) (v : Nat) : (s.setF x v).dsp = s.dsp := State.putReg_dsp ..
@[simp] theorem State.setF_piers (s : State) (x : Fld) (v : Nat) : (s.setF x v).piers = s.piers := State.putReg_piers ..
@[simp] theorem State.setF_axes (s : State) (x : Fld) (v : Nat) : (s.setF x v).axes = s.axes := State.putReg_axes ..
@[simp] theorem State.setF_deck (s : State) (x : Fld) (v : Nat) : (s.setF x v).deck = s.deck := State.putReg_deck ..
@[simp] theorem State.setF_pwr (s : State) (x : Fld) (v : Nat) : (s.setF x v).pwr = s.pwr := State.putReg_pwr ..
@[simp] theorem State.setF_hif (s : State) (x : Fld) (v : Nat) : (s.setF x v).hif = s.hif := State.putReg_hif ..
@[simp] theorem State.setF_ring (s : State) (x : Fld) (v : Nat) : (s.setF x v).ring = s.ring := State.putReg_ring ..
@[simp] theorem State.setF_twn (s : State) (x : Fld) (v : Nat) : (s.setF x v).twn = s.twn := State.putReg_twn ..
@[simp] theorem State.setF_kst (s : State) (x : Fld) (v : Nat) : (s.setF x v).kst = s.kst := State.putReg_kst ..
@[simp] theorem State.setF_acq (s : State) (x : Fld) (v : Nat) : (s.setF x v).acq = s.acq := State.putReg_acq ..
@[simp] theorem State.setF_nvs (s : State) (x : Fld) (v : Nat) : (s.setF x v).nvs = s.nvs := State.putReg_nvs ..
@[simp] theorem State.setF_krefLost (s : State) (x : Fld) (v : Nat) : (s.setF x v).krefLost = s.krefLost := State.putReg_krefLost ..
@[simp] theorem State.setF_sysLost (s : State) (x : Fld) (v : Nat) : (s.setF x v).sysLost = s.sysLost := State.putReg_sysLost ..
@[simp] theorem State.setF_fbDone (s : State) (x : Fld) (v : Nat) : (s.setF x v).fbDone = s.fbDone := State.putReg_fbDone ..

@[simp] theorem State.set1_pending (s : State) (x : Fld) : (s.set1 x).pending = s.pending := State.putReg_pending ..
@[simp] theorem State.set1_clk (s : State) (x : Fld) : (s.set1 x).clk = s.clk := State.putReg_clk ..
@[simp] theorem State.set1_free (s : State) (x : Fld) : (s.set1 x).free = s.free := State.putReg_free ..
@[simp] theorem State.set1_nt (s : State) (x : Fld) : (s.set1 x).nt = s.nt := State.putReg_nt ..
@[simp] theorem State.set1_inc (s : State) (x : Fld) : (s.set1 x).inc = s.inc := State.putReg_inc ..
@[simp] theorem State.set1_host (s : State) (x : Fld) : (s.set1 x).host = s.host := State.putReg_host ..
@[simp] theorem State.set1_evt (s : State) (x : Fld) : (s.set1 x).evt = s.evt := State.putReg_evt ..
@[simp] theorem State.set1_cyc (s : State) (x : Fld) : (s.set1 x).cyc = s.cyc := State.putReg_cyc ..
@[simp] theorem State.set1_chn (s : State) (x : Fld) : (s.set1 x).chn = s.chn := State.putReg_chn ..
@[simp] theorem State.set1_est (s : State) (x : Fld) : (s.set1 x).est = s.est := State.putReg_est ..
@[simp] theorem State.set1_cap (s : State) (x : Fld) : (s.set1 x).cap = s.cap := State.putReg_cap ..
@[simp] theorem State.set1_dsp (s : State) (x : Fld) : (s.set1 x).dsp = s.dsp := State.putReg_dsp ..
@[simp] theorem State.set1_piers (s : State) (x : Fld) : (s.set1 x).piers = s.piers := State.putReg_piers ..
@[simp] theorem State.set1_axes (s : State) (x : Fld) : (s.set1 x).axes = s.axes := State.putReg_axes ..
@[simp] theorem State.set1_deck (s : State) (x : Fld) : (s.set1 x).deck = s.deck := State.putReg_deck ..
@[simp] theorem State.set1_pwr (s : State) (x : Fld) : (s.set1 x).pwr = s.pwr := State.putReg_pwr ..
@[simp] theorem State.set1_hif (s : State) (x : Fld) : (s.set1 x).hif = s.hif := State.putReg_hif ..
@[simp] theorem State.set1_ring (s : State) (x : Fld) : (s.set1 x).ring = s.ring := State.putReg_ring ..
@[simp] theorem State.set1_twn (s : State) (x : Fld) : (s.set1 x).twn = s.twn := State.putReg_twn ..
@[simp] theorem State.set1_kst (s : State) (x : Fld) : (s.set1 x).kst = s.kst := State.putReg_kst ..
@[simp] theorem State.set1_acq (s : State) (x : Fld) : (s.set1 x).acq = s.acq := State.putReg_acq ..
@[simp] theorem State.set1_nvs (s : State) (x : Fld) : (s.set1 x).nvs = s.nvs := State.putReg_nvs ..
@[simp] theorem State.set1_krefLost (s : State) (x : Fld) : (s.set1 x).krefLost = s.krefLost := State.putReg_krefLost ..
@[simp] theorem State.set1_sysLost (s : State) (x : Fld) : (s.set1 x).sysLost = s.sysLost := State.putReg_sysLost ..
@[simp] theorem State.set1_fbDone (s : State) (x : Fld) : (s.set1 x).fbDone = s.fbDone := State.putReg_fbDone ..

@[simp] theorem State.clr_pending (s : State) (x : Fld) : (s.clr x).pending = s.pending := State.putReg_pending ..
@[simp] theorem State.clr_clk (s : State) (x : Fld) : (s.clr x).clk = s.clk := State.putReg_clk ..
@[simp] theorem State.clr_free (s : State) (x : Fld) : (s.clr x).free = s.free := State.putReg_free ..
@[simp] theorem State.clr_nt (s : State) (x : Fld) : (s.clr x).nt = s.nt := State.putReg_nt ..
@[simp] theorem State.clr_inc (s : State) (x : Fld) : (s.clr x).inc = s.inc := State.putReg_inc ..
@[simp] theorem State.clr_host (s : State) (x : Fld) : (s.clr x).host = s.host := State.putReg_host ..
@[simp] theorem State.clr_evt (s : State) (x : Fld) : (s.clr x).evt = s.evt := State.putReg_evt ..
@[simp] theorem State.clr_cyc (s : State) (x : Fld) : (s.clr x).cyc = s.cyc := State.putReg_cyc ..
@[simp] theorem State.clr_chn (s : State) (x : Fld) : (s.clr x).chn = s.chn := State.putReg_chn ..
@[simp] theorem State.clr_est (s : State) (x : Fld) : (s.clr x).est = s.est := State.putReg_est ..
@[simp] theorem State.clr_cap (s : State) (x : Fld) : (s.clr x).cap = s.cap := State.putReg_cap ..
@[simp] theorem State.clr_dsp (s : State) (x : Fld) : (s.clr x).dsp = s.dsp := State.putReg_dsp ..
@[simp] theorem State.clr_piers (s : State) (x : Fld) : (s.clr x).piers = s.piers := State.putReg_piers ..
@[simp] theorem State.clr_axes (s : State) (x : Fld) : (s.clr x).axes = s.axes := State.putReg_axes ..
@[simp] theorem State.clr_deck (s : State) (x : Fld) : (s.clr x).deck = s.deck := State.putReg_deck ..
@[simp] theorem State.clr_pwr (s : State) (x : Fld) : (s.clr x).pwr = s.pwr := State.putReg_pwr ..
@[simp] theorem State.clr_hif (s : State) (x : Fld) : (s.clr x).hif = s.hif := State.putReg_hif ..
@[simp] theorem State.clr_ring (s : State) (x : Fld) : (s.clr x).ring = s.ring := State.putReg_ring ..
@[simp] theorem State.clr_twn (s : State) (x : Fld) : (s.clr x).twn = s.twn := State.putReg_twn ..
@[simp] theorem State.clr_kst (s : State) (x : Fld) : (s.clr x).kst = s.kst := State.putReg_kst ..
@[simp] theorem State.clr_acq (s : State) (x : Fld) : (s.clr x).acq = s.acq := State.putReg_acq ..
@[simp] theorem State.clr_nvs (s : State) (x : Fld) : (s.clr x).nvs = s.nvs := State.putReg_nvs ..
@[simp] theorem State.clr_krefLost (s : State) (x : Fld) : (s.clr x).krefLost = s.krefLost := State.putReg_krefLost ..
@[simp] theorem State.clr_sysLost (s : State) (x : Fld) : (s.clr x).sysLost = s.sysLost := State.putReg_sysLost ..
@[simp] theorem State.clr_fbDone (s : State) (x : Fld) : (s.clr x).fbDone = s.fbDone := State.putReg_fbDone ..

@[simp] theorem State.setB_pending (s : State) (x : Fld) (b : Bool) : (s.setB x b).pending = s.pending := State.putReg_pending ..
@[simp] theorem State.setB_clk (s : State) (x : Fld) (b : Bool) : (s.setB x b).clk = s.clk := State.putReg_clk ..
@[simp] theorem State.setB_free (s : State) (x : Fld) (b : Bool) : (s.setB x b).free = s.free := State.putReg_free ..
@[simp] theorem State.setB_nt (s : State) (x : Fld) (b : Bool) : (s.setB x b).nt = s.nt := State.putReg_nt ..
@[simp] theorem State.setB_inc (s : State) (x : Fld) (b : Bool) : (s.setB x b).inc = s.inc := State.putReg_inc ..
@[simp] theorem State.setB_host (s : State) (x : Fld) (b : Bool) : (s.setB x b).host = s.host := State.putReg_host ..
@[simp] theorem State.setB_evt (s : State) (x : Fld) (b : Bool) : (s.setB x b).evt = s.evt := State.putReg_evt ..
@[simp] theorem State.setB_cyc (s : State) (x : Fld) (b : Bool) : (s.setB x b).cyc = s.cyc := State.putReg_cyc ..
@[simp] theorem State.setB_chn (s : State) (x : Fld) (b : Bool) : (s.setB x b).chn = s.chn := State.putReg_chn ..
@[simp] theorem State.setB_est (s : State) (x : Fld) (b : Bool) : (s.setB x b).est = s.est := State.putReg_est ..
@[simp] theorem State.setB_cap (s : State) (x : Fld) (b : Bool) : (s.setB x b).cap = s.cap := State.putReg_cap ..
@[simp] theorem State.setB_dsp (s : State) (x : Fld) (b : Bool) : (s.setB x b).dsp = s.dsp := State.putReg_dsp ..
@[simp] theorem State.setB_piers (s : State) (x : Fld) (b : Bool) : (s.setB x b).piers = s.piers := State.putReg_piers ..
@[simp] theorem State.setB_axes (s : State) (x : Fld) (b : Bool) : (s.setB x b).axes = s.axes := State.putReg_axes ..
@[simp] theorem State.setB_deck (s : State) (x : Fld) (b : Bool) : (s.setB x b).deck = s.deck := State.putReg_deck ..
@[simp] theorem State.setB_pwr (s : State) (x : Fld) (b : Bool) : (s.setB x b).pwr = s.pwr := State.putReg_pwr ..
@[simp] theorem State.setB_hif (s : State) (x : Fld) (b : Bool) : (s.setB x b).hif = s.hif := State.putReg_hif ..
@[simp] theorem State.setB_ring (s : State) (x : Fld) (b : Bool) : (s.setB x b).ring = s.ring := State.putReg_ring ..
@[simp] theorem State.setB_twn (s : State) (x : Fld) (b : Bool) : (s.setB x b).twn = s.twn := State.putReg_twn ..
@[simp] theorem State.setB_kst (s : State) (x : Fld) (b : Bool) : (s.setB x b).kst = s.kst := State.putReg_kst ..
@[simp] theorem State.setB_acq (s : State) (x : Fld) (b : Bool) : (s.setB x b).acq = s.acq := State.putReg_acq ..
@[simp] theorem State.setB_nvs (s : State) (x : Fld) (b : Bool) : (s.setB x b).nvs = s.nvs := State.putReg_nvs ..
@[simp] theorem State.setB_krefLost (s : State) (x : Fld) (b : Bool) : (s.setB x b).krefLost = s.krefLost := State.putReg_krefLost ..
@[simp] theorem State.setB_sysLost (s : State) (x : Fld) (b : Bool) : (s.setB x b).sysLost = s.sysLost := State.putReg_sysLost ..
@[simp] theorem State.setB_fbDone (s : State) (x : Fld) (b : Bool) : (s.setB x b).fbDone = s.fbDone := State.putReg_fbDone ..

@[simp] theorem State.incSat_pending (s : State) (x : Fld) (n : Nat) : (s.incSat x n).pending = s.pending := State.putReg_pending ..
@[simp] theorem State.incSat_clk (s : State) (x : Fld) (n : Nat) : (s.incSat x n).clk = s.clk := State.putReg_clk ..
@[simp] theorem State.incSat_free (s : State) (x : Fld) (n : Nat) : (s.incSat x n).free = s.free := State.putReg_free ..
@[simp] theorem State.incSat_nt (s : State) (x : Fld) (n : Nat) : (s.incSat x n).nt = s.nt := State.putReg_nt ..
@[simp] theorem State.incSat_inc (s : State) (x : Fld) (n : Nat) : (s.incSat x n).inc = s.inc := State.putReg_inc ..
@[simp] theorem State.incSat_host (s : State) (x : Fld) (n : Nat) : (s.incSat x n).host = s.host := State.putReg_host ..
@[simp] theorem State.incSat_evt (s : State) (x : Fld) (n : Nat) : (s.incSat x n).evt = s.evt := State.putReg_evt ..
@[simp] theorem State.incSat_cyc (s : State) (x : Fld) (n : Nat) : (s.incSat x n).cyc = s.cyc := State.putReg_cyc ..
@[simp] theorem State.incSat_chn (s : State) (x : Fld) (n : Nat) : (s.incSat x n).chn = s.chn := State.putReg_chn ..
@[simp] theorem State.incSat_est (s : State) (x : Fld) (n : Nat) : (s.incSat x n).est = s.est := State.putReg_est ..
@[simp] theorem State.incSat_cap (s : State) (x : Fld) (n : Nat) : (s.incSat x n).cap = s.cap := State.putReg_cap ..
@[simp] theorem State.incSat_dsp (s : State) (x : Fld) (n : Nat) : (s.incSat x n).dsp = s.dsp := State.putReg_dsp ..
@[simp] theorem State.incSat_piers (s : State) (x : Fld) (n : Nat) : (s.incSat x n).piers = s.piers := State.putReg_piers ..
@[simp] theorem State.incSat_axes (s : State) (x : Fld) (n : Nat) : (s.incSat x n).axes = s.axes := State.putReg_axes ..
@[simp] theorem State.incSat_deck (s : State) (x : Fld) (n : Nat) : (s.incSat x n).deck = s.deck := State.putReg_deck ..
@[simp] theorem State.incSat_pwr (s : State) (x : Fld) (n : Nat) : (s.incSat x n).pwr = s.pwr := State.putReg_pwr ..
@[simp] theorem State.incSat_hif (s : State) (x : Fld) (n : Nat) : (s.incSat x n).hif = s.hif := State.putReg_hif ..
@[simp] theorem State.incSat_ring (s : State) (x : Fld) (n : Nat) : (s.incSat x n).ring = s.ring := State.putReg_ring ..
@[simp] theorem State.incSat_twn (s : State) (x : Fld) (n : Nat) : (s.incSat x n).twn = s.twn := State.putReg_twn ..
@[simp] theorem State.incSat_kst (s : State) (x : Fld) (n : Nat) : (s.incSat x n).kst = s.kst := State.putReg_kst ..
@[simp] theorem State.incSat_acq (s : State) (x : Fld) (n : Nat) : (s.incSat x n).acq = s.acq := State.putReg_acq ..
@[simp] theorem State.incSat_nvs (s : State) (x : Fld) (n : Nat) : (s.incSat x n).nvs = s.nvs := State.putReg_nvs ..
@[simp] theorem State.incSat_krefLost (s : State) (x : Fld) (n : Nat) : (s.incSat x n).krefLost = s.krefLost := State.putReg_krefLost ..
@[simp] theorem State.incSat_sysLost (s : State) (x : Fld) (n : Nat) : (s.incSat x n).sysLost = s.sysLost := State.putReg_sysLost ..
@[simp] theorem State.incSat_fbDone (s : State) (x : Fld) (n : Nat) : (s.incSat x n).fbDone = s.fbDone := State.putReg_fbDone ..

@[simp] theorem State.incWrap_pending (s : State) (x : Fld) (n : Nat) : (s.incWrap x n).pending = s.pending := State.putReg_pending ..
@[simp] theorem State.incWrap_clk (s : State) (x : Fld) (n : Nat) : (s.incWrap x n).clk = s.clk := State.putReg_clk ..
@[simp] theorem State.incWrap_free (s : State) (x : Fld) (n : Nat) : (s.incWrap x n).free = s.free := State.putReg_free ..
@[simp] theorem State.incWrap_nt (s : State) (x : Fld) (n : Nat) : (s.incWrap x n).nt = s.nt := State.putReg_nt ..
@[simp] theorem State.incWrap_inc (s : State) (x : Fld) (n : Nat) : (s.incWrap x n).inc = s.inc := State.putReg_inc ..
@[simp] theorem State.incWrap_host (s : State) (x : Fld) (n : Nat) : (s.incWrap x n).host = s.host := State.putReg_host ..
@[simp] theorem State.incWrap_evt (s : State) (x : Fld) (n : Nat) : (s.incWrap x n).evt = s.evt := State.putReg_evt ..
@[simp] theorem State.incWrap_cyc (s : State) (x : Fld) (n : Nat) : (s.incWrap x n).cyc = s.cyc := State.putReg_cyc ..
@[simp] theorem State.incWrap_chn (s : State) (x : Fld) (n : Nat) : (s.incWrap x n).chn = s.chn := State.putReg_chn ..
@[simp] theorem State.incWrap_est (s : State) (x : Fld) (n : Nat) : (s.incWrap x n).est = s.est := State.putReg_est ..
@[simp] theorem State.incWrap_cap (s : State) (x : Fld) (n : Nat) : (s.incWrap x n).cap = s.cap := State.putReg_cap ..
@[simp] theorem State.incWrap_dsp (s : State) (x : Fld) (n : Nat) : (s.incWrap x n).dsp = s.dsp := State.putReg_dsp ..
@[simp] theorem State.incWrap_piers (s : State) (x : Fld) (n : Nat) : (s.incWrap x n).piers = s.piers := State.putReg_piers ..
@[simp] theorem State.incWrap_axes (s : State) (x : Fld) (n : Nat) : (s.incWrap x n).axes = s.axes := State.putReg_axes ..
@[simp] theorem State.incWrap_deck (s : State) (x : Fld) (n : Nat) : (s.incWrap x n).deck = s.deck := State.putReg_deck ..
@[simp] theorem State.incWrap_pwr (s : State) (x : Fld) (n : Nat) : (s.incWrap x n).pwr = s.pwr := State.putReg_pwr ..
@[simp] theorem State.incWrap_hif (s : State) (x : Fld) (n : Nat) : (s.incWrap x n).hif = s.hif := State.putReg_hif ..
@[simp] theorem State.incWrap_ring (s : State) (x : Fld) (n : Nat) : (s.incWrap x n).ring = s.ring := State.putReg_ring ..
@[simp] theorem State.incWrap_twn (s : State) (x : Fld) (n : Nat) : (s.incWrap x n).twn = s.twn := State.putReg_twn ..
@[simp] theorem State.incWrap_kst (s : State) (x : Fld) (n : Nat) : (s.incWrap x n).kst = s.kst := State.putReg_kst ..
@[simp] theorem State.incWrap_acq (s : State) (x : Fld) (n : Nat) : (s.incWrap x n).acq = s.acq := State.putReg_acq ..
@[simp] theorem State.incWrap_nvs (s : State) (x : Fld) (n : Nat) : (s.incWrap x n).nvs = s.nvs := State.putReg_nvs ..
@[simp] theorem State.incWrap_krefLost (s : State) (x : Fld) (n : Nat) : (s.incWrap x n).krefLost = s.krefLost := State.putReg_krefLost ..
@[simp] theorem State.incWrap_sysLost (s : State) (x : Fld) (n : Nat) : (s.incWrap x n).sysLost = s.sysLost := State.putReg_sysLost ..
@[simp] theorem State.incWrap_fbDone (s : State) (x : Fld) (n : Nat) : (s.incWrap x n).fbDone = s.fbDone := State.putReg_fbDone ..

@[simp] theorem State.evtPend_pending (s : State) (n : Nat) : (s.evtPend n).pending = s.pending := State.putReg_pending ..
@[simp] theorem State.evtPend_clk (s : State) (n : Nat) : (s.evtPend n).clk = s.clk := State.putReg_clk ..
@[simp] theorem State.evtPend_free (s : State) (n : Nat) : (s.evtPend n).free = s.free := State.putReg_free ..
@[simp] theorem State.evtPend_nt (s : State) (n : Nat) : (s.evtPend n).nt = s.nt := State.putReg_nt ..
@[simp] theorem State.evtPend_inc (s : State) (n : Nat) : (s.evtPend n).inc = s.inc := State.putReg_inc ..
@[simp] theorem State.evtPend_host (s : State) (n : Nat) : (s.evtPend n).host = s.host := State.putReg_host ..
@[simp] theorem State.evtPend_evt (s : State) (n : Nat) : (s.evtPend n).evt = s.evt := State.putReg_evt ..
@[simp] theorem State.evtPend_cyc (s : State) (n : Nat) : (s.evtPend n).cyc = s.cyc := State.putReg_cyc ..
@[simp] theorem State.evtPend_chn (s : State) (n : Nat) : (s.evtPend n).chn = s.chn := State.putReg_chn ..
@[simp] theorem State.evtPend_est (s : State) (n : Nat) : (s.evtPend n).est = s.est := State.putReg_est ..
@[simp] theorem State.evtPend_cap (s : State) (n : Nat) : (s.evtPend n).cap = s.cap := State.putReg_cap ..
@[simp] theorem State.evtPend_dsp (s : State) (n : Nat) : (s.evtPend n).dsp = s.dsp := State.putReg_dsp ..
@[simp] theorem State.evtPend_piers (s : State) (n : Nat) : (s.evtPend n).piers = s.piers := State.putReg_piers ..
@[simp] theorem State.evtPend_axes (s : State) (n : Nat) : (s.evtPend n).axes = s.axes := State.putReg_axes ..
@[simp] theorem State.evtPend_deck (s : State) (n : Nat) : (s.evtPend n).deck = s.deck := State.putReg_deck ..
@[simp] theorem State.evtPend_pwr (s : State) (n : Nat) : (s.evtPend n).pwr = s.pwr := State.putReg_pwr ..
@[simp] theorem State.evtPend_hif (s : State) (n : Nat) : (s.evtPend n).hif = s.hif := State.putReg_hif ..
@[simp] theorem State.evtPend_ring (s : State) (n : Nat) : (s.evtPend n).ring = s.ring := State.putReg_ring ..
@[simp] theorem State.evtPend_twn (s : State) (n : Nat) : (s.evtPend n).twn = s.twn := State.putReg_twn ..
@[simp] theorem State.evtPend_kst (s : State) (n : Nat) : (s.evtPend n).kst = s.kst := State.putReg_kst ..
@[simp] theorem State.evtPend_acq (s : State) (n : Nat) : (s.evtPend n).acq = s.acq := State.putReg_acq ..
@[simp] theorem State.evtPend_nvs (s : State) (n : Nat) : (s.evtPend n).nvs = s.nvs := State.putReg_nvs ..
@[simp] theorem State.evtPend_krefLost (s : State) (n : Nat) : (s.evtPend n).krefLost = s.krefLost := State.putReg_krefLost ..
@[simp] theorem State.evtPend_sysLost (s : State) (n : Nat) : (s.evtPend n).sysLost = s.sysLost := State.putReg_sysLost ..
@[simp] theorem State.evtPend_fbDone (s : State) (n : Nat) : (s.evtPend n).fbDone = s.fbDone := State.putReg_fbDone ..

@[simp] theorem State.evtLose_pending (s : State) : s.evtLose.pending = s.pending := by
  unfold State.evtLose; simp only [State.set1_pending, State.incSat_pending]; split <;> rfl
@[simp] theorem State.evtLose_clk (s : State) : s.evtLose.clk = s.clk := by
  unfold State.evtLose; simp only [State.set1_clk, State.incSat_clk]; split <;> rfl
@[simp] theorem State.evtLose_free (s : State) : s.evtLose.free = s.free := by
  unfold State.evtLose; simp only [State.set1_free, State.incSat_free]; split <;> rfl
@[simp] theorem State.evtLose_nt (s : State) : s.evtLose.nt = s.nt := by
  unfold State.evtLose; simp only [State.set1_nt, State.incSat_nt]; split <;> rfl
@[simp] theorem State.evtLose_inc (s : State) : s.evtLose.inc = s.inc := by
  unfold State.evtLose; simp only [State.set1_inc, State.incSat_inc]; split <;> rfl
@[simp] theorem State.evtLose_host (s : State) : s.evtLose.host = s.host := by
  unfold State.evtLose; simp only [State.set1_host, State.incSat_host]; split <;> rfl
@[simp] theorem State.evtLose_cyc (s : State) : s.evtLose.cyc = s.cyc := by
  unfold State.evtLose; simp only [State.set1_cyc, State.incSat_cyc]; split <;> rfl
@[simp] theorem State.evtLose_chn (s : State) : s.evtLose.chn = s.chn := by
  unfold State.evtLose; simp only [State.set1_chn, State.incSat_chn]; split <;> rfl
@[simp] theorem State.evtLose_est (s : State) : s.evtLose.est = s.est := by
  unfold State.evtLose; simp only [State.set1_est, State.incSat_est]; split <;> rfl
@[simp] theorem State.evtLose_cap (s : State) : s.evtLose.cap = s.cap := by
  unfold State.evtLose; simp only [State.set1_cap, State.incSat_cap]; split <;> rfl
@[simp] theorem State.evtLose_dsp (s : State) : s.evtLose.dsp = s.dsp := by
  unfold State.evtLose; simp only [State.set1_dsp, State.incSat_dsp]; split <;> rfl
@[simp] theorem State.evtLose_piers (s : State) : s.evtLose.piers = s.piers := by
  unfold State.evtLose; simp only [State.set1_piers, State.incSat_piers]; split <;> rfl
@[simp] theorem State.evtLose_axes (s : State) : s.evtLose.axes = s.axes := by
  unfold State.evtLose; simp only [State.set1_axes, State.incSat_axes]; split <;> rfl
@[simp] theorem State.evtLose_deck (s : State) : s.evtLose.deck = s.deck := by
  unfold State.evtLose; simp only [State.set1_deck, State.incSat_deck]; split <;> rfl
@[simp] theorem State.evtLose_pwr (s : State) : s.evtLose.pwr = s.pwr := by
  unfold State.evtLose; simp only [State.set1_pwr, State.incSat_pwr]; split <;> rfl
@[simp] theorem State.evtLose_hif (s : State) : s.evtLose.hif = s.hif := by
  unfold State.evtLose; simp only [State.set1_hif, State.incSat_hif]; split <;> rfl
@[simp] theorem State.evtLose_ring (s : State) : s.evtLose.ring = s.ring := by
  unfold State.evtLose; simp only [State.set1_ring, State.incSat_ring]; split <;> rfl
@[simp] theorem State.evtLose_twn (s : State) : s.evtLose.twn = s.twn := by
  unfold State.evtLose; simp only [State.set1_twn, State.incSat_twn]; split <;> rfl
@[simp] theorem State.evtLose_kst (s : State) : s.evtLose.kst = s.kst := by
  unfold State.evtLose; simp only [State.set1_kst, State.incSat_kst]; split <;> rfl
@[simp] theorem State.evtLose_acq (s : State) : s.evtLose.acq = s.acq := by
  unfold State.evtLose; simp only [State.set1_acq, State.incSat_acq]; split <;> rfl
@[simp] theorem State.evtLose_nvs (s : State) : s.evtLose.nvs = s.nvs := by
  unfold State.evtLose; simp only [State.set1_nvs, State.incSat_nvs]; split <;> rfl
@[simp] theorem State.evtLose_krefLost (s : State) : s.evtLose.krefLost = s.krefLost := by
  unfold State.evtLose; simp only [State.set1_krefLost, State.incSat_krefLost]; split <;> rfl
@[simp] theorem State.evtLose_sysLost (s : State) : s.evtLose.sysLost = s.sysLost := by
  unfold State.evtLose; simp only [State.set1_sysLost, State.incSat_sysLost]; split <;> rfl
@[simp] theorem State.evtLose_fbDone (s : State) : s.evtLose.fbDone = s.fbDone := by
  unfold State.evtLose; simp only [State.set1_fbDone, State.incSat_fbDone]; split <;> rfl

@[simp] theorem State.evtSecond_pending (s : State) (src : Nat) (d : BitVec 16) (w : Word) : (s.evtSecond src d w).pending = s.pending := by
  unfold State.evtSecond; split <;> (try split) <;> simp only [State.evtLose_pending]
@[simp] theorem State.evtSecond_clk (s : State) (src : Nat) (d : BitVec 16) (w : Word) : (s.evtSecond src d w).clk = s.clk := by
  unfold State.evtSecond; split <;> (try split) <;> simp only [State.evtLose_clk]
@[simp] theorem State.evtSecond_free (s : State) (src : Nat) (d : BitVec 16) (w : Word) : (s.evtSecond src d w).free = s.free := by
  unfold State.evtSecond; split <;> (try split) <;> simp only [State.evtLose_free]
@[simp] theorem State.evtSecond_nt (s : State) (src : Nat) (d : BitVec 16) (w : Word) : (s.evtSecond src d w).nt = s.nt := by
  unfold State.evtSecond; split <;> (try split) <;> simp only [State.evtLose_nt]
@[simp] theorem State.evtSecond_inc (s : State) (src : Nat) (d : BitVec 16) (w : Word) : (s.evtSecond src d w).inc = s.inc := by
  unfold State.evtSecond; split <;> (try split) <;> simp only [State.evtLose_inc]
@[simp] theorem State.evtSecond_host (s : State) (src : Nat) (d : BitVec 16) (w : Word) : (s.evtSecond src d w).host = s.host := by
  unfold State.evtSecond; split <;> (try split) <;> simp only [State.evtLose_host]
@[simp] theorem State.evtSecond_cyc (s : State) (src : Nat) (d : BitVec 16) (w : Word) : (s.evtSecond src d w).cyc = s.cyc := by
  unfold State.evtSecond; split <;> (try split) <;> simp only [State.evtLose_cyc]
@[simp] theorem State.evtSecond_chn (s : State) (src : Nat) (d : BitVec 16) (w : Word) : (s.evtSecond src d w).chn = s.chn := by
  unfold State.evtSecond; split <;> (try split) <;> simp only [State.evtLose_chn]
@[simp] theorem State.evtSecond_est (s : State) (src : Nat) (d : BitVec 16) (w : Word) : (s.evtSecond src d w).est = s.est := by
  unfold State.evtSecond; split <;> (try split) <;> simp only [State.evtLose_est]
@[simp] theorem State.evtSecond_cap (s : State) (src : Nat) (d : BitVec 16) (w : Word) : (s.evtSecond src d w).cap = s.cap := by
  unfold State.evtSecond; split <;> (try split) <;> simp only [State.evtLose_cap]
@[simp] theorem State.evtSecond_dsp (s : State) (src : Nat) (d : BitVec 16) (w : Word) : (s.evtSecond src d w).dsp = s.dsp := by
  unfold State.evtSecond; split <;> (try split) <;> simp only [State.evtLose_dsp]
@[simp] theorem State.evtSecond_piers (s : State) (src : Nat) (d : BitVec 16) (w : Word) : (s.evtSecond src d w).piers = s.piers := by
  unfold State.evtSecond; split <;> (try split) <;> simp only [State.evtLose_piers]
@[simp] theorem State.evtSecond_axes (s : State) (src : Nat) (d : BitVec 16) (w : Word) : (s.evtSecond src d w).axes = s.axes := by
  unfold State.evtSecond; split <;> (try split) <;> simp only [State.evtLose_axes]
@[simp] theorem State.evtSecond_deck (s : State) (src : Nat) (d : BitVec 16) (w : Word) : (s.evtSecond src d w).deck = s.deck := by
  unfold State.evtSecond; split <;> (try split) <;> simp only [State.evtLose_deck]
@[simp] theorem State.evtSecond_pwr (s : State) (src : Nat) (d : BitVec 16) (w : Word) : (s.evtSecond src d w).pwr = s.pwr := by
  unfold State.evtSecond; split <;> (try split) <;> simp only [State.evtLose_pwr]
@[simp] theorem State.evtSecond_hif (s : State) (src : Nat) (d : BitVec 16) (w : Word) : (s.evtSecond src d w).hif = s.hif := by
  unfold State.evtSecond; split <;> (try split) <;> simp only [State.evtLose_hif]
@[simp] theorem State.evtSecond_ring (s : State) (src : Nat) (d : BitVec 16) (w : Word) : (s.evtSecond src d w).ring = s.ring := by
  unfold State.evtSecond; split <;> (try split) <;> simp only [State.evtLose_ring]
@[simp] theorem State.evtSecond_twn (s : State) (src : Nat) (d : BitVec 16) (w : Word) : (s.evtSecond src d w).twn = s.twn := by
  unfold State.evtSecond; split <;> (try split) <;> simp only [State.evtLose_twn]
@[simp] theorem State.evtSecond_kst (s : State) (src : Nat) (d : BitVec 16) (w : Word) : (s.evtSecond src d w).kst = s.kst := by
  unfold State.evtSecond; split <;> (try split) <;> simp only [State.evtLose_kst]
@[simp] theorem State.evtSecond_acq (s : State) (src : Nat) (d : BitVec 16) (w : Word) : (s.evtSecond src d w).acq = s.acq := by
  unfold State.evtSecond; split <;> (try split) <;> simp only [State.evtLose_acq]
@[simp] theorem State.evtSecond_nvs (s : State) (src : Nat) (d : BitVec 16) (w : Word) : (s.evtSecond src d w).nvs = s.nvs := by
  unfold State.evtSecond; split <;> (try split) <;> simp only [State.evtLose_nvs]
@[simp] theorem State.evtSecond_krefLost (s : State) (src : Nat) (d : BitVec 16) (w : Word) : (s.evtSecond src d w).krefLost = s.krefLost := by
  unfold State.evtSecond; split <;> (try split) <;> simp only [State.evtLose_krefLost]
@[simp] theorem State.evtSecond_sysLost (s : State) (src : Nat) (d : BitVec 16) (w : Word) : (s.evtSecond src d w).sysLost = s.sysLost := by
  unfold State.evtSecond; split <;> (try split) <;> simp only [State.evtLose_sysLost]
@[simp] theorem State.evtSecond_fbDone (s : State) (src : Nat) (d : BitVec 16) (w : Word) : (s.evtSecond src d w).fbDone = s.fbDone := by
  unfold State.evtSecond; split <;> (try split) <;> simp only [State.evtLose_fbDone]

@[simp] theorem State.raise_pending (s : State) (src d : Nat) (w : Word) : (s.raise src d w).pending = s.pending := by
  unfold State.raise; dsimp only; split_ifs <;> split <;> (try split_ifs) <;> simp only [State.evtSecond_pending, State.evtLose_pending, State.evtPend_pending]
@[simp] theorem State.raise_clk (s : State) (src d : Nat) (w : Word) : (s.raise src d w).clk = s.clk := by
  unfold State.raise; dsimp only; split_ifs <;> split <;> (try split_ifs) <;> simp only [State.evtSecond_clk, State.evtLose_clk, State.evtPend_clk]
@[simp] theorem State.raise_free (s : State) (src d : Nat) (w : Word) : (s.raise src d w).free = s.free := by
  unfold State.raise; dsimp only; split_ifs <;> split <;> (try split_ifs) <;> simp only [State.evtSecond_free, State.evtLose_free, State.evtPend_free]
@[simp] theorem State.raise_nt (s : State) (src d : Nat) (w : Word) : (s.raise src d w).nt = s.nt := by
  unfold State.raise; dsimp only; split_ifs <;> split <;> (try split_ifs) <;> simp only [State.evtSecond_nt, State.evtLose_nt, State.evtPend_nt]
@[simp] theorem State.raise_inc (s : State) (src d : Nat) (w : Word) : (s.raise src d w).inc = s.inc := by
  unfold State.raise; dsimp only; split_ifs <;> split <;> (try split_ifs) <;> simp only [State.evtSecond_inc, State.evtLose_inc, State.evtPend_inc]
@[simp] theorem State.raise_host (s : State) (src d : Nat) (w : Word) : (s.raise src d w).host = s.host := by
  unfold State.raise; dsimp only; split_ifs <;> split <;> (try split_ifs) <;> simp only [State.evtSecond_host, State.evtLose_host, State.evtPend_host]
@[simp] theorem State.raise_cyc (s : State) (src d : Nat) (w : Word) : (s.raise src d w).cyc = s.cyc := by
  unfold State.raise; dsimp only; split_ifs <;> split <;> (try split_ifs) <;> simp only [State.evtSecond_cyc, State.evtLose_cyc, State.evtPend_cyc]
@[simp] theorem State.raise_chn (s : State) (src d : Nat) (w : Word) : (s.raise src d w).chn = s.chn := by
  unfold State.raise; dsimp only; split_ifs <;> split <;> (try split_ifs) <;> simp only [State.evtSecond_chn, State.evtLose_chn, State.evtPend_chn]
@[simp] theorem State.raise_est (s : State) (src d : Nat) (w : Word) : (s.raise src d w).est = s.est := by
  unfold State.raise; dsimp only; split_ifs <;> split <;> (try split_ifs) <;> simp only [State.evtSecond_est, State.evtLose_est, State.evtPend_est]
@[simp] theorem State.raise_cap (s : State) (src d : Nat) (w : Word) : (s.raise src d w).cap = s.cap := by
  unfold State.raise; dsimp only; split_ifs <;> split <;> (try split_ifs) <;> simp only [State.evtSecond_cap, State.evtLose_cap, State.evtPend_cap]
@[simp] theorem State.raise_dsp (s : State) (src d : Nat) (w : Word) : (s.raise src d w).dsp = s.dsp := by
  unfold State.raise; dsimp only; split_ifs <;> split <;> (try split_ifs) <;> simp only [State.evtSecond_dsp, State.evtLose_dsp, State.evtPend_dsp]
@[simp] theorem State.raise_piers (s : State) (src d : Nat) (w : Word) : (s.raise src d w).piers = s.piers := by
  unfold State.raise; dsimp only; split_ifs <;> split <;> (try split_ifs) <;> simp only [State.evtSecond_piers, State.evtLose_piers, State.evtPend_piers]
@[simp] theorem State.raise_axes (s : State) (src d : Nat) (w : Word) : (s.raise src d w).axes = s.axes := by
  unfold State.raise; dsimp only; split_ifs <;> split <;> (try split_ifs) <;> simp only [State.evtSecond_axes, State.evtLose_axes, State.evtPend_axes]
@[simp] theorem State.raise_deck (s : State) (src d : Nat) (w : Word) : (s.raise src d w).deck = s.deck := by
  unfold State.raise; dsimp only; split_ifs <;> split <;> (try split_ifs) <;> simp only [State.evtSecond_deck, State.evtLose_deck, State.evtPend_deck]
@[simp] theorem State.raise_pwr (s : State) (src d : Nat) (w : Word) : (s.raise src d w).pwr = s.pwr := by
  unfold State.raise; dsimp only; split_ifs <;> split <;> (try split_ifs) <;> simp only [State.evtSecond_pwr, State.evtLose_pwr, State.evtPend_pwr]
@[simp] theorem State.raise_hif (s : State) (src d : Nat) (w : Word) : (s.raise src d w).hif = s.hif := by
  unfold State.raise; dsimp only; split_ifs <;> split <;> (try split_ifs) <;> simp only [State.evtSecond_hif, State.evtLose_hif, State.evtPend_hif]
@[simp] theorem State.raise_ring (s : State) (src d : Nat) (w : Word) : (s.raise src d w).ring = s.ring := by
  unfold State.raise; dsimp only; split_ifs <;> split <;> (try split_ifs) <;> simp only [State.evtSecond_ring, State.evtLose_ring, State.evtPend_ring]
@[simp] theorem State.raise_twn (s : State) (src d : Nat) (w : Word) : (s.raise src d w).twn = s.twn := by
  unfold State.raise; dsimp only; split_ifs <;> split <;> (try split_ifs) <;> simp only [State.evtSecond_twn, State.evtLose_twn, State.evtPend_twn]
@[simp] theorem State.raise_kst (s : State) (src d : Nat) (w : Word) : (s.raise src d w).kst = s.kst := by
  unfold State.raise; dsimp only; split_ifs <;> split <;> (try split_ifs) <;> simp only [State.evtSecond_kst, State.evtLose_kst, State.evtPend_kst]
@[simp] theorem State.raise_acq (s : State) (src d : Nat) (w : Word) : (s.raise src d w).acq = s.acq := by
  unfold State.raise; dsimp only; split_ifs <;> split <;> (try split_ifs) <;> simp only [State.evtSecond_acq, State.evtLose_acq, State.evtPend_acq]
@[simp] theorem State.raise_nvs (s : State) (src d : Nat) (w : Word) : (s.raise src d w).nvs = s.nvs := by
  unfold State.raise; dsimp only; split_ifs <;> split <;> (try split_ifs) <;> simp only [State.evtSecond_nvs, State.evtLose_nvs, State.evtPend_nvs]
@[simp] theorem State.raise_krefLost (s : State) (src d : Nat) (w : Word) : (s.raise src d w).krefLost = s.krefLost := by
  unfold State.raise; dsimp only; split_ifs <;> split <;> (try split_ifs) <;> simp only [State.evtSecond_krefLost, State.evtLose_krefLost, State.evtPend_krefLost]
@[simp] theorem State.raise_sysLost (s : State) (src d : Nat) (w : Word) : (s.raise src d w).sysLost = s.sysLost := by
  unfold State.raise; dsimp only; split_ifs <;> split <;> (try split_ifs) <;> simp only [State.evtSecond_sysLost, State.evtLose_sysLost, State.evtPend_sysLost]
@[simp] theorem State.raise_fbDone (s : State) (src d : Nat) (w : Word) : (s.raise src d w).fbDone = s.fbDone := by
  unfold State.raise; dsimp only; split_ifs <;> split <;> (try split_ifs) <;> simp only [State.evtSecond_fbDone, State.evtLose_fbDone, State.evtPend_fbDone]

@[simp] theorem State.drewFree_pending (s : State) : s.drewFree.pending = s.pending := rfl
@[simp] theorem State.drewFree_clk (s : State) : s.drewFree.clk = s.clk := rfl
@[simp] theorem State.drewFree_nt (s : State) : s.drewFree.nt = s.nt := rfl
@[simp] theorem State.drewFree_inc (s : State) : s.drewFree.inc = s.inc := rfl
@[simp] theorem State.drewFree_host (s : State) : s.drewFree.host = s.host := rfl
@[simp] theorem State.drewFree_evt (s : State) : s.drewFree.evt = s.evt := rfl
@[simp] theorem State.drewFree_cyc (s : State) : s.drewFree.cyc = s.cyc := rfl
@[simp] theorem State.drewFree_chn (s : State) : s.drewFree.chn = s.chn := rfl
@[simp] theorem State.drewFree_est (s : State) : s.drewFree.est = s.est := rfl
@[simp] theorem State.drewFree_cap (s : State) : s.drewFree.cap = s.cap := rfl
@[simp] theorem State.drewFree_dsp (s : State) : s.drewFree.dsp = s.dsp := rfl
@[simp] theorem State.drewFree_piers (s : State) : s.drewFree.piers = s.piers := rfl
@[simp] theorem State.drewFree_axes (s : State) : s.drewFree.axes = s.axes := rfl
@[simp] theorem State.drewFree_deck (s : State) : s.drewFree.deck = s.deck := rfl
@[simp] theorem State.drewFree_pwr (s : State) : s.drewFree.pwr = s.pwr := rfl
@[simp] theorem State.drewFree_hif (s : State) : s.drewFree.hif = s.hif := rfl
@[simp] theorem State.drewFree_ring (s : State) : s.drewFree.ring = s.ring := rfl
@[simp] theorem State.drewFree_twn (s : State) : s.drewFree.twn = s.twn := rfl
@[simp] theorem State.drewFree_kst (s : State) : s.drewFree.kst = s.kst := rfl
@[simp] theorem State.drewFree_acq (s : State) : s.drewFree.acq = s.acq := rfl
@[simp] theorem State.drewFree_nvs (s : State) : s.drewFree.nvs = s.nvs := rfl
@[simp] theorem State.drewFree_krefLost (s : State) : s.drewFree.krefLost = s.krefLost := rfl
@[simp] theorem State.drewFree_sysLost (s : State) : s.drewFree.sysLost = s.sysLost := rfl
@[simp] theorem State.drewFree_fbDone (s : State) : s.drewFree.fbDone = s.fbDone := rfl

@[simp] theorem State.answer_pending (s : State) (v : Word) : (s.answer v).pending = s.pending := rfl
@[simp] theorem State.answer_clk (s : State) (v : Word) : (s.answer v).clk = s.clk := rfl
@[simp] theorem State.answer_free (s : State) (v : Word) : (s.answer v).free = s.free := rfl
@[simp] theorem State.answer_nt (s : State) (v : Word) : (s.answer v).nt = s.nt := rfl
@[simp] theorem State.answer_inc (s : State) (v : Word) : (s.answer v).inc = s.inc := rfl
@[simp] theorem State.answer_evt (s : State) (v : Word) : (s.answer v).evt = s.evt := rfl
@[simp] theorem State.answer_cyc (s : State) (v : Word) : (s.answer v).cyc = s.cyc := rfl
@[simp] theorem State.answer_chn (s : State) (v : Word) : (s.answer v).chn = s.chn := rfl
@[simp] theorem State.answer_est (s : State) (v : Word) : (s.answer v).est = s.est := rfl
@[simp] theorem State.answer_cap (s : State) (v : Word) : (s.answer v).cap = s.cap := rfl
@[simp] theorem State.answer_dsp (s : State) (v : Word) : (s.answer v).dsp = s.dsp := rfl
@[simp] theorem State.answer_piers (s : State) (v : Word) : (s.answer v).piers = s.piers := rfl
@[simp] theorem State.answer_axes (s : State) (v : Word) : (s.answer v).axes = s.axes := rfl
@[simp] theorem State.answer_deck (s : State) (v : Word) : (s.answer v).deck = s.deck := rfl
@[simp] theorem State.answer_pwr (s : State) (v : Word) : (s.answer v).pwr = s.pwr := rfl
@[simp] theorem State.answer_hif (s : State) (v : Word) : (s.answer v).hif = s.hif := rfl
@[simp] theorem State.answer_ring (s : State) (v : Word) : (s.answer v).ring = s.ring := rfl
@[simp] theorem State.answer_twn (s : State) (v : Word) : (s.answer v).twn = s.twn := rfl
@[simp] theorem State.answer_kst (s : State) (v : Word) : (s.answer v).kst = s.kst := rfl
@[simp] theorem State.answer_acq (s : State) (v : Word) : (s.answer v).acq = s.acq := rfl
@[simp] theorem State.answer_nvs (s : State) (v : Word) : (s.answer v).nvs = s.nvs := rfl
@[simp] theorem State.answer_krefLost (s : State) (v : Word) : (s.answer v).krefLost = s.krefLost := rfl
@[simp] theorem State.answer_sysLost (s : State) (v : Word) : (s.answer v).sysLost = s.sysLost := rfl
@[simp] theorem State.answer_fbDone (s : State) (v : Word) : (s.answer v).fbDone = s.fbDone := rfl

@[simp] theorem State.when_true (s : State) (g : State → State) : s.when true g = g s := rfl
@[simp] theorem State.when_false (s : State) (g : State → State) : s.when false g = s := rfl
@[simp] theorem State.each_nil {α : Type} (s : State) (g : State → α → State) : s.each [] g = s := rfl
@[simp] theorem State.each_cons {α : Type} (s : State) (x : α) (l : List α) (g : State → α → State) :
    s.each (x :: l) g = (g s x).each l g := rfl

end Sys2Proof.Machine
end

