-- ==== Sys2Proof/Laws/Store.lean ====
section
/-! SUPPORT. Laws of the sparse tables: a read after a write, and that every write keeps the canonical form. -/

namespace Sys2Proof.Machine

theorem tabGet_insert {α : Type} (d : Nat → α) (t : Tab α) (k : Nat) (v : α) (j : Nat) :
    tabGet d (tabInsert t k v) j = if k = j then v else tabGet d t j := by
  induction t with
  | nil => simp only [tabInsert, tabGet]
  | cons e rest ih =>
    obtain ⟨i, w⟩ := e
    simp only [tabInsert]
    by_cases h1 : k < i
    · simp only [h1, if_true, tabGet]
    · by_cases h2 : k = i
      · subst h2
        simp only [Nat.lt_irrefl, if_false, if_true, tabGet]
        by_cases h3 : k = j <;> simp only [h3, if_true, if_false]
      · simp only [h1, h2, if_false, tabGet, ih]
        by_cases h3 : i = j
        · subst h3; simp only [if_true, h2, if_false]
        · simp only [h3, if_false]

theorem tabGet_erase {α : Type} (d : Nat → α) (t : Tab α) (k j : Nat) :
    tabGet d (tabErase t k) j = if k = j then d j else tabGet d t j := by
  induction t with
  | nil => simp only [tabErase, tabGet, ite_self]
  | cons e rest ih =>
    obtain ⟨i, w⟩ := e
    simp only [tabErase]
    by_cases h1 : i = k
    · subst h1
      simp only [if_true, ih, tabGet]
      by_cases h2 : i = j <;> simp only [h2, if_true, if_false]
    · simp only [h1, if_false, tabGet, ih]
      by_cases h2 : i = j
      · subst h2
        have h3 : ¬ k = i := fun h => h1 h.symm
        simp only [if_true, h3, if_false]
      · simp only [h2, if_false]

/-- A read after a write gives the value written at the key written, and what was there before at every other. -/
@[simp] theorem tabGet_tabSet {α : Type} [DecidableEq α] (d : Nat → α) (t : Tab α) (k : Nat) (v : α) (j : Nat) :
    tabGet d (tabSet d t k v) j = if k = j then v else tabGet d t j := by
  unfold tabSet
  by_cases h : v = d k
  · simp only [h, if_true, tabGet_erase]
    by_cases h2 : k = j
    · subst h2; simp only [if_true]
    · simp only [h2, if_false]
  · simp only [h, if_false, tabGet_insert]

/-- Every key of a list is above a bound. -/
def tabAbove {α : Type} (b : Nat) (t : Tab α) : Prop := ∀ e ∈ t, b < e.1

theorem tabRising_cons {α : Type} (a : Nat) (v : α) (t : Tab α) :
    tabRising ((a, v) :: t) = true ↔ tabAbove a t ∧ tabRising t = true := by
  induction t generalizing a v with
  | nil => simp [tabRising, tabAbove]
  | cons e rest ih =>
    obtain ⟨b, w⟩ := e
    simp only [tabRising, Bool.and_eq_true, decide_eq_true_eq]
    constructor
    · rintro ⟨hab, hr⟩
      refine ⟨?_, hr⟩
      intro e he
      rcases List.mem_cons.1 he with rfl | he
      · exact hab
      · exact lt_trans hab (((ih b w).1 hr).1 e he)
    · rintro ⟨h1, h2⟩
      exact ⟨h1 (b, w) (List.mem_cons_self ..), h2⟩

theorem tabAbove_insert {α : Type} (b : Nat) (t : Tab α) (k : Nat) (v : α) (h : tabAbove b t) (hk : b < k) :
    tabAbove b (tabInsert t k v) := by
  induction t with
  | nil =>
    intro e he
    simp only [tabInsert, List.mem_cons, List.not_mem_nil, or_false] at he
    subst he; exact hk
  | cons e rest ih =>
    obtain ⟨i, w⟩ := e
    have hi : b < i := h (i, w) (List.mem_cons_self ..)
    have hr : tabAbove b rest := fun e he => h e (List.mem_cons_of_mem _ he)
    intro e he
    simp only [tabInsert] at he
    split at he
    · simp only [List.mem_cons] at he
      rcases he with rfl | rfl | he
      · exact hk
      · exact hi
      · exact hr e he
    · split at he
      · rcases List.mem_cons.1 he with rfl | he
        · exact hk
        · exact hr e he
      · rcases List.mem_cons.1 he with rfl | he
        · exact hi
        · exact ih hr e he

theorem tabRising_insert {α : Type} (t : Tab α) (k : Nat) (v : α) (h : tabRising t = true) :
    tabRising (tabInsert t k v) = true := by
  induction t with
  | nil => rfl
  | cons e rest ih =>
    obtain ⟨i, w⟩ := e
    obtain ⟨ha, hr⟩ := (tabRising_cons i w rest).1 h
    simp only [tabInsert]
    split
    · rename_i hlt
      refine (tabRising_cons ..).2 ⟨?_, h⟩
      intro e he
      rcases List.mem_cons.1 he with rfl | he
      · exact hlt
      · exact lt_trans hlt (ha e he)
    · split
      · rename_i heq; subst heq
        exact (tabRising_cons ..).2 ⟨ha, hr⟩
      · rename_i h1 h2
        exact (tabRising_cons ..).2 ⟨tabAbove_insert i rest k v ha (by omega), ih hr⟩

theorem tabErase_mem {α : Type} (t : Tab α) (k : Nat) (e : Nat × α) (h : e ∈ tabErase t k) : e ∈ t := by
  induction t with
  | nil => exact h
  | cons f rest ih =>
    obtain ⟨i, w⟩ := f
    simp only [tabErase] at h
    split at h
    · exact List.mem_cons_of_mem _ (ih h)
    · rcases List.mem_cons.1 h with rfl | h
      · exact List.mem_cons_self ..
      · exact List.mem_cons_of_mem _ (ih h)

theorem tabRising_erase {α : Type} (t : Tab α) (k : Nat) (h : tabRising t = true) : tabRising (tabErase t k) = true := by
  induction t with
  | nil => rfl
  | cons e rest ih =>
    obtain ⟨i, w⟩ := e
    obtain ⟨ha, hr⟩ := (tabRising_cons i w rest).1 h
    simp only [tabErase]
    split
    · exact ih hr
    · exact (tabRising_cons ..).2 ⟨fun e he => ha e (tabErase_mem rest k e he), ih hr⟩

theorem tabInsert_mem {α : Type} (t : Tab α) (k : Nat) (v : α) (e : Nat × α) (h : e ∈ tabInsert t k v) :
    e = (k, v) ∨ e ∈ t := by
  induction t with
  | nil => exact Or.inl (by simpa [tabInsert] using h)
  | cons f rest ih =>
    obtain ⟨i, w⟩ := f
    simp only [tabInsert] at h
    split at h
    · rcases List.mem_cons.1 h with h | h
      · exact Or.inl h
      · exact Or.inr h
    · split at h
      · rcases List.mem_cons.1 h with h | h
        · exact Or.inl h
        · exact Or.inr (List.mem_cons_of_mem _ h)
      · rcases List.mem_cons.1 h with h | h
        · exact Or.inr (h ▸ List.mem_cons_self ..)
        · rcases ih h with h | h
          · exact Or.inl h
          · exact Or.inr (List.mem_cons_of_mem _ h)

theorem tabWf_iff {α : Type} [DecidableEq α] (d : Nat → α) (t : Tab α) :
    tabWf d t = true ↔ tabRising t = true ∧ ∀ e ∈ t, e.2 ≠ d e.1 := by
  simp only [tabWf, Bool.and_eq_true, List.all_eq_true, decide_eq_true_eq]

/-- Every write keeps the canonical form. -/
theorem tabSet_wf {α : Type} [DecidableEq α] (d : Nat → α) (t : Tab α) (k : Nat) (v : α) (h : tabWf d t = true) :
    tabWf d (tabSet d t k v) = true := by
  obtain ⟨hr, hd⟩ := (tabWf_iff d t).1 h
  refine (tabWf_iff d _).2 ?_
  unfold tabSet
  split
  · exact ⟨tabRising_erase t k hr, fun e he => hd e (tabErase_mem t k e he)⟩
  · rename_i hv
    refine ⟨tabRising_insert t k v hr, fun e he => ?_⟩
    rcases tabInsert_mem t k v e he with rfl | he
    · exact hv
    · exact hd e he

/-- Every write of consecutive keys keeps the canonical form. -/
theorem tabWrite_wf {α : Type} [DecidableEq α] (d : Nat → α) (t : Tab α) (k : Nat) (vs : List α) (h : tabWf d t = true) :
    tabWf d (tabWrite d t k vs) = true := by
  induction vs generalizing t k with
  | nil => exact h
  | cons v vs ih => exact ih _ _ (tabSet_wf d t k v h)

/-- What consecutive keys hold after a write of a list, and every other key after it. -/
theorem tabGet_tabWrite {α : Type} [DecidableEq α] (d : Nat → α) (t : Tab α) (k : Nat) (vs : List α) (j : Nat) :
    tabGet d (tabWrite d t k vs) j = if h : k ≤ j ∧ j < k + vs.length then vs[j - k]'(by omega) else tabGet d t j := by
  induction vs generalizing t k with
  | nil =>
    have h : ¬ (k ≤ j ∧ j < k + ([] : List α).length) := by simp only [List.length_nil]; omega
    rw [dif_neg h]; rfl
  | cons v vs ih =>
    simp only [tabWrite, ih, tabGet_tabSet, List.length_cons]
    by_cases h1 : k = j
    · subst h1
      have h2 : ¬ (k + 1 ≤ k ∧ k < k + 1 + vs.length) := by omega
      have h3 : k ≤ k ∧ k < k + (vs.length + 1) := by omega
      rw [dif_neg h2, dif_pos h3, if_pos rfl]
      simp only [Nat.sub_self, List.getElem_cons_zero]
    · by_cases h2 : k + 1 ≤ j ∧ j < k + 1 + vs.length
      · have h3 : k ≤ j ∧ j < k + (vs.length + 1) := by omega
        rw [dif_pos h2, dif_pos h3]
        have h4 : j - k = (j - (k + 1)) + 1 := by omega
        simp only [h4, List.getElem_cons_succ]
      · have h3 : ¬ (k ≤ j ∧ j < k + (vs.length + 1)) := by omega
        rw [dif_neg h2, dif_neg h3, if_neg h1]

end Sys2Proof.Machine
end

