-- ==== Sys2Proof/Laws/Regs.lean ====
section
/-! SUPPORT. Reading registers and their fields after writing them. -/

namespace Sys2Proof.Machine

@[simp] theorem vote_self (a : Word) : vote a a a = a := by
  unfold vote; simp only [BitVec.and_self, BitVec.or_self]

/-- A register reads as the value last given to it; every other keeps its own. -/
@[simp] theorem State.reg_putReg (s : State) (a : Nat) (v : Word) (b : Nat) :
    (s.putReg a v).reg b = if a = b then v else s.reg b := by
  unfold State.reg State.putReg
  by_cases hab : a = b
  · subst hab
    by_cases ha : isTv a <;> simp only [ha, if_true, tabGet_tabSet, vote_self, Bool.false_eq_true, if_false]
  · by_cases hb : isTv b <;> by_cases ha : isTv a <;>
      simp only [hb, ha, hab, if_true, if_false, tabGet_tabSet, Bool.false_eq_true]

theorem testBit_bitsOf (n lo w i : Nat) : (bitsOf n lo w).testBit i = (decide (i < w) && n.testBit (lo + i)) := by
  unfold bitsOf
  rw [Nat.testBit_mod_two_pow, Nat.testBit_div_two_pow, Nat.add_comm]

theorem mask_testBit (lo width i : Nat) : ((2 ^ width - 1) * 2 ^ lo).testBit i = (decide (lo ≤ i) && decide (i < lo + width)) := by
  rw [← Nat.shiftLeft_eq, Nat.testBit_shiftLeft, Nat.testBit_two_pow_sub_one]
  by_cases h : lo ≤ i
  · simp only [ge_iff_le, h, decide_true, Bool.true_and]
    congr 1; apply propext; omega
  · simp only [ge_iff_le, h, decide_false, Bool.false_and]

theorem testBit_setBits (w : Word) (lo width v i : Nat) :
    (setBits w lo width v).toNat.testBit i
      = if lo ≤ i ∧ i < lo + width then decide (i < 32) && v.testBit (i - lo) else w.toNat.testBit i := by
  unfold setBits
  simp only [BitVec.testBit_toNat, BitVec.getLsbD_or, BitVec.getLsbD_and, BitVec.getLsbD_not, BitVec.getLsbD_ofNat, mask_testBit]
  rw [← Nat.shiftLeft_eq, Nat.testBit_shiftLeft, Nat.testBit_mod_two_pow]
  by_cases h32 : i < 32
  · by_cases h1 : lo ≤ i
    · by_cases h2 : i < lo + width
      · have h3 : i - lo < width := by omega
        simp [h32, h1, h2, h3]
      · have h3 : ¬ i - lo < width := by omega
        simp [h32, h1, h2, h3]
    · simp [h32, h1]
  · have hw : w.getLsbD i = false := BitVec.getLsbD_of_ge w i (by omega)
    simp [h32, hw]

/-- The field written reads as the value's low bits. -/
theorem bitsOf_setBits_same (w : Word) (lo width v : Nat) (h : lo + width ≤ 32) :
    bitsOf (setBits w lo width v).toNat lo width = v % 2 ^ width := by
  apply Nat.eq_of_testBit_eq; intro i
  rw [testBit_bitsOf, testBit_setBits, Nat.testBit_mod_two_pow]
  by_cases h1 : i < width
  · have h2 : lo ≤ lo + i ∧ lo + i < lo + width := by omega
    have h3 : lo + i < 32 := by omega
    simp only [h1, decide_true, Bool.true_and, h2, and_self, if_true, h3, Nat.add_sub_cancel_left]
  · simp only [h1, decide_false, Bool.false_and]

/-- A field that shares no bit with the field written keeps its value. -/
theorem bitsOf_setBits_disj (w : Word) (lo width v lo' width' : Nat) (h : lo' + width' ≤ lo ∨ lo + width ≤ lo') :
    bitsOf (setBits w lo width v).toNat lo' width' = bitsOf w.toNat lo' width' := by
  apply Nat.eq_of_testBit_eq; intro i
  rw [testBit_bitsOf, testBit_bitsOf, testBit_setBits]
  by_cases h1 : i < width'
  · have h2 : ¬ (lo ≤ lo' + i ∧ lo' + i < lo + width) := by omega
    simp only [h2, if_false]
  · simp only [h1, decide_false, Bool.false_and]

theorem State.f_putReg (s : State) (a : Nat) (v : Word) (x : Fld) :
    (s.putReg a v).f x = if a = x.addr then bitsOf v.toNat x.lo x.width else s.f x := by
  unfold State.f; rw [State.reg_putReg]; split <;> rfl

@[simp] theorem State.reg_setF (s : State) (x : Fld) (v : Nat) (b : Nat) :
    (s.setF x v).reg b = if x.addr = b then setBits (s.reg x.addr) x.lo x.width v else s.reg b :=
  State.reg_putReg ..

theorem State.f_setF_same (s : State) (x : Fld) (v : Nat) (h : x.lo + x.width ≤ 32) : (s.setF x v).f x = v % 2 ^ x.width := by
  unfold State.setF; rw [State.f_putReg, if_pos rfl]; exact bitsOf_setBits_same _ _ _ _ h

theorem State.f_setF_other (s : State) (x y : Fld) (v : Nat) (h : x.addr ≠ y.addr) : (s.setF x v).f y = s.f y := by
  unfold State.setF; rw [State.f_putReg, if_neg h]

theorem State.f_setF_disj (s : State) (x y : Fld) (v : Nat) (h : y.lo + y.width ≤ x.lo ∨ x.lo + x.width ≤ y.lo) :
    (s.setF x v).f y = s.f y := by
  unfold State.setF; rw [State.f_putReg]
  split
  · rename_i he; rw [bitsOf_setBits_disj _ _ _ _ _ _ h]; unfold State.f; rw [he]
  · rfl

/-- Reading a field after writing one: the same field, or one that shares no bit with it. -/
theorem State.f_setF (s : State) (x y : Fld) (v : Nat) (hx : x.lo + x.width ≤ 32)
    (h : x = y ∨ x.addr ≠ y.addr ∨ y.lo + y.width ≤ x.lo ∨ x.lo + x.width ≤ y.lo) :
    (s.setF x v).f y = if x = y then v % 2 ^ x.width else s.f y := by
  by_cases e : x = y
  · subst e; rw [if_pos rfl]; exact State.f_setF_same s x v hx
  · rw [if_neg e]
    rcases h with h | h | h
    · exact absurd h e
    · exact State.f_setF_other s x y v h
    · exact State.f_setF_disj s x y v h

@[simp] theorem State.reg_set1 (s : State) (x : Fld) (b : Nat) :
    (s.set1 x).reg b = if x.addr = b then setBits (s.reg x.addr) x.lo x.width 1 else s.reg b := State.reg_setF ..
@[simp] theorem State.reg_clr (s : State) (x : Fld) (b : Nat) :
    (s.clr x).reg b = if x.addr = b then setBits (s.reg x.addr) x.lo x.width 0 else s.reg b := State.reg_setF ..
@[simp] theorem State.reg_setB (s : State) (x : Fld) (c : Bool) (b : Nat) :
    (s.setB x c).reg b = if x.addr = b then setBits (s.reg x.addr) x.lo x.width (if c then 1 else 0) else s.reg b := State.reg_setF ..
@[simp] theorem State.reg_incSat (s : State) (x : Fld) (n : Nat) (b : Nat) :
    (s.incSat x n).reg b = if x.addr = b then setBits (s.reg x.addr) x.lo x.width (min (2 ^ x.width - 1) (s.f x + n)) else s.reg b :=
  State.reg_setF ..
@[simp] theorem State.reg_incWrap (s : State) (x : Fld) (n : Nat) (b : Nat) :
    (s.incWrap x n).reg b = if x.addr = b then setBits (s.reg x.addr) x.lo x.width (s.f x + n) else s.reg b := State.reg_setF ..

/-- Registers read through the three copies only: equal copies, equal registers. -/
theorem State.reg_congr (s t : State) (h : t.regs = s.regs) (hb : t.tvB = s.tvB) (hc : t.tvC = s.tvC) (a : Nat) :
    t.reg a = s.reg a := by
  unfold State.reg; rw [h, hb, hc]

/-- The registers a raised event writes: the pending bit's, the loss count and its flag. -/
theorem State.reg_raise (s : State) (src d : Nat) (w : Word) (a : Nat)
    (h1 : a ≠ R.EVT_PEND (src / 32)) (h2 : a ≠ R.EVT_STAT) (h3 : a ≠ R.EVT_LOST_CNT) : (s.raise src d w).reg a = s.reg a := by
  have hp : ∀ u : State, (u.evtPend src).reg a = u.reg a := by
    intro u; unfold State.evtPend; rw [State.reg_putReg, if_neg (Ne.symm h1)]
  have hl : ∀ u : State, u.evtLose.reg a = u.reg a := by
    intro u; unfold State.evtLose
    rw [State.reg_set1, if_neg (show R.EVT_STAT_LOST.addr ≠ a from Ne.symm h2),
      State.reg_incSat, if_neg (show R.EVT_LOST_CNT_COUNT.addr ≠ a from Ne.symm h3)]
    by_cases h : u.flag R.EVT_STAT_LOST = true
    · simp only [h, if_true]; exact State.reg_congr _ _ rfl rfl rfl a
    · simp only [h]; exact State.reg_congr _ _ rfl rfl rfl a
  have hs2 : ∀ (u : State) (e : BitVec 16), (u.evtSecond src e w).reg a = u.reg a := by
    intro u e; unfold State.evtSecond; split
    · exact hl u
    · split
      · exact State.reg_congr _ _ rfl rfl rfl a
      · exact hl u
  unfold State.raise; dsimp only
  generalize hu : (if (routeEn (s.evtRoute src) && !(s.evtPend src).flag R.EVT_CFG_EN) = true then (s.evtPend src).evtLose else s.evtPend src) = u
  have hu' : u.reg a = s.reg a := by
    subst hu; split
    · exact (hl _).trans (hp _)
    · exact hp _
  split
  · exact (State.reg_congr _ _ rfl rfl rfl a).trans hu'
  · split_ifs
    · exact (State.reg_congr _ _ rfl rfl rfl a).trans hu'
    · exact (hs2 _ _).trans hu'
    · exact hu'

end Sys2Proof.Machine
end

