-- ==== Sys2Proof/Laws/Codec.lean ====
section
/-! SUPPORT. Laws of bytes and check codes: bytes of words, a CRC-32 fits 32 bits, a PAIR frame as built passes its check, tables in canonical form are equal when they
read alike, and the image that the Keystone window holds, byte by byte. -/

namespace Sys2Proof.Machine

theorem bytesOf_length (n v : Nat) : (bytesOf n v).length = n := by
  induction n generalizing v with
  | zero => rfl
  | succ n ih => simp only [bytesOf, List.length_cons, ih]

theorem natOfBytes_bytesOf (n v : Nat) : natOfBytes (bytesOf n v) = v % 256 ^ n := by
  induction n generalizing v with
  | zero => simp only [bytesOf, natOfBytes, Nat.pow_zero, Nat.mod_one]
  | succ n ih =>
    simp only [bytesOf, natOfBytes, ih, BitVec.toNat_ofNat]
    have hm : v % 256 ^ (n + 1) = v % 256 + 256 * (v / 256 % 256 ^ n) := by
      rw [show 256 ^ (n + 1) = 256 * 256 ^ n from Nat.pow_succ']
      exact Nat.mod_mul
    rw [hm]

theorem crc32Bit_lt (c : Nat) (h : c < 2 ^ 32) : crc32Bit c < 2 ^ 32 := by
  unfold crc32Bit
  split
  · exact Nat.xor_lt_two_pow (by omega) (by decide)
  · omega

theorem crc32Byte_lt (c : Nat) (b : Byte) (h : c < 2 ^ 32) : crc32Byte c b < 2 ^ 32 := by
  have hx : c ^^^ b.toNat < 2 ^ 32 := Nat.xor_lt_two_pow h (Nat.lt_trans b.isLt (by decide))
  unfold crc32Byte
  generalize List.range 8 = l
  generalize c ^^^ b.toNat = x at hx
  induction l generalizing x with
  | nil => exact hx
  | cons a l ih => exact ih _ (crc32Bit_lt x hx)

/-- A CRC-32 fits 32 bits. -/
theorem crc32_lt (bs : List Byte) : crc32 bs < 2 ^ 32 := by
  have h : ∀ (l : List Byte) (c : Nat), c < 2 ^ 32 → l.foldl crc32Byte c < 2 ^ 32 := by
    intro l
    induction l with
    | nil => exact fun _ h => h
    | cons b l ih => exact fun c hc => ih _ (crc32Byte_lt c b hc)
  exact Nat.xor_lt_two_pow (h bs _ (by decide)) (by decide)

theorem pairFrame_length (bs : List Byte) : (pairFrame bs).length = bs.length + 4 := by
  simp only [pairFrame, List.length_append, bytesOf_length]

/-- A PAIR frame as built passes its check (R358). -/
theorem pairCrcOk_pairFrame (bs : List Byte) (h : bs ≠ []) : pairCrcOk (pairFrame bs) = true := by
  have h0 : 0 < bs.length := List.length_pos_of_ne_nil h
  have h4 : bs.length + 4 - 4 = bs.length := by omega
  have hd : (pairFrame bs).drop bs.length = bytesOf 4 (crc32 bs) := by
    simp only [pairFrame, List.drop_append_of_le_length (Nat.le_refl _), List.drop_length, List.nil_append]
  have ht : (pairFrame bs).take bs.length = bs := by
    simp only [pairFrame, List.take_append_of_le_length (Nat.le_refl _), List.take_length]
  have hm : crc32 bs % 256 ^ 4 = crc32 bs := Nat.mod_eq_of_lt (Nat.lt_of_lt_of_le (crc32_lt bs) (by decide))
  simp only [pairCrcOk, pairFrame_length, h4, hd, ht, natOfBytes_bytesOf, hm, beq_self_eq_true, Bool.and_true, decide_eq_true_eq]
  omega

/-- A field within the bytes a PAIR frame is built from. -/
theorem pairField_pairFrame (bs : List Byte) (off n : Nat) (h : off + n ≤ bs.length) : pairField (pairFrame bs) off n = pairField bs off n := by
  simp only [pairField, pairFrame]
  rw [List.drop_append_of_le_length (by omega), List.take_append_of_le_length (by simp only [List.length_drop]; omega)]

/-- Two tables in canonical form that read alike are equal. -/
theorem tab_ext {α : Type} [DecidableEq α] (d : Nat → α) (t u : Tab α) (ht : tabWf d t = true) (hu : tabWf d u = true)
    (h : ∀ k, tabGet d t k = tabGet d u k) : t = u := by
  have above : ∀ (w : Tab α) (k : Nat), tabAbove k w → tabGet d w k = d k := by
    intro w k hw
    induction w with
    | nil => rfl
    | cons e r ih =>
      obtain ⟨i, v⟩ := e
      have hi : k < i := hw _ List.mem_cons_self
      simp only [tabGet, Nat.ne_of_gt hi, if_false]
      exact ih (fun x hx => hw x (List.mem_cons_of_mem _ hx))
  induction t generalizing u with
  | nil =>
    cases u with
    | nil => rfl
    | cons e r =>
      obtain ⟨i, v⟩ := e
      have := h i
      simp only [tabGet, if_true] at this
      exact absurd this.symm (((tabWf_iff d _).1 hu).2 _ List.mem_cons_self)
  | cons e r ih =>
    obtain ⟨i, v⟩ := e
    obtain ⟨hr, hn⟩ := (tabWf_iff d _).1 ht
    obtain ⟨ha, hr'⟩ := (tabRising_cons i v r).1 hr
    cases u with
    | nil =>
      have := h i
      simp only [tabGet, if_true] at this
      exact absurd this (hn _ List.mem_cons_self)
    | cons f q =>
      obtain ⟨j, w⟩ := f
      obtain ⟨hq, hm⟩ := (tabWf_iff d _).1 hu
      obtain ⟨hb, hq'⟩ := (tabRising_cons j w q).1 hq
      have hij : i = j := by
        rcases Nat.lt_trichotomy i j with hl | he | hl
        · have := h i
          rw [above ((j, w) :: q) i (fun x hx => by
            rcases List.mem_cons.1 hx with rfl | hx
            · exact hl
            · exact Nat.lt_trans hl (hb x hx))] at this
          simp only [tabGet, if_true] at this
          exact absurd this (hn _ List.mem_cons_self)
        · exact he
        · have := h j
          rw [above ((i, v) :: r) j (fun x hx => by
            rcases List.mem_cons.1 hx with rfl | hx
            · exact hl
            · exact Nat.lt_trans hl (ha x hx))] at this
          simp only [tabGet, if_true] at this
          exact absurd this.symm (hm _ List.mem_cons_self)
      subst hij
      have hv : v = w := by simpa only [tabGet, if_true] using h i
      subst hv
      have hrq : r = q := ih q ((tabWf_iff d _).2 ⟨hr', fun x hx => hn x (List.mem_cons_of_mem _ hx)⟩)
        ((tabWf_iff d _).2 ⟨hq', fun x hx => hm x (List.mem_cons_of_mem _ hx)⟩) (fun k => by
          by_cases hk : i = k
          · subst hk; rw [above r _ ha, above q _ hb]
          · simpa only [tabGet, hk, if_false] using h k)
      rw [hrq]

theorem bytesOfWords_length (ws : List Word) : (bytesOfWords ws).length = 4 * ws.length := by
  induction ws with
  | nil => rfl
  | cons w ws ih =>
    have : bytesOfWords (w :: ws) = bytesOf 4 w.toNat ++ bytesOfWords ws := rfl
    rw [this, List.length_append, bytesOf_length, ih, List.length_cons]; omega

/-- Byte `k` of a list of words is byte `k % 4` of word `k / 4`. -/
theorem bytesOfWords_get (ws : List Word) (k : Nat) :
    (bytesOfWords ws)[k]? = (ws[k / 4]?).map (fun w => BitVec.ofNat 8 (w.toNat / 256 ^ (k % 4))) := by
  induction ws generalizing k with
  | nil => rfl
  | cons w ws ih =>
    have hc : bytesOfWords (w :: ws) = bytesOf 4 w.toNat ++ bytesOfWords ws := rfl
    rw [hc]
    by_cases h : k < 4
    · rw [List.getElem?_append_left (by rw [bytesOf_length]; exact h)]
      interval_cases k <;> simp [bytesOf, Nat.div_div_eq_div_mul]
    · rw [List.getElem?_append_right (by rw [bytesOf_length]; omega), bytesOf_length, ih]
      have h1 : k / 4 = (k - 4) / 4 + 1 := by omega
      have h2 : (k - 4) % 4 = k % 4 := by omega
      rw [h1, h2, List.getElem?_cons_succ]

/-- What the Keystone window holds, byte by byte (R336). -/
theorem winImage_get (s : State) (k : Nat) :
    tabGet imgDefault s.winImage k = if k < 4096 then BitVec.ofNat 8 ((s.reg (R.KST_PWIN (k / 4))).toNat / 256 ^ (k % 4)) else 0 := by
  have hg := bytesOfWords_get ((List.range 1024).map (fun w => s.reg (R.KST_PWIN w))) k
  have hl : (bytesOfWords ((List.range 1024).map (fun w => s.reg (R.KST_PWIN w)))).length = 4096 := by
    rw [bytesOfWords_length, List.length_map, List.length_range]
  by_cases h : k < 4096
  · have hk : k / 4 < 1024 := by omega
    rw [if_pos h, State.winImage, tabGet_tabWrite, dif_pos ⟨Nat.zero_le k, by omega⟩]
    rw [List.getElem?_eq_getElem (by omega), List.getElem?_map, List.getElem?_range hk] at hg
    exact Option.some.inj hg
  · rw [if_neg h, State.winImage, tabGet_tabWrite, dif_neg (by omega)]
    rfl

theorem winImage_wf (s : State) : tabWf imgDefault s.winImage = true := tabWrite_wf _ _ _ _ rfl

end Sys2Proof.Machine
end

