-- ==== Sys2Proof/Laws/Frame.lean ====
section
/-! SUPPORT. Frames compose: what the writers of registers, record updates, conditionals and repetitions may change. -/

namespace Sys2Proof.Machine

variable {ps qs : List Part} {W : Nat → Prop} {s t u : State}

theorem Part.same_refl (p : Part) (s : State) : p.same s s := by cases p <;> rfl

theorem Part.same_trans (p : Part) (h1 : p.same s t) (h2 : p.same t u) : p.same s u := by
  cases p <;> exact Eq.trans h2 h1

theorem Frame.refl (ps : List Part) (W : Nat → Prop) (s : State) : Frame ps W s s :=
  ⟨fun p _ => p.same_refl s, fun _ _ => rfl⟩

theorem Frame.step (h : Frame ps W s t) (g : Frame qs W t u) (sub : ∀ p ∈ qs, p ∈ ps) : Frame ps W s u :=
  ⟨fun p hp => p.same_trans (h.1 p hp) (g.1 p (fun hq => hp (sub p hq))), fun a ha => (g.2 a ha).trans (h.2 a ha)⟩

theorem Frame.mono {V : Nat → Prop} (h : Frame qs V s t) (sub : ∀ p ∈ qs, p ∈ ps) (hW : ∀ a, V a → W a) : Frame ps W s t :=
  ⟨fun p hp => h.1 p (fun hq => hp (sub p hq)), fun a ha => h.2 a (fun hv => ha (hW a hv))⟩

theorem Frame.putReg {a : Nat} {v : Word} (h : Frame ps W s t) (ha : W a) : Frame ps W s (t.putReg a v) := by
  refine ⟨fun p hp => p.same_trans (h.1 p hp) ?_, fun b hb => ?_⟩
  · cases p <;> simp only [Part.same, State.putReg_pending, State.putReg_clk, State.putReg_free, State.putReg_nt, State.putReg_inc, State.putReg_host, State.putReg_evt, State.putReg_cyc, State.putReg_chn, State.putReg_est, State.putReg_cap, State.putReg_dsp, State.putReg_piers, State.putReg_axes, State.putReg_deck, State.putReg_pwr, State.putReg_hif, State.putReg_ring, State.putReg_twn, State.putReg_kst, State.putReg_acq, State.putReg_nvs, State.putReg_krefLost, State.putReg_sysLost, State.putReg_fbDone]
  · rw [State.reg_putReg, if_neg (fun (e : a = b) => hb (e ▸ ha))]; exact h.2 b hb

theorem Frame.setF {x : Fld} {v : Nat} (h : Frame ps W s t) (ha : W x.addr) : Frame ps W s (t.setF x v) := h.putReg ha
theorem Frame.set1 {x : Fld} (h : Frame ps W s t) (ha : W x.addr) : Frame ps W s (t.set1 x) := h.putReg ha
theorem Frame.clr {x : Fld} (h : Frame ps W s t) (ha : W x.addr) : Frame ps W s (t.clr x) := h.putReg ha
theorem Frame.setB {x : Fld} {b : Bool} (h : Frame ps W s t) (ha : W x.addr) : Frame ps W s (t.setB x b) := h.putReg ha
theorem Frame.incSat {x : Fld} {n : Nat} (h : Frame ps W s t) (ha : W x.addr) : Frame ps W s (t.incSat x n) := h.putReg ha
theorem Frame.incWrap {x : Fld} {n : Nat} (h : Frame ps W s t) (ha : W x.addr) : Frame ps W s (t.incWrap x n) := h.putReg ha

theorem Frame.whenDo {c : Bool} {g : State → State} (h : Frame ps W s t) (hg : ∀ u, Frame ps W s u → Frame ps W s (g u)) :
    Frame ps W s (t.when c g) := by
  cases c
  · exact h
  · exact hg t h

theorem Frame.foldl {α : Type} {l : List α} {g : State → α → State} (h : Frame ps W s t)
    (hg : ∀ u x, Frame ps W s u → Frame ps W s (g u x)) : Frame ps W s (l.foldl g t) := by
  induction l generalizing t with
  | nil => exact h
  | cons x l ih => exact ih (hg t x h)

theorem Frame.eachDo {α : Type} {l : List α} {g : State → α → State} (h : Frame ps W s t)
    (hg : ∀ u x, Frame ps W s u → Frame ps W s (g u x)) : Frame ps W s (t.each l g) := Frame.foldl h hg

theorem Frame.foldlFst {α β : Type} {l : List α} {g : State × β → α → State × β} {p : State × β}
    (hg : ∀ q x, Frame ps W s q.1 → Frame ps W s (g q x).1) (h : Frame ps W s p.1) : Frame ps W s (l.foldl g p).1 := by
  induction l generalizing p with
  | nil => exact h
  | cons x l ih => exact ih (hg p x h)

theorem Frame.foldlSnd {α β : Type} {l : List α} {g : β × State → α → β × State} {p : β × State}
    (hg : ∀ q x, Frame ps W s q.2 → Frame ps W s (g q x).2) (h : Frame ps W s p.2) : Frame ps W s (l.foldl g p).2 := by
  induction l generalizing p with
  | nil => exact h
  | cons x l ih => exact ih (hg p x h)

theorem Frame.iteOf {c : Prop} [Decidable c] {v : State} (h1 : Frame ps W s t) (h2 : Frame ps W s v) :
    Frame ps W s (if c then t else v) := by
  split
  · exact h1
  · exact h2

theorem Frame.iteFst {α : Type} {c : Prop} [Decidable c] {p q : State × α} (h1 : Frame ps W s p.1) (h2 : Frame ps W s q.1) :
    Frame ps W s (if c then p else q).1 := by
  split
  · exact h1
  · exact h2

theorem Frame.iteSnd {α : Type} {c : Prop} [Decidable c] {p q : α × State} (h1 : Frame ps W s p.2) (h2 : Frame ps W s q.2) :
    Frame ps W s (if c then p else q).2 := by
  split
  · exact h1
  · exact h2

/-- A record update that keeps the queue and the registers. -/
theorem Frame.upd {x_clk : Nat} {x_free : Nat} {x_nt : NetTime} {x_inc : BitVec 40} {x_host : HostSide} {x_evt : Events} {x_cyc : Cycle} {x_chn : Chainage} {x_est : Est} {x_cap : Capture} {x_dsp : Dispatch} {x_piers : Tab Pier} {x_axes : Tab AxisCtl} {x_deck : Deck} {x_pwr : Power} {x_hif : Hif} {x_ring : Ring} {x_twn : Twin} {x_kst : Keystone} {x_acq : Acq} {x_nvs : Nvs} {x_krefLost : Bool} {x_sysLost : Bool} {x_fbDone : Nat}
    (h : Frame ps W s t) (hp : ∀ p, p ∉ ps → p.same t ⟨t.pending, x_clk, x_free, x_nt, x_inc, t.regs, t.tvB, t.tvC, x_host, x_evt, x_cyc, x_chn, x_est, x_cap, x_dsp, x_piers, x_axes, x_deck, x_pwr, x_hif, x_ring, x_twn, x_kst, x_acq, x_nvs, x_krefLost, x_sysLost, x_fbDone⟩) : Frame ps W s ⟨t.pending, x_clk, x_free, x_nt, x_inc, t.regs, t.tvB, t.tvC, x_host, x_evt, x_cyc, x_chn, x_est, x_cap, x_dsp, x_piers, x_axes, x_deck, x_pwr, x_hif, x_ring, x_twn, x_kst, x_acq, x_nvs, x_krefLost, x_sysLost, x_fbDone⟩ :=
  ⟨fun p q => p.same_trans (h.1 p q) (hp p q), fun a ha => h.2 a ha⟩

/-- The frame of a partial operation: of the state it answers, if it answers one. -/
@[irreducible] def Frame.opt (ps : List Part) (W : Nat → Prop) (s : State) (o : Option State) : Prop := ∀ t, o = some t → Frame ps W s t

theorem Frame.opt_some (h : Frame ps W s t) : Frame.opt ps W s (some t) := by
  unfold Frame.opt; exact fun _ e => Option.some.inj e ▸ h
theorem Frame.opt_none : Frame.opt ps W s none := by
  unfold Frame.opt; exact fun _ e => nomatch e

theorem Frame.of_opt {o : Option State} (e : o = some t) (h : Frame.opt ps W s o) : Frame ps W s t := by
  unfold Frame.opt at h; exact h t e

theorem Frame.opt_comp {o : Option State} (h : Frame ps W s t) (g : Frame.opt qs W t o) (sub : ∀ p ∈ qs, p ∈ ps) : Frame.opt ps W s o := by
  unfold Frame.opt at *; exact fun u e => h.step (g u e) sub

theorem Frame.opt_step {o : Option State} (h : Frame.opt qs W s o) (sub : ∀ p ∈ qs, p ∈ ps) : Frame.opt ps W s o := by
  unfold Frame.opt at *; exact fun u e => (h u e).mono sub (fun _ w => w)

/-- The frame of a partial operation that answers a value with the state. -/
@[irreducible] def Frame.optSnd (ps : List Part) (W : Nat → Prop) (s : State) {α : Type} (o : Option (α × State)) : Prop :=
  ∀ x t, o = some (x, t) → Frame ps W s t

theorem Frame.optSnd_some {α : Type} {p : α × State} (h : Frame ps W s p.2) : Frame.optSnd ps W s (some p) := by
  unfold Frame.optSnd; intro _ _ e; injection e with e; subst e; exact h
theorem Frame.optSnd_none {α : Type} : Frame.optSnd ps W s (none : Option (α × State)) := by
  unfold Frame.optSnd; exact fun _ _ e => nomatch e
theorem Frame.of_optSnd {α : Type} {o : Option (α × State)} {x : α} (e : o = some (x, t)) (h : Frame.optSnd ps W s o) : Frame ps W s t := by
  unfold Frame.optSnd at h; exact h x t e
theorem Frame.optSnd_comp {α : Type} {o : Option (α × State)} (h : Frame ps W s t) (g : Frame.optSnd qs W t o) (sub : ∀ p ∈ qs, p ∈ ps) :
    Frame.optSnd ps W s o := by
  unfold Frame.optSnd at *; exact fun x u e => h.step (g x u e) sub

/-- Where every part and every register may change. -/
theorem Frame.any (hp : ∀ p, p ∉ ps → p.same s t) (w : ∀ a, W a) : Frame ps W s t := ⟨hp, fun a h => absurd (w a) h⟩

/-- The frame of a meaning: of the next state it answers. -/
@[irreducible] def Frame.out (ps : List Part) (W : Nat → Prop) (s : State) (o : Host.Outcome State Fault Refusal) : Prop :=
  ∀ t, o = .next t → Frame ps W s t

theorem Frame.out_next (h : Frame ps W s t) : Frame.out ps W s (.next t) := by
  unfold Frame.out; intro _ e; injection e with e; exact e ▸ h

theorem Frame.out_fault {f : Fault} : Frame.out ps W s (.fault f) := by
  unfold Frame.out; intro _ e; injection e

theorem Frame.out_refused {r : Refusal} : Frame.out ps W s (.refused r) := by
  unfold Frame.out; intro _ e; injection e

theorem Frame.of_out {o : Host.Outcome State Fault Refusal} (e : o = .next t) (h : Frame.out ps W s o) : Frame ps W s t := by
  unfold Frame.out at h; exact h t e

theorem Frame.out_step {o : Host.Outcome State Fault Refusal} (h : Frame.out qs W s o) (sub : ∀ p ∈ qs, p ∈ ps) : Frame.out ps W s o := by
  unfold Frame.out at *; exact fun u e => (h u e).mono sub (fun _ w => w)

theorem Frame.fst {α : Type} {p : State × α} {x : α} (e : p = (t, x)) (h : Frame ps W s p.1) : Frame ps W s t := by
  subst e; exact h
theorem Frame.snd {α : Type} {p : α × State} {x : α} (e : p = (x, t)) (h : Frame ps W s p.2) : Frame ps W s t := by
  subst e; exact h

/-! ## The setters that keep a memory -/

theorem State.putHif_keep (s : State) (x : Hif) (h : x.bar2 = s.hif.bar2) : Frame [.hif] W s (s.putHif x) := by
  refine Frame.upd (Frame.refl ..) ?_
  intro p hp; cases p <;> first | exact (hp (by decide)).elim | exact h | (dsimp only [Part.same] <;> fail)

theorem State.putAcq_keep (s : State) (x : Acq) (h : x.ddr = s.acq.ddr) : Frame [.acq] W s (s.putAcq x) := by
  refine Frame.upd (Frame.refl ..) ?_
  intro p hp; cases p <;> first | exact (hp (by decide)).elim | exact h | (dsimp only [Part.same] <;> fail)

theorem State.putNvs_keep (s : State) (x : Nvs) (h : x.flash = s.nvs.flash) : Frame [.nvs] W s (s.putNvs x) := by
  refine Frame.upd (Frame.refl ..) ?_
  intro p hp; cases p <;> first | exact (hp (by decide)).elim | exact h | (dsimp only [Part.same] <;> fail)

theorem State.putKst_keep (s : State) (x : Keystone) (h : x.img = s.kst.img ∧ x.conf = s.kst.conf) : Frame [.kst] W s (s.putKst x) := by
  refine Frame.upd (Frame.refl ..) ?_
  intro p hp; cases p <;> first | exact (hp (by decide)).elim | exact h.1 | exact h.2 | (dsimp only [Part.same] <;> fail)

theorem State.putKst_keep2 (s : State) (x : Keystone) (h : x.conf = s.kst.conf) : Frame [.kst, .kstImg] W s (s.putKst x) := by
  refine Frame.upd (Frame.refl ..) ?_
  intro p hp; cases p <;> first | exact (hp (by decide)).elim | exact h | (dsimp only [Part.same] <;> fail)

/-- Induction over a list of pairs. -/
theorem pairsInd {motive : List Word → Prop} (h : ∀ a v rest, motive rest → motive (a :: v :: rest)) (h0 : motive []) (h1 : ∀ a, motive [a]) :
    ∀ l, motive l
  | [] => h0
  | [a] => h1 a
  | a :: v :: rest => h a v rest (pairsInd h h0 h1 rest)

/-! ## The write rules of the units -/

theorem firstRule_frame {a : Nat} {v : Word} (l : List (State → Nat → Word → Option State))
    (h : ∀ g ∈ l, Frame.opt ps W s (g s a v)) : Frame.opt ps W s (firstRule s a v l) := by
  induction l with
  | nil => exact Frame.opt_none
  | cons g gs ih =>
    unfold firstRule
    split
    · rename_i t e
      exact Frame.opt_some (Frame.of_opt e (h g (List.mem_cons_self ..)))
    · exact ih (fun g hg => h g (List.mem_cons_of_mem _ hg))

theorem State.regWriteOf {a : Nat} {v : Word}
    (h : ∀ g ∈ regWriteRules, Frame.opt ps W s (g s a v)) (h2 : Frame ps W s (s.plainWrite a v)) : Frame ps W s (s.regWrite a v) := by
  have h' := firstRule_frame (a := a) (v := v) _ h
  unfold State.regWrite
  generalize e : firstRule s a v regWriteRules = o at h'
  cases o with
  | none => exact h2
  | some t => exact Frame.of_opt rfl h'

end Sys2Proof.Machine
end

