-- ==== Sys2Proof/Laws/FrameUnits.lean ====
section
/-! SUPPORT. The frame of each operation and of each command of the engines, the tables, chainage, dispatch and the mailbox: the parts and the registers it may change.
Each hypothesis says that the frame's set of registers holds one register that the operation writes. -/

set_option linter.all false
set_option maxRecDepth 4000

namespace Sys2Proof.Machine

theorem State.hostWrite_frame {W : Nat → Prop} {ps : List Part} {s0 : State} (s : State) (failed : Bool) (g : State → State) (hw0 : W (R.GLB_ACC_ERR)) (hsub : ∀ p ∈ ([] : List Part), p ∈ ps) (h0 : Frame ps W s0 s) (hg : ∀ u, Frame ps W s0 u → Frame ps W s0 (g u)) : Frame ps W s0 (State.hostWrite s failed g) := by
  unfold State.hostWrite
  extract_lets x0
  with_reducible refine Frame.iteOf ?_ ?_
  assumption
  with_reducible refine Frame.iteOf ?_ ?_
  refine hg _ ?_
  assumption
  with_reducible refine Frame.iteOf ?_ ?_
  with_reducible refine Frame.iteOf ?_ ?_
  refine hg _ ?_
  assumption
  assumption
  with_reducible refine Frame.incSat ?_ ?_
  assumption
  exact hw0

theorem State.bar0Write_frame {W : Nat → Prop} {ps : List Part} {s0 : State} (s : State) (a : ℕ) (g : State → State) (hw0 : W (R.GLB_ACC_ERR)) (hsub : ∀ p ∈ ([] : List Part), p ∈ ps) (h0 : Frame ps W s0 s) (hg : ∀ u, Frame ps W s0 u → Frame ps W s0 (g u)) : Frame ps W s0 (State.bar0Write s a g) := by
  unfold State.bar0Write
  with_reducible refine State.hostWrite_frame _ _ _ ?_ (fun p hp => hsub p (by revert p hp; decide)) ?_ ?_
  exact hw0
  assumption
  intro u0 hu1
  refine hg _ ?_
  assumption

theorem State.evtPend_frame {W : Nat → Prop} (s : State) (src : ℕ) (hw0 : W (R.EVT_PEND (src / 32))) : Frame [] W s (State.evtPend s src) := by
  unfold State.evtPend
  extract_lets x0
  with_reducible refine Frame.putReg ?_ ?_
  exact Frame.refl ..
  exact hw0

theorem State.evtLose_frame {W : Nat → Prop} (s : State) (hw0 : W (R.EVT_LOST_CNT)) (hw1 : W (R.EVT_STAT)) : Frame [.evt] W s (State.evtLose s) := by
  unfold State.evtLose
  extract_lets x0 x1 x2 x3
  have hx1 : Frame [.evt] W s x1 := by
    (with_reducible conv => arg 4; whnf)
    with_reducible refine Frame.iteOf ?_ ?_
    exact Frame.refl ..
    ((with_reducible refine Frame.upd ?_ ?_); on_goal 2 => (intro p hp; cases p <;> first | exact (hp (by decide)).elim | (dsimp only [Part.same] <;> fail)))
    exact Frame.refl ..
  have hx3 : Frame [.evt] W s x3 := by
    (with_reducible conv => arg 4; whnf)
    ((with_reducible refine Frame.upd ?_ ?_); on_goal 2 => (intro p hp; cases p <;> first | exact (hp (by decide)).elim | (dsimp only [Part.same] <;> fail)))
    exact hx1
  with_reducible refine Frame.set1 ?_ ?_
  with_reducible refine Frame.incSat ?_ ?_
  exact hx3
  exact hw0; exact hw1

theorem State.evtSecond_frame {W : Nat → Prop} (s : State) (src : ℕ) (detail : BitVec 16) (data : Word) (hw0 : W (R.EVT_LOST_CNT)) (hw1 : W (R.EVT_STAT)) : Frame [.evt] W s (State.evtSecond s src detail data) := by
  unfold State.evtSecond
  split
  with_reducible refine Frame.step ?_ (State.evtLose_frame _ ?_ ?_) (by decide)
  exact Frame.refl ..
  exact hw0; exact hw1
  with_reducible refine Frame.iteOf ?_ ?_
  ((with_reducible refine Frame.upd ?_ ?_); on_goal 2 => (intro p hp; cases p <;> first | exact (hp (by decide)).elim | (dsimp only [Part.same] <;> fail)))
  exact Frame.refl ..
  with_reducible refine Frame.step ?_ (State.evtLose_frame _ ?_ ?_) (by decide)
  exact Frame.refl ..
  exact hw0; exact hw1

theorem State.raise_frame {W : Nat → Prop} (s : State) (src : ℕ) (detail : ℕ) (data : Word) (hw0 : W (R.EVT_PEND (src / 32))) (hw1 : W (R.EVT_LOST_CNT)) (hw2 : W (R.EVT_STAT)) : Frame [.evt] W s (State.raise s src detail data) := by
  unfold State.raise
  extract_lets x0 x1 x2 x3 x4 x5 x6 x7
  have hx1 : Frame [.evt] W s x1 := by
    (with_reducible conv => arg 4; whnf)
    with_reducible refine Frame.step ?_ (State.evtPend_frame _ _ ?_) (by decide)
    exact Frame.refl ..
    exact hw0
  have hx4 : Frame [.evt] W s x4 := by
    (with_reducible conv => arg 4; whnf)
    with_reducible refine Frame.iteOf ?_ ?_
    with_reducible refine Frame.step ?_ (State.evtLose_frame _ ?_ ?_) (by decide)
    exact hx1
    exact hw1; exact hw2
    exact hx1
  split
  ((with_reducible refine Frame.upd ?_ ?_); on_goal 2 => (intro p hp; cases p <;> first | exact (hp (by decide)).elim | (dsimp only [Part.same] <;> fail)))
  exact hx4
  with_reducible refine Frame.iteOf ?_ ?_
  extract_lets x8
  ((with_reducible refine Frame.upd ?_ ?_); on_goal 2 => (intro p hp; cases p <;> first | exact (hp (by decide)).elim | (dsimp only [Part.same] <;> fail)))
  exact hx4
  with_reducible refine Frame.iteOf ?_ ?_
  with_reducible refine Frame.step ?_ (State.evtSecond_frame _ _ _ _ ?_ ?_) (by decide)
  exact hx4
  exact hw1; exact hw2
  exact hx4

theorem State.pwDiscard_frame {W : Nat → Prop} (s : State) (a : ℕ) (cause : ℕ) (hw0 : W (R.GLB_PW_ERR)) (hw1 : W (R.GLB_PW_LAST)) (hw2 : W (R.EVT_PEND (1 / 32))) (hw3 : W (R.EVT_LOST_CNT)) (hw4 : W (R.EVT_STAT)) : Frame [.evt] W s (State.pwDiscard s a cause) := by
  unfold State.pwDiscard
  extract_lets x0 x1
  have hx0 : Frame [.evt] W s x0 := by
    (with_reducible conv => arg 4; whnf)
    with_reducible refine Frame.incSat ?_ ?_
    exact Frame.refl ..
    exact hw0
  have hx1 : Frame [.evt] W s x1 := by
    (with_reducible conv => arg 4; whnf)
    with_reducible refine Frame.iteOf ?_ ?_
    exact hx0
    with_reducible refine Frame.set1 ?_ ?_
    with_reducible refine Frame.setF ?_ ?_
    with_reducible refine Frame.setF ?_ ?_
    exact hx0
    exact hw1; exact hw1; exact hw1
  with_reducible refine Frame.step ?_ (State.raise_frame _ _ _ _ ?_ ?_ ?_) (by decide)
  exact hx1
  exact hw2; exact hw3; exact hw4

theorem State.pwNone_frame {W : Nat → Prop} (s : State) : Frame [.host] W s (State.pwNone s) := by
  unfold State.pwNone
  ((with_reducible refine Frame.upd ?_ ?_); on_goal 2 => (intro p hp; cases p <;> first | exact (hp (by decide)).elim | (dsimp only [Part.same] <;> fail)))
  exact Frame.refl ..

theorem State.pwSettle_frame {W : Nat → Prop} (s : State) (hw0 : W (R.GLB_PW_ERR)) (hw1 : W (R.GLB_PW_LAST)) (hw2 : W (R.EVT_PEND (1 / 32))) (hw3 : W (R.EVT_LOST_CNT)) (hw4 : W (R.EVT_STAT)) : Frame [.host, .evt] W s (State.pwSettle s) := by
  unfold State.pwSettle
  split
  exact Frame.refl ..
  with_reducible refine Frame.iteOf ?_ ?_
  with_reducible refine Frame.step ?_ (State.pwDiscard_frame _ _ _ ?_ ?_ ?_ ?_ ?_) (by decide)
  with_reducible refine Frame.step ?_ (State.pwNone_frame _) (by decide)
  exact Frame.refl ..
  exact hw0; exact hw1; exact hw2; exact hw3; exact hw4
  exact Frame.refl ..

theorem State.swrstAccept_frame {W : Nat → Prop} (s : State) (scope : ℕ) : Frame [.host] W s (State.swrstAccept s scope) := by
  unfold State.swrstAccept
  split
  ((with_reducible refine Frame.upd ?_ ?_); on_goal 2 => (intro p hp; cases p <;> first | exact (hp (by decide)).elim | (dsimp only [Part.same] <;> fail)))
  exact Frame.refl ..
  with_reducible refine Frame.iteOf ?_ ?_
  ((with_reducible refine Frame.upd ?_ ?_); on_goal 2 => (intro p hp; cases p <;> first | exact (hp (by decide)).elim | (dsimp only [Part.same] <;> fail)))
  exact Frame.refl ..
  with_reducible refine Frame.iteOf ?_ ?_
  ((with_reducible refine Frame.upd ?_ ?_); on_goal 2 => (intro p hp; cases p <;> first | exact (hp (by decide)).elim | (dsimp only [Part.same] <;> fail)))
  exact Frame.refl ..
  exact Frame.refl ..

theorem State.pwAccept_frame {W : Nat → Prop} (s : State) (a : ℕ) (v : Word) (hw0 : W (a)) : Frame [.host] W s (State.pwAccept s a v) := by
  unfold State.pwAccept
  with_reducible refine Frame.iteOf ?_ ?_
  with_reducible refine Frame.step ?_ (State.swrstAccept_frame _ _) (by decide)
  exact Frame.refl ..
  extract_lets x0 x1
  have hx0 : Frame [.host] W s x0 := by
    (with_reducible conv => arg 4; whnf)
    with_reducible refine Frame.putReg ?_ ?_
    exact Frame.refl ..
    exact hw0
  ((with_reducible refine Frame.upd ?_ ?_); on_goal 2 => (intro p hp; cases p <;> first | exact (hp (by decide)).elim | (dsimp only [Part.same] <;> fail)))
  exact hx0

theorem State.pwComplement_frame {W : Nat → Prop} (s : State) (a : ℕ) (v : Word) (hw0 : W (R.GLB_PW_ERR)) (hw1 : W (R.GLB_PW_LAST)) (hw2 : W (R.EVT_PEND (1 / 32))) (hw3 : W (R.EVT_LOST_CNT)) (hw4 : W (R.EVT_STAT)) (hw5 : W (a)) : Frame [.host, .evt] W s (State.pwComplement s a v) := by
  unfold State.pwComplement
  extract_lets x0 x1
  have hx0 : Frame [.host, .evt] W s x0 := by
    (with_reducible conv => arg 4; whnf)
    with_reducible refine Frame.step ?_ (State.pwSettle_frame _ ?_ ?_ ?_ ?_ ?_) (by decide)
    exact Frame.refl ..
    exact hw0; exact hw1; exact hw2; exact hw3; exact hw4
  have hx1 : Frame [.host, .evt] W s x1 := by
    (with_reducible conv => arg 4; whnf)
    with_reducible refine Frame.step ?_ (State.pwNone_frame _) (by decide)
    exact hx0
  split
  with_reducible refine Frame.step ?_ (State.pwDiscard_frame _ _ _ ?_ ?_ ?_ ?_ ?_) (by decide)
  exact hx0
  exact hw0; exact hw1; exact hw2; exact hw3; exact hw4
  with_reducible refine Frame.iteOf ?_ ?_
  with_reducible refine Frame.iteOf ?_ ?_
  with_reducible refine Frame.step ?_ (State.pwAccept_frame _ _ _ ?_) (by decide)
  exact hx1
  exact hw5
  with_reducible refine Frame.step ?_ (State.pwDiscard_frame _ _ _ ?_ ?_ ?_ ?_ ?_) (by decide)
  exact hx1
  exact hw0; exact hw1; exact hw2; exact hw3; exact hw4
  with_reducible refine Frame.step ?_ (State.pwDiscard_frame _ _ _ ?_ ?_ ?_ ?_ ?_) (by decide)
  with_reducible refine Frame.step ?_ (State.pwDiscard_frame _ _ _ ?_ ?_ ?_ ?_ ?_) (by decide)
  exact hx1
  exact hw0; exact hw1; exact hw2; exact hw3; exact hw4; exact hw0; exact hw1; exact hw2; exact hw3; exact hw4

theorem State.pwValue_frame {W : Nat → Prop} (s : State) (a : ℕ) (v : Word) (hw0 : W (R.GLB_PW_ERR)) (hw1 : W (R.GLB_PW_LAST)) (hw2 : W (R.EVT_PEND (1 / 32))) (hw3 : W (R.EVT_LOST_CNT)) (hw4 : W (R.EVT_STAT)) : Frame [.host, .evt] W s (State.pwValue s a v) := by
  unfold State.pwValue
  extract_lets x0 x1 x2
  have hx0 : Frame [.host, .evt] W s x0 := by
    (with_reducible conv => arg 4; whnf)
    with_reducible refine Frame.step ?_ (State.pwSettle_frame _ ?_ ?_ ?_ ?_ ?_) (by decide)
    exact Frame.refl ..
    exact hw0; exact hw1; exact hw2; exact hw3; exact hw4
  have hx1 : Frame [.host, .evt] W s x1 := by
    (with_reducible conv => arg 4; whnf)
    split
    exact hx0
    with_reducible refine Frame.step ?_ (State.pwDiscard_frame _ _ _ ?_ ?_ ?_ ?_ ?_) (by decide)
    with_reducible refine Frame.step ?_ (State.pwNone_frame _) (by decide)
    exact hx0
    exact hw0; exact hw1; exact hw2; exact hw3; exact hw4
  ((with_reducible refine Frame.upd ?_ ?_); on_goal 2 => (intro p hp; cases p <;> first | exact (hp (by decide)).elim | (dsimp only [Part.same] <;> fail)))
  exact hx1

theorem State.deckPut_frame {W : Nat → Prop} (s : State) (a : ℕ) (v : Word) : Frame [.deck, .deckMem] W s (State.deckPut s a v) := by
  unfold State.deckPut
  ((with_reducible refine Frame.upd ?_ ?_); on_goal 2 => (intro p hp; cases p <;> first | exact (hp (by decide)).elim | (dsimp only [Part.same] <;> fail)))
  exact Frame.refl ..

theorem State.parWrite_frame {W : Nat → Prop} (s : State) (a : ℕ) (off : ℕ) (v : Word) : Frame [.deck, .deckMem] W s (State.parWrite s a off v) := by
  unfold State.parWrite
  extract_lets x0 x1
  have hx0 : Frame [.deck, .deckMem] W s x0 := by
    (with_reducible conv => arg 4; whnf)
    with_reducible refine Frame.step ?_ (State.deckPut_frame _ _ _) (by decide)
    exact Frame.refl ..
  with_reducible refine Frame.iteOf ?_ ?_
  ((with_reducible refine Frame.upd ?_ ?_); on_goal 2 => (intro p hp; cases p <;> first | exact (hp (by decide)).elim | (dsimp only [Part.same] <;> fail)))
  exact hx0
  exact hx0

theorem State.camPut_frame {W : Nat → Prop} (s : State) (a : ℕ) (lo : Word) (hi : Word) : Frame [.deck, .deckMem] W s (State.camPut s a lo hi) := by
  unfold State.camPut
  with_reducible refine Frame.step ?_ (State.deckPut_frame _ _ _) (by decide)
  with_reducible refine Frame.step ?_ (State.deckPut_frame _ _ _) (by decide)
  exact Frame.refl ..

theorem State.camHigh_frame {W : Nat → Prop} (s : State) (a : ℕ) (v : Word) : Frame [.deck, .deckMem] W s (State.camHigh s a v) := by
  unfold State.camHigh
  extract_lets x0 x1 x2 x3
  have hx2 : Frame [.deck, .deckMem] W s x2 := by
    (with_reducible conv => arg 4; whnf)
    with_reducible refine Frame.step ?_ (State.camPut_frame _ _ _ _) (by decide)
    exact Frame.refl ..
  ((with_reducible refine Frame.upd ?_ ?_); on_goal 2 => (intro p hp; cases p <;> first | exact (hp (by decide)).elim | (dsimp only [Part.same] <;> fail)))
  exact hx2

theorem State.deckHostWrite_frame {W : Nat → Prop} (s : State) (a : ℕ) (v : Word) (hw0 : W (R.DCK_STAT)) : Frame [.deck, .deckMem] W s (State.deckHostWrite s a v) := by
  unfold State.deckHostWrite
  with_reducible refine Frame.iteOf ?_ ?_
  with_reducible refine Frame.iteOf ?_ ?_
  with_reducible refine Frame.step ?_ (State.parWrite_frame _ _ _ _) (by decide)
  exact Frame.refl ..
  with_reducible refine Frame.set1 ?_ ?_
  exact Frame.refl ..
  exact hw0
  with_reducible refine Frame.iteOf ?_ ?_
  with_reducible refine Frame.set1 ?_ ?_
  exact Frame.refl ..
  exact hw0
  with_reducible refine Frame.iteOf ?_ ?_
  with_reducible refine Frame.step ?_ (State.deckPut_frame _ _ _) (by decide)
  exact Frame.refl ..
  with_reducible refine Frame.iteOf ?_ ?_
  ((with_reducible refine Frame.upd ?_ ?_); on_goal 2 => (intro p hp; cases p <;> first | exact (hp (by decide)).elim | (dsimp only [Part.same] <;> fail)))
  exact Frame.refl ..
  with_reducible refine Frame.step ?_ (State.camHigh_frame _ _ _) (by decide)
  exact Frame.refl ..

theorem State.ntSet_frame {W : Nat → Prop} (s : State) (ws : List Word) : Frame.opt [.nt, .cyc] W s (State.ntSet s ws) := by
  unfold State.ntSet
  extract_lets x0 x1 x2 x3 x4
  split
  with_reducible refine Frame.opt_some ?_
  ((with_reducible refine Frame.upd ?_ ?_); on_goal 2 => (intro p hp; cases p <;> first | exact (hp (by decide)).elim | (dsimp only [Part.same] <;> fail)))
  exact Frame.refl ..
  with_reducible exact Frame.opt_none

theorem State.mbxApply_frame {W : Nat → Prop} (s : State) (code : ℕ) (ws : List Word) : Frame.opt [.nt, .cyc, .chn] W s (State.mbxApply s code ws) := by
  unfold State.mbxApply
  extract_lets x0 x1
  split
  with_reducible refine Frame.opt_comp ?_ (State.ntSet_frame _ _) (by decide)
  exact Frame.refl ..
  split
  with_reducible refine Frame.opt_some ?_
  ((with_reducible refine Frame.upd ?_ ?_); on_goal 2 => (intro p hp; cases p <;> first | exact (hp (by decide)).elim | (dsimp only [Part.same] <;> fail)))
  exact Frame.refl ..
  split
  with_reducible refine Frame.opt_some ?_
  ((with_reducible refine Frame.upd ?_ ?_); on_goal 2 => (intro p hp; cases p <;> first | exact (hp (by decide)).elim | (dsimp only [Part.same] <;> fail)))
  exact Frame.refl ..
  split
  with_reducible refine Frame.opt_some ?_
  ((with_reducible refine Frame.upd ?_ ?_); on_goal 2 => (intro p hp; cases p <;> first | exact (hp (by decide)).elim | (dsimp only [Part.same] <;> fail)))
  exact Frame.refl ..
  with_reducible exact Frame.opt_none

theorem State.mbxStart_frame {W : Nat → Prop} (s : State) (wr : Bool) (code : ℕ) (failed : Bool) (words : ℕ) (hw0 : W (R.GLB_MBX_REQ)) (hw1 : W (R.GLB_MBX_STAT)) : Frame [.host] W s (State.mbxStart s wr code failed words) := by
  unfold State.mbxStart
  extract_lets x0 x1 x2
  have hx0 : Frame [.host] W s x0 := by
    (with_reducible conv => arg 4; whnf)
    with_reducible refine Frame.setF ?_ ?_
    with_reducible refine Frame.setB ?_ ?_
    exact Frame.refl ..
    exact hw0; exact hw0
  have hx1 : Frame [.host] W s x1 := by
    (with_reducible conv => arg 4; whnf)
    with_reducible refine Frame.set1 ?_ ?_
    with_reducible refine Frame.clr ?_ ?_
    with_reducible refine Frame.clr ?_ ?_
    exact hx0
    exact hw1; exact hw1; exact hw1
  ((with_reducible refine Frame.upd ?_ ?_); on_goal 2 => (intro p hp; cases p <;> first | exact (hp (by decide)).elim | (dsimp only [Part.same] <;> fail)))
  exact hx1

theorem State.mbxWrite_frame {W : Nat → Prop} (s : State) (code : ℕ) (hw0 : W (R.GLB_MBX_REQ)) (hw1 : W (R.GLB_MBX_STAT)) : Frame [.nt, .host, .cyc, .chn] W s (State.mbxWrite s code) := by
  unfold State.mbxWrite
  split
  with_reducible refine Frame.step ?_ (State.mbxStart_frame _ _ _ _ _ ?_ ?_) (by decide)
  refine Frame.of_opt (by assumption) ?_
  with_reducible refine Frame.opt_comp ?_ (State.mbxApply_frame _ _ _) (by decide)
  exact Frame.refl ..
  exact hw0; exact hw1
  with_reducible refine Frame.step ?_ (State.mbxStart_frame _ _ _ _ _ ?_ ?_) (by decide)
  exact Frame.refl ..
  exact hw0; exact hw1

theorem State.mbxLoad_frame {W : Nat → Prop} (s : State) (ws : List Word) (hw0 : ∀ i0, W (R.GLB_MBX_D i0)) : Frame [] W s (State.mbxLoad s ws) := by
  unfold State.mbxLoad
  with_reducible refine Frame.eachDo ?_ ?_
  exact Frame.refl ..
  intro u0 x1 hu2
  with_reducible refine Frame.putReg ?_ ?_
  assumption
  exact hw0 _

theorem State.mbxRead_frame {W : Nat → Prop} (s : State) (code : ℕ) (hw0 : ∀ i0, W (R.GLB_MBX_D i0)) (hw1 : W (R.GLB_MBX_REQ)) (hw2 : W (R.GLB_MBX_STAT)) : Frame [.host] W s (State.mbxRead s code) := by
  unfold State.mbxRead
  split
  with_reducible refine Frame.step ?_ (State.mbxStart_frame _ _ _ _ _ ?_ ?_) (by decide)
  with_reducible refine Frame.step ?_ (State.mbxLoad_frame _ _ ?_) (by decide)
  exact Frame.refl ..
  exact fun _ => hw0 _; exact hw1; exact hw2
  with_reducible refine Frame.step ?_ (State.mbxStart_frame _ _ _ _ _ ?_ ?_) (by decide)
  exact Frame.refl ..
  exact hw1; exact hw2

theorem State.mbxRequest_frame {W : Nat → Prop} (s : State) (v : Word) (hw0 : W (R.GLB_MBX_REQ)) (hw1 : W (R.GLB_MBX_STAT)) (hw2 : ∀ i0, W (R.GLB_MBX_D i0)) : Frame [.nt, .host, .cyc, .chn] W s (State.mbxRequest s v) := by
  unfold State.mbxRequest
  extract_lets x0
  with_reducible refine Frame.iteOf ?_ ?_
  with_reducible refine Frame.step ?_ (State.mbxWrite_frame _ _ ?_ ?_) (by decide)
  exact Frame.refl ..
  exact hw0; exact hw1
  with_reducible refine Frame.step ?_ (State.mbxRead_frame _ _ ?_ ?_ ?_) (by decide)
  exact Frame.refl ..
  exact fun _ => hw2 _; exact hw0; exact hw1

theorem glbRegWrite_frame {W : Nat → Prop} (s : State) (a : ℕ) (v : Word) (hw0 : W (R.GLB_MBX_REQ)) (hw1 : W (R.GLB_MBX_STAT)) (hw2 : ∀ i0, W (R.GLB_MBX_D i0)) : Frame.opt [.nt, .host, .cyc, .chn] W s (glbRegWrite s a v) := by
  unfold glbRegWrite
  split
  with_reducible refine Frame.opt_some ?_
  with_reducible refine Frame.step ?_ (State.mbxRequest_frame _ _ ?_ ?_ ?_) (by decide)
  exact Frame.refl ..
  exact hw0; exact hw1; exact fun _ => hw2 _
  with_reducible exact Frame.opt_none

theorem State.plainWrite_frame {W : Nat → Prop} (s : State) (a : ℕ) (v : Word) (hw0 : W (a)) : Frame [] W s (State.plainWrite s a v) := by
  unfold State.plainWrite
  split
  exact Frame.refl ..
  with_reducible refine Frame.putReg ?_ ?_
  exact Frame.refl ..
  exact hw0

theorem State.capLose_frame {W : Nat → Prop} (s : State) (inp : ℕ) (hw0 : W (R.CHN_CAP_FILL)) (hw1 : W (R.CHN_STAT)) (hw2 : W (R.EVT_PEND (21 / 32))) (hw3 : W (R.EVT_LOST_CNT)) (hw4 : W (R.EVT_STAT)) : Frame [.evt, .cap] W s (State.capLose s inp) := by
  unfold State.capLose
  extract_lets x0 x1
  have hx1 : Frame [.evt, .cap] W s x1 := by
    (with_reducible conv => arg 4; whnf)
    with_reducible refine Frame.iteOf ?_ ?_
    exact Frame.refl ..
    ((with_reducible refine Frame.upd ?_ ?_); on_goal 2 => (intro p hp; cases p <;> first | exact (hp (by decide)).elim | (dsimp only [Part.same] <;> fail)))
    exact Frame.refl ..
  with_reducible refine Frame.step ?_ (State.raise_frame _ _ _ _ ?_ ?_ ?_) (by decide)
  with_reducible refine Frame.set1 ?_ ?_
  with_reducible refine Frame.incSat ?_ ?_
  exact hx1
  exact hw0; exact hw1; exact hw2; exact hw3; exact hw4

theorem State.capEdge_frame {W : Nat → Prop} (s : State) (inp : ℕ) (rising : Bool) (m : ℕ) (hw0 : W (R.CHN_CAP_FILL)) (hw1 : W (R.CHN_STAT)) (hw2 : W (R.EVT_PEND (21 / 32))) (hw3 : W (R.EVT_LOST_CNT)) (hw4 : W (R.EVT_STAT)) : Frame [.evt, .cap] W s (State.capEdge s inp rising m) := by
  unfold State.capEdge
  with_reducible refine Frame.iteOf ?_ ?_
  ((with_reducible refine Frame.upd ?_ ?_); on_goal 2 => (intro p hp; cases p <;> first | exact (hp (by decide)).elim | (dsimp only [Part.same] <;> fail)))
  exact Frame.refl ..
  extract_lets x0 x1 x2 x3 x4
  have hx2 : Frame [.evt, .cap] W s x2 := by
    (with_reducible conv => arg 4; whnf)
    ((with_reducible refine Frame.upd ?_ ?_); on_goal 2 => (intro p hp; cases p <;> first | exact (hp (by decide)).elim | (dsimp only [Part.same] <;> fail)))
    exact Frame.refl ..
  with_reducible refine Frame.iteOf ?_ ?_
  with_reducible refine Frame.step ?_ (State.capLose_frame _ _ ?_ ?_ ?_ ?_ ?_) (by decide)
  exact hx2
  exact hw0; exact hw1; exact hw2; exact hw3; exact hw4
  with_reducible refine Frame.iteOf ?_ ?_
  ((with_reducible refine Frame.upd ?_ ?_); on_goal 2 => (intro p hp; cases p <;> first | exact (hp (by decide)).elim | (dsimp only [Part.same] <;> fail)))
  exact hx2
  with_reducible refine Frame.step ?_ (State.capLose_frame _ _ ?_ ?_ ?_ ?_ ?_) (by decide)
  exact hx2
  exact hw0; exact hw1; exact hw2; exact hw3; exact hw4

theorem State.capOpened_frame {W : Nat → Prop} (s : State) (inp : ℕ) (hw0 : W (R.CHN_CAP_FILL)) (hw1 : W (R.CHN_STAT)) (hw2 : W (R.EVT_PEND (21 / 32))) (hw3 : W (R.EVT_LOST_CNT)) (hw4 : W (R.EVT_STAT)) : Frame [.evt, .cap] W s (State.capOpened s inp) := by
  unfold State.capOpened
  extract_lets x0 x1 x2
  have hx2 : Frame [.evt, .cap] W s x2 := by
    (with_reducible conv => arg 4; whnf)
    ((with_reducible refine Frame.upd ?_ ?_); on_goal 2 => (intro p hp; cases p <;> first | exact (hp (by decide)).elim | (dsimp only [Part.same] <;> fail)))
    exact Frame.refl ..
  with_reducible refine Frame.eachDo ?_ ?_
  exact hx2
  intro u3 x4 hu5
  with_reducible refine Frame.step ?_ (State.capEdge_frame _ _ _ _ ?_ ?_ ?_ ?_ ?_) (by decide)
  assumption
  exact hw0; exact hw1; exact hw2; exact hw3; exact hw4

theorem State.chnIncHi_frame {W : Nat → Prop} (s : State) (v : Word) (hw0 : W (R.CHN_INC_HI)) (hw1 : W (R.CHN_INC_LO)) (hw2 : W (R.CHN_STAT)) (hw3 : W (R.EVT_PEND (16 / 32))) (hw4 : W (R.EVT_LOST_CNT)) (hw5 : W (R.EVT_STAT)) : Frame [.inc, .evt] W s (State.chnIncHi s v) := by
  unfold State.chnIncHi
  extract_lets x0 x1 x2 x3
  have hx2 : Frame [.inc, .evt] W s x2 := by
    (with_reducible conv => arg 4; whnf)
    with_reducible refine Frame.putReg ?_ ?_
    with_reducible refine Frame.setF ?_ ?_
    exact Frame.refl ..
    exact hw0; exact hw1
  have hx3 : Frame [.inc, .evt] W s x3 := by
    (with_reducible conv => arg 4; whnf)
    ((with_reducible refine Frame.upd ?_ ?_); on_goal 2 => (intro p hp; cases p <;> first | exact (hp (by decide)).elim | (dsimp only [Part.same] <;> fail)))
    exact hx2
  with_reducible refine Frame.iteOf ?_ ?_
  exact hx3
  with_reducible refine Frame.step ?_ (State.raise_frame _ _ _ _ ?_ ?_ ?_) (by decide)
  with_reducible refine Frame.set1 ?_ ?_
  exact hx3
  exact hw2; exact hw3; exact hw4; exact hw5

theorem State.chnSrcWrite_frame {W : Nat → Prop} (s : State) (v : Word) (hw0 : W (R.CHN_SRC)) : Frame [] W s (State.chnSrcWrite s v) := by
  unfold State.chnSrcWrite
  extract_lets x0 x1
  have hx1 : Frame [] W s x1 := by
    (with_reducible conv => arg 4; whnf)
    with_reducible refine Frame.iteOf ?_ ?_
    with_reducible refine Frame.setF ?_ ?_
    exact Frame.refl ..
    exact hw0
    exact Frame.refl ..
  with_reducible refine Frame.iteOf ?_ ?_
  with_reducible refine Frame.set1 ?_ ?_
  exact hx1
  exact hw0
  exact hx1

theorem State.chnCfgWrite_frame {W : Nat → Prop} (s : State) (v : Word) (hw0 : W (R.CHN_CFG)) : Frame [.chn] W s (State.chnCfgWrite s v) := by
  unfold State.chnCfgWrite
  extract_lets x0 x1
  have hx0 : Frame [.chn] W s x0 := by
    (with_reducible conv => arg 4; whnf)
    with_reducible refine Frame.step ?_ (State.plainWrite_frame _ _ _ ?_) (by decide)
    exact Frame.refl ..
    exact hw0
  ((with_reducible refine Frame.upd ?_ ?_); on_goal 2 => (intro p hp; cases p <;> first | exact (hp (by decide)).elim | (dsimp only [Part.same] <;> fail)))
  exact hx0

theorem chnRegWrite_frame {W : Nat → Prop} (s : State) (a : ℕ) (v : Word) (hw0 : W (R.CHN_INC_HI)) (hw1 : W (R.CHN_INC_LO)) (hw2 : W (R.CHN_STAT)) (hw3 : W (R.EVT_PEND (16 / 32))) (hw4 : W (R.EVT_LOST_CNT)) (hw5 : W (R.EVT_STAT)) (hw6 : W (R.CHN_SRC)) (hw7 : W (R.CHN_CFG)) (hw8 : W (a)) (hw9 : W (R.CHN_PLAN)) : Frame.opt [.inc, .evt, .chn] W s (chnRegWrite s a v) := by
  unfold chnRegWrite
  split
  with_reducible refine Frame.opt_some ?_
  with_reducible refine Frame.step ?_ (State.chnIncHi_frame _ _ ?_ ?_ ?_ ?_ ?_ ?_) (by decide)
  exact Frame.refl ..
  exact hw0; exact hw1; exact hw2; exact hw3; exact hw4; exact hw5
  split
  with_reducible refine Frame.opt_some ?_
  with_reducible refine Frame.step ?_ (State.chnSrcWrite_frame _ _ ?_) (by decide)
  exact Frame.refl ..
  exact hw6
  split
  with_reducible refine Frame.opt_some ?_
  with_reducible refine Frame.step ?_ (State.chnCfgWrite_frame _ _ ?_) (by decide)
  exact Frame.refl ..
  exact hw7
  split
  with_reducible refine Frame.opt_some ?_
  with_reducible refine Frame.iteOf ?_ ?_
  exact Frame.refl ..
  with_reducible refine Frame.step ?_ (State.plainWrite_frame _ _ _ ?_) (by decide)
  exact Frame.refl ..
  exact hw8
  split
  with_reducible refine Frame.opt_some ?_
  with_reducible refine Frame.setF ?_ ?_
  exact Frame.refl ..
  exact hw9
  split
  with_reducible refine Frame.opt_some ?_
  with_reducible refine Frame.iteOf ?_ ?_
  exact Frame.refl ..
  with_reducible refine Frame.step ?_ (State.plainWrite_frame _ _ _ ?_) (by decide)
  exact Frame.refl ..
  exact hw8
  with_reducible exact Frame.opt_none

theorem State.estUnlist_frame {W : Nat → Prop} (s : State) (idx : ℕ) : Frame [.est] W s (State.estUnlist s idx) := by
  unfold State.estUnlist
  ((with_reducible refine Frame.upd ?_ ?_); on_goal 2 => (intro p hp; cases p <;> first | exact (hp (by decide)).elim | (dsimp only [Part.same] <;> fail)))
  exact Frame.refl ..

theorem State.estPut_frame {W : Nat → Prop} (s : State) (idx : ℕ) (w : ℕ) (v : Word) : Frame [.est] W s (State.estPut s idx w v) := by
  unfold State.estPut
  ((with_reducible refine Frame.upd ?_ ?_); on_goal 2 => (intro p hp; cases p <;> first | exact (hp (by decide)).elim | (dsimp only [Part.same] <;> fail)))
  exact Frame.refl ..

theorem State.estTrim_frame {W : Nat → Prop} (s : State) (l : List FireSlot) (hw0 : W (R.EST_OVFL_CNT)) (hw1 : W (R.EST_STAT)) (hw2 : W (R.EVT_PEND (20 / 32))) (hw3 : W (R.EVT_LOST_CNT)) (hw4 : W (R.EVT_STAT)) : Frame [.evt] W s (State.estTrim s l).2 := by
  unfold State.estTrim
  extract_lets x0
  with_reducible refine Frame.iteSnd ?_ ?_
  (with_reducible conv => arg 4; whnf)
  exact Frame.refl ..
  (with_reducible conv => arg 4; whnf)
  with_reducible refine Frame.step ?_ (State.raise_frame _ _ _ _ ?_ ?_ ?_) (by decide)
  with_reducible refine Frame.set1 ?_ ?_
  with_reducible refine Frame.incSat ?_ ?_
  exact Frame.refl ..
  exact hw0; exact hw1; exact hw2; exact hw3; exact hw4

theorem State.estAddNext_frame {W : Nat → Prop} (s : State) (x : FireSlot) (hw0 : W (R.EST_OVFL_CNT)) (hw1 : W (R.EST_STAT)) (hw2 : W (R.EVT_PEND (20 / 32))) (hw3 : W (R.EVT_LOST_CNT)) (hw4 : W (R.EVT_STAT)) : Frame [.evt, .est] W s (State.estAddNext s x) := by
  unfold State.estAddNext
  extract_lets x0 x1 x2
  have hx0 : Frame [.evt, .est] W s x0.2 := by
    unfold x0
    with_reducible refine Frame.step ?_ (State.estTrim_frame _ _ ?_ ?_ ?_ ?_ ?_) (by decide)
    exact Frame.refl ..
    exact hw0; exact hw1; exact hw2; exact hw3; exact hw4
  have hx1 : Frame [.evt, .est] W s x1 := by
    (with_reducible conv => arg 4; whnf)
    exact hx0
  ((with_reducible refine Frame.upd ?_ ?_); on_goal 2 => (intro p hp; cases p <;> first | exact (hp (by decide)).elim | (dsimp only [Part.same] <;> fail)))
  exact hx1

theorem State.estEnterNext_frame {W : Nat → Prop} (s : State) (idx : ℕ) (hw0 : W (R.EST_OVFL_CNT)) (hw1 : W (R.EST_STAT)) (hw2 : W (R.EVT_PEND (20 / 32))) (hw3 : W (R.EVT_LOST_CNT)) (hw4 : W (R.EVT_STAT)) (hw5 : W (R.EST_SKIP_CNT)) : Frame [.evt, .est] W s (State.estEnterNext s idx) := by
  unfold State.estEnterNext
  extract_lets x0
  split
  exact Frame.refl ..
  with_reducible refine Frame.incSat ?_ ?_
  with_reducible refine Frame.step ?_ (State.estAddNext_frame _ _ ?_ ?_ ?_ ?_ ?_) (by decide)
  exact Frame.refl ..
  exact hw0; exact hw1; exact hw2; exact hw3; exact hw4; exact hw5

theorem State.estCommitEntry_frame {W : Nat → Prop} (s : State) (idx : ℕ) (w0 : Word) (w1 : Word) (w2 : Word) (w3 : Word) (hw0 : W (R.EST_OVFL_CNT)) (hw1 : W (R.EST_STAT)) (hw2 : W (R.EVT_PEND (20 / 32))) (hw3 : W (R.EVT_LOST_CNT)) (hw4 : W (R.EVT_STAT)) (hw5 : W (R.EST_SKIP_CNT)) : Frame [.evt, .est] W s (State.estCommitEntry s idx w0 w1 w2 w3) := by
  unfold State.estCommitEntry
  extract_lets x0 x1 x2 x3 x4
  have hx0 : Frame [.evt, .est] W s x0 := by
    (with_reducible conv => arg 4; whnf)
    with_reducible refine Frame.step ?_ (State.estUnlist_frame _ _) (by decide)
    exact Frame.refl ..
  have hx1 : Frame [.evt, .est] W s x1 := by
    (with_reducible conv => arg 4; whnf)
    with_reducible refine Frame.step ?_ (State.estPut_frame _ _ _ _) (by decide)
    with_reducible refine Frame.step ?_ (State.estPut_frame _ _ _ _) (by decide)
    with_reducible refine Frame.step ?_ (State.estPut_frame _ _ _ _) (by decide)
    with_reducible refine Frame.step ?_ (State.estPut_frame _ _ _ _) (by decide)
    exact hx0
  have hx3 : Frame [.evt, .est] W s x3 := by
    (with_reducible conv => arg 4; whnf)
    with_reducible refine Frame.whenDo ?_ ?_
    exact hx1
    intro u5 hu6
    with_reducible refine Frame.step ?_ (State.estEnterNext_frame _ _ ?_ ?_ ?_ ?_ ?_ ?_) (by decide)
    assumption
    exact hw0; exact hw1; exact hw2; exact hw3; exact hw4; exact hw5
  ((with_reducible refine Frame.upd ?_ ?_); on_goal 2 => (intro p hp; cases p <;> first | exact (hp (by decide)).elim | (dsimp only [Part.same] <;> fail)))
  exact hx3

theorem State.estCommitHost_frame {W : Nat → Prop} (s : State) (v : Word) (hw0 : W (R.EST_W 3)) (hw1 : W (R.EST_OVFL_CNT)) (hw2 : W (R.EST_STAT)) (hw3 : W (R.EVT_PEND (20 / 32))) (hw4 : W (R.EVT_LOST_CNT)) (hw5 : W (R.EVT_STAT)) (hw6 : W (R.EST_SKIP_CNT)) : Frame [.evt, .est] W s (State.estCommitHost s v) := by
  unfold State.estCommitHost
  extract_lets x0 x1
  have hx0 : Frame [.evt, .est] W s x0 := by
    (with_reducible conv => arg 4; whnf)
    with_reducible refine Frame.putReg ?_ ?_
    exact Frame.refl ..
    exact hw0
  with_reducible refine Frame.iteOf ?_ ?_
  with_reducible refine Frame.step ?_ (State.estCommitEntry_frame _ _ _ _ _ _ ?_ ?_ ?_ ?_ ?_ ?_) (by decide)
  exact hx0
  exact hw1; exact hw2; exact hw3; exact hw4; exact hw5; exact hw6
  with_reducible refine Frame.set1 ?_ ?_
  exact hx0
  exact hw2

theorem State.estLoad_frame {W : Nat → Prop} (s : State) (v : Word) (hw0 : W (R.EST_IDX)) (hw1 : ∀ i0, W (R.EST_W i0)) : Frame [] W s (State.estLoad s v) := by
  unfold State.estLoad
  extract_lets x0 x1
  have hx0 : Frame [] W s x0 := by
    (with_reducible conv => arg 4; whnf)
    with_reducible refine Frame.setF ?_ ?_
    exact Frame.refl ..
    exact hw0
  with_reducible refine Frame.eachDo ?_ ?_
  exact hx0
  intro u2 x3 hu4
  with_reducible refine Frame.putReg ?_ ?_
  assumption
  exact hw1 _

theorem State.estPolWrite_frame {W : Nat → Prop} (s : State) (v : Word) (hw0 : W (R.EST_PIN_POL)) : Frame [.est] W s (State.estPolWrite s v) := by
  unfold State.estPolWrite
  extract_lets x0 x1
  have hx1 : Frame [.est] W s x1 := by
    (with_reducible conv => arg 4; whnf)
    ((with_reducible refine Frame.upd ?_ ?_); on_goal 2 => (intro p hp; cases p <;> first | exact (hp (by decide)).elim | (dsimp only [Part.same] <;> fail)))
    exact Frame.refl ..
  with_reducible refine Frame.putReg ?_ ?_
  exact hx1
  exact hw0

theorem estRegWrite_frame {W : Nat → Prop} (s : State) (a : ℕ) (v : Word) (hw0 : W (R.EST_OVFL_CNT)) (hw1 : W (R.EST_STAT)) (hw2 : W (R.EVT_PEND (20 / 32))) (hw3 : W (R.EVT_LOST_CNT)) (hw4 : W (R.EVT_STAT)) (hw5 : W (R.EST_SKIP_CNT)) (hw6 : W (R.EST_IDX)) (hw7 : ∀ i0, W (R.EST_W i0)) (hw8 : W (R.EST_PIN_POL)) (hw9 : W (a)) (hw10 : W (R.EST_FIRST_LATE)) : Frame.opt [.evt, .est] W s (estRegWrite s a v) := by
  unfold estRegWrite
  split
  with_reducible refine Frame.opt_some ?_
  with_reducible refine Frame.step ?_ (State.estCommitHost_frame _ _ ?_ ?_ ?_ ?_ ?_ ?_ ?_) (by decide)
  exact Frame.refl ..
  exact hw7 _; exact hw0; exact hw1; exact hw2; exact hw3; exact hw4; exact hw5
  split
  with_reducible refine Frame.opt_some ?_
  with_reducible refine Frame.step ?_ (State.estLoad_frame _ _ ?_ ?_) (by decide)
  exact Frame.refl ..
  exact hw6; exact fun _ => hw7 _
  split
  with_reducible refine Frame.opt_some ?_
  with_reducible refine Frame.step ?_ (State.estPolWrite_frame _ _ ?_) (by decide)
  exact Frame.refl ..
  exact hw8
  split
  extract_lets x0
  have hx0 : Frame [.evt, .est] W s x0 := by
    (with_reducible conv => arg 4; whnf)
    with_reducible refine Frame.step ?_ (State.plainWrite_frame _ _ _ ?_) (by decide)
    exact Frame.refl ..
    exact hw9
  with_reducible refine Frame.opt_some ?_
  with_reducible refine Frame.whenDo ?_ ?_
  exact hx0
  intro u1 hu2
  with_reducible refine Frame.clr ?_ ?_
  assumption
  exact hw10
  split
  extract_lets x3 x4
  have hx3 : Frame [.evt, .est] W s x3 := by
    (with_reducible conv => arg 4; whnf)
    with_reducible refine Frame.step ?_ (State.plainWrite_frame _ _ _ ?_) (by decide)
    exact Frame.refl ..
    exact hw9
  with_reducible refine Frame.opt_some ?_
  with_reducible refine Frame.iteOf ?_ ?_
  exact hx3
  ((with_reducible refine Frame.upd ?_ ?_); on_goal 2 => (intro p hp; cases p <;> first | exact (hp (by decide)).elim | (dsimp only [Part.same] <;> fail)))
  exact hx3
  with_reducible exact Frame.opt_none

theorem State.readyAdd_frame {W : Nat → Prop} (s : State) (k : TaskKind) (id : ℕ) : Frame [.dsp] W s (State.readyAdd s k id) := by
  unfold State.readyAdd
  ((with_reducible refine Frame.upd ?_ ?_); on_goal 2 => (intro p hp; cases p <;> first | exact (hp (by decide)).elim | (dsimp only [Part.same] <;> fail)))
  exact Frame.refl ..

theorem State.postJob_frame {W : Nat → Prop} (s : State) (j : ℕ) (hw0 : W (R.DSP_BG_OVR)) (hw1 : W (R.DSP_STAT)) (hw2 : W (R.EVT_PEND (26 / 32))) (hw3 : W (R.EVT_LOST_CNT)) (hw4 : W (R.EVT_STAT)) (hw5 : W (R.DSP_BG_PEND)) : Frame [.evt, .dsp] W s (State.postJob s j) := by
  unfold State.postJob
  with_reducible refine Frame.iteOf ?_ ?_
  with_reducible refine Frame.step ?_ (State.raise_frame _ _ _ _ ?_ ?_ ?_) (by decide)
  with_reducible refine Frame.set1 ?_ ?_
  with_reducible refine Frame.putReg ?_ ?_
  exact Frame.refl ..
  exact hw0; exact hw1; exact hw2; exact hw3; exact hw4
  with_reducible refine Frame.putReg ?_ ?_
  with_reducible refine Frame.step ?_ (State.readyAdd_frame _ _ _) (by decide)
  exact Frame.refl ..
  exact hw5

theorem State.bgPost_frame {W : Nat → Prop} (s : State) (v : Word) (hw0 : W (R.DSP_BG_OVR)) (hw1 : W (R.DSP_STAT)) (hw2 : W (R.EVT_PEND (26 / 32))) (hw3 : W (R.EVT_LOST_CNT)) (hw4 : W (R.EVT_STAT)) (hw5 : W (R.DSP_BG_PEND)) : Frame [.evt, .dsp] W s (State.bgPost s v) := by
  unfold State.bgPost
  with_reducible refine Frame.eachDo ?_ ?_
  exact Frame.refl ..
  intro u0 x1 hu2
  with_reducible refine Frame.iteOf ?_ ?_
  with_reducible refine Frame.step ?_ (State.postJob_frame _ _ ?_ ?_ ?_ ?_ ?_ ?_) (by decide)
  assumption
  exact hw0; exact hw1; exact hw2; exact hw3; exact hw4; exact hw5
  assumption

theorem State.flowBad_frame {W : Nat → Prop} (s : State) (n : ℕ) (hw0 : W (R.DSP_FLOW n)) (hw1 : W (R.DSP_STAT)) : Frame [] W s (State.flowBad s n) := by
  unfold State.flowBad
  with_reducible refine Frame.set1 ?_ ?_
  with_reducible refine Frame.clr ?_ ?_
  exact Frame.refl ..
  exact hw0; exact hw1

theorem State.putSlot_frame {W : Nat → Prop} (s : State) (p : ℕ) (i : ℕ) (v : ℕ) (hw0 : W (R.PIR_RES p (i / 4))) : Frame [] W s (State.putSlot s p i v) := by
  unfold State.putSlot
  with_reducible refine Frame.putReg ?_ ?_
  exact Frame.refl ..
  exact hw0

theorem State.placeSlot_frame {W : Nat → Prop} (s : State) (p : ℕ) (a : ℕ) (hw0 : ∀ i0, W (R.PIR_RES p i0)) : Frame [] W s (State.placeSlot s p a) := by
  unfold State.placeSlot
  split
  exact Frame.refl ..
  with_reducible refine Frame.step ?_ (State.putSlot_frame _ _ _ _ ?_) (by decide)
  exact Frame.refl ..
  exact hw0 _

theorem State.dropSlot_frame {W : Nat → Prop} (s : State) (p : ℕ) (a : ℕ) (hw0 : ∀ i0, W (R.PIR_RES p i0)) : Frame [] W s (State.dropSlot s p a) := by
  unfold State.dropSlot
  with_reducible refine Frame.eachDo ?_ ?_
  exact Frame.refl ..
  intro u0 x1 hu2
  with_reducible refine Frame.iteOf ?_ ?_
  with_reducible refine Frame.step ?_ (State.putSlot_frame _ _ _ _ ?_) (by decide)
  assumption
  exact hw0 _
  assumption

theorem State.putAxis_frame {W : Nat → Prop} (s : State) (a : ℕ) (c : AxisCtl) : Frame [.axes] W s (State.putAxis s a c) := by
  unfold State.putAxis
  ((with_reducible refine Frame.upd ?_ ?_); on_goal 2 => (intro p hp; cases p <;> first | exact (hp (by decide)).elim | (dsimp only [Part.same] <;> fail)))
  exact Frame.refl ..

theorem State.startLoad_frame {W : Nat → Prop} (s : State) (a : ℕ) (p : ℕ) (hw0 : ∀ i0 i1, W (R.PIR_RES i0 i1)) (hw1 : W (R.AXT_W2 a)) : Frame [.axes] W s (State.startLoad s a p) := by
  unfold State.startLoad
  extract_lets x0 x1 x2 x3
  have hx0 : Frame [.axes] W s x0 := by
    (with_reducible conv => arg 4; whnf)
    with_reducible refine Frame.setF ?_ ?_
    with_reducible refine Frame.step ?_ (State.placeSlot_frame _ _ _ ?_) (by decide)
    with_reducible refine Frame.step ?_ (State.dropSlot_frame _ _ _ ?_) (by decide)
    exact Frame.refl ..
    exact fun _ => hw0 _ _; exact fun _ => hw0 _ _; exact hw1
  have hx1 : Frame [.axes] W s x1 := by
    (with_reducible conv => arg 4; whnf)
    with_reducible refine Frame.setB ?_ ?_
    exact hx0
    exact hw1
  have hx2 : Frame [.axes] W s x2 := by
    (with_reducible conv => arg 4; whnf)
    with_reducible refine Frame.clr ?_ ?_
    exact hx1
    exact hw1
  with_reducible refine Frame.step ?_ (State.putAxis_frame _ _ _) (by decide)
  exact hx2

theorem State.flowWrite_frame {W : Nat → Prop} (s : State) (n : ℕ) (v : Word) (hw0 : W (R.DSP_FLOW n)) (hw1 : W (R.DSP_STAT)) (hw2 : ∀ i0 i1, W (R.PIR_RES i0 i1)) (hw3 : ∀ i0, W (R.AXT_W2 i0)) : Frame [.axes] W s (State.flowWrite s n v) := by
  unfold State.flowWrite
  extract_lets x0
  have hx0 : Frame [.axes] W s x0 := by
    (with_reducible conv => arg 4; whnf)
    with_reducible refine Frame.step ?_ (State.plainWrite_frame _ _ _ ?_) (by decide)
    exact Frame.refl ..
    exact hw0
  with_reducible refine Frame.iteOf ?_ ?_
  exact hx0
  split
  with_reducible refine Frame.step ?_ (State.flowBad_frame _ _ ?_ ?_) (by decide)
  exact hx0
  exact hw0; exact hw1
  extract_lets x1
  have hx1 : Frame [.axes] W s x1 := by
    (with_reducible conv => arg 4; whnf)
    with_reducible refine Frame.setF ?_ ?_
    exact hx0
    exact hw0
  with_reducible refine Frame.iteOf ?_ ?_
  split
  with_reducible refine Frame.step ?_ (State.flowBad_frame _ _ ?_ ?_) (by decide)
  exact hx0
  exact hw0; exact hw1
  with_reducible refine Frame.eachDo ?_ ?_
  exact hx1
  intro u2 x3 hu4
  with_reducible refine Frame.step ?_ (State.startLoad_frame _ _ _ ?_ ?_) (by decide)
  assumption
  exact fun _ _ => hw2 _ _; exact hw3 _
  exact hx1

theorem State.putPier_frame {W : Nat → Prop} (s : State) (p : ℕ) (x : Pier) : Frame [.piers] W s (State.putPier s p x) := by
  unfold State.putPier
  ((with_reducible refine Frame.upd ?_ ?_); on_goal 2 => (intro p hp; cases p <;> first | exact (hp (by decide)).elim | (dsimp only [Part.same] <;> fail)))
  exact Frame.refl ..

theorem State.unassign_frame {W : Nat → Prop} (s : State) (p : ℕ) : Frame [.dsp, .piers] W s (State.unassign s p) := by
  unfold State.unassign
  extract_lets x0 x1
  split
  exact Frame.refl ..
  extract_lets x2
  have hx2 : Frame [.dsp, .piers] W s x2 := by
    (with_reducible conv => arg 4; whnf)
    with_reducible refine Frame.step ?_ (State.putPier_frame _ _ _) (by decide)
    exact Frame.refl ..
  ((with_reducible refine Frame.upd ?_ ?_); on_goal 2 => (intro p hp; cases p <;> first | exact (hp (by decide)).elim | (dsimp only [Part.same] <;> fail)))
  exact hx2

theorem dspRegWrite_frame {W : Nat → Prop} (s : State) (a : ℕ) (v : Word) (hw0 : W (R.DSP_BG_OVR)) (hw1 : W (R.DSP_STAT)) (hw2 : W (R.EVT_PEND (26 / 32))) (hw3 : W (R.EVT_LOST_CNT)) (hw4 : W (R.EVT_STAT)) (hw5 : W (R.DSP_BG_PEND)) (hw6 : W (R.DSP_CWIN)) (hw7 : W (R.DSP_FLOW ((a - R.DSP_FLOW 0) / 4))) (hw8 : ∀ i0 i1, W (R.PIR_RES i0 i1)) (hw9 : ∀ i0, W (R.AXT_W2 i0)) (hw10 : W (a)) (hw11 : W (R.DSP_OVR_FIRST)) : Frame.opt [.evt, .dsp, .piers, .axes] W s (dspRegWrite s a v) := by
  unfold dspRegWrite
  split
  with_reducible refine Frame.opt_some ?_
  with_reducible refine Frame.step ?_ (State.bgPost_frame _ _ ?_ ?_ ?_ ?_ ?_ ?_) (by decide)
  exact Frame.refl ..
  exact hw0; exact hw1; exact hw2; exact hw3; exact hw4; exact hw5
  split
  with_reducible refine Frame.opt_some ?_
  with_reducible refine Frame.setF ?_ ?_
  exact Frame.refl ..
  exact hw6
  split
  with_reducible refine Frame.opt_some ?_
  with_reducible refine Frame.step ?_ (State.flowWrite_frame _ _ _ ?_ ?_ ?_ ?_) (by decide)
  exact Frame.refl ..
  exact hw7; exact hw1; exact fun _ _ => hw8 _ _; exact fun _ => hw9 _
  split
  extract_lets x0
  have hx0 : Frame [.evt, .dsp, .piers, .axes] W s x0 := by
    (with_reducible conv => arg 4; whnf)
    with_reducible refine Frame.step ?_ (State.plainWrite_frame _ _ _ ?_) (by decide)
    exact Frame.refl ..
    exact hw10
  with_reducible refine Frame.opt_some ?_
  with_reducible refine Frame.whenDo ?_ ?_
  exact hx0
  intro u1 hu2
  with_reducible refine Frame.eachDo ?_ ?_
  assumption
  intro u3 x4 hu5
  with_reducible refine Frame.step ?_ (State.unassign_frame _ _) (by decide)
  assumption
  split
  extract_lets x6
  have hx6 : Frame [.evt, .dsp, .piers, .axes] W s x6 := by
    (with_reducible conv => arg 4; whnf)
    with_reducible refine Frame.step ?_ (State.plainWrite_frame _ _ _ ?_) (by decide)
    exact Frame.refl ..
    exact hw10
  with_reducible refine Frame.opt_some ?_
  with_reducible refine Frame.whenDo ?_ ?_
  exact hx6
  intro u7 hu8
  with_reducible refine Frame.clr ?_ ?_
  assumption
  exact hw11
  with_reducible exact Frame.opt_none

theorem State.unplace_frame {W : Nat → Prop} (s : State) (a : ℕ) (hw0 : ∀ i0 i1, W (R.PIR_RES i0 i1)) (hw1 : W (R.AXT_W2 a)) : Frame [] W s (State.unplace s a) := by
  unfold State.unplace
  extract_lets x0
  have hx0 : Frame [] W s x0 := by
    (with_reducible conv => arg 4; whnf)
    with_reducible refine Frame.step ?_ (State.dropSlot_frame _ _ _ ?_) (by decide)
    exact Frame.refl ..
    exact fun _ => hw0 _ _
  with_reducible refine Frame.clr ?_ ?_
  exact hx0
  exact hw1

theorem State.dropPending_frame {W : Nat → Prop} (s : State) (a : ℕ) : Frame [.dsp, .piers] W s (State.dropPending s a) := by
  unfold State.dropPending
  extract_lets x0 x1
  have hx1 : Frame [.dsp, .piers] W s x1 := by
    (with_reducible conv => arg 4; whnf)
    ((with_reducible refine Frame.upd ?_ ?_); on_goal 2 => (intro p hp; cases p <;> first | exact (hp (by decide)).elim | (dsimp only [Part.same] <;> fail)))
    exact Frame.refl ..
  with_reducible refine Frame.eachDo ?_ ?_
  exact hx1
  intro u2 x3 hu4
  split
  with_reducible refine Frame.iteOf ?_ ?_
  with_reducible refine Frame.step ?_ (State.putPier_frame _ _ _) (by decide)
  assumption
  assumption
  assumption

theorem State.fltMap_frame {W : Nat → Prop} (s : State) (a : ℕ) (hw0 : W (R.AXT_FLT_MAP (a / 32))) : Frame [] W s (State.fltMap s a) := by
  unfold State.fltMap
  extract_lets x0
  with_reducible refine Frame.putReg ?_ ?_
  exact Frame.refl ..
  exact hw0

theorem State.axisFaultMark_frame {W : Nat → Prop} (s : State) (a : ℕ) (code : ℕ) (hw0 : W (R.AXT_W2 a)) (hw1 : W (R.AXT_FLT_MAP (a / 32))) (hw2 : W (R.EVT_PEND (48 / 32))) (hw3 : W (R.EVT_LOST_CNT)) (hw4 : W (R.EVT_STAT)) : Frame [.evt] W s (State.axisFaultMark s a code) := by
  unfold State.axisFaultMark
  with_reducible refine Frame.step ?_ (State.raise_frame _ _ _ _ ?_ ?_ ?_) (by decide)
  with_reducible refine Frame.step ?_ (State.fltMap_frame _ _ ?_) (by decide)
  with_reducible refine Frame.setF ?_ ?_
  exact Frame.refl ..
  exact hw0; exact hw1; exact hw2; exact hw3; exact hw4

theorem State.axisDisable_frame {W : Nat → Prop} (s : State) (a : ℕ) (hw0 : W (R.AXT_W0 a)) (hw1 : W (R.AXT_W2 a)) (hw2 : ∀ i0 i1, W (R.PIR_RES i0 i1)) : Frame [.dsp, .piers, .axes] W s (State.axisDisable s a) := by
  unfold State.axisDisable
  with_reducible refine Frame.iteOf ?_ ?_
  exact Frame.refl ..
  extract_lets x0 x1 x2
  have hx0 : Frame [.dsp, .piers, .axes] W s x0 := by
    (with_reducible conv => arg 4; whnf)
    with_reducible refine Frame.step ?_ (State.dropPending_frame _ _) (by decide)
    exact Frame.refl ..
  have hx1 : Frame [.dsp, .piers, .axes] W s x1 := by
    (with_reducible conv => arg 4; whnf)
    with_reducible refine Frame.clr ?_ ?_
    with_reducible refine Frame.setF ?_ ?_
    with_reducible refine Frame.clr ?_ ?_
    exact hx0
    exact hw0; exact hw1; exact hw1
  with_reducible refine Frame.iteOf ?_ ?_
  with_reducible refine Frame.step ?_ (State.putAxis_frame _ _ _) (by decide)
  exact hx1
  with_reducible refine Frame.step ?_ (State.putAxis_frame _ _ _) (by decide)
  with_reducible refine Frame.step ?_ (State.unplace_frame _ _ ?_ ?_) (by decide)
  exact hx1
  exact fun _ _ => hw2 _ _; exact hw1

theorem State.axisFields_frame {W : Nat → Prop} (s : State) (a : ℕ) (v : Word) (hw0 : W (R.AXT_STAT)) (hw1 : W (R.AXT_W0 a)) : Frame [] W s (State.axisFields s a v) := by
  unfold State.axisFields
  extract_lets x0 x1
  with_reducible refine Frame.iteOf ?_ ?_
  with_reducible refine Frame.iteOf ?_ ?_
  exact Frame.refl ..
  with_reducible refine Frame.set1 ?_ ?_
  exact Frame.refl ..
  exact hw0
  with_reducible refine Frame.putReg ?_ ?_
  exact Frame.refl ..
  exact hw1

theorem State.enableRefused_frame {W : Nat → Prop} (s : State) (r : EnableRefusal) (hw0 : W (R.AXT_STAT)) : Frame [] W s (State.enableRefused s r) := by
  unfold State.enableRefused
  split
  with_reducible refine Frame.set1 ?_ ?_
  exact Frame.refl ..
  exact hw0
  with_reducible refine Frame.set1 ?_ ?_
  exact Frame.refl ..
  exact hw0
  with_reducible refine Frame.set1 ?_ ?_
  exact Frame.refl ..
  exact hw0
  with_reducible refine Frame.set1 ?_ ?_
  exact Frame.refl ..
  exact hw0
  exact Frame.refl ..

theorem State.putHomeDyn_frame {W : Nat → Prop} (s : State) (a : ℕ) (d : AxisDyn) : Frame [.deck] W s (State.putHomeDyn s a d) := by
  unfold State.putHomeDyn
  ((with_reducible refine Frame.upd ?_ ?_); on_goal 2 => (intro p hp; cases p <;> first | exact (hp (by decide)).elim | (dsimp only [Part.same] <;> fail)))
  exact Frame.refl ..

theorem State.showDeadline_frame {W : Nat → Prop} (s : State) (ws : List CymEntry) (a : ℕ) (hw0 : W (R.DSP_DL a)) : Frame [] W s (State.showDeadline s ws a) := by
  unfold State.showDeadline
  extract_lets x0
  with_reducible refine Frame.setF ?_ ?_
  exact Frame.refl ..
  exact hw0

theorem State.newDeadline_frame {W : Nat → Prop} (s : State) (a : ℕ) (hw0 : W (R.DSP_DL a)) : Frame [] W s (State.newDeadline s a) := by
  unfold State.newDeadline
  with_reducible refine Frame.whenDo ?_ ?_
  exact Frame.refl ..
  intro u0 hu1
  with_reducible refine Frame.step ?_ (State.showDeadline_frame _ _ _ ?_) (by decide)
  assumption
  exact hw0

theorem State.enableAccept_frame {W : Nat → Prop} (s : State) (a : ℕ) (p : ℕ) (hw0 : W (R.AXT_W0 a)) (hw1 : ∀ i0 i1, W (R.PIR_RES i0 i1)) (hw2 : W (R.AXT_W2 a)) (hw3 : W (R.DSP_DL a)) : Frame [.axes, .deck] W s (State.enableAccept s a p) := by
  unfold State.enableAccept
  extract_lets x0 x1 x2 x3
  have hx0 : Frame [.axes, .deck] W s x0 := by
    (with_reducible conv => arg 4; whnf)
    with_reducible refine Frame.set1 ?_ ?_
    exact Frame.refl ..
    exact hw0
  have hx2 : Frame [.axes, .deck] W s x2 := by
    (with_reducible conv => arg 4; whnf)
    with_reducible refine Frame.step ?_ (State.putHomeDyn_frame _ _ _) (by decide)
    exact hx0
  have hx3 : Frame [.axes, .deck] W s x3 := by
    (with_reducible conv => arg 4; whnf)
    with_reducible refine Frame.step ?_ (State.putAxis_frame _ _ _) (by decide)
    exact hx2
  with_reducible refine Frame.step ?_ (State.newDeadline_frame _ _ ?_) (by decide)
  with_reducible refine Frame.setF ?_ ?_
  with_reducible refine Frame.step ?_ (State.startLoad_frame _ _ _ ?_ ?_) (by decide)
  exact hx3
  exact fun _ _ => hw1 _ _; exact hw2; exact hw2; exact hw3

theorem State.axisEnable_frame {W : Nat → Prop} (s : State) (a : ℕ) (hw0 : W (R.AXT_STAT)) (hw1 : W (R.AXT_W0 a)) (hw2 : ∀ i0 i1, W (R.PIR_RES i0 i1)) (hw3 : W (R.AXT_W2 a)) (hw4 : W (R.DSP_DL a)) : Frame [.axes, .deck] W s (State.axisEnable s a).2 := by
  unfold State.axisEnable
  with_reducible refine Frame.iteSnd ?_ ?_
  (with_reducible conv => arg 4; whnf)
  exact Frame.refl ..
  split
  (with_reducible conv => arg 4; whnf)
  with_reducible refine Frame.step ?_ (State.enableRefused_frame _ _ ?_) (by decide)
  exact Frame.refl ..
  exact hw0
  split
  (with_reducible conv => arg 4; whnf)
  with_reducible refine Frame.step ?_ (State.enableRefused_frame _ _ ?_) (by decide)
  exact Frame.refl ..
  exact hw0
  (with_reducible conv => arg 4; whnf)
  with_reducible refine Frame.step ?_ (State.enableAccept_frame _ _ _ ?_ ?_ ?_ ?_) (by decide)
  exact Frame.refl ..
  exact hw1; exact fun _ _ => hw2 _ _; exact hw3; exact hw4

theorem State.axisWrite_frame {W : Nat → Prop} (s : State) (a : ℕ) (v : Word) (hw0 : W (R.AXT_STAT)) (hw1 : W (R.AXT_W0 a)) (hw2 : ∀ i0 i1, W (R.PIR_RES i0 i1)) (hw3 : W (R.AXT_W2 a)) (hw4 : W (R.DSP_DL a)) : Frame [.dsp, .piers, .axes, .deck] W s (State.axisWrite s a v) := by
  unfold State.axisWrite
  extract_lets x0 x1
  have hx0 : Frame [.dsp, .piers, .axes, .deck] W s x0 := by
    (with_reducible conv => arg 4; whnf)
    with_reducible refine Frame.step ?_ (State.axisFields_frame _ _ _ ?_ ?_) (by decide)
    exact Frame.refl ..
    exact hw0; exact hw1
  have hx1 : Frame [.dsp, .piers, .axes, .deck] W s x1.2 := by
    unfold x1
    with_reducible refine Frame.step ?_ (State.axisEnable_frame _ _ ?_ ?_ ?_ ?_ ?_) (by decide)
    exact hx0
    exact hw0; exact hw1; exact fun _ _ => hw2 _ _; exact hw3; exact hw4
  with_reducible refine Frame.iteOf ?_ ?_
  with_reducible refine Frame.iteOf ?_ ?_
  with_reducible refine Frame.step ?_ (State.enableRefused_frame _ _ ?_) (by decide)
  exact Frame.refl ..
  exact hw0
  exact hx1
  with_reducible refine Frame.step ?_ (State.axisDisable_frame _ _ ?_ ?_ ?_) (by decide)
  exact hx0
  exact hw1; exact hw3; exact fun _ _ => hw2 _ _

theorem axtRegWrite_frame {W : Nat → Prop} (s : State) (a : ℕ) (v : Word) (hw0 : W (R.AXT_STAT)) (hw1 : W (R.AXT_W0 ((a - 327680) / 16))) (hw2 : ∀ i0 i1, W (R.PIR_RES i0 i1)) (hw3 : W (R.AXT_W2 ((a - 327680) / 16))) (hw4 : W (R.DSP_DL ((a - 327680) / 16))) (hw5 : W (a)) : Frame.opt [.dsp, .piers, .axes, .deck] W s (axtRegWrite s a v) := by
  unfold axtRegWrite
  split
  with_reducible refine Frame.opt_some ?_
  with_reducible refine Frame.step ?_ (State.axisWrite_frame _ _ _ ?_ ?_ ?_ ?_ ?_) (by decide)
  exact Frame.refl ..
  exact hw0; exact hw1; exact fun _ _ => hw2 _ _; exact hw3; exact hw4
  split
  with_reducible refine Frame.opt_some ?_
  with_reducible refine Frame.step ?_ (State.newDeadline_frame _ _ ?_) (by decide)
  with_reducible refine Frame.step ?_ (State.plainWrite_frame _ _ _ ?_) (by decide)
  exact Frame.refl ..
  exact hw5; exact hw4
  with_reducible exact Frame.opt_none

theorem dckRegWrite_frame {W : Nat → Prop} (s : State) (a : ℕ) (v : Word) (hw0 : W (a)) (hw1 : W (R.DCK_UE_ADDR)) (hw2 : W (R.DCK_CAM_BAD)) : Frame.opt [] W s (dckRegWrite s a v) := by
  unfold dckRegWrite
  split
  extract_lets x0 x1
  have hx0 : Frame [] W s x0 := by
    (with_reducible conv => arg 4; whnf)
    with_reducible refine Frame.step ?_ (State.plainWrite_frame _ _ _ ?_) (by decide)
    exact Frame.refl ..
    exact hw0
  have hx1 : Frame [] W s x1 := by
    (with_reducible conv => arg 4; whnf)
    with_reducible refine Frame.whenDo ?_ ?_
    exact hx0
    intro u4 hu5
    with_reducible refine Frame.clr ?_ ?_
    assumption
    exact hw1
  with_reducible refine Frame.opt_some ?_
  with_reducible refine Frame.whenDo ?_ ?_
  exact hx1
  intro u2 hu3
  with_reducible refine Frame.clr ?_ ?_
  assumption
  exact hw2
  with_reducible exact Frame.opt_none

theorem State.drewFree_frame {W : Nat → Prop} (s : State) : Frame [.free] W s (State.drewFree s) := by
  unfold State.drewFree
  ((with_reducible refine Frame.upd ?_ ?_); on_goal 2 => (intro p hp; cases p <;> first | exact (hp (by decide)).elim | (dsimp only [Part.same] <;> fail)))
  exact Frame.refl ..

theorem State.putEnc_frame {W : Nat → Prop} (s : State) (e : ℕ) (x : Encoder) : Frame [.pwr] W s (State.putEnc s e x) := by
  unfold State.putEnc
  ((with_reducible refine Frame.upd ?_ ?_); on_goal 2 => (intro p hp; cases p <;> first | exact (hp (by decide)).elim | (dsimp only [Part.same] <;> fail)))
  exact Frame.refl ..

theorem State.encCfgWrite_frame {W : Nat → Prop} (s : State) (e : ℕ) (v : Word) (hw0 : W (R.ENC_CFG e)) (hw1 : W (R.ENC_STAT e)) : Frame [.pwr] W s (State.encCfgWrite s e v) := by
  unfold State.encCfgWrite
  extract_lets x0 x1 x2 x3
  have hx1 : Frame [.pwr] W s x1 := by
    (with_reducible conv => arg 4; whnf)
    with_reducible refine Frame.step ?_ (State.plainWrite_frame _ _ _ ?_) (by decide)
    exact Frame.refl ..
    exact hw0
  with_reducible refine Frame.iteOf ?_ ?_
  with_reducible refine Frame.iteOf ?_ ?_
  with_reducible refine Frame.step ?_ (State.putEnc_frame _ _ _) (by decide)
  exact hx1
  with_reducible refine Frame.set1 ?_ ?_
  with_reducible refine Frame.clr ?_ ?_
  exact hx1
  exact hw0; exact hw1
  exact hx1

theorem encRegWrite_frame {W : Nat → Prop} (s : State) (a : ℕ) (v : Word) (hw0 : W (R.ENC_CFG ((a - 1245184) / 64))) (hw1 : W (R.ENC_STAT ((a - 1245184) / 64))) : Frame.opt [.pwr] W s (encRegWrite s a v) := by
  unfold encRegWrite
  split
  with_reducible refine Frame.opt_some ?_
  with_reducible refine Frame.step ?_ (State.encCfgWrite_frame _ _ _ ?_ ?_) (by decide)
  exact Frame.refl ..
  exact hw0; exact hw1
  with_reducible exact Frame.opt_none

theorem State.unmapped_frame {W : Nat → Prop} (s : State) (a : ℕ) (hw0 : W (R.GLB_ACC_ERR)) (hw1 : W (R.EVT_PEND (2 / 32))) (hw2 : W (R.EVT_LOST_CNT)) (hw3 : W (R.EVT_STAT)) : Frame [.evt] W s (State.unmapped s a) := by
  unfold State.unmapped
  with_reducible refine Frame.step ?_ (State.raise_frame _ _ _ _ ?_ ?_ ?_) (by decide)
  with_reducible refine Frame.incSat ?_ ?_
  exact Frame.refl ..
  exact hw0; exact hw1; exact hw2; exact hw3

theorem execBadWidthAccess_frame {W : Nat → Prop} (addr : ℕ) (s : State) (hw0 : W (R.GLB_ACC_ERR)) (hw1 : W (R.EVT_PEND (2 / 32))) (hw2 : W (R.EVT_LOST_CNT)) (hw3 : W (R.EVT_STAT)) : Frame.out [.evt] W s (execBadWidthAccess addr s) := by
  unfold execBadWidthAccess
  with_reducible refine Frame.out_next ?_
  with_reducible refine Frame.whenDo ?_ ?_
  exact Frame.refl ..
  intro u0 hu1
  with_reducible refine Frame.step ?_ (State.raise_frame _ _ _ _ ?_ ?_ ?_) (by decide)
  with_reducible refine Frame.incSat ?_ ?_
  assumption
  exact hw0; exact hw1; exact hw2; exact hw3

theorem State.answer_frame {W : Nat → Prop} (s : State) (v : Word) : Frame [.host] W s (State.answer s v) := by
  unfold State.answer
  ((with_reducible refine Frame.upd ?_ ?_); on_goal 2 => (intro p hp; cases p <;> first | exact (hp (by decide)).elim | (dsimp only [Part.same] <;> fail)))
  exact Frame.refl ..

theorem State.bar0Answer_frame {W : Nat → Prop} {ps : List Part} {s0 : State} (s : State) (a : ℕ) (g : State → State) (hsub : ∀ p ∈ ([.host] : List Part), p ∈ ps) (h0 : Frame ps W s0 s) (hg : ∀ u, Frame ps W s0 u → Frame ps W s0 (g u)) : Frame ps W s0 (State.bar0Answer s a g) := by
  unfold State.bar0Answer
  with_reducible refine Frame.iteOf ?_ ?_
  assumption
  with_reducible refine Frame.iteOf ?_ ?_
  with_reducible refine Frame.step ?_ (State.answer_frame _ _) (fun p hp => hsub p (by revert p hp; decide))
  assumption
  refine hg _ ?_
  assumption

theorem State.deckRead_frame {W : Nat → Prop} (s : State) (a : ℕ) : Frame [.free] W s (State.deckRead s a).2 := by
  unfold State.deckRead
  with_reducible refine Frame.iteSnd ?_ ?_
  with_reducible refine Frame.iteSnd ?_ ?_
  (with_reducible conv => arg 4; whnf)
  exact Frame.refl ..
  (with_reducible conv => arg 4; whnf)
  with_reducible refine Frame.step ?_ (State.drewFree_frame _) (by decide)
  exact Frame.refl ..
  with_reducible refine Frame.iteSnd ?_ ?_
  (with_reducible conv => arg 4; whnf)
  exact Frame.refl ..
  (with_reducible conv => arg 4; whnf)
  exact Frame.refl ..

theorem State.mbxReadStat_frame {W : Nat → Prop} (s : State) (hw0 : W (R.GLB_MBX_STAT)) : Frame [.host] W s (State.mbxReadStat s) := by
  unfold State.mbxReadStat
  extract_lets x0 x1
  have hx1 : Frame [.host] W s x1 := by
    (with_reducible conv => arg 4; whnf)
    with_reducible refine Frame.whenDo ?_ ?_
    exact Frame.refl ..
    intro u2 hu3
    with_reducible refine Frame.clr ?_ ?_
    with_reducible refine Frame.clr ?_ ?_
    assumption
    exact hw0; exact hw0
  with_reducible refine Frame.step ?_ (State.answer_frame _ _) (by decide)
  exact hx1

theorem State.mbxReadWord_frame {W : Nat → Prop} (s : State) (k : ℕ) (hw0 : W (R.GLB_MBX_STAT)) : Frame [.host] W s (State.mbxReadWord s k) := by
  unfold State.mbxReadWord
  extract_lets x0 x1
  have hx1 : Frame [.host] W s x1 := by
    (with_reducible conv => arg 4; whnf)
    with_reducible refine Frame.whenDo ?_ ?_
    exact Frame.refl ..
    intro u2 hu3
    with_reducible refine Frame.clr ?_ ?_
    assumption
    exact hw0
  with_reducible refine Frame.step ?_ (State.answer_frame _ _) (by decide)
  exact hx1

theorem State.capPop_frame {W : Nat → Prop} (s : State) : Frame [.host, .cap] W s (State.capPop s) := by
  unfold State.capPop
  extract_lets x0 x1
  have hx0 : Frame [.host, .cap] W s x0 := by
    (with_reducible conv => arg 4; whnf)
    with_reducible refine Frame.step ?_ (State.answer_frame _ _) (by decide)
    exact Frame.refl ..
  ((with_reducible refine Frame.upd ?_ ?_); on_goal 2 => (intro p hp; cases p <;> first | exact (hp (by decide)).elim | (dsimp only [Part.same] <;> fail)))
  exact hx0

theorem State.voteCorrect_frame {W : Nat → Prop} (s : State) (a : ℕ) (hw0 : W (a)) (hw1 : W (R.GLB_VOTE_CNT)) (hw2 : W (R.GLB_VOTE_LAST)) (hw3 : W (R.EVT_PEND (0 / 32))) (hw4 : W (R.EVT_LOST_CNT)) (hw5 : W (R.EVT_STAT)) : Frame [.host, .evt] W s (State.voteCorrect s a) := by
  unfold State.voteCorrect
  with_reducible refine Frame.iteOf ?_ ?_
  exact Frame.refl ..
  extract_lets x0 x1 x2 x3 x4
  have hx0 : Frame [.host, .evt] W s x0 := by
    (with_reducible conv => arg 4; whnf)
    with_reducible refine Frame.putReg ?_ ?_
    exact Frame.refl ..
    exact hw0
  have hx1 : Frame [.host, .evt] W s x1 := by
    (with_reducible conv => arg 4; whnf)
    with_reducible refine Frame.incSat ?_ ?_
    exact hx0
    exact hw1
  have hx2 : Frame [.host, .evt] W s x2 := by
    (with_reducible conv => arg 4; whnf)
    with_reducible refine Frame.set1 ?_ ?_
    with_reducible refine Frame.setF ?_ ?_
    exact hx1
    exact hw2; exact hw2
  have hx4 : Frame [.host, .evt] W s x4 := by
    (with_reducible conv => arg 4; whnf)
    with_reducible refine Frame.iteOf ?_ ?_
    exact hx1
    ((with_reducible refine Frame.upd ?_ ?_); on_goal 2 => (intro p hp; cases p <;> first | exact (hp (by decide)).elim | (dsimp only [Part.same] <;> fail)))
    exact hx2
  with_reducible refine Frame.step ?_ (State.raise_frame _ _ _ _ ?_ ?_ ?_) (by decide)
  exact hx4
  exact hw3; exact hw4; exact hw5

theorem execPairedWriteValue_frame {W : Nat → Prop} (addr : ℕ) (val : Word) (s : State) (hw0 : W (R.GLB_ACC_ERR)) (hw1 : W (R.GLB_PW_ERR)) (hw2 : W (R.GLB_PW_LAST)) (hw3 : W (R.EVT_PEND (1 / 32))) (hw4 : W (R.EVT_LOST_CNT)) (hw5 : W (R.EVT_STAT)) : Frame.out [.host, .evt] W s (execPairedWriteValue addr val s) := by
  unfold execPairedWriteValue
  with_reducible refine Frame.out_next ?_
  with_reducible refine State.bar0Write_frame _ _ _ ?_ (by decide) ?_ ?_
  exact hw0
  exact Frame.refl ..
  intro u0 hu1
  with_reducible refine Frame.iteOf ?_ ?_
  with_reducible refine Frame.step ?_ (State.pwValue_frame _ _ _ ?_ ?_ ?_ ?_ ?_) (by decide)
  assumption
  exact hw1; exact hw2; exact hw3; exact hw4; exact hw5
  assumption

theorem execPairedWriteComplement_frame {W : Nat → Prop} (addr : ℕ) (val : Word) (s : State) (hw0 : W (R.GLB_ACC_ERR)) (hw1 : W (R.GLB_PW_ERR)) (hw2 : W (R.GLB_PW_LAST)) (hw3 : W (R.EVT_PEND (1 / 32))) (hw4 : W (R.EVT_LOST_CNT)) (hw5 : W (R.EVT_STAT)) (hw6 : W (addr)) : Frame.out [.host, .evt] W s (execPairedWriteComplement addr val s) := by
  unfold execPairedWriteComplement
  with_reducible refine Frame.out_next ?_
  with_reducible refine State.bar0Write_frame _ _ _ ?_ (by decide) ?_ ?_
  exact hw0
  exact Frame.refl ..
  intro u0 hu1
  with_reducible refine Frame.iteOf ?_ ?_
  with_reducible refine Frame.step ?_ (State.pwComplement_frame _ _ _ ?_ ?_ ?_ ?_ ?_ ?_) (by decide)
  assumption
  exact hw1; exact hw2; exact hw3; exact hw4; exact hw5; exact hw6
  assumption

theorem execPwWindowExpiry_frame {W : Nat → Prop} (s : State) (hw0 : W (R.GLB_PW_ERR)) (hw1 : W (R.GLB_PW_LAST)) (hw2 : W (R.EVT_PEND (1 / 32))) (hw3 : W (R.EVT_LOST_CNT)) (hw4 : W (R.EVT_STAT)) : Frame.out [.host, .evt] W s (execPwWindowExpiry s) := by
  unfold execPwWindowExpiry
  with_reducible refine Frame.out_next ?_
  with_reducible refine Frame.step ?_ (State.pwSettle_frame _ ?_ ?_ ?_ ?_ ?_) (by decide)
  exact Frame.refl ..
  exact hw0; exact hw1; exact hw2; exact hw3; exact hw4

theorem execTvScrub_frame {W : Nat → Prop} (s : State) (hw0 : ∀ i0, W (i0)) : Frame.out [.host, .evt] W s (execTvScrub s) := by
  unfold execTvScrub
  split
  extract_lets x0 x1 x2 x3
  have hx2 : Frame [.host, .evt] W s x2 := by
    (with_reducible conv => arg 4; whnf)
    ((with_reducible refine Frame.upd ?_ ?_); on_goal 2 => (intro p hp; cases p <;> first | exact (hp (by decide)).elim | (dsimp only [Part.same] <;> fail)))
    exact Frame.refl ..
  have hx3 : Frame [.host, .evt] W s x3 := by
    (with_reducible conv => arg 4; whnf)
    with_reducible refine Frame.step ?_ (State.voteCorrect_frame _ _ ?_ ?_ ?_ ?_ ?_ ?_) (by decide)
    exact hx2
    exact hw0 _; exact hw0 _; exact hw0 _; exact hw0 _; exact hw0 _; exact hw0 _
  with_reducible refine Frame.out_next ?_
  with_reducible refine Frame.iteOf ?_ ?_
  with_reducible refine Frame.setF ?_ ?_
  exact hx3
  exact hw0 _
  with_reducible refine Frame.incWrap ?_ ?_
  with_reducible refine Frame.setF ?_ ?_
  exact hx3
  exact hw0 _; exact hw0 _
  with_reducible refine Frame.out_next ?_
  exact Frame.refl ..

theorem State.mbxHost_frame {W : Nat → Prop} {ps : List Part} {s0 : State} (s : State) (g : State → State) (hw0 : W (R.GLB_ACC_ERR)) (hsub : ∀ p ∈ ([] : List Part), p ∈ ps) (h0 : Frame ps W s0 s) (hg : ∀ u, Frame ps W s0 u → Frame ps W s0 (g u)) : Frame ps W s0 (State.mbxHost s g) := by
  unfold State.mbxHost
  with_reducible refine State.bar0Write_frame _ _ _ ?_ (fun p hp => hsub p (by revert p hp; decide)) ?_ ?_
  exact hw0
  assumption
  intro u0 hu1
  refine hg _ ?_
  assumption

theorem execNtNow_frame {W : Nat → Prop} (s : State) (hw0 : W (R.GLB_ACC_ERR)) (hw1 : ∀ i0, W (R.GLB_MBX_D i0)) (hw2 : W (R.GLB_MBX_REQ)) (hw3 : W (R.GLB_MBX_STAT)) : Frame.out [.host] W s (execNtNow s) := by
  unfold execNtNow
  with_reducible refine Frame.out_next ?_
  with_reducible refine State.mbxHost_frame _ _ ?_ (by decide) ?_ ?_
  exact hw0
  exact Frame.refl ..
  intro u0 hu1
  with_reducible refine Frame.step ?_ (State.mbxRead_frame _ _ ?_ ?_ ?_) (by decide)
  assumption
  exact fun _ => hw1 _; exact hw2; exact hw3

theorem execNtSet_frame {W : Nat → Prop} (s : State) (hw0 : W (R.GLB_ACC_ERR)) (hw1 : W (R.GLB_MBX_REQ)) (hw2 : W (R.GLB_MBX_STAT)) : Frame.out [.nt, .host, .cyc, .chn] W s (execNtSet s) := by
  unfold execNtSet
  with_reducible refine Frame.out_next ?_
  with_reducible refine State.mbxHost_frame _ _ ?_ (by decide) ?_ ?_
  exact hw0
  exact Frame.refl ..
  intro u0 hu1
  with_reducible refine Frame.step ?_ (State.mbxWrite_frame _ _ ?_ ?_) (by decide)
  assumption
  exact hw1; exact hw2

theorem execChnNow_frame {W : Nat → Prop} (s : State) (hw0 : W (R.GLB_ACC_ERR)) (hw1 : ∀ i0, W (R.GLB_MBX_D i0)) (hw2 : W (R.GLB_MBX_REQ)) (hw3 : W (R.GLB_MBX_STAT)) : Frame.out [.host] W s (execChnNow s) := by
  unfold execChnNow
  with_reducible refine Frame.out_next ?_
  with_reducible refine State.mbxHost_frame _ _ ?_ (by decide) ?_ ?_
  exact hw0
  exact Frame.refl ..
  intro u0 hu1
  with_reducible refine Frame.step ?_ (State.mbxRead_frame _ _ ?_ ?_ ?_) (by decide)
  assumption
  exact fun _ => hw1 _; exact hw2; exact hw3

theorem execChnSnap_frame {W : Nat → Prop} (s : State) (hw0 : W (R.GLB_ACC_ERR)) (hw1 : ∀ i0, W (R.GLB_MBX_D i0)) (hw2 : W (R.GLB_MBX_REQ)) (hw3 : W (R.GLB_MBX_STAT)) : Frame.out [.host] W s (execChnSnap s) := by
  unfold execChnSnap
  with_reducible refine Frame.out_next ?_
  with_reducible refine State.mbxHost_frame _ _ ?_ (by decide) ?_ ?_
  exact hw0
  exact Frame.refl ..
  intro u0 hu1
  with_reducible refine Frame.step ?_ (State.mbxRead_frame _ _ ?_ ?_ ?_) (by decide)
  assumption
  exact fun _ => hw1 _; exact hw2; exact hw3

theorem execChnPreset_frame {W : Nat → Prop} (s : State) (hw0 : W (R.GLB_ACC_ERR)) (hw1 : W (R.GLB_MBX_REQ)) (hw2 : W (R.GLB_MBX_STAT)) : Frame.out [.nt, .host, .cyc, .chn] W s (execChnPreset s) := by
  unfold execChnPreset
  with_reducible refine Frame.out_next ?_
  with_reducible refine State.mbxHost_frame _ _ ?_ (by decide) ?_ ?_
  exact hw0
  exact Frame.refl ..
  intro u0 hu1
  with_reducible refine Frame.step ?_ (State.mbxWrite_frame _ _ ?_ ?_) (by decide)
  assumption
  exact hw1; exact hw2

theorem execVmVtgtRead_frame {W : Nat → Prop} (s : State) (hw0 : W (R.GLB_ACC_ERR)) (hw1 : ∀ i0, W (R.GLB_MBX_D i0)) (hw2 : W (R.GLB_MBX_REQ)) (hw3 : W (R.GLB_MBX_STAT)) : Frame.out [.host] W s (execVmVtgtRead s) := by
  unfold execVmVtgtRead
  with_reducible refine Frame.out_next ?_
  with_reducible refine State.mbxHost_frame _ _ ?_ (by decide) ?_ ?_
  exact hw0
  exact Frame.refl ..
  intro u0 hu1
  with_reducible refine Frame.step ?_ (State.mbxRead_frame _ _ ?_ ?_ ?_) (by decide)
  assumption
  exact fun _ => hw1 _; exact hw2; exact hw3

theorem execVmVtgtWrite_frame {W : Nat → Prop} (s : State) (hw0 : W (R.GLB_ACC_ERR)) (hw1 : W (R.GLB_MBX_REQ)) (hw2 : W (R.GLB_MBX_STAT)) : Frame.out [.nt, .host, .cyc, .chn] W s (execVmVtgtWrite s) := by
  unfold execVmVtgtWrite
  with_reducible refine Frame.out_next ?_
  with_reducible refine State.mbxHost_frame _ _ ?_ (by decide) ?_ ?_
  exact hw0
  exact Frame.refl ..
  intro u0 hu1
  with_reducible refine Frame.step ?_ (State.mbxWrite_frame _ _ ?_ ?_) (by decide)
  assumption
  exact hw1; exact hw2

theorem execSrcOffsetRead_frame {W : Nat → Prop} (s : State) (hw0 : W (R.GLB_ACC_ERR)) (hw1 : ∀ i0, W (R.GLB_MBX_D i0)) (hw2 : W (R.GLB_MBX_REQ)) (hw3 : W (R.GLB_MBX_STAT)) : Frame.out [.host] W s (execSrcOffsetRead s) := by
  unfold execSrcOffsetRead
  with_reducible refine Frame.out_next ?_
  with_reducible refine State.mbxHost_frame _ _ ?_ (by decide) ?_ ?_
  exact hw0
  exact Frame.refl ..
  intro u0 hu1
  with_reducible refine Frame.step ?_ (State.mbxRead_frame _ _ ?_ ?_ ?_) (by decide)
  assumption
  exact fun _ => hw1 _; exact hw2; exact hw3

theorem execSrcOffsetWrite_frame {W : Nat → Prop} (s : State) (hw0 : W (R.GLB_ACC_ERR)) (hw1 : W (R.GLB_MBX_REQ)) (hw2 : W (R.GLB_MBX_STAT)) : Frame.out [.nt, .host, .cyc, .chn] W s (execSrcOffsetWrite s) := by
  unfold execSrcOffsetWrite
  with_reducible refine Frame.out_next ?_
  with_reducible refine State.mbxHost_frame _ _ ?_ (by decide) ?_ ?_
  exact hw0
  exact Frame.refl ..
  intro u0 hu1
  with_reducible refine Frame.step ?_ (State.mbxWrite_frame _ _ ?_ ?_) (by decide)
  assumption
  exact hw1; exact hw2

theorem execCapLossT_frame {W : Nat → Prop} (s : State) (hw0 : W (R.GLB_ACC_ERR)) (hw1 : ∀ i0, W (R.GLB_MBX_D i0)) (hw2 : W (R.GLB_MBX_REQ)) (hw3 : W (R.GLB_MBX_STAT)) : Frame.out [.host] W s (execCapLossT s) := by
  unfold execCapLossT
  with_reducible refine Frame.out_next ?_
  with_reducible refine State.mbxHost_frame _ _ ?_ (by decide) ?_ ?_
  exact hw0
  exact Frame.refl ..
  intro u0 hu1
  with_reducible refine Frame.step ?_ (State.mbxRead_frame _ _ ?_ ?_ ?_) (by decide)
  assumption
  exact fun _ => hw1 _; exact hw2; exact hw3

theorem execEvtLossT_frame {W : Nat → Prop} (s : State) (hw0 : W (R.GLB_ACC_ERR)) (hw1 : ∀ i0, W (R.GLB_MBX_D i0)) (hw2 : W (R.GLB_MBX_REQ)) (hw3 : W (R.GLB_MBX_STAT)) : Frame.out [.host] W s (execEvtLossT s) := by
  unfold execEvtLossT
  with_reducible refine Frame.out_next ?_
  with_reducible refine State.mbxHost_frame _ _ ?_ (by decide) ?_ ?_
  exact hw0
  exact Frame.refl ..
  intro u0 hu1
  with_reducible refine Frame.step ?_ (State.mbxRead_frame _ _ ?_ ?_ ?_) (by decide)
  assumption
  exact fun _ => hw1 _; exact hw2; exact hw3

theorem execVoteT_frame {W : Nat → Prop} (s : State) (hw0 : W (R.GLB_ACC_ERR)) (hw1 : ∀ i0, W (R.GLB_MBX_D i0)) (hw2 : W (R.GLB_MBX_REQ)) (hw3 : W (R.GLB_MBX_STAT)) : Frame.out [.host] W s (execVoteT s) := by
  unfold execVoteT
  with_reducible refine Frame.out_next ?_
  with_reducible refine State.mbxHost_frame _ _ ?_ (by decide) ?_ ?_
  exact hw0
  exact Frame.refl ..
  intro u0 hu1
  with_reducible refine Frame.step ?_ (State.mbxRead_frame _ _ ?_ ?_ ?_) (by decide)
  assumption
  exact fun _ => hw1 _; exact hw2; exact hw3

theorem execBcIndex_frame {W : Nat → Prop} (s : State) (hw0 : W (R.GLB_ACC_ERR)) (hw1 : ∀ i0, W (R.GLB_MBX_D i0)) (hw2 : W (R.GLB_MBX_REQ)) (hw3 : W (R.GLB_MBX_STAT)) : Frame.out [.host] W s (execBcIndex s) := by
  unfold execBcIndex
  with_reducible refine Frame.out_next ?_
  with_reducible refine State.mbxHost_frame _ _ ?_ (by decide) ?_ ?_
  exact hw0
  exact Frame.refl ..
  intro u0 hu1
  with_reducible refine Frame.step ?_ (State.mbxRead_frame _ _ ?_ ?_ ?_) (by decide)
  assumption
  exact fun _ => hw1 _; exact hw2; exact hw3

theorem execPirTasks64_frame {W : Nat → Prop} (s : State) (hw0 : W (R.GLB_ACC_ERR)) (hw1 : ∀ i0, W (R.GLB_MBX_D i0)) (hw2 : W (R.GLB_MBX_REQ)) (hw3 : W (R.GLB_MBX_STAT)) : Frame.out [.host] W s (execPirTasks64 s) := by
  unfold execPirTasks64
  with_reducible refine Frame.out_next ?_
  with_reducible refine State.mbxHost_frame _ _ ?_ (by decide) ?_ ?_
  exact hw0
  exact Frame.refl ..
  intro u0 hu1
  with_reducible refine Frame.step ?_ (State.mbxRead_frame _ _ ?_ ?_ ?_) (by decide)
  assumption
  exact fun _ => hw1 _; exact hw2; exact hw3

theorem execMbxUnknownCode_frame {W : Nat → Prop} (wr : Bool) (code : Byte) (s : State) (hw0 : W (R.GLB_ACC_ERR)) (hw1 : W (R.GLB_MBX_REQ)) (hw2 : W (R.GLB_MBX_STAT)) (hw3 : ∀ i0, W (R.GLB_MBX_D i0)) : Frame.out [.nt, .host, .cyc, .chn] W s (execMbxUnknownCode wr code s) := by
  unfold execMbxUnknownCode
  with_reducible refine Frame.out_next ?_
  with_reducible refine State.mbxHost_frame _ _ ?_ (by decide) ?_ ?_
  exact hw0
  exact Frame.refl ..
  intro u0 hu1
  with_reducible refine Frame.step ?_ (State.mbxRequest_frame _ _ ?_ ?_ ?_) (by decide)
  assumption
  exact hw1; exact hw2; exact fun _ => hw3 _

theorem execMbxReady_frame {W : Nat → Prop} (s : State) (hw0 : W (R.GLB_MBX_STAT)) : Frame.out [.host] W s (execMbxReady s) := by
  unfold execMbxReady
  split
  with_reducible refine Frame.out_next ?_
  exact Frame.refl ..
  split
  extract_lets x0 x1 x2
  have hx0 : Frame [.host] W s x0 := by
    (with_reducible conv => arg 4; whnf)
    with_reducible refine Frame.setB ?_ ?_
    with_reducible refine Frame.set1 ?_ ?_
    with_reducible refine Frame.clr ?_ ?_
    exact Frame.refl ..
    exact hw0; exact hw0; exact hw0
  with_reducible refine Frame.out_next ?_
  ((with_reducible refine Frame.upd ?_ ?_); on_goal 2 => (intro p hp; cases p <;> first | exact (hp (by decide)).elim | (dsimp only [Part.same] <;> fail)))
  exact hx0
  with_reducible refine Frame.out_next ?_
  exact Frame.refl ..

theorem execMbxDataRead_frame {W : Nat → Prop} (k : Fin 4) (s : State) (hw0 : W (R.GLB_MBX_STAT)) : Frame.out [.host] W s (execMbxDataRead k s) := by
  unfold execMbxDataRead
  with_reducible refine Frame.out_next ?_
  with_reducible refine State.bar0Answer_frame _ _ _ (by decide) ?_ ?_
  exact Frame.refl ..
  intro u0 hu1
  with_reducible refine Frame.step ?_ (State.mbxReadWord_frame _ _ ?_) (by decide)
  assumption
  exact hw0

theorem execMbxStatRead_frame {W : Nat → Prop} (s : State) (hw0 : W (R.GLB_MBX_STAT)) : Frame.out [.host] W s (execMbxStatRead s) := by
  unfold execMbxStatRead
  with_reducible refine Frame.out_next ?_
  with_reducible refine State.bar0Answer_frame _ _ _ (by decide) ?_ ?_
  exact Frame.refl ..
  intro u0 hu1
  with_reducible refine Frame.step ?_ (State.mbxReadStat_frame _ ?_) (by decide)
  assumption
  exact hw0

theorem State.estW2Bit_frame {W : Nat → Prop} (s : State) (idx : ℕ) (b : ℕ) (v : Bool) : Frame [.est] W s (State.estW2Bit s idx b v) := by
  unfold State.estW2Bit
  with_reducible refine Frame.step ?_ (State.estPut_frame _ _ _ _) (by decide)
  exact Frame.refl ..

theorem State.estSkip_frame {W : Nat → Prop} (s : State) (idx : ℕ) (hw0 : W (R.EST_SKIP_CNT)) (hw1 : W (R.EST_STAT)) (hw2 : W (R.EVT_PEND (19 / 32))) (hw3 : W (R.EVT_LOST_CNT)) (hw4 : W (R.EVT_STAT)) : Frame [.evt, .est] W s (State.estSkip s idx) := by
  unfold State.estSkip
  extract_lets x0
  have hx0 : Frame [.evt, .est] W s x0 := by
    (with_reducible conv => arg 4; whnf)
    with_reducible refine Frame.step ?_ (State.estW2Bit_frame _ _ _ _) (by decide)
    with_reducible refine Frame.step ?_ (State.estW2Bit_frame _ _ _ _) (by decide)
    with_reducible refine Frame.step ?_ (State.estUnlist_frame _ _) (by decide)
    exact Frame.refl ..
  with_reducible refine Frame.step ?_ (State.raise_frame _ _ _ _ ?_ ?_ ?_) (by decide)
  with_reducible refine Frame.set1 ?_ ?_
  with_reducible refine Frame.incSat ?_ ?_
  exact hx0
  exact hw0; exact hw1; exact hw2; exact hw3; exact hw4

theorem State.chnJump_frame {W : Nat → Prop} (s : State) (old : BitVec 96) (new : BitVec 96) (hw0 : W (R.EST_SKIP_CNT)) (hw1 : W (R.EST_STAT)) (hw2 : W (R.EVT_PEND (19 / 32))) (hw3 : W (R.EVT_LOST_CNT)) (hw4 : W (R.EVT_STAT)) (hw5 : W (R.CHN_STAT)) : Frame [.evt, .est] W s (State.chnJump s old new) := by
  unfold State.chnJump
  with_reducible refine Frame.iteOf ?_ ?_
  exact Frame.refl ..
  extract_lets x0
  with_reducible refine Frame.set1 ?_ ?_
  with_reducible refine Frame.eachDo ?_ ?_
  exact Frame.refl ..
  intro u1 x2 hu3
  with_reducible refine Frame.step ?_ (State.estSkip_frame _ _ ?_ ?_ ?_ ?_ ?_) (by decide)
  assumption
  exact hw0; exact hw1; exact hw2; exact hw3; exact hw4; exact hw5

theorem State.chnStart_frame {W : Nat → Prop} (s : State) (hw0 : W (R.EST_SKIP_CNT)) (hw1 : W (R.EST_STAT)) (hw2 : W (R.EVT_PEND (19 / 32))) (hw3 : W (R.EVT_LOST_CNT)) (hw4 : W (R.EVT_STAT)) (hw5 : W (R.CHN_STAT)) : Frame [.evt, .chn, .est] W s (State.chnStart s) := by
  unfold State.chnStart
  extract_lets x0 x1 x2 x3 x4
  have hx2 : Frame [.evt, .chn, .est] W s x2 := by
    (with_reducible conv => arg 4; whnf)
    with_reducible refine Frame.whenDo ?_ ?_
    exact Frame.refl ..
    intro u5 hu6
    with_reducible refine Frame.step ?_ (State.chnJump_frame _ _ _ ?_ ?_ ?_ ?_ ?_ ?_) (by decide)
    assumption
    exact hw0; exact hw1; exact hw2; exact hw3; exact hw4; exact hw5
  ((with_reducible refine Frame.upd ?_ ?_); on_goal 2 => (intro p hp; cases p <;> first | exact (hp (by decide)).elim | (dsimp only [Part.same] <;> fail)))
  exact hx2

theorem State.encError_frame {W : Nat → Prop} (s : State) (e : ℕ) (x : Fld) (hw0 : W ((Fld.addr x))) (hw1 : W (R.ENC_ERRCNT e)) (hw2 : W (R.EVT_PEND (58 / 32))) (hw3 : W (R.EVT_LOST_CNT)) (hw4 : W (R.EVT_STAT)) : Frame [.evt] W s (State.encError s e x) := by
  unfold State.encError
  extract_lets x0
  have hx0 : Frame [.evt] W s x0 := by
    (with_reducible conv => arg 4; whnf)
    with_reducible refine Frame.incSat ?_ ?_
    with_reducible refine Frame.set1 ?_ ?_
    exact Frame.refl ..
    exact hw0; exact hw1
  with_reducible refine Frame.step ?_ (State.raise_frame _ _ _ _ ?_ ?_ ?_) (by decide)
  exact hx0
  exact hw2; exact hw3; exact hw4

theorem State.encSync_frame {W : Nat → Prop} (s : State) (e : ℕ) (hw0 : W (R.ENC_STAT e)) (hw1 : W (R.ENC_ERRCNT e)) (hw2 : W (R.EVT_PEND (58 / 32))) (hw3 : W (R.EVT_LOST_CNT)) (hw4 : W (R.EVT_STAT)) : Frame [.evt, .pwr] W s (State.encSync s e) := by
  unfold State.encSync
  extract_lets x0 x1 x2 x3 x4
  have hx4 : Frame [.evt, .pwr] W s x4 := by
    (with_reducible conv => arg 4; whnf)
    with_reducible refine Frame.step ?_ (State.putEnc_frame _ _ _) (by decide)
    exact Frame.refl ..
  with_reducible refine Frame.iteOf ?_ ?_
  exact Frame.refl ..
  with_reducible refine Frame.iteOf ?_ ?_
  with_reducible refine Frame.whenDo ?_ ?_
  exact hx4
  intro u5 hu6
  with_reducible refine Frame.step ?_ (State.encError_frame _ _ _ ?_ ?_ ?_ ?_ ?_) (by decide)
  assumption
  exact hw0; exact hw1; exact hw2; exact hw3; exact hw4
  with_reducible refine Frame.step ?_ (State.putEnc_frame _ _ _) (by decide)
  exact Frame.refl ..

theorem State.dspExpress_frame {W : Nat → Prop} (s : State) : Frame [.dsp, .axes] W s (State.dspExpress s) := by
  unfold State.dspExpress
  extract_lets x0 x1
  have hx1 : Frame [.dsp, .axes] W s x1 := by
    (with_reducible conv => arg 4; whnf)
    ((with_reducible refine Frame.upd ?_ ?_); on_goal 2 => (intro p hp; cases p <;> first | exact (hp (by decide)).elim | (dsimp only [Part.same] <;> fail)))
    exact Frame.refl ..
  with_reducible refine Frame.eachDo ?_ ?_
  exact hx1
  intro u2 x3 hu4
  with_reducible refine Frame.step ?_ (State.putAxis_frame _ _ _) (by decide)
  assumption

theorem State.dspBc_frame {W : Nat → Prop} (s : State) (hw0 : W (R.DSP_MIG)) (hw1 : ∀ i0, W (R.DSP_FLOW i0)) (hw2 : ∀ i0, W (R.DSP_USE i0)) (hw3 : ∀ i0, W (R.DSP_PEAK i0)) : Frame [.dsp, .piers, .axes] W s (State.dspBc s) := by
  unfold State.dspBc
  extract_lets x0 x1 x2 x3 x4 x5
  have hx0 : Frame [.dsp, .piers, .axes] W s x0 := by
    (with_reducible conv => arg 4; whnf)
    with_reducible refine Frame.setF ?_ ?_
    exact Frame.refl ..
    exact hw0
  have hx1 : Frame [.dsp, .piers, .axes] W s x1 := by
    (with_reducible conv => arg 4; whnf)
    with_reducible refine Frame.eachDo ?_ ?_
    exact hx0
    intro u15 x16 hu17
    with_reducible refine Frame.setF ?_ ?_
    assumption
    exact hw1 _
  have hx3 : Frame [.dsp, .piers, .axes] W s x3 := by
    (with_reducible conv => arg 4; whnf)
    ((with_reducible refine Frame.upd ?_ ?_); on_goal 2 => (intro p hp; cases p <;> first | exact (hp (by decide)).elim | (dsimp only [Part.same] <;> fail)))
    exact hx1
  have hx4 : Frame [.dsp, .piers, .axes] W s x4 := by
    (with_reducible conv => arg 4; whnf)
    with_reducible refine Frame.eachDo ?_ ?_
    exact hx3
    intro u9 x10 hu11
    extract_lets x12 x13 x14
    have hx13 : Frame [.dsp, .piers, .axes] W s x13 := by
      (with_reducible conv => arg 4; whnf)
      with_reducible refine Frame.setF ?_ ?_
      with_reducible refine Frame.setF ?_ ?_
      assumption
      exact hw2 _; exact hw3 _
    with_reducible refine Frame.step ?_ (State.putPier_frame _ _ _) (by decide)
    exact hx13
  have hx5 : Frame [.dsp, .piers, .axes] W s x5 := by
    (with_reducible conv => arg 4; whnf)
    with_reducible refine Frame.eachDo ?_ ?_
    exact hx4
    intro u6 x7 hu8
    with_reducible refine Frame.step ?_ (State.putAxis_frame _ _ _) (by decide)
    assumption
  with_reducible refine Frame.step ?_ (State.dspExpress_frame _) (by decide)
  exact hx5

theorem State.chnEncSample_frame {W : Nat → Prop} (s : State) (count : Word) : Frame [.chn] W s (State.chnEncSample s count) := by
  unfold State.chnEncSample
  extract_lets x0 x1
  ((with_reducible refine Frame.upd ?_ ?_); on_goal 2 => (intro p hp; cases p <;> first | exact (hp (by decide)).elim | (dsimp only [Part.same] <;> fail)))
  exact Frame.refl ..

theorem State.flowGive_frame {W : Nat → Prop} (s : State) (p : ℕ) (start : ℕ) : Frame [.dsp, .piers] W s (State.flowGive s p start) := by
  unfold State.flowGive
  split
  exact Frame.refl ..
  split
  exact Frame.refl ..
  with_reducible refine Frame.iteOf ?_ ?_
  extract_lets x0 x1 x2 x3 x4
  have hx4 : Frame [.dsp, .piers] W s x4 := by
    (with_reducible conv => arg 4; whnf)
    ((with_reducible refine Frame.upd ?_ ?_); on_goal 2 => (intro p hp; cases p <;> first | exact (hp (by decide)).elim | (dsimp only [Part.same] <;> fail)))
    exact Frame.refl ..
  with_reducible refine Frame.step ?_ (State.putPier_frame _ _ _) (by decide)
  exact hx4
  exact Frame.refl ..

theorem State.flowPost_frame {W : Nat → Prop} (s : State) (a : ℕ) : Frame [.dsp, .piers] W s (State.flowPost s a) := by
  unfold State.flowPost
  split
  with_reducible refine Frame.step ?_ (State.flowGive_frame _ _ _) (by decide)
  exact Frame.refl ..
  exact Frame.refl ..

theorem State.postAxis_frame {W : Nat → Prop} (s : State) (a : ℕ) : Frame [.dsp, .piers, .axes] W s (State.postAxis s a) := by
  unfold State.postAxis
  with_reducible refine Frame.iteOf ?_ ?_
  exact Frame.refl ..
  extract_lets x0 x1
  have hx1 : Frame [.dsp, .piers, .axes] W s x1 := by
    (with_reducible conv => arg 4; whnf)
    with_reducible refine Frame.step ?_ (State.putAxis_frame _ _ _) (by decide)
    exact Frame.refl ..
  with_reducible refine Frame.step ?_ (State.flowPost_frame _ _) (by decide)
  with_reducible refine Frame.step ?_ (State.readyAdd_frame _ _ _) (by decide)
  exact hx1

theorem State.chnAxisSample_frame {W : Nat → Prop} (s : State) (count : Word) : Frame [.chn] W s (State.chnAxisSample s count) := by
  unfold State.chnAxisSample
  extract_lets x0 x1
  ((with_reducible refine Frame.upd ?_ ?_); on_goal 2 => (intro p hp; cases p <;> first | exact (hp (by decide)).elim | (dsimp only [Part.same] <;> fail)))
  exact Frame.refl ..

theorem State.deckPutAll_frame {W : Nat → Prop} (s : State) (a : ℕ) (v2 : List Word) : Frame [.deck, .deckMem] W s (State.deckPutAll s a v2) := by
  induction v2 generalizing s a with
  | nil =>
    exact Frame.refl ..
  | cons l0 ls0 ih =>
    unfold State.deckPutAll
    with_reducible refine Frame.step ?_ (ih _ _) (by decide)
    with_reducible refine Frame.step ?_ (State.deckPut_frame _ _ _) (by decide)
    exact Frame.refl ..

theorem execChnIncHi_frame {W : Nat → Prop} (val : Word) (s : State) (hw0 : W (R.GLB_ACC_ERR)) (hw1 : W (R.CHN_INC_HI)) (hw2 : W (R.CHN_INC_LO)) (hw3 : W (R.CHN_STAT)) (hw4 : W (R.EVT_PEND (16 / 32))) (hw5 : W (R.EVT_LOST_CNT)) (hw6 : W (R.EVT_STAT)) : Frame.out [.inc, .evt] W s (execChnIncHi val s) := by
  unfold execChnIncHi
  with_reducible refine Frame.out_next ?_
  with_reducible refine State.bar0Write_frame _ _ _ ?_ (by decide) ?_ ?_
  exact hw0
  exact Frame.refl ..
  intro u0 hu1
  with_reducible refine Frame.step ?_ (State.chnIncHi_frame _ _ ?_ ?_ ?_ ?_ ?_ ?_) (by decide)
  assumption
  exact hw1; exact hw2; exact hw3; exact hw4; exact hw5; exact hw6

theorem State.chnMiss_frame {W : Nat → Prop} (s : State) (hw0 : W (R.CHN_STAT)) (hw1 : W (R.CHN_MISS_CNT)) (hw2 : W (R.CHN_MISS)) (hw3 : W (R.EVT_PEND (17 / 32))) (hw4 : W (R.EVT_LOST_CNT)) (hw5 : W (R.EVT_STAT)) : Frame [.evt] W s (State.chnMiss s) := by
  unfold State.chnMiss
  extract_lets x0 x1
  have hx1 : Frame [.evt] W s x1 := by
    (with_reducible conv => arg 4; whnf)
    with_reducible refine Frame.setF ?_ ?_
    with_reducible refine Frame.incSat ?_ ?_
    with_reducible refine Frame.set1 ?_ ?_
    exact Frame.refl ..
    exact hw0; exact hw1; exact hw2
  with_reducible refine Frame.iteOf ?_ ?_
  with_reducible refine Frame.step ?_ (State.raise_frame _ _ _ _ ?_ ?_ ?_) (by decide)
  with_reducible refine Frame.set1 ?_ ?_
  exact hx1
  exact hw0; exact hw3; exact hw4; exact hw5
  exact hx1

theorem State.planRelative_frame {W : Nat → Prop} (s : State) (c : BitVec 96) (nk : ℕ) (nk1 : ℕ) (hw0 : W (R.CHN_STAT)) (hw1 : W (R.CHN_MISS_CNT)) (hw2 : W (R.CHN_MISS)) (hw3 : W (R.EVT_PEND (17 / 32))) (hw4 : W (R.EVT_LOST_CNT)) (hw5 : W (R.EVT_STAT)) : Frame [.evt] W s (State.planRelative s c nk nk1).1 := by
  unfold State.planRelative
  extract_lets x0
  with_reducible refine Frame.iteFst ?_ ?_
  (with_reducible conv => arg 4; whnf)
  exact Frame.refl ..
  with_reducible refine Frame.iteFst ?_ ?_
  (with_reducible conv => arg 4; whnf)
  exact Frame.refl ..
  (with_reducible conv => arg 4; whnf)
  with_reducible refine Frame.step ?_ (State.chnMiss_frame _ ?_ ?_ ?_ ?_ ?_ ?_) (by decide)
  exact Frame.refl ..
  exact hw0; exact hw1; exact hw2; exact hw3; exact hw4; exact hw5

theorem State.planAbsolute_frame {W : Nat → Prop} (s : State) (src : ℕ) (nk : ℕ) (nk1 : ℕ) : Frame [.chn] W s (State.planAbsolute s src nk nk1).1 := by
  unfold State.planAbsolute
  extract_lets x0 x1 x2 x3
  (with_reducible conv => arg 4; whnf)
  ((with_reducible refine Frame.upd ?_ ?_); on_goal 2 => (intro p hp; cases p <;> first | exact (hp (by decide)).elim | (dsimp only [Part.same] <;> fail)))
  exact Frame.refl ..

theorem State.planRefer_frame {W : Nat → Prop} (s : State) (src : ℕ) (c : BitVec 96) (v : BitVec 64) (nk : ℕ) (nk1 : ℕ) : Frame [.chn] W s (State.planRefer s src c v nk nk1).1 := by
  unfold State.planRefer
  (with_reducible conv => arg 4; whnf)
  ((with_reducible refine Frame.upd ?_ ?_); on_goal 2 => (intro p hp; cases p <;> first | exact (hp (by decide)).elim | (dsimp only [Part.same] <;> fail)))
  exact Frame.refl ..

theorem State.planSteady_frame {W : Nat → Prop} (s : State) (c : BitVec 96) (nk : ℕ) (nk1 : ℕ) (hw0 : W (R.CHN_MISS)) (hw1 : W (R.CHN_STAT)) (hw2 : W (R.CHN_MISS_CNT)) (hw3 : W (R.EVT_PEND (17 / 32))) (hw4 : W (R.EVT_LOST_CNT)) (hw5 : W (R.EVT_STAT)) : Frame [.evt, .chn] W s (State.planSteady s c nk nk1).1 := by
  unfold State.planSteady
  extract_lets x0 x1 x2
  have hx2 : Frame [.evt, .chn] W s x2 := by
    (with_reducible conv => arg 4; whnf)
    with_reducible refine Frame.setF ?_ ?_
    exact Frame.refl ..
    exact hw0
  with_reducible refine Frame.iteFst ?_ ?_
  (with_reducible conv => arg 4; whnf)
  exact Frame.refl ..
  with_reducible refine Frame.iteFst ?_ ?_
  (with_reducible conv => arg 4; whnf)
  with_reducible refine Frame.step ?_ (State.chnMiss_frame _ ?_ ?_ ?_ ?_ ?_ ?_) (by decide)
  exact Frame.refl ..
  exact hw1; exact hw2; exact hw0; exact hw3; exact hw4; exact hw5
  with_reducible refine Frame.iteFst ?_ ?_
  with_reducible refine Frame.step ?_ (State.planAbsolute_frame _ _ _ _) (by decide)
  with_reducible refine Frame.whenDo ?_ ?_
  exact hx2
  intro u3 hu4
  with_reducible refine Frame.clr ?_ ?_
  assumption
  exact hw1
  with_reducible refine Frame.iteFst ?_ ?_
  with_reducible refine Frame.iteFst ?_ ?_
  with_reducible refine Frame.step ?_ (State.planRefer_frame _ _ _ _ _ _) (by decide)
  with_reducible refine Frame.clr ?_ ?_
  exact hx2
  exact hw1
  (with_reducible conv => arg 4; whnf)
  with_reducible refine Frame.setF ?_ ?_
  exact Frame.refl ..
  exact hw0
  with_reducible refine Frame.iteFst ?_ ?_
  with_reducible refine Frame.step ?_ (State.planRefer_frame _ _ _ _ _ _) (by decide)
  exact hx2
  (with_reducible conv => arg 4; whnf)
  with_reducible refine Frame.setF ?_ ?_
  exact Frame.refl ..
  exact hw0

theorem State.planSwitch_frame {W : Nat → Prop} (s : State) (c : BitVec 96) (nk : ℕ) (nk1 : ℕ) (hw0 : W (R.CHN_SRC)) (hw1 : W (R.CHN_STAT)) (hw2 : W (R.CHN_MISS)) (hw3 : W (R.CHN_MISS_CNT)) (hw4 : W (R.EVT_PEND (17 / 32))) (hw5 : W (R.EVT_LOST_CNT)) (hw6 : W (R.EVT_STAT)) : Frame [.evt, .chn] W s (State.planSwitch s c nk nk1).1 := by
  unfold State.planSwitch
  extract_lets x0 x1 x2 x3 x4 x5 x6 x7 x8
  have hx3 : Frame [.evt, .chn] W s x3 := by
    (with_reducible conv => arg 4; whnf)
    with_reducible refine Frame.setF ?_ ?_
    with_reducible refine Frame.setF ?_ ?_
    with_reducible refine Frame.set1 ?_ ?_
    with_reducible refine Frame.clr ?_ ?_
    exact Frame.refl ..
    exact hw0; exact hw1; exact hw0; exact hw2
  have hx5 : Frame [.evt, .chn] W s x5 := by
    (with_reducible conv => arg 4; whnf)
    ((with_reducible refine Frame.upd ?_ ?_); on_goal 2 => (intro p hp; cases p <;> first | exact (hp (by decide)).elim | (dsimp only [Part.same] <;> fail)))
    exact hx3
  have hx6 : Frame [.evt, .chn] W s x6 := by
    (with_reducible conv => arg 4; whnf)
    with_reducible refine Frame.whenDo ?_ ?_
    exact hx5
    intro u11 hu12
    with_reducible refine Frame.clr ?_ ?_
    assumption
    exact hw1
  have hx8 : Frame [.evt, .chn] W s x8 := by
    (with_reducible conv => arg 4; whnf)
    ((with_reducible refine Frame.upd ?_ ?_); on_goal 2 => (intro p hp; cases p <;> first | exact (hp (by decide)).elim | (dsimp only [Part.same] <;> fail)))
    exact hx6
  with_reducible refine Frame.iteFst ?_ ?_
  (with_reducible conv => arg 4; whnf)
  with_reducible refine Frame.whenDo ?_ ?_
  exact hx5
  intro u9 hu10
  with_reducible refine Frame.clr ?_ ?_
  assumption
  exact hw1
  with_reducible refine Frame.iteFst ?_ ?_
  (with_reducible conv => arg 4; whnf)
  with_reducible refine Frame.step ?_ (State.chnMiss_frame _ ?_ ?_ ?_ ?_ ?_ ?_) (by decide)
  exact hx8
  exact hw1; exact hw3; exact hw2; exact hw4; exact hw5; exact hw6
  with_reducible refine Frame.iteFst ?_ ?_
  with_reducible refine Frame.step ?_ (State.planAbsolute_frame _ _ _ _) (by decide)
  exact hx6
  with_reducible refine Frame.step ?_ (State.planRefer_frame _ _ _ _ _ _) (by decide)
  exact hx6

theorem State.chnPlan_frame {W : Nat → Prop} (s : State) (relative : Bool) (hw0 : W (R.CHN_STAT)) (hw1 : W (R.CHN_MISS_CNT)) (hw2 : W (R.CHN_MISS)) (hw3 : W (R.EVT_PEND (17 / 32))) (hw4 : W (R.EVT_LOST_CNT)) (hw5 : W (R.EVT_STAT)) (hw6 : W (R.CHN_SRC)) : Frame [.evt, .chn, .est] W s (State.chnPlan s relative) := by
  unfold State.chnPlan
  extract_lets x0 x1 x2 x3 x4 x5 x6 x7 x8 x9 x10 x11 x12
  have hx4 : Frame [.evt, .chn, .est] W s x4.1 := by
    unfold x4
    with_reducible refine Frame.iteFst ?_ ?_
    with_reducible refine Frame.step ?_ (State.planRelative_frame _ _ _ _ ?_ ?_ ?_ ?_ ?_ ?_) (by decide)
    exact Frame.refl ..
    exact hw0; exact hw1; exact hw2; exact hw3; exact hw4; exact hw5
    with_reducible refine Frame.iteFst ?_ ?_
    with_reducible refine Frame.step ?_ (State.planSwitch_frame _ _ _ _ ?_ ?_ ?_ ?_ ?_ ?_ ?_) (by decide)
    exact Frame.refl ..
    exact hw6; exact hw0; exact hw2; exact hw1; exact hw3; exact hw4; exact hw5
    with_reducible refine Frame.step ?_ (State.planSteady_frame _ _ _ _ ?_ ?_ ?_ ?_ ?_ ?_) (by decide)
    exact Frame.refl ..
    exact hw2; exact hw0; exact hw1; exact hw3; exact hw4; exact hw5
  have hx5 : Frame [.evt, .chn, .est] W s x5 := by
    (with_reducible conv => arg 4; whnf)
    exact hx4
  ((with_reducible refine Frame.upd ?_ ?_); on_goal 2 => (intro p hp; cases p <;> first | exact (hp (by decide)).elim | (dsimp only [Part.same] <;> fail)))
  exact hx5

theorem execSourceSwitchArm_frame {W : Nat → Prop} (val : Word) (s : State) (hw0 : W (R.GLB_ACC_ERR)) (hw1 : W (R.CHN_SRC)) : Frame.out [] W s (execSourceSwitchArm val s) := by
  unfold execSourceSwitchArm
  with_reducible refine Frame.out_next ?_
  with_reducible refine State.bar0Write_frame _ _ _ ?_ (by decide) ?_ ?_
  exact hw0
  exact Frame.refl ..
  intro u0 hu1
  with_reducible refine Frame.step ?_ (State.chnSrcWrite_frame _ _ ?_) (by decide)
  assumption
  exact hw1

theorem execEstSweep_frame {W : Nat → Prop} (s : State) (hw0 : W (R.EST_OVFL_CNT)) (hw1 : W (R.EST_STAT)) (hw2 : W (R.EVT_PEND (20 / 32))) (hw3 : W (R.EVT_LOST_CNT)) (hw4 : W (R.EVT_STAT)) (hw5 : W (R.EST_SKIP_CNT)) : Frame.out [.evt, .est] W s (execEstSweep s) := by
  unfold execEstSweep
  split
  with_reducible refine Frame.out_next ?_
  exact Frame.refl ..
  split
  extract_lets x0 x1 x2 x3
  have hx1 : Frame [.evt, .est] W s x1.2 := by
    unfold x1
    with_reducible refine Frame.step ?_ (State.estTrim_frame _ _ ?_ ?_ ?_ ?_ ?_) (by decide)
    exact Frame.refl ..
    exact hw0; exact hw1; exact hw2; exact hw3; exact hw4
  have hx2 : Frame [.evt, .est] W s x2 := by
    (with_reducible conv => arg 4; whnf)
    with_reducible refine Frame.incSat ?_ ?_
    exact hx1
    exact hw5
  with_reducible refine Frame.out_next ?_
  ((with_reducible refine Frame.upd ?_ ?_); on_goal 2 => (intro p hp; cases p <;> first | exact (hp (by decide)).elim | (dsimp only [Part.same] <;> fail)))
  exact hx2
  with_reducible refine Frame.out_next ?_
  exact Frame.refl ..

theorem State.estPin_frame {W : Nat → Prop} (s : State) (pin : ℕ) (set : Bool) (timer : Option ℕ) : Frame [.est] W s (State.estPin s pin set timer) := by
  unfold State.estPin
  ((with_reducible refine Frame.upd ?_ ?_); on_goal 2 => (intro p hp; cases p <;> first | exact (hp (by decide)).elim | (dsimp only [Part.same] <;> fail)))
  exact Frame.refl ..

theorem State.estPinAct_frame {W : Nat → Prop} (s : State) (act : ℕ) (pin : ℕ) (width : ℕ) : Frame [.est] W s (State.estPinAct s act pin width) := by
  unfold State.estPinAct
  with_reducible refine Frame.iteOf ?_ ?_
  with_reducible refine Frame.step ?_ (State.estPin_frame _ _ _ _) (by decide)
  exact Frame.refl ..
  with_reducible refine Frame.iteOf ?_ ?_
  with_reducible refine Frame.step ?_ (State.estPin_frame _ _ _ _) (by decide)
  exact Frame.refl ..
  with_reducible refine Frame.iteOf ?_ ?_
  with_reducible refine Frame.step ?_ (State.estPin_frame _ _ _ _) (by decide)
  exact Frame.refl ..
  with_reducible refine Frame.step ?_ (State.estPin_frame _ _ _ _) (by decide)
  exact Frame.refl ..

theorem State.postEvent_frame {W : Nat → Prop} (s : State) (e : ℕ) (hw0 : W (R.DSP_EVT_OVR (e / 32))) (hw1 : W (R.DSP_STAT)) (hw2 : W (R.EVT_PEND (26 / 32))) (hw3 : W (R.EVT_LOST_CNT)) (hw4 : W (R.EVT_STAT)) : Frame [.evt, .dsp] W s (State.postEvent s e) := by
  unfold State.postEvent
  with_reducible refine Frame.iteOf ?_ ?_
  extract_lets x0
  with_reducible refine Frame.step ?_ (State.raise_frame _ _ _ _ ?_ ?_ ?_) (by decide)
  with_reducible refine Frame.set1 ?_ ?_
  with_reducible refine Frame.putReg ?_ ?_
  exact Frame.refl ..
  exact hw0; exact hw1; exact hw2; exact hw3; exact hw4
  with_reducible refine Frame.step ?_ (State.readyAdd_frame _ _ _) (by decide)
  exact Frame.refl ..

theorem State.estMarkFired_frame {W : Nat → Prop} (s : State) (x : FireSlot) (hw0 : W (R.EST_FIRE_CNT)) (hw1 : W (R.EST_FIRST_LATE)) (hw2 : W (R.EST_STAT)) (hw3 : W (R.EST_LATE_CNT)) (hw4 : W (R.EVT_PEND (18 / 32))) (hw5 : W (R.EVT_LOST_CNT)) (hw6 : W (R.EVT_STAT)) : Frame [.evt, .est] W s (State.estMarkFired s x) := by
  unfold State.estMarkFired
  extract_lets x0 x1 x2 x3 x4
  have hx2 : Frame [.evt, .est] W s x2 := by
    (with_reducible conv => arg 4; whnf)
    ((with_reducible refine Frame.upd ?_ ?_); on_goal 2 => (intro p hp; cases p <;> first | exact (hp (by decide)).elim | (dsimp only [Part.same] <;> fail)))
    exact Frame.refl ..
  have hx3 : Frame [.evt, .est] W s x3 := by
    (with_reducible conv => arg 4; whnf)
    with_reducible refine Frame.incWrap ?_ ?_
    with_reducible refine Frame.step ?_ (State.estW2Bit_frame _ _ _ _) (by decide)
    exact hx2
    exact hw0
  have hx4 : Frame [.evt, .est] W s x4 := by
    (with_reducible conv => arg 4; whnf)
    with_reducible refine Frame.whenDo ?_ ?_
    exact hx3
    intro u10 hu11
    with_reducible refine Frame.step ?_ (State.estW2Bit_frame _ _ _ _) (by decide)
    assumption
  with_reducible refine Frame.whenDo ?_ ?_
  exact hx4
  intro u5 hu6
  extract_lets x7
  have hx7 : Frame [.evt, .est] W s x7 := by
    (with_reducible conv => arg 4; whnf)
    with_reducible refine Frame.whenDo ?_ ?_
    assumption
    intro u8 hu9
    with_reducible refine Frame.set1 ?_ ?_
    with_reducible refine Frame.setF ?_ ?_
    assumption
    exact hw1; exact hw1
  with_reducible refine Frame.step ?_ (State.raise_frame _ _ _ _ ?_ ?_ ?_) (by decide)
  with_reducible refine Frame.incSat ?_ ?_
  with_reducible refine Frame.set1 ?_ ?_
  with_reducible refine Frame.step ?_ (State.estW2Bit_frame _ _ _ _) (by decide)
  exact hx7
  exact hw2; exact hw3; exact hw4; exact hw5; exact hw6

theorem execPulseTimerEnd_frame {W : Nat → Prop} (pin : Fin 32) (s : State) : Frame.out [.est] W s (execPulseTimerEnd pin s) := by
  unfold execPulseTimerEnd
  split
  with_reducible refine Frame.out_next ?_
  exact Frame.refl ..
  split
  with_reducible refine Frame.out_next ?_
  with_reducible refine Frame.step ?_ (State.estPin_frame _ _ _ _) (by decide)
  exact Frame.refl ..
  with_reducible refine Frame.out_next ?_
  exact Frame.refl ..

theorem execEstCommit_frame {W : Nat → Prop} (val : Word) (s : State) (hw0 : W (R.GLB_ACC_ERR)) (hw1 : W (R.EST_W 3)) (hw2 : W (R.EST_OVFL_CNT)) (hw3 : W (R.EST_STAT)) (hw4 : W (R.EVT_PEND (20 / 32))) (hw5 : W (R.EVT_LOST_CNT)) (hw6 : W (R.EVT_STAT)) (hw7 : W (R.EST_SKIP_CNT)) : Frame.out [.evt, .est] W s (execEstCommit val s) := by
  unfold execEstCommit
  with_reducible refine Frame.out_next ?_
  with_reducible refine State.bar0Write_frame _ _ _ ?_ (by decide) ?_ ?_
  exact hw0
  exact Frame.refl ..
  intro u0 hu1
  with_reducible refine Frame.step ?_ (State.estCommitHost_frame _ _ ?_ ?_ ?_ ?_ ?_ ?_ ?_) (by decide)
  assumption
  exact hw1; exact hw2; exact hw3; exact hw4; exact hw5; exact hw6; exact hw7

theorem State.estAddCur_frame {W : Nat → Prop} (s : State) (x : FireSlot) (hw0 : W (R.EST_OVFL_CNT)) (hw1 : W (R.EST_STAT)) (hw2 : W (R.EVT_PEND (20 / 32))) (hw3 : W (R.EVT_LOST_CNT)) (hw4 : W (R.EVT_STAT)) : Frame [.evt, .est] W s (State.estAddCur s x) := by
  unfold State.estAddCur
  extract_lets x0 x1 x2
  have hx0 : Frame [.evt, .est] W s x0.2 := by
    unfold x0
    with_reducible refine Frame.step ?_ (State.estTrim_frame _ _ ?_ ?_ ?_ ?_ ?_) (by decide)
    exact Frame.refl ..
    exact hw0; exact hw1; exact hw2; exact hw3; exact hw4
  have hx1 : Frame [.evt, .est] W s x1 := by
    (with_reducible conv => arg 4; whnf)
    exact hx0
  ((with_reducible refine Frame.upd ?_ ?_); on_goal 2 => (intro p hp; cases p <;> first | exact (hp (by decide)).elim | (dsimp only [Part.same] <;> fail)))
  exact hx1

theorem State.estCompare_frame {W : Nat → Prop} (s : State) (idx : ℕ) (read : Bool) (hw0 : W (R.EST_OVFL_CNT)) (hw1 : W (R.EST_STAT)) (hw2 : W (R.EVT_PEND (20 / 32))) (hw3 : W (R.EVT_LOST_CNT)) (hw4 : W (R.EVT_STAT)) (hw5 : W (R.EST_SKIP_CNT)) : Frame [.evt, .est] W s (State.estCompare s idx read) := by
  unfold State.estCompare
  extract_lets x0 x1 x2
  have hx2 : Frame [.evt, .est] W s x2 := by
    (with_reducible conv => arg 4; whnf)
    split
    exact Frame.refl ..
    with_reducible refine Frame.incSat ?_ ?_
    with_reducible refine Frame.step ?_ (State.estAddCur_frame _ _ ?_ ?_ ?_ ?_ ?_) (by decide)
    with_reducible refine Frame.whenDo ?_ ?_
    exact Frame.refl ..
    intro u5 hu6
    with_reducible refine Frame.step ?_ (State.estUnlist_frame _ _) (by decide)
    assumption
    exact hw0; exact hw1; exact hw2; exact hw3; exact hw4; exact hw5
  with_reducible refine Frame.iteOf ?_ ?_
  exact Frame.refl ..
  with_reducible refine Frame.whenDo ?_ ?_
  exact hx2
  intro u3 hu4
  with_reducible refine Frame.step ?_ (State.estEnterNext_frame _ _ ?_ ?_ ?_ ?_ ?_ ?_) (by decide)
  assumption
  exact hw0; exact hw1; exact hw2; exact hw3; exact hw4; exact hw5

theorem execEstCommitCompare_frame {W : Nat → Prop} (idx : Fin 8192) (s : State) (hw0 : W (R.EST_OVFL_CNT)) (hw1 : W (R.EST_STAT)) (hw2 : W (R.EVT_PEND (20 / 32))) (hw3 : W (R.EVT_LOST_CNT)) (hw4 : W (R.EVT_STAT)) (hw5 : W (R.EST_SKIP_CNT)) : Frame.out [.evt, .est] W s (execEstCommitCompare idx s) := by
  unfold execEstCommitCompare
  split
  extract_lets x0 x1 x2
  have hx2 : Frame [.evt, .est] W s x2 := by
    (with_reducible conv => arg 4; whnf)
    ((with_reducible refine Frame.upd ?_ ?_); on_goal 2 => (intro p hp; cases p <;> first | exact (hp (by decide)).elim | (dsimp only [Part.same] <;> fail)))
    exact Frame.refl ..
  with_reducible refine Frame.out_next ?_
  with_reducible refine Frame.step ?_ (State.estCompare_frame _ _ _ ?_ ?_ ?_ ?_ ?_ ?_) (by decide)
  exact hx2
  exact hw0; exact hw1; exact hw2; exact hw3; exact hw4; exact hw5
  with_reducible refine Frame.out_next ?_
  exact Frame.refl ..

theorem execEstIdxLoad_frame {W : Nat → Prop} (val : Word) (s : State) (hw0 : W (R.GLB_ACC_ERR)) (hw1 : W (R.EST_IDX)) (hw2 : ∀ i0, W (R.EST_W i0)) : Frame.out [] W s (execEstIdxLoad val s) := by
  unfold execEstIdxLoad
  with_reducible refine Frame.out_next ?_
  with_reducible refine State.bar0Write_frame _ _ _ ?_ (by decide) ?_ ?_
  exact hw0
  exact Frame.refl ..
  intro u0 hu1
  with_reducible refine Frame.step ?_ (State.estLoad_frame _ _ ?_ ?_) (by decide)
  assumption
  exact hw1; exact fun _ => hw2 _

theorem execEstPinPolWrite_frame {W : Nat → Prop} (val : Word) (s : State) (hw0 : W (R.GLB_ACC_ERR)) (hw1 : W (R.EST_PIN_POL)) : Frame.out [.est] W s (execEstPinPolWrite val s) := by
  unfold execEstPinPolWrite
  with_reducible refine Frame.out_next ?_
  with_reducible refine State.bar0Write_frame _ _ _ ?_ (by decide) ?_ ?_
  exact hw0
  exact Frame.refl ..
  intro u0 hu1
  with_reducible refine Frame.step ?_ (State.estPolWrite_frame _ _ ?_) (by decide)
  assumption
  exact hw1

theorem execCaptureRecordPop_frame {W : Nat → Prop} (s : State) : Frame.out [.host, .cap] W s (execCaptureRecordPop s) := by
  unfold execCaptureRecordPop
  with_reducible refine Frame.out_next ?_
  with_reducible refine State.bar0Answer_frame _ _ _ (by decide) ?_ ?_
  exact Frame.refl ..
  intro u0 hu1
  with_reducible refine Frame.step ?_ (State.capPop_frame _) (by decide)
  assumption

theorem State.migClip_frame {W : Nat → Prop} (s : State) (hw0 : W (R.DSP_STAT)) (hw1 : W (R.EVT_PEND (16 / 32))) (hw2 : W (R.EVT_LOST_CNT)) (hw3 : W (R.EVT_STAT)) : Frame [.evt, .dsp] W s (State.migClip s) := by
  unfold State.migClip
  with_reducible refine Frame.iteOf ?_ ?_
  exact Frame.refl ..
  with_reducible refine Frame.step ?_ (State.raise_frame _ _ _ _ ?_ ?_ ?_) (by decide)
  with_reducible refine Frame.set1 ?_ ?_
  ((with_reducible refine Frame.upd ?_ ?_); on_goal 2 => (intro p hp; cases p <;> first | exact (hp (by decide)).elim | (dsimp only [Part.same] <;> fail)))
  exact Frame.refl ..
  exact hw0; exact hw1; exact hw2; exact hw3

theorem State.decide__frame {W : Nat → Prop} (s : State) (p : ℕ) (st : ℕ) (v3 : List Task) (hw0 : W (R.DSP_STAT)) (hw1 : W (R.EVT_PEND (16 / 32))) (hw2 : W (R.EVT_LOST_CNT)) (hw3 : W (R.EVT_STAT)) : Frame [.evt, .dsp, .piers] W s (State.decide_ s p st v3) := by
  induction v3 generalizing s p st with
  | nil =>
    exact Frame.refl ..
  | cons l0 ls0 ih =>
    unfold State.decide_
    split
    with_reducible refine Frame.step ?_ (ih _ _ _) (by decide)
    exact Frame.refl ..
    with_reducible refine Frame.step ?_ (ih _ _ _) (by decide)
    with_reducible refine Frame.step ?_ (State.migClip_frame _ ?_ ?_ ?_ ?_) (by decide)
    exact Frame.refl ..
    exact hw0; exact hw1; exact hw2; exact hw3
    extract_lets x0 x1 x2 x3
    have hx1 : Frame [.evt, .dsp, .piers] W s x1 := by
      (with_reducible conv => arg 4; whnf)
      ((with_reducible refine Frame.upd ?_ ?_); on_goal 2 => (intro p hp; cases p <;> first | exact (hp (by decide)).elim | (dsimp only [Part.same] <;> fail)))
      exact Frame.refl ..
    with_reducible refine Frame.step ?_ (State.putPier_frame _ _ _) (by decide)
    exact hx1

theorem State.decidePier_frame {W : Nat → Prop} (s : State) (p : ℕ) (st : ℕ) (hw0 : W (R.DSP_STAT)) (hw1 : W (R.EVT_PEND (16 / 32))) (hw2 : W (R.EVT_LOST_CNT)) (hw3 : W (R.EVT_STAT)) : Frame [.evt, .dsp, .piers] W s (State.decidePier s p st) := by
  unfold State.decidePier
  with_reducible refine Frame.iteOf ?_ ?_
  extract_lets x0
  have hx0 : Frame [.evt, .dsp, .piers] W s x0 := by
    (with_reducible conv => arg 4; whnf)
    with_reducible refine Frame.step ?_ (State.decide__frame _ _ _ _ ?_ ?_ ?_ ?_) (by decide)
    exact Frame.refl ..
    exact hw0; exact hw1; exact hw2; exact hw3
  with_reducible refine Frame.iteOf ?_ ?_
  exact hx0
  with_reducible refine Frame.step ?_ (State.flowGive_frame _ _ _) (by decide)
  exact hx0
  with_reducible refine Frame.step ?_ (State.decide__frame _ _ _ _ ?_ ?_ ?_ ?_) (by decide)
  exact Frame.refl ..
  exact hw0; exact hw1; exact hw2; exact hw3

theorem execDispatchDecision_frame {W : Nat → Prop} (s : State) (hw0 : W (R.DSP_STAT)) (hw1 : W (R.EVT_PEND (16 / 32))) (hw2 : W (R.EVT_LOST_CNT)) (hw3 : W (R.EVT_STAT)) : Frame.out [.evt, .dsp, .piers] W s (execDispatchDecision s) := by
  unfold execDispatchDecision
  split
  with_reducible refine Frame.out_next ?_
  with_reducible refine Frame.eachDo ?_ ?_
  exact Frame.refl ..
  intro u0 x1 hu2
  split
  with_reducible refine Frame.step ?_ (State.decidePier_frame _ _ _ ?_ ?_ ?_ ?_) (by decide)
  assumption
  exact hw0; exact hw1; exact hw2; exact hw3
  assumption
  with_reducible refine Frame.out_next ?_
  exact Frame.refl ..

theorem State.pierWorks_frame {W : Nat → Prop} (s : State) (p : ℕ) : Frame [.free, .piers] W s (State.pierWorks s p) := by
  unfold State.pierWorks
  with_reducible refine Frame.step ?_ (State.drewFree_frame _) (by decide)
  with_reducible refine Frame.step ?_ (State.putPier_frame _ _ _) (by decide)
  exact Frame.refl ..

theorem State.takeUp_frame {W : Nat → Prop} (s : State) (p : ℕ) (g : Assigned) : Frame [.free, .piers] W s (State.takeUp s p g) := by
  unfold State.takeUp
  extract_lets x0 x1
  have hx0 : Frame [.free, .piers] W s x0 := by
    (with_reducible conv => arg 4; whnf)
    with_reducible refine Frame.step ?_ (State.pierWorks_frame _ _) (by decide)
    exact Frame.refl ..
  with_reducible refine Frame.step ?_ (State.putPier_frame _ _ _) (by decide)
  exact hx0

theorem State.putResDyn_frame {W : Nat → Prop} (s : State) (a : ℕ) (d : AxisDyn) : Frame [.deck] W s (State.putResDyn s a d) := by
  unfold State.putResDyn
  ((with_reducible refine Frame.upd ?_ ?_); on_goal 2 => (intro p hp; cases p <;> first | exact (hp (by decide)).elim | (dsimp only [Part.same] <;> fail)))
  exact Frame.refl ..

theorem State.loadState_frame {W : Nat → Prop} (s : State) (a : ℕ) : Frame [.deck] W s (State.loadState s a) := by
  unfold State.loadState
  extract_lets x0 x1
  have hx1 : Frame [.deck] W s x1 := by
    (with_reducible conv => arg 4; whnf)
    ((with_reducible refine Frame.upd ?_ ?_); on_goal 2 => (intro p hp; cases p <;> first | exact (hp (by decide)).elim | (dsimp only [Part.same] <;> fail)))
    exact Frame.refl ..
  with_reducible refine Frame.step ?_ (State.putResDyn_frame _ _ _) (by decide)
  exact hx1

theorem State.startMove_frame {W : Nat → Prop} (s : State) (a : ℕ) (p : ℕ) (mv : MoveKind) (hw0 : ∀ i0, W (R.PIR_RES p i0)) (hw1 : W (R.AXT_W2 a)) : Frame [.axes, .deck] W s (State.startMove s a p mv) := by
  unfold State.startMove
  split
  exact Frame.refl ..
  extract_lets x0 x1
  have hx0 : Frame [.axes, .deck] W s x0 := by
    (with_reducible conv => arg 4; whnf)
    with_reducible refine Frame.setF ?_ ?_
    with_reducible refine Frame.step ?_ (State.placeSlot_frame _ _ _ ?_) (by decide)
    exact Frame.refl ..
    exact fun _ => hw0 _; exact hw1
  with_reducible refine Frame.step ?_ (State.putAxis_frame _ _ _) (by decide)
  exact hx0
  extract_lets x2 x3
  have hx2 : Frame [.axes, .deck] W s x2 := by
    (with_reducible conv => arg 4; whnf)
    with_reducible refine Frame.step ?_ (State.loadState_frame _ _) (by decide)
    with_reducible refine Frame.set1 ?_ ?_
    with_reducible refine Frame.setF ?_ ?_
    with_reducible refine Frame.step ?_ (State.placeSlot_frame _ _ _ ?_) (by decide)
    exact Frame.refl ..
    exact fun _ => hw0 _; exact hw1; exact hw1
  with_reducible refine Frame.step ?_ (State.putAxis_frame _ _ _) (by decide)
  exact hx2

theorem State.migCount_frame {W : Nat → Prop} (s : State) (mv : MoveKind) (hw0 : W (R.DSP_MIG_CNT)) : Frame [.dsp] W s (State.migCount s mv) := by
  unfold State.migCount
  with_reducible refine Frame.iteOf ?_ ?_
  exact Frame.refl ..
  with_reducible refine Frame.incWrap ?_ ?_
  ((with_reducible refine Frame.upd ?_ ?_); on_goal 2 => (intro p hp; cases p <;> first | exact (hp (by decide)).elim | (dsimp only [Part.same] <;> fail)))
  exact Frame.refl ..
  exact hw0

theorem State.encLreq_frame {W : Nat → Prop} (s : State) (e : ℕ) (lreq : ℕ) (hw0 : W (R.ENC_STAT e)) : Frame [.pwr] W s (State.encLreq s e lreq) := by
  unfold State.encLreq
  extract_lets x0
  with_reducible refine Frame.iteOf ?_ ?_
  exact Frame.refl ..
  with_reducible refine Frame.whenDo ?_ ?_
  with_reducible refine Frame.step ?_ (State.putEnc_frame _ _ _) (by decide)
  exact Frame.refl ..
  intro u1 hu2
  with_reducible refine Frame.clr ?_ ?_
  assumption
  exact hw0

theorem State.putDyn_frame {W : Nat → Prop} (s : State) (a : ℕ) (d : AxisDyn) : Frame [.deck] W s (State.putDyn s a d) := by
  unfold State.putDyn
  with_reducible refine Frame.step ?_ (State.putHomeDyn_frame _ _ _) (by decide)
  with_reducible refine Frame.step ?_ (State.putResDyn_frame _ _ _) (by decide)
  exact Frame.refl ..

theorem State.axisFault_frame {W : Nat → Prop} (s : State) (a : ℕ) (code : ℕ) (hw0 : W (R.AXT_W2 a)) (hw1 : W (R.AXT_FLT_MAP (a / 32))) (hw2 : W (R.EVT_PEND (48 / 32))) (hw3 : W (R.EVT_LOST_CNT)) (hw4 : W (R.EVT_STAT)) : Frame [.evt] W s (State.axisFault s a code) := by
  unfold State.axisFault
  with_reducible refine Frame.setF ?_ ?_
  with_reducible refine Frame.step ?_ (State.axisFaultMark_frame _ _ _ ?_ ?_ ?_ ?_ ?_) (by decide)
  exact Frame.refl ..
  exact hw0; exact hw1; exact hw2; exact hw3; exact hw4; exact hw0

theorem State.taskDone_frame {W : Nat → Prop} (s : State) (p : ℕ) (hw0 : W (R.PIR_TASKS p)) : Frame [.free, .dsp, .piers] W s (State.taskDone s p) := by
  unfold State.taskDone
  extract_lets x0 x1 x2 x3 x4
  have hx0 : Frame [.free, .dsp, .piers] W s x0 := by
    (with_reducible conv => arg 4; whnf)
    with_reducible refine Frame.step ?_ (State.pierWorks_frame _ _) (by decide)
    exact Frame.refl ..
  have hx2 : Frame [.free, .dsp, .piers] W s x2 := by
    (with_reducible conv => arg 4; whnf)
    with_reducible refine Frame.step ?_ (State.putPier_frame _ _ _) (by decide)
    exact hx0
  have hx3 : Frame [.free, .dsp, .piers] W s x3 := by
    (with_reducible conv => arg 4; whnf)
    with_reducible refine Frame.incWrap ?_ ?_
    exact hx2
    exact hw0
  ((with_reducible refine Frame.upd ?_ ?_); on_goal 2 => (intro p hp; cases p <;> first | exact (hp (by decide)).elim | (dsimp only [Part.same] <;> fail)))
  exact hx3

theorem State.flowNext_frame {W : Nat → Prop} (s : State) (p : ℕ) : Frame [.dsp, .piers] W s (State.flowNext s p) := by
  unfold State.flowNext
  extract_lets x0 x1
  have hx1 : Frame [.dsp, .piers] W s x1 := by
    (with_reducible conv => arg 4; whnf)
    with_reducible refine Frame.step ?_ (State.putPier_frame _ _ _) (by decide)
    exact Frame.refl ..
  with_reducible refine Frame.iteOf ?_ ?_
  exact Frame.refl ..
  with_reducible refine Frame.step ?_ (State.flowGive_frame _ _ _) (by decide)
  exact hx1

theorem State.startOther_frame {W : Nat → Prop} (s : State) (k : TaskKind) (id : ℕ) : Frame [.free, .piers] W s (State.startOther s k id) := by
  unfold State.startOther
  split
  exact Frame.refl ..
  split
  with_reducible refine Frame.step ?_ (State.takeUp_frame _ _ _) (by decide)
  exact Frame.refl ..
  exact Frame.refl ..

theorem execEventTask_frame {W : Nat → Prop} (e : Fin 64) (s : State) : Frame.out [.free, .piers] W s (execEventTask e s) := by
  unfold execEventTask
  with_reducible refine Frame.out_next ?_
  with_reducible refine Frame.step ?_ (State.startOther_frame _ _ _) (by decide)
  exact Frame.refl ..

theorem execBackgroundSlice_frame {W : Nat → Prop} (j : Fin 32) (s : State) : Frame.out [.free, .piers] W s (execBackgroundSlice j s) := by
  unfold execBackgroundSlice
  with_reducible refine Frame.out_next ?_
  with_reducible refine Frame.step ?_ (State.startOther_frame _ _ _) (by decide)
  exact Frame.refl ..

theorem State.fwdApply_frame {W : Nat → Prop} (s : State) (f : ℕ × ℕ × Word) : Frame [.deck] W s (State.fwdApply s f) := by
  unfold State.fwdApply
  ((with_reducible refine Frame.upd ?_ ?_); on_goal 2 => (intro p hp; cases p <;> first | exact (hp (by decide)).elim | (dsimp only [Part.same] <;> fail)))
  exact Frame.refl ..

theorem execStateMoveEnd_frame {W : Nat → Prop} (a : Fin 160) (s : State) (hw0 : ∀ i0 i1, W (R.PIR_RES i0 i1)) : Frame.out [.axes, .deck] W s (execStateMoveEnd a s) := by
  unfold execStateMoveEnd
  split
  with_reducible refine Frame.out_next ?_
  exact Frame.refl ..
  split
  extract_lets x0 x1 x2 x3 x4 x5
  have hx0 : Frame [.axes, .deck] W s x0 := by
    (with_reducible conv => arg 4; whnf)
    with_reducible refine Frame.step ?_ (State.dropSlot_frame _ _ _ ?_) (by decide)
    exact Frame.refl ..
    exact fun _ => hw0 _ _
  have hx2 : Frame [.axes, .deck] W s x2 := by
    (with_reducible conv => arg 4; whnf)
    with_reducible refine Frame.step ?_ (State.putAxis_frame _ _ _) (by decide)
    exact hx0
  have hx4 : Frame [.axes, .deck] W s x4 := by
    (with_reducible conv => arg 4; whnf)
    with_reducible refine Frame.eachDo ?_ ?_
    exact hx2
    intro u6 x7 hu8
    with_reducible refine Frame.step ?_ (State.fwdApply_frame _ _) (by decide)
    assumption
  with_reducible refine Frame.out_next ?_
  ((with_reducible refine Frame.upd ?_ ?_); on_goal 2 => (intro p hp; cases p <;> first | exact (hp (by decide)).elim | (dsimp only [Part.same] <;> fail)))
  exact hx4
  with_reducible refine Frame.out_next ?_
  exact Frame.refl ..

theorem execSubstitutePost_frame {W : Nat → Prop} (a : Fin 160) (s : State) (hw0 : W (R.DSP_SUB_CNT)) (hw1 : W (R.DSP_STAT)) : Frame.out [.dsp, .piers, .axes] W s (execSubstitutePost a s) := by
  unfold execSubstitutePost
  split
  with_reducible refine Frame.out_next ?_
  with_reducible refine Frame.step ?_ (State.postAxis_frame _ _) (by decide)
  with_reducible refine Frame.set1 ?_ ?_
  with_reducible refine Frame.incSat ?_ ?_
  exact Frame.refl ..
  exact hw0; exact hw1
  with_reducible refine Frame.out_next ?_
  exact Frame.refl ..

theorem State.overrun_frame {W : Nat → Prop} (s : State) (a : ℕ) (hw0 : W (R.DSP_OVR_MAP (a / 32))) (hw1 : W (R.DSP_OVR_FIRST)) (hw2 : W (R.DSP_OVR_CNT)) (hw3 : W (R.DSP_STAT)) (hw4 : W (R.EVT_PEND (24 / 32))) (hw5 : W (R.EVT_LOST_CNT)) (hw6 : W (R.EVT_STAT)) : Frame [.evt, .dsp, .piers, .axes] W s (State.overrun s a) := by
  unfold State.overrun
  extract_lets x0 x1 x2 x3 x4 x5
  have hx0 : Frame [.evt, .dsp, .piers, .axes] W s x0 := by
    (with_reducible conv => arg 4; whnf)
    with_reducible refine Frame.step ?_ (State.dropPending_frame _ _) (by decide)
    exact Frame.refl ..
  have hx2 : Frame [.evt, .dsp, .piers, .axes] W s x2 := by
    (with_reducible conv => arg 4; whnf)
    with_reducible refine Frame.step ?_ (State.putAxis_frame _ _ _) (by decide)
    exact hx0
  have hx4 : Frame [.evt, .dsp, .piers, .axes] W s x4 := by
    (with_reducible conv => arg 4; whnf)
    with_reducible refine Frame.putReg ?_ ?_
    exact hx2
    exact hw0
  have hx5 : Frame [.evt, .dsp, .piers, .axes] W s x5 := by
    (with_reducible conv => arg 4; whnf)
    with_reducible refine Frame.whenDo ?_ ?_
    exact hx4
    intro u6 hu7
    with_reducible refine Frame.set1 ?_ ?_
    with_reducible refine Frame.setF ?_ ?_
    with_reducible refine Frame.setF ?_ ?_
    assumption
    exact hw1; exact hw1; exact hw1
  with_reducible refine Frame.step ?_ (State.raise_frame _ _ _ _ ?_ ?_ ?_) (by decide)
  with_reducible refine Frame.set1 ?_ ?_
  with_reducible refine Frame.incSat ?_ ?_
  exact hx5
  exact hw2; exact hw3; exact hw4; exact hw5; exact hw6

theorem execOverrun_frame {W : Nat → Prop} (a : Fin 160) (s : State) (hw0 : ∀ i0, W (R.DSP_OVR_MAP i0)) (hw1 : W (R.DSP_OVR_FIRST)) (hw2 : W (R.DSP_OVR_CNT)) (hw3 : W (R.DSP_STAT)) (hw4 : W (R.EVT_PEND (24 / 32))) (hw5 : W (R.EVT_LOST_CNT)) (hw6 : W (R.EVT_STAT)) : Frame.out [.evt, .dsp, .piers, .axes] W s (execOverrun a s) := by
  unfold execOverrun
  split
  with_reducible refine Frame.out_next ?_
  with_reducible refine Frame.eachDo ?_ ?_
  with_reducible refine Frame.eachDo ?_ ?_
  exact Frame.refl ..
  intro u0 x1 hu2
  with_reducible refine Frame.step ?_ (State.overrun_frame _ _ ?_ ?_ ?_ ?_ ?_ ?_ ?_) (by decide)
  assumption
  exact hw0 _; exact hw1; exact hw2; exact hw3; exact hw4; exact hw5; exact hw6
  intro u3 x4 hu5
  with_reducible refine Frame.step ?_ (State.flowNext_frame _ _) (by decide)
  assumption
  with_reducible refine Frame.out_next ?_
  exact Frame.refl ..

theorem execBackgroundPost_frame {W : Nat → Prop} (val : Word) (s : State) (hw0 : W (R.GLB_ACC_ERR)) (hw1 : W (R.DSP_BG_OVR)) (hw2 : W (R.DSP_STAT)) (hw3 : W (R.EVT_PEND (26 / 32))) (hw4 : W (R.EVT_LOST_CNT)) (hw5 : W (R.EVT_STAT)) (hw6 : W (R.DSP_BG_PEND)) : Frame.out [.evt, .dsp] W s (execBackgroundPost val s) := by
  unfold execBackgroundPost
  with_reducible refine Frame.out_next ?_
  with_reducible refine State.bar0Write_frame _ _ _ ?_ (by decide) ?_ ?_
  exact hw0
  exact Frame.refl ..
  intro u0 hu1
  with_reducible refine Frame.step ?_ (State.bgPost_frame _ _ ?_ ?_ ?_ ?_ ?_ ?_) (by decide)
  assumption
  exact hw1; exact hw2; exact hw3; exact hw4; exact hw5; exact hw6

theorem execFlowEnable_frame {W : Nat → Prop} (n : Fin 256) (val : Word) (s : State) (hw0 : W (R.GLB_ACC_ERR)) (hw1 : W (R.DSP_FLOW ↑n)) (hw2 : W (R.DSP_STAT)) (hw3 : ∀ i0 i1, W (R.PIR_RES i0 i1)) (hw4 : ∀ i0, W (R.AXT_W2 i0)) : Frame.out [.axes] W s (execFlowEnable n val s) := by
  unfold execFlowEnable
  with_reducible refine Frame.out_next ?_
  with_reducible refine State.bar0Write_frame _ _ _ ?_ (by decide) ?_ ?_
  exact hw0
  exact Frame.refl ..
  intro u0 hu1
  with_reducible refine Frame.step ?_ (State.flowWrite_frame _ _ _ ?_ ?_ ?_ ?_) (by decide)
  assumption
  exact hw1; exact hw2; exact fun _ _ => hw3 _ _; exact fun _ => hw4 _

theorem execDeckWindowWrite_frame {W : Nat → Prop} (off : ℕ) (val : Word) (s : State) (hw0 : W (R.GLB_ACC_ERR)) (hw1 : W (R.DCK_STAT)) : Frame.out [.deck, .deckMem] W s (execDeckWindowWrite off val s) := by
  unfold execDeckWindowWrite
  with_reducible refine Frame.out_next ?_
  with_reducible refine State.bar0Write_frame _ _ _ ?_ (by decide) ?_ ?_
  exact hw0
  exact Frame.refl ..
  intro u0 hu1
  with_reducible refine Frame.step ?_ (State.deckHostWrite_frame _ _ _ ?_) (by decide)
  assumption
  exact hw1

theorem execResidentCopyUpdate_frame {W : Nat → Prop} (s : State) : Frame.out [.deck] W s (execResidentCopyUpdate s) := by
  unfold execResidentCopyUpdate
  extract_lets x0 x1 x2 x3
  have hx2 : Frame [.deck] W s x2 := by
    (with_reducible conv => arg 4; whnf)
    with_reducible refine Frame.eachDo ?_ ?_
    exact Frame.refl ..
    intro u4 x5 hu6
    with_reducible refine Frame.step ?_ (State.fwdApply_frame _ _) (by decide)
    assumption
  with_reducible refine Frame.out_next ?_
  ((with_reducible refine Frame.upd ?_ ?_); on_goal 2 => (intro p hp; cases p <;> first | exact (hp (by decide)).elim | (dsimp only [Part.same] <;> fail)))
  exact hx2

theorem execCamPointHighWrite_frame {W : Nat → Prop} (off : ℕ) (val : Word) (s : State) (hw0 : W (R.GLB_ACC_ERR)) (hw1 : W (R.DCK_STAT)) : Frame.out [.deck, .deckMem] W s (execCamPointHighWrite off val s) := by
  unfold execCamPointHighWrite
  with_reducible refine Frame.out_next ?_
  with_reducible refine State.bar0Write_frame _ _ _ ?_ (by decide) ?_ ?_
  exact hw0
  exact Frame.refl ..
  intro u0 hu1
  with_reducible refine Frame.step ?_ (State.deckHostWrite_frame _ _ _ ?_) (by decide)
  assumption
  exact hw1

theorem execAxisEnableWrite_frame {W : Nat → Prop} (a : Fin 160) (val : Word) (s : State) (hw0 : W (R.GLB_ACC_ERR)) (hw1 : W (R.AXT_STAT)) (hw2 : W (R.AXT_W0 ↑a)) (hw3 : ∀ i0 i1, W (R.PIR_RES i0 i1)) (hw4 : W (R.AXT_W2 ↑a)) (hw5 : W (R.DSP_DL ↑a)) : Frame.out [.dsp, .piers, .axes, .deck] W s (execAxisEnableWrite a val s) := by
  unfold execAxisEnableWrite
  with_reducible refine Frame.out_next ?_
  with_reducible refine State.bar0Write_frame _ _ _ ?_ (by decide) ?_ ?_
  exact hw0
  exact Frame.refl ..
  intro u0 hu1
  with_reducible refine Frame.step ?_ (State.axisWrite_frame _ _ _ ?_ ?_ ?_ ?_ ?_) (by decide)
  assumption
  exact hw1; exact hw2; exact fun _ _ => hw3 _ _; exact hw4; exact hw5

theorem execAxisDisableWrite_frame {W : Nat → Prop} (a : Fin 160) (val : Word) (s : State) (hw0 : W (R.GLB_ACC_ERR)) (hw1 : W (R.AXT_STAT)) (hw2 : W (R.AXT_W0 ↑a)) (hw3 : ∀ i0 i1, W (R.PIR_RES i0 i1)) (hw4 : W (R.AXT_W2 ↑a)) (hw5 : W (R.DSP_DL ↑a)) : Frame.out [.dsp, .piers, .axes, .deck] W s (execAxisDisableWrite a val s) := by
  unfold execAxisDisableWrite
  with_reducible refine Frame.out_next ?_
  with_reducible refine State.bar0Write_frame _ _ _ ?_ (by decide) ?_ ?_
  exact hw0
  exact Frame.refl ..
  intro u0 hu1
  with_reducible refine Frame.step ?_ (State.axisWrite_frame _ _ _ ?_ ?_ ?_ ?_ ?_) (by decide)
  assumption
  exact hw1; exact hw2; exact fun _ _ => hw3 _ _; exact hw4; exact hw5

theorem execStateLoadEnd_frame {W : Nat → Prop} (a : Fin 160) (s : State) (hw0 : W (R.AXT_W2 ↑a)) : Frame.out [.axes, .deck] W s (execStateLoadEnd a s) := by
  unfold execStateLoadEnd
  split
  with_reducible refine Frame.out_next ?_
  exact Frame.refl ..
  split
  extract_lets x0 x1
  have hx0 : Frame [.axes, .deck] W s x0 := by
    (with_reducible conv => arg 4; whnf)
    with_reducible refine Frame.set1 ?_ ?_
    with_reducible refine Frame.step ?_ (State.loadState_frame _ _) (by decide)
    exact Frame.refl ..
    exact hw0
  with_reducible refine Frame.out_next ?_
  with_reducible refine Frame.step ?_ (State.putAxis_frame _ _ _) (by decide)
  exact hx0
  with_reducible refine Frame.out_next ?_
  exact Frame.refl ..

theorem State.takeAccepted_frame {W : Nat → Prop} (s : State) (a : ℕ) : Frame.optSnd [.host] W s (State.takeAccepted s a) := by
  unfold State.takeAccepted
  split
  with_reducible exact Frame.optSnd_none
  with_reducible refine Frame.optSnd_some ?_
  (with_reducible conv => arg 4; whnf)
  ((with_reducible refine Frame.upd ?_ ?_); on_goal 2 => (intro p hp; cases p <;> first | exact (hp (by decide)).elim | (dsimp only [Part.same] <;> fail)))
  exact Frame.refl ..

theorem execEncoderEdge_frame {W : Nat → Prop} (e : Fin 16) (a : PinLevel) (b : PinLevel) (s : State) (hw0 : W (R.ENC_STAT ↑e)) (hw1 : W (R.ENC_ERRCNT ↑e)) (hw2 : W (R.EVT_PEND (58 / 32))) (hw3 : W (R.EVT_LOST_CNT)) (hw4 : W (R.EVT_STAT)) (hw5 : W (R.ENC_POS ↑e)) : Frame.out [.evt, .pwr] W s (execEncoderEdge e a b s) := by
  unfold execEncoderEdge
  extract_lets x0 x1 x2 x3 x4 x5 x6
  have hx3 : Frame [.evt, .pwr] W s x3 := by
    (with_reducible conv => arg 4; whnf)
    with_reducible refine Frame.step ?_ (State.putEnc_frame _ _ _) (by decide)
    exact Frame.refl ..
  split
  with_reducible refine Frame.out_next ?_
  exact hx3
  split
  with_reducible refine Frame.out_next ?_
  exact hx3
  split
  with_reducible refine Frame.out_next ?_
  with_reducible refine Frame.step ?_ (State.encError_frame _ _ _ ?_ ?_ ?_ ?_ ?_) (by decide)
  with_reducible refine Frame.step ?_ (State.putEnc_frame _ _ _) (by decide)
  exact hx3
  exact hw0; exact hw1; exact hw2; exact hw3; exact hw4
  with_reducible refine Frame.out_next ?_
  with_reducible refine Frame.putReg ?_ ?_
  exact hx3
  exact hw5

theorem execSerialTransferStart_frame {W : Nat → Prop} (e : Fin 16) (s : State) : Frame.out [.pwr] W s (execSerialTransferStart e s) := by
  unfold execSerialTransferStart
  extract_lets x0 x1 x2
  split
  with_reducible refine Frame.out_next ?_
  exact Frame.refl ..
  split
  with_reducible refine Frame.out_next ?_
  with_reducible refine Frame.step ?_ (State.putEnc_frame _ _ _) (by decide)
  exact Frame.refl ..
  with_reducible refine Frame.out_next ?_
  exact Frame.refl ..

theorem execSerialTransferEnd_frame {W : Nat → Prop} (e : Fin 16) (rx : SerialRx) (s : State) (hw0 : W (R.ENC_DLY ↑e)) (hw1 : W (R.ENC_STAT ↑e)) (hw2 : W (R.ENC_POS ↑e)) (hw3 : W (R.ENC_ERRCNT ↑e)) (hw4 : W (R.EVT_PEND (58 / 32))) (hw5 : W (R.EVT_LOST_CNT)) (hw6 : W (R.EVT_STAT)) : Frame.out [.evt, .pwr] W s (execSerialTransferEnd e rx s) := by
  unfold execSerialTransferEnd
  extract_lets x0 x1 x2 x3 x4
  have hx2 : Frame [.evt, .pwr] W s x2 := by
    (with_reducible conv => arg 4; whnf)
    split
    with_reducible refine Frame.iteOf ?_ ?_
    with_reducible refine Frame.setF ?_ ?_
    exact Frame.refl ..
    exact hw0
    exact Frame.refl ..
    exact Frame.refl ..
  have hx3 : Frame [.evt, .pwr] W s x3 := by
    (with_reducible conv => arg 4; whnf)
    with_reducible refine Frame.whenDo ?_ ?_
    exact hx2
    intro u5 hu6
    with_reducible refine Frame.set1 ?_ ?_
    assumption
    exact hw1
  split
  with_reducible refine Frame.out_next ?_
  exact Frame.refl ..
  split
  with_reducible refine Frame.out_next ?_
  with_reducible refine Frame.putReg ?_ ?_
  with_reducible refine Frame.step ?_ (State.putEnc_frame _ _ _) (by decide)
  exact hx3
  exact hw2
  with_reducible refine Frame.out_next ?_
  with_reducible refine Frame.step ?_ (State.encError_frame _ _ _ ?_ ?_ ?_ ?_ ?_) (by decide)
  with_reducible refine Frame.step ?_ (State.putEnc_frame _ _ _) (by decide)
  exact hx3
  exact hw1; exact hw3; exact hw4; exact hw5; exact hw6

theorem execEncoderLatchEdge_frame {W : Nat → Prop} (e : Fin 16) (src : LatchSrc) (level : Bool) (s : State) (hw0 : W (R.ENC_STAT ↑e)) (hw1 : W (R.ENC_LPOS ↑e)) : Frame.out [] W s (execEncoderLatchEdge e src level s) := by
  unfold execEncoderLatchEdge
  extract_lets x0 x1
  have hx1 : Frame [] W s x1 := by
    (with_reducible conv => arg 4; whnf)
    split
    with_reducible refine Frame.setF ?_ ?_
    exact Frame.refl ..
    exact hw0
    exact Frame.refl ..
  split
  with_reducible refine Frame.out_next ?_
  with_reducible refine Frame.set1 ?_ ?_
  with_reducible refine Frame.putReg ?_ ?_
  exact hx1
  exact hw1; exact hw0
  with_reducible refine Frame.out_next ?_
  exact hx1

theorem execEncoderEnable_frame {W : Nat → Prop} (e : Fin 16) (val : Word) (s : State) (hw0 : W (R.GLB_ACC_ERR)) (hw1 : W (R.ENC_CFG ↑e)) (hw2 : W (R.ENC_STAT ↑e)) : Frame.out [.pwr] W s (execEncoderEnable e val s) := by
  unfold execEncoderEnable
  with_reducible refine Frame.out_next ?_
  with_reducible refine State.bar0Write_frame _ _ _ ?_ (by decide) ?_ ?_
  exact hw0
  exact Frame.refl ..
  intro u0 hu1
  with_reducible refine Frame.step ?_ (State.encCfgWrite_frame _ _ _ ?_ ?_) (by decide)
  assumption
  exact hw1; exact hw2

end Sys2Proof.Machine
end

