-- ==== Sys2Proof/Laws/FrameIo.lean ====
section
/-! SUPPORT. The frame of each operation and of each command of the power stages, calibration lines, acquisition, axis laws, events and host descriptors: the parts and the registers it may change.
Each hypothesis says that the frame's set of registers holds one register that the operation writes. -/

set_option linter.all false
set_option maxRecDepth 4000

namespace Sys2Proof.Machine

theorem State.putAcq_frame {W : Nat → Prop} (s : State) (a : Acq) : Frame [.acq, .ddr] W s (State.putAcq s a) := by
  unfold State.putAcq
  ((with_reducible refine Frame.upd ?_ ?_); on_goal 2 => (intro p hp; cases p <;> first | exact (hp (by decide)).elim | (dsimp only [Part.same] <;> fail)))
  exact Frame.refl ..

theorem State.ddrWrite_frame {W : Nat → Prop} (s : State) (a : ℕ) (bs : List Byte) : Frame [.acq, .ddr] W s (State.ddrWrite s a bs) := by
  unfold State.ddrWrite
  with_reducible refine Frame.step ?_ (State.putAcq_frame _ _) (by decide)
  exact Frame.refl ..

theorem State.segHeader_frame {W : Nat → Prop} (s : State) (state : ℕ) : Frame [.acq, .ddr] W s (State.segHeader s state) := by
  unfold State.segHeader
  extract_lets x0 x1 x2
  split
  extract_lets x3
  with_reducible refine Frame.step ?_ (State.ddrWrite_frame _ _ _) (by decide)
  exact Frame.refl ..

theorem State.segStart_frame {W : Nat → Prop} (s : State) (k : ℕ) (hw0 : W (R.ACQ_STAT)) : Frame [.acq, .ddr] W s (State.segStart s k) := by
  unfold State.segStart
  extract_lets x0 x1 x2
  have hx0 : Frame [.acq, .ddr] W s x0 := by
    (with_reducible conv => arg 4; whnf)
    with_reducible refine Frame.setF ?_ ?_
    with_reducible refine Frame.setF ?_ ?_
    exact Frame.refl ..
    exact hw0; exact hw0
  with_reducible refine Frame.step ?_ (State.segHeader_frame _ _) (by decide)
  ((with_reducible refine Frame.step ?_ (State.putAcq_keep _ _ ?_) (by decide)); on_goal 2 => first | with_reducible rfl | with_reducible exact ⟨rfl, rfl⟩ | (simp +zetaDelta <;> fail))
  exact hx0

theorem State.showFill_frame {W : Nat → Prop} (s : State) (hw0 : W (R.ACQ_FIFO)) : Frame [] W s (State.showFill s) := by
  unfold State.showFill
  with_reducible refine Frame.setF ?_ ?_
  exact Frame.refl ..
  exact hw0

theorem State.acqArm_frame {W : Nat → Prop} (s : State) (hw0 : W (R.ACQ_STAT)) (hw1 : W (R.ACQ_BSIZE)) (hw2 : W (R.ACQ_BLK)) (hw3 : W (R.ACQ_CTL)) (hw4 : W (R.ACQ_FIFO)) : Frame [.acq, .ddr] W s (State.acqArm s) := by
  unfold State.acqArm
  extract_lets x0 x1 x2 x3 x4 x5 x6
  have hx5 : Frame [.acq, .ddr] W s x5 := by
    (with_reducible conv => arg 4; whnf)
    with_reducible refine Frame.setF ?_ ?_
    with_reducible refine Frame.setF ?_ ?_
    ((with_reducible refine Frame.step ?_ (State.putAcq_keep _ _ ?_) (by decide)); on_goal 2 => first | with_reducible rfl | with_reducible exact ⟨rfl, rfl⟩ | (simp +zetaDelta <;> fail))
    exact Frame.refl ..
    exact hw0; exact hw0
  have hx6 : Frame [.acq, .ddr] W s x6 := by
    (with_reducible conv => arg 4; whnf)
    with_reducible refine Frame.putReg ?_ ?_
    with_reducible refine Frame.setF ?_ ?_
    with_reducible refine Frame.setF ?_ ?_
    exact hx5
    exact hw1; exact hw1; exact hw2
  with_reducible refine Frame.iteOf ?_ ?_
  exact Frame.refl ..
  with_reducible refine Frame.iteOf ?_ ?_
  with_reducible refine Frame.set1 ?_ ?_
  exact Frame.refl ..
  exact hw0
  with_reducible refine Frame.step ?_ (State.segStart_frame _ _ ?_) (by decide)
  with_reducible refine Frame.step ?_ (State.showFill_frame _ ?_) (by decide)
  with_reducible refine Frame.clr ?_ ?_
  exact hx6
  exact hw3; exact hw4; exact hw0

theorem State.fifoDrop_frame {W : Nat → Prop} (s : State) (hw0 : W (R.ACQ_FIFO)) : Frame [.acq] W s (State.fifoDrop s) := by
  unfold State.fifoDrop
  with_reducible refine Frame.step ?_ (State.showFill_frame _ ?_) (by decide)
  ((with_reducible refine Frame.step ?_ (State.putAcq_keep _ _ ?_) (by decide)); on_goal 2 => first | with_reducible rfl | with_reducible exact ⟨rfl, rfl⟩ | (simp +zetaDelta <;> fail))
  exact Frame.refl ..
  exact hw0

theorem State.fifoFlush_frame {W : Nat → Prop} (s : State) (hw0 : W (R.ACQ_FIFO)) : Frame [.acq, .ddr] W s (State.fifoFlush s) := by
  unfold State.fifoFlush
  extract_lets x0 x1 x2 x3
  have hx3 : Frame [.acq, .ddr] W s x3 := by
    (with_reducible conv => arg 4; whnf)
    ((with_reducible refine Frame.step ?_ (State.putAcq_keep _ _ ?_) (by decide)); on_goal 2 => first | with_reducible rfl | with_reducible exact ⟨rfl, rfl⟩ | (simp +zetaDelta <;> fail))
    exact Frame.refl ..
  with_reducible refine Frame.step ?_ (State.showFill_frame _ ?_) (by decide)
  with_reducible refine Frame.eachDo ?_ ?_
  exact hx3
  intro u4 x5 hu6
  with_reducible refine Frame.step ?_ (State.ddrWrite_frame _ _ _) (by decide)
  assumption
  exact hw0

theorem State.acqStop_frame {W : Nat → Prop} (s : State) (code : ℕ) (hw0 : W (R.ACQ_STAT)) (hw1 : W (R.ACQ_FIFO)) (hw2 : W (R.EVT_PEND (81 / 32))) (hw3 : W (R.EVT_LOST_CNT)) (hw4 : W (R.EVT_STAT)) : Frame [.evt, .acq, .ddr] W s (State.acqStop s code) := by
  unfold State.acqStop
  extract_lets x0 x1 x2 x3 x4 x5
  have hx0 : Frame [.evt, .acq, .ddr] W s x0 := by
    (with_reducible conv => arg 4; whnf)
    with_reducible refine Frame.setF ?_ ?_
    with_reducible refine Frame.setF ?_ ?_
    exact Frame.refl ..
    exact hw0; exact hw0
  have hx2 : Frame [.evt, .acq, .ddr] W s x2 := by
    (with_reducible conv => arg 4; whnf)
    ((with_reducible refine Frame.step ?_ (State.putAcq_keep _ _ ?_) (by decide)); on_goal 2 => first | with_reducible rfl | with_reducible exact ⟨rfl, rfl⟩ | (simp +zetaDelta <;> fail))
    exact hx0
  have hx5 : Frame [.evt, .acq, .ddr] W s x5 := by
    (with_reducible conv => arg 4; whnf)
    with_reducible refine Frame.iteOf ?_ ?_
    with_reducible refine Frame.step ?_ (State.fifoDrop_frame _ ?_) (by decide)
    ((with_reducible refine Frame.step ?_ (State.putAcq_keep _ _ ?_) (by decide)); on_goal 2 => first | with_reducible rfl | with_reducible exact ⟨rfl, rfl⟩ | (simp +zetaDelta <;> fail))
    exact hx2
    exact hw1
    with_reducible refine Frame.step ?_ (State.fifoFlush_frame _ ?_) (by decide)
    ((with_reducible refine Frame.step ?_ (State.putAcq_keep _ _ ?_) (by decide)); on_goal 2 => first | with_reducible rfl | with_reducible exact ⟨rfl, rfl⟩ | (simp +zetaDelta <;> fail))
    with_reducible refine Frame.step ?_ (State.segHeader_frame _ _) (by decide)
    exact hx2
    exact hw1
  with_reducible refine Frame.step ?_ (State.raise_frame _ _ _ _ ?_ ?_ ?_) (by decide)
  exact hx5
  exact hw2; exact hw3; exact hw4

theorem State.trigNote_frame {W : Nat → Prop} (s : State) (units : ℕ) (soft : Bool) : Frame [.acq] W s (State.trigNote s units soft) := by
  unfold State.trigNote
  extract_lets x0 x1
  ((with_reducible refine Frame.step ?_ (State.putAcq_keep _ _ ?_) (by decide)); on_goal 2 => first | with_reducible rfl | with_reducible exact ⟨rfl, rfl⟩ | (simp +zetaDelta <;> fail))
  exact Frame.refl ..

theorem State.acqCtl_frame {W : Nat → Prop} (s : State) (v : Word) (hw0 : W (R.ACQ_STAT)) (hw1 : W (R.ACQ_BSIZE)) (hw2 : W (R.ACQ_BLK)) (hw3 : W (R.ACQ_CTL)) (hw4 : W (R.ACQ_FIFO)) (hw5 : W (R.EVT_PEND (81 / 32))) (hw6 : W (R.EVT_LOST_CNT)) (hw7 : W (R.EVT_STAT)) : Frame [.evt, .acq, .ddr] W s (State.acqCtl s v) := by
  unfold State.acqCtl
  extract_lets x0 x1
  have hx0 : Frame [.evt, .acq, .ddr] W s x0 := by
    (with_reducible conv => arg 4; whnf)
    with_reducible refine Frame.whenDo ?_ ?_
    exact Frame.refl ..
    intro u6 hu7
    with_reducible refine Frame.step ?_ (State.acqArm_frame _ ?_ ?_ ?_ ?_ ?_) (by decide)
    assumption
    exact hw0; exact hw1; exact hw2; exact hw3; exact hw4
  have hx1 : Frame [.evt, .acq, .ddr] W s x1 := by
    (with_reducible conv => arg 4; whnf)
    with_reducible refine Frame.whenDo ?_ ?_
    exact hx0
    intro u4 hu5
    with_reducible refine Frame.step ?_ (State.acqStop_frame _ _ ?_ ?_ ?_ ?_ ?_) (by decide)
    assumption
    exact hw0; exact hw4; exact hw5; exact hw6; exact hw7
  with_reducible refine Frame.whenDo ?_ ?_
  exact hx1
  intro u2 hu3
  with_reducible refine Frame.step ?_ (State.trigNote_frame _ _ _) (by decide)
  with_reducible refine Frame.set1 ?_ ?_
  assumption
  exact hw3

theorem State.gridSkip_frame {W : Nat → Prop} (s : State) : Frame [.acq] W s (State.gridSkip s) := by
  unfold State.gridSkip
  ((with_reducible refine Frame.step ?_ (State.putAcq_keep _ _ ?_) (by decide)); on_goal 2 => first | with_reducible rfl | with_reducible exact ⟨rfl, rfl⟩ | (simp +zetaDelta <;> fail))
  exact Frame.refl ..

theorem State.chWrite_frame {W : Nat → Prop} (s : State) (c : ℕ) (v : Word) (hw0 : W (R.ACQ_STAT)) (hw1 : W (R.ACQ_CH_SRC c)) : Frame [] W s (State.chWrite s c v) := by
  unfold State.chWrite
  with_reducible refine Frame.iteOf ?_ ?_
  with_reducible refine Frame.set1 ?_ ?_
  exact Frame.refl ..
  exact hw0
  with_reducible refine Frame.step ?_ (State.plainWrite_frame _ _ _ ?_) (by decide)
  exact Frame.refl ..
  exact hw1

theorem State.ddrTrain_frame {W : Nat → Prop} (s : State) (v : Word) (hw0 : W (R.DDR_CTL)) : Frame [] W s (State.ddrTrain s v) := by
  unfold State.ddrTrain
  with_reducible refine Frame.whenDo ?_ ?_
  exact Frame.refl ..
  intro u0 hu1
  with_reducible refine Frame.set1 ?_ ?_
  assumption
  exact hw0

theorem State.putUnit_frame {W : Nat → Prop} (s : State) (u : ℕ) (x : TrigUnit) : Frame [.acq] W s (State.putUnit s u x) := by
  unfold State.putUnit
  ((with_reducible refine Frame.step ?_ (State.putAcq_keep _ _ ?_) (by decide)); on_goal 2 => first | with_reducible rfl | with_reducible exact ⟨rfl, rfl⟩ | (simp +zetaDelta <;> fail))
  exact Frame.refl ..

theorem State.trgWrite_frame {W : Nat → Prop} (s : State) (u : ℕ) (v : Word) (hw0 : W (R.TRG_CFG u)) (hw1 : W (R.TRG_STAT)) : Frame [.acq] W s (State.trgWrite s u v) := by
  unfold State.trgWrite
  extract_lets x0 x1 x2 x3 x4 x5
  have hx2 : Frame [.acq] W s x2 := by
    (with_reducible conv => arg 4; whnf)
    with_reducible refine Frame.step ?_ (State.plainWrite_frame _ _ _ ?_) (by decide)
    exact Frame.refl ..
    exact hw0
  have hx4 : Frame [.acq] W s x4 := by
    (with_reducible conv => arg 4; whnf)
    with_reducible refine Frame.step ?_ (State.plainWrite_frame _ _ _ ?_) (by decide)
    exact Frame.refl ..
    exact hw0
  with_reducible refine Frame.iteOf ?_ ?_
  with_reducible refine Frame.setF ?_ ?_
  exact hx2
  exact hw1
  with_reducible refine Frame.iteOf ?_ ?_
  with_reducible refine Frame.step ?_ (State.putUnit_frame _ _ _) (by decide)
  exact hx4
  exact hx4

theorem State.putMark_frame {W : Nat → Prop} (s : State) (k : ℕ) (x : MarkUnit) : Frame [.acq] W s (State.putMark s k x) := by
  unfold State.putMark
  ((with_reducible refine Frame.step ?_ (State.putAcq_keep _ _ ?_) (by decide)); on_goal 2 => first | with_reducible rfl | with_reducible exact ⟨rfl, rfl⟩ | (simp +zetaDelta <;> fail))
  exact Frame.refl ..

theorem State.markEval_frame {W : Nat → Prop} (s : State) (k : ℕ) (hw0 : W (R.ACQ_RM_STAT k)) : Frame [.acq] W s (State.markEval s k) := by
  unfold State.markEval
  extract_lets x0 x1
  have hx1 : Frame [.acq] W s x1 := by
    (with_reducible conv => arg 4; whnf)
    with_reducible refine Frame.setB ?_ ?_
    exact Frame.refl ..
    exact hw0
  split
  exact Frame.refl ..
  with_reducible refine Frame.iteOf ?_ ?_
  extract_lets x2
  have hx2 : Frame [.acq] W s x2 := by
    (with_reducible conv => arg 4; whnf)
    with_reducible refine Frame.step ?_ (State.putMark_frame _ _ _) (by decide)
    exact hx1
  with_reducible refine Frame.incSat ?_ ?_
  with_reducible refine Frame.set1 ?_ ?_
  exact hx2
  exact hw0; exact hw0
  extract_lets x3
  have hx3 : Frame [.acq] W s x3 := by
    (with_reducible conv => arg 4; whnf)
    with_reducible refine Frame.step ?_ (State.putMark_frame _ _ _) (by decide)
    exact hx1
  with_reducible refine Frame.incWrap ?_ ?_
  with_reducible refine Frame.clr ?_ ?_
  exact hx3
  exact hw0; exact hw0

theorem State.gateSet_frame {W : Nat → Prop} (s : State) (k : ℕ) (open_ : Bool) (hw0 : W (R.CHN_CAP_CFG k)) (hw1 : W (R.ACQ_RM_STAT k)) : Frame [.cap, .acq] W s (State.gateSet s k open_) := by
  unfold State.gateSet
  extract_lets x0 x1 x2 x3 x4 x5
  have hx1 : Frame [.cap, .acq] W s x1 := by
    (with_reducible conv => arg 4; whnf)
    with_reducible refine Frame.setB ?_ ?_
    exact Frame.refl ..
    exact hw0
  have hx2 : Frame [.cap, .acq] W s x2 := by
    (with_reducible conv => arg 4; whnf)
    with_reducible refine Frame.whenDo ?_ ?_
    exact hx1
    intro u8 hu9
    with_reducible refine Frame.step ?_ (State.markEval_frame _ _ ?_) (by decide)
    assumption
    exact hw1
  have hx5 : Frame [.cap, .acq] W s x5 := by
    (with_reducible conv => arg 4; whnf)
    ((with_reducible refine Frame.upd ?_ ?_); on_goal 2 => (intro p hp; cases p <;> first | exact (hp (by decide)).elim | (dsimp only [Part.same] <;> fail)))
    exact hx2
  with_reducible refine Frame.iteOf ?_ ?_
  split
  with_reducible refine Frame.iteOf ?_ ?_
  with_reducible refine Frame.step ?_ (State.putMark_frame _ _ _) (by decide)
  exact hx2
  with_reducible refine Frame.step ?_ (State.putMark_frame _ _ _) (by decide)
  exact hx2
  with_reducible refine Frame.step ?_ (State.putMark_frame _ _ _) (by decide)
  exact hx2
  with_reducible refine Frame.iteOf ?_ ?_
  with_reducible refine Frame.whenDo ?_ ?_
  exact hx5
  intro u6 hu7
  with_reducible refine Frame.step ?_ (State.putMark_frame _ _ _) (by decide)
  assumption
  exact hx2

theorem acqRegWrite_frame {W : Nat → Prop} (s : State) (a : ℕ) (v : Word) (hw0 : W (R.ACQ_STAT)) (hw1 : W (R.ACQ_BSIZE)) (hw2 : W (R.ACQ_BLK)) (hw3 : W (R.ACQ_CTL)) (hw4 : W (R.ACQ_FIFO)) (hw5 : W (R.EVT_PEND (81 / 32))) (hw6 : W (R.EVT_LOST_CNT)) (hw7 : W (R.EVT_STAT)) (hw8 : W (a)) (hw9 : W (R.ACQ_CH_SRC ((a - R.ACQ_CH_SRC 0) / 4))) (hw10 : W (R.DDR_CTL)) (hw11 : W (R.DDR_UE_ADDR)) (hw12 : ∀ i0, W (R.TRG_CFG i0)) (hw13 : W (R.TRG_STAT)) (hw14 : ∀ i0, W (R.CHN_CAP_CFG i0)) (hw15 : ∀ i0, W (R.ACQ_RM_STAT i0)) (hw16 : W (R.CHN_CAP_FILL)) (hw17 : W (R.CHN_STAT)) (hw18 : W (R.EVT_PEND (21 / 32))) : Frame.opt [.evt, .cap, .acq, .ddr] W s (acqRegWrite s a v) := by
  unfold acqRegWrite
  split
  with_reducible refine Frame.opt_some ?_
  with_reducible refine Frame.step ?_ (State.acqCtl_frame _ _ ?_ ?_ ?_ ?_ ?_ ?_ ?_ ?_) (by decide)
  exact Frame.refl ..
  exact hw0; exact hw1; exact hw2; exact hw3; exact hw4; exact hw5; exact hw6; exact hw7
  split
  extract_lets x0 x1 x2
  have hx1 : Frame [.evt, .cap, .acq, .ddr] W s x1 := by
    (with_reducible conv => arg 4; whnf)
    with_reducible refine Frame.step ?_ (State.plainWrite_frame _ _ _ ?_) (by decide)
    exact Frame.refl ..
    exact hw8
  have hx2 : Frame [.evt, .cap, .acq, .ddr] W s x2 := by
    (with_reducible conv => arg 4; whnf)
    with_reducible refine Frame.whenDo ?_ ?_
    exact hx1
    intro u5 hu6
    with_reducible refine Frame.step ?_ (State.gridSkip_frame _) (by decide)
    assumption
  with_reducible refine Frame.opt_some ?_
  with_reducible refine Frame.whenDo ?_ ?_
  exact hx2
  intro u3 hu4
  with_reducible refine Frame.step ?_ (State.acqStop_frame _ _ ?_ ?_ ?_ ?_ ?_) (by decide)
  assumption
  exact hw0; exact hw4; exact hw5; exact hw6; exact hw7
  split
  with_reducible refine Frame.opt_some ?_
  with_reducible refine Frame.step ?_ (State.chWrite_frame _ _ _ ?_ ?_) (by decide)
  exact Frame.refl ..
  exact hw0; exact hw9
  split
  with_reducible refine Frame.opt_some ?_
  with_reducible refine Frame.step ?_ (State.ddrTrain_frame _ _ ?_) (by decide)
  exact Frame.refl ..
  exact hw10
  split
  extract_lets x7
  have hx7 : Frame [.evt, .cap, .acq, .ddr] W s x7 := by
    (with_reducible conv => arg 4; whnf)
    with_reducible refine Frame.step ?_ (State.plainWrite_frame _ _ _ ?_) (by decide)
    exact Frame.refl ..
    exact hw8
  with_reducible refine Frame.opt_some ?_
  with_reducible refine Frame.iteOf ?_ ?_
  exact hx7
  with_reducible refine Frame.clr ?_ ?_
  exact hx7
  exact hw11
  split
  with_reducible refine Frame.opt_some ?_
  with_reducible refine Frame.step ?_ (State.trgWrite_frame _ _ _ ?_ ?_) (by decide)
  exact Frame.refl ..
  exact hw12 _; exact hw13
  split
  extract_lets x8
  have hx8 : Frame [.evt, .cap, .acq, .ddr] W s x8 := by
    (with_reducible conv => arg 4; whnf)
    with_reducible refine Frame.step ?_ (State.gateSet_frame _ _ _ ?_ ?_) (by decide)
    exact Frame.refl ..
    exact hw14 _; exact hw15 _
  with_reducible refine Frame.opt_some ?_
  with_reducible refine Frame.step ?_ (State.capOpened_frame _ _ ?_ ?_ ?_ ?_ ?_) (by decide)
  with_reducible refine Frame.step ?_ (State.plainWrite_frame _ _ _ ?_) (by decide)
  exact hx8
  exact hw8; exact hw16; exact hw17; exact hw18; exact hw6; exact hw7
  with_reducible exact Frame.opt_none

theorem State.putFlt_frame {W : Nat → Prop} (s : State) (i : ℕ) (x : FaultInput) : Frame [.pwr] W s (State.putFlt s i x) := by
  unfold State.putFlt
  ((with_reducible refine Frame.upd ?_ ?_); on_goal 2 => (intro p hp; cases p <;> first | exact (hp (by decide)).elim | (dsimp only [Part.same] <;> fail)))
  exact Frame.refl ..

theorem State.fltClear_frame {W : Nat → Prop} (s : State) (i : ℕ) (hw0 : W (R.PWM_FLT_STAT)) : Frame [.pwr] W s (State.fltClear s i) := by
  unfold State.fltClear
  with_reducible refine Frame.iteOf ?_ ?_
  exact Frame.refl ..
  with_reducible refine Frame.iteOf ?_ ?_
  extract_lets x0 x1
  have hx0 : Frame [.pwr] W s x0 := by
    (with_reducible conv => arg 4; whnf)
    with_reducible refine Frame.setF ?_ ?_
    exact Frame.refl ..
    exact hw0
  with_reducible refine Frame.step ?_ (State.putFlt_frame _ _ _) (by decide)
  exact hx0
  with_reducible refine Frame.setF ?_ ?_
  exact Frame.refl ..
  exact hw0

theorem State.fltClrWrite_frame {W : Nat → Prop} (s : State) (v : Word) (hw0 : W (R.PWM_FLT_STAT)) : Frame [.pwr] W s (State.fltClrWrite s v) := by
  unfold State.fltClrWrite
  with_reducible refine Frame.eachDo ?_ ?_
  exact Frame.refl ..
  intro u0 x1 hu2
  with_reducible refine Frame.iteOf ?_ ?_
  with_reducible refine Frame.step ?_ (State.fltClear_frame _ _ ?_) (by decide)
  assumption
  exact hw0
  assumption

theorem State.putPwm_frame {W : Nat → Prop} (s : State) (m : ℕ) (x : PwmModule) : Frame [.pwr] W s (State.putPwm s m x) := by
  unfold State.putPwm
  ((with_reducible refine Frame.upd ?_ ?_); on_goal 2 => (intro p hp; cases p <;> first | exact (hp (by decide)).elim | (dsimp only [Part.same] <;> fail)))
  exact Frame.refl ..

theorem State.relevel_frame {W : Nat → Prop} (s : State) (m : ℕ) : Frame [.pwr] W s (State.relevel s m) := by
  unfold State.relevel
  with_reducible refine Frame.step ?_ (State.putPwm_frame _ _ _) (by decide)
  exact Frame.refl ..

theorem State.forceEnter_frame {W : Nat → Prop} (s : State) (m : ℕ) (offAt : ℕ) (onAt : ℕ) : Frame [.pwr] W s (State.forceEnter s m offAt onAt) := by
  unfold State.forceEnter
  extract_lets x0 x1 x2
  have hx1 : Frame [.pwr] W s x1 := by
    (with_reducible conv => arg 4; whnf)
    with_reducible refine Frame.step ?_ (State.relevel_frame _ _) (by decide)
    exact Frame.refl ..
  with_reducible refine Frame.step ?_ (State.putPwm_frame _ _ _) (by decide)
  exact hx1

theorem State.forceChange_frame {W : Nat → Prop} {ps : List Part} {s0 : State} (s : State) (offIn : ℕ) (onIn : ℕ) (g : State → State) (hsub : ∀ p ∈ ([.pwr] : List Part), p ∈ ps) (h0 : Frame ps W s0 s) (hg : ∀ u, Frame ps W s0 u → Frame ps W s0 (g u)) : Frame ps W s0 (State.forceChange s offIn onIn g) := by
  unfold State.forceChange
  extract_lets x0 x1
  have hx1 : Frame ps W s0 x1 := by
    (with_reducible conv => arg 4; whnf)
    with_reducible refine Frame.eachDo ?_ ?_
    assumption
    intro u2 x3 hu4
    with_reducible refine Frame.step ?_ (State.forceEnter_frame _ _ _ _) (fun p hp => hsub p (by revert p hp; decide))
    assumption
  refine hg _ ?_
  exact hx1

theorem State.fltLatch_frame {W : Nat → Prop} (s : State) (i : ℕ) (hw0 : W (R.PWM_FLT_STAT)) (hw1 : W (R.PWM_FLT_FIRST)) (hw2 : W (R.PWM_FLT_CNT)) (hw3 : W (R.EVT_PEND (56 / 32))) (hw4 : W (R.EVT_LOST_CNT)) (hw5 : W (R.EVT_STAT)) : Frame [.free, .evt, .pwr] W s (State.fltLatch s i) := by
  unfold State.fltLatch
  with_reducible refine Frame.iteOf ?_ ?_
  exact Frame.refl ..
  extract_lets x0 x1 x2 x3
  have hx1 : Frame [.free, .evt, .pwr] W s x1 := by
    (with_reducible conv => arg 4; whnf)
    with_reducible refine Frame.step ?_ (State.drewFree_frame _) (by decide)
    exact Frame.refl ..
  have hx2 : Frame [.free, .evt, .pwr] W s x2 := by
    (with_reducible conv => arg 4; whnf)
    with_reducible refine State.forceChange_frame _ _ _ _ (by decide) ?_ ?_
    exact hx1
    intro u6 hu7
    with_reducible refine Frame.setF ?_ ?_
    assumption
    exact hw0
  have hx3 : Frame [.free, .evt, .pwr] W s x3 := by
    (with_reducible conv => arg 4; whnf)
    with_reducible refine Frame.whenDo ?_ ?_
    exact hx2
    intro u4 hu5
    with_reducible refine Frame.set1 ?_ ?_
    with_reducible refine Frame.setF ?_ ?_
    assumption
    exact hw1; exact hw1
  with_reducible refine Frame.iteOf ?_ ?_
  exact hx2
  with_reducible refine Frame.step ?_ (State.raise_frame _ _ _ _ ?_ ?_ ?_) (by decide)
  with_reducible refine Frame.incSat ?_ ?_
  exact hx3
  exact hw2; exact hw3; exact hw4; exact hw5

theorem State.markErode_frame {W : Nat → Prop} (s : State) (m : ℕ) (hw0 : W (R.PWM_STAT m)) : Frame [] W s (State.markErode s m) := by
  unfold State.markErode
  with_reducible refine Frame.whenDo ?_ ?_
  exact Frame.refl ..
  intro u0 hu1
  with_reducible refine Frame.set1 ?_ ?_
  assumption
  exact hw0

theorem State.pwmStart_frame {W : Nat → Prop} (s : State) (m : ℕ) (hw0 : W (R.PWM_STAT m)) : Frame [.pwr] W s (State.pwmStart s m) := by
  unfold State.pwmStart
  extract_lets x0 x1 x2 x3 x4 x5 x6
  have hx4 : Frame [.pwr] W s x4 := by
    (with_reducible conv => arg 4; whnf)
    with_reducible refine Frame.setF ?_ ?_
    exact Frame.refl ..
    exact hw0
  have hx6 : Frame [.pwr] W s x6 := by
    (with_reducible conv => arg 4; whnf)
    with_reducible refine Frame.step ?_ (State.putPwm_frame _ _ _) (by decide)
    exact hx4
  with_reducible refine Frame.step ?_ (State.markErode_frame _ _ ?_) (by decide)
  exact hx6
  exact hw0

theorem State.pwmCfgWrite_frame {W : Nat → Prop} (s : State) (m : ℕ) (v : Word) (hw0 : W (R.PWM_CFG m)) (hw1 : W (R.PWM_STAT m)) : Frame [.pwr] W s (State.pwmCfgWrite s m v) := by
  unfold State.pwmCfgWrite
  extract_lets x0 x1 x2 x3
  have hx2 : Frame [.pwr] W s x2 := by
    (with_reducible conv => arg 4; whnf)
    with_reducible refine Frame.step ?_ (State.plainWrite_frame _ _ _ ?_) (by decide)
    exact Frame.refl ..
    exact hw0
  with_reducible refine Frame.iteOf ?_ ?_
  with_reducible refine Frame.iteOf ?_ ?_
  with_reducible refine Frame.whenDo ?_ ?_
  exact hx2
  intro u4 hu5
  with_reducible refine Frame.step ?_ (State.putPwm_frame _ _ _) (by decide)
  assumption
  with_reducible refine Frame.iteOf ?_ ?_
  with_reducible refine Frame.step ?_ (State.pwmStart_frame _ _ ?_) (by decide)
  exact hx2
  exact hw1
  with_reducible refine Frame.set1 ?_ ?_
  with_reducible refine Frame.clr ?_ ?_
  exact hx2
  exact hw0; exact hw1
  with_reducible refine Frame.step ?_ (State.putPwm_frame _ _ _) (by decide)
  exact hx2

theorem State.shadowPut_frame {W : Nat → Prop} (s : State) (m : ℕ) (i : ℕ) (v : ℕ) (hw0 : W (R.PWM_STAT m)) (hw1 : W (R.PWM_PER m)) (hw2 : W (R.PWM_CMP m i)) : Frame [.pwr] W s (State.shadowPut s m i v) := by
  unfold State.shadowPut
  extract_lets x0 x1 x2
  have hx2 : Frame [.pwr] W s x2 := by
    (with_reducible conv => arg 4; whnf)
    with_reducible refine Frame.whenDo ?_ ?_
    exact Frame.refl ..
    intro u3 hu4
    extract_lets x5 x6
    with_reducible refine Frame.whenDo ?_ ?_
    with_reducible refine Frame.step ?_ (State.putPwm_frame _ _ _) (by decide)
    assumption
    intro u7 hu8
    with_reducible refine Frame.set1 ?_ ?_
    assumption
    exact hw0
  with_reducible refine Frame.iteOf ?_ ?_
  with_reducible refine Frame.setF ?_ ?_
  exact hx2
  exact hw1
  with_reducible refine Frame.putReg ?_ ?_
  exact hx2
  exact hw2

theorem pwmRegWrite_frame {W : Nat → Prop} (s : State) (a : ℕ) (v : Word) (hw0 : W (R.PWM_FLT_STAT)) (hw1 : W (a)) (hw2 : W (R.PWM_FLT_FIRST)) (hw3 : W (R.PWM_FLT_CNT)) (hw4 : W (R.EVT_PEND (56 / 32))) (hw5 : W (R.EVT_LOST_CNT)) (hw6 : W (R.EVT_STAT)) (hw7 : W (R.PWM_CFG ((a - 1048576) / 64))) (hw8 : W (R.PWM_STAT ((a - 1048576) / 64))) (hw9 : W (R.PWM_PER ((a - 1048576) / 64))) (hw10 : ∀ i0, W (R.PWM_CMP ((a - 1048576) / 64) i0)) : Frame.opt [.free, .evt, .pwr] W s (pwmRegWrite s a v) := by
  unfold pwmRegWrite
  split
  with_reducible refine Frame.opt_some ?_
  with_reducible refine Frame.step ?_ (State.fltClrWrite_frame _ _ ?_) (by decide)
  exact Frame.refl ..
  exact hw0
  split
  extract_lets x0 x1 x2 x3 x4
  have hx3 : Frame [.free, .evt, .pwr] W s x3 := by
    (with_reducible conv => arg 4; whnf)
    with_reducible refine State.forceChange_frame _ _ _ _ (by decide) ?_ ?_
    with_reducible refine Frame.step ?_ (State.drewFree_frame _) (by decide)
    exact Frame.refl ..
    intro u5 hu6
    with_reducible refine Frame.step ?_ (State.plainWrite_frame _ _ _ ?_) (by decide)
    assumption
    exact hw1
  with_reducible refine Frame.opt_some ?_
  with_reducible refine Frame.iteOf ?_ ?_
  with_reducible refine Frame.step ?_ (State.fltLatch_frame _ _ ?_ ?_ ?_ ?_ ?_ ?_) (by decide)
  exact hx3
  exact hw0; exact hw2; exact hw3; exact hw4; exact hw5; exact hw6
  with_reducible refine Frame.iteOf ?_ ?_
  with_reducible refine Frame.step ?_ (State.putFlt_frame _ _ _) (by decide)
  exact hx3
  exact hx3
  split
  extract_lets x7
  split
  with_reducible refine Frame.opt_some ?_
  with_reducible refine Frame.step ?_ (State.pwmCfgWrite_frame _ _ _ ?_ ?_) (by decide)
  exact Frame.refl ..
  exact hw7; exact hw8
  split
  with_reducible refine Frame.opt_some ?_
  with_reducible refine Frame.step ?_ (State.shadowPut_frame _ _ _ _ ?_ ?_ ?_) (by decide)
  exact Frame.refl ..
  exact hw8; exact hw9; exact hw10 _
  split
  with_reducible refine Frame.opt_some ?_
  with_reducible refine Frame.iteOf ?_ ?_
  with_reducible refine Frame.set1 ?_ ?_
  exact Frame.refl ..
  exact hw8
  with_reducible refine Frame.step ?_ (State.plainWrite_frame _ _ _ ?_) (by decide)
  exact Frame.refl ..
  exact hw1
  split
  with_reducible refine Frame.opt_some ?_
  with_reducible refine Frame.iteOf ?_ ?_
  with_reducible refine Frame.set1 ?_ ?_
  exact Frame.refl ..
  exact hw8
  with_reducible refine Frame.step ?_ (State.shadowPut_frame _ _ _ _ ?_ ?_ ?_) (by decide)
  exact Frame.refl ..
  exact hw8; exact hw9; exact hw10 _
  with_reducible exact Frame.opt_none
  with_reducible exact Frame.opt_none

theorem State.putLane_frame {W : Nat → Prop} (s : State) (l : ℕ) (x : Lane) : Frame [.pwr] W s (State.putLane s l x) := by
  unfold State.putLane
  ((with_reducible refine Frame.upd ?_ ?_); on_goal 2 => (intro p hp; cases p <;> first | exact (hp (by decide)).elim | (dsimp only [Part.same] <;> fail)))
  exact Frame.refl ..

theorem State.laneFollow_frame {W : Nat → Prop} (s : State) (l : ℕ) (hw0 : W (R.CLN_STAT l)) : Frame [.pwr] W s (State.laneFollow s l) := by
  unfold State.laneFollow
  extract_lets x0
  with_reducible refine Frame.iteOf ?_ ?_
  with_reducible refine Frame.set1 ?_ ?_
  with_reducible refine Frame.iteOf ?_ ?_
  exact Frame.refl ..
  with_reducible refine Frame.step ?_ (State.putLane_frame _ _ _) (by decide)
  exact Frame.refl ..
  exact hw0
  with_reducible refine Frame.iteOf ?_ ?_
  with_reducible refine Frame.clr ?_ ?_
  with_reducible refine Frame.step ?_ (State.putLane_frame _ _ _) (by decide)
  exact Frame.refl ..
  exact hw0
  exact Frame.refl ..

theorem State.laneMark_frame {W : Nat → Prop} (s : State) (l : ℕ) (x : Fld) (hw0 : W ((Fld.addr x))) (hw1 : W (R.EVT_PEND (57 / 32))) (hw2 : W (R.EVT_LOST_CNT)) (hw3 : W (R.EVT_STAT)) : Frame [.evt] W s (State.laneMark s l x) := by
  unfold State.laneMark
  with_reducible refine Frame.iteOf ?_ ?_
  exact Frame.refl ..
  extract_lets x0
  have hx0 : Frame [.evt] W s x0 := by
    (with_reducible conv => arg 4; whnf)
    with_reducible refine Frame.set1 ?_ ?_
    exact Frame.refl ..
    exact hw0
  with_reducible refine Frame.step ?_ (State.raise_frame _ _ _ _ ?_ ?_ ?_) (by decide)
  exact hx0
  exact hw1; exact hw2; exact hw3

theorem State.laneSources_frame {W : Nat → Prop} (s : State) (l : ℕ) (hw0 : W (R.CLN_STAT l)) (hw1 : W (R.EVT_PEND (57 / 32))) (hw2 : W (R.EVT_LOST_CNT)) (hw3 : W (R.EVT_STAT)) : Frame [.evt] W s (State.laneSources s l) := by
  unfold State.laneSources
  with_reducible refine Frame.iteOf ?_ ?_
  with_reducible refine Frame.step ?_ (State.laneMark_frame _ _ _ ?_ ?_ ?_ ?_) (by decide)
  exact Frame.refl ..
  exact hw0; exact hw1; exact hw2; exact hw3
  with_reducible refine Frame.clr ?_ ?_
  exact Frame.refl ..
  exact hw0

theorem State.laneCfgWrite_frame {W : Nat → Prop} (s : State) (l : ℕ) (v : Word) (hw0 : W (R.CLN_CFG l)) (hw1 : W (R.CLN_STAT l)) (hw2 : W (R.EVT_PEND (57 / 32))) (hw3 : W (R.EVT_LOST_CNT)) (hw4 : W (R.EVT_STAT)) : Frame [.evt, .pwr] W s (State.laneCfgWrite s l v) := by
  unfold State.laneCfgWrite
  extract_lets x0 x1 x2 x3 x4 x5 x6
  have hx1 : Frame [.evt, .pwr] W s x1 := by
    (with_reducible conv => arg 4; whnf)
    with_reducible refine Frame.step ?_ (State.plainWrite_frame _ _ _ ?_) (by decide)
    exact Frame.refl ..
    exact hw0
  have hx2 : Frame [.evt, .pwr] W s x2 := by
    (with_reducible conv => arg 4; whnf)
    with_reducible refine Frame.clr ?_ ?_
    exact hx1
    exact hw0
  have hx4 : Frame [.evt, .pwr] W s x4 := by
    (with_reducible conv => arg 4; whnf)
    with_reducible refine Frame.step ?_ (State.putLane_frame _ _ _) (by decide)
    exact hx1
  have hx6 : Frame [.evt, .pwr] W s x6 := by
    (with_reducible conv => arg 4; whnf)
    with_reducible refine Frame.step ?_ (State.putLane_frame _ _ _) (by decide)
    exact hx1
  with_reducible refine Frame.iteOf ?_ ?_
  with_reducible refine Frame.iteOf ?_ ?_
  exact hx1
  with_reducible refine Frame.iteOf ?_ ?_
  with_reducible refine Frame.step ?_ (State.laneFollow_frame _ _ ?_) (by decide)
  with_reducible refine Frame.step ?_ (State.laneSources_frame _ _ ?_ ?_ ?_ ?_) (by decide)
  with_reducible refine Frame.setB ?_ ?_
  exact hx4
  exact hw1; exact hw1; exact hw2; exact hw3; exact hw4; exact hw1
  with_reducible refine Frame.set1 ?_ ?_
  exact hx2
  exact hw1
  with_reducible refine Frame.clr ?_ ?_
  with_reducible refine Frame.clr ?_ ?_
  with_reducible refine Frame.clr ?_ ?_
  exact hx6
  exact hw1; exact hw1; exact hw1

theorem clnRegWrite_frame {W : Nat → Prop} (s : State) (a : ℕ) (v : Word) (hw0 : W (R.CLN_CFG ((a - 1114112) / 256))) (hw1 : W (R.CLN_STAT ((a - 1114112) / 256))) (hw2 : W (R.EVT_PEND (57 / 32))) (hw3 : W (R.EVT_LOST_CNT)) (hw4 : W (R.EVT_STAT)) (hw5 : W (a)) : Frame.opt [.evt, .pwr] W s (clnRegWrite s a v) := by
  unfold clnRegWrite
  split
  extract_lets x0
  split
  with_reducible refine Frame.opt_some ?_
  with_reducible refine Frame.step ?_ (State.laneCfgWrite_frame _ _ _ ?_ ?_ ?_ ?_ ?_) (by decide)
  exact Frame.refl ..
  exact hw0; exact hw1; exact hw2; exact hw3; exact hw4
  split
  with_reducible refine Frame.opt_some ?_
  with_reducible refine Frame.step ?_ (State.laneFollow_frame _ _ ?_) (by decide)
  with_reducible refine Frame.step ?_ (State.plainWrite_frame _ _ _ ?_) (by decide)
  exact Frame.refl ..
  exact hw5; exact hw1
  with_reducible exact Frame.opt_none
  with_reducible exact Frame.opt_none

theorem State.putSdm_frame {W : Nat → Prop} (s : State) (c : ℕ) (x : SdmFilter) : Frame [.pwr] W s (State.putSdm s c x) := by
  unfold State.putSdm
  ((with_reducible refine Frame.upd ?_ ?_); on_goal 2 => (intro p hp; cases p <;> first | exact (hp (by decide)).elim | (dsimp only [Part.same] <;> fail)))
  exact Frame.refl ..

theorem State.sdmStart_frame {W : Nat → Prop} (s : State) (c : ℕ) : Frame [.pwr] W s (State.sdmStart s c) := by
  unfold State.sdmStart
  with_reducible refine Frame.step ?_ (State.putSdm_frame _ _ _) (by decide)
  exact Frame.refl ..

theorem State.sdmClkWrite_frame {W : Nat → Prop} (s : State) (g : ℕ) (v : Word) (hw0 : W (R.SDM_CLK g)) : Frame [.pwr] W s (State.sdmClkWrite s g v) := by
  unfold State.sdmClkWrite
  extract_lets x0 x1 x2 x3 x4
  have hx1 : Frame [.pwr] W s x1 := by
    (with_reducible conv => arg 4; whnf)
    with_reducible refine Frame.step ?_ (State.plainWrite_frame _ _ _ ?_) (by decide)
    exact Frame.refl ..
    exact hw0
  have hx2 : Frame [.pwr] W s x2 := by
    (with_reducible conv => arg 4; whnf)
    with_reducible refine Frame.setF ?_ ?_
    exact hx1
    exact hw0
  have hx4 : Frame [.pwr] W s x4 := by
    (with_reducible conv => arg 4; whnf)
    ((with_reducible refine Frame.upd ?_ ?_); on_goal 2 => (intro p hp; cases p <;> first | exact (hp (by decide)).elim | (dsimp only [Part.same] <;> fail)))
    exact hx2
  with_reducible refine Frame.iteOf ?_ ?_
  exact hx2
  with_reducible refine Frame.eachDo ?_ ?_
  exact hx4
  intro u5 x6 hu7
  with_reducible refine Frame.step ?_ (State.sdmStart_frame _ _) (by decide)
  assumption

theorem State.sdmCfgWrite_frame {W : Nat → Prop} (s : State) (c : ℕ) (v : Word) (hw0 : W (R.SDM_CFG c)) : Frame [.pwr] W s (State.sdmCfgWrite s c v) := by
  unfold State.sdmCfgWrite
  extract_lets x0 x1
  have hx1 : Frame [.pwr] W s x1 := by
    (with_reducible conv => arg 4; whnf)
    with_reducible refine Frame.step ?_ (State.plainWrite_frame _ _ _ ?_) (by decide)
    exact Frame.refl ..
    exact hw0
  with_reducible refine Frame.whenDo ?_ ?_
  exact hx1
  intro u2 hu3
  with_reducible refine Frame.step ?_ (State.sdmStart_frame _ _) (by decide)
  assumption

theorem sdmRegWrite_frame {W : Nat → Prop} (s : State) (a : ℕ) (v : Word) (hw0 : W (R.SDM_CLK ((a - 1310720) / 4))) (hw1 : W (R.SDM_CFG ((a - 1310976) / 16))) : Frame.opt [.pwr] W s (sdmRegWrite s a v) := by
  unfold sdmRegWrite
  split
  with_reducible refine Frame.opt_some ?_
  with_reducible refine Frame.step ?_ (State.sdmClkWrite_frame _ _ _ ?_) (by decide)
  exact Frame.refl ..
  exact hw0
  split
  with_reducible refine Frame.opt_some ?_
  with_reducible refine Frame.step ?_ (State.sdmCfgWrite_frame _ _ _ ?_) (by decide)
  exact Frame.refl ..
  exact hw1
  with_reducible exact Frame.opt_none

theorem State.addWait_frame {W : Nat → Prop} (s : State) (t : Option PktTag) (k : WaitKind) : Frame [.hif] W s (State.addWait s t k) := by
  unfold State.addWait
  ((with_reducible refine Frame.upd ?_ ?_); on_goal 2 => (intro p hp; cases p <;> first | exact (hp (by decide)).elim | (dsimp only [Part.same] <;> fail)))
  exact Frame.refl ..

theorem State.finishAt_frame {W : Nat → Prop} (s : State) (t : PktTag) (after : ℕ) (status : ℕ) (detail : ℕ) (ns : Word) (res : List Word) : Frame [.hif] W s (State.finishAt s t after status detail ns res) := by
  unfold State.finishAt
  ((with_reducible refine Frame.upd ?_ ?_); on_goal 2 => (intro p hp; cases p <;> first | exact (hp (by decide)).elim | (dsimp only [Part.same] <;> fail)))
  exact Frame.refl ..

theorem State.finish_frame {W : Nat → Prop} (s : State) (t : PktTag) (after : ℕ) (status : ℕ) (detail : ℕ) (res : List Word) : Frame [.hif] W s (State.finish s t after status detail res) := by
  unfold State.finish
  with_reducible refine Frame.step ?_ (State.finishAt_frame _ _ _ _ _ _ _) (by decide)
  exact Frame.refl ..

theorem State.finishOpt_frame {W : Nat → Prop} (s : State) (t : Option PktTag) (after : ℕ) (status : ℕ) (detail : ℕ) (res : List Word) : Frame [.hif] W s (State.finishOpt s t after status detail res) := by
  unfold State.finishOpt
  split
  exact Frame.refl ..
  with_reducible refine Frame.step ?_ (State.finish_frame _ _ _ _ _ _) (by decide)
  exact Frame.refl ..

theorem State.endWaits_frame {W : Nat → Prop} (s : State) (p : WaitKind → Bool) (after : ℕ) (status : ℕ) (detail : ℕ) (res : List Word) : Frame [.hif] W s (State.endWaits s p after status detail res) := by
  unfold State.endWaits
  extract_lets x0 x1 x2
  have hx2 : Frame [.hif] W s x2 := by
    (with_reducible conv => arg 4; whnf)
    ((with_reducible refine Frame.upd ?_ ?_); on_goal 2 => (intro p hp; cases p <;> first | exact (hp (by decide)).elim | (dsimp only [Part.same] <;> fail)))
    exact Frame.refl ..
  with_reducible refine Frame.eachDo ?_ ?_
  exact hx2
  intro u3 x4 hu5
  with_reducible refine Frame.step ?_ (State.finishOpt_frame _ _ _ _ _ _) (by decide)
  assumption

theorem State.evtHead_frame {W : Nat → Prop} (s : State) (v : Word) (hw0 : W (R.EVT_HEAD)) : Frame [] W s (State.evtHead s v) := by
  unfold State.evtHead
  extract_lets x0 x1
  with_reducible refine Frame.iteOf ?_ ?_
  with_reducible refine Frame.setF ?_ ?_
  exact Frame.refl ..
  exact hw0
  exact Frame.refl ..

theorem evtRegWrite_frame {W : Nat → Prop} (s : State) (a : ℕ) (v : Word) (hw0 : W (R.EVT_HEAD)) : Frame.opt [] W s (evtRegWrite s a v) := by
  unfold evtRegWrite
  split
  with_reducible refine Frame.opt_some ?_
  with_reducible refine Frame.step ?_ (State.evtHead_frame _ _ ?_) (by decide)
  exact Frame.refl ..
  exact hw0
  with_reducible exact Frame.opt_none

theorem State.powerSync_frame {W : Nat → Prop} (s : State) (hw0 : ∀ i0, W (R.ENC_STAT i0)) (hw1 : ∀ i0, W (R.ENC_ERRCNT i0)) (hw2 : W (R.EVT_PEND (58 / 32))) (hw3 : W (R.EVT_LOST_CNT)) (hw4 : W (R.EVT_STAT)) : Frame [.evt, .pwr] W s (State.powerSync s) := by
  unfold State.powerSync
  extract_lets x0
  have hx0 : Frame [.evt, .pwr] W s x0 := by
    (with_reducible conv => arg 4; whnf)
    with_reducible refine Frame.eachDo ?_ ?_
    exact Frame.refl ..
    intro u7 x8 hu9
    with_reducible refine Frame.step ?_ (State.encSync_frame _ _ ?_ ?_ ?_ ?_ ?_) (by decide)
    assumption
    exact hw0 _; exact hw1 _; exact hw2; exact hw3; exact hw4
  with_reducible refine Frame.eachDo ?_ ?_
  exact hx0
  intro u1 x2 hu3
  extract_lets x4 x5 x6
  with_reducible refine Frame.step ?_ (State.putLane_frame _ _ _) (by decide)
  assumption

theorem State.acqSync_frame {W : Nat → Prop} (s : State) (hw0 : W (R.ACQ_STAT)) : Frame [.acq] W s (State.acqSync s) := by
  unfold State.acqSync
  extract_lets x0 x1 x2 x3
  split
  ((with_reducible refine Frame.step ?_ (State.putAcq_keep _ _ ?_) (by decide)); on_goal 2 => first | with_reducible rfl | with_reducible exact ⟨rfl, rfl⟩ | (simp +zetaDelta <;> fail))
  with_reducible refine Frame.set1 ?_ ?_
  exact Frame.refl ..
  exact hw0
  extract_lets x4
  ((with_reducible refine Frame.step ?_ (State.putAcq_keep _ _ ?_) (by decide)); on_goal 2 => first | with_reducible rfl | with_reducible exact ⟨rfl, rfl⟩ | (simp +zetaDelta <;> fail))
  with_reducible refine Frame.clr ?_ ?_
  exact Frame.refl ..
  exact hw0

theorem State.cqSync_frame {W : Nat → Prop} (s : State) (hw0 : W (R.HIF_CQ_STAT)) : Frame [] W s (State.cqSync s) := by
  unfold State.cqSync
  with_reducible refine Frame.setF ?_ ?_
  exact Frame.refl ..
  exact hw0

theorem State.cqReserve_frame {W : Nat → Prop} (s : State) (hw0 : W (R.HIF_CQ_STAT)) : Frame [] W s (State.cqReserve s) := by
  unfold State.cqReserve
  with_reducible refine Frame.step ?_ (State.cqSync_frame _ ?_) (by decide)
  with_reducible refine Frame.setF ?_ ?_
  exact Frame.refl ..
  exact hw0; exact hw0

theorem State.chnFeed_frame {W : Nat → Prop} (s : State) (a : ℕ) (count : Word) : Frame [.chn] W s (State.chnFeed s a count) := by
  unfold State.chnFeed
  with_reducible refine Frame.iteOf ?_ ?_
  with_reducible refine Frame.step ?_ (State.chnAxisSample_frame _ _) (by decide)
  exact Frame.refl ..
  exact Frame.refl ..

theorem State.fbWrite_frame {W : Nat → Prop} (s : State) (slot : ℕ) (per : ℕ) (bs : List Byte) : Frame [.deck, .deckMem] W s (State.fbWrite s slot per bs) := by
  unfold State.fbWrite
  with_reducible refine Frame.step ?_ (State.deckPut_frame _ _ _) (by decide)
  with_reducible refine Frame.step ?_ (State.deckPutAll_frame _ _ _) (by decide)
  exact Frame.refl ..

theorem execClassLFeedbackWrite_frame {W : Nat → Prop} (s : State) : Frame.out [.chn, .dsp, .piers, .axes, .deck, .deckMem, .fbDone] W s (execClassLFeedbackWrite s) := by
  unfold execClassLFeedbackWrite
  split
  extract_lets x0 x1
  have hx1 : Frame [.chn, .dsp, .piers, .axes, .deck, .deckMem, .fbDone] W s x1 := by
    (with_reducible conv => arg 4; whnf)
    with_reducible refine Frame.eachDo ?_ ?_
    exact Frame.refl ..
    intro u2 x3 hu4
    extract_lets x5
    with_reducible refine Frame.step ?_ (State.postAxis_frame _ _) (by decide)
    with_reducible refine Frame.step ?_ (State.chnFeed_frame _ _ _) (by decide)
    with_reducible refine Frame.step ?_ (State.fbWrite_frame _ _ _ _) (by decide)
    assumption
  with_reducible refine Frame.out_next ?_
  ((with_reducible refine Frame.upd ?_ ?_); on_goal 2 => (intro p hp; cases p <;> first | exact (hp (by decide)).elim | (dsimp only [Part.same] <;> fail)))
  exact hx1
  with_reducible refine Frame.out_next ?_
  exact Frame.refl ..

theorem State.kstForce_frame {W : Nat → Prop} (s : State) (on : Bool) (hw0 : W (R.PWM_FLT_STAT)) (hw1 : W (R.EVT_PEND (56 / 32))) (hw2 : W (R.EVT_LOST_CNT)) (hw3 : W (R.EVT_STAT)) : Frame [.free, .evt, .pwr] W s (State.kstForce s on) := by
  unfold State.kstForce
  with_reducible refine Frame.iteOf ?_ ?_
  extract_lets x0 x1
  have hx1 : Frame [.free, .evt, .pwr] W s x1 := by
    (with_reducible conv => arg 4; whnf)
    with_reducible refine Frame.step ?_ (State.drewFree_frame _) (by decide)
    exact Frame.refl ..
  with_reducible refine Frame.step ?_ (State.raise_frame _ _ _ _ ?_ ?_ ?_) (by decide)
  with_reducible refine State.forceChange_frame _ _ _ _ (by decide) ?_ ?_
  exact hx1
  intro u2 hu3
  with_reducible refine Frame.set1 ?_ ?_
  assumption
  exact hw0; exact hw1; exact hw2; exact hw3
  with_reducible refine Frame.setB ?_ ?_
  exact Frame.refl ..
  exact hw0

theorem State.pairSend_frame {W : Nat → Prop} (s : State) (fr : List Byte) : Frame [.twn] W s (State.pairSend s fr) := by
  unfold State.pairSend
  with_reducible refine Frame.iteOf ?_ ?_
  ((with_reducible refine Frame.upd ?_ ?_); on_goal 2 => (intro p hp; cases p <;> first | exact (hp (by decide)).elim | (dsimp only [Part.same] <;> fail)))
  exact Frame.refl ..
  exact Frame.refl ..

theorem State.streamAxis_frame {W : Nat → Prop} (s : State) (a : ℕ) : Frame [.twn] W s (State.streamAxis s a) := by
  unfold State.streamAxis
  with_reducible refine Frame.iteOf ?_ ?_
  extract_lets x0 x1
  have hx0 : Frame [.twn] W s x0 := by
    (with_reducible conv => arg 4; whnf)
    with_reducible refine Frame.step ?_ (State.pairSend_frame _ _) (by decide)
    exact Frame.refl ..
  ((with_reducible refine Frame.upd ?_ ?_); on_goal 2 => (intro p hp; cases p <;> first | exact (hp (by decide)).elim | (dsimp only [Part.same] <;> fail)))
  exact hx0
  exact Frame.refl ..

theorem State.trgFired_frame {W : Nat → Prop} (s : State) (u : ℕ) (tick : ℕ) (hw0 : W (R.TRG_CNT u)) (hw1 : W (R.TRG_LAST u)) (hw2 : W (R.TRG_STAT)) (hw3 : W (R.EVT_PEND (83 / 32))) (hw4 : W (R.EVT_LOST_CNT)) (hw5 : W (R.EVT_STAT)) : Frame [.evt] W s (State.trgFired s u tick) := by
  unfold State.trgFired
  extract_lets x0 x1
  have hx1 : Frame [.evt] W s x1 := by
    (with_reducible conv => arg 4; whnf)
    with_reducible refine Frame.setF ?_ ?_
    with_reducible refine Frame.putReg ?_ ?_
    with_reducible refine Frame.incSat ?_ ?_
    exact Frame.refl ..
    exact hw0; exact hw1; exact hw2
  with_reducible refine Frame.step ?_ (State.raise_frame _ _ _ _ ?_ ?_ ?_) (by decide)
  exact hx1
  exact hw3; exact hw4; exact hw5

theorem State.trgFromEst_frame {W : Nat → Prop} (s : State) (u : ℕ) (hw0 : W (R.TRG_CNT u)) (hw1 : W (R.TRG_LAST u)) (hw2 : W (R.TRG_STAT)) (hw3 : W (R.EVT_PEND (83 / 32))) (hw4 : W (R.EVT_LOST_CNT)) (hw5 : W (R.EVT_STAT)) : Frame [.evt, .acq] W s (State.trgFromEst s u) := by
  unfold State.trgFromEst
  with_reducible refine Frame.iteOf ?_ ?_
  extract_lets x0
  have hx0 : Frame [.evt, .acq] W s x0 := by
    (with_reducible conv => arg 4; whnf)
    with_reducible refine Frame.step ?_ (State.trgFired_frame _ _ _ ?_ ?_ ?_ ?_ ?_ ?_) (by decide)
    exact Frame.refl ..
    exact hw0; exact hw1; exact hw2; exact hw3; exact hw4; exact hw5
  with_reducible refine Frame.whenDo ?_ ?_
  exact hx0
  intro u1 hu2
  with_reducible refine Frame.step ?_ (State.trigNote_frame _ _ _) (by decide)
  assumption
  exact Frame.refl ..

theorem State.markEdge_frame {W : Nat → Prop} (s : State) (k : ℕ) (rising : Bool) (m : ℕ) : Frame [.acq] W s (State.markEdge s k rising m) := by
  unfold State.markEdge
  extract_lets x0 x1 x2
  with_reducible refine Frame.iteOf ?_ ?_
  with_reducible refine Frame.iteOf ?_ ?_
  with_reducible refine Frame.step ?_ (State.putMark_frame _ _ _) (by decide)
  exact Frame.refl ..
  with_reducible refine Frame.step ?_ (State.putMark_frame _ _ _) (by decide)
  exact Frame.refl ..
  exact Frame.refl ..

theorem State.laneWrite_frame {W : Nat → Prop} (s : State) (l : ℕ) (iq : F32) (uff : F32) (off : Bool) (lreq : ℕ) (hw0 : W (R.CLN_STAT l)) (hw1 : ∀ i0, W (R.ENC_STAT i0)) : Frame [.pwr] W s (State.laneWrite s l iq uff off lreq) := by
  unfold State.laneWrite
  extract_lets x0 x1
  have hx1 : Frame [.pwr] W s x1 := by
    (with_reducible conv => arg 4; whnf)
    with_reducible refine Frame.step ?_ (State.putLane_frame _ _ _) (by decide)
    exact Frame.refl ..
  with_reducible refine Frame.step ?_ (State.encLreq_frame _ _ _ ?_) (by decide)
  with_reducible refine Frame.step ?_ (State.laneFollow_frame _ _ ?_) (by decide)
  exact hx1
  exact hw0; exact hw1 _

theorem State.cmdWrite_frame {W : Nat → Prop} (s : State) (w : LawWork) (c : AxisCmd) : Frame [.deck, .deckMem] W s (State.cmdWrite s w c) := by
  unfold State.cmdWrite
  extract_lets x0 x1
  with_reducible refine Frame.step ?_ (State.deckPut_frame _ _ _) (by decide)
  with_reducible refine Frame.step ?_ (State.deckPutAll_frame _ _ _) (by decide)
  exact Frame.refl ..

theorem execLaneWriteDeadline_frame {W : Nat → Prop} (l : Fin 16) (s : State) : Frame.out [.pwr] W s (execLaneWriteDeadline l s) := by
  unfold execLaneWriteDeadline
  extract_lets x0 x1 x2
  split
  with_reducible refine Frame.out_next ?_
  with_reducible refine Frame.step ?_ (State.putLane_frame _ _ _) (by decide)
  exact Frame.refl ..
  with_reducible refine Frame.out_next ?_
  exact Frame.refl ..

theorem State.reloadStart_frame {W : Nat → Prop} (s : State) (m : ℕ) (hw0 : W (R.PWM_STAT m)) : Frame [.pwr] W s (State.reloadStart s m) := by
  unfold State.reloadStart
  extract_lets x0 x1 x2 x3
  have hx3 : Frame [.pwr] W s x3 := by
    (with_reducible conv => arg 4; whnf)
    with_reducible refine Frame.whenDo ?_ ?_
    exact Frame.refl ..
    intro u4 hu5
    with_reducible refine Frame.set1 ?_ ?_
    assumption
    exact hw0
  with_reducible refine Frame.iteOf ?_ ?_
  with_reducible refine Frame.step ?_ (State.putPwm_frame _ _ _) (by decide)
  exact Frame.refl ..
  with_reducible refine Frame.step ?_ (State.putPwm_frame _ _ _) (by decide)
  exact hx3

theorem State.sdmAlign_frame {W : Nat → Prop} (s : State) (m : ℕ) (clk : ℕ) : Frame [.pwr] W s (State.sdmAlign s m clk) := by
  unfold State.sdmAlign
  with_reducible refine Frame.eachDo ?_ ?_
  exact Frame.refl ..
  intro u0 x1 hu2
  extract_lets x3 x4
  with_reducible refine Frame.step ?_ (State.putSdm_frame _ _ _) (by decide)
  assumption

theorem State.lanesResume_frame {W : Nat → Prop} (s : State) (m : ℕ) : Frame [.pwr] W s (State.lanesResume s m) := by
  unfold State.lanesResume
  with_reducible refine Frame.eachDo ?_ ?_
  exact Frame.refl ..
  intro u0 x1 hu2
  with_reducible refine Frame.step ?_ (State.putLane_frame _ _ _) (by decide)
  assumption

theorem State.pwmBegin_frame {W : Nat → Prop} (s : State) (m : ℕ) (c : ℕ) (n0 : ℕ) (hw0 : W (R.PWM_STAT m)) : Frame [.pwr] W s (State.pwmBegin s m c n0) := by
  unfold State.pwmBegin
  extract_lets x0 x1 x2 x3 x4 x5 x6 x7 x8
  have hx0 : Frame [.pwr] W s x0 := by
    (with_reducible conv => arg 4; whnf)
    with_reducible refine Frame.step ?_ (State.relevel_frame _ _) (by decide)
    exact Frame.refl ..
  have hx2 : Frame [.pwr] W s x2 := by
    (with_reducible conv => arg 4; whnf)
    with_reducible refine Frame.setF ?_ ?_
    exact hx0
    exact hw0
  have hx3 : Frame [.pwr] W s x3 := by
    (with_reducible conv => arg 4; whnf)
    with_reducible refine Frame.step ?_ (State.reloadStart_frame _ _ ?_) (by decide)
    exact hx2
    exact hw0
  have hx7 : Frame [.pwr] W s x7 := by
    (with_reducible conv => arg 4; whnf)
    with_reducible refine Frame.step ?_ (State.putPwm_frame _ _ _) (by decide)
    exact hx3
  have hx8 : Frame [.pwr] W s x8 := by
    (with_reducible conv => arg 4; whnf)
    with_reducible refine Frame.whenDo ?_ ?_
    exact hx7
    intro u9 hu10
    with_reducible refine Frame.set1 ?_ ?_
    assumption
    exact hw0
  with_reducible refine Frame.step ?_ (State.sdmAlign_frame _ _ _) (by decide)
  with_reducible refine Frame.step ?_ (State.lanesResume_frame _ _) (by decide)
  with_reducible refine Frame.step ?_ (State.markErode_frame _ _ ?_) (by decide)
  exact hx8
  exact hw0

theorem execPwmPeriodStart_frame {W : Nat → Prop} (m : Fin 12) (s : State) (hw0 : W (R.PWM_STAT ↑m)) : Frame.out [.pwr] W s (execPwmPeriodStart m s) := by
  unfold execPwmPeriodStart
  extract_lets x0
  split
  with_reducible refine Frame.out_next ?_
  with_reducible refine Frame.step ?_ (State.pwmBegin_frame _ _ _ _ ?_) (by decide)
  exact Frame.refl ..
  exact hw0
  with_reducible refine Frame.out_next ?_
  exact Frame.refl ..

theorem State.reloadMid_frame {W : Nat → Prop} (s : State) (m : ℕ) (hw0 : W (R.PWM_STAT m)) : Frame [.pwr] W s (State.reloadMid s m) := by
  unfold State.reloadMid
  extract_lets x0 x1 x2 x3 x4 x5 x6 x7
  have hx0 : Frame [.pwr] W s x0 := by
    (with_reducible conv => arg 4; whnf)
    with_reducible refine Frame.step ?_ (State.relevel_frame _ _) (by decide)
    exact Frame.refl ..
  have hx4 : Frame [.pwr] W s x4 := by
    (with_reducible conv => arg 4; whnf)
    with_reducible refine Frame.whenDo ?_ ?_
    exact hx0
    intro u8 hu9
    with_reducible refine Frame.set1 ?_ ?_
    assumption
    exact hw0
  with_reducible refine Frame.step ?_ (State.markErode_frame _ _ ?_) (by decide)
  with_reducible refine Frame.step ?_ (State.putPwm_frame _ _ _) (by decide)
  exact hx4
  exact hw0

theorem execPwmMidpoint_frame {W : Nat → Prop} (m : Fin 12) (s : State) (hw0 : W (R.PWM_STAT ↑m)) : Frame.out [.pwr] W s (execPwmMidpoint m s) := by
  unfold execPwmMidpoint
  extract_lets x0 x1 x2 x3
  have hx2 : Frame [.pwr] W s x2 := by
    (with_reducible conv => arg 4; whnf)
    with_reducible refine Frame.step ?_ (State.putPwm_frame _ _ _) (by decide)
    exact Frame.refl ..
  split
  split
  split
  with_reducible refine Frame.out_next ?_
  with_reducible refine Frame.step ?_ (State.putPwm_frame _ _ _) (by decide)
  exact hx2
  split
  with_reducible refine Frame.out_next ?_
  with_reducible refine Frame.step ?_ (State.pwmBegin_frame _ _ _ _ ?_) (by decide)
  exact hx2
  exact hw0
  with_reducible refine Frame.out_next ?_
  with_reducible refine Frame.step ?_ (State.reloadMid_frame _ _ ?_) (by decide)
  exact hx2
  exact hw0
  with_reducible refine Frame.out_next ?_
  exact hx2
  with_reducible refine Frame.out_next ?_
  exact Frame.refl ..

theorem execPwmSyncRestart_frame {W : Nat → Prop} (m : Fin 12) (s : State) (hw0 : W (R.PWM_STAT ↑m)) : Frame.out [.pwr] W s (execPwmSyncRestart m s) := by
  unfold execPwmSyncRestart
  split
  with_reducible refine Frame.out_next ?_
  exact Frame.refl ..
  extract_lets x0 x1 x2 x3 x4 x5 x6 x7 x8
  have hx3 : Frame [.pwr] W s x3 := by
    (with_reducible conv => arg 4; whnf)
    with_reducible refine Frame.whenDo ?_ ?_
    exact Frame.refl ..
    intro u11 hu12
    with_reducible refine Frame.set1 ?_ ?_
    assumption
    exact hw0
  have hx4 : Frame [.pwr] W s x4 := by
    (with_reducible conv => arg 4; whnf)
    with_reducible refine Frame.whenDo ?_ ?_
    exact hx3
    intro u9 hu10
    with_reducible refine Frame.set1 ?_ ?_
    assumption
    exact hw0
  have hx5 : Frame [.pwr] W s x5 := by
    (with_reducible conv => arg 4; whnf)
    with_reducible refine Frame.step ?_ (State.relevel_frame _ _) (by decide)
    exact hx4
  have hx7 : Frame [.pwr] W s x7 := by
    (with_reducible conv => arg 4; whnf)
    with_reducible refine Frame.iteOf ?_ ?_
    with_reducible refine Frame.step ?_ (State.pwmBegin_frame _ _ _ _ ?_) (by decide)
    exact hx4
    exact hw0
    with_reducible refine Frame.step ?_ (State.putPwm_frame _ _ _) (by decide)
    exact hx5
  split
  with_reducible refine Frame.out_next ?_
  with_reducible refine Frame.step ?_ (State.putPwm_frame _ _ _) (by decide)
  exact hx7
  with_reducible refine Frame.out_next ?_
  exact Frame.refl ..

theorem execPwmModuleEnable_frame {W : Nat → Prop} (m : Fin 12) (val : Word) (s : State) (hw0 : W (R.GLB_ACC_ERR)) (hw1 : W (R.PWM_CFG ↑m)) (hw2 : W (R.PWM_STAT ↑m)) : Frame.out [.pwr] W s (execPwmModuleEnable m val s) := by
  unfold execPwmModuleEnable
  with_reducible refine Frame.out_next ?_
  with_reducible refine State.bar0Write_frame _ _ _ ?_ (by decide) ?_ ?_
  exact hw0
  exact Frame.refl ..
  intro u0 hu1
  with_reducible refine Frame.step ?_ (State.pwmCfgWrite_frame _ _ _ ?_ ?_) (by decide)
  assumption
  exact hw1; exact hw2

theorem execPwmFaultInput_frame {W : Nat → Prop} (i : Fin 8) (level : Bool) (ps : ℕ) (s : State) (hw0 : W (R.PWM_FLT_STAT)) (hw1 : W (R.PWM_FLT_FIRST)) (hw2 : W (R.PWM_FLT_CNT)) (hw3 : W (R.EVT_PEND (56 / 32))) (hw4 : W (R.EVT_LOST_CNT)) (hw5 : W (R.EVT_STAT)) : Frame.out [.free, .evt, .pwr] W s (execPwmFaultInput i level ps s) := by
  unfold execPwmFaultInput
  extract_lets x0 x1 x2 x3 x4 x5
  have hx2 : Frame [.free, .evt, .pwr] W s x2 := by
    (with_reducible conv => arg 4; whnf)
    with_reducible refine Frame.step ?_ (State.putFlt_frame _ _ _) (by decide)
    exact Frame.refl ..
  have hx4 : Frame [.free, .evt, .pwr] W s x4 := by
    (with_reducible conv => arg 4; whnf)
    with_reducible refine Frame.step ?_ (State.drewFree_frame _) (by decide)
    exact hx2
  split
  split
  with_reducible refine Frame.out_next ?_
  with_reducible refine Frame.step ?_ (State.fltLatch_frame _ _ ?_ ?_ ?_ ?_ ?_ ?_) (by decide)
  exact hx2
  exact hw0; exact hw1; exact hw2; exact hw3; exact hw4; exact hw5
  with_reducible refine Frame.out_next ?_
  with_reducible refine Frame.iteOf ?_ ?_
  with_reducible refine Frame.step ?_ (State.fltLatch_frame _ _ ?_ ?_ ?_ ?_ ?_ ?_) (by decide)
  exact hx4
  exact hw0; exact hw1; exact hw2; exact hw3; exact hw4; exact hw5
  exact hx4
  split
  with_reducible refine Frame.out_next ?_
  with_reducible refine Frame.step ?_ (State.putFlt_frame _ _ _) (by decide)
  exact hx2
  with_reducible refine Frame.out_next ?_
  exact hx2

theorem execFaultStateTurnOn_frame {W : Nat → Prop} (m : Fin 12) (s : State) : Frame.out [.pwr] W s (execFaultStateTurnOn m s) := by
  unfold execFaultStateTurnOn
  split
  split
  with_reducible refine Frame.out_next ?_
  with_reducible refine Frame.step ?_ (State.putPwm_frame _ _ _) (by decide)
  exact Frame.refl ..
  with_reducible refine Frame.out_next ?_
  exact Frame.refl ..
  with_reducible refine Frame.out_next ?_
  exact Frame.refl ..

theorem execFaultLatchClear_frame {W : Nat → Prop} (val : Word) (s : State) (hw0 : W (R.GLB_ACC_ERR)) (hw1 : W (R.PWM_FLT_STAT)) : Frame.out [.pwr] W s (execFaultLatchClear val s) := by
  unfold execFaultLatchClear
  with_reducible refine Frame.out_next ?_
  with_reducible refine State.bar0Write_frame _ _ _ ?_ (by decide) ?_ ?_
  exact hw0
  exact Frame.refl ..
  intro u0 hu1
  with_reducible refine Frame.step ?_ (State.fltClrWrite_frame _ _ ?_) (by decide)
  assumption
  exact hw1

theorem execPwmForce_frame {W : Nat → Prop} (s : State) : Frame.out [.host, .pwr] W s (execPwmForce s) := by
  unfold execPwmForce
  split
  with_reducible refine Frame.out_next ?_
  exact Frame.refl ..
  with_reducible refine Frame.out_next ?_
  with_reducible refine State.forceChange_frame _ _ _ _ (by decide) ?_ ?_
  refine Frame.of_optSnd (by assumption) ?_
  with_reducible refine Frame.optSnd_comp ?_ (State.takeAccepted_frame _ _) (by decide)
  exact Frame.refl ..
  intro u0 hu1
  ((with_reducible refine Frame.upd ?_ ?_); on_goal 2 => (intro p hp; cases p <;> first | exact (hp (by decide)).elim | (dsimp only [Part.same] <;> fail)))
  assumption

theorem State.sdmMark_frame {W : Nat → Prop} (s : State) (c : ℕ) (x : Fld) (hw0 : W ((Fld.addr x))) (hw1 : W (R.EVT_PEND (59 / 32))) (hw2 : W (R.EVT_LOST_CNT)) (hw3 : W (R.EVT_STAT)) : Frame [.evt] W s (State.sdmMark s c x) := by
  unfold State.sdmMark
  with_reducible refine Frame.iteOf ?_ ?_
  exact Frame.refl ..
  extract_lets x0
  have hx0 : Frame [.evt] W s x0 := by
    (with_reducible conv => arg 4; whnf)
    with_reducible refine Frame.set1 ?_ ?_
    exact Frame.refl ..
    exact hw0
  with_reducible refine Frame.step ?_ (State.raise_frame _ _ _ _ ?_ ?_ ?_) (by decide)
  exact hx0
  exact hw1; exact hw2; exact hw3

theorem State.sdmBits_frame {W : Nat → Prop} (s : State) (c : ℕ) (bits : List Bool) (hw0 : W (R.SDM_DATA c)) (hw1 : W (R.SDM_STAT c)) (hw2 : W (R.EVT_PEND (59 / 32))) (hw3 : W (R.EVT_LOST_CNT)) (hw4 : W (R.EVT_STAT)) : Frame [.evt, .pwr] W s (State.sdmBits s c bits) := by
  unfold State.sdmBits
  with_reducible refine Frame.iteOf ?_ ?_
  extract_lets x0 x1 x2 x3 x4
  have hx3 : Frame [.evt, .pwr] W s x3 := by
    (with_reducible conv => arg 4; whnf)
    with_reducible refine Frame.step ?_ (State.putSdm_frame _ _ _) (by decide)
    exact Frame.refl ..
  have hx4 : Frame [.evt, .pwr] W s x4 := by
    (with_reducible conv => arg 4; whnf)
    split
    with_reducible refine Frame.putReg ?_ ?_
    exact hx3
    exact hw0
    exact hx3
  with_reducible refine Frame.whenDo ?_ ?_
  exact hx4
  intro u5 hu6
  with_reducible refine Frame.step ?_ (State.sdmMark_frame _ _ _ ?_ ?_ ?_ ?_) (by decide)
  assumption
  exact hw1; exact hw2; exact hw3; exact hw4
  exact Frame.refl ..

theorem execSdmFilterOutput_frame {W : Nat → Prop} (c : Fin 48) (bits : List Bool) (s : State) (hw0 : W (R.SDM_DATA ↑c)) (hw1 : W (R.SDM_STAT ↑c)) (hw2 : W (R.EVT_PEND (59 / 32))) (hw3 : W (R.EVT_LOST_CNT)) (hw4 : W (R.EVT_STAT)) : Frame.out [.evt, .pwr] W s (execSdmFilterOutput c bits s) := by
  unfold execSdmFilterOutput
  with_reducible refine Frame.out_next ?_
  with_reducible refine Frame.step ?_ (State.sdmBits_frame _ _ _ ?_ ?_ ?_ ?_ ?_) (by decide)
  exact Frame.refl ..
  exact hw0; exact hw1; exact hw2; exact hw3; exact hw4

theorem execSdmStuck_frame {W : Nat → Prop} (x : SdmRun) (s : State) (hw0 : W (R.SDM_DATA ↑x.chan)) (hw1 : W (R.SDM_STAT ↑x.chan)) (hw2 : W (R.EVT_PEND (59 / 32))) (hw3 : W (R.EVT_LOST_CNT)) (hw4 : W (R.EVT_STAT)) : Frame.out [.evt, .pwr] W s (execSdmStuck x s) := by
  unfold execSdmStuck
  with_reducible refine Frame.out_next ?_
  with_reducible refine Frame.step ?_ (State.sdmBits_frame _ _ _ ?_ ?_ ?_ ?_ ?_) (by decide)
  exact Frame.refl ..
  exact hw0; exact hw1; exact hw2; exact hw3; exact hw4

theorem execSdmClockLoss_frame {W : Nat → Prop} (c : Fin 48) (s : State) (hw0 : W (R.SDM_STAT ↑c)) (hw1 : W (R.EVT_PEND (59 / 32))) (hw2 : W (R.EVT_LOST_CNT)) (hw3 : W (R.EVT_STAT)) : Frame.out [.evt] W s (execSdmClockLoss c s) := by
  unfold execSdmClockLoss
  split
  with_reducible refine Frame.out_next ?_
  with_reducible refine Frame.step ?_ (State.sdmMark_frame _ _ _ ?_ ?_ ?_ ?_) (by decide)
  exact Frame.refl ..
  exact hw0; exact hw1; exact hw2; exact hw3
  with_reducible refine Frame.out_next ?_
  exact Frame.refl ..

theorem execLaneEnable_frame {W : Nat → Prop} (l : Fin 16) (val : Word) (s : State) (hw0 : W (R.GLB_ACC_ERR)) (hw1 : W (R.CLN_CFG ↑l)) (hw2 : W (R.CLN_STAT ↑l)) (hw3 : W (R.EVT_PEND (57 / 32))) (hw4 : W (R.EVT_LOST_CNT)) (hw5 : W (R.EVT_STAT)) : Frame.out [.evt, .pwr] W s (execLaneEnable l val s) := by
  unfold execLaneEnable
  with_reducible refine Frame.out_next ?_
  with_reducible refine State.bar0Write_frame _ _ _ ?_ (by decide) ?_ ?_
  exact hw0
  exact Frame.refl ..
  intro u0 hu1
  with_reducible refine Frame.step ?_ (State.laneCfgWrite_frame _ _ _ ?_ ?_ ?_ ?_ ?_) (by decide)
  assumption
  exact hw1; exact hw2; exact hw3; exact hw4; exact hw5

theorem State.laneServo_frame {W : Nat → Prop} (s : State) (l : ℕ) (r : ℕ) (hw0 : W (R.CLN_ID l)) (hw1 : W (R.CLN_IQ l)) (hw2 : W (R.CLN_UD l)) (hw3 : W (R.CLN_UQ l)) (hw4 : W (R.CLN_THETA l)) (hw5 : W (R.CLN_IQ_REF l)) (hw6 : W (R.CLN_STAT l)) (hw7 : W (R.EVT_PEND (57 / 32))) (hw8 : W (R.EVT_LOST_CNT)) (hw9 : W (R.EVT_STAT)) : Frame [.free, .evt, .pwr] W s (State.laneServo s l r) := by
  unfold State.laneServo
  extract_lets x0 x1 x2 x3 x4 x5 x6 x7 x8 x9 x10 x11 x12 x13 x14 x15 x16 x17 x18 x19 x20 x21 x22 x23 x24 x25 x26 x27 x28 x29 x30
  have hx28 : Frame [.free, .evt, .pwr] W s x28 := by
    (with_reducible conv => arg 4; whnf)
    with_reducible refine Frame.step ?_ (State.putLane_frame _ _ _) (by decide)
    exact Frame.refl ..
  have hx29 : Frame [.free, .evt, .pwr] W s x29 := by
    (with_reducible conv => arg 4; whnf)
    with_reducible refine Frame.putReg ?_ ?_
    with_reducible refine Frame.putReg ?_ ?_
    with_reducible refine Frame.putReg ?_ ?_
    with_reducible refine Frame.putReg ?_ ?_
    with_reducible refine Frame.putReg ?_ ?_
    with_reducible refine Frame.putReg ?_ ?_
    with_reducible refine Frame.step ?_ (State.drewFree_frame _) (by decide)
    exact hx28
    exact hw0; exact hw1; exact hw2; exact hw3; exact hw4; exact hw5
  have hx30 : Frame [.free, .evt, .pwr] W s x30 := by
    (with_reducible conv => arg 4; whnf)
    with_reducible refine Frame.whenDo ?_ ?_
    exact hx29
    intro u33 hu34
    with_reducible refine Frame.set1 ?_ ?_
    assumption
    exact hw6
  with_reducible refine Frame.whenDo ?_ ?_
  exact hx30
  intro u31 hu32
  with_reducible refine Frame.step ?_ (State.laneMark_frame _ _ _ ?_ ?_ ?_ ?_) (by decide)
  assumption
  exact hw6; exact hw7; exact hw8; exact hw9

theorem State.laneStepper_frame {W : Nat → Prop} (s : State) (l : ℕ) (r : ℕ) (hw0 : W (R.CLN_I_SET l)) (hw1 : W (R.CLN_THETA l)) (hw2 : W (R.CLN_IQ_REF l)) (hw3 : W (R.CLN_STAT l)) (hw4 : W (R.EVT_PEND (16 / 32))) (hw5 : W (R.EVT_LOST_CNT)) (hw6 : W (R.EVT_STAT)) : Frame [.free, .evt, .pwr] W s (State.laneStepper s l r) := by
  unfold State.laneStepper
  extract_lets x0 x1 x2 x3 x4 x5 x6 x7 x8 x9 x10 x11 x12 x13 x14 x15 x16 x17 x18 x19 x20 x21 x22 x23 x24 x25 x26 x27 x28 x29 x30
  have hx28 : Frame [.free, .evt, .pwr] W s x28 := by
    (with_reducible conv => arg 4; whnf)
    with_reducible refine Frame.step ?_ (State.putLane_frame _ _ _) (by decide)
    exact Frame.refl ..
  have hx29 : Frame [.free, .evt, .pwr] W s x29 := by
    (with_reducible conv => arg 4; whnf)
    with_reducible refine Frame.putReg ?_ ?_
    with_reducible refine Frame.putReg ?_ ?_
    with_reducible refine Frame.putReg ?_ ?_
    with_reducible refine Frame.step ?_ (State.drewFree_frame _) (by decide)
    exact hx28
    exact hw0; exact hw1; exact hw2
  have hx30 : Frame [.free, .evt, .pwr] W s x30 := by
    (with_reducible conv => arg 4; whnf)
    with_reducible refine Frame.whenDo ?_ ?_
    exact hx29
    intro u33 hu34
    with_reducible refine Frame.set1 ?_ ?_
    assumption
    exact hw3
  with_reducible refine Frame.whenDo ?_ ?_
  exact hx30
  intro u31 hu32
  with_reducible refine Frame.step ?_ (State.raise_frame _ _ _ _ ?_ ?_ ?_) (by decide)
  with_reducible refine Frame.set1 ?_ ?_
  assumption
  exact hw3; exact hw4; exact hw5; exact hw6

theorem execLaneEvaluation_frame {W : Nat → Prop} (l : Fin 16) (s : State) (hw0 : W (R.CLN_STAT ↑l)) (hw1 : W (R.EVT_PEND (57 / 32))) (hw2 : W (R.EVT_LOST_CNT)) (hw3 : W (R.EVT_STAT)) (hw4 : W (R.CLN_ID ↑l)) (hw5 : W (R.CLN_IQ ↑l)) (hw6 : W (R.CLN_UD ↑l)) (hw7 : W (R.CLN_UQ ↑l)) (hw8 : W (R.CLN_THETA ↑l)) (hw9 : W (R.CLN_IQ_REF ↑l)) (hw10 : W (R.CLN_I_SET ↑l)) (hw11 : W (R.EVT_PEND (16 / 32))) : Frame.out [.free, .evt, .pwr] W s (execLaneEvaluation l s) := by
  unfold execLaneEvaluation
  split
  with_reducible refine Frame.out_next ?_
  exact Frame.refl ..
  extract_lets x0 x1
  have hx0 : Frame [.free, .evt, .pwr] W s x0 := by
    (with_reducible conv => arg 4; whnf)
    with_reducible refine Frame.step ?_ (State.laneSources_frame _ _ ?_ ?_ ?_ ?_) (by decide)
    exact Frame.refl ..
    exact hw0; exact hw1; exact hw2; exact hw3
  have hx1 : Frame [.free, .evt, .pwr] W s x1 := by
    (with_reducible conv => arg 4; whnf)
    with_reducible refine Frame.iteOf ?_ ?_
    with_reducible refine Frame.step ?_ (State.laneServo_frame _ _ _ ?_ ?_ ?_ ?_ ?_ ?_ ?_ ?_ ?_ ?_) (by decide)
    exact hx0
    exact hw4; exact hw5; exact hw6; exact hw7; exact hw8; exact hw9; exact hw0; exact hw1; exact hw2; exact hw3
    with_reducible refine Frame.step ?_ (State.laneStepper_frame _ _ _ ?_ ?_ ?_ ?_ ?_ ?_ ?_) (by decide)
    exact hx0
    exact hw10; exact hw8; exact hw9; exact hw0; exact hw11; exact hw2; exact hw3
  with_reducible refine Frame.out_next ?_
  with_reducible refine Frame.step ?_ (State.laneFollow_frame _ _ ?_) (by decide)
  exact hx1
  exact hw0

theorem execLaneCompareWrite_frame {W : Nat → Prop} (l : Fin 16) (s : State) (hw0 : ∀ i0, W (R.PWM_STAT i0)) (hw1 : ∀ i0, W (R.PWM_PER i0)) (hw2 : ∀ i0 i1, W (R.PWM_CMP i0 i1)) : Frame.out [.pwr] W s (execLaneCompareWrite l s) := by
  unfold execLaneCompareWrite
  split
  with_reducible refine Frame.out_next ?_
  exact Frame.refl ..
  split
  extract_lets x0 x1
  have hx1 : Frame [.pwr] W s x1 := by
    (with_reducible conv => arg 4; whnf)
    with_reducible refine Frame.step ?_ (State.putLane_frame _ _ _) (by decide)
    exact Frame.refl ..
  with_reducible refine Frame.out_next ?_
  with_reducible refine Frame.eachDo ?_ ?_
  exact hx1
  intro u2 x3 hu4
  with_reducible refine Frame.step ?_ (State.shadowPut_frame _ _ _ _ ?_ ?_ ?_) (by decide)
  assumption
  exact hw0 _; exact hw1 _; exact hw2 _ _
  with_reducible refine Frame.out_next ?_
  exact Frame.refl ..

theorem State.bootEnds_frame {W : Nat → Prop} (s : State) (c : Completion) (hw0 : W (R.GLB_BOOT)) (hw1 : W (R.EVT_PEND (3 / 32))) (hw2 : W (R.EVT_LOST_CNT)) (hw3 : W (R.EVT_STAT)) : Frame [.evt] W s (State.bootEnds s c) := by
  unfold State.bootEnds
  with_reducible refine Frame.iteOf ?_ ?_
  extract_lets x0
  have hx0 : Frame [.evt] W s x0 := by
    (with_reducible conv => arg 4; whnf)
    with_reducible refine Frame.setF ?_ ?_
    with_reducible refine Frame.setF ?_ ?_
    exact Frame.refl ..
    exact hw0; exact hw0
  with_reducible refine Frame.step ?_ (State.raise_frame _ _ _ _ ?_ ?_ ?_) (by decide)
  exact hx0
  exact hw1; exact hw2; exact hw3
  exact Frame.refl ..

theorem State.bar2Put_frame {W : Nat → Prop} (s : State) (off : ℕ) (ws : List Word) : Frame [.hif, .window] W s (State.bar2Put s off ws) := by
  unfold State.bar2Put
  ((with_reducible refine Frame.upd ?_ ?_); on_goal 2 => (intro p hp; cases p <;> first | exact (hp (by decide)).elim | (dsimp only [Part.same] <;> fail)))
  exact Frame.refl ..

theorem State.firstRef_frame {W : Nat → Prop} (s : State) (c : Completion) (hw0 : W (R.HIF_FIRST_REF)) : Frame [] W s (State.firstRef s c) := by
  unfold State.firstRef
  with_reducible refine Frame.iteOf ?_ ?_
  exact Frame.refl ..
  with_reducible refine Frame.set1 ?_ ?_
  with_reducible refine Frame.setF ?_ ?_
  with_reducible refine Frame.setF ?_ ?_
  with_reducible refine Frame.setF ?_ ?_
  exact Frame.refl ..
  exact hw0; exact hw0; exact hw0; exact hw0

theorem State.latchCompletion_frame {W : Nat → Prop} (s : State) (sq : ℕ) : Frame [.evt] W s (State.latchCompletion s sq) := by
  unfold State.latchCompletion
  extract_lets x0 x1 x2
  split
  (with_reducible conv => arg 4; whnf)
  ((with_reducible refine Frame.upd ?_ ?_); on_goal 2 => (intro p hp; cases p <;> first | exact (hp (by decide)).elim | (dsimp only [Part.same] <;> fail)))
  exact Frame.refl ..
  with_reducible refine Frame.iteOf ?_ ?_
  (with_reducible conv => arg 4; whnf)
  ((with_reducible refine Frame.upd ?_ ?_); on_goal 2 => (intro p hp; cases p <;> first | exact (hp (by decide)).elim | (dsimp only [Part.same] <;> fail)))
  exact Frame.refl ..
  exact Frame.refl ..

theorem State.vecCount_frame {W : Nat → Prop} (s : State) (v : ℕ) : Frame [.evt] W s (State.vecCount s v) := by
  unfold State.vecCount
  extract_lets x0 x1 x2
  with_reducible refine Frame.iteOf ?_ ?_
  ((with_reducible refine Frame.upd ?_ ?_); on_goal 2 => (intro p hp; cases p <;> first | exact (hp (by decide)).elim | (dsimp only [Part.same] <;> fail)))
  exact Frame.refl ..
  ((with_reducible refine Frame.upd ?_ ?_); on_goal 2 => (intro p hp; cases p <;> first | exact (hp (by decide)).elim | (dsimp only [Part.same] <;> fail)))
  exact Frame.refl ..

theorem State.signalCompletion_frame {W : Nat → Prop} (s : State) (sq : ℕ) (hw0 : W (R.EVT_PEND (224 / 32))) : Frame [.evt] W s (State.signalCompletion s sq) := by
  unfold State.signalCompletion
  extract_lets x0
  with_reducible refine Frame.whenDo ?_ ?_
  with_reducible refine Frame.step ?_ (State.latchCompletion_frame _ _) (by decide)
  with_reducible refine Frame.step ?_ (State.evtPend_frame _ _ ?_) (by decide)
  exact Frame.refl ..
  exact hw0
  intro u1 hu2
  with_reducible refine Frame.step ?_ (State.vecCount_frame _ _) (by decide)
  assumption

theorem State.cqWrite_frame {W : Nat → Prop} (s : State) (c : Completion) (hw0 : W (R.GLB_BOOT)) (hw1 : W (R.EVT_PEND (3 / 32))) (hw2 : W (R.EVT_LOST_CNT)) (hw3 : W (R.EVT_STAT)) (hw4 : W (R.HIF_CQ_PTR)) (hw5 : W (R.HIF_CQ_STAT)) (hw6 : W (R.HIF_CMD_CNT)) (hw7 : W (R.HIF_FIRST_REF)) (hw8 : W (R.HIF_REF_CNT)) (hw9 : W (R.EVT_PEND (224 / 32))) : Frame [.evt, .hif, .window] W s (State.cqWrite s c) := by
  unfold State.cqWrite
  with_reducible refine Frame.iteOf ?_ ?_
  with_reducible refine Frame.step ?_ (State.bootEnds_frame _ _ ?_ ?_ ?_ ?_) (by decide)
  exact Frame.refl ..
  exact hw0; exact hw1; exact hw2; exact hw3
  with_reducible refine Frame.iteOf ?_ ?_
  exact Frame.refl ..
  extract_lets x0 x1 x2 x3 x4 x5 x6 x7
  have hx2 : Frame [.evt, .hif, .window] W s x2 := by
    (with_reducible conv => arg 4; whnf)
    with_reducible refine Frame.step ?_ (State.bar2Put_frame _ _ _) (by decide)
    exact Frame.refl ..
  have hx3 : Frame [.evt, .hif, .window] W s x3 := by
    (with_reducible conv => arg 4; whnf)
    with_reducible refine Frame.setF ?_ ?_
    exact hx2
    exact hw4
  have hx4 : Frame [.evt, .hif, .window] W s x4 := by
    (with_reducible conv => arg 4; whnf)
    with_reducible refine Frame.whenDo ?_ ?_
    exact hx3
    intro u12 hu13
    with_reducible refine Frame.setB ?_ ?_
    assumption
    exact hw4
  have hx5 : Frame [.evt, .hif, .window] W s x5 := by
    (with_reducible conv => arg 4; whnf)
    with_reducible refine Frame.step ?_ (State.cqSync_frame _ ?_) (by decide)
    with_reducible refine Frame.setF ?_ ?_
    exact hx4
    exact hw5; exact hw5
  have hx6 : Frame [.evt, .hif, .window] W s x6 := by
    (with_reducible conv => arg 4; whnf)
    with_reducible refine Frame.incWrap ?_ ?_
    exact hx5
    exact hw6
  have hx7 : Frame [.evt, .hif, .window] W s x7 := by
    (with_reducible conv => arg 4; whnf)
    with_reducible refine Frame.whenDo ?_ ?_
    exact hx6
    intro u10 hu11
    with_reducible refine Frame.incSat ?_ ?_
    with_reducible refine Frame.step ?_ (State.firstRef_frame _ _ ?_) (by decide)
    assumption
    exact hw7; exact hw8
  with_reducible refine Frame.whenDo ?_ ?_
  exact hx7
  intro u8 hu9
  with_reducible refine Frame.step ?_ (State.signalCompletion_frame _ _ ?_) (by decide)
  assumption
  exact hw9

theorem State.cqDue_frame {W : Nat → Prop} (s : State) (hw0 : W (R.GLB_BOOT)) (hw1 : W (R.EVT_PEND (3 / 32))) (hw2 : W (R.EVT_LOST_CNT)) (hw3 : W (R.EVT_STAT)) (hw4 : W (R.HIF_CQ_PTR)) (hw5 : W (R.HIF_CQ_STAT)) (hw6 : W (R.HIF_CMD_CNT)) (hw7 : W (R.HIF_FIRST_REF)) (hw8 : W (R.HIF_REF_CNT)) (hw9 : W (R.EVT_PEND (224 / 32))) : Frame [.evt, .hif, .window] W s (State.cqDue s) := by
  unfold State.cqDue
  extract_lets x0 x1 x2 x3 x4
  with_reducible refine Frame.eachDo ?_ ?_
  ((with_reducible refine Frame.upd ?_ ?_); on_goal 2 => (intro p hp; cases p <;> first | exact (hp (by decide)).elim | (dsimp only [Part.same] <;> fail)))
  exact Frame.refl ..
  intro u5 x6 hu7
  with_reducible refine Frame.step ?_ (State.cqWrite_frame _ _ ?_ ?_ ?_ ?_ ?_ ?_ ?_ ?_ ?_ ?_) (by decide)
  assumption
  exact hw0; exact hw1; exact hw2; exact hw3; exact hw4; exact hw5; exact hw6; exact hw7; exact hw8; exact hw9

theorem State.unitsTick_frame {W : Nat → Prop} (s : State) (x : AcqShot) (hw0 : ∀ i0, W (R.TRG_CNT i0)) (hw1 : ∀ i0, W (R.TRG_LAST i0)) (hw2 : W (R.TRG_STAT)) (hw3 : W (R.EVT_PEND (83 / 32))) (hw4 : W (R.EVT_LOST_CNT)) (hw5 : W (R.EVT_STAT)) : Frame [.evt, .acq] W s (State.unitsTick s x).1 := by
  unfold State.unitsTick
  extract_lets x0
  with_reducible refine Frame.foldlFst ?_ ?_
  intro x1 x2 hu3
  with_reducible refine Frame.iteFst ?_ ?_
  extract_lets x4 x5
  have hx5 : Frame [.evt, .acq] W s x5 := by
    (with_reducible conv => arg 4; whnf)
    with_reducible refine Frame.step ?_ (State.putUnit_frame _ _ _) (by decide)
    assumption
  with_reducible refine Frame.iteFst ?_ ?_
  (with_reducible conv => arg 4; whnf)
  with_reducible refine Frame.step ?_ (State.trgFired_frame _ _ _ ?_ ?_ ?_ ?_ ?_ ?_) (by decide)
  exact hx5
  exact hw0 _; exact hw1 _; exact hw2; exact hw3; exact hw4; exact hw5
  (with_reducible conv => arg 4; whnf)
  with_reducible refine Frame.step ?_ (State.putUnit_frame _ _ _) (by decide)
  assumption
  assumption
  (with_reducible conv => arg 4; whnf)
  exact Frame.refl ..

theorem State.maskFail_frame {W : Nat → Prop} (s : State) (m : ℕ) (hw0 : W (R.ACQ_MK_CNT m)) (hw1 : W (R.EVT_PEND (84 / 32))) (hw2 : W (R.EVT_LOST_CNT)) (hw3 : W (R.EVT_STAT)) : Frame [.evt] W s (State.maskFail s m) := by
  unfold State.maskFail
  extract_lets x0 x1
  have hx1 : Frame [.evt] W s x1 := by
    (with_reducible conv => arg 4; whnf)
    with_reducible refine Frame.incSat ?_ ?_
    exact Frame.refl ..
    exact hw0
  with_reducible refine Frame.whenDo ?_ ?_
  exact hx1
  intro u2 hu3
  with_reducible refine Frame.step ?_ (State.raise_frame _ _ _ _ ?_ ?_ ?_) (by decide)
  assumption
  exact hw1; exact hw2; exact hw3

theorem State.rateStep_frame {W : Nat → Prop} (s : State) (tick : ℕ) (hw0 : W (R.ACQ_STAT)) (hw1 : W (R.EVT_PEND (82 / 32))) (hw2 : W (R.EVT_LOST_CNT)) (hw3 : W (R.EVT_STAT)) (hw4 : W (R.EVT_PEND (16 / 32))) : Frame [.evt, .acq] W s (State.rateStep s tick) := by
  unfold State.rateStep
  extract_lets x0 x1 x2 x3 x4 x5 x6
  have hx6 : Frame [.evt, .acq] W s x6 := by
    (with_reducible conv => arg 4; whnf)
    ((with_reducible refine Frame.step ?_ (State.putAcq_keep _ _ ?_) (by decide)); on_goal 2 => first | with_reducible rfl | with_reducible exact ⟨rfl, rfl⟩ | (simp +zetaDelta <;> fail))
    with_reducible refine Frame.set1 ?_ ?_
    with_reducible refine Frame.setF ?_ ?_
    exact Frame.refl ..
    exact hw0; exact hw0
  with_reducible refine Frame.iteOf ?_ ?_
  with_reducible refine Frame.iteOf ?_ ?_
  with_reducible refine Frame.step ?_ (State.raise_frame _ _ _ _ ?_ ?_ ?_) (by decide)
  exact hx6
  exact hw1; exact hw2; exact hw3
  exact Frame.refl ..
  with_reducible refine Frame.iteOf ?_ ?_
  with_reducible refine Frame.step ?_ (State.raise_frame _ _ _ _ ?_ ?_ ?_) (by decide)
  with_reducible refine Frame.set1 ?_ ?_
  exact Frame.refl ..
  exact hw0; exact hw4; exact hw2; exact hw3
  with_reducible refine Frame.iteOf ?_ ?_
  ((with_reducible refine Frame.step ?_ (State.putAcq_keep _ _ ?_) (by decide)); on_goal 2 => first | with_reducible rfl | with_reducible exact ⟨rfl, rfl⟩ | (simp +zetaDelta <;> fail))
  with_reducible refine Frame.setF ?_ ?_
  exact Frame.refl ..
  exact hw0
  exact Frame.refl ..

theorem State.blockStore_frame {W : Nat → Prop} (s : State) (x : AcqShot) (bs : List Byte) (hw0 : W (R.ACQ_STAT)) (hw1 : W (R.ACQ_FIFO)) (hw2 : W (R.EVT_PEND (81 / 32))) (hw3 : W (R.EVT_LOST_CNT)) (hw4 : W (R.EVT_STAT)) (hw5 : W (R.ACQ_BLK)) : Frame [.evt, .acq, .ddr] W s (State.blockStore s x bs).1 := by
  unfold State.blockStore
  with_reducible refine Frame.iteFst ?_ ?_
  (with_reducible conv => arg 4; whnf)
  with_reducible refine Frame.step ?_ (State.acqStop_frame _ _ ?_ ?_ ?_ ?_ ?_) (by decide)
  exact Frame.refl ..
  exact hw0; exact hw1; exact hw2; exact hw3; exact hw4
  extract_lets x0 x1 x2 x3 x4
  have hx3 : Frame [.evt, .acq, .ddr] W s x3 := by
    (with_reducible conv => arg 4; whnf)
    with_reducible refine Frame.incWrap ?_ ?_
    exact Frame.refl ..
    exact hw5
  (with_reducible conv => arg 4; whnf)
  with_reducible refine Frame.step ?_ (State.showFill_frame _ ?_) (by decide)
  ((with_reducible refine Frame.step ?_ (State.putAcq_keep _ _ ?_) (by decide)); on_goal 2 => first | with_reducible rfl | with_reducible exact ⟨rfl, rfl⟩ | (simp +zetaDelta <;> fail))
  exact hx3
  exact hw1

theorem State.segDone_frame {W : Nat → Prop} (s : State) (hw0 : W (R.ACQ_STAT)) : Frame [.acq, .ddr] W s (State.segDone s) := by
  unfold State.segDone
  with_reducible refine Frame.iteOf ?_ ?_
  extract_lets x0 x1 x2 x3
  have hx2 : Frame [.acq, .ddr] W s x2 := by
    (with_reducible conv => arg 4; whnf)
    with_reducible refine Frame.step ?_ (State.segHeader_frame _ _) (by decide)
    with_reducible refine Frame.setF ?_ ?_
    exact Frame.refl ..
    exact hw0
  with_reducible refine Frame.iteOf ?_ ?_
  ((with_reducible refine Frame.step ?_ (State.putAcq_keep _ _ ?_) (by decide)); on_goal 2 => first | with_reducible rfl | with_reducible exact ⟨rfl, rfl⟩ | (simp +zetaDelta <;> fail))
  with_reducible refine Frame.step ?_ (State.segHeader_frame _ _) (by decide)
  exact Frame.refl ..
  ((with_reducible refine Frame.step ?_ (State.putAcq_keep _ _ ?_) (by decide)); on_goal 2 => first | with_reducible rfl | with_reducible exact ⟨rfl, rfl⟩ | (simp +zetaDelta <;> fail))
  exact hx2
  exact Frame.refl ..

theorem State.sessionTick_frame {W : Nat → Prop} (s : State) (x : AcqShot) (fired : ℕ) (fails : ℕ) (m1 : Bool) (m2 : Bool) (hw0 : W (R.ACQ_TIGN_CNT)) (hw1 : W (R.ACQ_STAT)) (hw2 : W (R.EVT_PEND (82 / 32))) (hw3 : W (R.EVT_LOST_CNT)) (hw4 : W (R.EVT_STAT)) (hw5 : W (R.EVT_PEND (16 / 32))) (hw6 : W (R.ACQ_FIFO)) (hw7 : W (R.EVT_PEND (81 / 32))) (hw8 : W (R.ACQ_BLK)) : Frame [.evt, .acq, .ddr] W s (State.sessionTick s x fired fails m1 m2) := by
  unfold State.sessionTick
  extract_lets x0 x1 x2 x3 x4 x5 x6 x7 x8 x9 x10 x11 x12 x13 x14 x15 x16 x17 x18
  have hx6 : Frame [.evt, .acq, .ddr] W s x6 := by
    (with_reducible conv => arg 4; whnf)
    with_reducible refine Frame.whenDo ?_ ?_
    exact Frame.refl ..
    intro u19 hu20
    with_reducible refine Frame.incSat ?_ ?_
    assumption
    exact hw0
  have hx9 : Frame [.evt, .acq, .ddr] W s x9 := by
    (with_reducible conv => arg 4; whnf)
    with_reducible refine Frame.step ?_ (State.rateStep_frame _ _ ?_ ?_ ?_ ?_ ?_) (by decide)
    ((with_reducible refine Frame.step ?_ (State.putAcq_keep _ _ ?_) (by decide)); on_goal 2 => first | with_reducible rfl | with_reducible exact ⟨rfl, rfl⟩ | (simp +zetaDelta <;> fail))
    exact hx6
    exact hw1; exact hw2; exact hw3; exact hw4; exact hw5
  have hx18 : Frame [.evt, .acq, .ddr] W s x18 := by
    (with_reducible conv => arg 4; whnf)
    with_reducible refine Frame.iteOf ?_ ?_
    with_reducible refine Frame.step ?_ (State.segHeader_frame _ _) (by decide)
    with_reducible refine Frame.setF ?_ ?_
    ((with_reducible refine Frame.step ?_ (State.putAcq_keep _ _ ?_) (by decide)); on_goal 2 => first | with_reducible rfl | with_reducible exact ⟨rfl, rfl⟩ | (simp +zetaDelta <;> fail))
    exact hx9
    exact hw1
    exact hx9
  with_reducible refine Frame.iteOf ?_ ?_
  exact hx6
  with_reducible refine Frame.iteOf ?_ ?_
  exact hx9
  split
  refine Frame.fst (by assumption) ?_
  with_reducible refine Frame.step ?_ (State.blockStore_frame _ _ _ ?_ ?_ ?_ ?_ ?_ ?_) (by decide)
  exact hx18
  exact hw1; exact hw6; exact hw7; exact hw3; exact hw4; exact hw8
  with_reducible refine Frame.iteOf ?_ ?_
  with_reducible refine Frame.step ?_ (State.acqStop_frame _ _ ?_ ?_ ?_ ?_ ?_) (by decide)
  refine Frame.fst (by assumption) ?_
  with_reducible refine Frame.step ?_ (State.blockStore_frame _ _ _ ?_ ?_ ?_ ?_ ?_ ?_) (by decide)
  exact hx18
  exact hw1; exact hw6; exact hw7; exact hw3; exact hw4; exact hw8; exact hw1; exact hw6; exact hw7; exact hw3; exact hw4
  with_reducible refine Frame.step ?_ (State.segDone_frame _ ?_) (by decide)
  refine Frame.fst (by assumption) ?_
  with_reducible refine Frame.step ?_ (State.blockStore_frame _ _ _ ?_ ?_ ?_ ?_ ?_ ?_) (by decide)
  exact hx18
  exact hw1; exact hw6; exact hw7; exact hw3; exact hw4; exact hw8; exact hw1

theorem State.shotDone_frame {W : Nat → Prop} (s : State) (x : AcqShot) (hw0 : ∀ i0, W (R.TRG_CNT i0)) (hw1 : ∀ i0, W (R.TRG_LAST i0)) (hw2 : W (R.TRG_STAT)) (hw3 : W (R.EVT_PEND (83 / 32))) (hw4 : W (R.EVT_LOST_CNT)) (hw5 : W (R.EVT_STAT)) (hw6 : ∀ i0, W (R.ACQ_MK_CNT i0)) (hw7 : W (R.EVT_PEND (84 / 32))) (hw8 : W (R.ACQ_TIGN_CNT)) (hw9 : W (R.ACQ_STAT)) (hw10 : W (R.EVT_PEND (82 / 32))) (hw11 : W (R.EVT_PEND (16 / 32))) (hw12 : W (R.ACQ_FIFO)) (hw13 : W (R.EVT_PEND (81 / 32))) (hw14 : W (R.ACQ_BLK)) : Frame [.evt, .acq, .ddr] W s (State.shotDone s x) := by
  unfold State.shotDone
  extract_lets x0 x1 x2 x3 x4 x5
  have hx1 : Frame [.evt, .acq, .ddr] W s x1 := by
    (with_reducible conv => arg 4; whnf)
    ((with_reducible refine Frame.step ?_ (State.putAcq_keep _ _ ?_) (by decide)); on_goal 2 => first | with_reducible rfl | with_reducible exact ⟨rfl, rfl⟩ | (simp +zetaDelta <;> fail))
    exact Frame.refl ..
  split
  extract_lets x6
  have hx6 : Frame [.evt, .acq, .ddr] W s x6 := by
    (with_reducible conv => arg 4; whnf)
    with_reducible refine Frame.eachDo ?_ ?_
    refine Frame.fst (by assumption) ?_
    with_reducible refine Frame.step ?_ (State.unitsTick_frame _ _ ?_ ?_ ?_ ?_ ?_ ?_) (by decide)
    exact hx1
    exact fun _ => hw0 _; exact fun _ => hw1 _; exact hw2; exact hw3; exact hw4; exact hw5
    intro u9 x10 hu11
    with_reducible refine Frame.step ?_ (State.maskFail_frame _ _ ?_ ?_ ?_ ?_) (by decide)
    assumption
    exact hw6 _; exact hw7; exact hw4; exact hw5
  with_reducible refine Frame.whenDo ?_ ?_
  exact hx6
  intro u7 hu8
  with_reducible refine Frame.step ?_ (State.sessionTick_frame _ _ _ _ _ _ ?_ ?_ ?_ ?_ ?_ ?_ ?_ ?_ ?_) (by decide)
  assumption
  exact hw8; exact hw9; exact hw10; exact hw4; exact hw5; exact hw11; exact hw12; exact hw13; exact hw14

theorem State.shotRead_frame {W : Nat → Prop} (s : State) (c : ℕ) : Frame [.acq] W s (State.shotRead s c) := by
  unfold State.shotRead
  ((with_reducible refine Frame.step ?_ (State.putAcq_keep _ _ ?_) (by decide)); on_goal 2 => first | with_reducible rfl | with_reducible exact ⟨rfl, rfl⟩ | (simp +zetaDelta <;> fail))
  exact Frame.refl ..

theorem State.shotEnd_frame {W : Nat → Prop} (s : State) (hw0 : ∀ i0, W (R.TRG_CNT i0)) (hw1 : ∀ i0, W (R.TRG_LAST i0)) (hw2 : W (R.TRG_STAT)) (hw3 : W (R.EVT_PEND (83 / 32))) (hw4 : W (R.EVT_LOST_CNT)) (hw5 : W (R.EVT_STAT)) (hw6 : ∀ i0, W (R.ACQ_MK_CNT i0)) (hw7 : W (R.EVT_PEND (84 / 32))) (hw8 : W (R.ACQ_TIGN_CNT)) (hw9 : W (R.ACQ_STAT)) (hw10 : W (R.EVT_PEND (82 / 32))) (hw11 : W (R.EVT_PEND (16 / 32))) (hw12 : W (R.ACQ_FIFO)) (hw13 : W (R.EVT_PEND (81 / 32))) (hw14 : W (R.ACQ_BLK)) : Frame [.evt, .acq, .ddr] W s (State.shotEnd s) := by
  unfold State.shotEnd
  split
  exact Frame.refl ..
  with_reducible refine Frame.step ?_ (State.shotDone_frame _ _ ?_ ?_ ?_ ?_ ?_ ?_ ?_ ?_ ?_ ?_ ?_ ?_ ?_ ?_ ?_) (by decide)
  with_reducible refine Frame.eachDo ?_ ?_
  exact Frame.refl ..
  intro u0 x1 hu2
  with_reducible refine Frame.step ?_ (State.shotRead_frame _ _) (by decide)
  assumption
  exact fun _ => hw0 _; exact fun _ => hw1 _; exact hw2; exact hw3; exact hw4; exact hw5; exact fun _ => hw6 _; exact hw7; exact hw8; exact hw9; exact hw10; exact hw11; exact hw12; exact hw13; exact hw14

theorem State.ddrAdmit_frame {W : Nat → Prop} (s : State) (hw0 : W (R.ACQ_FIFO)) : Frame [.acq] W s (State.ddrAdmit s) := by
  unfold State.ddrAdmit
  extract_lets x0 x1
  with_reducible refine Frame.step ?_ (State.showFill_frame _ ?_) (by decide)
  ((with_reducible refine Frame.step ?_ (State.putAcq_keep _ _ ?_) (by decide)); on_goal 2 => first | with_reducible rfl | with_reducible exact ⟨rfl, rfl⟩ | (simp +zetaDelta <;> fail))
  exact Frame.refl ..
  exact hw0

theorem State.ddrServe_frame {W : Nat → Prop} (s : State) (hw0 : W (R.ACQ_FIFO)) : Frame [.acq, .ddr] W s (State.ddrServe s) := by
  unfold State.ddrServe
  split
  with_reducible refine Frame.step ?_ (State.ddrAdmit_frame _ ?_) (by decide)
  with_reducible refine Frame.step ?_ (State.ddrWrite_frame _ _ _) (by decide)
  ((with_reducible refine Frame.step ?_ (State.putAcq_keep _ _ ?_) (by decide)); on_goal 2 => first | with_reducible rfl | with_reducible exact ⟨rfl, rfl⟩ | (simp +zetaDelta <;> fail))
  exact Frame.refl ..
  exact hw0
  with_reducible refine Frame.step ?_ (State.ddrAdmit_frame _ ?_) (by decide)
  exact Frame.refl ..
  exact hw0

theorem State.ddrRun_frame {W : Nat → Prop} (s : State) (n : ℕ) (hw0 : W (R.ACQ_FIFO)) : Frame [.acq, .ddr] W s (State.ddrRun s n) := by
  unfold State.ddrRun
  with_reducible refine Frame.eachDo ?_ ?_
  exact Frame.refl ..
  intro u0 x1 hu2
  with_reducible refine Frame.step ?_ (State.ddrServe_frame _ ?_) (by decide)
  assumption
  exact hw0

theorem State.segNext_frame {W : Nat → Prop} (s : State) (hw0 : W (R.ACQ_STAT)) : Frame [.acq, .ddr] W s (State.segNext s) := by
  unfold State.segNext
  with_reducible refine Frame.whenDo ?_ ?_
  exact Frame.refl ..
  intro u0 hu1
  with_reducible refine Frame.step ?_ (State.segStart_frame _ _ ?_) (by decide)
  assumption
  exact hw0

theorem State.fillDone_frame {W : Nat → Prop} (s : State) (hw0 : W (R.ACQ_STAT)) (hw1 : W (R.ACQ_DEAD)) : Frame [.acq, .ddr] W s (State.fillDone s) := by
  unfold State.fillDone
  with_reducible refine Frame.iteOf ?_ ?_
  extract_lets x0 x1 x2 x3
  have hx0 : Frame [.acq, .ddr] W s x0 := by
    (with_reducible conv => arg 4; whnf)
    with_reducible refine Frame.setF ?_ ?_
    exact Frame.refl ..
    exact hw0
  with_reducible refine Frame.iteOf ?_ ?_
  exact hx0
  with_reducible refine Frame.step ?_ (State.segHeader_frame _ _) (by decide)
  ((with_reducible refine Frame.step ?_ (State.putAcq_keep _ _ ?_) (by decide)); on_goal 2 => first | with_reducible rfl | with_reducible exact ⟨rfl, rfl⟩ | (simp +zetaDelta <;> fail))
  with_reducible refine Frame.putReg ?_ ?_
  exact hx0
  exact hw1
  exact Frame.refl ..

theorem State.shotNow_frame {W : Nat → Prop} (s : State) (hw0 : ∀ i0, W (R.TRG_CNT i0)) (hw1 : ∀ i0, W (R.TRG_LAST i0)) (hw2 : W (R.TRG_STAT)) (hw3 : W (R.EVT_PEND (83 / 32))) (hw4 : W (R.EVT_LOST_CNT)) (hw5 : W (R.EVT_STAT)) (hw6 : ∀ i0, W (R.ACQ_MK_CNT i0)) (hw7 : W (R.EVT_PEND (84 / 32))) (hw8 : W (R.ACQ_TIGN_CNT)) (hw9 : W (R.ACQ_STAT)) (hw10 : W (R.EVT_PEND (82 / 32))) (hw11 : W (R.EVT_PEND (16 / 32))) (hw12 : W (R.ACQ_FIFO)) (hw13 : W (R.EVT_PEND (81 / 32))) (hw14 : W (R.ACQ_BLK)) : Frame [.evt, .acq, .ddr] W s (State.shotNow s) := by
  unfold State.shotNow
  split
  exact Frame.refl ..
  with_reducible refine Frame.iteOf ?_ ?_
  with_reducible refine Frame.step ?_ (State.shotDone_frame _ _ ?_ ?_ ?_ ?_ ?_ ?_ ?_ ?_ ?_ ?_ ?_ ?_ ?_ ?_ ?_) (by decide)
  exact Frame.refl ..
  exact fun _ => hw0 _; exact fun _ => hw1 _; exact hw2; exact hw3; exact hw4; exact hw5; exact fun _ => hw6 _; exact hw7; exact hw8; exact hw9; exact hw10; exact hw11; exact hw12; exact hw13; exact hw14
  exact Frame.refl ..

theorem State.shotTake_frame {W : Nat → Prop} (s : State) (hw0 : W (R.ACQ_CTL)) : Frame [.free, .acq] W s (State.shotTake s) := by
  unfold State.shotTake
  extract_lets x0 x1 x2 x3 x4 x5
  have hx3 : Frame [.free, .acq] W s x3 := by
    (with_reducible conv => arg 4; whnf)
    with_reducible refine Frame.whenDo ?_ ?_
    exact Frame.refl ..
    intro u6 hu7
    with_reducible refine Frame.clr ?_ ?_
    assumption
    exact hw0
  have hx5 : Frame [.free, .acq] W s x5 := by
    (with_reducible conv => arg 4; whnf)
    ((with_reducible refine Frame.step ?_ (State.putAcq_keep _ _ ?_) (by decide)); on_goal 2 => first | with_reducible rfl | with_reducible exact ⟨rfl, rfl⟩ | (simp +zetaDelta <;> fail))
    exact hx3
  ((with_reducible refine Frame.upd ?_ ?_); on_goal 2 => (intro p hp; cases p <;> first | exact (hp (by decide)).elim | (dsimp only [Part.same] <;> fail)))
  exact hx5

theorem execAcqTick_frame {W : Nat → Prop} (s : State) (hw0 : ∀ i0, W (R.TRG_CNT i0)) (hw1 : ∀ i0, W (R.TRG_LAST i0)) (hw2 : W (R.TRG_STAT)) (hw3 : W (R.EVT_PEND (83 / 32))) (hw4 : W (R.EVT_LOST_CNT)) (hw5 : W (R.EVT_STAT)) (hw6 : ∀ i0, W (R.ACQ_MK_CNT i0)) (hw7 : W (R.EVT_PEND (84 / 32))) (hw8 : W (R.ACQ_TIGN_CNT)) (hw9 : W (R.ACQ_STAT)) (hw10 : W (R.EVT_PEND (82 / 32))) (hw11 : W (R.EVT_PEND (16 / 32))) (hw12 : W (R.ACQ_FIFO)) (hw13 : W (R.EVT_PEND (81 / 32))) (hw14 : W (R.ACQ_BLK)) (hw15 : W (R.ACQ_DEAD)) (hw16 : W (R.ACQ_CTL)) : Frame.out [.free, .evt, .acq, .ddr] W s (execAcqTick s) := by
  unfold execAcqTick
  split
  with_reducible refine Frame.out_next ?_
  exact Frame.refl ..
  extract_lets x0 x1 x2 x3 x4 x5
  have hx0 : Frame [.free, .evt, .acq, .ddr] W s x0 := by
    (with_reducible conv => arg 4; whnf)
    with_reducible refine Frame.step ?_ (State.shotEnd_frame _ ?_ ?_ ?_ ?_ ?_ ?_ ?_ ?_ ?_ ?_ ?_ ?_ ?_ ?_ ?_) (by decide)
    exact Frame.refl ..
    exact fun _ => hw0 _; exact fun _ => hw1 _; exact hw2; exact hw3; exact hw4; exact hw5; exact fun _ => hw6 _; exact hw7; exact hw8; exact hw9; exact hw10; exact hw11; exact hw12; exact hw13; exact hw14
  have hx2 : Frame [.free, .evt, .acq, .ddr] W s x2 := by
    (with_reducible conv => arg 4; whnf)
    ((with_reducible refine Frame.step ?_ (State.putAcq_keep _ _ ?_) (by decide)); on_goal 2 => first | with_reducible rfl | with_reducible exact ⟨rfl, rfl⟩ | (simp +zetaDelta <;> fail))
    exact hx0
  have hx3 : Frame [.free, .evt, .acq, .ddr] W s x3 := by
    (with_reducible conv => arg 4; whnf)
    with_reducible refine Frame.step ?_ (State.drewFree_frame _) (by decide)
    with_reducible refine Frame.step ?_ (State.ddrRun_frame _ _ ?_) (by decide)
    with_reducible refine Frame.step ?_ (State.ddrAdmit_frame _ ?_) (by decide)
    exact hx2
    exact hw12; exact hw12
  have hx4 : Frame [.free, .evt, .acq, .ddr] W s x4 := by
    (with_reducible conv => arg 4; whnf)
    with_reducible refine Frame.step ?_ (State.segNext_frame _ ?_) (by decide)
    exact hx3
    exact hw9
  have hx5 : Frame [.free, .evt, .acq, .ddr] W s x5 := by
    (with_reducible conv => arg 4; whnf)
    with_reducible refine Frame.whenDo ?_ ?_
    exact hx4
    intro u6 hu7
    with_reducible refine Frame.step ?_ (State.fillDone_frame _ ?_ ?_) (by decide)
    assumption
    exact hw9; exact hw15
  with_reducible refine Frame.out_next ?_
  with_reducible refine Frame.step ?_ (State.shotNow_frame _ ?_ ?_ ?_ ?_ ?_ ?_ ?_ ?_ ?_ ?_ ?_ ?_ ?_ ?_ ?_) (by decide)
  with_reducible refine Frame.step ?_ (State.shotTake_frame _ ?_) (by decide)
  exact hx5
  exact hw16; exact fun _ => hw0 _; exact fun _ => hw1 _; exact hw2; exact hw3; exact hw4; exact hw5; exact fun _ => hw6 _; exact hw7; exact hw8; exact hw9; exact hw10; exact hw11; exact hw12; exact hw13; exact hw14

theorem execCaptureDrainEnd_frame {W : Nat → Prop} (s : State) (hw0 : W (R.ACQ_FIFO)) (hw1 : W (R.ACQ_STAT)) (hw2 : W (R.EVT_PEND (80 / 32))) (hw3 : W (R.EVT_LOST_CNT)) (hw4 : W (R.EVT_STAT)) : Frame.out [.evt, .acq, .ddr] W s (execCaptureDrainEnd s) := by
  unfold execCaptureDrainEnd
  split
  extract_lets x0 x1
  have hx1 : Frame [.evt, .acq, .ddr] W s x1 := by
    (with_reducible conv => arg 4; whnf)
    with_reducible refine Frame.step ?_ (State.fifoFlush_frame _ ?_) (by decide)
    ((with_reducible refine Frame.step ?_ (State.putAcq_keep _ _ ?_) (by decide)); on_goal 2 => first | with_reducible rfl | with_reducible exact ⟨rfl, rfl⟩ | (simp +zetaDelta <;> fail))
    exact Frame.refl ..
    exact hw0
  with_reducible refine Frame.out_next ?_
  with_reducible refine Frame.step ?_ (State.raise_frame _ _ _ _ ?_ ?_ ?_) (by decide)
  with_reducible refine Frame.setF ?_ ?_
  exact hx1
  exact hw1; exact hw2; exact hw3; exact hw4
  with_reducible refine Frame.out_next ?_
  exact Frame.refl ..

theorem execArm_frame {W : Nat → Prop} (val : Word) (s : State) (hw0 : W (R.GLB_ACC_ERR)) (hw1 : W (R.ACQ_STAT)) (hw2 : W (R.ACQ_BSIZE)) (hw3 : W (R.ACQ_BLK)) (hw4 : W (R.ACQ_CTL)) (hw5 : W (R.ACQ_FIFO)) (hw6 : W (R.EVT_PEND (81 / 32))) (hw7 : W (R.EVT_LOST_CNT)) (hw8 : W (R.EVT_STAT)) : Frame.out [.evt, .acq, .ddr] W s (execArm val s) := by
  unfold execArm
  with_reducible refine Frame.out_next ?_
  with_reducible refine State.bar0Write_frame _ _ _ ?_ (by decide) ?_ ?_
  exact hw0
  exact Frame.refl ..
  intro u0 hu1
  with_reducible refine Frame.step ?_ (State.acqCtl_frame _ _ ?_ ?_ ?_ ?_ ?_ ?_ ?_ ?_) (by decide)
  assumption
  exact hw1; exact hw2; exact hw3; exact hw4; exact hw5; exact hw6; exact hw7; exact hw8

theorem execStop_frame {W : Nat → Prop} (val : Word) (s : State) (hw0 : W (R.GLB_ACC_ERR)) (hw1 : W (R.ACQ_STAT)) (hw2 : W (R.ACQ_BSIZE)) (hw3 : W (R.ACQ_BLK)) (hw4 : W (R.ACQ_CTL)) (hw5 : W (R.ACQ_FIFO)) (hw6 : W (R.EVT_PEND (81 / 32))) (hw7 : W (R.EVT_LOST_CNT)) (hw8 : W (R.EVT_STAT)) : Frame.out [.evt, .acq, .ddr] W s (execStop val s) := by
  unfold execStop
  with_reducible refine Frame.out_next ?_
  with_reducible refine State.bar0Write_frame _ _ _ ?_ (by decide) ?_ ?_
  exact hw0
  exact Frame.refl ..
  intro u0 hu1
  with_reducible refine Frame.step ?_ (State.acqCtl_frame _ _ ?_ ?_ ?_ ?_ ?_ ?_ ?_ ?_) (by decide)
  assumption
  exact hw1; exact hw2; exact hw3; exact hw4; exact hw5; exact hw6; exact hw7; exact hw8

theorem execSwtrig_frame {W : Nat → Prop} (val : Word) (s : State) (hw0 : W (R.GLB_ACC_ERR)) (hw1 : W (R.ACQ_STAT)) (hw2 : W (R.ACQ_BSIZE)) (hw3 : W (R.ACQ_BLK)) (hw4 : W (R.ACQ_CTL)) (hw5 : W (R.ACQ_FIFO)) (hw6 : W (R.EVT_PEND (81 / 32))) (hw7 : W (R.EVT_LOST_CNT)) (hw8 : W (R.EVT_STAT)) : Frame.out [.evt, .acq, .ddr] W s (execSwtrig val s) := by
  unfold execSwtrig
  with_reducible refine Frame.out_next ?_
  with_reducible refine State.bar0Write_frame _ _ _ ?_ (by decide) ?_ ?_
  exact hw0
  exact Frame.refl ..
  intro u0 hu1
  with_reducible refine Frame.step ?_ (State.acqCtl_frame _ _ ?_ ?_ ?_ ?_ ?_ ?_ ?_ ?_) (by decide)
  assumption
  exact hw1; exact hw2; exact hw3; exact hw4; exact hw5; exact hw6; exact hw7; exact hw8

theorem execTriggerUnitEnable_frame {W : Nat → Prop} (u : Fin 16) (val : Word) (s : State) (hw0 : W (R.GLB_ACC_ERR)) (hw1 : W (R.TRG_CFG ↑u)) (hw2 : W (R.TRG_STAT)) : Frame.out [.acq] W s (execTriggerUnitEnable u val s) := by
  unfold execTriggerUnitEnable
  with_reducible refine Frame.out_next ?_
  with_reducible refine State.bar0Write_frame _ _ _ ?_ (by decide) ?_ ?_
  exact hw0
  exact Frame.refl ..
  intro u0 hu1
  with_reducible refine Frame.step ?_ (State.trgWrite_frame _ _ _ ?_ ?_) (by decide)
  assumption
  exact hw1; exact hw2

theorem execRegisterMarkGateClose_frame {W : Nat → Prop} (k : Fin 16) (s : State) (hw0 : W (R.ACQ_RM_STAT ↑k)) : Frame.out [.acq] W s (execRegisterMarkGateClose k s) := by
  unfold execRegisterMarkGateClose
  with_reducible refine Frame.out_next ?_
  with_reducible refine Frame.step ?_ (State.markEval_frame _ _ ?_) (by decide)
  exact Frame.refl ..
  exact hw0

theorem execRegisterMarkResult_frame {W : Nat → Prop} (k : Fin 16) (s : State) (hw0 : W (R.ACQ_RM_ERR ↑k)) (hw1 : W (R.EVT_PEND (85 / 32))) (hw2 : W (R.EVT_LOST_CNT)) (hw3 : W (R.EVT_STAT)) : Frame.out [.evt, .acq] W s (execRegisterMarkResult k s) := by
  unfold execRegisterMarkResult
  extract_lets x0
  split
  with_reducible refine Frame.out_next ?_
  exact Frame.refl ..
  split
  extract_lets x1 x2
  have hx1 : Frame [.evt, .acq] W s x1 := by
    (with_reducible conv => arg 4; whnf)
    with_reducible refine Frame.step ?_ (State.putMark_frame _ _ _) (by decide)
    exact Frame.refl ..
  have hx2 : Frame [.evt, .acq] W s x2 := by
    (with_reducible conv => arg 4; whnf)
    split
    with_reducible refine Frame.putReg ?_ ?_
    exact hx1
    exact hw0
    exact hx1
  with_reducible refine Frame.out_next ?_
  with_reducible refine Frame.step ?_ (State.raise_frame _ _ _ _ ?_ ?_ ?_) (by decide)
  exact hx2
  exact hw1; exact hw2; exact hw3
  with_reducible refine Frame.out_next ?_
  exact Frame.refl ..

theorem State.ddrEvent_frame {W : Nat → Prop} (s : State) (hw0 : W (R.EVT_PEND (86 / 32))) (hw1 : W (R.EVT_LOST_CNT)) (hw2 : W (R.EVT_STAT)) : Frame [.evt] W s (State.ddrEvent s) := by
  unfold State.ddrEvent
  with_reducible refine Frame.step ?_ (State.raise_frame _ _ _ _ ?_ ?_ ?_) (by decide)
  exact Frame.refl ..
  exact hw0; exact hw1; exact hw2

theorem State.ddrUe_frame {W : Nat → Prop} (s : State) (addr : ℕ) (hw0 : W (R.DDR_STAT)) (hw1 : W (R.DDR_UE_CNT)) (hw2 : W (R.DDR_UE_ADDR)) (hw3 : W (R.EVT_PEND (86 / 32))) (hw4 : W (R.EVT_LOST_CNT)) (hw5 : W (R.EVT_STAT)) (hw6 : W (R.ACQ_STAT)) (hw7 : W (R.ACQ_FIFO)) (hw8 : W (R.EVT_PEND (81 / 32))) : Frame [.evt, .acq, .ddr] W s (State.ddrUe s addr) := by
  unfold State.ddrUe
  extract_lets x0 x1 x2
  have hx0 : Frame [.evt, .acq, .ddr] W s x0 := by
    (with_reducible conv => arg 4; whnf)
    with_reducible refine Frame.incSat ?_ ?_
    with_reducible refine Frame.set1 ?_ ?_
    exact Frame.refl ..
    exact hw0; exact hw1
  have hx1 : Frame [.evt, .acq, .ddr] W s x1 := by
    (with_reducible conv => arg 4; whnf)
    with_reducible refine Frame.whenDo ?_ ?_
    exact hx0
    intro u5 hu6
    with_reducible refine Frame.set1 ?_ ?_
    with_reducible refine Frame.setF ?_ ?_
    assumption
    exact hw2; exact hw2
  have hx2 : Frame [.evt, .acq, .ddr] W s x2 := by
    (with_reducible conv => arg 4; whnf)
    with_reducible refine Frame.step ?_ (State.ddrEvent_frame _ ?_ ?_ ?_) (by decide)
    exact hx1
    exact hw3; exact hw4; exact hw5
  with_reducible refine Frame.whenDo ?_ ?_
  exact hx2
  intro u3 hu4
  with_reducible refine Frame.step ?_ (State.acqStop_frame _ _ ?_ ?_ ?_ ?_ ?_) (by decide)
  assumption
  exact hw6; exact hw7; exact hw8; exact hw4; exact hw5

theorem execDdrUncorrectableError_frame {W : Nat → Prop} (addr : ℕ) (s : State) (hw0 : W (R.DDR_STAT)) (hw1 : W (R.DDR_UE_CNT)) (hw2 : W (R.DDR_UE_ADDR)) (hw3 : W (R.EVT_PEND (86 / 32))) (hw4 : W (R.EVT_LOST_CNT)) (hw5 : W (R.EVT_STAT)) (hw6 : W (R.ACQ_STAT)) (hw7 : W (R.ACQ_FIFO)) (hw8 : W (R.EVT_PEND (81 / 32))) : Frame.out [.evt, .acq, .ddr] W s (execDdrUncorrectableError addr s) := by
  unfold execDdrUncorrectableError
  extract_lets x0 x1
  have hx0 : Frame [.evt, .acq, .ddr] W s x0 := by
    (with_reducible conv => arg 4; whnf)
    with_reducible refine Frame.step ?_ (State.ddrUe_frame _ _ ?_ ?_ ?_ ?_ ?_ ?_ ?_ ?_ ?_) (by decide)
    exact Frame.refl ..
    exact hw0; exact hw1; exact hw2; exact hw3; exact hw4; exact hw5; exact hw6; exact hw7; exact hw8
  with_reducible refine Frame.out_next ?_
  with_reducible refine Frame.iteOf ?_ ?_
  exact hx0
  ((with_reducible refine Frame.step ?_ (State.putAcq_keep _ _ ?_) (by decide)); on_goal 2 => first | with_reducible rfl | with_reducible exact ⟨rfl, rfl⟩ | (simp +zetaDelta <;> fail))
  exact hx0

theorem execDdrTrainingLoss_frame {W : Nat → Prop} (s : State) (hw0 : W (R.DDR_STAT)) (hw1 : W (R.EVT_PEND (86 / 32))) (hw2 : W (R.EVT_LOST_CNT)) (hw3 : W (R.EVT_STAT)) (hw4 : W (R.ACQ_STAT)) (hw5 : W (R.ACQ_FIFO)) (hw6 : W (R.EVT_PEND (81 / 32))) : Frame.out [.evt, .acq, .ddr] W s (execDdrTrainingLoss s) := by
  unfold execDdrTrainingLoss
  extract_lets x0
  have hx0 : Frame [.evt, .acq, .ddr] W s x0 := by
    (with_reducible conv => arg 4; whnf)
    with_reducible refine Frame.step ?_ (State.ddrEvent_frame _ ?_ ?_ ?_) (by decide)
    with_reducible refine Frame.clr ?_ ?_
    with_reducible refine Frame.set1 ?_ ?_
    exact Frame.refl ..
    exact hw0; exact hw0; exact hw1; exact hw2; exact hw3
  with_reducible refine Frame.out_next ?_
  with_reducible refine Frame.whenDo ?_ ?_
  exact hx0
  intro u1 hu2
  with_reducible refine Frame.step ?_ (State.acqStop_frame _ _ ?_ ?_ ?_ ?_ ?_) (by decide)
  assumption
  exact hw4; exact hw5; exact hw6; exact hw2; exact hw3

theorem execTrain_frame {W : Nat → Prop} (val : Word) (s : State) (hw0 : W (R.GLB_ACC_ERR)) (hw1 : W (R.DDR_CTL)) : Frame.out [] W s (execTrain val s) := by
  unfold execTrain
  with_reducible refine Frame.out_next ?_
  with_reducible refine State.bar0Write_frame _ _ _ ?_ (by decide) ?_ ?_
  exact hw0
  exact Frame.refl ..
  intro u0 hu1
  with_reducible refine Frame.step ?_ (State.ddrTrain_frame _ _ ?_) (by decide)
  assumption
  exact hw1

theorem execDdrTrainingDone_frame {W : Nat → Prop} (ok : Bool) (s : State) (hw0 : W (R.DDR_CTL)) (hw1 : W (R.DDR_STAT)) : Frame.out [] W s (execDdrTrainingDone ok s) := by
  unfold execDdrTrainingDone
  split
  extract_lets x0 x1
  have hx1 : Frame [] W s x1 := by
    (with_reducible conv => arg 4; whnf)
    with_reducible refine Frame.setB ?_ ?_
    with_reducible refine Frame.clr ?_ ?_
    exact Frame.refl ..
    exact hw0; exact hw1
  with_reducible refine Frame.out_next ?_
  with_reducible refine Frame.iteOf ?_ ?_
  exact hx1
  with_reducible refine Frame.set1 ?_ ?_
  exact hx1
  exact hw1
  with_reducible refine Frame.out_next ?_
  exact Frame.refl ..

theorem State.putCore_frame {W : Nat → Prop} (s : State) (k : ℕ) (c : Core) : Frame [.hif] W s (State.putCore s k c) := by
  unfold State.putCore
  ((with_reducible refine Frame.upd ?_ ?_); on_goal 2 => (intro p hp; cases p <;> first | exact (hp (by decide)).elim | (dsimp only [Part.same] <;> fail)))
  exact Frame.refl ..

theorem State.coreEnds_frame {W : Nat → Prop} (s : State) (t : PktTag) : Frame [.hif] W s (State.coreEnds s t) := by
  unfold State.coreEnds
  with_reducible refine Frame.eachDo ?_ ?_
  exact Frame.refl ..
  intro u0 x1 hu2
  split
  with_reducible refine Frame.iteOf ?_ ?_
  with_reducible refine Frame.step ?_ (State.putCore_frame _ _ _) (by decide)
  assumption
  assumption
  assumption

theorem State.packetEnds_frame {W : Nat → Prop} (s : State) (t : Option PktTag) (status : ℕ) (detail : ℕ) (res : List Word) : Frame [.hif] W s (State.packetEnds s t status detail res) := by
  unfold State.packetEnds
  split
  exact Frame.refl ..
  with_reducible refine Frame.step ?_ (State.coreEnds_frame _ _) (by decide)
  with_reducible refine Frame.step ?_ (State.finish_frame _ _ _ _ _ _) (by decide)
  exact Frame.refl ..

theorem State.markWork_frame {W : Nat → Prop} (s : State) (a : ℕ) (g : LawWork → LawWork) : Frame [.piers] W s (State.markWork s a g) := by
  unfold State.markWork
  split
  exact Frame.refl ..
  with_reducible refine Frame.step ?_ (State.putPier_frame _ _ _) (by decide)
  exact Frame.refl ..

theorem State.ddrCorrect_frame {W : Nat → Prop} (s : State) (n : ℕ) (hw0 : W (R.DDR_STAT)) (hw1 : W (R.DDR_CE_CNT)) : Frame [] W s (State.ddrCorrect s n) := by
  unfold State.ddrCorrect
  with_reducible refine Frame.whenDo ?_ ?_
  exact Frame.refl ..
  intro u0 hu1
  with_reducible refine Frame.incSat ?_ ?_
  with_reducible refine Frame.set1 ?_ ?_
  assumption
  exact hw0; exact hw1

theorem State.msixSend_frame {W : Nat → Prop} (s : State) (v : ℕ) : Frame [.evt] W s (State.msixSend s v) := by
  unfold State.msixSend
  ((with_reducible refine Frame.upd ?_ ?_); on_goal 2 => (intro p hp; cases p <;> first | exact (hp (by decide)).elim | (dsimp only [Part.same] <;> fail)))
  exact Frame.refl ..

theorem State.msixRelease_frame {W : Nat → Prop} (s : State) : Frame [.evt] W s (State.msixRelease s) := by
  unfold State.msixRelease
  with_reducible refine Frame.eachDo ?_ ?_
  exact Frame.refl ..
  intro u0 x1 hu2
  with_reducible refine Frame.whenDo ?_ ?_
  assumption
  intro u3 hu4
  with_reducible refine Frame.step ?_ (State.msixSend_frame _ _) (by decide)
  assumption

theorem State.evtAppend_frame {W : Nat → Prop} (s : State) (src : ℕ) (count : ℕ) (t : NetTime) (detail : BitVec 16) (data : Word) (hw0 : ∀ i0, W (R.EVT_QUEUE i0)) (hw1 : ∀ i0, W (R.EVT_QUEUE i0 + 4)) (hw2 : ∀ i0, W (R.EVT_QUEUE i0 + 8)) (hw3 : ∀ i0, W (R.EVT_QUEUE i0 + 12)) (hw4 : W (R.EVT_TAIL)) : Frame [.evt] W s (State.evtAppend s src count t detail data) := by
  unfold State.evtAppend
  extract_lets x0 x1 x2 x3 x4 x5 x6 x7 x8
  have hx3 : Frame [.evt] W s x3 := by
    (with_reducible conv => arg 4; whnf)
    with_reducible refine Frame.putReg ?_ ?_
    with_reducible refine Frame.putReg ?_ ?_
    with_reducible refine Frame.putReg ?_ ?_
    with_reducible refine Frame.putReg ?_ ?_
    exact Frame.refl ..
    exact hw0 _; exact hw1 _; exact hw2 _; exact hw3 _
  have hx4 : Frame [.evt] W s x4 := by
    (with_reducible conv => arg 4; whnf)
    with_reducible refine Frame.setF ?_ ?_
    exact hx3
    exact hw4
  have hx5 : Frame [.evt] W s x5 := by
    (with_reducible conv => arg 4; whnf)
    with_reducible refine Frame.whenDo ?_ ?_
    exact hx4
    intro u11 hu12
    with_reducible refine Frame.setB ?_ ?_
    assumption
    exact hw4
  have hx7 : Frame [.evt] W s x7 := by
    (with_reducible conv => arg 4; whnf)
    ((with_reducible refine Frame.upd ?_ ?_); on_goal 2 => (intro p hp; cases p <;> first | exact (hp (by decide)).elim | (dsimp only [Part.same] <;> fail)))
    exact hx5
  with_reducible refine Frame.whenDo ?_ ?_
  exact hx7
  intro u9 hu10
  with_reducible refine Frame.step ?_ (State.vecCount_frame _ _) (by decide)
  assumption

theorem State.evtWriteLoss_frame {W : Nat → Prop} (s : State) (hw0 : W (R.EVT_PEND (4 / 32))) (hw1 : ∀ i0, W (R.EVT_QUEUE i0)) (hw2 : ∀ i0, W (R.EVT_QUEUE i0 + 4)) (hw3 : ∀ i0, W (R.EVT_QUEUE i0 + 8)) (hw4 : ∀ i0, W (R.EVT_QUEUE i0 + 12)) (hw5 : W (R.EVT_TAIL)) : Frame [.evt] W s (State.evtWriteLoss s) := by
  unfold State.evtWriteLoss
  extract_lets x0 x1 x2 x3
  have hx2 : Frame [.evt] W s x2 := by
    (with_reducible conv => arg 4; whnf)
    with_reducible refine Frame.step ?_ (State.evtAppend_frame _ _ _ _ _ _ ?_ ?_ ?_ ?_ ?_) (by decide)
    with_reducible refine Frame.step ?_ (State.evtPend_frame _ _ ?_) (by decide)
    exact Frame.refl ..
    exact hw0; exact fun _ => hw1 _; exact fun _ => hw2 _; exact fun _ => hw3 _; exact fun _ => hw4 _; exact hw5
  ((with_reducible refine Frame.upd ?_ ?_); on_goal 2 => (intro p hp; cases p <;> first | exact (hp (by decide)).elim | (dsimp only [Part.same] <;> fail)))
  exact hx2

theorem execEvtHeadWrite_frame {W : Nat → Prop} (val : Word) (s : State) (hw0 : W (R.GLB_ACC_ERR)) (hw1 : W (R.EVT_HEAD)) : Frame.out [] W s (execEvtHeadWrite val s) := by
  unfold execEvtHeadWrite
  with_reducible refine Frame.out_next ?_
  with_reducible refine State.bar0Write_frame _ _ _ ?_ (by decide) ?_ ?_
  exact hw0
  exact Frame.refl ..
  intro u0 hu1
  with_reducible refine Frame.step ?_ (State.evtHead_frame _ _ ?_) (by decide)
  assumption
  exact hw1

theorem execVectorTimeExpiry_frame {W : Nat → Prop} (v : Fin 32) (s : State) : Frame.out [.evt] W s (execVectorTimeExpiry v s) := by
  unfold execVectorTimeExpiry
  extract_lets x0 x1 x2 x3
  split
  with_reducible refine Frame.out_next ?_
  ((with_reducible refine Frame.upd ?_ ?_); on_goal 2 => (intro p hp; cases p <;> first | exact (hp (by decide)).elim | (dsimp only [Part.same] <;> fail)))
  exact Frame.refl ..
  with_reducible refine Frame.out_next ?_
  exact Frame.refl ..

theorem State.msixHold_frame {W : Nat → Prop} (s : State) (v : ℕ) : Frame [.evt] W s (State.msixHold s v) := by
  unfold State.msixHold
  ((with_reducible refine Frame.upd ?_ ?_); on_goal 2 => (intro p hp; cases p <;> first | exact (hp (by decide)).elim | (dsimp only [Part.same] <;> fail)))
  exact Frame.refl ..

theorem execMsixMessage_frame {W : Nat → Prop} (v : Fin 32) (s : State) : Frame.out [.evt] W s (execMsixMessage v s) := by
  unfold execMsixMessage
  split
  with_reducible refine Frame.out_next ?_
  exact Frame.refl ..
  extract_lets x0 x1
  have hx1 : Frame [.evt] W s x1 := by
    (with_reducible conv => arg 4; whnf)
    ((with_reducible refine Frame.upd ?_ ?_); on_goal 2 => (intro p hp; cases p <;> first | exact (hp (by decide)).elim | (dsimp only [Part.same] <;> fail)))
    exact Frame.refl ..
  with_reducible refine Frame.out_next ?_
  with_reducible refine Frame.iteOf ?_ ?_
  with_reducible refine Frame.step ?_ (State.msixHold_frame _ _) (by decide)
  exact hx1
  with_reducible refine Frame.step ?_ (State.msixSend_frame _ _) (by decide)
  exact hx1

theorem execMsixVectorUnmask_frame {W : Nat → Prop} (v : Fin 32) (s : State) : Frame.out [.evt] W s (execMsixVectorUnmask v s) := by
  unfold execMsixVectorUnmask
  extract_lets x0 x1
  have hx1 : Frame [.evt] W s x1 := by
    (with_reducible conv => arg 4; whnf)
    ((with_reducible refine Frame.upd ?_ ?_); on_goal 2 => (intro p hp; cases p <;> first | exact (hp (by decide)).elim | (dsimp only [Part.same] <;> fail)))
    exact Frame.refl ..
  with_reducible refine Frame.out_next ?_
  with_reducible refine Frame.whenDo ?_ ?_
  exact hx1
  intro u2 hu3
  with_reducible refine Frame.step ?_ (State.msixSend_frame _ _) (by decide)
  assumption

end Sys2Proof.Machine
end

