-- ==== Sys2Proof/Laws/FramePier.lean ====
section
/-! SUPPORT. The frame of each operation and of each command of the pier engines: the parts and the registers it may change.
Each hypothesis says that the frame's set of registers holds one register that the operation writes. -/

set_option linter.all false
set_option maxRecDepth 4000

namespace Sys2Proof.Machine

theorem State.pierService_frame {W : Nat → Prop} (s : State) (p : ℕ) (hw0 : ∀ i0, W (R.PIR_RES p i0)) (hw1 : W (R.PIR_STAT p)) : Frame [.piers] W s (State.pierService s p) := by
  unfold State.pierService
  extract_lets x0 x1
  have hx1 : Frame [.piers] W s x1 := by
    (with_reducible conv => arg 4; whnf)
    with_reducible refine Frame.step ?_ (State.putPier_frame _ _ _) (by decide)
    exact Frame.refl ..
  with_reducible refine Frame.setF ?_ ?_
  with_reducible refine Frame.eachDo ?_ ?_
  exact hx1
  intro u2 x3 hu4
  with_reducible refine Frame.step ?_ (State.putSlot_frame _ _ _ _ ?_) (by decide)
  assumption
  exact hw0 _; exact hw1

theorem State.pirOnline_frame {W : Nat → Prop} (s : State) (p : ℕ) (hw0 : ∀ i0, W (R.PIR_RES p i0)) (hw1 : W (R.PIR_STAT p)) : Frame [.piers] W s (State.pirOnline s p) := by
  unfold State.pirOnline
  with_reducible refine Frame.iteOf ?_ ?_
  with_reducible refine Frame.step ?_ (State.pierService_frame _ _ ?_ ?_) (by decide)
  exact Frame.refl ..
  exact fun _ => hw0 _; exact hw1
  exact Frame.refl ..

theorem State.repin_frame {W : Nat → Prop} (s : State) (a : ℕ) (hw0 : ∀ i0 i1, W (R.PIR_RES i0 i1)) (hw1 : W (R.AXT_W2 a)) (hw2 : W (R.AXT_W0 a)) (hw3 : W (R.AXT_STAT)) (hw4 : W (R.AXT_FLT_MAP (a / 32))) (hw5 : W (R.EVT_PEND (48 / 32))) (hw6 : W (R.EVT_LOST_CNT)) (hw7 : W (R.EVT_STAT)) : Frame [.evt, .dsp, .piers, .axes] W s (State.repin s a) := by
  unfold State.repin
  extract_lets x0
  have hx0 : Frame [.evt, .dsp, .piers, .axes] W s x0 := by
    (with_reducible conv => arg 4; whnf)
    with_reducible refine Frame.step ?_ (State.unplace_frame _ _ ?_ ?_) (by decide)
    with_reducible refine Frame.step ?_ (State.dropPending_frame _ _) (by decide)
    exact Frame.refl ..
    exact fun _ _ => hw0 _ _; exact hw1
  split
  extract_lets x1 x2
  have hx1 : Frame [.evt, .dsp, .piers, .axes] W s x1 := by
    (with_reducible conv => arg 4; whnf)
    with_reducible refine Frame.step ?_ (State.startLoad_frame _ _ _ ?_ ?_) (by decide)
    exact hx0
    exact fun _ _ => hw0 _ _; exact hw1
  with_reducible refine Frame.step ?_ (State.putAxis_frame _ _ _) (by decide)
  exact hx1
  with_reducible refine Frame.step ?_ (State.axisFaultMark_frame _ _ _ ?_ ?_ ?_ ?_ ?_) (by decide)
  with_reducible refine Frame.set1 ?_ ?_
  with_reducible refine Frame.step ?_ (State.axisDisable_frame _ _ ?_ ?_ ?_) (by decide)
  exact hx0
  exact hw2; exact hw1; exact fun _ _ => hw0 _ _; exact hw3; exact hw1; exact hw4; exact hw5; exact hw6; exact hw7

theorem State.loseHome_frame {W : Nat → Prop} (s : State) (a : ℕ) (hw0 : ∀ i0 i1, W (R.PIR_RES i0 i1)) (hw1 : W (R.AXT_W2 a)) : Frame [.axes] W s (State.loseHome s a) := by
  unfold State.loseHome
  extract_lets x0 x1 x2
  have hx0 : Frame [.axes] W s x0 := by
    (with_reducible conv => arg 4; whnf)
    with_reducible refine Frame.step ?_ (State.dropSlot_frame _ _ _ ?_) (by decide)
    exact Frame.refl ..
    exact fun _ => hw0 _ _
  have hx1 : Frame [.axes] W s x1 := by
    (with_reducible conv => arg 4; whnf)
    with_reducible refine Frame.eachDo ?_ ?_
    exact hx0
    intro u3 x4 hu5
    with_reducible refine Frame.step ?_ (State.dropSlot_frame _ _ _ ?_) (by decide)
    assumption
    exact fun _ => hw0 _ _
  with_reducible refine Frame.step ?_ (State.putAxis_frame _ _ _) (by decide)
  with_reducible refine Frame.clr ?_ ?_
  exact hx1
  exact hw1

theorem State.rehome_frame {W : Nat → Prop} (s : State) (p : ℕ) (hw0 : ∀ i0 i1, W (R.PIR_RES i0 i1)) (hw1 : ∀ i0, W (R.AXT_W2 i0)) (hw2 : ∀ i0, W (R.AXT_W0 i0)) (hw3 : W (R.AXT_STAT)) (hw4 : ∀ i0, W (R.AXT_FLT_MAP i0)) (hw5 : W (R.EVT_PEND (48 / 32))) (hw6 : W (R.EVT_LOST_CNT)) (hw7 : W (R.EVT_STAT)) : Frame [.evt, .dsp, .piers, .axes] W s (State.rehome s p) := by
  unfold State.rehome
  extract_lets x0
  with_reducible refine Frame.eachDo ?_ ?_
  exact Frame.refl ..
  intro u1 x2 hu3
  with_reducible refine Frame.iteOf ?_ ?_
  assumption
  with_reducible refine Frame.iteOf ?_ ?_
  with_reducible refine Frame.step ?_ (State.repin_frame _ _ ?_ ?_ ?_ ?_ ?_ ?_ ?_ ?_) (by decide)
  assumption
  exact fun _ _ => hw0 _ _; exact hw1 _; exact hw2 _; exact hw3; exact hw4 _; exact hw5; exact hw6; exact hw7
  with_reducible refine Frame.step ?_ (State.loseHome_frame _ _ ?_ ?_) (by decide)
  assumption
  exact fun _ _ => hw0 _ _; exact hw1 _

theorem State.pierOffline_frame {W : Nat → Prop} (s : State) (p : ℕ) (hw0 : W (R.PIR_STAT p)) (hw1 : ∀ i0 i1, W (R.PIR_RES i0 i1)) (hw2 : ∀ i0, W (R.AXT_W2 i0)) (hw3 : ∀ i0, W (R.AXT_W0 i0)) (hw4 : W (R.AXT_STAT)) (hw5 : ∀ i0, W (R.AXT_FLT_MAP i0)) (hw6 : W (R.EVT_PEND (48 / 32))) (hw7 : W (R.EVT_LOST_CNT)) (hw8 : W (R.EVT_STAT)) (hw9 : W (R.PIR_CTL p)) : Frame [.evt, .dsp, .piers, .axes] W s (State.pierOffline s p) := by
  unfold State.pierOffline
  extract_lets x0 x1 x2
  have hx0 : Frame [.evt, .dsp, .piers, .axes] W s x0 := by
    (with_reducible conv => arg 4; whnf)
    with_reducible refine Frame.step ?_ (State.unassign_frame _ _) (by decide)
    exact Frame.refl ..
  have hx2 : Frame [.evt, .dsp, .piers, .axes] W s x2 := by
    (with_reducible conv => arg 4; whnf)
    with_reducible refine Frame.step ?_ (State.putPier_frame _ _ _) (by decide)
    with_reducible refine Frame.setF ?_ ?_
    exact hx0
    exact hw0
  with_reducible refine Frame.clr ?_ ?_
  with_reducible refine Frame.step ?_ (State.rehome_frame _ _ ?_ ?_ ?_ ?_ ?_ ?_ ?_ ?_) (by decide)
  exact hx2
  exact fun _ _ => hw1 _ _; exact fun _ => hw2 _; exact fun _ => hw3 _; exact hw4; exact fun _ => hw5 _; exact hw6; exact hw7; exact hw8; exact hw9

theorem State.pirOffline_frame {W : Nat → Prop} (s : State) (p : ℕ) (hw0 : W (R.PIR_STAT p)) (hw1 : W (R.PIR_CTL p)) (hw2 : ∀ i0 i1, W (R.PIR_RES i0 i1)) (hw3 : ∀ i0, W (R.AXT_W2 i0)) (hw4 : ∀ i0, W (R.AXT_W0 i0)) (hw5 : W (R.AXT_STAT)) (hw6 : ∀ i0, W (R.AXT_FLT_MAP i0)) (hw7 : W (R.EVT_PEND (48 / 32))) (hw8 : W (R.EVT_LOST_CNT)) (hw9 : W (R.EVT_STAT)) : Frame [.evt, .dsp, .piers, .axes] W s (State.pirOffline s p) := by
  unfold State.pirOffline
  with_reducible refine Frame.iteOf ?_ ?_
  extract_lets x0
  have hx0 : Frame [.evt, .dsp, .piers, .axes] W s x0 := by
    (with_reducible conv => arg 4; whnf)
    with_reducible refine Frame.step ?_ (State.unassign_frame _ _) (by decide)
    exact Frame.refl ..
  with_reducible refine Frame.iteOf ?_ ?_
  with_reducible refine Frame.set1 ?_ ?_
  with_reducible refine Frame.setF ?_ ?_
  exact hx0
  exact hw0; exact hw1
  with_reducible refine Frame.step ?_ (State.pierOffline_frame _ _ ?_ ?_ ?_ ?_ ?_ ?_ ?_ ?_ ?_ ?_) (by decide)
  exact hx0
  exact hw0; exact fun _ _ => hw2 _ _; exact fun _ => hw3 _; exact fun _ => hw4 _; exact hw5; exact fun _ => hw6 _; exact hw7; exact hw8; exact hw9; exact hw1
  exact Frame.refl ..

theorem State.flowSeen_frame {W : Nat → Prop} (s : State) (p : ℕ) (a : ℕ) : Frame [.dsp] W s (State.flowSeen s p a) := by
  unfold State.flowSeen
  split
  with_reducible refine Frame.whenDo ?_ ?_
  exact Frame.refl ..
  intro u0 hu1
  ((with_reducible refine Frame.upd ?_ ?_); on_goal 2 => (intro p hp; cases p <;> first | exact (hp (by decide)).elim | (dsimp only [Part.same] <;> fail)))
  assumption
  exact Frame.refl ..

theorem State.writeBack_frame {W : Nat → Prop} (s : State) (a : ℕ) (d : AxisDyn) : Frame [.deck] W s (State.writeBack s a d) := by
  unfold State.writeBack
  extract_lets x0 x1
  have hx0 : Frame [.deck] W s x0 := by
    (with_reducible conv => arg 4; whnf)
    with_reducible refine Frame.step ?_ (State.putDyn_frame _ _ _) (by decide)
    exact Frame.refl ..
  ((with_reducible refine Frame.upd ?_ ?_); on_goal 2 => (intro p hp; cases p <;> first | exact (hp (by decide)).elim | (dsimp only [Part.same] <;> fail)))
  exact hx0

theorem State.law13_frame {W : Nat → Prop} (s : State) (w : LawWork) (hw0 : ∀ i0, W (R.CLN_STAT i0)) (hw1 : ∀ i0, W (R.ENC_STAT i0)) : Frame [.deck, .deckMem, .pwr] W s (State.law13 s w) := by
  unfold State.law13
  split
  exact Frame.refl ..
  extract_lets x0
  have hx0 : Frame [.deck, .deckMem, .pwr] W s x0 := by
    (with_reducible conv => arg 4; whnf)
    with_reducible refine Frame.iteOf ?_ ?_
    with_reducible refine Frame.step ?_ (State.laneWrite_frame _ _ _ _ _ _ ?_ ?_) (by decide)
    exact Frame.refl ..
    exact hw0 _; exact fun _ => hw1 _
    with_reducible refine Frame.step ?_ (State.cmdWrite_frame _ _ _) (by decide)
    exact Frame.refl ..
  with_reducible refine Frame.step ?_ (State.writeBack_frame _ _ _) (by decide)
  with_reducible refine Frame.step ?_ (State.deckPutAll_frame _ _ _) (by decide)
  exact hx0

theorem State.lawDue_frame {W : Nat → Prop} (s : State) (p : ℕ) (v2 : ℕ) (hw0 : ∀ i0, W (R.CLN_STAT i0)) (hw1 : ∀ i0, W (R.ENC_STAT i0)) : Frame [.piers, .deck, .deckMem, .pwr] W s (State.lawDue s p v2) := by
  induction v2 generalizing s p with
  | zero =>
    exact Frame.refl ..
  | succ n0 ih =>
    unfold State.lawDue
    split
    exact Frame.refl ..
    extract_lets x0 x1 x2
    have hx1 : Frame [.piers, .deck, .deckMem, .pwr] W s x1 := by
      (with_reducible conv => arg 4; whnf)
      with_reducible refine Frame.iteOf ?_ ?_
      with_reducible refine Frame.step ?_ (State.law13_frame _ _ ?_ ?_) (by decide)
      exact Frame.refl ..
      exact fun _ => hw0 _; exact fun _ => hw1 _
      exact Frame.refl ..
    with_reducible refine Frame.step ?_ (ih _ _) (by decide)
    with_reducible refine Frame.step ?_ (State.putPier_frame _ _ _) (by decide)
    exact hx1

theorem State.startAxis_frame {W : Nat → Prop} (s : State) (p : ℕ) (g : Assigned) (hw0 : W (R.DSP_MIG_CNT)) (hw1 : W (R.AXT_W2 (Task.id (Assigned.task g)))) (hw2 : W (R.AXT_W0 (Task.id (Assigned.task g)))) (hw3 : ∀ i0 i1, W (R.PIR_RES i0 i1)) (hw4 : W (R.AXT_FLT_MAP (Task.id (Assigned.task g) / 32))) (hw5 : W (R.EVT_PEND (48 / 32))) (hw6 : W (R.EVT_LOST_CNT)) (hw7 : W (R.EVT_STAT)) (hw8 : ∀ i0, W (R.CLN_STAT i0)) (hw9 : ∀ i0, W (R.ENC_STAT i0)) : Frame [.free, .evt, .dsp, .piers, .axes, .deck, .deckMem, .pwr] W s (State.startAxis s p g) := by
  unfold State.startAxis
  extract_lets x0 x1 x2 x3 x4 x5 x6 x7 x8 x9 x10 x11
  have hx2 : Frame [.free, .evt, .dsp, .piers, .axes, .deck, .deckMem, .pwr] W s x2 := by
    (with_reducible conv => arg 4; whnf)
    with_reducible refine Frame.step ?_ (State.putPier_frame _ _ _) (by decide)
    exact Frame.refl ..
  have hx3 : Frame [.free, .evt, .dsp, .piers, .axes, .deck, .deckMem, .pwr] W s x3 := by
    (with_reducible conv => arg 4; whnf)
    with_reducible refine Frame.step ?_ (State.flowSeen_frame _ _ _) (by decide)
    with_reducible refine Frame.step ?_ (State.takeUp_frame _ _ _) (by decide)
    exact Frame.refl ..
  have hx5 : Frame [.free, .evt, .dsp, .piers, .axes, .deck, .deckMem, .pwr] W s x5 := by
    (with_reducible conv => arg 4; whnf)
    with_reducible refine Frame.step ?_ (State.putPier_frame _ _ _) (by decide)
    exact hx3
  have hx7 : Frame [.free, .evt, .dsp, .piers, .axes, .deck, .deckMem, .pwr] W s x7 := by
    (with_reducible conv => arg 4; whnf)
    with_reducible refine Frame.step ?_ (State.putAxis_frame _ _ _) (by decide)
    exact hx5
  have hx8 : Frame [.free, .evt, .dsp, .piers, .axes, .deck, .deckMem, .pwr] W s x8 := by
    (with_reducible conv => arg 4; whnf)
    with_reducible refine Frame.step ?_ (State.startMove_frame _ _ _ _ ?_ ?_) (by decide)
    with_reducible refine Frame.step ?_ (State.migCount_frame _ _ ?_) (by decide)
    exact hx7
    exact hw0; exact fun _ => hw3 _ _; exact hw1
  have hx11 : Frame [.free, .evt, .dsp, .piers, .axes, .deck, .deckMem, .pwr] W s x11 := by
    (with_reducible conv => arg 4; whnf)
    with_reducible refine Frame.step ?_ (State.putPier_frame _ _ _) (by decide)
    exact hx8
  with_reducible refine Frame.iteOf ?_ ?_
  with_reducible refine Frame.step ?_ (State.axisFaultMark_frame _ _ _ ?_ ?_ ?_ ?_ ?_) (by decide)
  with_reducible refine Frame.step ?_ (State.axisDisable_frame _ _ ?_ ?_ ?_) (by decide)
  exact hx2
  exact hw2; exact hw1; exact fun _ _ => hw3 _ _; exact hw1; exact hw4; exact hw5; exact hw6; exact hw7
  with_reducible refine Frame.step ?_ (State.lawDue_frame _ _ _ ?_ ?_) (by decide)
  exact hx11
  exact fun _ => hw8 _; exact fun _ => hw9 _

theorem execAxisTaskStart_frame {W : Nat → Prop} (p : Fin 16) (s : State) (hw0 : W (R.DSP_MIG_CNT)) (hw1 : ∀ i0, W (R.AXT_W2 i0)) (hw2 : ∀ i0, W (R.AXT_W0 i0)) (hw3 : ∀ i0 i1, W (R.PIR_RES i0 i1)) (hw4 : ∀ i0, W (R.AXT_FLT_MAP i0)) (hw5 : W (R.EVT_PEND (48 / 32))) (hw6 : W (R.EVT_LOST_CNT)) (hw7 : W (R.EVT_STAT)) (hw8 : ∀ i0, W (R.CLN_STAT i0)) (hw9 : ∀ i0, W (R.ENC_STAT i0)) : Frame.out [.free, .evt, .dsp, .piers, .axes, .deck, .deckMem, .pwr] W s (execAxisTaskStart p s) := by
  unfold execAxisTaskStart
  split
  split
  with_reducible refine Frame.out_next ?_
  with_reducible refine Frame.step ?_ (State.startAxis_frame _ _ _ ?_ ?_ ?_ ?_ ?_ ?_ ?_ ?_ ?_ ?_) (by decide)
  exact Frame.refl ..
  exact hw0; exact hw1 _; exact hw2 _; exact fun _ _ => hw3 _ _; exact hw4 _; exact hw5; exact hw6; exact hw7; exact fun _ => hw8 _; exact fun _ => hw9 _
  with_reducible refine Frame.out_next ?_
  exact Frame.refl ..
  with_reducible refine Frame.out_next ?_
  exact Frame.refl ..

theorem State.law14_frame {W : Nat → Prop} (s : State) (w : LawWork) (hw0 : W (R.AXT_W2 (LawWork.a w))) (hw1 : W (R.AXT_FLT_MAP (LawWork.a w / 32))) (hw2 : W (R.EVT_PEND (48 / 32))) (hw3 : W (R.EVT_LOST_CNT)) (hw4 : W (R.EVT_STAT)) (hw5 : W (R.EVT_PEND (49 / 32))) : Frame [.evt, .dsp] W s (State.law14 s w) := by
  unfold State.law14
  extract_lets x0 x1
  have hx0 : Frame [.evt, .dsp] W s x0 := by
    (with_reducible conv => arg 4; whnf)
    with_reducible refine Frame.iteOf ?_ ?_
    exact Frame.refl ..
    split
    exact Frame.refl ..
    with_reducible refine Frame.iteOf ?_ ?_
    with_reducible refine Frame.step ?_ (State.axisFault_frame _ _ _ ?_ ?_ ?_ ?_ ?_) (by decide)
    exact Frame.refl ..
    exact hw0; exact hw1; exact hw2; exact hw3; exact hw4
    with_reducible refine Frame.step ?_ (State.axisFaultMark_frame _ _ _ ?_ ?_ ?_ ?_ ?_) (by decide)
    exact Frame.refl ..
    exact hw0; exact hw1; exact hw2; exact hw3; exact hw4
  split
  exact hx0
  extract_lets x2
  have hx2 : Frame [.evt, .dsp] W s x2 := by
    (with_reducible conv => arg 4; whnf)
    ((with_reducible refine Frame.upd ?_ ?_); on_goal 2 => (intro p hp; cases p <;> first | exact (hp (by decide)).elim | (dsimp only [Part.same] <;> fail)))
    exact hx0
  split
  with_reducible refine Frame.step ?_ (State.raise_frame _ _ _ _ ?_ ?_ ?_) (by decide)
  exact hx2
  exact hw5; exact hw3; exact hw4
  exact hx2

theorem State.afterTask_frame {W : Nat → Prop} (s : State) (p : ℕ) (hw0 : W (R.PIR_STAT p)) (hw1 : ∀ i0 i1, W (R.PIR_RES i0 i1)) (hw2 : ∀ i0, W (R.AXT_W2 i0)) (hw3 : ∀ i0, W (R.AXT_W0 i0)) (hw4 : W (R.AXT_STAT)) (hw5 : ∀ i0, W (R.AXT_FLT_MAP i0)) (hw6 : W (R.EVT_PEND (48 / 32))) (hw7 : W (R.EVT_LOST_CNT)) (hw8 : W (R.EVT_STAT)) (hw9 : W (R.PIR_CTL p)) : Frame [.evt, .dsp, .piers, .axes] W s (State.afterTask s p) := by
  unfold State.afterTask
  with_reducible refine Frame.iteOf ?_ ?_
  with_reducible refine Frame.step ?_ (State.pierOffline_frame _ _ ?_ ?_ ?_ ?_ ?_ ?_ ?_ ?_ ?_ ?_) (by decide)
  exact Frame.refl ..
  exact hw0; exact fun _ _ => hw1 _ _; exact fun _ => hw2 _; exact fun _ => hw3 _; exact hw4; exact fun _ => hw5 _; exact hw6; exact hw7; exact hw8; exact hw9
  with_reducible refine Frame.step ?_ (State.flowNext_frame _ _) (by decide)
  exact Frame.refl ..

theorem execAxisTaskEnd_frame {W : Nat → Prop} (p : Fin 16) (s : State) (hw0 : ∀ i0, W (R.CLN_STAT i0)) (hw1 : ∀ i0, W (R.ENC_STAT i0)) (hw2 : ∀ i0, W (R.AXT_W2 i0)) (hw3 : ∀ i0, W (R.AXT_FLT_MAP i0)) (hw4 : W (R.EVT_PEND (48 / 32))) (hw5 : W (R.EVT_LOST_CNT)) (hw6 : W (R.EVT_STAT)) (hw7 : W (R.EVT_PEND (49 / 32))) (hw8 : W (R.PIR_TASKS ↑p)) (hw9 : ∀ i0 i1, W (R.PIR_RES i0 i1)) (hw10 : W (R.PIR_STAT ↑p)) (hw11 : ∀ i0, W (R.AXT_W0 i0)) (hw12 : W (R.AXT_STAT)) (hw13 : W (R.PIR_CTL ↑p)) : Frame.out [.free, .evt, .dsp, .piers, .axes, .deck, .deckMem, .pwr, .twn] W s (execAxisTaskEnd p s) := by
  unfold execAxisTaskEnd
  split
  with_reducible refine Frame.out_next ?_
  exact Frame.refl ..
  split
  extract_lets x0 x1 x2 x3 x4 x5
  have hx1 : Frame [.free, .evt, .dsp, .piers, .axes, .deck, .deckMem, .pwr, .twn] W s x1 := by
    (with_reducible conv => arg 4; whnf)
    with_reducible refine Frame.step ?_ (State.lawDue_frame _ _ _ ?_ ?_) (by decide)
    exact Frame.refl ..
    exact fun _ => hw0 _; exact fun _ => hw1 _
  have hx2 : Frame [.free, .evt, .dsp, .piers, .axes, .deck, .deckMem, .pwr, .twn] W s x2 := by
    (with_reducible conv => arg 4; whnf)
    split
    with_reducible refine Frame.step ?_ (State.law14_frame _ _ ?_ ?_ ?_ ?_ ?_ ?_) (by decide)
    exact hx1
    exact hw2 _; exact hw3 _; exact hw4; exact hw5; exact hw6; exact hw7
    exact hx1
  have hx3 : Frame [.free, .evt, .dsp, .piers, .axes, .deck, .deckMem, .pwr, .twn] W s x3 := by
    (with_reducible conv => arg 4; whnf)
    with_reducible refine Frame.incWrap ?_ ?_
    with_reducible refine Frame.step ?_ (State.taskDone_frame _ _ ?_) (by decide)
    exact hx2
    exact hw8; exact hw2 _
  have hx4 : Frame [.free, .evt, .dsp, .piers, .axes, .deck, .deckMem, .pwr, .twn] W s x4 := by
    (with_reducible conv => arg 4; whnf)
    with_reducible refine Frame.step ?_ (State.streamAxis_frame _ _) (by decide)
    exact hx3
  have hx5 : Frame [.free, .evt, .dsp, .piers, .axes, .deck, .deckMem, .pwr, .twn] W s x5 := by
    (with_reducible conv => arg 4; whnf)
    with_reducible refine Frame.iteOf ?_ ?_
    with_reducible refine Frame.step ?_ (State.putAxis_frame _ _ _) (by decide)
    with_reducible refine Frame.step ?_ (State.unplace_frame _ _ ?_ ?_) (by decide)
    exact hx4
    exact fun _ _ => hw9 _ _; exact hw2 _
    exact hx4
  with_reducible refine Frame.out_next ?_
  with_reducible refine Frame.step ?_ (State.afterTask_frame _ _ ?_ ?_ ?_ ?_ ?_ ?_ ?_ ?_ ?_ ?_) (by decide)
  exact hx5
  exact hw10; exact fun _ _ => hw9 _ _; exact fun _ => hw2 _; exact fun _ => hw11 _; exact hw12; exact fun _ => hw3 _; exact hw4; exact hw5; exact hw6; exact hw13
  with_reducible refine Frame.out_next ?_
  exact Frame.refl ..

theorem State.jobOff_frame {W : Nat → Prop} (s : State) (j : ℕ) (hw0 : W (R.DSP_BG_PEND)) : Frame [] W s (State.jobOff s j) := by
  unfold State.jobOff
  with_reducible refine Frame.iteOf ?_ ?_
  exact Frame.refl ..
  with_reducible refine Frame.putReg ?_ ?_
  exact Frame.refl ..
  exact hw0

theorem State.abandon_frame {W : Nat → Prop} (s : State) (p : ℕ) (hw0 : W (R.DSP_BG_PEND)) : Frame [.piers, .deck] W s (State.abandon s p) := by
  unfold State.abandon
  extract_lets x0 x1
  have hx1 : Frame [.piers, .deck] W s x1 := by
    (with_reducible conv => arg 4; whnf)
    with_reducible refine Frame.step ?_ (State.putPier_frame _ _ _) (by decide)
    exact Frame.refl ..
  split
  exact Frame.refl ..
  extract_lets x2
  have hx2 : Frame [.piers, .deck] W s x2 := by
    (with_reducible conv => arg 4; whnf)
    split
    with_reducible refine Frame.iteOf ?_ ?_
    with_reducible refine Frame.step ?_ (State.putDyn_frame _ _ _) (by decide)
    exact hx1
    exact hx1
    exact hx1
  with_reducible refine Frame.iteOf ?_ ?_
  with_reducible refine Frame.step ?_ (State.jobOff_frame _ _ ?_) (by decide)
  exact hx2
  exact hw0
  exact hx2

theorem State.pierFault_frame {W : Nat → Prop} (s : State) (p : ℕ) (c : PierCause) (hw0 : W (R.DSP_BG_PEND)) (hw1 : W (R.PIR_STAT p)) (hw2 : W (R.PIR_FAULT_CNT p)) (hw3 : W (R.PIR_CTL p)) (hw4 : W (R.EVT_PEND ((32 + p) / 32))) (hw5 : W (R.EVT_LOST_CNT)) (hw6 : W (R.EVT_STAT)) (hw7 : ∀ i0 i1, W (R.PIR_RES i0 i1)) (hw8 : ∀ i0, W (R.AXT_W2 i0)) (hw9 : ∀ i0, W (R.AXT_W0 i0)) (hw10 : W (R.AXT_STAT)) (hw11 : ∀ i0, W (R.AXT_FLT_MAP i0)) (hw12 : W (R.EVT_PEND (48 / 32))) : Frame [.evt, .dsp, .piers, .axes, .deck] W s (State.pierFault s p c) := by
  unfold State.pierFault
  extract_lets x0 x1 x2 x3 x4 x5
  have hx1 : Frame [.evt, .dsp, .piers, .axes, .deck] W s x1 := by
    (with_reducible conv => arg 4; whnf)
    with_reducible refine Frame.step ?_ (State.unassign_frame _ _) (by decide)
    with_reducible refine Frame.step ?_ (State.abandon_frame _ _ ?_) (by decide)
    exact Frame.refl ..
    exact hw0
  have hx2 : Frame [.evt, .dsp, .piers, .axes, .deck] W s x2 := by
    (with_reducible conv => arg 4; whnf)
    with_reducible refine Frame.incSat ?_ ?_
    with_reducible refine Frame.set1 ?_ ?_
    with_reducible refine Frame.setF ?_ ?_
    exact hx1
    exact hw1
    unfold pierCauseFld
    split
    exact hw1; exact hw1; exact hw1; exact hw1; exact hw1; exact hw2
  have hx3 : Frame [.evt, .dsp, .piers, .axes, .deck] W s x3 := by
    (with_reducible conv => arg 4; whnf)
    with_reducible refine Frame.step ?_ (State.putPier_frame _ _ _) (by decide)
    exact hx2
  have hx4 : Frame [.evt, .dsp, .piers, .axes, .deck] W s x4 := by
    (with_reducible conv => arg 4; whnf)
    with_reducible refine Frame.clr ?_ ?_
    with_reducible refine Frame.clr ?_ ?_
    exact hx3
    exact hw3; exact hw3
  have hx5 : Frame [.evt, .dsp, .piers, .axes, .deck] W s x5 := by
    (with_reducible conv => arg 4; whnf)
    with_reducible refine Frame.step ?_ (State.raise_frame _ _ _ _ ?_ ?_ ?_) (by decide)
    exact hx4
    exact hw4; exact hw5; exact hw6
  with_reducible refine Frame.iteOf ?_ ?_
  exact Frame.refl ..
  with_reducible refine Frame.eachDo ?_ ?_
  with_reducible refine Frame.step ?_ (State.rehome_frame _ _ ?_ ?_ ?_ ?_ ?_ ?_ ?_ ?_) (by decide)
  exact hx5
  exact fun _ _ => hw7 _ _; exact fun _ => hw8 _; exact fun _ => hw9 _; exact hw10; exact fun _ => hw11 _; exact hw12; exact hw5; exact hw6
  intro u6 x7 hu8
  with_reducible refine Frame.step ?_ (State.putSlot_frame _ _ _ _ ?_) (by decide)
  assumption
  exact hw7 _ _

theorem execTaskWatchdogExpiry_frame {W : Nat → Prop} (p : Fin 16) (s : State) (hw0 : W (R.DSP_BG_PEND)) (hw1 : W (R.PIR_STAT ↑p)) (hw2 : W (R.PIR_FAULT_CNT ↑p)) (hw3 : W (R.PIR_CTL ↑p)) (hw4 : W (R.EVT_PEND ((32 + ↑p) / 32))) (hw5 : W (R.EVT_LOST_CNT)) (hw6 : W (R.EVT_STAT)) (hw7 : ∀ i0 i1, W (R.PIR_RES i0 i1)) (hw8 : ∀ i0, W (R.AXT_W2 i0)) (hw9 : ∀ i0, W (R.AXT_W0 i0)) (hw10 : W (R.AXT_STAT)) (hw11 : ∀ i0, W (R.AXT_FLT_MAP i0)) (hw12 : W (R.EVT_PEND (48 / 32))) : Frame.out [.evt, .dsp, .piers, .axes, .deck] W s (execTaskWatchdogExpiry p s) := by
  unfold execTaskWatchdogExpiry
  split
  split
  with_reducible refine Frame.out_next ?_
  with_reducible refine Frame.step ?_ (State.pierFault_frame _ _ _ ?_ ?_ ?_ ?_ ?_ ?_ ?_ ?_ ?_ ?_ ?_ ?_ ?_) (by decide)
  exact Frame.refl ..
  exact hw0; exact hw1; exact hw2; exact hw3; exact hw4; exact hw5; exact hw6; exact fun _ _ => hw7 _ _; exact fun _ => hw8 _; exact fun _ => hw9 _; exact hw10; exact fun _ => hw11 _; exact hw12
  with_reducible refine Frame.out_next ?_
  exact Frame.refl ..
  with_reducible refine Frame.out_next ?_
  exact Frame.refl ..

theorem execPirOffline_frame {W : Nat → Prop} (p : Fin 16) (s : State) (hw0 : W (R.GLB_ACC_ERR)) (hw1 : W (R.PIR_STAT ↑p)) (hw2 : W (R.PIR_CTL ↑p)) (hw3 : ∀ i0 i1, W (R.PIR_RES i0 i1)) (hw4 : ∀ i0, W (R.AXT_W2 i0)) (hw5 : ∀ i0, W (R.AXT_W0 i0)) (hw6 : W (R.AXT_STAT)) (hw7 : ∀ i0, W (R.AXT_FLT_MAP i0)) (hw8 : W (R.EVT_PEND (48 / 32))) (hw9 : W (R.EVT_LOST_CNT)) (hw10 : W (R.EVT_STAT)) : Frame.out [.evt, .dsp, .piers, .axes] W s (execPirOffline p s) := by
  unfold execPirOffline
  with_reducible refine Frame.out_next ?_
  with_reducible refine State.bar0Write_frame _ _ _ ?_ (by decide) ?_ ?_
  exact hw0
  exact Frame.refl ..
  intro u0 hu1
  with_reducible refine Frame.step ?_ (State.pirOffline_frame _ _ ?_ ?_ ?_ ?_ ?_ ?_ ?_ ?_ ?_ ?_) (by decide)
  assumption
  exact hw1; exact hw2; exact fun _ _ => hw3 _ _; exact fun _ => hw4 _; exact fun _ => hw5 _; exact hw6; exact fun _ => hw7 _; exact hw8; exact hw9; exact hw10

theorem execPirOnline_frame {W : Nat → Prop} (p : Fin 16) (s : State) (hw0 : W (R.GLB_ACC_ERR)) (hw1 : ∀ i0, W (R.PIR_RES ↑p i0)) (hw2 : W (R.PIR_STAT ↑p)) : Frame.out [.piers] W s (execPirOnline p s) := by
  unfold execPirOnline
  with_reducible refine Frame.out_next ?_
  with_reducible refine State.bar0Write_frame _ _ _ ?_ (by decide) ?_ ?_
  exact hw0
  exact Frame.refl ..
  intro u0 hu1
  with_reducible refine Frame.step ?_ (State.pirOnline_frame _ _ ?_ ?_) (by decide)
  assumption
  exact fun _ => hw1 _; exact hw2

theorem execPierScrubPass_frame {W : Nat → Prop} (x : ScrubPass) (s : State) (hw0 : W (R.PIR_UC_CALC ↑x.pier)) (hw1 : W (R.PIR_SCRUB ↑x.pier)) (hw2 : W (R.PIR_ICE_CNT ↑x.pier)) (hw3 : W (R.PIR_DCE_CNT ↑x.pier)) (hw4 : W (R.DSP_BG_PEND)) (hw5 : W (R.PIR_STAT ↑x.pier)) (hw6 : W (R.PIR_FAULT_CNT ↑x.pier)) (hw7 : W (R.PIR_CTL ↑x.pier)) (hw8 : W (R.EVT_PEND ((32 + ↑x.pier) / 32))) (hw9 : W (R.EVT_LOST_CNT)) (hw10 : W (R.EVT_STAT)) (hw11 : ∀ i0 i1, W (R.PIR_RES i0 i1)) (hw12 : ∀ i0, W (R.AXT_W2 i0)) (hw13 : ∀ i0, W (R.AXT_W0 i0)) (hw14 : W (R.AXT_STAT)) (hw15 : ∀ i0, W (R.AXT_FLT_MAP i0)) (hw16 : W (R.EVT_PEND (48 / 32))) : Frame.out [.evt, .dsp, .piers, .axes, .deck] W s (execPierScrubPass x s) := by
  unfold execPierScrubPass
  extract_lets x0 x1 x2 x3 x4 x5 x6
  have hx3 : Frame [.evt, .dsp, .piers, .axes, .deck] W s x3 := by
    (with_reducible conv => arg 4; whnf)
    with_reducible refine Frame.incSat ?_ ?_
    with_reducible refine Frame.incSat ?_ ?_
    with_reducible refine Frame.incWrap ?_ ?_
    with_reducible refine Frame.putReg ?_ ?_
    exact Frame.refl ..
    exact hw0; exact hw1; exact hw2; exact hw3
  have hx5 : Frame [.evt, .dsp, .piers, .axes, .deck] W s x5 := by
    (with_reducible conv => arg 4; whnf)
    with_reducible refine Frame.step ?_ (State.putPier_frame _ _ _) (by decide)
    exact hx3
  split
  split
  with_reducible refine Frame.out_next ?_
  with_reducible refine Frame.iteOf ?_ ?_
  with_reducible refine Frame.step ?_ (State.putPier_frame _ _ _) (by decide)
  exact hx5
  exact hx5
  with_reducible refine Frame.out_next ?_
  with_reducible refine Frame.step ?_ (State.pierFault_frame _ _ _ ?_ ?_ ?_ ?_ ?_ ?_ ?_ ?_ ?_ ?_ ?_ ?_ ?_) (by decide)
  exact hx5
  exact hw4; exact hw5; exact hw6; exact hw7; exact hw8; exact hw9; exact hw10; exact fun _ _ => hw11 _ _; exact fun _ => hw12 _; exact fun _ => hw13 _; exact hw14; exact fun _ => hw15 _; exact hw16
  with_reducible refine Frame.out_next ?_
  exact Frame.refl ..

theorem State.pierUe_frame {W : Nat → Prop} (s : State) (p : ℕ) (mem : ℕ) (word : ℕ) (hw0 : W (R.PIR_UE_INFO p)) : Frame [] W s (State.pierUe s p mem word) := by
  unfold State.pierUe
  with_reducible refine Frame.iteOf ?_ ?_
  exact Frame.refl ..
  with_reducible refine Frame.set1 ?_ ?_
  with_reducible refine Frame.setF ?_ ?_
  with_reducible refine Frame.setF ?_ ?_
  exact Frame.refl ..
  exact hw0; exact hw0; exact hw0

theorem execPierFault_frame {W : Nat → Prop} (p : Fin 16) (cause : PierCause) (mem : Fin 8) (word : ℕ) (s : State) (hw0 : W (R.PIR_UE_INFO ↑p)) (hw1 : W (R.DSP_BG_PEND)) (hw2 : W (R.PIR_STAT ↑p)) (hw3 : W (R.PIR_FAULT_CNT ↑p)) (hw4 : W (R.PIR_CTL ↑p)) (hw5 : W (R.EVT_PEND ((32 + ↑p) / 32))) (hw6 : W (R.EVT_LOST_CNT)) (hw7 : W (R.EVT_STAT)) (hw8 : ∀ i0 i1, W (R.PIR_RES i0 i1)) (hw9 : ∀ i0, W (R.AXT_W2 i0)) (hw10 : ∀ i0, W (R.AXT_W0 i0)) (hw11 : W (R.AXT_STAT)) (hw12 : ∀ i0, W (R.AXT_FLT_MAP i0)) (hw13 : W (R.EVT_PEND (48 / 32))) : Frame.out [.evt, .dsp, .piers, .axes, .deck] W s (execPierFault p cause mem word s) := by
  unfold execPierFault
  extract_lets x0 x1
  have hx1 : Frame [.evt, .dsp, .piers, .axes, .deck] W s x1 := by
    (with_reducible conv => arg 4; whnf)
    split
    with_reducible refine Frame.step ?_ (State.pierUe_frame _ _ _ _ ?_) (by decide)
    exact Frame.refl ..
    exact hw0
    with_reducible refine Frame.step ?_ (State.pierUe_frame _ _ _ _ ?_) (by decide)
    exact Frame.refl ..
    exact hw0
    with_reducible refine Frame.step ?_ (State.pierUe_frame _ _ _ _ ?_) (by decide)
    exact Frame.refl ..
    exact hw0
    exact Frame.refl ..
  split
  with_reducible refine Frame.out_next ?_
  exact Frame.refl ..
  with_reducible refine Frame.out_next ?_
  with_reducible refine Frame.step ?_ (State.pierFault_frame _ _ _ ?_ ?_ ?_ ?_ ?_ ?_ ?_ ?_ ?_ ?_ ?_ ?_ ?_) (by decide)
  exact hx1
  exact hw1; exact hw2; exact hw3; exact hw4; exact hw5; exact hw6; exact hw7; exact fun _ _ => hw8 _ _; exact fun _ => hw9 _; exact fun _ => hw10 _; exact hw11; exact fun _ => hw12 _; exact hw13

theorem execStateSlotDiscard_frame {W : Nat → Prop} (p : Fin 16) (a : Fin 160) (w : Fin 256) (s : State) (hw0 : W (R.PIR_UE_INFO ↑p)) (hw1 : W (R.PIR_REST_CNT ↑p)) (hw2 : W (R.DSP_BG_PEND)) (hw3 : ∀ i0 i1, W (R.PIR_RES i0 i1)) (hw4 : W (R.PIR_STAT ↑p)) (hw5 : ∀ i0, W (R.AXT_W2 i0)) (hw6 : ∀ i0, W (R.AXT_W0 i0)) (hw7 : W (R.AXT_STAT)) (hw8 : ∀ i0, W (R.AXT_FLT_MAP i0)) (hw9 : W (R.EVT_PEND (48 / 32))) (hw10 : W (R.EVT_LOST_CNT)) (hw11 : W (R.EVT_STAT)) (hw12 : W (R.PIR_CTL ↑p)) : Frame.out [.evt, .dsp, .piers, .axes, .deck] W s (execStateSlotDiscard p a w s) := by
  unfold execStateSlotDiscard
  split
  with_reducible refine Frame.out_next ?_
  exact Frame.refl ..
  extract_lets x0
  have hx0 : Frame [.evt, .dsp, .piers, .axes, .deck] W s x0 := by
    (with_reducible conv => arg 4; whnf)
    with_reducible refine Frame.incSat ?_ ?_
    with_reducible refine Frame.step ?_ (State.pierUe_frame _ _ _ _ ?_) (by decide)
    exact Frame.refl ..
    exact hw0; exact hw1
  split
  with_reducible refine Frame.out_next ?_
  with_reducible refine Frame.step ?_ (State.afterTask_frame _ _ ?_ ?_ ?_ ?_ ?_ ?_ ?_ ?_ ?_ ?_) (by decide)
  with_reducible refine Frame.step ?_ (State.loseHome_frame _ _ ?_ ?_) (by decide)
  with_reducible refine Frame.step ?_ (State.abandon_frame _ _ ?_) (by decide)
  exact hx0
  exact hw2; exact fun _ _ => hw3 _ _; exact hw5 _; exact hw4; exact fun _ _ => hw3 _ _; exact fun _ => hw5 _; exact fun _ => hw6 _; exact hw7; exact fun _ => hw8 _; exact hw9; exact hw10; exact hw11; exact hw12
  with_reducible refine Frame.out_next ?_
  with_reducible refine Frame.step ?_ (State.loseHome_frame _ _ ?_ ?_) (by decide)
  exact hx0
  exact fun _ _ => hw3 _ _; exact hw5 _

theorem State.deckDouble_frame {W : Nat → Prop} (s : State) (a : ℕ) (hw0 : W (R.DCK_UE_CNT)) (hw1 : W (R.DCK_STAT)) (hw2 : W (R.DCK_UE_ADDR)) (hw3 : W (R.AXT_W0 (a / 8 * 8 / 2048))) (hw4 : W (R.AXT_W2 (a / 8 * 8 / 2048))) (hw5 : ∀ i0 i1, W (R.PIR_RES i0 i1)) (hw6 : W (R.AXT_FLT_MAP (a / 8 * 8 / 2048 / 32))) (hw7 : W (R.EVT_PEND (48 / 32))) (hw8 : W (R.EVT_LOST_CNT)) (hw9 : W (R.EVT_STAT)) (hw10 : W (R.DCK_CAM_BAD)) : Frame [.evt, .dsp, .piers, .axes, .deck, .deckMem] W s (State.deckDouble s a) := by
  unfold State.deckDouble
  extract_lets x0 x1 x2 x3 x4 x5 x6
  have hx1 : Frame [.evt, .dsp, .piers, .axes, .deck, .deckMem] W s x1 := by
    (with_reducible conv => arg 4; whnf)
    with_reducible refine Frame.set1 ?_ ?_
    with_reducible refine Frame.incSat ?_ ?_
    exact Frame.refl ..
    exact hw0; exact hw1
  have hx2 : Frame [.evt, .dsp, .piers, .axes, .deck, .deckMem] W s x2 := by
    (with_reducible conv => arg 4; whnf)
    with_reducible refine Frame.iteOf ?_ ?_
    exact hx1
    with_reducible refine Frame.set1 ?_ ?_
    with_reducible refine Frame.setF ?_ ?_
    exact hx1
    exact hw2; exact hw2
  have hx6 : Frame [.evt, .dsp, .piers, .axes, .deck, .deckMem] W s x6 := by
    (with_reducible conv => arg 4; whnf)
    with_reducible refine Frame.set1 ?_ ?_
    (with_reducible conv => arg 4; whnf)
    ((with_reducible refine Frame.upd ?_ ?_); on_goal 2 => (intro p hp; cases p <;> first | exact (hp (by decide)).elim | (dsimp only [Part.same] <;> fail)))
    exact hx2
    exact hw1
  with_reducible refine Frame.iteOf ?_ ?_
  with_reducible refine Frame.iteOf ?_ ?_
  (with_reducible conv => arg 4; whnf)
  ((with_reducible refine Frame.upd ?_ ?_); on_goal 2 => (intro p hp; cases p <;> first | exact (hp (by decide)).elim | (dsimp only [Part.same] <;> fail)))
  exact hx2
  with_reducible refine Frame.iteOf ?_ ?_
  with_reducible refine Frame.step ?_ (State.deckPut_frame _ _ _) (by decide)
  with_reducible refine Frame.step ?_ (State.deckPut_frame _ _ _) (by decide)
  exact hx2
  with_reducible refine Frame.step ?_ (State.axisFaultMark_frame _ _ _ ?_ ?_ ?_ ?_ ?_) (by decide)
  with_reducible refine Frame.step ?_ (State.axisDisable_frame _ _ ?_ ?_ ?_) (by decide)
  (with_reducible conv => arg 4; whnf)
  ((with_reducible refine Frame.upd ?_ ?_); on_goal 2 => (intro p hp; cases p <;> first | exact (hp (by decide)).elim | (dsimp only [Part.same] <;> fail)))
  exact hx2
  exact hw3; exact hw4; exact fun _ _ => hw5 _ _; exact hw4; exact hw6; exact hw7; exact hw8; exact hw9
  with_reducible refine Frame.iteOf ?_ ?_
  (with_reducible conv => arg 4; whnf)
  ((with_reducible refine Frame.upd ?_ ?_); on_goal 2 => (intro p hp; cases p <;> first | exact (hp (by decide)).elim | (dsimp only [Part.same] <;> fail)))
  exact hx2
  with_reducible refine Frame.iteOf ?_ ?_
  exact hx2
  with_reducible refine Frame.iteOf ?_ ?_
  (with_reducible conv => arg 4; whnf)
  ((with_reducible refine Frame.upd ?_ ?_); on_goal 2 => (intro p hp; cases p <;> first | exact (hp (by decide)).elim | (dsimp only [Part.same] <;> fail)))
  exact hx2
  with_reducible refine Frame.iteOf ?_ ?_
  exact hx6
  with_reducible refine Frame.set1 ?_ ?_
  with_reducible refine Frame.setF ?_ ?_
  exact hx6
  exact hw10; exact hw10

theorem execDeckScrub_frame {W : Nat → Prop} (addr : ℕ) (err : EccError) (s : State) (hw0 : W (R.DCK_CE_CNT)) (hw1 : W (R.DCK_STAT)) (hw2 : W (R.DCK_UE_CNT)) (hw3 : W (R.DCK_UE_ADDR)) (hw4 : W (R.AXT_W0 (addr / 8 * 8 / 2048))) (hw5 : W (R.AXT_W2 (addr / 8 * 8 / 2048))) (hw6 : ∀ i0 i1, W (R.PIR_RES i0 i1)) (hw7 : W (R.AXT_FLT_MAP (addr / 8 * 8 / 2048 / 32))) (hw8 : W (R.EVT_PEND (48 / 32))) (hw9 : W (R.EVT_LOST_CNT)) (hw10 : W (R.EVT_STAT)) (hw11 : W (R.DCK_CAM_BAD)) (hw12 : W (R.DCK_SCRUB)) : Frame.out [.evt, .dsp, .piers, .axes, .deck, .deckMem] W s (execDeckScrub addr err s) := by
  unfold execDeckScrub
  split
  extract_lets x0
  have hx0 : Frame [.evt, .dsp, .piers, .axes, .deck, .deckMem] W s x0 := by
    (with_reducible conv => arg 4; whnf)
    split
    exact Frame.refl ..
    with_reducible refine Frame.set1 ?_ ?_
    with_reducible refine Frame.incSat ?_ ?_
    exact Frame.refl ..
    exact hw0; exact hw1
    with_reducible refine Frame.step ?_ (State.deckDouble_frame _ _ ?_ ?_ ?_ ?_ ?_ ?_ ?_ ?_ ?_ ?_ ?_) (by decide)
    exact Frame.refl ..
    exact hw2; exact hw1; exact hw3; exact hw4; exact hw5; exact fun _ _ => hw6 _ _; exact hw7; exact hw8; exact hw9; exact hw10; exact hw11
  with_reducible refine Frame.out_next ?_
  with_reducible refine Frame.iteOf ?_ ?_
  with_reducible refine Frame.incWrap ?_ ?_
  exact hx0
  exact hw12
  exact hx0
  with_reducible refine Frame.out_next ?_
  exact Frame.refl ..

theorem execEventOrBackgroundTaskEnd_frame {W : Nat → Prop} (p : Fin 16) (s : State) (hw0 : W (R.PIR_TASKS ↑p)) (hw1 : W (R.DSP_BG_PEND)) (hw2 : W (R.PIR_STAT ↑p)) (hw3 : ∀ i0 i1, W (R.PIR_RES i0 i1)) (hw4 : ∀ i0, W (R.AXT_W2 i0)) (hw5 : ∀ i0, W (R.AXT_W0 i0)) (hw6 : W (R.AXT_STAT)) (hw7 : ∀ i0, W (R.AXT_FLT_MAP i0)) (hw8 : W (R.EVT_PEND (48 / 32))) (hw9 : W (R.EVT_LOST_CNT)) (hw10 : W (R.EVT_STAT)) (hw11 : W (R.PIR_CTL ↑p)) : Frame.out [.free, .evt, .dsp, .piers, .axes] W s (execEventOrBackgroundTaskEnd p s) := by
  unfold execEventOrBackgroundTaskEnd
  split
  with_reducible refine Frame.out_next ?_
  exact Frame.refl ..
  split
  extract_lets x0 x1
  have hx0 : Frame [.free, .evt, .dsp, .piers, .axes] W s x0 := by
    (with_reducible conv => arg 4; whnf)
    with_reducible refine Frame.step ?_ (State.taskDone_frame _ _ ?_) (by decide)
    exact Frame.refl ..
    exact hw0
  have hx1 : Frame [.free, .evt, .dsp, .piers, .axes] W s x1 := by
    (with_reducible conv => arg 4; whnf)
    with_reducible refine Frame.iteOf ?_ ?_
    with_reducible refine Frame.step ?_ (State.jobOff_frame _ _ ?_) (by decide)
    exact hx0
    exact hw1
    exact hx0
  with_reducible refine Frame.out_next ?_
  with_reducible refine Frame.step ?_ (State.afterTask_frame _ _ ?_ ?_ ?_ ?_ ?_ ?_ ?_ ?_ ?_ ?_) (by decide)
  exact hx1
  exact hw2; exact fun _ _ => hw3 _ _; exact fun _ => hw4 _; exact fun _ => hw5 _; exact hw6; exact fun _ => hw7 _; exact hw8; exact hw9; exact hw10; exact hw11
  with_reducible refine Frame.out_next ?_
  exact Frame.refl ..

end Sys2Proof.Machine
end

