-- ==== Sys2Proof/Laws/FrameStore.lean ====
section
/-! SUPPORT. The frame of each operation and of each command of the store and the black box: the parts and the registers it may change.
Each hypothesis says that the frame's set of registers holds one register that the operation writes. -/

set_option linter.all false
set_option maxRecDepth 4000

namespace Sys2Proof.Machine

theorem State.showQueue_frame {W : Nat → Prop} (s : State) (hw0 : W (R.NVS_QFILL)) : Frame [] W s (State.showQueue s) := by
  unfold State.showQueue
  with_reducible refine Frame.setF ?_ ?_
  exact Frame.refl ..
  exact hw0

theorem State.putNvs_frame {W : Nat → Prop} (s : State) (n : Nvs) : Frame [.nvs, .flash] W s (State.putNvs s n) := by
  unfold State.putNvs
  ((with_reducible refine Frame.upd ?_ ?_); on_goal 2 => (intro p hp; cases p <;> first | exact (hp (by decide)).elim | (dsimp only [Part.same] <;> fail)))
  exact Frame.refl ..

theorem State.flashQueue_frame {W : Nat → Prop} (s : State) (q : FlashReq) (hw0 : W (R.NVS_QFILL)) : Frame [.nvs] W s (State.flashQueue s q) := by
  unfold State.flashQueue
  with_reducible refine Frame.step ?_ (State.showQueue_frame _ ?_) (by decide)
  ((with_reducible refine Frame.step ?_ (State.putNvs_keep _ _ ?_) (by decide)); on_goal 2 => first | with_reducible rfl | with_reducible exact ⟨rfl, rfl⟩ | (simp +zetaDelta <;> fail))
  exact Frame.refl ..
  exact hw0

theorem State.reloadQueue_frame {W : Nat → Prop} (s : State) (p : ℕ) (hw0 : W (R.NVS_QFILL)) : Frame [.nvs] W s (State.reloadQueue s p) := by
  unfold State.reloadQueue
  with_reducible refine Frame.step ?_ (State.flashQueue_frame _ _ ?_) (by decide)
  exact Frame.refl ..
  exact hw0

theorem State.reloadAdmit_frame {W : Nat → Prop} (s : State) (hw0 : W (R.NVS_QFILL)) : Frame [.nvs] W s (State.reloadAdmit s) := by
  unfold State.reloadAdmit
  split
  with_reducible refine Frame.iteOf ?_ ?_
  with_reducible refine Frame.step ?_ (State.reloadQueue_frame _ _ ?_) (by decide)
  ((with_reducible refine Frame.step ?_ (State.putNvs_keep _ _ ?_) (by decide)); on_goal 2 => first | with_reducible rfl | with_reducible exact ⟨rfl, rfl⟩ | (simp +zetaDelta <;> fail))
  exact Frame.refl ..
  exact hw0
  exact Frame.refl ..
  exact Frame.refl ..

theorem State.pirReload_frame {W : Nat → Prop} (s : State) (p : ℕ) (hw0 : W (R.PIR_STAT p)) (hw1 : W (R.PIR_CTL p)) (hw2 : W (R.NVS_QFILL)) : Frame [.piers, .nvs] W s (State.pirReload s p) := by
  unfold State.pirReload
  extract_lets x0 x1 x2 x3
  have hx2 : Frame [.piers, .nvs] W s x2 := by
    (with_reducible conv => arg 4; whnf)
    with_reducible refine Frame.step ?_ (State.putPier_frame _ _ _) (by decide)
    with_reducible refine Frame.set1 ?_ ?_
    with_reducible refine Frame.setF ?_ ?_
    exact Frame.refl ..
    exact hw0; exact hw1
  with_reducible refine Frame.iteOf ?_ ?_
  with_reducible refine Frame.step ?_ (State.reloadAdmit_frame _ ?_) (by decide)
  ((with_reducible refine Frame.step ?_ (State.putNvs_keep _ _ ?_) (by decide)); on_goal 2 => first | with_reducible rfl | with_reducible exact ⟨rfl, rfl⟩ | (simp +zetaDelta <;> fail))
  exact hx2
  exact hw2
  exact Frame.refl ..

theorem State.boxPut_frame {W : Nat → Prop} (s : State) (e : List Word) (hw0 : W (R.BBX_COUNT)) (hw1 : W (R.BBX_SEQ)) : Frame [.nvs] W s (State.boxPut s e) := by
  unfold State.boxPut
  extract_lets x0 x1 x2 x3
  have hx3 : Frame [.nvs] W s x3 := by
    (with_reducible conv => arg 4; whnf)
    ((with_reducible refine Frame.step ?_ (State.putNvs_keep _ _ ?_) (by decide)); on_goal 2 => first | with_reducible rfl | with_reducible exact ⟨rfl, rfl⟩ | (simp +zetaDelta <;> fail))
    exact Frame.refl ..
  with_reducible refine Frame.putReg ?_ ?_
  with_reducible refine Frame.setF ?_ ?_
  exact hx3
  exact hw0; exact hw1

theorem State.boxCommit_frame {W : Nat → Prop} (s : State) (pf : Bool) (hw0 : W (R.BBX_STAT)) (hw1 : W (R.BBX_TILES)) : Frame [.nvs] W s (State.boxCommit s pf) := by
  unfold State.boxCommit
  extract_lets x0 x1 x2 x3 x4 x5
  have hx3 : Frame [.nvs] W s x3 := by
    (with_reducible conv => arg 4; whnf)
    with_reducible refine Frame.setF ?_ ?_
    with_reducible refine Frame.setF ?_ ?_
    with_reducible refine Frame.setF ?_ ?_
    exact Frame.refl ..
    exact hw0; exact hw1; exact hw1
  have hx4 : Frame [.nvs] W s x4 := by
    (with_reducible conv => arg 4; whnf)
    with_reducible refine Frame.setF ?_ ?_
    exact hx3
    exact hw0
  with_reducible refine Frame.iteOf ?_ ?_
  with_reducible refine Frame.set1 ?_ ?_
  exact Frame.refl ..
  exact hw0
  ((with_reducible refine Frame.step ?_ (State.putNvs_keep _ _ ?_) (by decide)); on_goal 2 => first | with_reducible rfl | with_reducible exact ⟨rfl, rfl⟩ | (simp +zetaDelta <;> fail))
  exact hx4

theorem State.boxFreeze_frame {W : Nat → Prop} (s : State) (cause : ℕ) (hw0 : W (R.BBX_COUNT)) (hw1 : W (R.BBX_SEQ)) (hw2 : W (R.BBX_STAT)) (hw3 : W (R.EVT_PEND (130 / 32))) (hw4 : W (R.EVT_LOST_CNT)) (hw5 : W (R.EVT_STAT)) (hw6 : W (R.BBX_TILES)) : Frame [.evt, .nvs] W s (State.boxFreeze s cause) := by
  unfold State.boxFreeze
  with_reducible refine Frame.iteOf ?_ ?_
  exact Frame.refl ..
  extract_lets x0 x1 x2 x3 x4
  have hx1 : Frame [.evt, .nvs] W s x1 := by
    (with_reducible conv => arg 4; whnf)
    with_reducible refine Frame.step ?_ (State.boxPut_frame _ _ ?_ ?_) (by decide)
    exact Frame.refl ..
    exact hw0; exact hw1
  have hx3 : Frame [.evt, .nvs] W s x3 := by
    (with_reducible conv => arg 4; whnf)
    ((with_reducible refine Frame.step ?_ (State.putNvs_keep _ _ ?_) (by decide)); on_goal 2 => first | with_reducible rfl | with_reducible exact ⟨rfl, rfl⟩ | (simp +zetaDelta <;> fail))
    exact hx1
  have hx4 : Frame [.evt, .nvs] W s x4 := by
    (with_reducible conv => arg 4; whnf)
    with_reducible refine Frame.step ?_ (State.raise_frame _ _ _ _ ?_ ?_ ?_) (by decide)
    with_reducible refine Frame.setF ?_ ?_
    with_reducible refine Frame.setF ?_ ?_
    exact hx3
    exact hw2; exact hw2; exact hw3; exact hw4; exact hw5
  with_reducible refine Frame.iteOf ?_ ?_
  with_reducible refine Frame.step ?_ (State.boxCommit_frame _ _ ?_ ?_) (by decide)
  exact hx4
  exact hw2; exact hw6
  with_reducible refine Frame.iteOf ?_ ?_
  with_reducible refine Frame.step ?_ (State.boxCommit_frame _ _ ?_ ?_) (by decide)
  exact hx4
  exact hw2; exact hw6
  exact hx4

theorem State.boxBad_frame {W : Nat → Prop} (s : State) (hw0 : W (R.BBX_STAT)) : Frame [] W s (State.boxBad s) := by
  unfold State.boxBad
  with_reducible refine Frame.set1 ?_ ?_
  exact Frame.refl ..
  exact hw0

theorem State.boxFreezeReq_frame {W : Nat → Prop} (s : State) (hw0 : W (R.BBX_COUNT)) (hw1 : W (R.BBX_SEQ)) (hw2 : W (R.BBX_STAT)) (hw3 : W (R.EVT_PEND (130 / 32))) (hw4 : W (R.EVT_LOST_CNT)) (hw5 : W (R.EVT_STAT)) (hw6 : W (R.BBX_TILES)) : Frame [.evt, .nvs] W s (State.boxFreezeReq s) := by
  unfold State.boxFreezeReq
  with_reducible refine Frame.iteOf ?_ ?_
  with_reducible refine Frame.step ?_ (State.boxFreeze_frame _ _ ?_ ?_ ?_ ?_ ?_ ?_ ?_) (by decide)
  exact Frame.refl ..
  exact hw0; exact hw1; exact hw2; exact hw3; exact hw4; exact hw5; exact hw6
  with_reducible refine Frame.step ?_ (State.boxBad_frame _ ?_) (by decide)
  exact Frame.refl ..
  exact hw2

theorem State.boxCommitReq_frame {W : Nat → Prop} (s : State) (hw0 : W (R.BBX_STAT)) (hw1 : W (R.BBX_TILES)) : Frame [.nvs] W s (State.boxCommitReq s) := by
  unfold State.boxCommitReq
  with_reducible refine Frame.iteOf ?_ ?_
  with_reducible refine Frame.step ?_ (State.boxCommit_frame _ _ ?_ ?_) (by decide)
  exact Frame.refl ..
  exact hw0; exact hw1
  with_reducible refine Frame.step ?_ (State.boxBad_frame _ ?_) (by decide)
  exact Frame.refl ..
  exact hw0

theorem State.boxStart_frame {W : Nat → Prop} (s : State) (hw0 : W (R.BBX_COUNT)) (hw1 : W (R.BBX_SEQ)) : Frame [.nvs] W s (State.boxStart s) := by
  unfold State.boxStart
  with_reducible refine Frame.step ?_ (State.boxPut_frame _ _ ?_ ?_) (by decide)
  exact Frame.refl ..
  exact hw0; exact hw1

theorem State.boxRelease_frame {W : Nat → Prop} (s : State) (hw0 : W (R.BBX_STAT)) (hw1 : W (R.BBX_COUNT)) (hw2 : W (R.BBX_SEQ)) : Frame [.nvs] W s (State.boxRelease s) := by
  unfold State.boxRelease
  extract_lets x0 x1 x2
  have hx2 : Frame [.nvs] W s x2 := by
    (with_reducible conv => arg 4; whnf)
    ((with_reducible refine Frame.step ?_ (State.putNvs_keep _ _ ?_) (by decide)); on_goal 2 => first | with_reducible rfl | with_reducible exact ⟨rfl, rfl⟩ | (simp +zetaDelta <;> fail))
    with_reducible refine Frame.setF ?_ ?_
    with_reducible refine Frame.setF ?_ ?_
    exact Frame.refl ..
    exact hw0; exact hw0
  with_reducible refine Frame.iteOf ?_ ?_
  with_reducible refine Frame.step ?_ (State.boxStart_frame _ ?_ ?_) (by decide)
  with_reducible refine Frame.setF ?_ ?_
  exact hx2
  exact hw1; exact hw1; exact hw2
  with_reducible refine Frame.step ?_ (State.boxBad_frame _ ?_) (by decide)
  exact Frame.refl ..
  exact hw0

theorem State.boxLoad_frame {W : Nat → Prop} (s : State) (area : ℕ) (hw0 : W (R.NVS_QFILL)) (hw1 : W (R.BBX_STAT)) : Frame [.nvs] W s (State.boxLoad s area) := by
  unfold State.boxLoad
  with_reducible refine Frame.iteOf ?_ ?_
  with_reducible refine Frame.step ?_ (State.flashQueue_frame _ _ ?_) (by decide)
  ((with_reducible refine Frame.step ?_ (State.putNvs_keep _ _ ?_) (by decide)); on_goal 2 => first | with_reducible rfl | with_reducible exact ⟨rfl, rfl⟩ | (simp +zetaDelta <;> fail))
  exact Frame.refl ..
  exact hw0
  with_reducible refine Frame.step ?_ (State.boxBad_frame _ ?_) (by decide)
  exact Frame.refl ..
  exact hw1

theorem State.boxErase_frame {W : Nat → Prop} (s : State) (area : ℕ) (hw0 : W (R.BBX_STAT)) (hw1 : W (R.NVS_QFILL)) : Frame [.nvs] W s (State.boxErase s area) := by
  unfold State.boxErase
  with_reducible refine Frame.iteOf ?_ ?_
  with_reducible refine Frame.step ?_ (State.boxBad_frame _ ?_) (by decide)
  exact Frame.refl ..
  exact hw0
  with_reducible refine Frame.step ?_ (State.flashQueue_frame _ _ ?_) (by decide)
  exact Frame.refl ..
  exact hw1

theorem State.boxCtl_frame {W : Nat → Prop} (s : State) (v : Word) (hw0 : W (R.BBX_CTL)) (hw1 : W (R.BBX_COUNT)) (hw2 : W (R.BBX_SEQ)) (hw3 : W (R.BBX_STAT)) (hw4 : W (R.EVT_PEND (130 / 32))) (hw5 : W (R.EVT_LOST_CNT)) (hw6 : W (R.EVT_STAT)) (hw7 : W (R.BBX_TILES)) (hw8 : W (R.NVS_QFILL)) : Frame [.evt, .nvs] W s (State.boxCtl s v) := by
  unfold State.boxCtl
  extract_lets x0 x1 x2 x3 x4 x5 x6
  have hx2 : Frame [.evt, .nvs] W s x2 := by
    (with_reducible conv => arg 4; whnf)
    with_reducible refine Frame.setF ?_ ?_
    exact Frame.refl ..
    exact hw0
  have hx3 : Frame [.evt, .nvs] W s x3 := by
    (with_reducible conv => arg 4; whnf)
    with_reducible refine Frame.whenDo ?_ ?_
    exact hx2
    intro u15 hu16
    with_reducible refine Frame.step ?_ (State.boxFreezeReq_frame _ ?_ ?_ ?_ ?_ ?_ ?_ ?_) (by decide)
    assumption
    exact hw1; exact hw2; exact hw3; exact hw4; exact hw5; exact hw6; exact hw7
  have hx4 : Frame [.evt, .nvs] W s x4 := by
    (with_reducible conv => arg 4; whnf)
    with_reducible refine Frame.whenDo ?_ ?_
    exact hx3
    intro u13 hu14
    with_reducible refine Frame.step ?_ (State.boxCommitReq_frame _ ?_ ?_) (by decide)
    assumption
    exact hw3; exact hw7
  have hx5 : Frame [.evt, .nvs] W s x5 := by
    (with_reducible conv => arg 4; whnf)
    with_reducible refine Frame.whenDo ?_ ?_
    exact hx4
    intro u11 hu12
    with_reducible refine Frame.step ?_ (State.boxRelease_frame _ ?_ ?_ ?_) (by decide)
    assumption
    exact hw3; exact hw1; exact hw2
  have hx6 : Frame [.evt, .nvs] W s x6 := by
    (with_reducible conv => arg 4; whnf)
    with_reducible refine Frame.whenDo ?_ ?_
    exact hx5
    intro u9 hu10
    with_reducible refine Frame.step ?_ (State.boxLoad_frame _ _ ?_ ?_) (by decide)
    assumption
    exact hw8; exact hw3
  with_reducible refine Frame.whenDo ?_ ?_
  exact hx6
  intro u7 hu8
  with_reducible refine Frame.step ?_ (State.boxErase_frame _ _ ?_ ?_) (by decide)
  assumption
  exact hw3; exact hw8

theorem State.boxAdd_frame {W : Nat → Prop} (s : State) (kind : ℕ) (src : ℕ) (t : NetTime) (detail : ℕ) (bc : Word) (data : Word) (chn : Word) (hw0 : W (R.BBX_DISC_CNT)) (hw1 : W (R.BBX_COUNT)) (hw2 : W (R.BBX_SEQ)) : Frame [.nvs] W s (State.boxAdd s kind src t detail bc data chn) := by
  unfold State.boxAdd
  with_reducible refine Frame.iteOf ?_ ?_
  exact Frame.refl ..
  with_reducible refine Frame.iteOf ?_ ?_
  with_reducible refine Frame.incSat ?_ ?_
  exact Frame.refl ..
  exact hw0
  extract_lets x0
  have hx0 : Frame [.nvs] W s x0 := by
    (with_reducible conv => arg 4; whnf)
    with_reducible refine Frame.iteOf ?_ ?_
    with_reducible refine Frame.step ?_ (State.boxStart_frame _ ?_ ?_) (by decide)
    exact Frame.refl ..
    exact hw1; exact hw2
    exact Frame.refl ..
  with_reducible refine Frame.step ?_ (State.boxPut_frame _ _ ?_ ?_) (by decide)
  exact hx0
  exact hw1; exact hw2

theorem State.boxNote_frame {W : Nat → Prop} (s : State) (v : Word) (hw0 : W (R.BBX_DISC_CNT)) (hw1 : W (R.BBX_COUNT)) (hw2 : W (R.BBX_SEQ)) : Frame [.nvs] W s (State.boxNote s v) := by
  unfold State.boxNote
  with_reducible refine Frame.step ?_ (State.boxAdd_frame _ _ _ _ _ _ _ _ ?_ ?_ ?_) (by decide)
  exact Frame.refl ..
  exact hw0; exact hw1; exact hw2

theorem nvsRegWrite_frame {W : Nat → Prop} (s : State) (a : ℕ) (v : Word) (hw0 : W (a)) (hw1 : W (R.BBX_CTL)) (hw2 : W (R.BBX_COUNT)) (hw3 : W (R.BBX_SEQ)) (hw4 : W (R.BBX_STAT)) (hw5 : W (R.EVT_PEND (130 / 32))) (hw6 : W (R.EVT_LOST_CNT)) (hw7 : W (R.EVT_STAT)) (hw8 : W (R.BBX_TILES)) (hw9 : W (R.NVS_QFILL)) (hw10 : W (R.BBX_DISC_CNT)) : Frame.opt [.evt, .nvs] W s (nvsRegWrite s a v) := by
  unfold nvsRegWrite
  split
  with_reducible refine Frame.opt_some ?_
  with_reducible refine Frame.putReg ?_ ?_
  exact Frame.refl ..
  exact hw0
  split
  with_reducible refine Frame.opt_some ?_
  with_reducible refine Frame.putReg ?_ ?_
  exact Frame.refl ..
  exact hw0
  split
  with_reducible refine Frame.opt_some ?_
  with_reducible refine Frame.step ?_ (State.boxCtl_frame _ _ ?_ ?_ ?_ ?_ ?_ ?_ ?_ ?_ ?_) (by decide)
  exact Frame.refl ..
  exact hw1; exact hw2; exact hw3; exact hw4; exact hw5; exact hw6; exact hw7; exact hw8; exact hw9
  split
  with_reducible refine Frame.opt_some ?_
  with_reducible refine Frame.step ?_ (State.boxNote_frame _ _ ?_ ?_ ?_) (by decide)
  exact Frame.refl ..
  exact hw10; exact hw2; exact hw3
  split
  with_reducible refine Frame.opt_some ?_
  with_reducible refine Frame.step ?_ (State.plainWrite_frame _ _ _ ?_) (by decide)
  exact Frame.refl ..
  exact hw0
  with_reducible exact Frame.opt_none

theorem State.piersServe_frame {W : Nat → Prop} (s : State) (hw0 : ∀ i0 i1, W (R.PIR_RES i0 i1)) (hw1 : ∀ i0, W (R.PIR_STAT i0)) : Frame [.piers] W s (State.piersServe s) := by
  unfold State.piersServe
  with_reducible refine Frame.eachDo ?_ ?_
  exact Frame.refl ..
  intro u0 x1 hu2
  with_reducible refine Frame.iteOf ?_ ?_
  with_reducible refine Frame.step ?_ (State.putPier_frame _ _ _) (by decide)
  with_reducible refine Frame.step ?_ (State.pierService_frame _ _ ?_ ?_) (by decide)
  assumption
  exact fun _ => hw0 _ _; exact hw1 _
  assumption

theorem execPirReload_frame {W : Nat → Prop} (p : Fin 16) (s : State) (hw0 : W (R.GLB_ACC_ERR)) (hw1 : W (R.PIR_STAT ↑p)) (hw2 : W (R.PIR_CTL ↑p)) (hw3 : W (R.NVS_QFILL)) : Frame.out [.piers, .nvs] W s (execPirReload p s) := by
  unfold execPirReload
  with_reducible refine Frame.out_next ?_
  with_reducible refine State.bar0Write_frame _ _ _ ?_ (by decide) ?_ ?_
  exact hw0
  exact Frame.refl ..
  intro u0 hu1
  with_reducible refine Frame.step ?_ (State.pirReload_frame _ _ ?_ ?_ ?_) (by decide)
  assumption
  exact hw1; exact hw2; exact hw3

theorem execPierReloadDone_frame {W : Nat → Prop} (p : Fin 16) (s : State) (hw0 : W (R.PIR_UC_CALC ↑p)) (hw1 : W (R.PIR_CTL ↑p)) (hw2 : W (R.DSP_BG_PEND)) (hw3 : W (R.PIR_STAT ↑p)) (hw4 : W (R.PIR_FAULT_CNT ↑p)) (hw5 : W (R.EVT_PEND ((32 + ↑p) / 32))) (hw6 : W (R.EVT_LOST_CNT)) (hw7 : W (R.EVT_STAT)) (hw8 : ∀ i0 i1, W (R.PIR_RES i0 i1)) (hw9 : ∀ i0, W (R.AXT_W2 i0)) (hw10 : ∀ i0, W (R.AXT_W0 i0)) (hw11 : W (R.AXT_STAT)) (hw12 : ∀ i0, W (R.AXT_FLT_MAP i0)) (hw13 : W (R.EVT_PEND (48 / 32))) : Frame.out [.evt, .dsp, .piers, .axes, .deck] W s (execPierReloadDone p s) := by
  unfold execPierReloadDone
  extract_lets x0 x1 x2
  have hx2 : Frame [.evt, .dsp, .piers, .axes, .deck] W s x2 := by
    (with_reducible conv => arg 4; whnf)
    with_reducible refine Frame.step ?_ (State.putPier_frame _ _ _) (by decide)
    with_reducible refine Frame.clr ?_ ?_
    with_reducible refine Frame.putReg ?_ ?_
    exact Frame.refl ..
    exact hw0; exact hw1
  split
  with_reducible refine Frame.out_next ?_
  with_reducible refine Frame.iteOf ?_ ?_
  exact hx2
  with_reducible refine Frame.step ?_ (State.pierFault_frame _ _ _ ?_ ?_ ?_ ?_ ?_ ?_ ?_ ?_ ?_ ?_ ?_ ?_ ?_) (by decide)
  exact hx2
  exact hw2; exact hw3; exact hw4; exact hw1; exact hw5; exact hw6; exact hw7; exact fun _ _ => hw8 _ _; exact fun _ => hw9 _; exact fun _ => hw10 _; exact hw11; exact fun _ => hw12 _; exact hw13
  with_reducible refine Frame.out_next ?_
  exact Frame.refl ..

theorem State.holdUp_frame {W : Nat → Prop} (s : State) (code : ℕ) (hw0 : W (R.NVS_HU_V)) (hw1 : W (R.NVS_HU_E)) : Frame [.nvs] W s (State.holdUp s code) := by
  unfold State.holdUp
  extract_lets x0 x1 x2 x3 x4 x5
  with_reducible refine Frame.putReg ?_ ?_
  with_reducible refine Frame.putReg ?_ ?_
  ((with_reducible refine Frame.step ?_ (State.putNvs_keep _ _ ?_) (by decide)); on_goal 2 => first | with_reducible rfl | with_reducible exact ⟨rfl, rfl⟩ | (simp +zetaDelta <;> fail))
  exact Frame.refl ..
  exact hw0; exact hw1

theorem State.powerFail_frame {W : Nat → Prop} (s : State) (hw0 : W (R.NVS_STAT)) (hw1 : W (R.BBX_STAT)) (hw2 : W (R.BBX_TILES)) (hw3 : W (R.BBX_COUNT)) (hw4 : W (R.BBX_SEQ)) (hw5 : W (R.EVT_PEND (130 / 32))) (hw6 : W (R.EVT_LOST_CNT)) (hw7 : W (R.EVT_STAT)) : Frame [.evt, .nvs] W s (State.powerFail s) := by
  unfold State.powerFail
  extract_lets x0 x1
  have hx0 : Frame [.evt, .nvs] W s x0 := by
    (with_reducible conv => arg 4; whnf)
    with_reducible refine Frame.set1 ?_ ?_
    exact Frame.refl ..
    exact hw0
  with_reducible refine Frame.iteOf ?_ ?_
  with_reducible refine Frame.step ?_ (State.boxCommit_frame _ _ ?_ ?_) (by decide)
  exact hx0
  exact hw1; exact hw2
  split
  with_reducible refine Frame.iteOf ?_ ?_
  exact hx0
  ((with_reducible refine Frame.step ?_ (State.putNvs_keep _ _ ?_) (by decide)); on_goal 2 => first | with_reducible rfl | with_reducible exact ⟨rfl, rfl⟩ | (simp +zetaDelta <;> fail))
  exact hx0
  with_reducible refine Frame.step ?_ (State.boxFreeze_frame _ _ ?_ ?_ ?_ ?_ ?_ ?_ ?_) (by decide)
  exact hx0
  exact hw3; exact hw4; exact hw1; exact hw5; exact hw6; exact hw7; exact hw2

theorem execAdcConversion_frame {W : Nat → Prop} (code : BitVec 16) (s : State) (hw0 : W (R.ADC_STAT)) (hw1 : ∀ i0, W (R.ADC_DATA i0)) (hw2 : W (R.NVS_HU_V)) (hw3 : W (R.NVS_HU_E)) (hw4 : W (R.NVS_STAT)) (hw5 : W (R.BBX_STAT)) (hw6 : W (R.BBX_TILES)) (hw7 : W (R.BBX_COUNT)) (hw8 : W (R.BBX_SEQ)) (hw9 : W (R.EVT_PEND (130 / 32))) (hw10 : W (R.EVT_LOST_CNT)) (hw11 : W (R.EVT_STAT)) : Frame.out [.evt, .acq, .nvs] W s (execAdcConversion code s) := by
  unfold execAdcConversion
  split
  with_reducible refine Frame.out_next ?_
  exact Frame.refl ..
  extract_lets x0 x1 x2 x3
  have hx2 : Frame [.evt, .acq, .nvs] W s x2 := by
    (with_reducible conv => arg 4; whnf)
    ((with_reducible refine Frame.upd ?_ ?_); on_goal 2 => (intro p hp; cases p <;> first | exact (hp (by decide)).elim | (dsimp only [Part.same] <;> fail)))
    exact Frame.refl ..
  have hx3 : Frame [.evt, .acq, .nvs] W s x3 := by
    (with_reducible conv => arg 4; whnf)
    with_reducible refine Frame.set1 ?_ ?_
    with_reducible refine Frame.setF ?_ ?_
    exact hx2
    exact hw0; exact hw0
  split
  with_reducible refine Frame.out_next ?_
  exact hx3
  extract_lets x4 x5
  have hx4 : Frame [.evt, .acq, .nvs] W s x4 := by
    (with_reducible conv => arg 4; whnf)
    with_reducible refine Frame.incWrap ?_ ?_
    with_reducible refine Frame.setF ?_ ?_
    exact hx3
    exact hw1 _; exact hw1 _
  have hx5 : Frame [.evt, .acq, .nvs] W s x5 := by
    (with_reducible conv => arg 4; whnf)
    with_reducible refine Frame.iteOf ?_ ?_
    with_reducible refine Frame.step ?_ (State.holdUp_frame _ _ ?_ ?_) (by decide)
    exact hx4
    exact hw2; exact hw3
    exact hx4
  split
  with_reducible refine Frame.out_next ?_
  with_reducible refine Frame.whenDo ?_ ?_
  exact hx5
  intro u6 hu7
  with_reducible refine Frame.step ?_ (State.powerFail_frame _ ?_ ?_ ?_ ?_ ?_ ?_ ?_ ?_) (by decide)
  assumption
  exact hw4; exact hw5; exact hw6; exact hw7; exact hw8; exact hw9; exact hw10; exact hw11
  with_reducible refine Frame.out_next ?_
  exact hx4

theorem State.nvsWrite_frame {W : Nat → Prop} (s : State) (t : PktTag) (b : ℕ) (off : ℕ) (ws : List Word) (hw0 : W (R.NVS_QFILL)) : Frame [.nvs] W s (State.nvsWrite s t b off ws).2 := by
  unfold State.nvsWrite
  with_reducible refine Frame.iteSnd ?_ ?_
  (with_reducible conv => arg 4; whnf)
  exact Frame.refl ..
  with_reducible refine Frame.iteSnd ?_ ?_
  (with_reducible conv => arg 4; whnf)
  exact Frame.refl ..
  with_reducible refine Frame.iteSnd ?_ ?_
  (with_reducible conv => arg 4; whnf)
  exact Frame.refl ..
  with_reducible refine Frame.iteSnd ?_ ?_
  (with_reducible conv => arg 4; whnf)
  exact Frame.refl ..
  (with_reducible conv => arg 4; whnf)
  with_reducible refine Frame.step ?_ (State.flashQueue_frame _ _ ?_) (by decide)
  exact Frame.refl ..
  exact hw0

theorem State.nvsCommit_frame {W : Nat → Prop} (s : State) (t : Option PktTag) (b : ℕ) (hw0 : W (R.NVS_QFILL)) : Frame [.nvs] W s (State.nvsCommit s t b) := by
  unfold State.nvsCommit
  with_reducible refine Frame.step ?_ (State.flashQueue_frame _ _ ?_) (by decide)
  exact Frame.refl ..
  exact hw0

theorem State.boxServe_frame {W : Nat → Prop} (s : State) (src : ℕ) (l : EvtLatch) (hw0 : W (R.BBX_DISC_CNT)) (hw1 : W (R.BBX_COUNT)) (hw2 : W (R.BBX_SEQ)) (hw3 : W (R.BBX_STAT)) (hw4 : W (R.EVT_PEND (130 / 32))) (hw5 : W (R.EVT_LOST_CNT)) (hw6 : W (R.EVT_STAT)) (hw7 : W (R.BBX_TILES)) : Frame [.evt, .nvs] W s (State.boxServe s src l) := by
  unfold State.boxServe
  extract_lets x0
  have hx0 : Frame [.evt, .nvs] W s x0 := by
    (with_reducible conv => arg 4; whnf)
    with_reducible refine Frame.whenDo ?_ ?_
    exact Frame.refl ..
    intro u3 hu4
    with_reducible refine Frame.step ?_ (State.boxAdd_frame _ _ _ _ _ _ _ _ ?_ ?_ ?_) (by decide)
    assumption
    exact hw0; exact hw1; exact hw2
  with_reducible refine Frame.whenDo ?_ ?_
  exact hx0
  intro u1 hu2
  with_reducible refine Frame.step ?_ (State.boxFreeze_frame _ _ ?_ ?_ ?_ ?_ ?_ ?_ ?_) (by decide)
  assumption
  exact hw1; exact hw2; exact hw3; exact hw4; exact hw5; exact hw6; exact hw7

theorem execEventWriterServe_frame {W : Nat → Prop} (s : State) (hw0 : W (R.EVT_PEND (4 / 32))) (hw1 : ∀ i0, W (R.EVT_QUEUE i0)) (hw2 : ∀ i0, W (R.EVT_QUEUE i0 + 4)) (hw3 : ∀ i0, W (R.EVT_QUEUE i0 + 8)) (hw4 : ∀ i0, W (R.EVT_QUEUE i0 + 12)) (hw5 : W (R.EVT_TAIL)) (hw6 : W (R.BBX_DISC_CNT)) (hw7 : W (R.BBX_COUNT)) (hw8 : W (R.BBX_SEQ)) (hw9 : W (R.BBX_STAT)) (hw10 : W (R.EVT_PEND (130 / 32))) (hw11 : W (R.EVT_LOST_CNT)) (hw12 : W (R.EVT_STAT)) (hw13 : W (R.BBX_TILES)) : Frame.out [.evt, .nvs] W s (execEventWriterServe s) := by
  unfold execEventWriterServe
  split
  with_reducible refine Frame.out_next ?_
  exact Frame.refl ..
  split
  with_reducible refine Frame.out_next ?_
  with_reducible refine Frame.step ?_ (State.evtWriteLoss_frame _ ?_ ?_ ?_ ?_ ?_ ?_) (by decide)
  exact Frame.refl ..
  exact hw0; exact fun _ => hw1 _; exact fun _ => hw2 _; exact fun _ => hw3 _; exact fun _ => hw4 _; exact hw5
  split
  with_reducible refine Frame.out_next ?_
  exact Frame.refl ..
  extract_lets x0 x1 x2
  have hx2 : Frame [.evt, .nvs] W s x2 := by
    (with_reducible conv => arg 4; whnf)
    ((with_reducible refine Frame.upd ?_ ?_); on_goal 2 => (intro p hp; cases p <;> first | exact (hp (by decide)).elim | (dsimp only [Part.same] <;> fail)))
    exact Frame.refl ..
  with_reducible refine Frame.out_next ?_
  with_reducible refine Frame.step ?_ (State.boxServe_frame _ _ _ ?_ ?_ ?_ ?_ ?_ ?_ ?_ ?_) (by decide)
  exact hx2
  exact hw6; exact hw7; exact hw8; exact hw9; exact hw10; exact hw11; exact hw12; exact hw13

theorem execBbxNote_frame {W : Nat → Prop} (val : Word) (s : State) (hw0 : W (R.GLB_ACC_ERR)) (hw1 : W (R.BBX_DISC_CNT)) (hw2 : W (R.BBX_COUNT)) (hw3 : W (R.BBX_SEQ)) : Frame.out [.nvs] W s (execBbxNote val s) := by
  unfold execBbxNote
  with_reducible refine Frame.out_next ?_
  with_reducible refine State.bar0Write_frame _ _ _ ?_ (by decide) ?_ ?_
  exact hw0
  exact Frame.refl ..
  intro u0 hu1
  with_reducible refine Frame.step ?_ (State.boxNote_frame _ _ ?_ ?_ ?_) (by decide)
  assumption
  exact hw1; exact hw2; exact hw3

theorem execFreeze_frame {W : Nat → Prop} (val : Word) (s : State) (hw0 : W (R.GLB_ACC_ERR)) (hw1 : W (R.BBX_CTL)) (hw2 : W (R.BBX_COUNT)) (hw3 : W (R.BBX_SEQ)) (hw4 : W (R.BBX_STAT)) (hw5 : W (R.EVT_PEND (130 / 32))) (hw6 : W (R.EVT_LOST_CNT)) (hw7 : W (R.EVT_STAT)) (hw8 : W (R.BBX_TILES)) (hw9 : W (R.NVS_QFILL)) : Frame.out [.evt, .nvs] W s (execFreeze val s) := by
  unfold execFreeze
  with_reducible refine Frame.out_next ?_
  with_reducible refine State.bar0Write_frame _ _ _ ?_ (by decide) ?_ ?_
  exact hw0
  exact Frame.refl ..
  intro u0 hu1
  with_reducible refine Frame.step ?_ (State.boxCtl_frame _ _ ?_ ?_ ?_ ?_ ?_ ?_ ?_ ?_ ?_) (by decide)
  assumption
  exact hw1; exact hw2; exact hw3; exact hw4; exact hw5; exact hw6; exact hw7; exact hw8; exact hw9

theorem execCommit_frame {W : Nat → Prop} (val : Word) (s : State) (hw0 : W (R.GLB_ACC_ERR)) (hw1 : W (R.BBX_CTL)) (hw2 : W (R.BBX_COUNT)) (hw3 : W (R.BBX_SEQ)) (hw4 : W (R.BBX_STAT)) (hw5 : W (R.EVT_PEND (130 / 32))) (hw6 : W (R.EVT_LOST_CNT)) (hw7 : W (R.EVT_STAT)) (hw8 : W (R.BBX_TILES)) (hw9 : W (R.NVS_QFILL)) : Frame.out [.evt, .nvs] W s (execCommit val s) := by
  unfold execCommit
  with_reducible refine Frame.out_next ?_
  with_reducible refine State.bar0Write_frame _ _ _ ?_ (by decide) ?_ ?_
  exact hw0
  exact Frame.refl ..
  intro u0 hu1
  with_reducible refine Frame.step ?_ (State.boxCtl_frame _ _ ?_ ?_ ?_ ?_ ?_ ?_ ?_ ?_ ?_) (by decide)
  assumption
  exact hw1; exact hw2; exact hw3; exact hw4; exact hw5; exact hw6; exact hw7; exact hw8; exact hw9

theorem execRelease_frame {W : Nat → Prop} (val : Word) (s : State) (hw0 : W (R.GLB_ACC_ERR)) (hw1 : W (R.BBX_CTL)) (hw2 : W (R.BBX_COUNT)) (hw3 : W (R.BBX_SEQ)) (hw4 : W (R.BBX_STAT)) (hw5 : W (R.EVT_PEND (130 / 32))) (hw6 : W (R.EVT_LOST_CNT)) (hw7 : W (R.EVT_STAT)) (hw8 : W (R.BBX_TILES)) (hw9 : W (R.NVS_QFILL)) : Frame.out [.evt, .nvs] W s (execRelease val s) := by
  unfold execRelease
  with_reducible refine Frame.out_next ?_
  with_reducible refine State.bar0Write_frame _ _ _ ?_ (by decide) ?_ ?_
  exact hw0
  exact Frame.refl ..
  intro u0 hu1
  with_reducible refine Frame.step ?_ (State.boxCtl_frame _ _ ?_ ?_ ?_ ?_ ?_ ?_ ?_ ?_ ?_) (by decide)
  assumption
  exact hw1; exact hw2; exact hw3; exact hw4; exact hw5; exact hw6; exact hw7; exact hw8; exact hw9

theorem execLoad_frame {W : Nat → Prop} (val : Word) (s : State) (hw0 : W (R.GLB_ACC_ERR)) (hw1 : W (R.BBX_CTL)) (hw2 : W (R.BBX_COUNT)) (hw3 : W (R.BBX_SEQ)) (hw4 : W (R.BBX_STAT)) (hw5 : W (R.EVT_PEND (130 / 32))) (hw6 : W (R.EVT_LOST_CNT)) (hw7 : W (R.EVT_STAT)) (hw8 : W (R.BBX_TILES)) (hw9 : W (R.NVS_QFILL)) : Frame.out [.evt, .nvs] W s (execLoad val s) := by
  unfold execLoad
  with_reducible refine Frame.out_next ?_
  with_reducible refine State.bar0Write_frame _ _ _ ?_ (by decide) ?_ ?_
  exact hw0
  exact Frame.refl ..
  intro u0 hu1
  with_reducible refine Frame.step ?_ (State.boxCtl_frame _ _ ?_ ?_ ?_ ?_ ?_ ?_ ?_ ?_ ?_) (by decide)
  assumption
  exact hw1; exact hw2; exact hw3; exact hw4; exact hw5; exact hw6; exact hw7; exact hw8; exact hw9

theorem execErase_frame {W : Nat → Prop} (val : Word) (s : State) (hw0 : W (R.GLB_ACC_ERR)) (hw1 : W (R.BBX_CTL)) (hw2 : W (R.BBX_COUNT)) (hw3 : W (R.BBX_SEQ)) (hw4 : W (R.BBX_STAT)) (hw5 : W (R.EVT_PEND (130 / 32))) (hw6 : W (R.EVT_LOST_CNT)) (hw7 : W (R.EVT_STAT)) (hw8 : W (R.BBX_TILES)) (hw9 : W (R.NVS_QFILL)) : Frame.out [.evt, .nvs] W s (execErase val s) := by
  unfold execErase
  with_reducible refine Frame.out_next ?_
  with_reducible refine State.bar0Write_frame _ _ _ ?_ (by decide) ?_ ?_
  exact hw0
  exact Frame.refl ..
  intro u0 hu1
  with_reducible refine Frame.step ?_ (State.boxCtl_frame _ _ ?_ ?_ ?_ ?_ ?_ ?_ ?_ ?_ ?_) (by decide)
  assumption
  exact hw1; exact hw2; exact hw3; exact hw4; exact hw5; exact hw6; exact hw7; exact hw8; exact hw9

theorem execNvsSwitch_frame {W : Nat → Prop} (s : State) (hw0 : W (R.NVS_STAT)) (hw1 : W (R.NVS_QFILL)) : Frame.out [.host, .nvs] W s (execNvsSwitch s) := by
  unfold execNvsSwitch
  split
  with_reducible refine Frame.out_next ?_
  exact Frame.refl ..
  extract_lets x0
  with_reducible refine Frame.out_next ?_
  with_reducible refine Frame.iteOf ?_ ?_
  with_reducible refine Frame.set1 ?_ ?_
  refine Frame.of_optSnd (by assumption) ?_
  with_reducible refine Frame.optSnd_comp ?_ (State.takeAccepted_frame _ _) (by decide)
  exact Frame.refl ..
  exact hw0
  with_reducible refine Frame.step ?_ (State.nvsCommit_frame _ _ _ ?_) (by decide)
  refine Frame.of_optSnd (by assumption) ?_
  with_reducible refine Frame.optSnd_comp ?_ (State.takeAccepted_frame _ _) (by decide)
  exact Frame.refl ..
  exact hw1

theorem State.flashDefer_frame {W : Nat → Prop} (s : State) (q : FlashReq) (rest : List FlashReq) (hw0 : W (R.NVS_STAT)) (hw1 : W (R.NVS_DEFER_CNT)) (hw2 : W (R.EVT_PEND (129 / 32))) (hw3 : W (R.EVT_LOST_CNT)) (hw4 : W (R.EVT_STAT)) : Frame [.evt, .nvs] W s (State.flashDefer s q rest) := by
  unfold State.flashDefer
  extract_lets x0 x1 x2 x3 x4
  have hx1 : Frame [.evt, .nvs] W s x1 := by
    (with_reducible conv => arg 4; whnf)
    ((with_reducible refine Frame.step ?_ (State.putNvs_keep _ _ ?_) (by decide)); on_goal 2 => first | with_reducible rfl | with_reducible exact ⟨rfl, rfl⟩ | (simp +zetaDelta <;> fail))
    exact Frame.refl ..
  have hx3 : Frame [.evt, .nvs] W s x3 := by
    (with_reducible conv => arg 4; whnf)
    ((with_reducible refine Frame.step ?_ (State.putNvs_keep _ _ ?_) (by decide)); on_goal 2 => first | with_reducible rfl | with_reducible exact ⟨rfl, rfl⟩ | (simp +zetaDelta <;> fail))
    exact hx1
  with_reducible refine Frame.iteOf ?_ ?_
  exact hx1
  with_reducible refine Frame.step ?_ (State.raise_frame _ _ _ _ ?_ ?_ ?_) (by decide)
  with_reducible refine Frame.incSat ?_ ?_
  with_reducible refine Frame.set1 ?_ ?_
  exact hx3
  exact hw0; exact hw1; exact hw2; exact hw3; exact hw4

theorem State.flashStart_frame {W : Nat → Prop} (s : State) (hw0 : W (R.NVS_STAT)) (hw1 : W (R.BBX_STAT)) (hw2 : W (R.NVS_DEFER_CNT)) (hw3 : W (R.EVT_PEND (129 / 32))) (hw4 : W (R.EVT_LOST_CNT)) (hw5 : W (R.EVT_STAT)) : Frame [.evt, .nvs] W s (State.flashStart s) := by
  unfold State.flashStart
  split
  extract_lets x0 x1
  with_reducible refine Frame.iteOf ?_ ?_
  exact Frame.refl ..
  with_reducible refine Frame.iteOf ?_ ?_
  with_reducible refine Frame.set1 ?_ ?_
  ((with_reducible refine Frame.step ?_ (State.putNvs_keep _ _ ?_) (by decide)); on_goal 2 => first | with_reducible rfl | with_reducible exact ⟨rfl, rfl⟩ | (simp +zetaDelta <;> fail))
  exact Frame.refl ..
  exact hw0
  with_reducible refine Frame.iteOf ?_ ?_
  with_reducible refine Frame.setF ?_ ?_
  with_reducible refine Frame.set1 ?_ ?_
  ((with_reducible refine Frame.step ?_ (State.putNvs_keep _ _ ?_) (by decide)); on_goal 2 => first | with_reducible rfl | with_reducible exact ⟨rfl, rfl⟩ | (simp +zetaDelta <;> fail))
  exact Frame.refl ..
  exact hw1; exact hw1
  ((with_reducible refine Frame.step ?_ (State.putNvs_keep _ _ ?_) (by decide)); on_goal 2 => first | with_reducible rfl | with_reducible exact ⟨rfl, rfl⟩ | (simp +zetaDelta <;> fail))
  exact Frame.refl ..
  split
  exact Frame.refl ..
  split
  exact Frame.refl ..
  extract_lets x2 x3
  with_reducible refine Frame.iteOf ?_ ?_
  exact Frame.refl ..
  with_reducible refine Frame.iteOf ?_ ?_
  with_reducible refine Frame.set1 ?_ ?_
  ((with_reducible refine Frame.step ?_ (State.putNvs_keep _ _ ?_) (by decide)); on_goal 2 => first | with_reducible rfl | with_reducible exact ⟨rfl, rfl⟩ | (simp +zetaDelta <;> fail))
  exact Frame.refl ..
  exact hw0
  with_reducible refine Frame.step ?_ (State.flashDefer_frame _ _ _ ?_ ?_ ?_ ?_ ?_) (by decide)
  exact Frame.refl ..
  exact hw0; exact hw2; exact hw3; exact hw4; exact hw5

theorem execFlashOperationStart_frame {W : Nat → Prop} (s : State) (hw0 : W (R.NVS_STAT)) (hw1 : W (R.BBX_STAT)) (hw2 : W (R.NVS_DEFER_CNT)) (hw3 : W (R.EVT_PEND (129 / 32))) (hw4 : W (R.EVT_LOST_CNT)) (hw5 : W (R.EVT_STAT)) : Frame.out [.evt, .nvs] W s (execFlashOperationStart s) := by
  unfold execFlashOperationStart
  split
  with_reducible refine Frame.out_next ?_
  exact Frame.refl ..
  with_reducible refine Frame.out_next ?_
  with_reducible refine Frame.step ?_ (State.flashStart_frame _ ?_ ?_ ?_ ?_ ?_ ?_) (by decide)
  exact Frame.refl ..
  exact hw0; exact hw1; exact hw2; exact hw3; exact hw4; exact hw5

theorem State.flashSet_frame {W : Nat → Prop} (s : State) (a : ℕ) (bs : List Byte) : Frame [.nvs, .flash] W s (State.flashSet s a bs) := by
  unfold State.flashSet
  with_reducible refine Frame.step ?_ (State.putNvs_frame _ _) (by decide)
  exact Frame.refl ..

theorem State.flashProgram_frame {W : Nat → Prop} (s : State) (a : ℕ) (bs : List Byte) : Frame [.nvs, .flash] W s (State.flashProgram s a bs) := by
  unfold State.flashProgram
  with_reducible refine Frame.step ?_ (State.flashSet_frame _ _ _) (by decide)
  exact Frame.refl ..

theorem State.boxCommitted_frame {W : Nat → Prop} (s : State) (hw0 : W (R.BBX_STAT)) : Frame [.nvs] W s (State.boxCommitted s) := by
  unfold State.boxCommitted
  with_reducible refine Frame.setF ?_ ?_
  ((with_reducible refine Frame.step ?_ (State.putNvs_keep _ _ ?_) (by decide)); on_goal 2 => first | with_reducible rfl | with_reducible exact ⟨rfl, rfl⟩ | (simp +zetaDelta <;> fail))
  exact Frame.refl ..
  exact hw0

theorem State.boxStep_frame {W : Nat → Prop} (s : State) (c : BoxCommit) (n : ℕ) (hw0 : W (R.BBX_ASEQ (BoxCommit.area c))) (hw1 : W (R.BBX_TILES)) (hw2 : W (R.EVT_PEND (131 / 32))) (hw3 : W (R.EVT_LOST_CNT)) (hw4 : W (R.EVT_STAT)) (hw5 : W (R.BBX_STAT)) : Frame [.evt, .nvs, .flash] W s (State.boxStep s c n) := by
  unfold State.boxStep
  extract_lets x0 x1 x2 x3 x4 x5 x6
  have hx3 : Frame [.evt, .nvs, .flash] W s x3 := by
    (with_reducible conv => arg 4; whnf)
    with_reducible refine Frame.step ?_ (State.flashProgram_frame _ _ _) (by decide)
    exact Frame.refl ..
  have hx4 : Frame [.evt, .nvs, .flash] W s x4 := by
    (with_reducible conv => arg 4; whnf)
    with_reducible refine Frame.step ?_ (State.flashProgram_frame _ _ _) (by decide)
    exact hx3
  have hx5 : Frame [.evt, .nvs, .flash] W s x5 := by
    (with_reducible conv => arg 4; whnf)
    with_reducible refine Frame.iteOf ?_ ?_
    with_reducible refine Frame.putReg ?_ ?_
    with_reducible refine Frame.step ?_ (State.flashProgram_frame _ _ _) (by decide)
    exact Frame.refl ..
    exact hw0
    with_reducible refine Frame.step ?_ (State.raise_frame _ _ _ _ ?_ ?_ ?_) (by decide)
    with_reducible refine Frame.setF ?_ ?_
    exact hx4
    exact hw1; exact hw2; exact hw3; exact hw4
  with_reducible refine Frame.iteOf ?_ ?_
  ((with_reducible refine Frame.step ?_ (State.putNvs_keep _ _ ?_) (by decide)); on_goal 2 => first | with_reducible rfl | with_reducible exact ⟨rfl, rfl⟩ | (simp +zetaDelta <;> fail))
  exact hx5
  with_reducible refine Frame.step ?_ (State.boxCommitted_frame _ ?_) (by decide)
  exact hx5
  exact hw5

theorem State.mediaError_frame {W : Nat → Prop} (s : State) (kind : ℕ) (a : ℕ) (hw0 : W (R.NVS_STAT)) (hw1 : W (R.NVS_ERR_CNT)) (hw2 : W (R.EVT_PEND (133 / 32))) (hw3 : W (R.EVT_LOST_CNT)) (hw4 : W (R.EVT_STAT)) : Frame [.evt] W s (State.mediaError s kind a) := by
  unfold State.mediaError
  with_reducible refine Frame.step ?_ (State.raise_frame _ _ _ _ ?_ ?_ ?_) (by decide)
  with_reducible refine Frame.incSat ?_ ?_
  with_reducible refine Frame.set1 ?_ ?_
  exact Frame.refl ..
  exact hw0; exact hw1; exact hw2; exact hw3; exact hw4

theorem State.headerGone_frame {W : Nat → Prop} (s : State) (a : ℕ) (hw0 : ∀ i0, W (R.NVS_GEN i0)) : Frame [] W s (State.headerGone s a) := by
  unfold State.headerGone
  with_reducible refine Frame.eachDo ?_ ?_
  exact Frame.refl ..
  intro u0 x1 hu2
  with_reducible refine Frame.whenDo ?_ ?_
  assumption
  intro u3 hu4
  with_reducible refine Frame.putReg ?_ ?_
  assumption
  exact hw0 _

theorem State.flashErase_frame {W : Nat → Prop} (s : State) (a : ℕ) : Frame [.nvs, .flash] W s (State.flashErase s a) := by
  unfold State.flashErase
  with_reducible refine Frame.step ?_ (State.flashSet_frame _ _ _) (by decide)
  exact Frame.refl ..

theorem State.headSteps_frame {W : Nat → Prop} (s : State) (q : FlashReq) (steps : List FlashStep) : Frame [.nvs] W s (State.headSteps s q steps) := by
  unfold State.headSteps
  ((with_reducible refine Frame.step ?_ (State.putNvs_keep _ _ ?_) (by decide)); on_goal 2 => first | with_reducible rfl | with_reducible exact ⟨rfl, rfl⟩ | (simp +zetaDelta <;> fail))
  exact Frame.refl ..

theorem State.headDone_frame {W : Nat → Prop} (s : State) (q : FlashReq) (status : ℕ) (hw0 : W (R.NVS_QFILL)) (hw1 : W (R.EVT_PEND (128 / 32))) (hw2 : W (R.EVT_LOST_CNT)) (hw3 : W (R.EVT_STAT)) : Frame [.evt, .hif, .nvs] W s (State.headDone s q status) := by
  unfold State.headDone
  extract_lets x0 x1
  have hx1 : Frame [.evt, .hif, .nvs] W s x1 := by
    (with_reducible conv => arg 4; whnf)
    with_reducible refine Frame.step ?_ (State.reloadAdmit_frame _ ?_) (by decide)
    with_reducible refine Frame.step ?_ (State.showQueue_frame _ ?_) (by decide)
    ((with_reducible refine Frame.step ?_ (State.putNvs_keep _ _ ?_) (by decide)); on_goal 2 => first | with_reducible rfl | with_reducible exact ⟨rfl, rfl⟩ | (simp +zetaDelta <;> fail))
    exact Frame.refl ..
    exact hw0; exact hw0
  with_reducible refine Frame.step ?_ (State.packetEnds_frame _ _ _ _ _) (by decide)
  with_reducible refine Frame.step ?_ (State.raise_frame _ _ _ _ ?_ ?_ ?_) (by decide)
  exact hx1
  exact hw1; exact hw2; exact hw3

theorem State.loadStep_frame {W : Nat → Prop} (s : State) (q : FlashReq) (area : ℕ) (next : ℕ) (hw0 : W (R.BBX_COUNT)) (hw1 : W (R.BBX_STAT)) (hw2 : W (R.BBX_TILES)) (hw3 : W (R.BBX_SEQ)) (hw4 : W (R.NVS_QFILL)) (hw5 : W (R.EVT_PEND (128 / 32))) (hw6 : W (R.EVT_LOST_CNT)) (hw7 : W (R.EVT_STAT)) : Frame [.evt, .hif, .nvs] W s (State.loadStep s q area next) := by
  unfold State.loadStep
  extract_lets x0 x1 x2 x3 x4 x5 x6
  have hx4 : Frame [.evt, .hif, .nvs] W s x4 := by
    (with_reducible conv => arg 4; whnf)
    with_reducible refine Frame.setF ?_ ?_
    with_reducible refine Frame.setF ?_ ?_
    ((with_reducible refine Frame.step ?_ (State.putNvs_keep _ _ ?_) (by decide)); on_goal 2 => first | with_reducible rfl | with_reducible exact ⟨rfl, rfl⟩ | (simp +zetaDelta <;> fail))
    exact Frame.refl ..
    exact hw0; exact hw1
  have hx5 : Frame [.evt, .hif, .nvs] W s x5 := by
    (with_reducible conv => arg 4; whnf)
    with_reducible refine Frame.setF ?_ ?_
    with_reducible refine Frame.setF ?_ ?_
    exact hx4
    exact hw2; exact hw2
  have hx6 : Frame [.evt, .hif, .nvs] W s x6 := by
    (with_reducible conv => arg 4; whnf)
    split
    with_reducible refine Frame.putReg ?_ ?_
    exact hx5
    exact hw3
    exact hx5
  with_reducible refine Frame.iteOf ?_ ?_
  with_reducible refine Frame.step ?_ (State.headSteps_frame _ _ _) (by decide)
  exact Frame.refl ..
  with_reducible refine Frame.step ?_ (State.headDone_frame _ _ _ ?_ ?_ ?_ ?_) (by decide)
  exact hx6
  exact hw4; exact hw5; exact hw6; exact hw7

theorem State.loadRead_frame {W : Nat → Prop} (s : State) (q : FlashReq) (area : ℕ) (a : ℕ) (hw0 : W (R.BBX_COUNT)) (hw1 : W (R.BBX_STAT)) (hw2 : W (R.BBX_TILES)) (hw3 : W (R.BBX_SEQ)) (hw4 : W (R.NVS_QFILL)) (hw5 : W (R.EVT_PEND (128 / 32))) (hw6 : W (R.EVT_LOST_CNT)) (hw7 : W (R.EVT_STAT)) : Frame [.evt, .hif, .nvs] W s (State.loadRead s q area a) := by
  unfold State.loadRead
  with_reducible refine Frame.iteOf ?_ ?_
  with_reducible refine Frame.iteOf ?_ ?_
  with_reducible refine Frame.step ?_ (State.loadStep_frame _ _ _ _ ?_ ?_ ?_ ?_ ?_ ?_ ?_ ?_) (by decide)
  ((with_reducible refine Frame.step ?_ (State.putNvs_keep _ _ ?_) (by decide)); on_goal 2 => first | with_reducible rfl | with_reducible exact ⟨rfl, rfl⟩ | (simp +zetaDelta <;> fail))
  exact Frame.refl ..
  exact hw0; exact hw1; exact hw2; exact hw3; exact hw4; exact hw5; exact hw6; exact hw7
  with_reducible refine Frame.step ?_ (State.headDone_frame _ _ _ ?_ ?_ ?_ ?_) (by decide)
  with_reducible refine Frame.set1 ?_ ?_
  ((with_reducible refine Frame.step ?_ (State.putNvs_keep _ _ ?_) (by decide)); on_goal 2 => first | with_reducible rfl | with_reducible exact ⟨rfl, rfl⟩ | (simp +zetaDelta <;> fail))
  exact Frame.refl ..
  exact hw1; exact hw4; exact hw5; exact hw6; exact hw7
  extract_lets x0 x1 x2
  have hx2 : Frame [.evt, .hif, .nvs] W s x2 := by
    (with_reducible conv => arg 4; whnf)
    ((with_reducible refine Frame.step ?_ (State.putNvs_keep _ _ ?_) (by decide)); on_goal 2 => first | with_reducible rfl | with_reducible exact ⟨rfl, rfl⟩ | (simp +zetaDelta <;> fail))
    exact Frame.refl ..
  with_reducible refine Frame.step ?_ (State.loadStep_frame _ _ _ _ ?_ ?_ ?_ ?_ ?_ ?_ ?_ ?_) (by decide)
  exact hx2
  exact hw0; exact hw1; exact hw2; exact hw3; exact hw4; exact hw5; exact hw6; exact hw7

theorem State.bankSwitch_frame {W : Nat → Prop} (s : State) (b : ℕ) (gen : Word) (hw0 : W (R.NVS_STAT)) (hw1 : W (R.NVS_GEN b)) (hw2 : W (R.NVS_WP 0)) (hw3 : W (R.NVS_WP 1)) (hw4 : W (R.EVT_PEND (132 / 32))) (hw5 : W (R.EVT_LOST_CNT)) (hw6 : W (R.EVT_STAT)) : Frame [.evt, .nvs] W s (State.bankSwitch s b gen) := by
  unfold State.bankSwitch
  extract_lets x0 x1 x2
  have hx0 : Frame [.evt, .nvs] W s x0 := by
    (with_reducible conv => arg 4; whnf)
    with_reducible refine Frame.putReg ?_ ?_
    with_reducible refine Frame.setF ?_ ?_
    with_reducible refine Frame.clr ?_ ?_
    exact Frame.refl ..
    exact hw0; exact hw0; exact hw1
  have hx1 : Frame [.evt, .nvs] W s x1 := by
    (with_reducible conv => arg 4; whnf)
    with_reducible refine Frame.setF ?_ ?_
    with_reducible refine Frame.setF ?_ ?_
    exact hx0
    exact hw2; exact hw3
  with_reducible refine Frame.step ?_ (State.raise_frame _ _ _ _ ?_ ?_ ?_) (by decide)
  ((with_reducible refine Frame.step ?_ (State.putNvs_keep _ _ ?_) (by decide)); on_goal 2 => first | with_reducible rfl | with_reducible exact ⟨rfl, rfl⟩ | (simp +zetaDelta <;> fail))
  exact hx1
  exact hw4; exact hw5; exact hw6

theorem State.commitStep_frame {W : Nat → Prop} (s : State) (q : FlashReq) (b : ℕ) (x : FlashStep) (hw0 : W (R.NVS_STAT)) (hw1 : W (R.NVS_GEN b)) (hw2 : W (R.NVS_WP 0)) (hw3 : W (R.NVS_WP 1)) (hw4 : W (R.EVT_PEND (132 / 32))) (hw5 : W (R.EVT_LOST_CNT)) (hw6 : W (R.EVT_STAT)) (hw7 : W (R.NVS_QFILL)) (hw8 : W (R.EVT_PEND (128 / 32))) (hw9 : W (R.NVS_ERR_CNT)) (hw10 : W (R.EVT_PEND (133 / 32))) : Frame [.evt, .hif, .nvs] W s (State.commitStep s q b x) := by
  unfold State.commitStep
  split
  with_reducible refine Frame.step ?_ (State.headSteps_frame _ _ _) (by decide)
  exact Frame.refl ..
  exact Frame.refl ..
  with_reducible refine Frame.iteOf ?_ ?_
  with_reducible refine Frame.step ?_ (State.headSteps_frame _ _ _) (by decide)
  exact Frame.refl ..
  with_reducible refine Frame.iteOf ?_ ?_
  with_reducible refine Frame.step ?_ (State.headDone_frame _ _ _ ?_ ?_ ?_ ?_) (by decide)
  with_reducible refine Frame.step ?_ (State.bankSwitch_frame _ _ _ ?_ ?_ ?_ ?_ ?_ ?_ ?_) (by decide)
  exact Frame.refl ..
  exact hw0; exact hw1; exact hw2; exact hw3; exact hw4; exact hw5; exact hw6; exact hw7; exact hw8; exact hw5; exact hw6
  with_reducible refine Frame.step ?_ (State.headDone_frame _ _ _ ?_ ?_ ?_ ?_) (by decide)
  with_reducible refine Frame.putReg ?_ ?_
  with_reducible refine Frame.step ?_ (State.mediaError_frame _ _ _ ?_ ?_ ?_ ?_ ?_) (by decide)
  exact Frame.refl ..
  exact hw0; exact hw9; exact hw10; exact hw5; exact hw6; exact hw1; exact hw7; exact hw8; exact hw5; exact hw6

theorem State.reloadWrite_frame {W : Nat → Prop} (s : State) (p : ℕ) : Frame [.piers, .deck, .pierMem] W s (State.reloadWrite s p) := by
  unfold State.reloadWrite
  extract_lets x0 x1 x2 x3 x4
  have hx3 : Frame [.piers, .deck, .pierMem] W s x3 := by
    (with_reducible conv => arg 4; whnf)
    ((with_reducible refine Frame.upd ?_ ?_); on_goal 2 => (intro p hp; cases p <;> first | exact (hp (by decide)).elim | (dsimp only [Part.same] <;> fail)))
    exact Frame.refl ..
  with_reducible refine Frame.step ?_ (State.putPier_frame _ _ _) (by decide)
  exact hx3

theorem State.headStep_frame {W : Nat → Prop} (s : State) (q : FlashReq) (x : FlashStep) (more : List FlashStep) (hw0 : ∀ i0, W (R.NVS_GEN i0)) (hw1 : W (R.BBX_COUNT)) (hw2 : W (R.BBX_STAT)) (hw3 : W (R.BBX_TILES)) (hw4 : W (R.BBX_SEQ)) (hw5 : W (R.NVS_QFILL)) (hw6 : W (R.EVT_PEND (128 / 32))) (hw7 : W (R.EVT_LOST_CNT)) (hw8 : W (R.EVT_STAT)) (hw9 : W (R.NVS_STAT)) (hw10 : W (R.EVT_PEND (132 / 32))) (hw11 : W (R.NVS_ERR_CNT)) (hw12 : W (R.EVT_PEND (133 / 32))) (hw13 : ∀ i0, W (R.NVS_WP i0)) (hw14 : ∀ i0, W (R.BBX_ASEQ i0)) : Frame [.evt, .piers, .deck, .pierMem, .hif, .nvs, .flash] W s (State.headStep s q x more) := by
  unfold State.headStep
  extract_lets x0
  have hx0 : Frame [.evt, .piers, .deck, .pierMem, .hif, .nvs, .flash] W s x0 := by
    (with_reducible conv => arg 4; whnf)
    split
    with_reducible refine Frame.step ?_ (State.flashProgram_frame _ _ _) (by decide)
    exact Frame.refl ..
    extract_lets x2 x3
    have hx2 : Frame [.evt, .piers, .deck, .pierMem, .hif, .nvs, .flash] W s x2 := by
      (with_reducible conv => arg 4; whnf)
      with_reducible refine Frame.step ?_ (State.headerGone_frame _ _ ?_) (by decide)
      with_reducible refine Frame.step ?_ (State.flashErase_frame _ _) (by decide)
      exact Frame.refl ..
      exact fun _ => hw0 _
    ((with_reducible refine Frame.step ?_ (State.putNvs_keep _ _ ?_) (by decide)); on_goal 2 => first | with_reducible rfl | with_reducible exact ⟨rfl, rfl⟩ | (simp +zetaDelta <;> fail))
    exact hx2
    exact Frame.refl ..
  split
  split
  with_reducible refine Frame.step ?_ (State.loadRead_frame _ _ _ _ ?_ ?_ ?_ ?_ ?_ ?_ ?_ ?_) (by decide)
  assumption
  exact hw1; exact hw2; exact hw3; exact hw4; exact hw5; exact hw6; exact hw7; exact hw8
  exact hx0
  with_reducible refine Frame.step ?_ (State.commitStep_frame _ _ _ _ ?_ ?_ ?_ ?_ ?_ ?_ ?_ ?_ ?_ ?_ ?_) (by decide)
  exact hx0
  exact hw9; exact hw0 _; exact hw13 _; exact hw13 _; exact hw10; exact hw7; exact hw8; exact hw5; exact hw6; exact hw11; exact hw12
  with_reducible refine Frame.iteOf ?_ ?_
  with_reducible refine Frame.step ?_ (State.headDone_frame _ _ _ ?_ ?_ ?_ ?_) (by decide)
  with_reducible refine Frame.setF ?_ ?_
  exact hx0
  exact hw13 _; exact hw5; exact hw6; exact hw7; exact hw8
  with_reducible refine Frame.step ?_ (State.headSteps_frame _ _ _) (by decide)
  exact hx0
  with_reducible refine Frame.iteOf ?_ ?_
  extract_lets x1
  have hx1 : Frame [.evt, .piers, .deck, .pierMem, .hif, .nvs, .flash] W s x1 := by
    (with_reducible conv => arg 4; whnf)
    with_reducible refine Frame.putReg ?_ ?_
    with_reducible refine Frame.setF ?_ ?_
    exact hx0
    exact hw2; exact hw14 _
  with_reducible refine Frame.step ?_ (State.headDone_frame _ _ _ ?_ ?_ ?_ ?_) (by decide)
  exact hx1
  exact hw5; exact hw6; exact hw7; exact hw8
  with_reducible refine Frame.step ?_ (State.headSteps_frame _ _ _) (by decide)
  exact hx0
  with_reducible refine Frame.iteOf ?_ ?_
  with_reducible refine Frame.step ?_ (State.headDone_frame _ _ _ ?_ ?_ ?_ ?_) (by decide)
  with_reducible refine Frame.step ?_ (State.reloadWrite_frame _ _) (by decide)
  exact hx0
  exact hw5; exact hw6; exact hw7; exact hw8
  with_reducible refine Frame.step ?_ (State.headSteps_frame _ _ _) (by decide)
  exact hx0

theorem State.flashSpoil_frame {W : Nat → Prop} (s : State) (a : ℕ) (n : ℕ) : Frame [.free, .nvs, .flash] W s (State.flashSpoil s a n) := by
  unfold State.flashSpoil
  extract_lets x0
  have hx0 : Frame [.free, .nvs, .flash] W s x0 := by
    (with_reducible conv => arg 4; whnf)
    with_reducible refine Frame.step ?_ (State.flashSet_frame _ _ _) (by decide)
    exact Frame.refl ..
  ((with_reducible refine Frame.upd ?_ ?_); on_goal 2 => (intro p hp; cases p <;> first | exact (hp (by decide)).elim | (dsimp only [Part.same] <;> fail)))
  exact hx0

theorem State.headFail_frame {W : Nat → Prop} (s : State) (q : FlashReq) (x : FlashStep) (hw0 : ∀ i0, W (R.NVS_GEN i0)) (hw1 : W (R.NVS_STAT)) (hw2 : W (R.NVS_ERR_CNT)) (hw3 : W (R.EVT_PEND (133 / 32))) (hw4 : W (R.EVT_LOST_CNT)) (hw5 : W (R.EVT_STAT)) (hw6 : W (R.BBX_STAT)) (hw7 : ∀ i0, W (R.PIR_STAT i0)) (hw8 : ∀ i0, W (R.PIR_CTL i0)) (hw9 : W (R.NVS_QFILL)) (hw10 : W (R.EVT_PEND (128 / 32))) : Frame [.free, .evt, .hif, .nvs, .flash] W s (State.headFail s q x) := by
  unfold State.headFail
  split
  extract_lets x0 x1 x2
  have hx0 : Frame [.free, .evt, .hif, .nvs, .flash] W s x0 := by
    (with_reducible conv => arg 4; whnf)
    with_reducible refine Frame.step ?_ (State.mediaError_frame _ _ _ ?_ ?_ ?_ ?_ ?_) (by decide)
    refine Frame.fst (by assumption) ?_
    split
    (with_reducible conv => arg 4; whnf)
    with_reducible refine Frame.step ?_ (State.flashSpoil_frame _ _ _) (by decide)
    exact Frame.refl ..
    (with_reducible conv => arg 4; whnf)
    with_reducible refine Frame.step ?_ (State.headerGone_frame _ _ ?_) (by decide)
    with_reducible refine Frame.step ?_ (State.flashSpoil_frame _ _ _) (by decide)
    exact Frame.refl ..
    exact fun _ => hw0 _
    (with_reducible conv => arg 4; whnf)
    exact Frame.refl ..
    exact hw1; exact hw2; exact hw3; exact hw4; exact hw5
  have hx2 : Frame [.free, .evt, .hif, .nvs, .flash] W s x2 := by
    (with_reducible conv => arg 4; whnf)
    split
    with_reducible refine Frame.set1 ?_ ?_
    ((with_reducible refine Frame.step ?_ (State.putNvs_keep _ _ ?_) (by decide)); on_goal 2 => first | with_reducible rfl | with_reducible exact ⟨rfl, rfl⟩ | (simp +zetaDelta <;> fail))
    exact hx0
    exact hw6
    with_reducible refine Frame.clr ?_ ?_
    with_reducible refine Frame.setF ?_ ?_
    exact hx0
    exact hw7 _; exact hw8 _
    with_reducible refine Frame.putReg ?_ ?_
    exact hx0
    exact hw0 _
    exact hx0
  with_reducible refine Frame.step ?_ (State.headDone_frame _ _ _ ?_ ?_ ?_ ?_) (by decide)
  exact hx2
  exact hw9; exact hw10; exact hw4; exact hw5

theorem execFlashOperationEnd_frame {W : Nat → Prop} (ok : Bool) (s : State) (hw0 : W (R.NVS_STAT)) (hw1 : ∀ i0, W (R.BBX_ASEQ i0)) (hw2 : W (R.BBX_TILES)) (hw3 : W (R.EVT_PEND (131 / 32))) (hw4 : W (R.EVT_LOST_CNT)) (hw5 : W (R.EVT_STAT)) (hw6 : W (R.BBX_STAT)) (hw7 : W (R.NVS_ERR_CNT)) (hw8 : W (R.EVT_PEND (133 / 32))) (hw9 : ∀ i0, W (R.NVS_GEN i0)) (hw10 : W (R.BBX_COUNT)) (hw11 : W (R.BBX_SEQ)) (hw12 : W (R.NVS_QFILL)) (hw13 : W (R.EVT_PEND (128 / 32))) (hw14 : W (R.EVT_PEND (132 / 32))) (hw15 : ∀ i0, W (R.NVS_WP i0)) (hw16 : ∀ i0, W (R.PIR_STAT i0)) (hw17 : ∀ i0, W (R.PIR_CTL i0)) : Frame.out [.free, .evt, .piers, .deck, .pierMem, .hif, .nvs, .flash] W s (execFlashOperationEnd ok s) := by
  unfold execFlashOperationEnd
  split
  with_reducible refine Frame.out_next ?_
  exact Frame.refl ..
  split
  with_reducible refine Frame.out_next ?_
  exact Frame.refl ..
  extract_lets x0 x1
  have hx1 : Frame [.free, .evt, .piers, .deck, .pierMem, .hif, .nvs, .flash] W s x1 := by
    (with_reducible conv => arg 4; whnf)
    with_reducible refine Frame.clr ?_ ?_
    ((with_reducible refine Frame.step ?_ (State.putNvs_keep _ _ ?_) (by decide)); on_goal 2 => first | with_reducible rfl | with_reducible exact ⟨rfl, rfl⟩ | (simp +zetaDelta <;> fail))
    exact Frame.refl ..
    exact hw0
  split
  split
  with_reducible refine Frame.out_next ?_
  exact hx1
  with_reducible refine Frame.out_next ?_
  with_reducible refine Frame.iteOf ?_ ?_
  with_reducible refine Frame.step ?_ (State.boxStep_frame _ _ _ ?_ ?_ ?_ ?_ ?_ ?_) (by decide)
  exact hx1
  exact hw1 _; exact hw2; exact hw3; exact hw4; exact hw5; exact hw6
  with_reducible refine Frame.step ?_ (State.boxCommitted_frame _ ?_) (by decide)
  with_reducible refine Frame.step ?_ (State.mediaError_frame _ _ _ ?_ ?_ ?_ ?_ ?_) (by decide)
  exact hx1
  exact hw0; exact hw7; exact hw8; exact hw4; exact hw5; exact hw6
  split
  with_reducible refine Frame.out_next ?_
  exact hx1
  split
  with_reducible refine Frame.out_next ?_
  exact hx1
  with_reducible refine Frame.out_next ?_
  with_reducible refine Frame.iteOf ?_ ?_
  with_reducible refine Frame.step ?_ (State.headStep_frame _ _ _ _ ?_ ?_ ?_ ?_ ?_ ?_ ?_ ?_ ?_ ?_ ?_ ?_ ?_ ?_ ?_) (by decide)
  exact hx1
  exact fun _ => hw9 _; exact hw10; exact hw6; exact hw2; exact hw11; exact hw12; exact hw13; exact hw4; exact hw5; exact hw0; exact hw14; exact hw7; exact hw8; exact fun _ => hw15 _; exact fun _ => hw1 _
  with_reducible refine Frame.step ?_ (State.headFail_frame _ _ _ ?_ ?_ ?_ ?_ ?_ ?_ ?_ ?_ ?_ ?_ ?_) (by decide)
  exact hx1
  exact fun _ => hw9 _; exact hw0; exact hw7; exact hw8; exact hw4; exact hw5; exact hw6; exact fun _ => hw16 _; exact fun _ => hw17 _; exact hw12; exact hw13

end Sys2Proof.Machine
end

