-- ==== Sys2Proof/Laws/FrameRing.lean ====
section
/-! SUPPORT. The frame of each operation and of each command of the ring, the trunk, Keystone and the steppers: the parts and the registers it may change.
Each hypothesis says that the frame's set of registers holds one register that the operation writes. -/

set_option linter.all false
set_option maxRecDepth 4000

namespace Sys2Proof.Machine

theorem State.putStp_frame {W : Nat → Prop} (s : State) (c : ℕ) (x : StepChan) : Frame [.pwr] W s (State.putStp s c x) := by
  unfold State.putStp
  ((with_reducible refine Frame.upd ?_ ?_); on_goal 2 => (intro p hp; cases p <;> first | exact (hp (by decide)).elim | (dsimp only [Part.same] <;> fail)))
  exact Frame.refl ..

theorem State.stpCfgWrite_frame {W : Nat → Prop} (s : State) (c : ℕ) (v : Word) (hw0 : W (R.STP_CFG c)) (hw1 : W (R.STP_POS c)) (hw2 : W (R.STP_STAT c)) : Frame [.pwr] W s (State.stpCfgWrite s c v) := by
  unfold State.stpCfgWrite
  extract_lets x0 x1 x2 x3
  have hx1 : Frame [.pwr] W s x1 := by
    (with_reducible conv => arg 4; whnf)
    with_reducible refine Frame.step ?_ (State.plainWrite_frame _ _ _ ?_) (by decide)
    exact Frame.refl ..
    exact hw0
  have hx3 : Frame [.pwr] W s x3 := by
    (with_reducible conv => arg 4; whnf)
    with_reducible refine Frame.step ?_ (State.putStp_frame _ _ _) (by decide)
    exact hx1
  with_reducible refine Frame.iteOf ?_ ?_
  with_reducible refine Frame.iteOf ?_ ?_
  exact hx1
  with_reducible refine Frame.set1 ?_ ?_
  with_reducible refine Frame.putReg ?_ ?_
  exact hx3
  exact hw1; exact hw2
  with_reducible refine Frame.clr ?_ ?_
  with_reducible refine Frame.step ?_ (State.putStp_frame _ _ _) (by decide)
  exact hx1
  exact hw2

theorem stpRegWrite_frame {W : Nat → Prop} (s : State) (a : ℕ) (v : Word) (hw0 : W (a)) (hw1 : W (R.STP_TIM ((a - 1179648) / 64))) (hw2 : W (R.STP_CFG ((a - 1179648) / 64))) (hw3 : W (R.STP_POS ((a - 1179648) / 64))) (hw4 : W (R.STP_STAT ((a - 1179648) / 64))) : Frame.opt [.pwr] W s (stpRegWrite s a v) := by
  unfold stpRegWrite
  split
  extract_lets x0 x1 x2
  have hx1 : Frame [.pwr] W s x1 := by
    (with_reducible conv => arg 4; whnf)
    with_reducible refine Frame.step ?_ (State.plainWrite_frame _ _ _ ?_) (by decide)
    exact Frame.refl ..
    exact hw0
  have hx2 : Frame [.pwr] W s x2 := by
    (with_reducible conv => arg 4; whnf)
    with_reducible refine Frame.setF ?_ ?_
    exact hx1
    exact hw1
  split
  with_reducible refine Frame.opt_some ?_
  with_reducible refine Frame.step ?_ (State.stpCfgWrite_frame _ _ _ ?_ ?_ ?_) (by decide)
  exact Frame.refl ..
  exact hw2; exact hw3; exact hw4
  split
  with_reducible refine Frame.opt_some ?_
  with_reducible refine Frame.iteOf ?_ ?_
  exact Frame.refl ..
  with_reducible refine Frame.step ?_ (State.plainWrite_frame _ _ _ ?_) (by decide)
  exact Frame.refl ..
  exact hw0
  split
  with_reducible refine Frame.opt_some ?_
  with_reducible refine Frame.setF ?_ ?_
  exact hx2
  exact hw1
  with_reducible exact Frame.opt_none
  with_reducible exact Frame.opt_none

theorem State.takeRate_frame {W : Nat → Prop} (s : State) : Frame [.cyc] W s (State.takeRate s) := by
  unfold State.takeRate
  extract_lets x0 x1 x2
  ((with_reducible refine Frame.upd ?_ ?_); on_goal 2 => (intro p hp; cases p <;> first | exact (hp (by decide)).elim | (dsimp only [Part.same] <;> fail)))
  exact Frame.refl ..

theorem State.idleRate_frame {W : Nat → Prop} (s : State) : Frame [.cyc] W s (State.idleRate s) := by
  unfold State.idleRate
  with_reducible refine Frame.whenDo ?_ ?_
  exact Frame.refl ..
  intro u0 hu1
  with_reducible refine Frame.step ?_ (State.takeRate_frame _) (by decide)
  assumption

theorem State.ringBreak_frame {W : Nat → Prop} (s : State) (r : ℕ) (x0 : ℕ) (x1 : ℕ) (hw0 : W (R.ZLP_RSTAT)) (hw1 : W (R.ZLP_BRK)) (hw2 : W (R.ZLP_BRK_CNT)) (hw3 : W (R.EVT_PEND (70 / 32))) (hw4 : W (R.EVT_LOST_CNT)) (hw5 : W (R.EVT_STAT)) : Frame [.evt] W s (State.ringBreak s r x0 x1) := by
  unfold State.ringBreak
  extract_lets x0 x1
  have hx0 : Frame [.evt] W s x0 := by
    (with_reducible conv => arg 4; whnf)
    with_reducible refine Frame.setF ?_ ?_
    exact Frame.refl ..
    unfold ringFld
    split
    exact hw0; exact hw0
  have hx1 : Frame [.evt] W s x1 := by
    (with_reducible conv => arg 4; whnf)
    with_reducible refine Frame.setF ?_ ?_
    with_reducible refine Frame.setF ?_ ?_
    exact hx0
    split
    exact hw1; exact hw1
    split
    exact hw1; exact hw1
  with_reducible refine Frame.step ?_ (State.raise_frame _ _ _ _ ?_ ?_ ?_) (by decide)
  with_reducible refine Frame.incSat ?_ ?_
  exact hx1
  exact hw2; exact hw3; exact hw4; exact hw5

theorem State.linkSet_frame {W : Nat → Prop} (s : State) (p : ℕ) (sync : Bool) (hw0 : W (R.ZLP_P_STAT p)) (hw1 : W (R.ZLP_RSTAT)) (hw2 : W (R.ZLP_BRK)) (hw3 : W (R.ZLP_BRK_CNT)) (hw4 : W (R.EVT_PEND (70 / 32))) (hw5 : W (R.EVT_LOST_CNT)) (hw6 : W (R.EVT_STAT)) : Frame [.evt] W s (State.linkSet s p sync) := by
  unfold State.linkSet
  extract_lets x0 x1 x2 x3 x4 x5
  have hx2 : Frame [.evt] W s x2 := by
    (with_reducible conv => arg 4; whnf)
    with_reducible refine Frame.setB ?_ ?_
    exact Frame.refl ..
    exact hw0
  with_reducible refine Frame.iteOf ?_ ?_
  with_reducible refine Frame.iteOf ?_ ?_
  with_reducible refine Frame.step ?_ (State.ringBreak_frame _ _ _ _ ?_ ?_ ?_ ?_ ?_ ?_) (by decide)
  exact hx2
  exact hw1; exact hw2; exact hw3; exact hw4; exact hw5; exact hw6
  with_reducible refine Frame.step ?_ (State.ringBreak_frame _ _ _ _ ?_ ?_ ?_ ?_ ?_ ?_) (by decide)
  exact hx2
  exact hw1; exact hw2; exact hw3; exact hw4; exact hw5; exact hw6
  exact hx2

theorem zlpRegWrite_frame {W : Nat → Prop} (s : State) (a : ℕ) (v : Word) (hw0 : W (a)) (hw1 : W (R.ZLP_GUARD)) (hw2 : W (R.CYM_STAT)) (hw3 : ∀ i0, W (R.ZLP_P_STAT i0)) (hw4 : W (R.ZLP_RSTAT)) (hw5 : W (R.ZLP_BRK)) (hw6 : W (R.ZLP_BRK_CNT)) (hw7 : W (R.EVT_PEND (70 / 32))) (hw8 : W (R.EVT_LOST_CNT)) (hw9 : W (R.EVT_STAT)) : Frame.opt [.evt, .cyc] W s (zlpRegWrite s a v) := by
  unfold zlpRegWrite
  split
  with_reducible refine Frame.opt_some ?_
  with_reducible refine Frame.step ?_ (State.idleRate_frame _) (by decide)
  with_reducible refine Frame.step ?_ (State.plainWrite_frame _ _ _ ?_) (by decide)
  exact Frame.refl ..
  exact hw0
  split
  with_reducible refine Frame.opt_some ?_
  with_reducible refine Frame.setF ?_ ?_
  exact Frame.refl ..
  exact hw1
  split
  with_reducible refine Frame.opt_some ?_
  with_reducible refine Frame.iteOf ?_ ?_
  with_reducible refine Frame.step ?_ (State.plainWrite_frame _ _ _ ?_) (by decide)
  exact Frame.refl ..
  exact hw0
  with_reducible refine Frame.set1 ?_ ?_
  exact Frame.refl ..
  exact hw2
  split
  with_reducible refine Frame.opt_some ?_
  with_reducible refine Frame.step ?_ (State.linkSet_frame _ _ _ ?_ ?_ ?_ ?_ ?_ ?_ ?_) (by decide)
  with_reducible refine Frame.step ?_ (State.plainWrite_frame _ _ _ ?_) (by decide)
  exact Frame.refl ..
  exact hw0; exact hw3 _; exact hw4; exact hw5; exact hw6; exact hw7; exact hw8; exact hw9
  with_reducible exact Frame.opt_none

theorem State.putTrunk_frame {W : Nat → Prop} (s : State) (t : Trunk) : Frame [.ring] W s (State.putTrunk s t) := by
  unfold State.putTrunk
  ((with_reducible refine Frame.upd ?_ ?_); on_goal 2 => (intro p hp; cases p <;> first | exact (hp (by decide)).elim | (dsimp only [Part.same] <;> fail)))
  exact Frame.refl ..

theorem State.trunkWrite_frame {W : Nat → Prop} (s : State) (v : Word) (hw0 : W (R.ZLP_TCFG)) (hw1 : W (R.ZLP_TSTAT)) : Frame [.ring] W s (State.trunkWrite s v) := by
  unfold State.trunkWrite
  extract_lets x0 x1
  have hx1 : Frame [.ring] W s x1 := by
    (with_reducible conv => arg 4; whnf)
    with_reducible refine Frame.step ?_ (State.plainWrite_frame _ _ _ ?_) (by decide)
    exact Frame.refl ..
    exact hw0
  with_reducible refine Frame.iteOf ?_ ?_
  exact hx1
  with_reducible refine Frame.clr ?_ ?_
  with_reducible refine Frame.clr ?_ ?_
  with_reducible refine Frame.step ?_ (State.putTrunk_frame _ _) (by decide)
  exact hx1
  exact hw1; exact hw1

theorem trunkRegWrite_frame {W : Nat → Prop} (s : State) (a : ℕ) (v : Word) (hw0 : W (R.ZLP_TCFG)) (hw1 : W (R.ZLP_TSTAT)) : Frame.opt [.ring] W s (trunkRegWrite s a v) := by
  unfold trunkRegWrite
  split
  with_reducible refine Frame.opt_some ?_
  with_reducible refine Frame.step ?_ (State.trunkWrite_frame _ _ ?_ ?_) (by decide)
  exact Frame.refl ..
  exact hw0; exact hw1
  with_reducible exact Frame.opt_none

theorem State.putKst_frame {W : Nat → Prop} (s : State) (k : Keystone) : Frame [.kst, .kstImg, .kstConf] W s (State.putKst s k) := by
  unfold State.putKst
  ((with_reducible refine Frame.upd ?_ ?_); on_goal 2 => (intro p hp; cases p <;> first | exact (hp (by decide)).elim | (dsimp only [Part.same] <;> fail)))
  exact Frame.refl ..

theorem State.pwinWrite_frame {W : Nat → Prop} (s : State) (off : ℕ) (v : Word) (hw0 : W (R.KST_PWIN (off / 4))) (hw1 : W (R.KST_WIGN_CNT)) : Frame [.kst] W s (State.pwinWrite s off v) := by
  unfold State.pwinWrite
  with_reducible refine Frame.iteOf ?_ ?_
  ((with_reducible refine Frame.step ?_ (State.putKst_keep _ _ ?_) (by decide)); on_goal 2 => first | with_reducible rfl | with_reducible exact ⟨rfl, rfl⟩ | (simp +zetaDelta <;> fail))
  with_reducible refine Frame.putReg ?_ ?_
  exact Frame.refl ..
  exact hw0
  with_reducible refine Frame.incSat ?_ ?_
  exact Frame.refl ..
  exact hw1

theorem kstRegWrite_frame {W : Nat → Prop} (s : State) (a : ℕ) (v : Word) (hw0 : W (R.KST_PWIN ((a - 2101248) / 4))) (hw1 : W (R.KST_WIGN_CNT)) : Frame.opt [.kst] W s (kstRegWrite s a v) := by
  unfold kstRegWrite
  split
  with_reducible refine Frame.opt_some ?_
  with_reducible refine Frame.step ?_ (State.pwinWrite_frame _ _ _ ?_ ?_) (by decide)
  exact Frame.refl ..
  exact hw0; exact hw1
  with_reducible exact Frame.opt_none

theorem State.trunkTx_frame {W : Nat → Prop} (s : State) (l : List (ℕ × List Byte)) : Frame [.ring] W s (State.trunkTx s l) := by
  unfold State.trunkTx
  ((with_reducible refine Frame.upd ?_ ?_); on_goal 2 => (intro p hp; cases p <;> first | exact (hp (by decide)).elim | (dsimp only [Part.same] <;> fail)))
  exact Frame.refl ..

theorem State.trunkSend_frame {W : Nat → Prop} (s : State) (payload : List Byte) : Frame [.ring] W s (State.trunkSend s payload) := by
  unfold State.trunkSend
  extract_lets x0
  with_reducible refine Frame.step ?_ (State.trunkTx_frame _ _) (by decide)
  exact Frame.refl ..

theorem State.trunkTime_frame {W : Nat → Prop} (s : State) : Frame [.ring] W s (State.trunkTime s) := by
  unfold State.trunkTime
  with_reducible refine Frame.whenDo ?_ ?_
  exact Frame.refl ..
  intro u0 hu1
  with_reducible refine Frame.step ?_ (State.trunkSend_frame _ _) (by decide)
  assumption

theorem State.spanStop_frame {W : Nat → Prop} (s : State) (hw0 : W (R.ZLP_SSTAT)) (hw1 : W (R.ZLP_BUDGET)) : Frame [.ring] W s (State.spanStop s) := by
  unfold State.spanStop
  extract_lets x0 x1
  have hx0 : Frame [.ring] W s x0 := by
    (with_reducible conv => arg 4; whnf)
    with_reducible refine Frame.setF ?_ ?_
    with_reducible refine Frame.setF ?_ ?_
    with_reducible refine Frame.setF ?_ ?_
    exact Frame.refl ..
    exact hw0; exact hw1; exact hw0
  ((with_reducible refine Frame.upd ?_ ?_); on_goal 2 => (intro p hp; cases p <;> first | exact (hp (by decide)).elim | (dsimp only [Part.same] <;> fail)))
  exact hx0

theorem State.kstShow_frame {W : Nat → Prop} (s : State) (force : Bool) (cmd : ℕ) (hw0 : W (R.KST_ZONE)) (hw1 : W (R.EVT_PEND (96 / 32))) (hw2 : W (R.EVT_LOST_CNT)) (hw3 : W (R.EVT_STAT)) (hw4 : W (R.KST_STAT)) (hw5 : W (R.PWM_FLT_STAT)) (hw6 : W (R.EVT_PEND (56 / 32))) (hw7 : W (R.KST_OUT)) : Frame [.free, .evt, .pwr, .kst] W s (State.kstShow s force cmd) := by
  unfold State.kstShow
  extract_lets x0 x1 x2 x3 x4 x5 x6
  have hx3 : Frame [.free, .evt, .pwr, .kst] W s x3 := by
    (with_reducible conv => arg 4; whnf)
    with_reducible refine Frame.setF ?_ ?_
    with_reducible refine Frame.setF ?_ ?_
    exact Frame.refl ..
    exact hw0; exact hw0
  have hx4 : Frame [.free, .evt, .pwr, .kst] W s x4 := by
    (with_reducible conv => arg 4; whnf)
    with_reducible refine Frame.whenDo ?_ ?_
    exact hx3
    intro u7 hu8
    with_reducible refine Frame.step ?_ (State.raise_frame _ _ _ _ ?_ ?_ ?_) (by decide)
    assumption
    exact hw1; exact hw2; exact hw3
  have hx5 : Frame [.free, .evt, .pwr, .kst] W s x5 := by
    (with_reducible conv => arg 4; whnf)
    with_reducible refine Frame.step ?_ (State.kstForce_frame _ _ ?_ ?_ ?_ ?_) (by decide)
    with_reducible refine Frame.setB ?_ ?_
    exact hx4
    exact hw4; exact hw5; exact hw6; exact hw2; exact hw3
  ((with_reducible refine Frame.step ?_ (State.putKst_keep _ _ ?_) (by decide)); on_goal 2 => first | with_reducible rfl | with_reducible exact ⟨rfl, rfl⟩ | (simp +zetaDelta <;> fail))
  with_reducible refine Frame.setF ?_ ?_
  exact hx5
  exact hw7

theorem State.bothCores_frame {W : Nat → Prop} (s : State) (g : KCore → KCore) : Frame [.kst] W s (State.bothCores s g) := by
  unfold State.bothCores
  ((with_reducible refine Frame.step ?_ (State.putKst_keep _ _ ?_) (by decide)); on_goal 2 => first | with_reducible rfl | with_reducible exact ⟨rfl, rfl⟩ | (simp +zetaDelta <;> fail))
  exact Frame.refl ..

theorem State.kstAllOff_frame {W : Nat → Prop} (s : State) (hw0 : W (R.KST_ZONE)) (hw1 : W (R.EVT_PEND (96 / 32))) (hw2 : W (R.EVT_LOST_CNT)) (hw3 : W (R.EVT_STAT)) (hw4 : W (R.KST_STAT)) (hw5 : W (R.PWM_FLT_STAT)) (hw6 : W (R.EVT_PEND (56 / 32))) (hw7 : W (R.KST_OUT)) : Frame [.free, .evt, .pwr, .kst] W s (State.kstAllOff s) := by
  unfold State.kstAllOff
  with_reducible refine Frame.step ?_ (State.kstShow_frame _ _ _ ?_ ?_ ?_ ?_ ?_ ?_ ?_ ?_) (by decide)
  with_reducible refine Frame.step ?_ (State.bothCores_frame _ _) (by decide)
  exact Frame.refl ..
  exact hw0; exact hw1; exact hw2; exact hw3; exact hw4; exact hw5; exact hw6; exact hw7

theorem State.kstFault_frame {W : Nat → Prop} (s : State) (cause : ℕ) (hw0 : W (R.KST_STAT)) (hw1 : W (R.KST_ZONE)) (hw2 : W (R.EVT_PEND (96 / 32))) (hw3 : W (R.EVT_LOST_CNT)) (hw4 : W (R.EVT_STAT)) (hw5 : W (R.PWM_FLT_STAT)) (hw6 : W (R.EVT_PEND (56 / 32))) (hw7 : W (R.KST_OUT)) (hw8 : W (R.EVT_PEND (98 / 32))) : Frame [.free, .evt, .pwr, .ring, .kst] W s (State.kstFault s cause) := by
  unfold State.kstFault
  with_reducible refine Frame.iteOf ?_ ?_
  exact Frame.refl ..
  extract_lets x0 x1 x2
  have hx0 : Frame [.free, .evt, .pwr, .ring, .kst] W s x0 := by
    (with_reducible conv => arg 4; whnf)
    with_reducible refine Frame.step ?_ (State.kstAllOff_frame _ ?_ ?_ ?_ ?_ ?_ ?_ ?_ ?_) (by decide)
    with_reducible refine Frame.setF ?_ ?_
    with_reducible refine Frame.setF ?_ ?_
    exact Frame.refl ..
    exact hw0; exact hw0; exact hw1; exact hw2; exact hw3; exact hw4; exact hw0; exact hw5; exact hw6; exact hw7
  have hx2 : Frame [.free, .evt, .pwr, .ring, .kst] W s x2 := by
    (with_reducible conv => arg 4; whnf)
    ((with_reducible refine Frame.upd ?_ ?_); on_goal 2 => (intro p hp; cases p <;> first | exact (hp (by decide)).elim | (dsimp only [Part.same] <;> fail)))
    exact hx0
  with_reducible refine Frame.step ?_ (State.raise_frame _ _ _ _ ?_ ?_ ?_) (by decide)
  exact hx2
  exact hw8; exact hw3; exact hw4

theorem State.sysclkLose_frame {W : Nat → Prop} (s : State) (hw0 : W (R.KST_STAT)) (hw1 : W (R.KST_ZONE)) (hw2 : W (R.EVT_PEND (96 / 32))) (hw3 : W (R.EVT_LOST_CNT)) (hw4 : W (R.EVT_STAT)) (hw5 : W (R.PWM_FLT_STAT)) (hw6 : W (R.EVT_PEND (56 / 32))) (hw7 : W (R.KST_OUT)) (hw8 : W (R.EVT_PEND (98 / 32))) : Frame [.free, .evt, .pwr, .ring, .kst, .sysLost] W s (State.sysclkLose s) := by
  unfold State.sysclkLose
  extract_lets x0
  have hx0 : Frame [.free, .evt, .pwr, .ring, .kst, .sysLost] W s x0 := by
    (with_reducible conv => arg 4; whnf)
    with_reducible refine Frame.step ?_ (State.kstFault_frame _ _ ?_ ?_ ?_ ?_ ?_ ?_ ?_ ?_ ?_) (by decide)
    exact Frame.refl ..
    exact hw0; exact hw1; exact hw2; exact hw3; exact hw4; exact hw5; exact hw6; exact hw7; exact hw8
  ((with_reducible refine Frame.upd ?_ ?_); on_goal 2 => (intro p hp; cases p <;> first | exact (hp (by decide)).elim | (dsimp only [Part.same] <;> fail)))
  exact hx0

theorem execSysclkLoss_frame {W : Nat → Prop} (s : State) (hw0 : W (R.KST_STAT)) (hw1 : W (R.KST_ZONE)) (hw2 : W (R.EVT_PEND (96 / 32))) (hw3 : W (R.EVT_LOST_CNT)) (hw4 : W (R.EVT_STAT)) (hw5 : W (R.PWM_FLT_STAT)) (hw6 : W (R.EVT_PEND (56 / 32))) (hw7 : W (R.KST_OUT)) (hw8 : W (R.EVT_PEND (98 / 32))) : Frame.out [.free, .evt, .pwr, .ring, .kst, .sysLost] W s (execSysclkLoss s) := by
  unfold execSysclkLoss
  with_reducible refine Frame.out_next ?_
  with_reducible refine Frame.step ?_ (State.sysclkLose_frame _ ?_ ?_ ?_ ?_ ?_ ?_ ?_ ?_ ?_) (by decide)
  exact Frame.refl ..
  exact hw0; exact hw1; exact hw2; exact hw3; exact hw4; exact hw5; exact hw6; exact hw7; exact hw8

theorem State.krefLose_frame {W : Nat → Prop} (s : State) (hw0 : W (R.KST_OUT)) (hw1 : W (R.EVT_PEND (101 / 32))) (hw2 : W (R.EVT_LOST_CNT)) (hw3 : W (R.EVT_STAT)) : Frame [.evt, .ring, .kst, .krefLost] W s (State.krefLose s) := by
  unfold State.krefLose
  with_reducible refine Frame.iteOf ?_ ?_
  exact Frame.refl ..
  extract_lets x0 x1 x2 x3
  have hx1 : Frame [.evt, .ring, .kst, .krefLost] W s x1 := by
    (with_reducible conv => arg 4; whnf)
    ((with_reducible refine Frame.step ?_ (State.putKst_keep _ _ ?_) (by decide)); on_goal 2 => first | with_reducible rfl | with_reducible exact ⟨rfl, rfl⟩ | (simp +zetaDelta <;> fail))
    with_reducible refine Frame.setF ?_ ?_
    exact Frame.refl ..
    exact hw0
  have hx3 : Frame [.evt, .ring, .kst, .krefLost] W s x3 := by
    (with_reducible conv => arg 4; whnf)
    ((with_reducible refine Frame.upd ?_ ?_); on_goal 2 => (intro p hp; cases p <;> first | exact (hp (by decide)).elim | (dsimp only [Part.same] <;> fail)))
    exact hx1
  with_reducible refine Frame.step ?_ (State.raise_frame _ _ _ _ ?_ ?_ ?_) (by decide)
  exact hx3
  exact hw1; exact hw2; exact hw3

theorem execKrefLoss_frame {W : Nat → Prop} (s : State) (hw0 : W (R.KST_OUT)) (hw1 : W (R.EVT_PEND (101 / 32))) (hw2 : W (R.EVT_LOST_CNT)) (hw3 : W (R.EVT_STAT)) : Frame.out [.evt, .ring, .kst, .krefLost] W s (execKrefLoss s) := by
  unfold execKrefLoss
  with_reducible refine Frame.out_next ?_
  with_reducible refine Frame.step ?_ (State.krefLose_frame _ ?_ ?_ ?_ ?_) (by decide)
  exact Frame.refl ..
  exact hw0; exact hw1; exact hw2; exact hw3

theorem State.trunkSegment_frame {W : Nat → Prop} (s : State) (g : Segment) : Frame [.ring] W s (State.trunkSegment s g) := by
  unfold State.trunkSegment
  with_reducible refine Frame.whenDo ?_ ?_
  exact Frame.refl ..
  intro u0 hu1
  extract_lets x2
  with_reducible refine Frame.step ?_ (State.trunkSend_frame _ _) (by decide)
  assumption

theorem State.portError_frame {W : Nat → Prop} (s : State) (p : ℕ) (hw0 : W (R.EVT_PEND (76 / 32))) (hw1 : W (R.EVT_LOST_CNT)) (hw2 : W (R.EVT_STAT)) : Frame [.evt] W s (State.portError s p) := by
  unfold State.portError
  with_reducible refine Frame.step ?_ (State.raise_frame _ _ _ _ ?_ ?_ ?_) (by decide)
  exact Frame.refl ..
  exact hw0; exact hw1; exact hw2

theorem State.rxCount_frame {W : Nat → Prop} (s : State) (p : ℕ) (fr : RxFrame) (hw0 : W (R.ZLP_P_RXCNT p)) (hw1 : W (R.ZLP_P_STAT p)) (hw2 : W (R.EVT_PEND (76 / 32))) (hw3 : W (R.EVT_LOST_CNT)) (hw4 : W (R.EVT_STAT)) (hw5 : W (R.ZLP_P_HCRCCNT p)) (hw6 : W (R.ZLP_P_FCSCNT p)) : Frame [.evt] W s (State.rxCount s p fr) := by
  unfold State.rxCount
  extract_lets x0
  have hx0 : Frame [.evt] W s x0 := by
    (with_reducible conv => arg 4; whnf)
    with_reducible refine Frame.incWrap ?_ ?_
    exact Frame.refl ..
    exact hw0
  split
  with_reducible refine Frame.step ?_ (State.portError_frame _ _ ?_ ?_ ?_) (by decide)
  with_reducible refine Frame.set1 ?_ ?_
  exact hx0
  exact hw1; exact hw2; exact hw3; exact hw4
  with_reducible refine Frame.step ?_ (State.portError_frame _ _ ?_ ?_ ?_) (by decide)
  with_reducible refine Frame.incSat ?_ ?_
  with_reducible refine Frame.set1 ?_ ?_
  exact hx0
  exact hw1; exact hw5; exact hw2; exact hw3; exact hw4
  with_reducible refine Frame.step ?_ (State.portError_frame _ _ ?_ ?_ ?_) (by decide)
  with_reducible refine Frame.set1 ?_ ?_
  exact hx0
  exact hw1; exact hw2; exact hw3; exact hw4
  with_reducible refine Frame.step ?_ (State.portError_frame _ _ ?_ ?_ ?_) (by decide)
  with_reducible refine Frame.incSat ?_ ?_
  with_reducible refine Frame.set1 ?_ ?_
  exact hx0
  exact hw1; exact hw6; exact hw2; exact hw3; exact hw4
  exact hx0

theorem State.noteRet1_frame {W : Nat → Prop} (s : State) (port : ℕ) (h : ZlHeader) (fr : RxFrame) : Frame [.ring] W s (State.noteRet1 s port h fr) := by
  unfold State.noteRet1
  with_reducible refine Frame.iteOf ?_ ?_
  split
  exact Frame.refl ..
  extract_lets x0 x1
  ((with_reducible refine Frame.upd ?_ ?_); on_goal 2 => (intro p hp; cases p <;> first | exact (hp (by decide)).elim | (dsimp only [Part.same] <;> fail)))
  exact Frame.refl ..
  exact Frame.refl ..

theorem State.epochSeen_frame {W : Nat → Prop} (s : State) (h : ZlHeader) : Frame [.twn] W s (State.epochSeen s h) := by
  unfold State.epochSeen
  with_reducible refine Frame.iteOf ?_ ?_
  ((with_reducible refine Frame.upd ?_ ?_); on_goal 2 => (intro p hp; cases p <;> first | exact (hp (by decide)).elim | (dsimp only [Part.same] <;> fail)))
  exact Frame.refl ..
  exact Frame.refl ..

theorem State.rxFrame_frame {W : Nat → Prop} (s : State) (port : ℕ) (fr : RxFrame) (type : ℕ) (hw0 : W (R.ZLP_P_RXCNT port)) (hw1 : W (R.ZLP_P_STAT port)) (hw2 : W (R.EVT_PEND (76 / 32))) (hw3 : W (R.EVT_LOST_CNT)) (hw4 : W (R.EVT_STAT)) (hw5 : W (R.ZLP_P_HCRCCNT port)) (hw6 : W (R.ZLP_P_FCSCNT port)) : Frame [.evt, .ring, .twn] W s (State.rxFrame s port fr type).1 := by
  unfold State.rxFrame
  extract_lets x0 x1 x2
  have hx0 : Frame [.evt, .ring, .twn] W s x0 := by
    (with_reducible conv => arg 4; whnf)
    with_reducible refine Frame.step ?_ (State.rxCount_frame _ _ _ ?_ ?_ ?_ ?_ ?_ ?_ ?_) (by decide)
    exact Frame.refl ..
    exact hw0; exact hw1; exact hw2; exact hw3; exact hw4; exact hw5; exact hw6
  split
  with_reducible refine Frame.iteFst ?_ ?_
  (with_reducible conv => arg 4; whnf)
  with_reducible refine Frame.step ?_ (State.noteRet1_frame _ _ _ _) (by decide)
  with_reducible refine Frame.step ?_ (State.epochSeen_frame _ _) (by decide)
  exact hx0
  (with_reducible conv => arg 4; whnf)
  with_reducible refine Frame.step ?_ (State.noteRet1_frame _ _ _ _) (by decide)
  with_reducible refine Frame.step ?_ (State.epochSeen_frame _ _) (by decide)
  exact hx0
  (with_reducible conv => arg 4; whnf)
  with_reducible refine Frame.step ?_ (State.rxCount_frame _ _ _ ?_ ?_ ?_ ?_ ?_ ?_ ?_) (by decide)
  exact Frame.refl ..
  exact hw0; exact hw1; exact hw2; exact hw3; exact hw4; exact hw5; exact hw6

theorem State.windowViolation_frame {W : Nat → Prop} (s : State) (owner : Option ℕ) (hw0 : ∀ i0, W (R.ZLP_STN_CNT i0)) (hw1 : W (R.EVT_PEND (69 / 32))) (hw2 : W (R.EVT_LOST_CNT)) (hw3 : W (R.EVT_STAT)) (hw4 : W (R.ZLP_WV_CNT)) : Frame [.evt] W s (State.windowViolation s owner) := by
  unfold State.windowViolation
  split
  with_reducible refine Frame.step ?_ (State.raise_frame _ _ _ _ ?_ ?_ ?_) (by decide)
  with_reducible refine Frame.whenDo ?_ ?_
  exact Frame.refl ..
  intro u0 hu1
  with_reducible refine Frame.incSat ?_ ?_
  assumption
  exact hw0 _; exact hw1; exact hw2; exact hw3
  with_reducible refine Frame.step ?_ (State.raise_frame _ _ _ _ ?_ ?_ ?_) (by decide)
  with_reducible refine Frame.incSat ?_ ?_
  exact Frame.refl ..
  exact hw4; exact hw1; exact hw2; exact hw3

theorem State.xsampLate_frame {W : Nat → Prop} (s : State) (a : ℕ) (half : ℕ) (hw0 : W (R.DSP_STAT)) (hw1 : W (R.EVT_PEND (25 / 32))) (hw2 : W (R.EVT_LOST_CNT)) (hw3 : W (R.EVT_STAT)) : Frame [.evt] W s (State.xsampLate s a half) := by
  unfold State.xsampLate
  with_reducible refine Frame.iteOf ?_ ?_
  with_reducible refine Frame.step ?_ (State.raise_frame _ _ _ _ ?_ ?_ ?_) (by decide)
  with_reducible refine Frame.set1 ?_ ?_
  exact Frame.refl ..
  exact hw0; exact hw1; exact hw2; exact hw3
  exact Frame.refl ..

theorem State.feedbackIn_frame {W : Nat → Prop} (s : State) (slot : ℕ) (per : ℕ) (bs : List Byte) (hw0 : W (R.DSP_STAT)) (hw1 : W (R.EVT_PEND (25 / 32))) (hw2 : W (R.EVT_LOST_CNT)) (hw3 : W (R.EVT_STAT)) : Frame [.free, .evt, .chn, .dsp, .piers, .axes, .deck, .deckMem] W s (State.feedbackIn s slot per bs) := by
  unfold State.feedbackIn
  extract_lets x0 x1 x2 x3
  have hx2 : Frame [.free, .evt, .chn, .dsp, .piers, .axes, .deck, .deckMem] W s x2 := by
    (with_reducible conv => arg 4; whnf)
    with_reducible refine Frame.whenDo ?_ ?_
    exact Frame.refl ..
    intro u4 hu5
    with_reducible refine Frame.step ?_ (State.drewFree_frame _) (by decide)
    assumption
  have hx3 : Frame [.free, .evt, .chn, .dsp, .piers, .axes, .deck, .deckMem] W s x3 := by
    (with_reducible conv => arg 4; whnf)
    with_reducible refine Frame.step ?_ (State.fbWrite_frame _ _ _ _) (by decide)
    exact hx2
  with_reducible refine Frame.iteOf ?_ ?_
  exact hx2
  split
  exact hx3
  with_reducible refine Frame.step ?_ (State.postAxis_frame _ _) (by decide)
  with_reducible refine Frame.step ?_ (State.xsampLate_frame _ _ _ ?_ ?_ ?_ ?_) (by decide)
  with_reducible refine Frame.iteOf ?_ ?_
  with_reducible refine Frame.step ?_ (State.chnFeed_frame _ _ _) (by decide)
  exact hx3
  exact hx3
  exact hw0; exact hw1; exact hw2; exact hw3

theorem State.bufferIn_frame {W : Nat → Prop} (s : State) (slot : ℕ) (bs : List Byte) : Frame [.deck, .deckMem] W s (State.bufferIn s slot bs) := by
  unfold State.bufferIn
  with_reducible refine Frame.step ?_ (State.deckPutAll_frame _ _ _) (by decide)
  exact Frame.refl ..

theorem State.recordsIn_frame {W : Nat → Prop} (s : State) (e : CymEntry) (h : ZlHeader) (p : List Byte) (hw0 : W (R.DSP_STAT)) (hw1 : W (R.EVT_PEND (25 / 32))) (hw2 : W (R.EVT_LOST_CNT)) (hw3 : W (R.EVT_STAT)) : Frame [.free, .evt, .chn, .dsp, .piers, .axes, .deck, .deckMem] W s (State.recordsIn s e h p) := by
  unfold State.recordsIn
  extract_lets x0
  with_reducible refine Frame.eachDo ?_ ?_
  exact Frame.refl ..
  intro u1 x2 hu3
  extract_lets x4 x5
  with_reducible refine Frame.iteOf ?_ ?_
  with_reducible refine Frame.step ?_ (State.feedbackIn_frame _ _ _ _ ?_ ?_ ?_ ?_) (by decide)
  assumption
  exact hw0; exact hw1; exact hw2; exact hw3
  with_reducible refine Frame.iteOf ?_ ?_
  with_reducible refine Frame.step ?_ (State.bufferIn_frame _ _ _) (by decide)
  assumption
  assumption

theorem execCollectReceive_frame {W : Nat → Prop} (port : Fin 6) (fr : RxFrame) (s : State) (hw0 : W (R.ZLP_P_RXCNT ↑port)) (hw1 : W (R.ZLP_P_STAT ↑port)) (hw2 : W (R.EVT_PEND (76 / 32))) (hw3 : W (R.EVT_LOST_CNT)) (hw4 : W (R.EVT_STAT)) (hw5 : W (R.ZLP_P_HCRCCNT ↑port)) (hw6 : W (R.ZLP_P_FCSCNT ↑port)) (hw7 : ∀ i0, W (R.ZLP_STN_CNT i0)) (hw8 : W (R.EVT_PEND (69 / 32))) (hw9 : W (R.ZLP_WV_CNT)) (hw10 : W (R.DSP_STAT)) (hw11 : W (R.EVT_PEND (25 / 32))) : Frame.out [.free, .evt, .chn, .dsp, .piers, .axes, .deck, .deckMem, .ring, .twn] W s (execCollectReceive port fr s) := by
  unfold execCollectReceive
  split
  with_reducible refine Frame.out_next ?_
  refine Frame.fst (by assumption) ?_
  with_reducible refine Frame.step ?_ (State.rxFrame_frame _ _ _ _ ?_ ?_ ?_ ?_ ?_ ?_ ?_) (by decide)
  exact Frame.refl ..
  exact hw0; exact hw1; exact hw2; exact hw3; exact hw4; exact hw5; exact hw6
  extract_lets x0
  split
  with_reducible refine Frame.out_next ?_
  refine Frame.fst (by assumption) ?_
  with_reducible refine Frame.step ?_ (State.rxFrame_frame _ _ _ _ ?_ ?_ ?_ ?_ ?_ ?_ ?_) (by decide)
  exact Frame.refl ..
  exact hw0; exact hw1; exact hw2; exact hw3; exact hw4; exact hw5; exact hw6
  split
  with_reducible refine Frame.out_next ?_
  with_reducible refine Frame.step ?_ (State.windowViolation_frame _ _ ?_ ?_ ?_ ?_ ?_) (by decide)
  refine Frame.fst (by assumption) ?_
  with_reducible refine Frame.step ?_ (State.rxFrame_frame _ _ _ _ ?_ ?_ ?_ ?_ ?_ ?_ ?_) (by decide)
  exact Frame.refl ..
  exact hw0; exact hw1; exact hw2; exact hw3; exact hw4; exact hw5; exact hw6; exact fun _ => hw7 _; exact hw8; exact hw3; exact hw4; exact hw9
  split
  with_reducible refine Frame.out_next ?_
  refine Frame.fst (by assumption) ?_
  with_reducible refine Frame.step ?_ (State.rxFrame_frame _ _ _ _ ?_ ?_ ?_ ?_ ?_ ?_ ?_) (by decide)
  exact Frame.refl ..
  exact hw0; exact hw1; exact hw2; exact hw3; exact hw4; exact hw5; exact hw6
  with_reducible refine Frame.out_next ?_
  with_reducible refine Frame.step ?_ (State.recordsIn_frame _ _ _ _ ?_ ?_ ?_ ?_) (by decide)
  refine Frame.fst (by assumption) ?_
  with_reducible refine Frame.step ?_ (State.rxFrame_frame _ _ _ _ ?_ ?_ ?_ ?_ ?_ ?_ ?_) (by decide)
  exact Frame.refl ..
  exact hw0; exact hw1; exact hw2; exact hw3; exact hw4; exact hw5; exact hw6; exact hw10; exact hw11; exact hw3; exact hw4

theorem execXsampReceive_frame {W : Nat → Prop} (port : Fin 6) (fr : RxFrame) (s : State) (hw0 : W (R.ZLP_P_RXCNT ↑port)) (hw1 : W (R.ZLP_P_STAT ↑port)) (hw2 : W (R.EVT_PEND (76 / 32))) (hw3 : W (R.EVT_LOST_CNT)) (hw4 : W (R.EVT_STAT)) (hw5 : W (R.ZLP_P_HCRCCNT ↑port)) (hw6 : W (R.ZLP_P_FCSCNT ↑port)) (hw7 : ∀ i0, W (R.ZLP_STN_CNT i0)) (hw8 : W (R.EVT_PEND (69 / 32))) (hw9 : W (R.ZLP_WV_CNT)) (hw10 : W (R.DSP_STAT)) (hw11 : W (R.EVT_PEND (25 / 32))) : Frame.out [.free, .evt, .chn, .dsp, .piers, .axes, .deck, .deckMem, .ring, .twn] W s (execXsampReceive port fr s) := by
  unfold execXsampReceive
  split
  with_reducible refine Frame.out_next ?_
  refine Frame.fst (by assumption) ?_
  with_reducible refine Frame.step ?_ (State.rxFrame_frame _ _ _ _ ?_ ?_ ?_ ?_ ?_ ?_ ?_) (by decide)
  exact Frame.refl ..
  exact hw0; exact hw1; exact hw2; exact hw3; exact hw4; exact hw5; exact hw6
  extract_lets x0
  split
  with_reducible refine Frame.out_next ?_
  refine Frame.fst (by assumption) ?_
  with_reducible refine Frame.step ?_ (State.rxFrame_frame _ _ _ _ ?_ ?_ ?_ ?_ ?_ ?_ ?_) (by decide)
  exact Frame.refl ..
  exact hw0; exact hw1; exact hw2; exact hw3; exact hw4; exact hw5; exact hw6
  split
  with_reducible refine Frame.out_next ?_
  with_reducible refine Frame.step ?_ (State.windowViolation_frame _ _ ?_ ?_ ?_ ?_ ?_) (by decide)
  refine Frame.fst (by assumption) ?_
  with_reducible refine Frame.step ?_ (State.rxFrame_frame _ _ _ _ ?_ ?_ ?_ ?_ ?_ ?_ ?_) (by decide)
  exact Frame.refl ..
  exact hw0; exact hw1; exact hw2; exact hw3; exact hw4; exact hw5; exact hw6; exact fun _ => hw7 _; exact hw8; exact hw3; exact hw4; exact hw9
  split
  with_reducible refine Frame.out_next ?_
  refine Frame.fst (by assumption) ?_
  with_reducible refine Frame.step ?_ (State.rxFrame_frame _ _ _ _ ?_ ?_ ?_ ?_ ?_ ?_ ?_) (by decide)
  exact Frame.refl ..
  exact hw0; exact hw1; exact hw2; exact hw3; exact hw4; exact hw5; exact hw6
  with_reducible refine Frame.out_next ?_
  with_reducible refine Frame.step ?_ (State.recordsIn_frame _ _ _ _ ?_ ?_ ?_ ?_) (by decide)
  refine Frame.fst (by assumption) ?_
  with_reducible refine Frame.step ?_ (State.rxFrame_frame _ _ _ _ ?_ ?_ ?_ ?_ ?_ ?_ ?_) (by decide)
  exact Frame.refl ..
  exact hw0; exact hw1; exact hw2; exact hw3; exact hw4; exact hw5; exact hw6; exact hw10; exact hw11; exact hw3; exact hw4

theorem State.stationBack_frame {W : Nat → Prop} (s : State) (n : ℕ) (hw0 : W (R.ZLP_STN_STAT n)) : Frame [.ring] W s (State.stationBack s n) := by
  unfold State.stationBack
  with_reducible refine Frame.iteOf ?_ ?_
  extract_lets x0 x1
  have hx1 : Frame [.ring] W s x1 := by
    (with_reducible conv => arg 4; whnf)
    ((with_reducible refine Frame.upd ?_ ?_); on_goal 2 => (intro p hp; cases p <;> first | exact (hp (by decide)).elim | (dsimp only [Part.same] <;> fail)))
    exact Frame.refl ..
  with_reducible refine Frame.whenDo ?_ ?_
  exact hx1
  intro u2 hu3
  with_reducible refine Frame.setF ?_ ?_
  assumption
  exact hw0
  exact Frame.refl ..

theorem State.stationAbsent_frame {W : Nat → Prop} (s : State) (n : ℕ) (hw0 : W (R.ZLP_STN_STAT n)) (hw1 : W (R.ZLP_STN_CNT n)) (hw2 : W (R.EVT_PEND (67 / 32))) (hw3 : W (R.EVT_LOST_CNT)) (hw4 : W (R.EVT_STAT)) : Frame [.evt, .ring] W s (State.stationAbsent s n) := by
  unfold State.stationAbsent
  extract_lets x0 x1
  have hx0 : Frame [.evt, .ring] W s x0 := by
    (with_reducible conv => arg 4; whnf)
    with_reducible refine Frame.step ?_ (State.raise_frame _ _ _ _ ?_ ?_ ?_) (by decide)
    with_reducible refine Frame.incSat ?_ ?_
    with_reducible refine Frame.setF ?_ ?_
    exact Frame.refl ..
    exact hw0; exact hw1; exact hw2; exact hw3; exact hw4
  ((with_reducible refine Frame.upd ?_ ?_); on_goal 2 => (intro p hp; cases p <;> first | exact (hp (by decide)).elim | (dsimp only [Part.same] <;> fail)))
  exact hx0

theorem State.presenceOf_frame {W : Nat → Prop} (s : State) (n : ℕ) (r : ℕ) (bc : Word) (empty : Bool) (hw0 : W (R.ZLP_STN_STAT n)) (hw1 : W (R.ZLP_STN_CNT n)) (hw2 : W (R.EVT_PEND (67 / 32))) (hw3 : W (R.EVT_LOST_CNT)) (hw4 : W (R.EVT_STAT)) : Frame [.evt, .ring] W s (State.presenceOf s n r bc empty) := by
  unfold State.presenceOf
  with_reducible refine Frame.iteOf ?_ ?_
  exact Frame.refl ..
  extract_lets x0 x1 x2 x3 x4 x5 x6 x7 x8
  have hx0 : Frame [.evt, .ring] W s x0 := by
    (with_reducible conv => arg 4; whnf)
    with_reducible refine Frame.whenDo ?_ ?_
    exact Frame.refl ..
    intro u9 hu10
    with_reducible refine Frame.step ?_ (State.stationBack_frame _ _ ?_) (by decide)
    assumption
    exact hw0
  have hx8 : Frame [.evt, .ring] W s x8 := by
    (with_reducible conv => arg 4; whnf)
    ((with_reducible refine Frame.upd ?_ ?_); on_goal 2 => (intro p hp; cases p <;> first | exact (hp (by decide)).elim | (dsimp only [Part.same] <;> fail)))
    exact hx0
  with_reducible refine Frame.iteOf ?_ ?_
  with_reducible refine Frame.step ?_ (State.stationAbsent_frame _ _ ?_ ?_ ?_ ?_ ?_) (by decide)
  exact hx8
  exact hw0; exact hw1; exact hw2; exact hw3; exact hw4
  exact hx8

theorem execSafeUpstreamReceive_frame {W : Nat → Prop} (port : Fin 6) (fr : RxFrame) (s : State) (hw0 : W (R.ZLP_P_RXCNT ↑port)) (hw1 : W (R.ZLP_P_STAT ↑port)) (hw2 : W (R.EVT_PEND (76 / 32))) (hw3 : W (R.EVT_LOST_CNT)) (hw4 : W (R.EVT_STAT)) (hw5 : W (R.ZLP_P_HCRCCNT ↑port)) (hw6 : W (R.ZLP_P_FCSCNT ↑port)) (hw7 : ∀ i0, W (R.ZLP_STN_CNT i0)) (hw8 : W (R.EVT_PEND (69 / 32))) (hw9 : W (R.ZLP_WV_CNT)) (hw10 : ∀ i0, W (R.ZLP_STN_STAT i0)) (hw11 : W (R.EVT_PEND (67 / 32))) : Frame.out [.evt, .ring, .twn] W s (execSafeUpstreamReceive port fr s) := by
  unfold execSafeUpstreamReceive
  split
  with_reducible refine Frame.out_next ?_
  refine Frame.fst (by assumption) ?_
  with_reducible refine Frame.step ?_ (State.rxFrame_frame _ _ _ _ ?_ ?_ ?_ ?_ ?_ ?_ ?_) (by decide)
  exact Frame.refl ..
  exact hw0; exact hw1; exact hw2; exact hw3; exact hw4; exact hw5; exact hw6
  extract_lets x0 x1 x2 x3 x4
  split
  with_reducible refine Frame.out_next ?_
  refine Frame.fst (by assumption) ?_
  with_reducible refine Frame.step ?_ (State.rxFrame_frame _ _ _ _ ?_ ?_ ?_ ?_ ?_ ?_ ?_) (by decide)
  exact Frame.refl ..
  exact hw0; exact hw1; exact hw2; exact hw3; exact hw4; exact hw5; exact hw6
  split
  with_reducible refine Frame.out_next ?_
  with_reducible refine Frame.step ?_ (State.windowViolation_frame _ _ ?_ ?_ ?_ ?_ ?_) (by decide)
  refine Frame.fst (by assumption) ?_
  with_reducible refine Frame.step ?_ (State.rxFrame_frame _ _ _ _ ?_ ?_ ?_ ?_ ?_ ?_ ?_) (by decide)
  exact Frame.refl ..
  exact hw0; exact hw1; exact hw2; exact hw3; exact hw4; exact hw5; exact hw6; exact fun _ => hw7 _; exact hw8; exact hw3; exact hw4; exact hw9
  with_reducible refine Frame.out_next ?_
  with_reducible refine Frame.eachDo ?_ ?_
  refine Frame.fst (by assumption) ?_
  with_reducible refine Frame.step ?_ (State.rxFrame_frame _ _ _ _ ?_ ?_ ?_ ?_ ?_ ?_ ?_) (by decide)
  exact Frame.refl ..
  exact hw0; exact hw1; exact hw2; exact hw3; exact hw4; exact hw5; exact hw6
  intro u5 x6 hu7
  split
  assumption
  extract_lets x8 x9 x10
  have hx10 : Frame [.evt, .ring, .twn] W s x10 := by
    (with_reducible conv => arg 4; whnf)
    ((with_reducible refine Frame.upd ?_ ?_); on_goal 2 => (intro p hp; cases p <;> first | exact (hp (by decide)).elim | (dsimp only [Part.same] <;> fail)))
    assumption
  with_reducible refine Frame.step ?_ (State.presenceOf_frame _ _ _ _ _ ?_ ?_ ?_ ?_ ?_) (by decide)
  exact hx10
  exact hw10 _; exact hw7 _; exact hw11; exact hw3; exact hw4

theorem State.useKey_frame {W : Nat → Prop} (s : State) (h : ZlHeader) : Frame [.ring] W s (State.useKey s h) := by
  unfold State.useKey
  ((with_reducible refine Frame.upd ?_ ?_); on_goal 2 => (intro p hp; cases p <;> first | exact (hp (by decide)).elim | (dsimp only [Part.same] <;> fail)))
  exact Frame.refl ..

theorem execServiceReceive_frame {W : Nat → Prop} (port : Fin 6) (fr : RxFrame) (s : State) (hw0 : W (R.ZLP_P_RXCNT ↑port)) (hw1 : W (R.ZLP_P_STAT ↑port)) (hw2 : W (R.EVT_PEND (76 / 32))) (hw3 : W (R.EVT_LOST_CNT)) (hw4 : W (R.EVT_STAT)) (hw5 : W (R.ZLP_P_HCRCCNT ↑port)) (hw6 : W (R.ZLP_P_FCSCNT ↑port)) (hw7 : ∀ i0, W (R.ZLP_STN_CNT i0)) (hw8 : W (R.EVT_PEND (69 / 32))) (hw9 : W (R.ZLP_WV_CNT)) : Frame.out [.evt, .ring, .twn] W s (execServiceReceive port fr s) := by
  unfold execServiceReceive
  split
  with_reducible refine Frame.out_next ?_
  refine Frame.fst (by assumption) ?_
  with_reducible refine Frame.step ?_ (State.rxFrame_frame _ _ _ _ ?_ ?_ ?_ ?_ ?_ ?_ ?_) (by decide)
  exact Frame.refl ..
  exact hw0; exact hw1; exact hw2; exact hw3; exact hw4; exact hw5; exact hw6
  split
  with_reducible refine Frame.out_next ?_
  refine Frame.fst (by assumption) ?_
  with_reducible refine Frame.step ?_ (State.rxFrame_frame _ _ _ _ ?_ ?_ ?_ ?_ ?_ ?_ ?_) (by decide)
  exact Frame.refl ..
  exact hw0; exact hw1; exact hw2; exact hw3; exact hw4; exact hw5; exact hw6
  split
  with_reducible refine Frame.out_next ?_
  with_reducible refine Frame.step ?_ (State.windowViolation_frame _ _ ?_ ?_ ?_ ?_ ?_) (by decide)
  refine Frame.fst (by assumption) ?_
  with_reducible refine Frame.step ?_ (State.rxFrame_frame _ _ _ _ ?_ ?_ ?_ ?_ ?_ ?_ ?_) (by decide)
  exact Frame.refl ..
  exact hw0; exact hw1; exact hw2; exact hw3; exact hw4; exact hw5; exact hw6; exact fun _ => hw7 _; exact hw8; exact hw3; exact hw4; exact hw9
  split
  with_reducible refine Frame.out_next ?_
  refine Frame.fst (by assumption) ?_
  with_reducible refine Frame.step ?_ (State.rxFrame_frame _ _ _ _ ?_ ?_ ?_ ?_ ?_ ?_ ?_) (by decide)
  exact Frame.refl ..
  exact hw0; exact hw1; exact hw2; exact hw3; exact hw4; exact hw5; exact hw6
  extract_lets x0 x1
  have hx0 : Frame [.evt, .ring, .twn] W s x0 := by
    (with_reducible conv => arg 4; whnf)
    with_reducible refine Frame.step ?_ (State.useKey_frame _ _) (by decide)
    refine Frame.fst (by assumption) ?_
    with_reducible refine Frame.step ?_ (State.rxFrame_frame _ _ _ _ ?_ ?_ ?_ ?_ ?_ ?_ ?_) (by decide)
    exact Frame.refl ..
    exact hw0; exact hw1; exact hw2; exact hw3; exact hw4; exact hw5; exact hw6
  with_reducible refine Frame.out_next ?_
  ((with_reducible refine Frame.upd ?_ ?_); on_goal 2 => (intro p hp; cases p <;> first | exact (hp (by decide)).elim | (dsimp only [Part.same] <;> fail)))
  exact hx0

theorem execVacantUnclaimedReturn_frame {W : Nat → Prop} (port : Fin 6) (fr : RxFrame) (s : State) (hw0 : W (R.ZLP_P_RXCNT ↑port)) (hw1 : W (R.ZLP_P_STAT ↑port)) (hw2 : W (R.EVT_PEND (76 / 32))) (hw3 : W (R.EVT_LOST_CNT)) (hw4 : W (R.EVT_STAT)) (hw5 : W (R.ZLP_P_HCRCCNT ↑port)) (hw6 : W (R.ZLP_P_FCSCNT ↑port)) (hw7 : ∀ i0, W (R.ZLP_STN_CNT i0)) (hw8 : W (R.EVT_PEND (69 / 32))) (hw9 : W (R.ZLP_WV_CNT)) : Frame.out [.evt, .ring, .twn] W s (execVacantUnclaimedReturn port fr s) := by
  unfold execVacantUnclaimedReturn
  split
  with_reducible refine Frame.out_next ?_
  refine Frame.fst (by assumption) ?_
  with_reducible refine Frame.step ?_ (State.rxFrame_frame _ _ _ _ ?_ ?_ ?_ ?_ ?_ ?_ ?_) (by decide)
  exact Frame.refl ..
  exact hw0; exact hw1; exact hw2; exact hw3; exact hw4; exact hw5; exact hw6
  split
  with_reducible refine Frame.out_next ?_
  refine Frame.fst (by assumption) ?_
  with_reducible refine Frame.step ?_ (State.rxFrame_frame _ _ _ _ ?_ ?_ ?_ ?_ ?_ ?_ ?_) (by decide)
  exact Frame.refl ..
  exact hw0; exact hw1; exact hw2; exact hw3; exact hw4; exact hw5; exact hw6
  split
  with_reducible refine Frame.out_next ?_
  with_reducible refine Frame.step ?_ (State.windowViolation_frame _ _ ?_ ?_ ?_ ?_ ?_) (by decide)
  refine Frame.fst (by assumption) ?_
  with_reducible refine Frame.step ?_ (State.rxFrame_frame _ _ _ _ ?_ ?_ ?_ ?_ ?_ ?_ ?_) (by decide)
  exact Frame.refl ..
  exact hw0; exact hw1; exact hw2; exact hw3; exact hw4; exact hw5; exact hw6; exact fun _ => hw7 _; exact hw8; exact hw3; exact hw4; exact hw9
  with_reducible refine Frame.out_next ?_
  ((with_reducible refine Frame.upd ?_ ?_); on_goal 2 => (intro p hp; cases p <;> first | exact (hp (by decide)).elim | (dsimp only [Part.same] <;> fail)))
  refine Frame.fst (by assumption) ?_
  with_reducible refine Frame.step ?_ (State.rxFrame_frame _ _ _ _ ?_ ?_ ?_ ?_ ?_ ?_ ?_) (by decide)
  exact Frame.refl ..
  exact hw0; exact hw1; exact hw2; exact hw3; exact hw4; exact hw5; exact hw6

theorem execStnpdReceive_frame {W : Nat → Prop} (port : Fin 6) (fr : RxFrame) (s : State) (hw0 : W (R.ZLP_P_RXCNT ↑port)) (hw1 : W (R.ZLP_P_STAT ↑port)) (hw2 : W (R.EVT_PEND (76 / 32))) (hw3 : W (R.EVT_LOST_CNT)) (hw4 : W (R.EVT_STAT)) (hw5 : W (R.ZLP_P_HCRCCNT ↑port)) (hw6 : W (R.ZLP_P_FCSCNT ↑port)) (hw7 : ∀ i0, W (R.ZLP_STN_CNT i0)) (hw8 : W (R.EVT_PEND (69 / 32))) (hw9 : W (R.ZLP_WV_CNT)) (hw10 : W (R.DSP_STAT)) (hw11 : W (R.EVT_PEND (25 / 32))) : Frame.out [.free, .evt, .chn, .dsp, .piers, .axes, .deck, .deckMem, .ring, .twn] W s (execStnpdReceive port fr s) := by
  unfold execStnpdReceive
  split
  with_reducible refine Frame.out_next ?_
  refine Frame.fst (by assumption) ?_
  with_reducible refine Frame.step ?_ (State.rxFrame_frame _ _ _ _ ?_ ?_ ?_ ?_ ?_ ?_ ?_) (by decide)
  exact Frame.refl ..
  exact hw0; exact hw1; exact hw2; exact hw3; exact hw4; exact hw5; exact hw6
  extract_lets x0
  split
  with_reducible refine Frame.out_next ?_
  refine Frame.fst (by assumption) ?_
  with_reducible refine Frame.step ?_ (State.rxFrame_frame _ _ _ _ ?_ ?_ ?_ ?_ ?_ ?_ ?_) (by decide)
  exact Frame.refl ..
  exact hw0; exact hw1; exact hw2; exact hw3; exact hw4; exact hw5; exact hw6
  split
  with_reducible refine Frame.out_next ?_
  with_reducible refine Frame.step ?_ (State.windowViolation_frame _ _ ?_ ?_ ?_ ?_ ?_) (by decide)
  refine Frame.fst (by assumption) ?_
  with_reducible refine Frame.step ?_ (State.rxFrame_frame _ _ _ _ ?_ ?_ ?_ ?_ ?_ ?_ ?_) (by decide)
  exact Frame.refl ..
  exact hw0; exact hw1; exact hw2; exact hw3; exact hw4; exact hw5; exact hw6; exact fun _ => hw7 _; exact hw8; exact hw3; exact hw4; exact hw9
  split
  with_reducible refine Frame.out_next ?_
  refine Frame.fst (by assumption) ?_
  with_reducible refine Frame.step ?_ (State.rxFrame_frame _ _ _ _ ?_ ?_ ?_ ?_ ?_ ?_ ?_) (by decide)
  exact Frame.refl ..
  exact hw0; exact hw1; exact hw2; exact hw3; exact hw4; exact hw5; exact hw6
  with_reducible refine Frame.out_next ?_
  with_reducible refine Frame.step ?_ (State.recordsIn_frame _ _ _ _ ?_ ?_ ?_ ?_) (by decide)
  with_reducible refine Frame.step ?_ (State.useKey_frame _ _) (by decide)
  refine Frame.fst (by assumption) ?_
  with_reducible refine Frame.step ?_ (State.rxFrame_frame _ _ _ _ ?_ ?_ ?_ ?_ ?_ ?_ ?_) (by decide)
  exact Frame.refl ..
  exact hw0; exact hw1; exact hw2; exact hw3; exact hw4; exact hw5; exact hw6; exact hw10; exact hw11; exact hw3; exact hw4

theorem State.startBad_frame {W : Nat → Prop} (s : State) (status : ℕ) (hw0 : W (R.ZLP_STAT)) : Frame [] W s (State.startBad s status) := by
  unfold State.startBad
  with_reducible refine Frame.iteOf ?_ ?_
  with_reducible refine Frame.set1 ?_ ?_
  exact Frame.refl ..
  exact hw0
  with_reducible refine Frame.iteOf ?_ ?_
  with_reducible refine Frame.set1 ?_ ?_
  exact Frame.refl ..
  exact hw0
  with_reducible refine Frame.iteOf ?_ ?_
  with_reducible refine Frame.set1 ?_ ?_
  exact Frame.refl ..
  exact hw0
  exact Frame.refl ..

theorem State.startRefuse_frame {W : Nat → Prop} (s : State) (x : StartRefusal) (hw0 : W (R.ZLP_SSTAT)) (hw1 : W (R.ZLP_BUDGET)) (hw2 : W (R.ZLP_FAULT)) (hw3 : W (R.ZLP_STAT)) (hw4 : W (R.EVT_PEND (64 / 32))) (hw5 : W (R.EVT_LOST_CNT)) (hw6 : W (R.EVT_STAT)) : Frame [.evt, .hif, .ring] W s (State.startRefuse s x) := by
  unfold State.startRefuse
  extract_lets x0 x1 x2
  have hx0 : Frame [.evt, .hif, .ring] W s x0 := by
    (with_reducible conv => arg 4; whnf)
    with_reducible refine Frame.step ?_ (State.spanStop_frame _ ?_ ?_) (by decide)
    exact Frame.refl ..
    exact hw0; exact hw1
  have hx1 : Frame [.evt, .hif, .ring] W s x1 := by
    (with_reducible conv => arg 4; whnf)
    with_reducible refine Frame.setF ?_ ?_
    with_reducible refine Frame.setF ?_ ?_
    with_reducible refine Frame.setF ?_ ?_
    exact hx0
    exact hw2; exact hw2; exact hw2
  have hx2 : Frame [.evt, .hif, .ring] W s x2 := by
    (with_reducible conv => arg 4; whnf)
    with_reducible refine Frame.step ?_ (State.raise_frame _ _ _ _ ?_ ?_ ?_) (by decide)
    with_reducible refine Frame.step ?_ (State.startBad_frame _ _ ?_) (by decide)
    exact hx1
    exact hw3; exact hw4; exact hw5; exact hw6
  with_reducible refine Frame.step ?_ (State.endWaits_frame _ _ _ _ _ _) (by decide)
  exact hx2

theorem State.collisionLost_frame {W : Nat → Prop} (s : State) (hid : ℕ) (hw0 : W (R.ZLP_SSTAT)) (hw1 : W (R.EVT_PEND (73 / 32))) (hw2 : W (R.EVT_LOST_CNT)) (hw3 : W (R.EVT_STAT)) : Frame [.evt, .ring] W s (State.collisionLost s hid) := by
  unfold State.collisionLost
  extract_lets x0 x1
  have hx0 : Frame [.evt, .ring] W s x0 := by
    (with_reducible conv => arg 4; whnf)
    with_reducible refine Frame.step ?_ (State.raise_frame _ _ _ _ ?_ ?_ ?_) (by decide)
    with_reducible refine Frame.set1 ?_ ?_
    exact Frame.refl ..
    exact hw0; exact hw1; exact hw2; exact hw3
  ((with_reducible refine Frame.upd ?_ ?_); on_goal 2 => (intro p hp; cases p <;> first | exact (hp (by decide)).elim | (dsimp only [Part.same] <;> fail)))
  exact hx0

theorem State.splitLease_frame {W : Nat → Prop} (s : State) (prio : ℕ) (hw0 : W (R.ZLP_SSTAT)) (hw1 : W (R.EVT_PEND (73 / 32))) (hw2 : W (R.EVT_LOST_CNT)) (hw3 : W (R.EVT_STAT)) : Frame [.evt, .ring, .twn] W s (State.splitLease s prio) := by
  unfold State.splitLease
  with_reducible refine Frame.iteOf ?_ ?_
  with_reducible refine Frame.step ?_ (State.collisionLost_frame _ _ ?_ ?_ ?_ ?_) (by decide)
  ((with_reducible refine Frame.upd ?_ ?_); on_goal 2 => (intro p hp; cases p <;> first | exact (hp (by decide)).elim | (dsimp only [Part.same] <;> fail)))
  exact Frame.refl ..
  exact hw0; exact hw1; exact hw2; exact hw3
  exact Frame.refl ..

theorem execForeignSyncReceive_frame {W : Nat → Prop} (port : Fin 6) (fr : RxFrame) (s : State) (hw0 : W (R.ZLP_P_RXCNT ↑port)) (hw1 : W (R.ZLP_P_STAT ↑port)) (hw2 : W (R.EVT_PEND (76 / 32))) (hw3 : W (R.EVT_LOST_CNT)) (hw4 : W (R.EVT_STAT)) (hw5 : W (R.ZLP_P_HCRCCNT ↑port)) (hw6 : W (R.ZLP_P_FCSCNT ↑port)) (hw7 : W (R.ZLP_SSTAT)) (hw8 : W (R.ZLP_BUDGET)) (hw9 : W (R.ZLP_FAULT)) (hw10 : W (R.ZLP_STAT)) (hw11 : W (R.EVT_PEND (64 / 32))) (hw12 : W (R.EVT_PEND (73 / 32))) : Frame.out [.evt, .hif, .ring, .twn] W s (execForeignSyncReceive port fr s) := by
  unfold execForeignSyncReceive
  extract_lets x0 x1 x2 x3 x4
  have hx1 : Frame [.evt, .hif, .ring, .twn] W s x1 := by
    (with_reducible conv => arg 4; whnf)
    with_reducible refine Frame.step ?_ (State.rxCount_frame _ _ _ ?_ ?_ ?_ ?_ ?_ ?_ ?_) (by decide)
    exact Frame.refl ..
    exact hw0; exact hw1; exact hw2; exact hw3; exact hw4; exact hw5; exact hw6
  have hx3 : Frame [.evt, .hif, .ring, .twn] W s x3 := by
    (with_reducible conv => arg 4; whnf)
    with_reducible refine Frame.step ?_ (State.epochSeen_frame _ _) (by decide)
    exact hx1
  split
  with_reducible refine Frame.out_next ?_
  exact hx1
  split
  with_reducible refine Frame.out_next ?_
  with_reducible refine Frame.iteOf ?_ ?_
  exact hx1
  with_reducible refine Frame.step ?_ (State.startRefuse_frame _ _ ?_ ?_ ?_ ?_ ?_ ?_ ?_) (by decide)
  with_reducible refine Frame.set1 ?_ ?_
  exact hx1
  exact hw7; exact hw7; exact hw8; exact hw9; exact hw10; exact hw11; exact hw3; exact hw4
  split
  with_reducible refine Frame.out_next ?_
  exact hx1
  split
  with_reducible refine Frame.out_next ?_
  with_reducible refine Frame.iteOf ?_ ?_
  with_reducible refine Frame.step ?_ (State.splitLease_frame _ _ ?_ ?_ ?_ ?_) (by decide)
  exact hx3
  exact hw7; exact hw12; exact hw3; exact hw4
  exact hx3
  with_reducible refine Frame.out_next ?_
  with_reducible refine Frame.iteOf ?_ ?_
  with_reducible refine Frame.step ?_ (State.collisionLost_frame _ _ ?_ ?_ ?_ ?_) (by decide)
  exact hx1
  exact hw7; exact hw12; exact hw3; exact hw4
  exact hx1

theorem State.holderOffset_frame {W : Nat → Prop} (s : State) (r : ℕ) (sfd : ℕ) (p : List Byte) (hw0 : W (R.TWN_TOFF)) : Frame [] W s (State.holderOffset s r sfd p) := by
  unfold State.holderOffset
  extract_lets x0 x1 x2
  with_reducible refine Frame.setF ?_ ?_
  exact Frame.refl ..
  exact hw0

theorem State.phaseFollow_frame {W : Nat → Prop} (s : State) (r : ℕ) (sfd : ℕ) (base : ℕ) (p : List Byte) (hw0 : W (R.TWN_TOFF)) (hw1 : W (R.TWN_PHASE)) : Frame [] W s (State.phaseFollow s r sfd base p) := by
  unfold State.phaseFollow
  extract_lets x0 x1 x2 x3
  have hx1 : Frame [] W s x1 := by
    (with_reducible conv => arg 4; whnf)
    with_reducible refine Frame.step ?_ (State.holderOffset_frame _ _ _ _ ?_) (by decide)
    exact Frame.refl ..
    exact hw0
  with_reducible refine Frame.iteOf ?_ ?_
  with_reducible refine Frame.setF ?_ ?_
  exact hx1
  exact hw1
  exact Frame.refl ..

theorem State.putMeas_frame {W : Nat → Prop} (s : State) (r : ℕ) (m : RingMeas) : Frame [.ring] W s (State.putMeas s r m) := by
  unfold State.putMeas
  ((with_reducible refine Frame.upd ?_ ?_); on_goal 2 => (intro p hp; cases p <;> first | exact (hp (by decide)).elim | (dsimp only [Part.same] <;> fail)))
  exact Frame.refl ..

theorem State.ringClosed_frame {W : Nat → Prop} (s : State) (r : ℕ) (lam : ℕ) (hw0 : W (R.ZLP_RSTAT)) (hw1 : W (R.EVT_PEND (71 / 32))) (hw2 : W (R.EVT_LOST_CNT)) (hw3 : W (R.EVT_STAT)) (hw4 : W (R.ZLP_LOOP (2 * r))) (hw5 : W (R.EVT_PEND (72 / 32))) : Frame [.evt, .ring] W s (State.ringClosed s r lam) := by
  unfold State.ringClosed
  extract_lets x0 x1 x2 x3 x4 x5 x6 x7 x8 x9
  have hx2 : Frame [.evt, .ring] W s x2 := by
    (with_reducible conv => arg 4; whnf)
    with_reducible refine Frame.step ?_ (State.raise_frame _ _ _ _ ?_ ?_ ?_) (by decide)
    with_reducible refine Frame.setF ?_ ?_
    exact Frame.refl ..
    unfold ringFld
    split
    exact hw0; exact hw0; exact hw1; exact hw2; exact hw3
  have hx4 : Frame [.evt, .ring] W s x4 := by
    (with_reducible conv => arg 4; whnf)
    ((with_reducible refine Frame.upd ?_ ?_); on_goal 2 => (intro p hp; cases p <;> first | exact (hp (by decide)).elim | (dsimp only [Part.same] <;> fail)))
    exact hx2
  have hx5 : Frame [.evt, .ring] W s x5 := by
    (with_reducible conv => arg 4; whnf)
    with_reducible refine Frame.setF ?_ ?_
    exact hx4
    unfold ringFld
    split
    exact hw0; exact hw0
  have hx7 : Frame [.evt, .ring] W s x7 := by
    (with_reducible conv => arg 4; whnf)
    with_reducible refine Frame.setF ?_ ?_
    with_reducible refine Frame.step ?_ (State.putMeas_frame _ _ _) (by decide)
    exact hx5
    exact hw4
  have hx9 : Frame [.evt, .ring] W s x9 := by
    (with_reducible conv => arg 4; whnf)
    ((with_reducible refine Frame.upd ?_ ?_); on_goal 2 => (intro p hp; cases p <;> first | exact (hp (by decide)).elim | (dsimp only [Part.same] <;> fail)))
    exact hx7
  with_reducible refine Frame.iteOf ?_ ?_
  exact hx4
  with_reducible refine Frame.step ?_ (State.raise_frame _ _ _ _ ?_ ?_ ?_) (by decide)
  exact hx9
  exact hw5; exact hw2; exact hw3

theorem execSyncReturn_frame {W : Nat → Prop} (port : Fin 6) (fr : RxFrame) (s : State) (hw0 : W (R.ZLP_P_RXCNT ↑port)) (hw1 : W (R.ZLP_P_STAT ↑port)) (hw2 : W (R.EVT_PEND (76 / 32))) (hw3 : W (R.EVT_LOST_CNT)) (hw4 : W (R.EVT_STAT)) (hw5 : W (R.ZLP_P_HCRCCNT ↑port)) (hw6 : W (R.ZLP_P_FCSCNT ↑port)) (hw7 : W (R.TWN_TOFF)) (hw8 : W (R.TWN_PHASE)) (hw9 : W (R.ZLP_RSTAT)) (hw10 : W (R.EVT_PEND (71 / 32))) (hw11 : W (R.ZLP_LOOP (2 * ringOfPort ↑port))) (hw12 : W (R.EVT_PEND (72 / 32))) : Frame.out [.evt, .ring, .twn] W s (execSyncReturn port fr s) := by
  unfold execSyncReturn
  split
  with_reducible refine Frame.out_next ?_
  refine Frame.fst (by assumption) ?_
  with_reducible refine Frame.step ?_ (State.rxFrame_frame _ _ _ _ ?_ ?_ ?_ ?_ ?_ ?_ ?_) (by decide)
  exact Frame.refl ..
  exact hw0; exact hw1; exact hw2; exact hw3; exact hw4; exact hw5; exact hw6
  extract_lets x0 x1 x2
  have hx2 : Frame [.evt, .ring, .twn] W s x2 := by
    (with_reducible conv => arg 4; whnf)
    ((with_reducible refine Frame.upd ?_ ?_); on_goal 2 => (intro p hp; cases p <;> first | exact (hp (by decide)).elim | (dsimp only [Part.same] <;> fail)))
    refine Frame.fst (by assumption) ?_
    with_reducible refine Frame.step ?_ (State.rxFrame_frame _ _ _ _ ?_ ?_ ?_ ?_ ?_ ?_ ?_) (by decide)
    exact Frame.refl ..
    exact hw0; exact hw1; exact hw2; exact hw3; exact hw4; exact hw5; exact hw6
  split
  with_reducible refine Frame.out_next ?_
  refine Frame.fst (by assumption) ?_
  with_reducible refine Frame.step ?_ (State.rxFrame_frame _ _ _ _ ?_ ?_ ?_ ?_ ?_ ?_ ?_) (by decide)
  exact Frame.refl ..
  exact hw0; exact hw1; exact hw2; exact hw3; exact hw4; exact hw5; exact hw6
  split
  with_reducible refine Frame.out_next ?_
  refine Frame.fst (by assumption) ?_
  with_reducible refine Frame.step ?_ (State.rxFrame_frame _ _ _ _ ?_ ?_ ?_ ?_ ?_ ?_ ?_) (by decide)
  exact Frame.refl ..
  exact hw0; exact hw1; exact hw2; exact hw3; exact hw4; exact hw5; exact hw6
  split
  with_reducible refine Frame.out_next ?_
  with_reducible refine Frame.iteOf ?_ ?_
  ((with_reducible refine Frame.upd ?_ ?_); on_goal 2 => (intro p hp; cases p <;> first | exact (hp (by decide)).elim | (dsimp only [Part.same] <;> fail)))
  refine Frame.fst (by assumption) ?_
  with_reducible refine Frame.step ?_ (State.rxFrame_frame _ _ _ _ ?_ ?_ ?_ ?_ ?_ ?_ ?_) (by decide)
  exact Frame.refl ..
  exact hw0; exact hw1; exact hw2; exact hw3; exact hw4; exact hw5; exact hw6
  refine Frame.fst (by assumption) ?_
  with_reducible refine Frame.step ?_ (State.rxFrame_frame _ _ _ _ ?_ ?_ ?_ ?_ ?_ ?_ ?_) (by decide)
  exact Frame.refl ..
  exact hw0; exact hw1; exact hw2; exact hw3; exact hw4; exact hw5; exact hw6
  split
  with_reducible refine Frame.out_next ?_
  refine Frame.fst (by assumption) ?_
  with_reducible refine Frame.step ?_ (State.rxFrame_frame _ _ _ _ ?_ ?_ ?_ ?_ ?_ ?_ ?_) (by decide)
  exact Frame.refl ..
  exact hw0; exact hw1; exact hw2; exact hw3; exact hw4; exact hw5; exact hw6
  extract_lets x3
  have hx3 : Frame [.evt, .ring, .twn] W s x3 := by
    (with_reducible conv => arg 4; whnf)
    with_reducible refine Frame.step ?_ (State.phaseFollow_frame _ _ _ _ _ ?_ ?_) (by decide)
    exact hx2
    exact hw7; exact hw8
  with_reducible refine Frame.out_next ?_
  with_reducible refine Frame.iteOf ?_ ?_
  with_reducible refine Frame.step ?_ (State.ringClosed_frame _ _ _ ?_ ?_ ?_ ?_ ?_ ?_) (by decide)
  exact hx3
  exact hw9; exact hw10; exact hw3; exact hw4; exact hw11; exact hw12
  exact hx3

theorem execRingBreakDetect_frame {W : Nat → Prop} (ring : Fin 2) (s : State) (hw0 : W (R.ZLP_RSTAT)) (hw1 : W (R.ZLP_BRK)) (hw2 : W (R.ZLP_BRK_CNT)) (hw3 : W (R.EVT_PEND (70 / 32))) (hw4 : W (R.EVT_LOST_CNT)) (hw5 : W (R.EVT_STAT)) : Frame.out [.evt] W s (execRingBreakDetect ring s) := by
  unfold execRingBreakDetect
  extract_lets x0 x1 x2 x3
  split
  with_reducible refine Frame.out_next ?_
  with_reducible refine Frame.step ?_ (State.ringBreak_frame _ _ _ _ ?_ ?_ ?_ ?_ ?_ ?_) (by decide)
  exact Frame.refl ..
  exact hw0; exact hw1; exact hw2; exact hw3; exact hw4; exact hw5
  with_reducible refine Frame.out_next ?_
  exact Frame.refl ..

theorem execExpansionJointError_frame {W : Nat → Prop} (port : Fin 6) (s : State) (hw0 : W (R.ZLP_P_STAT ↑port)) (hw1 : W (R.ZLP_P_EJCNT ↑port)) (hw2 : W (R.EVT_PEND (76 / 32))) (hw3 : W (R.EVT_LOST_CNT)) (hw4 : W (R.EVT_STAT)) : Frame.out [.evt] W s (execExpansionJointError port s) := by
  unfold execExpansionJointError
  with_reducible refine Frame.out_next ?_
  with_reducible refine Frame.step ?_ (State.portError_frame _ _ ?_ ?_ ?_) (by decide)
  with_reducible refine Frame.incSat ?_ ?_
  with_reducible refine Frame.set1 ?_ ?_
  exact Frame.refl ..
  exact hw0; exact hw1; exact hw2; exact hw3; exact hw4

theorem execPortLinkChange_frame {W : Nat → Prop} (port : Fin 6) (sync : Bool) (los : Bool) (modabs : Bool) (txfault : Bool) (codeErrs : ℕ) (s : State) (hw0 : W (R.ZLP_P_STAT ↑port)) (hw1 : W (R.ZLP_P_CODECNT ↑port)) (hw2 : W (R.ZLP_RSTAT)) (hw3 : W (R.ZLP_BRK)) (hw4 : W (R.ZLP_BRK_CNT)) (hw5 : W (R.EVT_PEND (70 / 32))) (hw6 : W (R.EVT_LOST_CNT)) (hw7 : W (R.EVT_STAT)) : Frame.out [.evt, .ring] W s (execPortLinkChange port sync los modabs txfault codeErrs s) := by
  unfold execPortLinkChange
  extract_lets x0 x1 x2 x3 x4
  have hx2 : Frame [.evt, .ring] W s x2 := by
    (with_reducible conv => arg 4; whnf)
    ((with_reducible refine Frame.upd ?_ ?_); on_goal 2 => (intro p hp; cases p <;> first | exact (hp (by decide)).elim | (dsimp only [Part.same] <;> fail)))
    exact Frame.refl ..
  have hx4 : Frame [.evt, .ring] W s x4 := by
    (with_reducible conv => arg 4; whnf)
    with_reducible refine Frame.setB ?_ ?_
    with_reducible refine Frame.setB ?_ ?_
    with_reducible refine Frame.setB ?_ ?_
    exact hx2
    exact hw0; exact hw0; exact hw0
  with_reducible refine Frame.out_next ?_
  with_reducible refine Frame.step ?_ (State.linkSet_frame _ _ _ ?_ ?_ ?_ ?_ ?_ ?_ ?_) (by decide)
  with_reducible refine Frame.incSat ?_ ?_
  exact hx4
  exact hw1; exact hw0; exact hw2; exact hw3; exact hw4; exact hw5; exact hw6; exact hw7

theorem State.asmRead_frame {W : Nat → Prop} (s : State) (slot : ℕ) (h : ℕ) : Frame [.ring] W s (State.asmRead s slot h) := by
  unfold State.asmRead
  ((with_reducible refine Frame.upd ?_ ?_); on_goal 2 => (intro p hp; cases p <;> first | exact (hp (by decide)).elim | (dsimp only [Part.same] <;> fail)))
  exact Frame.refl ..

theorem execAssemblerSlotRead_frame {W : Nat → Prop} (slot : ℕ) (s : State) : Frame.out [.ring] W s (execAssemblerSlotRead slot s) := by
  unfold execAssemblerSlotRead
  split
  split
  with_reducible refine Frame.out_next ?_
  with_reducible refine Frame.step ?_ (State.asmRead_frame _ _ _) (by decide)
  exact Frame.refl ..
  with_reducible refine Frame.out_next ?_
  exact Frame.refl ..
  with_reducible refine Frame.out_next ?_
  exact Frame.refl ..

theorem State.markBufBad_frame {W : Nat → Prop} (s : State) (e : CymEntry) (hw0 : W (R.DCK_STAT)) : Frame [] W s (State.markBufBad s e) := by
  unfold State.markBufBad
  with_reducible refine Frame.iteOf ?_ ?_
  with_reducible refine Frame.set1 ?_ ?_
  exact Frame.refl ..
  exact hw0
  exact Frame.refl ..

theorem State.closeSlots_frame {W : Nat → Prop} (s : State) (e : CymEntry) (h : ℕ) : Frame [.deck, .deckMem] W s (State.closeSlots s e h) := by
  unfold State.closeSlots
  with_reducible refine Frame.iteOf ?_ ?_
  with_reducible refine Frame.eachDo ?_ ?_
  exact Frame.refl ..
  intro u0 x1 hu2
  extract_lets x3
  with_reducible refine Frame.iteOf ?_ ?_
  with_reducible refine Frame.step ?_ (State.deckPut_frame _ _ _) (by decide)
  assumption
  assumption
  exact Frame.refl ..

theorem State.dropEvents_frame {W : Nat → Prop} (s : State) (l : List RingEvent) : Frame [.est, .ring] W s (State.dropEvents s l) := by
  unfold State.dropEvents
  with_reducible refine Frame.eachDo ?_ ?_
  exact Frame.refl ..
  intro u0 x1 hu2
  extract_lets x3 x4 x5
  ((with_reducible refine Frame.upd ?_ ?_); on_goal 2 => (intro p hp; cases p <;> first | exact (hp (by decide)).elim | (dsimp only [Part.same] <;> fail)))
  assumption

theorem State.windowSend_frame {W : Nat → Prop} (s : State) (e : CymEntry) (h : ℕ) (hw0 : W (R.DCK_STAT)) : Frame [.est, .deck, .deckMem, .ring, .twn] W s (State.windowSend s e h) := by
  unfold State.windowSend
  extract_lets x0 x1 x2 x3 x4 x5 x6 x7 x8 x9
  have hx6 : Frame [.est, .deck, .deckMem, .ring, .twn] W s x6 := by
    (with_reducible conv => arg 4; whnf)
    with_reducible refine Frame.step ?_ (State.markBufBad_frame _ _ ?_) (by decide)
    exact Frame.refl ..
    exact hw0
  have hx7 : Frame [.est, .deck, .deckMem, .ring, .twn] W s x7 := by
    (with_reducible conv => arg 4; whnf)
    with_reducible refine Frame.whenDo ?_ ?_
    with_reducible refine Frame.step ?_ (State.closeSlots_frame _ _ _) (by decide)
    exact hx6
    intro u10 hu11
    with_reducible refine Frame.step ?_ (State.dropEvents_frame _ _) (by decide)
    assumption
  ((with_reducible refine Frame.upd ?_ ?_); on_goal 2 => (intro p hp; cases p <;> first | exact (hp (by decide)).elim | (dsimp only [Part.same] <;> fail)))
  exact hx7

theorem State.nextRound_frame {W : Nat → Prop} (s : State) (e : CymEntry) : Frame [.ring] W s (State.nextRound s e) := by
  unfold State.nextRound
  with_reducible refine Frame.whenDo ?_ ?_
  exact Frame.refl ..
  intro u0 hu1
  ((with_reducible refine Frame.upd ?_ ?_); on_goal 2 => (intro p hp; cases p <;> first | exact (hp (by decide)).elim | (dsimp only [Part.same] <;> fail)))
  assumption

theorem execWindowSend_frame {W : Nat → Prop} (b : Fin 64) (w : Fin 64) (s : State) (hw0 : W (R.DCK_STAT)) : Frame.out [.est, .deck, .deckMem, .ring, .twn] W s (execWindowSend b w s) := by
  unfold execWindowSend
  extract_lets x0
  split
  split
  with_reducible refine Frame.out_next ?_
  with_reducible refine Frame.step ?_ (State.windowSend_frame _ _ _ ?_) (by decide)
  with_reducible refine Frame.step ?_ (State.nextRound_frame _ _) (by decide)
  exact Frame.refl ..
  exact hw0
  with_reducible refine Frame.out_next ?_
  exact Frame.refl ..
  with_reducible refine Frame.out_next ?_
  exact Frame.refl ..

theorem execStepEnable_frame {W : Nat → Prop} (c : Fin 32) (val : Word) (s : State) (hw0 : W (R.GLB_ACC_ERR)) (hw1 : W (R.STP_CFG ↑c)) (hw2 : W (R.STP_POS ↑c)) (hw3 : W (R.STP_STAT ↑c)) : Frame.out [.pwr] W s (execStepEnable c val s) := by
  unfold execStepEnable
  with_reducible refine Frame.out_next ?_
  with_reducible refine State.bar0Write_frame _ _ _ ?_ (by decide) ?_ ?_
  exact hw0
  exact Frame.refl ..
  intro u0 hu1
  with_reducible refine Frame.step ?_ (State.stpCfgWrite_frame _ _ _ ?_ ?_ ?_) (by decide)
  assumption
  exact hw1; exact hw2; exact hw3

theorem execStepPlan_frame {W : Nat → Prop} (c : Fin 32) (s : State) (hw0 : W (R.STP_LAG ↑c)) (hw1 : W (R.STP_STAT ↑c)) (hw2 : W (R.EVT_PEND (60 / 32))) (hw3 : W (R.EVT_LOST_CNT)) (hw4 : W (R.EVT_STAT)) (hw5 : W (R.EVT_PEND (16 / 32))) : Frame.out [.evt, .pwr] W s (execStepPlan c s) := by
  unfold execStepPlan
  extract_lets x0 x1 x2 x3 x4 x5 x6 x7 x8 x9 x10 x11
  have hx2 : Frame [.evt, .pwr] W s x2 := by
    (with_reducible conv => arg 4; whnf)
    with_reducible refine Frame.putReg ?_ ?_
    exact Frame.refl ..
    exact hw0
  have hx4 : Frame [.evt, .pwr] W s x4 := by
    (with_reducible conv => arg 4; whnf)
    with_reducible refine Frame.step ?_ (State.putStp_frame _ _ _) (by decide)
    exact hx2
  have hx11 : Frame [.evt, .pwr] W s x11 := by
    (with_reducible conv => arg 4; whnf)
    with_reducible refine Frame.step ?_ (State.putStp_frame _ _ _) (by decide)
    exact hx2
  split
  with_reducible refine Frame.out_next ?_
  exact Frame.refl ..
  split
  with_reducible refine Frame.out_next ?_
  with_reducible refine Frame.step ?_ (State.raise_frame _ _ _ _ ?_ ?_ ?_) (by decide)
  with_reducible refine Frame.set1 ?_ ?_
  with_reducible refine Frame.clr ?_ ?_
  exact hx4
  exact hw1; exact hw1; exact hw2; exact hw3; exact hw4
  with_reducible refine Frame.out_next ?_
  with_reducible refine Frame.whenDo ?_ ?_
  exact hx11
  intro u12 hu13
  with_reducible refine Frame.step ?_ (State.raise_frame _ _ _ _ ?_ ?_ ?_) (by decide)
  with_reducible refine Frame.set1 ?_ ?_
  assumption
  exact hw1; exact hw5; exact hw3; exact hw4

theorem execStepPulse_frame {W : Nat → Prop} (c : Fin 32) (s : State) (hw0 : W (R.STP_POS ↑c)) : Frame.out [.pwr] W s (execStepPulse c s) := by
  unfold execStepPulse
  extract_lets x0 x1
  split
  split
  with_reducible refine Frame.out_next ?_
  with_reducible refine Frame.step ?_ (State.putStp_frame _ _ _) (by decide)
  exact Frame.refl ..
  with_reducible refine Frame.out_next ?_
  exact Frame.refl ..
  split
  with_reducible refine Frame.out_next ?_
  with_reducible refine Frame.step ?_ (State.putStp_frame _ _ _) (by decide)
  exact Frame.refl ..
  with_reducible refine Frame.out_next ?_
  exact Frame.refl ..
  split
  extract_lets x2
  have hx2 : Frame [.pwr] W s x2 := by
    (with_reducible conv => arg 4; whnf)
    with_reducible refine Frame.step ?_ (State.putStp_frame _ _ _) (by decide)
    exact Frame.refl ..
  with_reducible refine Frame.out_next ?_
  with_reducible refine Frame.putReg ?_ ?_
  exact hx2
  exact hw0
  with_reducible refine Frame.out_next ?_
  exact Frame.refl ..
  with_reducible refine Frame.out_next ?_
  exact Frame.refl ..

theorem execSfpTransfer_frame {W : Nat → Prop} (port : Fin 6) (val : Word) (s : State) (hw0 : W (R.GLB_ACC_ERR)) (hw1 : W (R.ZLP_P_SFP_CTL ↑port)) : Frame.out [] W s (execSfpTransfer port val s) := by
  unfold execSfpTransfer
  with_reducible refine Frame.out_next ?_
  with_reducible refine State.bar0Write_frame _ _ _ ?_ (by decide) ?_ ?_
  exact hw0
  exact Frame.refl ..
  intro u0 hu1
  with_reducible refine Frame.step ?_ (State.plainWrite_frame _ _ _ ?_) (by decide)
  assumption
  exact hw1

theorem execSfpTransferEnd_frame {W : Nat → Prop} (port : Fin 6) (ack : Bool) (data : Byte) (s : State) (hw0 : W (R.ZLP_P_SFP_CTL ↑port)) : Frame.out [] W s (execSfpTransferEnd port ack data s) := by
  unfold execSfpTransferEnd
  extract_lets x0 x1
  have hx1 : Frame [] W s x1 := by
    (with_reducible conv => arg 4; whnf)
    with_reducible refine Frame.setB ?_ ?_
    with_reducible refine Frame.clr ?_ ?_
    exact Frame.refl ..
    exact hw0; exact hw0
  split
  with_reducible refine Frame.out_next ?_
  with_reducible refine Frame.iteOf ?_ ?_
  with_reducible refine Frame.setF ?_ ?_
  exact hx1
  exact hw0
  exact hx1
  with_reducible refine Frame.out_next ?_
  exact Frame.refl ..

theorem execDdmRead_frame {W : Nat → Prop} (port : Fin 6) (temp : BitVec 16) (rx : BitVec 16) (s : State) (hw0 : W (R.ZLP_P_DDM ↑port)) : Frame.out [.ring] W s (execDdmRead port temp rx s) := by
  unfold execDdmRead
  extract_lets x0 x1 x2
  have hx2 : Frame [.ring] W s x2 := by
    (with_reducible conv => arg 4; whnf)
    ((with_reducible refine Frame.upd ?_ ?_); on_goal 2 => (intro p hp; cases p <;> first | exact (hp (by decide)).elim | (dsimp only [Part.same] <;> fail)))
    exact Frame.refl ..
  split
  with_reducible refine Frame.out_next ?_
  with_reducible refine Frame.setF ?_ ?_
  with_reducible refine Frame.setF ?_ ?_
  exact hx2
  exact hw0; exact hw0
  with_reducible refine Frame.out_next ?_
  exact Frame.refl ..

theorem State.startStep_frame {W : Nat → Prop} {ps : List Part} {s0 : State} (s : State) (x : StartStep) (g : State → State) (hsub : ∀ p ∈ ([.free, .ring] : List Part), p ∈ ps) (h0 : Frame ps W s0 s) (hg : ∀ u, Frame ps W s0 u → Frame ps W s0 (g u)) : Frame ps W s0 (State.startStep s x g) := by
  unfold State.startStep
  with_reducible refine Frame.iteOf ?_ ?_
  extract_lets x0 x1 x2
  have hx1 : Frame ps W s0 x1 := by
    (with_reducible conv => arg 4; whnf)
    ((with_reducible refine Frame.upd ?_ ?_); on_goal 2 => (intro p hp; replace hp := fun h => hp (hsub p h); cases p <;> first | exact (hp (by decide)).elim | (dsimp only [Part.same] <;> fail)))
    assumption
  with_reducible refine Frame.iteOf ?_ ?_
  with_reducible refine Frame.step ?_ (State.drewFree_frame _) (fun p hp => hsub p (by revert p hp; decide))
  ((with_reducible refine Frame.upd ?_ ?_); on_goal 2 => (intro p hp; replace hp := fun h => hp (hsub p h); cases p <;> first | exact (hp (by decide)).elim | (dsimp only [Part.same] <;> fail)))
  exact hx1
  exact hx1
  refine hg _ ?_
  assumption

theorem State.sendRound_frame {W : Nat → Prop} (s : State) (r : ℕ) : Frame [.ring] W s (State.sendRound s r) := by
  unfold State.sendRound
  extract_lets x0 x1 x2 x3 x4
  have hx3 : Frame [.ring] W s x3 := by
    (with_reducible conv => arg 4; whnf)
    with_reducible refine Frame.step ?_ (State.putMeas_frame _ _ _) (by decide)
    exact Frame.refl ..
  ((with_reducible refine Frame.upd ?_ ?_); on_goal 2 => (intro p hp; cases p <;> first | exact (hp (by decide)).elim | (dsimp only [Part.same] <;> fail)))
  exact hx3

theorem execListenTimeEnd_frame {W : Nat → Prop} (s : State) (hw0 : W (R.ZLP_SSTAT)) : Frame.out [.free, .ring] W s (execListenTimeEnd s) := by
  unfold execListenTimeEnd
  split
  extract_lets x0 x1 x2
  have hx0 : Frame [.free, .ring] W s x0 := by
    (with_reducible conv => arg 4; whnf)
    with_reducible refine Frame.setF ?_ ?_
    exact Frame.refl ..
    exact hw0
  have hx2 : Frame [.free, .ring] W s x2 := by
    (with_reducible conv => arg 4; whnf)
    ((with_reducible refine Frame.upd ?_ ?_); on_goal 2 => (intro p hp; cases p <;> first | exact (hp (by decide)).elim | (dsimp only [Part.same] <;> fail)))
    exact hx0
  with_reducible refine Frame.out_next ?_
  with_reducible refine Frame.eachDo ?_ ?_
  exact hx2
  intro u3 x4 hu5
  with_reducible refine State.startStep_frame _ _ _ (by decide) ?_ ?_
  assumption
  intro u6 hu7
  with_reducible refine Frame.step ?_ (State.sendRound_frame _ _) (by decide)
  assumption
  with_reducible refine Frame.out_next ?_
  exact Frame.refl ..

theorem State.showLoops_frame {W : Nat → Prop} (s : State) (hw0 : ∀ i0, W (R.ZLP_LOOP i0)) : Frame [] W s (State.showLoops s) := by
  unfold State.showLoops
  with_reducible refine Frame.eachDo ?_ ?_
  exact Frame.refl ..
  intro u0 x1 hu2
  with_reducible refine Frame.setF ?_ ?_
  with_reducible refine Frame.setF ?_ ?_
  assumption
  exact hw0 _; exact hw0 _

theorem State.sendReports_frame {W : Nat → Prop} (s : State) (hw0 : ∀ i0, W (R.ZLP_LOOP i0)) : Frame [.ring] W s (State.sendReports s) := by
  unfold State.sendReports
  extract_lets x0
  have hx0 : Frame [.ring] W s x0 := by
    (with_reducible conv => arg 4; whnf)
    with_reducible refine Frame.step ?_ (State.showLoops_frame _ ?_) (by decide)
    exact Frame.refl ..
    exact fun _ => hw0 _
  with_reducible refine Frame.eachDo ?_ ?_
  exact hx0
  intro u1 x2 hu3
  extract_lets x4 x5 x6 x7 x8
  have hx7 : Frame [.ring] W s x7 := by
    (with_reducible conv => arg 4; whnf)
    with_reducible refine Frame.step ?_ (State.putMeas_frame _ _ _) (by decide)
    assumption
  ((with_reducible refine Frame.upd ?_ ?_); on_goal 2 => (intro p hp; cases p <;> first | exact (hp (by decide)).elim | (dsimp only [Part.same] <;> fail)))
  exact hx7

theorem State.roundDone_frame {W : Nat → Prop} (s : State) (r : ℕ) (hw0 : ∀ i0, W (R.ZLP_LOOP i0)) : Frame [.free, .ring] W s (State.roundDone s r) := by
  unfold State.roundDone
  extract_lets x0 x1
  have hx1 : Frame [.free, .ring] W s x1 := by
    (with_reducible conv => arg 4; whnf)
    with_reducible refine Frame.step ?_ (State.putMeas_frame _ _ _) (by decide)
    exact Frame.refl ..
  with_reducible refine Frame.iteOf ?_ ?_
  with_reducible refine State.startStep_frame _ _ _ (by decide) ?_ ?_
  exact hx1
  intro u2 hu3
  with_reducible refine Frame.step ?_ (State.sendRound_frame _ _) (by decide)
  assumption
  with_reducible refine Frame.iteOf ?_ ?_
  with_reducible refine State.startStep_frame _ _ _ (by decide) ?_ ?_
  exact hx1
  intro u4 hu5
  with_reducible refine Frame.step ?_ (State.sendReports_frame _ ?_) (by decide)
  assumption
  exact fun _ => hw0 _
  exact hx1

theorem execDelayFrameReturn_frame {W : Nat → Prop} (port : Fin 6) (fr : RxFrame) (s : State) (hw0 : W (R.ZLP_P_RXCNT ↑port)) (hw1 : W (R.ZLP_P_STAT ↑port)) (hw2 : W (R.EVT_PEND (76 / 32))) (hw3 : W (R.EVT_LOST_CNT)) (hw4 : W (R.EVT_STAT)) (hw5 : W (R.ZLP_P_HCRCCNT ↑port)) (hw6 : W (R.ZLP_P_FCSCNT ↑port)) (hw7 : ∀ i0, W (R.ZLP_LOOP i0)) : Frame.out [.free, .evt, .ring] W s (execDelayFrameReturn port fr s) := by
  unfold execDelayFrameReturn
  extract_lets x0 x1 x2 x3 x4 x5 x6 x7 x8
  have hx3 : Frame [.free, .evt, .ring] W s x3 := by
    (with_reducible conv => arg 4; whnf)
    with_reducible refine Frame.whenDo ?_ ?_
    exact Frame.refl ..
    intro u9 hu10
    with_reducible refine Frame.step ?_ (State.rxCount_frame _ _ _ ?_ ?_ ?_ ?_ ?_ ?_ ?_) (by decide)
    assumption
    exact hw0; exact hw1; exact hw2; exact hw3; exact hw4; exact hw5; exact hw6
  have hx6 : Frame [.free, .evt, .ring] W s x6 := by
    (with_reducible conv => arg 4; whnf)
    with_reducible refine Frame.step ?_ (State.putMeas_frame _ _ _) (by decide)
    exact hx3
  have hx8 : Frame [.free, .evt, .ring] W s x8 := by
    (with_reducible conv => arg 4; whnf)
    ((with_reducible refine Frame.upd ?_ ?_); on_goal 2 => (intro p hp; cases p <;> first | exact (hp (by decide)).elim | (dsimp only [Part.same] <;> fail)))
    exact hx6
  split
  split
  split
  with_reducible refine Frame.out_next ?_
  with_reducible refine Frame.step ?_ (State.roundDone_frame _ _ ?_) (by decide)
  exact hx8
  exact fun _ => hw7 _
  with_reducible refine Frame.out_next ?_
  exact hx8
  with_reducible refine Frame.out_next ?_
  exact hx3
  split
  split
  with_reducible refine Frame.out_next ?_
  with_reducible refine Frame.step ?_ (State.roundDone_frame _ _ ?_) (by decide)
  exact hx8
  exact fun _ => hw7 _
  with_reducible refine Frame.out_next ?_
  exact hx8
  with_reducible refine Frame.out_next ?_
  exact hx3

theorem execMeasureTimeout_frame {W : Nat → Prop} (s : State) (hw0 : W (R.ZLP_SSTAT)) (hw1 : W (R.ZLP_BUDGET)) (hw2 : W (R.ZLP_FAULT)) (hw3 : W (R.ZLP_STAT)) (hw4 : W (R.EVT_PEND (64 / 32))) (hw5 : W (R.EVT_LOST_CNT)) (hw6 : W (R.EVT_STAT)) (hw7 : ∀ i0, W (R.ZLP_LOOP i0)) : Frame.out [.free, .evt, .hif, .ring] W s (execMeasureTimeout s) := by
  unfold execMeasureTimeout
  extract_lets x0 x1
  split
  split
  with_reducible refine Frame.out_next ?_
  with_reducible refine Frame.step ?_ (State.startRefuse_frame _ _ ?_ ?_ ?_ ?_ ?_ ?_ ?_) (by decide)
  exact Frame.refl ..
  exact hw0; exact hw1; exact hw2; exact hw3; exact hw4; exact hw5; exact hw6
  split
  with_reducible refine Frame.out_next ?_
  with_reducible refine Frame.step ?_ (State.startRefuse_frame _ _ ?_ ?_ ?_ ?_ ?_ ?_ ?_) (by decide)
  exact Frame.refl ..
  exact hw0; exact hw1; exact hw2; exact hw3; exact hw4; exact hw5; exact hw6
  extract_lets x2
  have hx2 : Frame [.free, .evt, .hif, .ring] W s x2 := by
    (with_reducible conv => arg 4; whnf)
    ((with_reducible refine Frame.upd ?_ ?_); on_goal 2 => (intro p hp; cases p <;> first | exact (hp (by decide)).elim | (dsimp only [Part.same] <;> fail)))
    exact Frame.refl ..
  with_reducible refine Frame.out_next ?_
  with_reducible refine Frame.iteOf ?_ ?_
  with_reducible refine State.startStep_frame _ _ _ (by decide) ?_ ?_
  exact hx2
  intro u3 hu4
  with_reducible refine Frame.step ?_ (State.sendReports_frame _ ?_) (by decide)
  assumption
  exact fun _ => hw7 _
  exact hx2
  with_reducible refine Frame.out_next ?_
  exact Frame.refl ..

theorem State.putStation_frame {W : Nat → Prop} (s : State) (r : ℕ) (x : StnRec) (hw0 : W (R.ZLP_STN_STAT (StnRec.stn x))) (hw1 : W (R.ZLP_STN_DA (StnRec.stn x))) (hw2 : W (R.ZLP_STN_DB (StnRec.stn x))) : Frame [] W s (State.putStation s r x) := by
  unfold State.putStation
  with_reducible refine Frame.iteOf ?_ ?_
  exact Frame.refl ..
  with_reducible refine Frame.setF ?_ ?_
  with_reducible refine Frame.setF ?_ ?_
  with_reducible refine Frame.setF ?_ ?_
  exact Frame.refl ..
  unfold stnPosFld
  split
  exact hw0; exact hw0
  unfold stnOnFld
  split
  exact hw0; exact hw0
  unfold stnDFld
  split
  exact hw1; exact hw2

theorem State.tableFromReport_frame {W : Nat → Prop} (s : State) (hw0 : ∀ i0, W (R.ZLP_STN_STAT i0)) (hw1 : ∀ i0, W (R.ZLP_STN_DA i0)) (hw2 : ∀ i0, W (R.ZLP_STN_DB i0)) : Frame [] W s (State.tableFromReport s) := by
  unfold State.tableFromReport
  extract_lets x0 x1
  have hx1 : Frame [] W s x1 := by
    (with_reducible conv => arg 4; whnf)
    with_reducible refine Frame.eachDo ?_ ?_
    exact Frame.refl ..
    intro u8 x9 hu10
    with_reducible refine Frame.iteOf ?_ ?_
    assumption
    with_reducible refine Frame.setF ?_ ?_
    with_reducible refine Frame.putReg ?_ ?_
    with_reducible refine Frame.putReg ?_ ?_
    with_reducible refine Frame.putReg ?_ ?_
    assumption
    exact hw0 _; exact hw1 _; exact hw2 _; exact hw0 _
  with_reducible refine Frame.eachDo ?_ ?_
  exact hx1
  intro u2 x3 hu4
  with_reducible refine Frame.eachDo ?_ ?_
  assumption
  intro u5 x6 hu7
  with_reducible refine Frame.iteOf ?_ ?_
  assumption
  with_reducible refine Frame.setF ?_ ?_
  with_reducible refine Frame.step ?_ (State.putStation_frame _ _ _ ?_ ?_ ?_) (by decide)
  assumption
  exact hw0 _; exact hw1 _; exact hw2 _; exact hw0 _

theorem State.showXloop_frame {W : Nat → Prop} (s : State) (ws : List CymEntry) (hw0 : W (R.ZLP_XLOOP)) (hw1 : W (R.ZLP_STAT)) : Frame [] W s (State.showXloop s ws) := by
  unfold State.showXloop
  extract_lets x0 x1
  with_reducible refine Frame.set1 ?_ ?_
  with_reducible refine Frame.setF ?_ ?_
  with_reducible refine Frame.setF ?_ ?_
  exact Frame.refl ..
  exact hw0; exact hw0; exact hw1

theorem State.xloopTest_frame {W : Nat → Prop} (s : State) (hw0 : W (R.ZLP_STAT)) (hw1 : W (R.EVT_PEND (75 / 32))) (hw2 : W (R.EVT_LOST_CNT)) (hw3 : W (R.EVT_STAT)) (hw4 : ∀ i0, W (R.AXT_W0 i0)) (hw5 : ∀ i0, W (R.AXT_W2 i0)) (hw6 : ∀ i0 i1, W (R.PIR_RES i0 i1)) : Frame [.evt, .dsp, .piers, .axes] W s (State.xloopTest s) := by
  unfold State.xloopTest
  with_reducible refine Frame.iteOf ?_ ?_
  extract_lets x0
  have hx0 : Frame [.evt, .dsp, .piers, .axes] W s x0 := by
    (with_reducible conv => arg 4; whnf)
    with_reducible refine Frame.step ?_ (State.raise_frame _ _ _ _ ?_ ?_ ?_) (by decide)
    with_reducible refine Frame.set1 ?_ ?_
    exact Frame.refl ..
    exact hw0; exact hw1; exact hw2; exact hw3
  with_reducible refine Frame.eachDo ?_ ?_
  exact hx0
  intro u1 x2 hu3
  with_reducible refine Frame.step ?_ (State.axisDisable_frame _ _ ?_ ?_ ?_) (by decide)
  assumption
  exact hw4 _; exact hw5 _; exact fun _ _ => hw6 _ _
  exact Frame.refl ..

theorem State.sendAssign_frame {W : Nat → Prop} (s : State) (hw0 : W (R.ZLP_SSTAT)) : Frame [.ring] W s (State.sendAssign s) := by
  unfold State.sendAssign
  extract_lets x0 x1 x2 x3 x4 x5
  have hx4 : Frame [.ring] W s x4 := by
    (with_reducible conv => arg 4; whnf)
    with_reducible refine Frame.setF ?_ ?_
    exact Frame.refl ..
    exact hw0
  ((with_reducible refine Frame.upd ?_ ?_); on_goal 2 => (intro p hp; cases p <;> first | exact (hp (by decide)).elim | (dsimp only [Part.same] <;> fail)))
  exact hx4

theorem State.startPass_frame {W : Nat → Prop} (s : State) (ws : List CymEntry) (hw0 : ∀ i0, W (R.DSP_DL i0)) (hw1 : W (R.ZLP_STAT)) (hw2 : W (R.EVT_PEND (75 / 32))) (hw3 : W (R.EVT_LOST_CNT)) (hw4 : W (R.EVT_STAT)) (hw5 : ∀ i0, W (R.AXT_W0 i0)) (hw6 : ∀ i0, W (R.AXT_W2 i0)) (hw7 : ∀ i0 i1, W (R.PIR_RES i0 i1)) (hw8 : W (R.ZLP_SSTAT)) (hw9 : W (R.ZLP_RSTAT)) : Frame [.free, .evt, .dsp, .piers, .axes, .ring] W s (State.startPass s ws) := by
  unfold State.startPass
  extract_lets x0 x1 x2 x3 x4 x5 x6 x7
  have hx1 : Frame [.free, .evt, .dsp, .piers, .axes, .ring] W s x1 := by
    (with_reducible conv => arg 4; whnf)
    with_reducible refine Frame.setF ?_ ?_
    with_reducible refine Frame.step ?_ (State.xloopTest_frame _ ?_ ?_ ?_ ?_ ?_ ?_ ?_) (by decide)
    with_reducible refine Frame.eachDo ?_ ?_
    exact Frame.refl ..
    intro u10 x11 hu12
    with_reducible refine Frame.step ?_ (State.showDeadline_frame _ _ _ ?_) (by decide)
    assumption
    exact hw0 _; exact hw1; exact hw2; exact hw3; exact hw4; exact fun _ => hw5 _; exact fun _ => hw6 _; exact fun _ _ => hw7 _ _; exact hw8
  have hx3 : Frame [.free, .evt, .dsp, .piers, .axes, .ring] W s x3 := by
    (with_reducible conv => arg 4; whnf)
    with_reducible refine Frame.setF ?_ ?_
    with_reducible refine Frame.setF ?_ ?_
    exact hx1
    exact hw9; exact hw9
  have hx5 : Frame [.free, .evt, .dsp, .piers, .axes, .ring] W s x5 := by
    (with_reducible conv => arg 4; whnf)
    with_reducible refine Frame.setB ?_ ?_
    exact hx3
    exact hw8
  have hx7 : Frame [.free, .evt, .dsp, .piers, .axes, .ring] W s x7 := by
    (with_reducible conv => arg 4; whnf)
    ((with_reducible refine Frame.upd ?_ ?_); on_goal 2 => (intro p hp; cases p <;> first | exact (hp (by decide)).elim | (dsimp only [Part.same] <;> fail)))
    exact hx5
  with_reducible refine State.startStep_frame _ _ _ (by decide) ?_ ?_
  exact hx7
  intro u8 hu9
  with_reducible refine Frame.step ?_ (State.sendAssign_frame _ ?_) (by decide)
  assumption
  exact hw8

theorem State.evaluateStart_frame {W : Nat → Prop} (s : State) (hw0 : ∀ i0, W (R.ZLP_STN_STAT i0)) (hw1 : ∀ i0, W (R.ZLP_STN_DA i0)) (hw2 : ∀ i0, W (R.ZLP_STN_DB i0)) (hw3 : W (R.ZLP_XLOOP)) (hw4 : W (R.ZLP_STAT)) (hw5 : W (R.ZLP_SSTAT)) (hw6 : W (R.ZLP_BUDGET)) (hw7 : W (R.ZLP_FAULT)) (hw8 : W (R.EVT_PEND (64 / 32))) (hw9 : W (R.EVT_LOST_CNT)) (hw10 : W (R.EVT_STAT)) (hw11 : ∀ i0, W (R.DSP_DL i0)) (hw12 : W (R.EVT_PEND (75 / 32))) (hw13 : ∀ i0, W (R.AXT_W0 i0)) (hw14 : ∀ i0, W (R.AXT_W2 i0)) (hw15 : ∀ i0 i1, W (R.PIR_RES i0 i1)) (hw16 : W (R.ZLP_RSTAT)) : Frame [.free, .evt, .dsp, .piers, .axes, .hif, .ring] W s (State.evaluateStart s) := by
  unfold State.evaluateStart
  extract_lets x0 x1 x2
  have hx0 : Frame [.free, .evt, .dsp, .piers, .axes, .hif, .ring] W s x0 := by
    (with_reducible conv => arg 4; whnf)
    with_reducible refine Frame.step ?_ (State.tableFromReport_frame _ ?_ ?_ ?_) (by decide)
    exact Frame.refl ..
    exact fun _ => hw0 _; exact fun _ => hw1 _; exact fun _ => hw2 _
  have hx2 : Frame [.free, .evt, .dsp, .piers, .axes, .hif, .ring] W s x2 := by
    (with_reducible conv => arg 4; whnf)
    with_reducible refine Frame.step ?_ (State.showXloop_frame _ _ ?_ ?_) (by decide)
    exact hx0
    exact hw3; exact hw4
  with_reducible refine Frame.iteOf ?_ ?_
  with_reducible refine Frame.step ?_ (State.startRefuse_frame _ _ ?_ ?_ ?_ ?_ ?_ ?_ ?_) (by decide)
  exact hx0
  exact hw5; exact hw6; exact hw7; exact hw4; exact hw8; exact hw9; exact hw10
  split
  with_reducible refine Frame.step ?_ (State.startRefuse_frame _ _ ?_ ?_ ?_ ?_ ?_ ?_ ?_) (by decide)
  exact hx2
  exact hw5; exact hw6; exact hw7; exact hw4; exact hw8; exact hw9; exact hw10
  with_reducible refine Frame.step ?_ (State.startPass_frame _ _ ?_ ?_ ?_ ?_ ?_ ?_ ?_ ?_ ?_ ?_) (by decide)
  exact hx2
  exact fun _ => hw11 _; exact hw4; exact hw12; exact hw9; exact hw10; exact fun _ => hw13 _; exact fun _ => hw14 _; exact fun _ _ => hw15 _ _; exact hw5; exact hw16

theorem execReportFrameReturn_frame {W : Nat → Prop} (port : Fin 6) (fr : RxFrame) (s : State) (hw0 : W (R.ZLP_P_RXCNT ↑port)) (hw1 : W (R.ZLP_P_STAT ↑port)) (hw2 : W (R.EVT_PEND (76 / 32))) (hw3 : W (R.EVT_LOST_CNT)) (hw4 : W (R.EVT_STAT)) (hw5 : W (R.ZLP_P_HCRCCNT ↑port)) (hw6 : W (R.ZLP_P_FCSCNT ↑port)) (hw7 : ∀ i0, W (R.ZLP_STN_STAT i0)) (hw8 : ∀ i0, W (R.ZLP_STN_DA i0)) (hw9 : ∀ i0, W (R.ZLP_STN_DB i0)) (hw10 : W (R.ZLP_XLOOP)) (hw11 : W (R.ZLP_STAT)) (hw12 : W (R.ZLP_SSTAT)) (hw13 : W (R.ZLP_BUDGET)) (hw14 : W (R.ZLP_FAULT)) (hw15 : W (R.EVT_PEND (64 / 32))) (hw16 : ∀ i0, W (R.DSP_DL i0)) (hw17 : W (R.EVT_PEND (75 / 32))) (hw18 : ∀ i0, W (R.AXT_W0 i0)) (hw19 : ∀ i0, W (R.AXT_W2 i0)) (hw20 : ∀ i0 i1, W (R.PIR_RES i0 i1)) (hw21 : W (R.ZLP_RSTAT)) : Frame.out [.free, .evt, .dsp, .piers, .axes, .hif, .ring] W s (execReportFrameReturn port fr s) := by
  unfold execReportFrameReturn
  extract_lets x0 x1 x2 x3 x4 x5
  have hx1 : Frame [.free, .evt, .dsp, .piers, .axes, .hif, .ring] W s x1 := by
    (with_reducible conv => arg 4; whnf)
    with_reducible refine Frame.whenDo ?_ ?_
    exact Frame.refl ..
    intro u6 hu7
    with_reducible refine Frame.step ?_ (State.rxCount_frame _ _ _ ?_ ?_ ?_ ?_ ?_ ?_ ?_) (by decide)
    assumption
    exact hw0; exact hw1; exact hw2; exact hw3; exact hw4; exact hw5; exact hw6
  have hx3 : Frame [.free, .evt, .dsp, .piers, .axes, .hif, .ring] W s x3 := by
    (with_reducible conv => arg 4; whnf)
    with_reducible refine Frame.step ?_ (State.putMeas_frame _ _ _) (by decide)
    exact hx1
  have hx5 : Frame [.free, .evt, .dsp, .piers, .axes, .hif, .ring] W s x5 := by
    (with_reducible conv => arg 4; whnf)
    ((with_reducible refine Frame.upd ?_ ?_); on_goal 2 => (intro p hp; cases p <;> first | exact (hp (by decide)).elim | (dsimp only [Part.same] <;> fail)))
    exact hx3
  split
  with_reducible refine Frame.out_next ?_
  with_reducible refine Frame.iteOf ?_ ?_
  with_reducible refine Frame.step ?_ (State.evaluateStart_frame _ ?_ ?_ ?_ ?_ ?_ ?_ ?_ ?_ ?_ ?_ ?_ ?_ ?_ ?_ ?_ ?_ ?_) (by decide)
  exact hx5
  exact fun _ => hw7 _; exact fun _ => hw8 _; exact fun _ => hw9 _; exact hw10; exact hw11; exact hw12; exact hw13; exact hw14; exact hw15; exact hw3; exact hw4; exact fun _ => hw16 _; exact hw17; exact fun _ => hw18 _; exact fun _ => hw19 _; exact fun _ _ => hw20 _ _; exact hw21
  exact hx5
  with_reducible refine Frame.out_next ?_
  exact hx1

theorem execAssignDone_frame {W : Nat → Prop} (s : State) (hw0 : W (R.ZLP_SSTAT)) (hw1 : W (R.ZLP_BUDGET)) : Frame.out [] W s (execAssignDone s) := by
  unfold execAssignDone
  split
  with_reducible refine Frame.out_next ?_
  with_reducible refine Frame.setF ?_ ?_
  with_reducible refine Frame.setF ?_ ?_
  exact Frame.refl ..
  exact hw0; exact hw1
  with_reducible refine Frame.out_next ?_
  exact Frame.refl ..

theorem execFirstSync_frame {W : Nat → Prop} (s : State) (hw0 : W (R.TWN_STAT)) (hw1 : W (R.DCK_STAT)) (hw2 : W (R.GLB_BOOT)) (hw3 : W (R.EVT_PEND (3 / 32))) (hw4 : W (R.EVT_LOST_CNT)) (hw5 : W (R.EVT_STAT)) (hw6 : W (R.HIF_CQ_PTR)) (hw7 : W (R.HIF_CQ_STAT)) (hw8 : W (R.HIF_CMD_CNT)) (hw9 : W (R.HIF_FIRST_REF)) (hw10 : W (R.HIF_REF_CNT)) (hw11 : W (R.EVT_PEND (224 / 32))) : Frame.out [.evt, .est, .deck, .deckMem, .hif, .window, .ring, .twn] W s (execFirstSync s) := by
  unfold execFirstSync
  split
  extract_lets x0 x1 x2 x3 x4
  have hx0 : Frame [.evt, .est, .deck, .deckMem, .hif, .window, .ring, .twn] W s x0 := by
    (with_reducible conv => arg 4; whnf)
    with_reducible refine Frame.whenDo ?_ ?_
    exact Frame.refl ..
    intro u5 hu6
    with_reducible refine Frame.set1 ?_ ?_
    assumption
    exact hw0
  have hx3 : Frame [.evt, .est, .deck, .deckMem, .hif, .window, .ring, .twn] W s x3 := by
    (with_reducible conv => arg 4; whnf)
    ((with_reducible refine Frame.upd ?_ ?_); on_goal 2 => (intro p hp; cases p <;> first | exact (hp (by decide)).elim | (dsimp only [Part.same] <;> fail)))
    exact hx0
  have hx4 : Frame [.evt, .est, .deck, .deckMem, .hif, .window, .ring, .twn] W s x4 := by
    (with_reducible conv => arg 4; whnf)
    with_reducible refine Frame.step ?_ (State.windowSend_frame _ _ _ ?_) (by decide)
    exact hx3
    exact hw1
  with_reducible refine Frame.out_next ?_
  with_reducible refine Frame.step ?_ (State.cqDue_frame _ ?_ ?_ ?_ ?_ ?_ ?_ ?_ ?_ ?_ ?_) (by decide)
  with_reducible refine Frame.step ?_ (State.endWaits_frame _ _ _ _ _ _) (by decide)
  exact hx4
  exact hw2; exact hw3; exact hw4; exact hw5; exact hw6; exact hw7; exact hw8; exact hw9; exact hw10; exact hw11
  with_reducible refine Frame.out_next ?_
  exact Frame.refl ..

theorem State.rerunTest_frame {W : Nat → Prop} (s : State) (r : ℕ) (hw0 : W (R.ZLP_RSTAT)) : Frame [.ring] W s (State.rerunTest s r) := by
  unfold State.rerunTest
  with_reducible refine Frame.iteOf ?_ ?_
  extract_lets x0 x1 x2 x3
  have hx2 : Frame [.ring] W s x2 := by
    (with_reducible conv => arg 4; whnf)
    ((with_reducible refine Frame.upd ?_ ?_); on_goal 2 => (intro p hp; cases p <;> first | exact (hp (by decide)).elim | (dsimp only [Part.same] <;> fail)))
    exact Frame.refl ..
  with_reducible refine Frame.setF ?_ ?_
  exact hx2
  (unfold x3; split)
  exact hw0; exact hw0
  exact Frame.refl ..

theorem State.lamUp_frame {W : Nat → Prop} (s : State) (r : ℕ) (lam : ℕ) (hw0 : W (R.ZLP_LOOP (2 * r + 1))) (hw1 : W (R.ZLP_RSTAT)) : Frame [.ring] W s (State.lamUp s r lam) := by
  unfold State.lamUp
  with_reducible refine Frame.step ?_ (State.rerunTest_frame _ _ ?_) (by decide)
  with_reducible refine Frame.setF ?_ ?_
  with_reducible refine Frame.step ?_ (State.putMeas_frame _ _ _) (by decide)
  exact Frame.refl ..
  exact hw0; exact hw1

theorem State.clearOn_frame {W : Nat → Prop} (s : State) (r : ℕ) (l : List StnRec) (hw0 : ∀ i0, W (R.ZLP_STN_STAT i0)) : Frame [] W s (State.clearOn s r l) := by
  unfold State.clearOn
  with_reducible refine Frame.eachDo ?_ ?_
  exact Frame.refl ..
  intro u0 x1 hu2
  with_reducible refine Frame.clr ?_ ?_
  assumption
  unfold stnOnFld
  split
  exact hw0 _; exact hw0 _

theorem State.stationStatus_frame {W : Nat → Prop} (s : State) (x : StnRec) (hw0 : W (R.ZLP_STN_STAT (StnRec.stn x))) (hw1 : W (R.ZLP_JOIN_CNT)) (hw2 : W (R.EVT_PEND (65 / 32))) (hw3 : W (R.EVT_LOST_CNT)) (hw4 : W (R.EVT_STAT)) (hw5 : W (R.ZLP_STN_CNT (StnRec.stn x))) (hw6 : W (R.ZLP_DRIFT_CNT)) (hw7 : W (R.EVT_PEND (68 / 32))) : Frame [.evt, .ring] W s (State.stationStatus s x) := by
  unfold State.stationStatus
  extract_lets x0 x1 x2 x3
  have hx1 : Frame [.evt, .ring] W s x1 := by
    (with_reducible conv => arg 4; whnf)
    with_reducible refine Frame.setF ?_ ?_
    exact Frame.refl ..
    exact hw0
  have hx3 : Frame [.evt, .ring] W s x3 := by
    (with_reducible conv => arg 4; whnf)
    ((with_reducible refine Frame.upd ?_ ?_); on_goal 2 => (intro p hp; cases p <;> first | exact (hp (by decide)).elim | (dsimp only [Part.same] <;> fail)))
    exact hx1
  with_reducible refine Frame.iteOf ?_ ?_
  with_reducible refine Frame.step ?_ (State.raise_frame _ _ _ _ ?_ ?_ ?_) (by decide)
  with_reducible refine Frame.incSat ?_ ?_
  exact hx3
  exact hw1; exact hw2; exact hw3; exact hw4
  with_reducible refine Frame.iteOf ?_ ?_
  with_reducible refine Frame.step ?_ (State.raise_frame _ _ _ _ ?_ ?_ ?_) (by decide)
  with_reducible refine Frame.incSat ?_ ?_
  with_reducible refine Frame.incSat ?_ ?_
  exact hx3
  exact hw5; exact hw6; exact hw7; exact hw3; exact hw4
  exact hx3

theorem State.joinRefuse_frame {W : Nat → Prop} (s : State) (n : ℕ) (hw0 : W (R.ZLP_JOIN_CNT)) (hw1 : W (R.EVT_PEND (66 / 32))) (hw2 : W (R.EVT_LOST_CNT)) (hw3 : W (R.EVT_STAT)) : Frame [.evt] W s (State.joinRefuse s n) := by
  unfold State.joinRefuse
  with_reducible refine Frame.step ?_ (State.raise_frame _ _ _ _ ?_ ?_ ?_) (by decide)
  with_reducible refine Frame.incSat ?_ ?_
  exact Frame.refl ..
  exact hw0; exact hw1; exact hw2; exact hw3

theorem State.joinTest_frame {W : Nat → Prop} (s : State) (n : ℕ) (hw0 : W (R.ZLP_STN_STAT n)) (hw1 : W (R.ZLP_SSTAT)) (hw2 : W (R.ZLP_JOIN_CNT)) (hw3 : W (R.EVT_PEND (66 / 32))) (hw4 : W (R.EVT_LOST_CNT)) (hw5 : W (R.EVT_STAT)) : Frame [.evt, .ring] W s (State.joinTest s n) := by
  unfold State.joinTest
  extract_lets x0 x1 x2 x3 x4 x5 x6 x7 x8
  have hx6 : Frame [.evt, .ring] W s x6 := by
    (with_reducible conv => arg 4; whnf)
    ((with_reducible refine Frame.upd ?_ ?_); on_goal 2 => (intro p hp; cases p <;> first | exact (hp (by decide)).elim | (dsimp only [Part.same] <;> fail)))
    exact Frame.refl ..
  have hx8 : Frame [.evt, .ring] W s x8 := by
    (with_reducible conv => arg 4; whnf)
    ((with_reducible refine Frame.upd ?_ ?_); on_goal 2 => (intro p hp; cases p <;> first | exact (hp (by decide)).elim | (dsimp only [Part.same] <;> fail)))
    exact hx6
  with_reducible refine Frame.iteOf ?_ ?_
  with_reducible refine Frame.setF ?_ ?_
  with_reducible refine Frame.setF ?_ ?_
  exact hx8
  exact hw0; exact hw1
  with_reducible refine Frame.step ?_ (State.joinRefuse_frame _ _ ?_ ?_ ?_ ?_) (by decide)
  exact Frame.refl ..
  exact hw2; exact hw3; exact hw4; exact hw5

theorem State.joinAll_frame {W : Nat → Prop} (s : State) (hw0 : W (R.ZLP_JOIN_CNT)) (hw1 : W (R.EVT_PEND (66 / 32))) (hw2 : W (R.EVT_LOST_CNT)) (hw3 : W (R.EVT_STAT)) (hw4 : ∀ i0, W (R.ZLP_STN_STAT i0)) (hw5 : W (R.ZLP_SSTAT)) : Frame [.evt, .ring] W s (State.joinAll s) := by
  unfold State.joinAll
  extract_lets x0 x1
  with_reducible refine Frame.eachDo ?_ ?_
  exact Frame.refl ..
  intro u2 x3 hu4
  with_reducible refine Frame.iteOf ?_ ?_
  with_reducible refine Frame.iteOf ?_ ?_
  with_reducible refine Frame.step ?_ (State.joinRefuse_frame _ _ ?_ ?_ ?_ ?_) (by decide)
  assumption
  exact hw0; exact hw1; exact hw2; exact hw3
  assumption
  with_reducible refine Frame.step ?_ (State.joinTest_frame _ _ ?_ ?_ ?_ ?_ ?_ ?_) (by decide)
  assumption
  exact hw4 _; exact hw5; exact hw0; exact hw1; exact hw2; exact hw3

theorem State.runRecords_frame {W : Nat → Prop} (s : State) (r : ℕ) (bc : Word) (recs : List StnRec) (hw0 : ∀ i0, W (R.ZLP_STN_STAT i0)) (hw1 : ∀ i0, W (R.ZLP_STN_DA i0)) (hw2 : ∀ i0, W (R.ZLP_STN_DB i0)) (hw3 : W (R.ZLP_JOIN_CNT)) (hw4 : W (R.EVT_PEND (65 / 32))) (hw5 : W (R.EVT_LOST_CNT)) (hw6 : W (R.EVT_STAT)) (hw7 : ∀ i0, W (R.ZLP_STN_CNT i0)) (hw8 : W (R.ZLP_DRIFT_CNT)) (hw9 : W (R.EVT_PEND (68 / 32))) (hw10 : W (R.EVT_PEND (66 / 32))) (hw11 : W (R.ZLP_SSTAT)) : Frame [.evt, .ring] W s (State.runRecords s r bc recs) := by
  unfold State.runRecords
  extract_lets x0 x1 x2 x3 x4 x5
  have hx2 : Frame [.evt, .ring] W s x2 := by
    (with_reducible conv => arg 4; whnf)
    ((with_reducible refine Frame.upd ?_ ?_); on_goal 2 => (intro p hp; cases p <;> first | exact (hp (by decide)).elim | (dsimp only [Part.same] <;> fail)))
    exact Frame.refl ..
  have hx4 : Frame [.evt, .ring] W s x4 := by
    (with_reducible conv => arg 4; whnf)
    with_reducible refine Frame.step ?_ (State.clearOn_frame _ _ _ ?_) (by decide)
    with_reducible refine Frame.eachDo ?_ ?_
    exact hx2
    intro u9 x10 hu11
    with_reducible refine Frame.step ?_ (State.putStation_frame _ _ _ ?_ ?_ ?_) (by decide)
    assumption
    exact hw0 _; exact hw1 _; exact hw2 _; exact fun _ => hw0 _
  have hx5 : Frame [.evt, .ring] W s x5 := by
    (with_reducible conv => arg 4; whnf)
    with_reducible refine Frame.eachDo ?_ ?_
    exact hx4
    intro u6 x7 hu8
    with_reducible refine Frame.iteOf ?_ ?_
    assumption
    with_reducible refine Frame.step ?_ (State.stationStatus_frame _ _ ?_ ?_ ?_ ?_ ?_ ?_ ?_ ?_) (by decide)
    assumption
    exact hw0 _; exact hw3; exact hw4; exact hw5; exact hw6; exact hw7 _; exact hw8; exact hw9
  with_reducible refine Frame.iteOf ?_ ?_
  with_reducible refine Frame.step ?_ (State.joinAll_frame _ ?_ ?_ ?_ ?_ ?_ ?_) (by decide)
  exact hx5
  exact hw3; exact hw10; exact hw5; exact hw6; exact fun _ => hw0 _; exact hw11
  exact hx5

theorem execRunFrameReturn_frame {W : Nat → Prop} (port : Fin 6) (fr : RxFrame) (s : State) (hw0 : W (R.ZLP_P_RXCNT ↑port)) (hw1 : W (R.ZLP_P_STAT ↑port)) (hw2 : W (R.EVT_PEND (76 / 32))) (hw3 : W (R.EVT_LOST_CNT)) (hw4 : W (R.EVT_STAT)) (hw5 : W (R.ZLP_P_HCRCCNT ↑port)) (hw6 : W (R.ZLP_P_FCSCNT ↑port)) (hw7 : ∀ i0, W (R.ZLP_STN_CNT i0)) (hw8 : W (R.EVT_PEND (69 / 32))) (hw9 : W (R.ZLP_WV_CNT)) (hw10 : W (R.ZLP_LOOP (2 * ringOfPort ↑port + 1))) (hw11 : W (R.ZLP_RSTAT)) (hw12 : ∀ i0, W (R.ZLP_STN_STAT i0)) (hw13 : ∀ i0, W (R.ZLP_STN_DA i0)) (hw14 : ∀ i0, W (R.ZLP_STN_DB i0)) (hw15 : W (R.ZLP_JOIN_CNT)) (hw16 : W (R.EVT_PEND (65 / 32))) (hw17 : W (R.ZLP_DRIFT_CNT)) (hw18 : W (R.EVT_PEND (68 / 32))) (hw19 : W (R.EVT_PEND (66 / 32))) (hw20 : W (R.ZLP_SSTAT)) : Frame.out [.evt, .ring, .twn] W s (execRunFrameReturn port fr s) := by
  unfold execRunFrameReturn
  split
  with_reducible refine Frame.out_next ?_
  refine Frame.fst (by assumption) ?_
  with_reducible refine Frame.step ?_ (State.rxFrame_frame _ _ _ _ ?_ ?_ ?_ ?_ ?_ ?_ ?_) (by decide)
  exact Frame.refl ..
  exact hw0; exact hw1; exact hw2; exact hw3; exact hw4; exact hw5; exact hw6
  extract_lets x0 x1
  split
  with_reducible refine Frame.out_next ?_
  refine Frame.fst (by assumption) ?_
  with_reducible refine Frame.step ?_ (State.rxFrame_frame _ _ _ _ ?_ ?_ ?_ ?_ ?_ ?_ ?_) (by decide)
  exact Frame.refl ..
  exact hw0; exact hw1; exact hw2; exact hw3; exact hw4; exact hw5; exact hw6
  split
  with_reducible refine Frame.out_next ?_
  with_reducible refine Frame.step ?_ (State.windowViolation_frame _ _ ?_ ?_ ?_ ?_ ?_) (by decide)
  refine Frame.fst (by assumption) ?_
  with_reducible refine Frame.step ?_ (State.rxFrame_frame _ _ _ _ ?_ ?_ ?_ ?_ ?_ ?_ ?_) (by decide)
  exact Frame.refl ..
  exact hw0; exact hw1; exact hw2; exact hw3; exact hw4; exact hw5; exact hw6; exact fun _ => hw7 _; exact hw8; exact hw3; exact hw4; exact hw9
  extract_lets x2
  have hx2 : Frame [.evt, .ring, .twn] W s x2 := by
    (with_reducible conv => arg 4; whnf)
    with_reducible refine Frame.iteOf ?_ ?_
    refine Frame.fst (by assumption) ?_
    with_reducible refine Frame.step ?_ (State.rxFrame_frame _ _ _ _ ?_ ?_ ?_ ?_ ?_ ?_ ?_) (by decide)
    exact Frame.refl ..
    exact hw0; exact hw1; exact hw2; exact hw3; exact hw4; exact hw5; exact hw6
    with_reducible refine Frame.step ?_ (State.lamUp_frame _ _ _ ?_ ?_) (by decide)
    refine Frame.fst (by assumption) ?_
    with_reducible refine Frame.step ?_ (State.rxFrame_frame _ _ _ _ ?_ ?_ ?_ ?_ ?_ ?_ ?_) (by decide)
    exact Frame.refl ..
    exact hw0; exact hw1; exact hw2; exact hw3; exact hw4; exact hw5; exact hw6; exact hw10; exact hw11
  split
  with_reducible refine Frame.out_next ?_
  with_reducible refine Frame.step ?_ (State.windowViolation_frame _ _ ?_ ?_ ?_ ?_ ?_) (by decide)
  exact hx2
  exact fun _ => hw7 _; exact hw8; exact hw3; exact hw4; exact hw9
  with_reducible refine Frame.out_next ?_
  with_reducible refine Frame.step ?_ (State.runRecords_frame _ _ _ _ ?_ ?_ ?_ ?_ ?_ ?_ ?_ ?_ ?_ ?_ ?_ ?_) (by decide)
  exact hx2
  exact fun _ => hw12 _; exact fun _ => hw13 _; exact fun _ => hw14 _; exact hw15; exact hw16; exact hw3; exact hw4; exact fun _ => hw7 _; exact hw17; exact hw18; exact hw19; exact hw20

theorem execStationRemoval_frame {W : Nat → Prop} (n : Fin 256) (s : State) (hw0 : W (R.ZLP_STN_STAT ↑n)) (hw1 : W (R.ZLP_SSTAT)) : Frame.out [.ring] W s (execStationRemoval n s) := by
  unfold execStationRemoval
  split
  split
  extract_lets x0 x1 x2 x3
  have hx2 : Frame [.ring] W s x2 := by
    (with_reducible conv => arg 4; whnf)
    ((with_reducible refine Frame.upd ?_ ?_); on_goal 2 => (intro p hp; cases p <;> first | exact (hp (by decide)).elim | (dsimp only [Part.same] <;> fail)))
    exact Frame.refl ..
  have hx3 : Frame [.ring] W s x3 := by
    (with_reducible conv => arg 4; whnf)
    with_reducible refine Frame.clr ?_ ?_
    with_reducible refine Frame.clr ?_ ?_
    with_reducible refine Frame.setF ?_ ?_
    exact hx2
    exact hw0; exact hw0; exact hw0
  with_reducible refine Frame.out_next ?_
  with_reducible refine Frame.setF ?_ ?_
  exact hx3
  exact hw1
  with_reducible refine Frame.out_next ?_
  exact Frame.refl ..
  with_reducible refine Frame.out_next ?_
  exact Frame.refl ..

theorem execTrunkStart_frame {W : Nat → Prop} (val : Word) (s : State) (hw0 : W (R.GLB_ACC_ERR)) (hw1 : W (R.ZLP_TCFG)) (hw2 : W (R.ZLP_TSTAT)) : Frame.out [.ring] W s (execTrunkStart val s) := by
  unfold execTrunkStart
  with_reducible refine Frame.out_next ?_
  with_reducible refine State.bar0Write_frame _ _ _ ?_ (by decide) ?_ ?_
  exact hw0
  exact Frame.refl ..
  intro u0 hu1
  with_reducible refine Frame.step ?_ (State.trunkWrite_frame _ _ ?_ ?_) (by decide)
  assumption
  exact hw1; exact hw2

theorem State.trunkRound_frame {W : Nat → Prop} (s : State) : Frame [.ring] W s (State.trunkRound s) := by
  unfold State.trunkRound
  extract_lets x0 x1 x2
  with_reducible refine Frame.step ?_ (State.trunkTx_frame _ _) (by decide)
  with_reducible refine Frame.step ?_ (State.putTrunk_frame _ _) (by decide)
  exact Frame.refl ..

theorem execTrunkMeasure_frame {W : Nat → Prop} (s : State) : Frame.out [.ring] W s (execTrunkMeasure s) := by
  unfold execTrunkMeasure
  extract_lets x0 x1 x2 x3
  have hx2 : Frame [.ring] W s x2 := by
    (with_reducible conv => arg 4; whnf)
    with_reducible refine Frame.step ?_ (State.putTrunk_frame _ _) (by decide)
    exact Frame.refl ..
  split
  with_reducible refine Frame.out_next ?_
  with_reducible refine Frame.step ?_ (State.trunkRound_frame _) (by decide)
  ((with_reducible refine Frame.upd ?_ ?_); on_goal 2 => (intro p hp; cases p <;> first | exact (hp (by decide)).elim | (dsimp only [Part.same] <;> fail)))
  exact hx2
  with_reducible refine Frame.out_next ?_
  exact Frame.refl ..

theorem State.trunkOffset_frame {W : Nat → Prop} (s : State) (port : ℕ) (p : List Byte) (sfd : ℕ) (hw0 : W (R.ZLP_TOFF)) : Frame [.free] W s (State.trunkOffset s port p sfd) := by
  unfold State.trunkOffset
  extract_lets x0 x1
  split
  with_reducible refine Frame.step ?_ (State.drewFree_frame _) (by decide)
  with_reducible refine Frame.putReg ?_ ?_
  exact Frame.refl ..
  exact hw0
  extract_lets x2 x3
  with_reducible refine Frame.putReg ?_ ?_
  exact Frame.refl ..
  exact hw0

theorem State.trunkAlive_frame {W : Nat → Prop} (s : State) (bc : Word) (hw0 : W (R.ZLP_TSTAT)) : Frame [.ring] W s (State.trunkAlive s bc) := by
  unfold State.trunkAlive
  with_reducible refine Frame.clr ?_ ?_
  with_reducible refine Frame.step ?_ (State.putTrunk_frame _ _) (by decide)
  exact Frame.refl ..
  exact hw0

theorem State.trunkSample_frame {W : Nat → Prop} (s : State) (p : List Byte) (sent : ℕ) (hw0 : W (R.ZLP_TDLV)) : Frame [.chn] W s (State.trunkSample s p sent) := by
  unfold State.trunkSample
  extract_lets x0 x1 x2 x3
  have hx3 : Frame [.chn] W s x3 := by
    (with_reducible conv => arg 4; whnf)
    ((with_reducible refine Frame.upd ?_ ?_); on_goal 2 => (intro p hp; cases p <;> first | exact (hp (by decide)).elim | (dsimp only [Part.same] <;> fail)))
    exact Frame.refl ..
  with_reducible refine Frame.iteOf ?_ ?_
  exact Frame.refl ..
  with_reducible refine Frame.setF ?_ ?_
  exact hx3
  exact hw0

theorem execTrunkFrameReceive_frame {W : Nat → Prop} (port : Fin 6) (fr : TrunkRx) (s : State) (hw0 : W (R.ZLP_P_RXCNT ↑port)) (hw1 : W (R.ZLP_P_STAT ↑port)) (hw2 : W (R.EVT_PEND (76 / 32))) (hw3 : W (R.EVT_LOST_CNT)) (hw4 : W (R.EVT_STAT)) (hw5 : W (R.ZLP_P_HCRCCNT ↑port)) (hw6 : W (R.ZLP_P_FCSCNT ↑port)) (hw7 : W (R.ZLP_TOFF)) (hw8 : W (R.ZLP_TSTAT)) (hw9 : W (R.ZLP_TDLV)) : Frame.out [.free, .evt, .chn, .ring, .twn] W s (execTrunkFrameReceive port fr s) := by
  unfold execTrunkFrameReceive
  extract_lets x0 x1 x2 x3 x4 x5 x6 x7 x8 x9 x10
  have hx0 : Frame [.free, .evt, .chn, .ring, .twn] W s x0 := by
    (with_reducible conv => arg 4; whnf)
    with_reducible refine Frame.step ?_ (State.rxCount_frame _ _ _ ?_ ?_ ?_ ?_ ?_ ?_ ?_) (by decide)
    exact Frame.refl ..
    exact hw0; exact hw1; exact hw2; exact hw3; exact hw4; exact hw5; exact hw6
  have hx6 : Frame [.free, .evt, .chn, .ring, .twn] W s x6 := by
    (with_reducible conv => arg 4; whnf)
    with_reducible refine Frame.step ?_ (State.epochSeen_frame _ _) (by decide)
    exact hx0
  have hx8 : Frame [.free, .evt, .chn, .ring, .twn] W s x8 := by
    (with_reducible conv => arg 4; whnf)
    ((with_reducible refine Frame.upd ?_ ?_); on_goal 2 => (intro p hp; cases p <;> first | exact (hp (by decide)).elim | (dsimp only [Part.same] <;> fail)))
    exact hx6
  have hx10 : Frame [.free, .evt, .chn, .ring, .twn] W s x10 := by
    (with_reducible conv => arg 4; whnf)
    with_reducible refine Frame.whenDo ?_ ?_
    exact hx8
    intro u11 hu12
    with_reducible refine Frame.step ?_ (State.trunkOffset_frame _ _ _ _ ?_) (by decide)
    assumption
    exact hw7
  split
  with_reducible refine Frame.out_next ?_
  exact Frame.refl ..
  split
  with_reducible refine Frame.out_next ?_
  exact hx0
  split
  with_reducible refine Frame.out_next ?_
  with_reducible refine Frame.step ?_ (State.trunkAlive_frame _ _ ?_) (by decide)
  exact hx10
  exact hw8
  split
  with_reducible refine Frame.out_next ?_
  with_reducible refine Frame.step ?_ (State.trunkSample_frame _ _ _ ?_) (by decide)
  exact hx8
  exact hw9
  with_reducible refine Frame.out_next ?_
  exact hx8

theorem execTrunkLost_frame {W : Nat → Prop} (s : State) (hw0 : W (R.ZLP_TSTAT)) (hw1 : W (R.EVT_PEND (74 / 32))) (hw2 : W (R.EVT_LOST_CNT)) (hw3 : W (R.EVT_STAT)) : Frame.out [.evt] W s (execTrunkLost s) := by
  unfold execTrunkLost
  split
  with_reducible refine Frame.out_next ?_
  with_reducible refine Frame.step ?_ (State.raise_frame _ _ _ _ ?_ ?_ ?_) (by decide)
  with_reducible refine Frame.set1 ?_ ?_
  exact Frame.refl ..
  exact hw0; exact hw1; exact hw2; exact hw3
  with_reducible refine Frame.out_next ?_
  exact Frame.refl ..

theorem State.kstStep_frame {W : Nat → Prop} (s : State) (st : ℕ) (hw0 : W (R.KST_STAT)) (hw1 : W (R.EVT_PEND (100 / 32))) (hw2 : W (R.EVT_LOST_CNT)) (hw3 : W (R.EVT_STAT)) : Frame [.evt] W s (State.kstStep s st) := by
  unfold State.kstStep
  with_reducible refine Frame.step ?_ (State.raise_frame _ _ _ _ ?_ ?_ ?_) (by decide)
  with_reducible refine Frame.setF ?_ ?_
  exact Frame.refl ..
  exact hw0; exact hw1; exact hw2; exact hw3

theorem State.kstRun_frame {W : Nat → Prop} (s : State) (m : Tab Byte) (fresh : Bool) (hw0 : W (R.KST_STAT)) : Frame [.kst, .kstImg] W s (State.kstRun s m fresh) := by
  unfold State.kstRun
  extract_lets x0 x1 x2 x3
  have hx1 : Frame [.kst, .kstImg] W s x1 := by
    (with_reducible conv => arg 4; whnf)
    with_reducible refine Frame.step ?_ (State.bothCores_frame _ _) (by decide)
    exact Frame.refl ..
  with_reducible refine Frame.setF ?_ ?_
  ((with_reducible refine Frame.step ?_ (State.putKst_keep2 _ _ ?_) (by decide)); on_goal 2 => first | with_reducible rfl | with_reducible exact ⟨rfl, rfl⟩ | (simp +zetaDelta <;> fail))
  exact hx1
  exact hw0

theorem State.kstAck_frame {W : Nat → Prop} (s : State) (hw0 : W (R.KST_PCV)) (hw1 : W (R.KST_STAT)) (hw2 : W (R.KST_FW_STAT)) (hw3 : W (R.EVT_PEND (100 / 32))) (hw4 : W (R.EVT_LOST_CNT)) (hw5 : W (R.EVT_STAT)) : Frame [.evt, .kst, .kstImg, .kstConf] W s (State.kstAck s) := by
  unfold State.kstAck
  extract_lets x0 x1 x2 x3 x4 x5 x6 x7
  have hx2 : Frame [.evt, .kst, .kstImg, .kstConf] W s x2 := by
    (with_reducible conv => arg 4; whnf)
    ((with_reducible refine Frame.step ?_ (State.putKst_keep _ _ ?_) (by decide)); on_goal 2 => first | with_reducible rfl | with_reducible exact ⟨rfl, rfl⟩ | (simp +zetaDelta <;> fail))
    exact Frame.refl ..
  have hx4 : Frame [.evt, .kst, .kstImg, .kstConf] W s x4 := by
    (with_reducible conv => arg 4; whnf)
    with_reducible refine Frame.clr ?_ ?_
    with_reducible refine Frame.clr ?_ ?_
    with_reducible refine Frame.putReg ?_ ?_
    exact Frame.refl ..
    exact hw0; exact hw1; exact hw1
  have hx6 : Frame [.evt, .kst, .kstImg, .kstConf] W s x6 := by
    (with_reducible conv => arg 4; whnf)
    with_reducible refine Frame.step ?_ (State.putKst_frame _ _) (by decide)
    exact hx4
  have hx7 : Frame [.evt, .kst, .kstImg, .kstConf] W s x7 := by
    (with_reducible conv => arg 4; whnf)
    with_reducible refine Frame.step ?_ (State.kstRun_frame _ _ _ ?_) (by decide)
    with_reducible refine Frame.setF ?_ ?_
    exact hx6
    exact hw2; exact hw1
  with_reducible refine Frame.iteOf ?_ ?_
  with_reducible refine Frame.step ?_ (State.kstStep_frame _ _ ?_ ?_ ?_ ?_) (by decide)
  exact hx2
  exact hw1; exact hw3; exact hw4; exact hw5
  with_reducible refine Frame.iteOf ?_ ?_
  with_reducible refine Frame.step ?_ (State.raise_frame _ _ _ _ ?_ ?_ ?_) (by decide)
  exact hx7
  exact hw3; exact hw4; exact hw5
  exact Frame.refl ..

theorem State.kstCross_frame {W : Nat → Prop} (s : State) (hw0 : W (R.KST_STAT)) (hw1 : W (R.KST_ZONE)) (hw2 : W (R.EVT_PEND (96 / 32))) (hw3 : W (R.EVT_LOST_CNT)) (hw4 : W (R.EVT_STAT)) (hw5 : W (R.PWM_FLT_STAT)) (hw6 : W (R.EVT_PEND (56 / 32))) (hw7 : W (R.KST_OUT)) (hw8 : W (R.EVT_PEND (98 / 32))) (hw9 : W (R.KST_XCMP_CNT)) : Frame [.free, .evt, .pwr, .ring, .kst] W s (State.kstCross s) := by
  unfold State.kstCross
  extract_lets x0 x1
  with_reducible refine Frame.iteOf ?_ ?_
  ((with_reducible refine Frame.step ?_ (State.putKst_keep _ _ ?_) (by decide)); on_goal 2 => first | with_reducible rfl | with_reducible exact ⟨rfl, rfl⟩ | (simp +zetaDelta <;> fail))
  exact Frame.refl ..
  with_reducible refine Frame.iteOf ?_ ?_
  with_reducible refine Frame.step ?_ (State.kstFault_frame _ _ ?_ ?_ ?_ ?_ ?_ ?_ ?_ ?_ ?_) (by decide)
  exact Frame.refl ..
  exact hw0; exact hw1; exact hw2; exact hw3; exact hw4; exact hw5; exact hw6; exact hw7; exact hw8
  ((with_reducible refine Frame.step ?_ (State.putKst_keep _ _ ?_) (by decide)); on_goal 2 => first | with_reducible rfl | with_reducible exact ⟨rfl, rfl⟩ | (simp +zetaDelta <;> fail))
  with_reducible refine Frame.incSat ?_ ?_
  exact Frame.refl ..
  exact hw9

theorem State.kstResets_frame {W : Nat → Prop} (s : State) (hw0 : W (R.KST_OUT)) : Frame [.kst] W s (State.kstResets s) := by
  unfold State.kstResets
  extract_lets x0 x1 x2 x3 x4 x5 x6
  have hx3 : Frame [.kst] W s x3 := by
    (with_reducible conv => arg 4; whnf)
    with_reducible refine Frame.setF ?_ ?_
    exact Frame.refl ..
    exact hw0
  have hx5 : Frame [.kst] W s x5 := by
    (with_reducible conv => arg 4; whnf)
    with_reducible refine Frame.step ?_ (State.bothCores_frame _ _) (by decide)
    exact hx3
  ((with_reducible refine Frame.step ?_ (State.putKst_keep _ _ ?_) (by decide)); on_goal 2 => first | with_reducible rfl | with_reducible exact ⟨rfl, rfl⟩ | (simp +zetaDelta <;> fail))
  exact hx5

theorem State.kstRateBad_frame {W : Nat → Prop} (s : State) (hw0 : W (R.KST_STAT)) : Frame [] W s (State.kstRateBad s) := by
  unfold State.kstRateBad
  extract_lets x0 x1
  with_reducible refine Frame.iteOf ?_ ?_
  with_reducible refine Frame.set1 ?_ ?_
  exact Frame.refl ..
  exact hw0
  with_reducible refine Frame.iteOf ?_ ?_
  exact Frame.refl ..
  with_reducible refine Frame.clr ?_ ?_
  exact Frame.refl ..
  exact hw0

theorem State.kstMirror_frame {W : Nat → Prop} (s : State) (hw0 : W (R.KST_IN)) (hw1 : W (R.KST_FUNC)) : Frame [] W s (State.kstMirror s) := by
  unfold State.kstMirror
  extract_lets x0 x1 x2 x3 x4 x5 x6
  have hx6 : Frame [] W s x6 := by
    (with_reducible conv => arg 4; whnf)
    with_reducible refine Frame.setF ?_ ?_
    with_reducible refine Frame.setF ?_ ?_
    exact Frame.refl ..
    exact hw0; exact hw0
  with_reducible refine Frame.iteOf ?_ ?_
  with_reducible refine Frame.setF ?_ ?_
  with_reducible refine Frame.setF ?_ ?_
  exact hx6
  exact hw1; exact hw1
  with_reducible refine Frame.setF ?_ ?_
  with_reducible refine Frame.setF ?_ ?_
  exact hx6
  exact hw1; exact hw1

theorem State.kstResults_frame {W : Nat → Prop} (s : State) (hw0 : W (R.KST_ZONE)) (hw1 : W (R.EVT_PEND (96 / 32))) (hw2 : W (R.EVT_LOST_CNT)) (hw3 : W (R.EVT_STAT)) (hw4 : W (R.KST_STAT)) (hw5 : W (R.PWM_FLT_STAT)) (hw6 : W (R.EVT_PEND (56 / 32))) (hw7 : W (R.KST_OUT)) (hw8 : W (R.EVT_PEND (97 / 32))) : Frame [.free, .evt, .pwr, .kst] W s (State.kstResults s) := by
  unfold State.kstResults
  extract_lets x0 x1 x2 x3 x4 x5 x6
  have hx2 : Frame [.free, .evt, .pwr, .kst] W s x2 := by
    (with_reducible conv => arg 4; whnf)
    with_reducible refine Frame.step ?_ (State.bothCores_frame _ _) (by decide)
    exact Frame.refl ..
  have hx4 : Frame [.free, .evt, .pwr, .kst] W s x4 := by
    (with_reducible conv => arg 4; whnf)
    with_reducible refine Frame.step ?_ (State.kstShow_frame _ _ _ ?_ ?_ ?_ ?_ ?_ ?_ ?_ ?_) (by decide)
    exact hx2
    exact hw0; exact hw1; exact hw2; exact hw3; exact hw4; exact hw5; exact hw6; exact hw7
  have hx5 : Frame [.free, .evt, .pwr, .kst] W s x5 := by
    (with_reducible conv => arg 4; whnf)
    with_reducible refine Frame.eachDo ?_ ?_
    exact hx4
    intro u7 x8 hu9
    with_reducible refine Frame.step ?_ (State.raise_frame _ _ _ _ ?_ ?_ ?_) (by decide)
    assumption
    exact hw8; exact hw2; exact hw3
  ((with_reducible refine Frame.step ?_ (State.putKst_keep _ _ ?_) (by decide)); on_goal 2 => first | with_reducible rfl | with_reducible exact ⟨rfl, rfl⟩ | (simp +zetaDelta <;> fail))
  exact hx5

theorem State.kstPublish_frame {W : Nat → Prop} (s : State) (hw0 : W (R.KST_STAT)) (hw1 : W (R.KST_ZONE)) (hw2 : W (R.EVT_PEND (96 / 32))) (hw3 : W (R.EVT_LOST_CNT)) (hw4 : W (R.EVT_STAT)) (hw5 : W (R.PWM_FLT_STAT)) (hw6 : W (R.EVT_PEND (56 / 32))) (hw7 : W (R.KST_OUT)) (hw8 : W (R.EVT_PEND (98 / 32))) (hw9 : W (R.KST_PCV)) (hw10 : W (R.KST_FW_STAT)) (hw11 : W (R.EVT_PEND (100 / 32))) (hw12 : W (R.KST_XCMP_CNT)) (hw13 : W (R.EVT_PEND (97 / 32))) (hw14 : W (R.KST_IN)) (hw15 : W (R.KST_FUNC)) : Frame [.free, .evt, .pwr, .ring, .kst, .kstImg, .kstConf] W s (State.kstPublish s) := by
  unfold State.kstPublish
  with_reducible refine Frame.iteOf ?_ ?_
  with_reducible refine Frame.step ?_ (State.kstFault_frame _ _ ?_ ?_ ?_ ?_ ?_ ?_ ?_ ?_ ?_) (by decide)
  ((with_reducible refine Frame.step ?_ (State.putKst_keep _ _ ?_) (by decide)); on_goal 2 => first | with_reducible rfl | with_reducible exact ⟨rfl, rfl⟩ | (simp +zetaDelta <;> fail))
  exact Frame.refl ..
  exact hw0; exact hw1; exact hw2; exact hw3; exact hw4; exact hw5; exact hw6; exact hw7; exact hw8
  extract_lets x0 x1 x2 x3 x4 x5
  have hx1 : Frame [.free, .evt, .pwr, .ring, .kst, .kstImg, .kstConf] W s x1 := by
    (with_reducible conv => arg 4; whnf)
    with_reducible refine Frame.whenDo ?_ ?_
    exact Frame.refl ..
    intro u12 hu13
    with_reducible refine Frame.step ?_ (State.kstAck_frame _ ?_ ?_ ?_ ?_ ?_ ?_) (by decide)
    assumption
    exact hw9; exact hw0; exact hw10; exact hw11; exact hw3; exact hw4
  have hx2 : Frame [.free, .evt, .pwr, .ring, .kst, .kstImg, .kstConf] W s x2 := by
    (with_reducible conv => arg 4; whnf)
    with_reducible refine Frame.step ?_ (State.bothCores_frame _ _) (by decide)
    exact hx1
  have hx3 : Frame [.free, .evt, .pwr, .ring, .kst, .kstImg, .kstConf] W s x3 := by
    (with_reducible conv => arg 4; whnf)
    with_reducible refine Frame.whenDo ?_ ?_
    exact hx2
    intro u10 hu11
    with_reducible refine Frame.step ?_ (State.kstCross_frame _ ?_ ?_ ?_ ?_ ?_ ?_ ?_ ?_ ?_ ?_) (by decide)
    assumption
    exact hw0; exact hw1; exact hw2; exact hw3; exact hw4; exact hw5; exact hw6; exact hw7; exact hw8; exact hw12
  have hx4 : Frame [.free, .evt, .pwr, .ring, .kst, .kstImg, .kstConf] W s x4 := by
    (with_reducible conv => arg 4; whnf)
    with_reducible refine Frame.whenDo ?_ ?_
    exact hx3
    intro u8 hu9
    with_reducible refine Frame.step ?_ (State.kstResets_frame _ ?_) (by decide)
    assumption
    exact hw7
  have hx5 : Frame [.free, .evt, .pwr, .ring, .kst, .kstImg, .kstConf] W s x5 := by
    (with_reducible conv => arg 4; whnf)
    with_reducible refine Frame.whenDo ?_ ?_
    exact hx4
    intro u6 hu7
    with_reducible refine Frame.step ?_ (State.kstRateBad_frame _ ?_) (by decide)
    assumption
    exact hw0
  with_reducible refine Frame.iteOf ?_ ?_
  exact hx3
  with_reducible refine Frame.step ?_ (State.kstMirror_frame _ ?_ ?_) (by decide)
  with_reducible refine Frame.iteOf ?_ ?_
  with_reducible refine Frame.step ?_ (State.kstResults_frame _ ?_ ?_ ?_ ?_ ?_ ?_ ?_ ?_ ?_) (by decide)
  exact hx5
  exact hw1; exact hw2; exact hw3; exact hw4; exact hw0; exact hw5; exact hw6; exact hw7; exact hw13
  with_reducible refine Frame.step ?_ (State.kstAllOff_frame _ ?_ ?_ ?_ ?_ ?_ ?_ ?_ ?_) (by decide)
  exact hx5
  exact hw1; exact hw2; exact hw3; exact hw4; exact hw0; exact hw5; exact hw6; exact hw7; exact hw14; exact hw15

theorem State.kstReadBack_frame {W : Nat → Prop} (s : State) (x : SafetySample) (hw0 : W (R.KST_OUT)) : Frame [.kst] W s (State.kstReadBack s x) := by
  unfold State.kstReadBack
  extract_lets x0 x1 x2 x3 x4 x5
  have hx4 : Frame [.kst] W s x4 := by
    (with_reducible conv => arg 4; whnf)
    with_reducible refine Frame.setF ?_ ?_
    exact Frame.refl ..
    exact hw0
  with_reducible refine Frame.iteOf ?_ ?_
  ((with_reducible refine Frame.step ?_ (State.putKst_keep _ _ ?_) (by decide)); on_goal 2 => first | with_reducible rfl | with_reducible exact ⟨rfl, rfl⟩ | (simp +zetaDelta <;> fail))
  exact hx4
  exact hx4

theorem State.kstPins_frame {W : Nat → Prop} (s : State) (x : SafetySample) (hw0 : W (R.KST_ACK_CNT)) (hw1 : W (R.KST_OUT)) (hw2 : W (R.KST_SUPPLY)) : Frame [.kst] W s (State.kstPins s x) := by
  unfold State.kstPins
  split
  split
  extract_lets x0 x1 x2 x3
  have hx1 : Frame [.kst] W s x1 := by
    (with_reducible conv => arg 4; whnf)
    ((with_reducible refine Frame.step ?_ (State.putKst_keep _ _ ?_) (by decide)); on_goal 2 => first | with_reducible rfl | with_reducible exact ⟨rfl, rfl⟩ | (simp +zetaDelta <;> fail))
    exact Frame.refl ..
  have hx2 : Frame [.kst] W s x2 := by
    (with_reducible conv => arg 4; whnf)
    with_reducible refine Frame.whenDo ?_ ?_
    exact hx1
    intro u4 hu5
    with_reducible refine Frame.incSat ?_ ?_
    assumption
    exact hw0
  have hx3 : Frame [.kst] W s x3 := by
    (with_reducible conv => arg 4; whnf)
    with_reducible refine Frame.setF ?_ ?_
    exact hx2
    exact hw1
  with_reducible refine Frame.setB ?_ ?_
  with_reducible refine Frame.setB ?_ ?_
  exact hx3
  exact hw2; exact hw2

theorem State.kstEvaluate_frame {W : Nat → Prop} (s : State) (x : SafetySample) (hw0 : W (R.KST_IFLT_CNT)) : Frame [.kst] W s (State.kstEvaluate s x) := by
  unfold State.kstEvaluate
  extract_lets x0 x1 x2 x3 x4 x5 x6 x7 x8 x9
  ((with_reducible refine Frame.step ?_ (State.putKst_keep _ _ ?_) (by decide)); on_goal 2 => first | with_reducible rfl | with_reducible exact ⟨rfl, rfl⟩ | (simp +zetaDelta <;> fail))
  with_reducible refine Frame.incSat ?_ ?_
  exact Frame.refl ..
  exact hw0

theorem execSafetyCycle_frame {W : Nat → Prop} (smp : SafetySample) (s : State) (hw0 : W (R.KST_OUT)) (hw1 : W (R.KST_STAT)) (hw2 : W (R.KST_ZONE)) (hw3 : W (R.EVT_PEND (96 / 32))) (hw4 : W (R.EVT_LOST_CNT)) (hw5 : W (R.EVT_STAT)) (hw6 : W (R.PWM_FLT_STAT)) (hw7 : W (R.EVT_PEND (56 / 32))) (hw8 : W (R.EVT_PEND (98 / 32))) (hw9 : W (R.KST_PCV)) (hw10 : W (R.KST_FW_STAT)) (hw11 : W (R.EVT_PEND (100 / 32))) (hw12 : W (R.KST_XCMP_CNT)) (hw13 : W (R.EVT_PEND (97 / 32))) (hw14 : W (R.KST_IN)) (hw15 : W (R.KST_FUNC)) (hw16 : W (R.KST_ACK_CNT)) (hw17 : W (R.KST_SUPPLY)) (hw18 : W (R.KST_IFLT_CNT)) : Frame.out [.free, .evt, .pwr, .ring, .kst, .kstImg, .kstConf] W s (execSafetyCycle smp s) := by
  unfold execSafetyCycle
  split
  extract_lets x0 x1 x2 x3 x4 x5
  have hx1 : Frame [.free, .evt, .pwr, .ring, .kst, .kstImg, .kstConf] W s x1 := by
    (with_reducible conv => arg 4; whnf)
    ((with_reducible refine Frame.step ?_ (State.putKst_keep _ _ ?_) (by decide)); on_goal 2 => first | with_reducible rfl | with_reducible exact ⟨rfl, rfl⟩ | (simp +zetaDelta <;> fail))
    exact Frame.refl ..
  have hx2 : Frame [.free, .evt, .pwr, .ring, .kst, .kstImg, .kstConf] W s x2 := by
    (with_reducible conv => arg 4; whnf)
    with_reducible refine Frame.step ?_ (State.kstPublish_frame _ ?_ ?_ ?_ ?_ ?_ ?_ ?_ ?_ ?_ ?_ ?_ ?_ ?_ ?_ ?_ ?_) (by decide)
    with_reducible refine Frame.step ?_ (State.kstReadBack_frame _ _ ?_) (by decide)
    exact hx1
    exact hw0; exact hw1; exact hw2; exact hw3; exact hw4; exact hw5; exact hw6; exact hw7; exact hw0; exact hw8; exact hw9; exact hw10; exact hw11; exact hw12; exact hw13; exact hw14; exact hw15
  have hx3 : Frame [.free, .evt, .pwr, .ring, .kst, .kstImg, .kstConf] W s x3 := by
    (with_reducible conv => arg 4; whnf)
    with_reducible refine Frame.step ?_ (State.kstPins_frame _ _ ?_ ?_ ?_) (by decide)
    exact hx2
    exact hw16; exact hw0; exact hw17
  have hx4 : Frame [.free, .evt, .pwr, .ring, .kst, .kstImg, .kstConf] W s x4 := by
    (with_reducible conv => arg 4; whnf)
    with_reducible refine Frame.whenDo ?_ ?_
    exact hx3
    intro u6 hu7
    with_reducible refine Frame.step ?_ (State.kstEvaluate_frame _ _ ?_) (by decide)
    assumption
    exact hw18
  split
  with_reducible refine Frame.out_next ?_
  exact hx1
  split
  with_reducible refine Frame.out_next ?_
  exact hx2
  with_reducible refine Frame.out_next ?_
  ((with_reducible refine Frame.step ?_ (State.putKst_keep _ _ ?_) (by decide)); on_goal 2 => first | with_reducible rfl | with_reducible exact ⟨rfl, rfl⟩ | (simp +zetaDelta <;> fail))
  exact hx4
  with_reducible refine Frame.out_next ?_
  exact Frame.refl ..

theorem execDiscrepancyTimeout_frame {W : Nat → Prop} (n : Fin 16) (s : State) (hw0 : W (R.KST_IFLT_CNT)) : Frame.out [.kst] W s (execDiscrepancyTimeout n s) := by
  unfold execDiscrepancyTimeout
  extract_lets x0 x1 x2 x3 x4
  have hx4 : Frame [.kst] W s x4 := by
    (with_reducible conv => arg 4; whnf)
    ((with_reducible refine Frame.step ?_ (State.putKst_keep _ _ ?_) (by decide)); on_goal 2 => first | with_reducible rfl | with_reducible exact ⟨rfl, rfl⟩ | (simp +zetaDelta <;> fail))
    exact Frame.refl ..
  split
  with_reducible refine Frame.out_next ?_
  with_reducible refine Frame.incSat ?_ ?_
  exact hx4
  exact hw0
  with_reducible refine Frame.out_next ?_
  exact Frame.refl ..

theorem execCat1TimerExpiry_frame {W : Nat → Prop} (f : Fin 16) (s : State) : Frame.out [.kst] W s (execCat1TimerExpiry f s) := by
  unfold execCat1TimerExpiry
  split
  with_reducible refine Frame.out_next ?_
  with_reducible refine Frame.step ?_ (State.bothCores_frame _ _) (by decide)
  exact Frame.refl ..
  with_reducible refine Frame.out_next ?_
  exact Frame.refl ..

theorem execUnlockDelayExpiry_frame {W : Nat → Prop} (f : Fin 16) (s : State) : Frame.out [.kst] W s (execUnlockDelayExpiry f s) := by
  unfold execUnlockDelayExpiry
  split
  extract_lets x0
  with_reducible refine Frame.out_next ?_
  with_reducible refine Frame.step ?_ (State.bothCores_frame _ _) (by decide)
  exact Frame.refl ..
  with_reducible refine Frame.out_next ?_
  exact Frame.refl ..

theorem execLockMonitorTimeout_frame {W : Nat → Prop} (f : Fin 16) (s : State) (hw0 : W (R.KST_IFLT_CNT)) : Frame.out [.kst] W s (execLockMonitorTimeout f s) := by
  unfold execLockMonitorTimeout
  extract_lets x0 x1 x2 x3 x4 x5 x6 x7
  have hx7 : Frame [.kst] W s x7 := by
    (with_reducible conv => arg 4; whnf)
    ((with_reducible refine Frame.step ?_ (State.putKst_keep _ _ ?_) (by decide)); on_goal 2 => first | with_reducible rfl | with_reducible exact ⟨rfl, rfl⟩ | (simp +zetaDelta <;> fail))
    exact Frame.refl ..
  split
  with_reducible refine Frame.out_next ?_
  with_reducible refine Frame.whenDo ?_ ?_
  exact hx7
  intro u8 hu9
  with_reducible refine Frame.incSat ?_ ?_
  assumption
  exact hw0
  with_reducible refine Frame.out_next ?_
  exact Frame.refl ..

theorem execSupplyMonitorFault_frame {W : Nat → Prop} (rail : Rail) (s : State) (hw0 : W (R.KST_SUPPLY)) (hw1 : W (R.KST_STAT)) (hw2 : W (R.KST_ZONE)) (hw3 : W (R.EVT_PEND (96 / 32))) (hw4 : W (R.EVT_LOST_CNT)) (hw5 : W (R.EVT_STAT)) (hw6 : W (R.PWM_FLT_STAT)) (hw7 : W (R.EVT_PEND (56 / 32))) (hw8 : W (R.KST_OUT)) (hw9 : W (R.EVT_PEND (98 / 32))) : Frame.out [.free, .evt, .pwr, .ring, .kst] W s (execSupplyMonitorFault rail s) := by
  unfold execSupplyMonitorFault
  split
  with_reducible refine Frame.out_next ?_
  with_reducible refine Frame.step ?_ (State.kstFault_frame _ _ ?_ ?_ ?_ ?_ ?_ ?_ ?_ ?_ ?_) (by decide)
  with_reducible refine Frame.clr ?_ ?_
  exact Frame.refl ..
  exact hw0; exact hw1; exact hw2; exact hw3; exact hw4; exact hw5; exact hw6; exact hw7; exact hw8; exact hw9
  with_reducible refine Frame.out_next ?_
  with_reducible refine Frame.step ?_ (State.kstFault_frame _ _ ?_ ?_ ?_ ?_ ?_ ?_ ?_ ?_ ?_) (by decide)
  with_reducible refine Frame.clr ?_ ?_
  exact Frame.refl ..
  exact hw0; exact hw1; exact hw2; exact hw3; exact hw4; exact hw5; exact hw6; exact hw7; exact hw8; exact hw9

theorem execKeystoneSelfTest_frame {W : Nat → Prop} (ok : Bool) (s : State) (hw0 : W (R.KST_STAT)) (hw1 : W (R.KST_ZONE)) (hw2 : W (R.EVT_PEND (96 / 32))) (hw3 : W (R.EVT_LOST_CNT)) (hw4 : W (R.EVT_STAT)) (hw5 : W (R.PWM_FLT_STAT)) (hw6 : W (R.EVT_PEND (56 / 32))) (hw7 : W (R.KST_OUT)) (hw8 : W (R.EVT_PEND (98 / 32))) : Frame.out [.free, .evt, .pwr, .ring, .kst] W s (execKeystoneSelfTest ok s) := by
  unfold execKeystoneSelfTest
  split
  extract_lets x0 x1
  have hx1 : Frame [.free, .evt, .pwr, .ring, .kst] W s x1 := by
    (with_reducible conv => arg 4; whnf)
    ((with_reducible refine Frame.step ?_ (State.putKst_keep _ _ ?_) (by decide)); on_goal 2 => first | with_reducible rfl | with_reducible exact ⟨rfl, rfl⟩ | (simp +zetaDelta <;> fail))
    exact Frame.refl ..
  with_reducible refine Frame.out_next ?_
  with_reducible refine Frame.iteOf ?_ ?_
  exact hx1
  with_reducible refine Frame.step ?_ (State.kstFault_frame _ _ ?_ ?_ ?_ ?_ ?_ ?_ ?_ ?_ ?_) (by decide)
  exact hx1
  exact hw0; exact hw1; exact hw2; exact hw3; exact hw4; exact hw5; exact hw6; exact hw7; exact hw8
  with_reducible refine Frame.out_next ?_
  exact Frame.refl ..

theorem State.putWatch_frame {W : Nat → Prop} (s : State) (n : ℕ) (x : StnWatch) : Frame [.kst] W s (State.putWatch s n x) := by
  unfold State.putWatch
  ((with_reducible refine Frame.step ?_ (State.putKst_keep _ _ ?_) (by decide)); on_goal 2 => first | with_reducible rfl | with_reducible exact ⟨rfl, rfl⟩ | (simp +zetaDelta <;> fail))
  exact Frame.refl ..

theorem State.noteCommand_frame {W : Nat → Prop} (s : State) (bc : Word) (n : ℕ) : Frame [.kst] W s (State.noteCommand s bc n) := by
  unfold State.noteCommand
  extract_lets x0
  with_reducible refine Frame.iteOf ?_ ?_
  with_reducible refine Frame.step ?_ (State.putWatch_frame _ _ _) (by decide)
  exact Frame.refl ..
  with_reducible refine Frame.step ?_ (State.putWatch_frame _ _ _) (by decide)
  exact Frame.refl ..

theorem execContainerBuild_frame {W : Nat → Prop} (s : State) : Frame.out [.ring, .kst] W s (execContainerBuild s) := by
  unfold execContainerBuild
  split
  with_reducible refine Frame.out_next ?_
  exact Frame.refl ..
  extract_lets x0 x1 x2 x3 x4 x5 x6
  have hx1 : Frame [.ring, .kst] W s x1 := by
    (with_reducible conv => arg 4; whnf)
    ((with_reducible refine Frame.step ?_ (State.putKst_keep _ _ ?_) (by decide)); on_goal 2 => first | with_reducible rfl | with_reducible exact ⟨rfl, rfl⟩ | (simp +zetaDelta <;> fail))
    exact Frame.refl ..
  have hx6 : Frame [.ring, .kst] W s x6 := by
    (with_reducible conv => arg 4; whnf)
    ((with_reducible refine Frame.upd ?_ ?_); on_goal 2 => (intro p hp; cases p <;> first | exact (hp (by decide)).elim | (dsimp only [Part.same] <;> fail)))
    exact hx1
  split
  with_reducible refine Frame.out_next ?_
  exact hx1
  with_reducible refine Frame.out_next ?_
  with_reducible refine Frame.eachDo ?_ ?_
  exact hx6
  intro u7 x8 hu9
  with_reducible refine Frame.step ?_ (State.noteCommand_frame _ _ _) (by decide)
  assumption

theorem State.setMap_frame {W : Nat → Prop} (s : State) (fld : ℕ → Fld) (n : ℕ) (v : Bool) (hw0 : W ((Fld.addr (fld (n / 32))))) : Frame [] W s (State.setMap s fld n v) := by
  unfold State.setMap
  extract_lets x0 x1
  with_reducible refine Frame.setF ?_ ?_
  exact Frame.refl ..
  exact hw0

theorem State.takeCopy_frame {W : Nat → Prop} (s : State) (x : SafeCopy) (hw0 : W (R.KST_UPS_CNT)) (hw1 : W (R.KST_STN_WDX (SafeCopy.stn x / 32))) : Frame [.kst] W s (State.takeCopy s x) := by
  unfold State.takeCopy
  with_reducible refine Frame.iteOf ?_ ?_
  with_reducible refine Frame.incSat ?_ ?_
  exact Frame.refl ..
  exact hw0
  extract_lets x0 x1 x2 x3 x4 x5
  with_reducible refine Frame.step ?_ (State.putWatch_frame _ _ _) (by decide)
  with_reducible refine Frame.step ?_ (State.setMap_frame _ _ _ _ ?_) (by decide)
  exact Frame.refl ..
  exact hw1

theorem State.feedbackTest_frame {W : Nat → Prop} (s : State) (n : ℕ) (hw0 : W (R.KST_STN_FB (n / 32))) (hw1 : W (R.EVT_PEND (99 / 32))) (hw2 : W (R.EVT_LOST_CNT)) (hw3 : W (R.EVT_STAT)) : Frame [.evt] W s (State.feedbackTest s n) := by
  unfold State.feedbackTest
  extract_lets x0 x1 x2 x3
  have hx3 : Frame [.evt] W s x3 := by
    (with_reducible conv => arg 4; whnf)
    with_reducible refine Frame.step ?_ (State.setMap_frame _ _ _ _ ?_) (by decide)
    exact Frame.refl ..
    exact hw0
  with_reducible refine Frame.iteOf ?_ ?_
  with_reducible refine Frame.step ?_ (State.raise_frame _ _ _ _ ?_ ?_ ?_) (by decide)
  exact hx3
  exact hw1; exact hw2; exact hw3
  exact hx3

theorem State.lostTest_frame {W : Nat → Prop} (s : State) (n : ℕ) (hw0 : W (R.KST_STN_LOST (n / 32))) (hw1 : W (R.EVT_PEND (99 / 32))) (hw2 : W (R.EVT_LOST_CNT)) (hw3 : W (R.EVT_STAT)) : Frame [.evt, .kst] W s (State.lostTest s n) := by
  unfold State.lostTest
  extract_lets x0 x1 x2 x3 x4
  have hx3 : Frame [.evt, .kst] W s x3 := by
    (with_reducible conv => arg 4; whnf)
    with_reducible refine Frame.step ?_ (State.setMap_frame _ _ _ _ ?_) (by decide)
    exact Frame.refl ..
    exact hw0
  have hx4 : Frame [.evt, .kst] W s x4 := by
    (with_reducible conv => arg 4; whnf)
    with_reducible refine Frame.step ?_ (State.raise_frame _ _ _ _ ?_ ?_ ?_) (by decide)
    exact hx3
    exact hw1; exact hw2; exact hw3
  with_reducible refine Frame.iteOf ?_ ?_
  with_reducible refine Frame.iteOf ?_ ?_
  with_reducible refine Frame.step ?_ (State.bothCores_frame _ _) (by decide)
  exact hx4
  exact hx4
  exact hx3

theorem State.unwatch_frame {W : Nat → Prop} (s : State) (n : ℕ) (hw0 : W (R.KST_STN_LOST (n / 32))) (hw1 : W (R.KST_STN_FB (n / 32))) (hw2 : W (R.KST_STN_WDX (n / 32))) : Frame [.kst] W s (State.unwatch s n) := by
  unfold State.unwatch
  extract_lets x0
  have hx0 : Frame [.kst] W s x0 := by
    (with_reducible conv => arg 4; whnf)
    with_reducible refine Frame.step ?_ (State.setMap_frame _ _ _ _ ?_) (by decide)
    with_reducible refine Frame.step ?_ (State.setMap_frame _ _ _ _ ?_) (by decide)
    with_reducible refine Frame.step ?_ (State.setMap_frame _ _ _ _ ?_) (by decide)
    exact Frame.refl ..
    exact hw0; exact hw1; exact hw2
  with_reducible refine Frame.step ?_ (State.putWatch_frame _ _ _) (by decide)
  exact hx0

theorem execUpstreamContainerCheck_frame {W : Nat → Prop} (s : State) (hw0 : W (R.KST_UPS_CNT)) (hw1 : ∀ i0, W (R.KST_STN_WDX i0)) (hw2 : ∀ i0, W (R.KST_STN_LOST i0)) (hw3 : W (R.EVT_PEND (99 / 32))) (hw4 : W (R.EVT_LOST_CNT)) (hw5 : W (R.EVT_STAT)) (hw6 : ∀ i0, W (R.KST_STN_FB i0)) : Frame.out [.evt, .ring, .kst] W s (execUpstreamContainerCheck s) := by
  unfold execUpstreamContainerCheck
  split
  with_reducible refine Frame.out_next ?_
  exact Frame.refl ..
  extract_lets x0 x1 x2 x3 x4 x5
  have hx2 : Frame [.evt, .ring, .kst] W s x2 := by
    (with_reducible conv => arg 4; whnf)
    ((with_reducible refine Frame.upd ?_ ?_); on_goal 2 => (intro p hp; cases p <;> first | exact (hp (by decide)).elim | (dsimp only [Part.same] <;> fail)))
    exact Frame.refl ..
  have hx3 : Frame [.evt, .ring, .kst] W s x3 := by
    (with_reducible conv => arg 4; whnf)
    with_reducible refine Frame.eachDo ?_ ?_
    exact hx2
    intro u15 x16 hu17
    with_reducible refine Frame.iteOf ?_ ?_
    with_reducible refine Frame.step ?_ (State.putWatch_frame _ _ _) (by decide)
    assumption
    assumption
  have hx4 : Frame [.evt, .ring, .kst] W s x4 := by
    (with_reducible conv => arg 4; whnf)
    with_reducible refine Frame.eachDo ?_ ?_
    exact hx3
    intro u12 x13 hu14
    with_reducible refine Frame.iteOf ?_ ?_
    with_reducible refine Frame.step ?_ (State.takeCopy_frame _ _ ?_ ?_) (by decide)
    assumption
    exact hw0; exact hw1 _
    assumption
  have hx5 : Frame [.evt, .ring, .kst] W s x5 := by
    (with_reducible conv => arg 4; whnf)
    with_reducible refine Frame.eachDo ?_ ?_
    exact hx4
    intro u9 x10 hu11
    with_reducible refine Frame.step ?_ (State.feedbackTest_frame _ _ ?_ ?_ ?_ ?_) (by decide)
    with_reducible refine Frame.step ?_ (State.lostTest_frame _ _ ?_ ?_ ?_ ?_) (by decide)
    assumption
    exact hw2 _; exact hw3; exact hw4; exact hw5; exact hw6 _; exact hw3; exact hw4; exact hw5
  with_reducible refine Frame.out_next ?_
  with_reducible refine Frame.eachDo ?_ ?_
  exact hx5
  intro u6 x7 hu8
  with_reducible refine Frame.step ?_ (State.unwatch_frame _ _ ?_ ?_ ?_) (by decide)
  assumption
  exact hw2 _; exact hw6 _; exact hw1 _

theorem State.takeRequest_frame {W : Nat → Prop} (s : State) (req : ℕ) : Frame.opt [.host] W s (State.takeRequest s req) := by
  unfold State.takeRequest
  split
  with_reducible exact Frame.opt_none
  split
  with_reducible refine Frame.opt_some ?_
  refine Frame.of_optSnd (by assumption) ?_
  with_reducible refine Frame.optSnd_comp ?_ (State.takeAccepted_frame _ _) (by decide)
  exact Frame.refl ..
  with_reducible exact Frame.opt_none

theorem execFalseworkEnter_frame {W : Nat → Prop} (s : State) (hw0 : W (R.KST_FW_STAT)) (hw1 : W (R.KST_STAT)) (hw2 : W (R.EVT_PEND (100 / 32))) (hw3 : W (R.EVT_LOST_CNT)) (hw4 : W (R.EVT_STAT)) : Frame.out [.host, .evt, .kst] W s (execFalseworkEnter s) := by
  unfold execFalseworkEnter
  split
  with_reducible refine Frame.out_next ?_
  exact Frame.refl ..
  split
  with_reducible refine Frame.out_next ?_
  refine Frame.of_opt (by assumption) ?_
  with_reducible refine Frame.opt_comp ?_ (State.takeRequest_frame _ _) (by decide)
  exact Frame.refl ..
  extract_lets x0 x1
  have hx1 : Frame [.host, .evt, .kst] W s x1 := by
    (with_reducible conv => arg 4; whnf)
    ((with_reducible refine Frame.step ?_ (State.putKst_keep _ _ ?_) (by decide)); on_goal 2 => first | with_reducible rfl | with_reducible exact ⟨rfl, rfl⟩ | (simp +zetaDelta <;> fail))
    refine Frame.of_opt (by assumption) ?_
    with_reducible refine Frame.opt_comp ?_ (State.takeRequest_frame _ _) (by decide)
    exact Frame.refl ..
  with_reducible refine Frame.out_next ?_
  with_reducible refine Frame.step ?_ (State.kstStep_frame _ _ ?_ ?_ ?_ ?_) (by decide)
  with_reducible refine Frame.setF ?_ ?_
  exact hx1
  exact hw0; exact hw1; exact hw2; exact hw3; exact hw4

theorem State.fillWindow_frame {W : Nat → Prop} (s : State) (m : Tab Byte) (hw0 : ∀ i0, W (R.KST_PWIN i0)) : Frame [] W s (State.fillWindow s m) := by
  unfold State.fillWindow
  with_reducible refine Frame.eachDo ?_ ?_
  exact Frame.refl ..
  intro u0 x1 hu2
  with_reducible refine Frame.putReg ?_ ?_
  assumption
  exact hw0 _

theorem State.kstAbort_frame {W : Nat → Prop} (s : State) (hw0 : ∀ i0, W (R.KST_PWIN i0)) (hw1 : W (R.KST_STAT)) (hw2 : W (R.EVT_PEND (100 / 32))) (hw3 : W (R.EVT_LOST_CNT)) (hw4 : W (R.EVT_STAT)) : Frame [.evt, .kst, .kstImg] W s (State.kstAbort s) := by
  unfold State.kstAbort
  with_reducible refine Frame.iteOf ?_ ?_
  extract_lets x0
  have hx0 : Frame [.evt, .kst, .kstImg] W s x0 := by
    (with_reducible conv => arg 4; whnf)
    with_reducible refine Frame.step ?_ (State.kstRun_frame _ _ _ ?_) (by decide)
    with_reducible refine Frame.step ?_ (State.fillWindow_frame _ _ ?_) (by decide)
    exact Frame.refl ..
    exact fun _ => hw0 _; exact hw1
  with_reducible refine Frame.step ?_ (State.raise_frame _ _ _ _ ?_ ?_ ?_) (by decide)
  exact hx0
  exact hw2; exact hw3; exact hw4
  with_reducible refine Frame.iteOf ?_ ?_
  exact Frame.refl ..
  with_reducible refine Frame.step ?_ (State.kstStep_frame _ _ ?_ ?_ ?_ ?_) (by decide)
  exact Frame.refl ..
  exact hw1; exact hw2; exact hw3; exact hw4

theorem execFalseworkAbort_frame {W : Nat → Prop} (s : State) (hw0 : ∀ i0, W (R.KST_PWIN i0)) (hw1 : W (R.KST_STAT)) (hw2 : W (R.EVT_PEND (100 / 32))) (hw3 : W (R.EVT_LOST_CNT)) (hw4 : W (R.EVT_STAT)) : Frame.out [.host, .evt, .kst, .kstImg] W s (execFalseworkAbort s) := by
  unfold execFalseworkAbort
  split
  with_reducible refine Frame.out_next ?_
  exact Frame.refl ..
  extract_lets x0
  split
  with_reducible refine Frame.out_next ?_
  refine Frame.of_opt (by assumption) ?_
  with_reducible refine Frame.opt_comp ?_ (State.takeRequest_frame _ _) (by decide)
  exact Frame.refl ..
  with_reducible refine Frame.out_next ?_
  with_reducible refine Frame.step ?_ (State.kstAbort_frame _ ?_ ?_ ?_ ?_ ?_) (by decide)
  with_reducible refine Frame.step ?_ (State.bothCores_frame _ _) (by decide)
  refine Frame.of_opt (by assumption) ?_
  with_reducible refine Frame.opt_comp ?_ (State.takeRequest_frame _ _) (by decide)
  exact Frame.refl ..
  exact fun _ => hw0 _; exact hw1; exact hw2; exact hw3; exact hw4

theorem execFalseworkValidate_frame {W : Nat → Prop} (s : State) (hw0 : W (R.KST_PCV_NEW)) (hw1 : W (R.KST_FW_STAT)) (hw2 : W (R.KST_STAT)) (hw3 : W (R.EVT_PEND (100 / 32))) (hw4 : W (R.EVT_LOST_CNT)) (hw5 : W (R.EVT_STAT)) : Frame.out [.host, .evt, .kst] W s (execFalseworkValidate s) := by
  unfold execFalseworkValidate
  split
  with_reducible refine Frame.out_next ?_
  exact Frame.refl ..
  extract_lets x0 x1 x2 x3 x4 x5
  have hx3 : Frame [.host, .evt, .kst] W s x3 := by
    (with_reducible conv => arg 4; whnf)
    with_reducible refine Frame.setF ?_ ?_
    with_reducible refine Frame.putReg ?_ ?_
    refine Frame.of_opt (by assumption) ?_
    with_reducible refine Frame.opt_comp ?_ (State.takeRequest_frame _ _) (by decide)
    exact Frame.refl ..
    exact hw0; exact hw1
  have hx5 : Frame [.host, .evt, .kst] W s x5 := by
    (with_reducible conv => arg 4; whnf)
    ((with_reducible refine Frame.step ?_ (State.putKst_keep _ _ ?_) (by decide)); on_goal 2 => first | with_reducible rfl | with_reducible exact ⟨rfl, rfl⟩ | (simp +zetaDelta <;> fail))
    exact hx3
  split
  with_reducible refine Frame.out_next ?_
  refine Frame.of_opt (by assumption) ?_
  with_reducible refine Frame.opt_comp ?_ (State.takeRequest_frame _ _) (by decide)
  exact Frame.refl ..
  split
  with_reducible refine Frame.out_next ?_
  with_reducible refine Frame.setF ?_ ?_
  refine Frame.of_opt (by assumption) ?_
  with_reducible refine Frame.opt_comp ?_ (State.takeRequest_frame _ _) (by decide)
  exact Frame.refl ..
  exact hw1
  with_reducible refine Frame.out_next ?_
  with_reducible refine Frame.step ?_ (State.kstStep_frame _ _ ?_ ?_ ?_ ?_) (by decide)
  exact hx5
  exact hw2; exact hw3; exact hw4; exact hw5

theorem execFalseworkTimeout_frame {W : Nat → Prop} (s : State) (hw0 : W (R.KST_FW_STAT)) (hw1 : ∀ i0, W (R.KST_PWIN i0)) (hw2 : W (R.KST_STAT)) (hw3 : W (R.EVT_PEND (100 / 32))) (hw4 : W (R.EVT_LOST_CNT)) (hw5 : W (R.EVT_STAT)) : Frame.out [.evt, .kst, .kstImg] W s (execFalseworkTimeout s) := by
  unfold execFalseworkTimeout
  extract_lets x0
  split
  with_reducible refine Frame.out_next ?_
  with_reducible refine Frame.step ?_ (State.kstAbort_frame _ ?_ ?_ ?_ ?_ ?_) (by decide)
  with_reducible refine Frame.setF ?_ ?_
  with_reducible refine Frame.step ?_ (State.bothCores_frame _ _) (by decide)
  exact Frame.refl ..
  exact hw0; exact fun _ => hw1 _; exact hw2; exact hw3; exact hw4; exact hw5
  with_reducible refine Frame.out_next ?_
  exact Frame.refl ..

theorem execKstPwinWrite_frame {W : Nat → Prop} (off : ℕ) (val : Word) (s : State) (hw0 : W (R.GLB_ACC_ERR)) (hw1 : W (R.KST_PWIN (off / 4))) (hw2 : W (R.KST_WIGN_CNT)) : Frame.out [.kst] W s (execKstPwinWrite off val s) := by
  unfold execKstPwinWrite
  split
  with_reducible refine Frame.out_next ?_
  with_reducible refine State.bar0Write_frame _ _ _ ?_ (by decide) ?_ ?_
  exact hw0
  exact Frame.refl ..
  intro u0 hu1
  with_reducible refine Frame.step ?_ (State.pwinWrite_frame _ _ _ ?_ ?_) (by decide)
  assumption
  exact hw1; exact hw2
  with_reducible refine Frame.out_next ?_
  exact Frame.refl ..

theorem execKeystoneBootValidate_frame {W : Nat → Prop} (s : State) (hw0 : W (R.KST_PCV)) (hw1 : W (R.KST_PCV_NEW)) (hw2 : W (R.KST_FW_STAT)) (hw3 : W (R.KST_STAT)) : Frame.out [.kst, .kstImg] W s (execKeystoneBootValidate s) := by
  unfold execKeystoneBootValidate
  split
  with_reducible refine Frame.out_next ?_
  exact Frame.refl ..
  extract_lets x0 x1 x2 x3
  have hx0 : Frame [.kst, .kstImg] W s x0 := by
    (with_reducible conv => arg 4; whnf)
    with_reducible refine Frame.putReg ?_ ?_
    exact Frame.refl ..
    exact hw0
  have hx3 : Frame [.kst, .kstImg] W s x3 := by
    (with_reducible conv => arg 4; whnf)
    with_reducible refine Frame.iteOf ?_ ?_
    exact hx0
    with_reducible refine Frame.iteOf ?_ ?_
    with_reducible refine Frame.putReg ?_ ?_
    exact hx0
    exact hw1
    with_reducible refine Frame.setF ?_ ?_
    exact hx0
    exact hw2
  split
  with_reducible refine Frame.out_next ?_
  with_reducible refine Frame.set1 ?_ ?_
  exact hx3
  exact hw3
  split
  with_reducible refine Frame.out_next ?_
  with_reducible refine Frame.step ?_ (State.kstRun_frame _ _ _ ?_) (by decide)
  exact hx3
  exact hw3
  with_reducible refine Frame.out_next ?_
  with_reducible refine Frame.set1 ?_ ?_
  exact hx3
  exact hw3

theorem State.takeCfg_frame {W : Nat → Prop} (s : State) : Frame [.cyc, .ring] W s (State.takeCfg s) := by
  unfold State.takeCfg
  extract_lets x0 x1
  have hx0 : Frame [.cyc, .ring] W s x0 := by
    (with_reducible conv => arg 4; whnf)
    with_reducible refine Frame.step ?_ (State.takeRate_frame _) (by decide)
    exact Frame.refl ..
  ((with_reducible refine Frame.upd ?_ ?_); on_goal 2 => (intro p hp; cases p <;> first | exact (hp (by decide)).elim | (dsimp only [Part.same] <;> fail)))
  exact hx0

theorem State.startRole_frame {W : Nat → Prop} (s : State) (hw0 : W (R.TWN_STAT)) (hw1 : W (R.TWN_EPOCH)) : Frame [.twn] W s (State.startRole s) := by
  unfold State.startRole
  with_reducible refine Frame.iteOf ?_ ?_
  extract_lets x0 x1 x2 x3 x4
  have hx4 : Frame [.twn] W s x4 := by
    (with_reducible conv => arg 4; whnf)
    ((with_reducible refine Frame.upd ?_ ?_); on_goal 2 => (intro p hp; cases p <;> first | exact (hp (by decide)).elim | (dsimp only [Part.same] <;> fail)))
    exact Frame.refl ..
  with_reducible refine Frame.setF ?_ ?_
  with_reducible refine Frame.setF ?_ ?_
  exact hx4
  exact hw0; exact hw1
  exact Frame.refl ..

theorem State.ringStart_frame {W : Nat → Prop} (s : State) (t : Option PktTag) (hw0 : W (R.ZLP_CYMGEN)) (hw1 : W (R.ZLP_FAULT)) (hw2 : W (R.ZLP_STAT)) (hw3 : W (R.ZLP_RSTAT)) (hw4 : W (R.ZLP_BRK)) (hw5 : W (R.ZLP_SSTAT)) (hw6 : W (R.TWN_STAT)) (hw7 : W (R.TWN_EPOCH)) (hw8 : W (R.ZLP_BUDGET)) (hw9 : W (R.EVT_PEND (64 / 32))) (hw10 : W (R.EVT_LOST_CNT)) (hw11 : W (R.EVT_STAT)) : Frame [.evt, .cyc, .hif, .ring, .twn] W s (State.ringStart s t) := by
  unfold State.ringStart
  with_reducible refine Frame.iteOf ?_ ?_
  with_reducible refine Frame.step ?_ (State.finishOpt_frame _ _ _ _ _ _) (by decide)
  exact Frame.refl ..
  with_reducible refine Frame.iteOf ?_ ?_
  with_reducible refine Frame.step ?_ (State.finishOpt_frame _ _ _ _ _ _) (by decide)
  exact Frame.refl ..
  extract_lets x0 x1 x2 x3 x4 x5
  have hx0 : Frame [.evt, .cyc, .hif, .ring, .twn] W s x0 := by
    (with_reducible conv => arg 4; whnf)
    with_reducible refine Frame.step ?_ (State.addWait_frame _ _ _) (by decide)
    exact Frame.refl ..
  have hx1 : Frame [.evt, .cyc, .hif, .ring, .twn] W s x1 := by
    (with_reducible conv => arg 4; whnf)
    with_reducible refine Frame.putReg ?_ ?_
    with_reducible refine Frame.incWrap ?_ ?_
    exact hx0
    exact hw0; exact hw1
  have hx2 : Frame [.evt, .cyc, .hif, .ring, .twn] W s x2 := by
    (with_reducible conv => arg 4; whnf)
    with_reducible refine Frame.clr ?_ ?_
    with_reducible refine Frame.putReg ?_ ?_
    with_reducible refine Frame.putReg ?_ ?_
    with_reducible refine Frame.clr ?_ ?_
    with_reducible refine Frame.clr ?_ ?_
    exact hx1
    exact hw2; exact hw2; exact hw3; exact hw4; exact hw5
  have hx3 : Frame [.evt, .cyc, .hif, .ring, .twn] W s x3 := by
    (with_reducible conv => arg 4; whnf)
    with_reducible refine Frame.step ?_ (State.takeCfg_frame _) (by decide)
    with_reducible refine Frame.setF ?_ ?_
    exact hx2
    exact hw5
  have hx4 : Frame [.evt, .cyc, .hif, .ring, .twn] W s x4 := by
    (with_reducible conv => arg 4; whnf)
    with_reducible refine Frame.step ?_ (State.startRole_frame _ ?_ ?_) (by decide)
    exact hx3
    exact hw6; exact hw7
  with_reducible refine Frame.iteOf ?_ ?_
  with_reducible refine Frame.step ?_ (State.startRefuse_frame _ _ ?_ ?_ ?_ ?_ ?_ ?_ ?_) (by decide)
  exact hx0
  exact hw5; exact hw8; exact hw1; exact hw2; exact hw9; exact hw10; exact hw11
  split
  with_reducible refine Frame.step ?_ (State.startRefuse_frame _ _ ?_ ?_ ?_ ?_ ?_ ?_ ?_) (by decide)
  exact hx3
  exact hw5; exact hw8; exact hw1; exact hw2; exact hw9; exact hw10; exact hw11
  ((with_reducible refine Frame.upd ?_ ?_); on_goal 2 => (intro p hp; cases p <;> first | exact (hp (by decide)).elim | (dsimp only [Part.same] <;> fail)))
  exact hx4

theorem State.ringHalt_frame {W : Nat → Prop} (s : State) (t : Option PktTag) : Frame [.hif, .ring] W s (State.ringHalt s t) := by
  unfold State.ringHalt
  with_reducible refine Frame.iteOf ?_ ?_
  extract_lets x0 x1
  have hx0 : Frame [.hif, .ring] W s x0 := by
    (with_reducible conv => arg 4; whnf)
    with_reducible refine Frame.step ?_ (State.addWait_frame _ _ _) (by decide)
    exact Frame.refl ..
  ((with_reducible refine Frame.upd ?_ ?_); on_goal 2 => (intro p hp; cases p <;> first | exact (hp (by decide)).elim | (dsimp only [Part.same] <;> fail)))
  exact hx0
  with_reducible refine Frame.step ?_ (State.finishOpt_frame _ _ _ _ _ _) (by decide)
  exact Frame.refl ..

theorem execRingHaltEffect_frame {W : Nat → Prop} (s : State) (hw0 : W (R.ZLP_SSTAT)) (hw1 : W (R.ZLP_BUDGET)) : Frame.out [.hif, .ring] W s (execRingHaltEffect s) := by
  unfold execRingHaltEffect
  split
  extract_lets x0 x1
  have hx0 : Frame [.hif, .ring] W s x0 := by
    (with_reducible conv => arg 4; whnf)
    with_reducible refine Frame.step ?_ (State.spanStop_frame _ ?_ ?_) (by decide)
    exact Frame.refl ..
    exact hw0; exact hw1
  have hx1 : Frame [.hif, .ring] W s x1 := by
    (with_reducible conv => arg 4; whnf)
    with_reducible refine Frame.step ?_ (State.endWaits_frame _ _ _ _ _ _) (by decide)
    exact hx0
  with_reducible refine Frame.out_next ?_
  with_reducible refine Frame.step ?_ (State.endWaits_frame _ _ _ _ _ _) (by decide)
  exact hx1
  with_reducible refine Frame.out_next ?_
  exact Frame.refl ..

theorem execDiscardedFrameReceive_frame {W : Nat → Prop} (port : Fin 6) (fr : RxFrame) (s : State) (hw0 : W (R.ZLP_P_RXCNT ↑port)) (hw1 : W (R.ZLP_P_STAT ↑port)) (hw2 : W (R.EVT_PEND (76 / 32))) (hw3 : W (R.EVT_LOST_CNT)) (hw4 : W (R.EVT_STAT)) (hw5 : W (R.ZLP_P_HCRCCNT ↑port)) (hw6 : W (R.ZLP_P_FCSCNT ↑port)) : Frame.out [.evt] W s (execDiscardedFrameReceive port fr s) := by
  unfold execDiscardedFrameReceive
  split
  with_reducible refine Frame.out_next ?_
  exact Frame.refl ..
  with_reducible refine Frame.out_next ?_
  with_reducible refine Frame.step ?_ (State.rxCount_frame _ _ _ ?_ ?_ ?_ ?_ ?_ ?_ ?_) (by decide)
  exact Frame.refl ..
  exact hw0; exact hw1; exact hw2; exact hw3; exact hw4; exact hw5; exact hw6

theorem State.trunkReport_frame {W : Nat → Prop} (s : State) : Frame [.ring] W s (State.trunkReport s) := by
  unfold State.trunkReport
  extract_lets x0 x1
  with_reducible refine Frame.step ?_ (State.trunkTx_frame _ _) (by decide)
  with_reducible refine Frame.step ?_ (State.putTrunk_frame _ _) (by decide)
  exact Frame.refl ..

theorem State.trunkMeasureReturn_frame {W : Nat → Prop} (s : State) (port : ℕ) (round : ℕ) (sfd : ℕ) : Frame [.ring] W s (State.trunkMeasureReturn s port round sfd) := by
  unfold State.trunkMeasureReturn
  extract_lets x0 x1 x2 x3 x4
  with_reducible refine Frame.iteOf ?_ ?_
  exact Frame.refl ..
  split
  extract_lets x5 x6
  have hx6 : Frame [.ring] W s x6 := by
    (with_reducible conv => arg 4; whnf)
    with_reducible refine Frame.step ?_ (State.putTrunk_frame _ _) (by decide)
    exact Frame.refl ..
  with_reducible refine Frame.iteOf ?_ ?_
  with_reducible refine Frame.step ?_ (State.trunkRound_frame _) (by decide)
  exact hx6
  with_reducible refine Frame.step ?_ (State.trunkReport_frame _) (by decide)
  exact hx6
  with_reducible refine Frame.step ?_ (State.putTrunk_frame _ _) (by decide)
  exact Frame.refl ..

theorem State.trunkReportReturn_frame {W : Nat → Prop} (s : State) (port : ℕ) (p : List Byte) (hw0 : W (R.ZLP_TSTAT)) : Frame [.ring] W s (State.trunkReportReturn s port p) := by
  unfold State.trunkReportReturn
  extract_lets x0 x1
  have hx1 : Frame [.ring] W s x1 := by
    (with_reducible conv => arg 4; whnf)
    with_reducible refine Frame.step ?_ (State.putTrunk_frame _ _) (by decide)
    exact Frame.refl ..
  with_reducible refine Frame.iteOf ?_ ?_
  exact Frame.refl ..
  with_reducible refine Frame.set1 ?_ ?_
  with_reducible refine Frame.setF ?_ ?_
  exact hx1
  exact hw0; exact hw0

theorem State.trunkDup_frame {W : Nat → Prop} (s : State) (hw0 : W (R.ZLP_TSTAT)) (hw1 : W (R.EVT_PEND (74 / 32))) (hw2 : W (R.EVT_LOST_CNT)) (hw3 : W (R.EVT_STAT)) : Frame [.evt, .ring] W s (State.trunkDup s) := by
  unfold State.trunkDup
  extract_lets x0 x1
  have hx1 : Frame [.evt, .ring] W s x1 := by
    (with_reducible conv => arg 4; whnf)
    with_reducible refine Frame.step ?_ (State.putTrunk_frame _ _) (by decide)
    exact Frame.refl ..
  with_reducible refine Frame.iteOf ?_ ?_
  exact hx1
  with_reducible refine Frame.step ?_ (State.raise_frame _ _ _ _ ?_ ?_ ?_) (by decide)
  with_reducible refine Frame.set1 ?_ ?_
  exact hx1
  exact hw0; exact hw1; exact hw2; exact hw3

theorem State.trunkStamp_frame {W : Nat → Prop} (s : State) (port : ℕ) (round : ℕ) (sfd : ℕ) : Frame [.ring] W s (State.trunkStamp s port round sfd) := by
  unfold State.trunkStamp
  extract_lets x0 x1 x2 x3
  with_reducible refine Frame.step ?_ (State.putTrunk_frame _ _) (by decide)
  exact Frame.refl ..

theorem State.trunkRecord_frame {W : Nat → Prop} (s : State) (p : List Byte) (hw0 : W (R.ZLP_TSTAT)) : Frame [.free, .ring] W s (State.trunkRecord s p).1 := by
  unfold State.trunkRecord
  extract_lets x0 x1 x2 x3 x4 x5 x6 x7
  have hx7 : Frame [.free, .ring] W s x7 := by
    (with_reducible conv => arg 4; whnf)
    with_reducible refine Frame.step ?_ (State.drewFree_frame _) (by decide)
    exact Frame.refl ..
  with_reducible refine Frame.iteFst ?_ ?_
  (with_reducible conv => arg 4; whnf)
  with_reducible refine Frame.step ?_ (State.drewFree_frame _) (by decide)
  exact Frame.refl ..
  (with_reducible conv => arg 4; whnf)
  with_reducible refine Frame.set1 ?_ ?_
  with_reducible refine Frame.step ?_ (State.putTrunk_frame _ _) (by decide)
  exact hx7
  exact hw0

theorem State.trunkAsStation_frame {W : Nat → Prop} (s : State) (port : ℕ) (fr : RxFrame) (h : ZlHeader) (hw0 : W (R.ZLP_TSTAT)) (hw1 : W (R.EVT_PEND (74 / 32))) (hw2 : W (R.EVT_LOST_CNT)) (hw3 : W (R.EVT_STAT)) : Frame [.free, .evt, .ring] W s (State.trunkAsStation s port fr h) := by
  unfold State.trunkAsStation
  extract_lets x0 x1 x2 x3 x4 x5 x6 x7
  have hx6 : Frame [.free, .evt, .ring] W s x6 := by
    (with_reducible conv => arg 4; whnf)
    with_reducible refine Frame.step ?_ (State.putTrunk_frame _ _) (by decide)
    exact Frame.refl ..
  have hx7 : Frame [.free, .evt, .ring] W s x7.1 := by
    unfold x7
    with_reducible refine Frame.step ?_ (State.trunkRecord_frame _ _ ?_) (by decide)
    exact hx6
    exact hw0
  with_reducible refine Frame.iteOf ?_ ?_
  with_reducible refine Frame.step ?_ (State.trunkTx_frame _ _) (by decide)
  with_reducible refine Frame.step ?_ (State.trunkDup_frame _ ?_ ?_ ?_ ?_) (by decide)
  exact Frame.refl ..
  exact hw0; exact hw1; exact hw2; exact hw3
  with_reducible refine Frame.iteOf ?_ ?_
  with_reducible refine Frame.step ?_ (State.trunkTx_frame _ _) (by decide)
  with_reducible refine Frame.step ?_ (State.trunkStamp_frame _ _ _ _) (by decide)
  exact hx6
  with_reducible refine Frame.iteOf ?_ ?_
  with_reducible refine Frame.step ?_ (State.trunkTx_frame _ _) (by decide)
  exact hx7
  with_reducible refine Frame.step ?_ (State.trunkTx_frame _ _) (by decide)
  exact hx6

theorem execTrunkDelayFrameReceive_frame {W : Nat → Prop} (port : Fin 6) (fr : RxFrame) (s : State) (hw0 : W (R.ZLP_P_RXCNT ↑port)) (hw1 : W (R.ZLP_P_STAT ↑port)) (hw2 : W (R.EVT_PEND (76 / 32))) (hw3 : W (R.EVT_LOST_CNT)) (hw4 : W (R.EVT_STAT)) (hw5 : W (R.ZLP_P_HCRCCNT ↑port)) (hw6 : W (R.ZLP_P_FCSCNT ↑port)) (hw7 : W (R.ZLP_TSTAT)) (hw8 : W (R.EVT_PEND (74 / 32))) : Frame.out [.free, .evt, .ring, .twn] W s (execTrunkDelayFrameReceive port fr s) := by
  unfold execTrunkDelayFrameReceive
  extract_lets x0 x1 x2 x3 x4 x5
  have hx0 : Frame [.free, .evt, .ring, .twn] W s x0 := by
    (with_reducible conv => arg 4; whnf)
    with_reducible refine Frame.step ?_ (State.rxCount_frame _ _ _ ?_ ?_ ?_ ?_ ?_ ?_ ?_) (by decide)
    exact Frame.refl ..
    exact hw0; exact hw1; exact hw2; exact hw3; exact hw4; exact hw5; exact hw6
  have hx2 : Frame [.free, .evt, .ring, .twn] W s x2 := by
    (with_reducible conv => arg 4; whnf)
    with_reducible refine Frame.step ?_ (State.epochSeen_frame _ _) (by decide)
    exact hx0
  have hx4 : Frame [.free, .evt, .ring, .twn] W s x4 := by
    (with_reducible conv => arg 4; whnf)
    ((with_reducible refine Frame.upd ?_ ?_); on_goal 2 => (intro p hp; cases p <;> first | exact (hp (by decide)).elim | (dsimp only [Part.same] <;> fail)))
    exact hx2
  split
  with_reducible refine Frame.out_next ?_
  exact Frame.refl ..
  split
  with_reducible refine Frame.out_next ?_
  exact hx0
  split
  with_reducible refine Frame.out_next ?_
  with_reducible refine Frame.iteOf ?_ ?_
  with_reducible refine Frame.step ?_ (State.trunkMeasureReturn_frame _ _ _ _) (by decide)
  exact hx4
  with_reducible refine Frame.iteOf ?_ ?_
  with_reducible refine Frame.step ?_ (State.trunkReportReturn_frame _ _ _ ?_) (by decide)
  exact hx4
  exact hw7
  exact hx4
  split
  with_reducible refine Frame.out_next ?_
  with_reducible refine Frame.step ?_ (State.trunkTx_frame _ _) (by decide)
  with_reducible refine Frame.step ?_ (State.trunkDup_frame _ ?_ ?_ ?_ ?_) (by decide)
  exact hx4
  exact hw7; exact hw8; exact hw3; exact hw4
  with_reducible refine Frame.out_next ?_
  with_reducible refine Frame.step ?_ (State.trunkAsStation_frame _ _ _ _ ?_ ?_ ?_ ?_) (by decide)
  exact hx4
  exact hw7; exact hw8; exact hw3; exact hw4

end Sys2Proof.Machine
end

