-- ==== Sys2Proof/Laws/FrameHost.lean ====
section
/-! SUPPORT. The frame of each operation and of each command of the twin, host accesses and the Tollgate queue: the parts and the registers it may change.
Each hypothesis says that the frame's set of registers holds one register that the operation writes. -/

set_option linter.all false
set_option maxRecDepth 4000

namespace Sys2Proof.Machine

theorem pirRegWrite_frame {W : Nat → Prop} (s : State) (a : ℕ) (v : Word) (hw0 : ∀ i0 i1, W (R.PIR_RES i0 i1)) (hw1 : ∀ i0, W (R.PIR_STAT i0)) (hw2 : ∀ i0, W (R.PIR_CTL i0)) (hw3 : ∀ i0, W (R.AXT_W2 i0)) (hw4 : ∀ i0, W (R.AXT_W0 i0)) (hw5 : W (R.AXT_STAT)) (hw6 : ∀ i0, W (R.AXT_FLT_MAP i0)) (hw7 : W (R.EVT_PEND (48 / 32))) (hw8 : W (R.EVT_LOST_CNT)) (hw9 : W (R.EVT_STAT)) (hw10 : W (R.NVS_QFILL)) : Frame.opt [.evt, .dsp, .piers, .axes, .nvs] W s (pirRegWrite s a v) := by
  unfold pirRegWrite
  split
  with_reducible exact Frame.opt_none
  extract_lets x0 x1
  have hx0 : Frame [.evt, .dsp, .piers, .axes, .nvs] W s x0 := by
    (with_reducible conv => arg 4; whnf)
    with_reducible refine Frame.whenDo ?_ ?_
    exact Frame.refl ..
    intro u6 hu7
    with_reducible refine Frame.step ?_ (State.pirOnline_frame _ _ ?_ ?_) (by decide)
    assumption
    exact fun _ => hw0 _ _; exact hw1 _
  have hx1 : Frame [.evt, .dsp, .piers, .axes, .nvs] W s x1 := by
    (with_reducible conv => arg 4; whnf)
    with_reducible refine Frame.whenDo ?_ ?_
    exact hx0
    intro u4 hu5
    with_reducible refine Frame.step ?_ (State.pirOffline_frame _ _ ?_ ?_ ?_ ?_ ?_ ?_ ?_ ?_ ?_ ?_) (by decide)
    assumption
    exact hw1 _; exact hw2 _; exact fun _ _ => hw0 _ _; exact fun _ => hw3 _; exact fun _ => hw4 _; exact hw5; exact fun _ => hw6 _; exact hw7; exact hw8; exact hw9
  with_reducible refine Frame.opt_some ?_
  with_reducible refine Frame.whenDo ?_ ?_
  exact hx1
  intro u2 hu3
  with_reducible refine Frame.step ?_ (State.pirReload_frame _ _ ?_ ?_ ?_) (by decide)
  assumption
  exact hw1 _; exact hw2 _; exact hw10

theorem State.putTwn_frame {W : Nat → Prop} (s : State) (t : Twin) : Frame [.twn] W s (State.putTwn s t) := by
  unfold State.putTwn
  ((with_reducible refine Frame.upd ?_ ?_); on_goal 2 => (intro p hp; cases p <;> first | exact (hp (by decide)).elim | (dsimp only [Part.same] <;> fail)))
  exact Frame.refl ..

theorem State.pairFail_frame {W : Nat → Prop} (s : State) (join : Bool) (item : ℕ) (hw0 : W (R.TWN_STAT)) (hw1 : W (R.TWN_CTL)) : Frame [.hif, .twn] W s (State.pairFail s join item) := by
  unfold State.pairFail
  extract_lets x0 x1 x2
  have hx1 : Frame [.hif, .twn] W s x1 := by
    (with_reducible conv => arg 4; whnf)
    with_reducible refine Frame.set1 ?_ ?_
    with_reducible refine Frame.setF ?_ ?_
    with_reducible refine Frame.step ?_ (State.putTwn_frame _ _) (by decide)
    exact Frame.refl ..
    exact hw0; exact hw0
  have hx2 : Frame [.hif, .twn] W s x2 := by
    (with_reducible conv => arg 4; whnf)
    with_reducible refine Frame.clr ?_ ?_
    exact hx1
    split
    exact hw1; exact hw1
  with_reducible refine Frame.step ?_ (State.endWaits_frame _ _ _ _ _ _) (by decide)
  exact hx2

theorem State.twinPair_frame {W : Nat → Prop} (s : State) (join : Bool) (t : Option PktTag) (hw0 : W (R.TWN_CTL)) (hw1 : W (R.TWN_STAT)) : Frame [.hif, .twn] W s (State.twinPair s join t) := by
  unfold State.twinPair
  split
  with_reducible refine Frame.iteOf ?_ ?_
  extract_lets x0 x1 x2
  have hx0 : Frame [.hif, .twn] W s x0 := by
    (with_reducible conv => arg 4; whnf)
    with_reducible refine Frame.step ?_ (State.addWait_frame _ _ _) (by decide)
    with_reducible refine Frame.set1 ?_ ?_
    exact Frame.refl ..
    split
    exact hw0; exact hw0
  have hx2 : Frame [.hif, .twn] W s x2 := by
    (with_reducible conv => arg 4; whnf)
    with_reducible refine Frame.step ?_ (State.putTwn_frame _ _) (by decide)
    exact hx0
  split
  with_reducible refine Frame.step ?_ (State.pairFail_frame _ _ _ ?_ ?_) (by decide)
  exact hx2
  exact hw1; exact hw0
  exact hx2
  with_reducible refine Frame.step ?_ (State.finishOpt_frame _ _ _ _ _ _) (by decide)
  with_reducible refine Frame.set1 ?_ ?_
  with_reducible refine Frame.setF ?_ ?_
  exact Frame.refl ..
  exact hw1; exact hw1
  with_reducible refine Frame.step ?_ (State.finishOpt_frame _ _ _ _ _ _) (by decide)
  with_reducible refine Frame.set1 ?_ ?_
  with_reducible refine Frame.setF ?_ ?_
  exact Frame.refl ..
  exact hw1; exact hw1

theorem State.twinYield_frame {W : Nat → Prop} (s : State) (t : Option PktTag) (hw0 : W (R.TWN_EPOCH)) (hw1 : W (R.TWN_CTL)) (hw2 : W (R.TWN_STAT)) : Frame [.hif, .twn] W s (State.twinYield s t) := by
  unfold State.twinYield
  with_reducible refine Frame.iteOf ?_ ?_
  extract_lets x0 x1
  have hx0 : Frame [.hif, .twn] W s x0 := by
    (with_reducible conv => arg 4; whnf)
    with_reducible refine Frame.set1 ?_ ?_
    with_reducible refine Frame.setF ?_ ?_
    exact Frame.refl ..
    exact hw0; exact hw1
  with_reducible refine Frame.step ?_ (State.addWait_frame _ _ _) (by decide)
  with_reducible refine Frame.step ?_ (State.putTwn_frame _ _) (by decide)
  exact hx0
  with_reducible refine Frame.step ?_ (State.finishOpt_frame _ _ _ _ _ _) (by decide)
  with_reducible refine Frame.set1 ?_ ?_
  exact Frame.refl ..
  exact hw2

theorem twnRegWrite_frame {W : Nat → Prop} (s : State) (a : ℕ) (v : Word) (hw0 : W (R.TWN_CTL)) (hw1 : W (R.TWN_STAT)) (hw2 : W (R.TWN_EPOCH)) (hw3 : W (a)) (hw4 : W (R.TWN_MIS_FIRST)) : Frame.opt [.hif, .twn] W s (twnRegWrite s a v) := by
  unfold twnRegWrite
  split
  extract_lets x0 x1 x2
  have hx1 : Frame [.hif, .twn] W s x1 := by
    (with_reducible conv => arg 4; whnf)
    with_reducible refine Frame.whenDo ?_ ?_
    exact Frame.refl ..
    intro u7 hu8
    with_reducible refine Frame.step ?_ (State.twinPair_frame _ _ _ ?_ ?_) (by decide)
    assumption
    exact hw0; exact hw1
  have hx2 : Frame [.hif, .twn] W s x2 := by
    (with_reducible conv => arg 4; whnf)
    with_reducible refine Frame.whenDo ?_ ?_
    exact hx1
    intro u5 hu6
    with_reducible refine Frame.step ?_ (State.twinPair_frame _ _ _ ?_ ?_) (by decide)
    assumption
    exact hw0; exact hw1
  with_reducible refine Frame.opt_some ?_
  with_reducible refine Frame.whenDo ?_ ?_
  exact hx2
  intro u3 hu4
  with_reducible refine Frame.step ?_ (State.twinYield_frame _ _ ?_ ?_ ?_) (by decide)
  assumption
  exact hw2; exact hw0; exact hw1
  split
  extract_lets x9
  have hx9 : Frame [.hif, .twn] W s x9 := by
    (with_reducible conv => arg 4; whnf)
    with_reducible refine Frame.step ?_ (State.plainWrite_frame _ _ _ ?_) (by decide)
    exact Frame.refl ..
    exact hw3
  with_reducible refine Frame.opt_some ?_
  with_reducible refine Frame.whenDo ?_ ?_
  exact hx9
  intro u10 hu11
  with_reducible refine Frame.clr ?_ ?_
  assumption
  exact hw4
  with_reducible exact Frame.opt_none

theorem State.regWrite_frame {W : Nat → Prop} (s : State) (a : ℕ) (v : Word) (hw0 : W (R.GLB_MBX_REQ)) (hw1 : W (R.GLB_MBX_STAT)) (hw2 : ∀ i0, W (R.GLB_MBX_D i0)) (hw3 : W (R.ACQ_STAT)) (hw4 : W (R.ACQ_BSIZE)) (hw5 : W (R.ACQ_BLK)) (hw6 : W (R.ACQ_CTL)) (hw7 : W (R.ACQ_FIFO)) (hw8 : W (R.EVT_PEND (81 / 32))) (hw9 : W (R.EVT_LOST_CNT)) (hw10 : W (R.EVT_STAT)) (hw11 : W (a)) (hw12 : W (R.ACQ_CH_SRC ((a - R.ACQ_CH_SRC 0) / 4))) (hw13 : W (R.DDR_CTL)) (hw14 : W (R.DDR_UE_ADDR)) (hw15 : ∀ i0, W (R.TRG_CFG i0)) (hw16 : W (R.TRG_STAT)) (hw17 : ∀ i0, W (R.CHN_CAP_CFG i0)) (hw18 : ∀ i0, W (R.ACQ_RM_STAT i0)) (hw19 : W (R.CHN_CAP_FILL)) (hw20 : W (R.CHN_STAT)) (hw21 : W (R.EVT_PEND (21 / 32))) (hw22 : W (R.CHN_INC_HI)) (hw23 : W (R.CHN_INC_LO)) (hw24 : W (R.EVT_PEND (16 / 32))) (hw25 : W (R.CHN_SRC)) (hw26 : W (R.CHN_CFG)) (hw27 : W (R.CHN_PLAN)) (hw28 : W (R.EST_OVFL_CNT)) (hw29 : W (R.EST_STAT)) (hw30 : W (R.EVT_PEND (20 / 32))) (hw31 : W (R.EST_SKIP_CNT)) (hw32 : W (R.EST_IDX)) (hw33 : ∀ i0, W (R.EST_W i0)) (hw34 : W (R.EST_PIN_POL)) (hw35 : W (R.EST_FIRST_LATE)) (hw36 : W (R.DSP_BG_OVR)) (hw37 : W (R.DSP_STAT)) (hw38 : W (R.EVT_PEND (26 / 32))) (hw39 : W (R.DSP_BG_PEND)) (hw40 : W (R.DSP_CWIN)) (hw41 : W (R.DSP_FLOW ((a - R.DSP_FLOW 0) / 4))) (hw42 : ∀ i0 i1, W (R.PIR_RES i0 i1)) (hw43 : ∀ i0, W (R.AXT_W2 i0)) (hw44 : W (R.DSP_OVR_FIRST)) (hw45 : ∀ i0, W (R.PIR_STAT i0)) (hw46 : ∀ i0, W (R.PIR_CTL i0)) (hw47 : ∀ i0, W (R.AXT_W0 i0)) (hw48 : W (R.AXT_STAT)) (hw49 : ∀ i0, W (R.AXT_FLT_MAP i0)) (hw50 : W (R.EVT_PEND (48 / 32))) (hw51 : W (R.NVS_QFILL)) (hw52 : W (R.DSP_DL ((a - 327680) / 16))) (hw53 : W (R.DCK_UE_ADDR)) (hw54 : W (R.DCK_CAM_BAD)) (hw55 : W (R.PWM_FLT_STAT)) (hw56 : W (R.PWM_FLT_FIRST)) (hw57 : W (R.PWM_FLT_CNT)) (hw58 : W (R.EVT_PEND (56 / 32))) (hw59 : W (R.PWM_CFG ((a - 1048576) / 64))) (hw60 : W (R.PWM_STAT ((a - 1048576) / 64))) (hw61 : W (R.PWM_PER ((a - 1048576) / 64))) (hw62 : ∀ i0, W (R.PWM_CMP ((a - 1048576) / 64) i0)) (hw63 : W (R.CLN_CFG ((a - 1114112) / 256))) (hw64 : W (R.CLN_STAT ((a - 1114112) / 256))) (hw65 : W (R.EVT_PEND (57 / 32))) (hw66 : W (R.STP_TIM ((a - 1179648) / 64))) (hw67 : W (R.STP_CFG ((a - 1179648) / 64))) (hw68 : W (R.STP_POS ((a - 1179648) / 64))) (hw69 : W (R.STP_STAT ((a - 1179648) / 64))) (hw70 : W (R.ENC_CFG ((a - 1245184) / 64))) (hw71 : W (R.ENC_STAT ((a - 1245184) / 64))) (hw72 : W (R.SDM_CLK ((a - 1310720) / 4))) (hw73 : W (R.SDM_CFG ((a - 1310976) / 16))) (hw74 : W (R.ZLP_GUARD)) (hw75 : W (R.CYM_STAT)) (hw76 : ∀ i0, W (R.ZLP_P_STAT i0)) (hw77 : W (R.ZLP_RSTAT)) (hw78 : W (R.ZLP_BRK)) (hw79 : W (R.ZLP_BRK_CNT)) (hw80 : W (R.EVT_PEND (70 / 32))) (hw81 : W (R.ZLP_TCFG)) (hw82 : W (R.ZLP_TSTAT)) (hw83 : W (R.KST_PWIN ((a - 2101248) / 4))) (hw84 : W (R.KST_WIGN_CNT)) (hw85 : W (R.TWN_CTL)) (hw86 : W (R.TWN_STAT)) (hw87 : W (R.TWN_EPOCH)) (hw88 : W (R.TWN_MIS_FIRST)) (hw89 : W (R.EVT_HEAD)) (hw90 : W (R.BBX_CTL)) (hw91 : W (R.BBX_COUNT)) (hw92 : W (R.BBX_SEQ)) (hw93 : W (R.BBX_STAT)) (hw94 : W (R.EVT_PEND (130 / 32))) (hw95 : W (R.BBX_TILES)) (hw96 : W (R.BBX_DISC_CNT)) : Frame [.free, .nt, .inc, .host, .evt, .cyc, .chn, .est, .cap, .dsp, .piers, .axes, .deck, .pwr, .hif, .ring, .twn, .kst, .acq, .ddr, .nvs] W s (State.regWrite s a v) := by
  refine State.regWriteOf ?_ ?_
  intro g hg
  simp only [regWriteRules, List.mem_cons, List.not_mem_nil, or_false] at hg
  rcases hg with rfl | rfl | rfl | rfl | rfl | rfl | rfl | rfl | rfl | rfl | rfl | rfl | rfl | rfl | rfl | rfl | rfl | rfl | rfl
  with_reducible refine Frame.opt_comp ?_ (glbRegWrite_frame _ _ _ ?_ ?_ ?_) (by decide)
  exact Frame.refl ..
  exact hw0; exact hw1; exact fun _ => hw2 _
  with_reducible refine Frame.opt_comp ?_ (acqRegWrite_frame _ _ _ ?_ ?_ ?_ ?_ ?_ ?_ ?_ ?_ ?_ ?_ ?_ ?_ ?_ ?_ ?_ ?_ ?_ ?_ ?_) (by decide)
  exact Frame.refl ..
  exact hw3; exact hw4; exact hw5; exact hw6; exact hw7; exact hw8; exact hw9; exact hw10; exact hw11; exact hw12; exact hw13; exact hw14; exact fun _ => hw15 _; exact hw16; exact fun _ => hw17 _; exact fun _ => hw18 _; exact hw19; exact hw20; exact hw21
  with_reducible refine Frame.opt_comp ?_ (chnRegWrite_frame _ _ _ ?_ ?_ ?_ ?_ ?_ ?_ ?_ ?_ ?_ ?_) (by decide)
  exact Frame.refl ..
  exact hw22; exact hw23; exact hw20; exact hw24; exact hw9; exact hw10; exact hw25; exact hw26; exact hw11; exact hw27
  with_reducible refine Frame.opt_comp ?_ (estRegWrite_frame _ _ _ ?_ ?_ ?_ ?_ ?_ ?_ ?_ ?_ ?_ ?_ ?_) (by decide)
  exact Frame.refl ..
  exact hw28; exact hw29; exact hw30; exact hw9; exact hw10; exact hw31; exact hw32; exact fun _ => hw33 _; exact hw34; exact hw11; exact hw35
  with_reducible refine Frame.opt_comp ?_ (dspRegWrite_frame _ _ _ ?_ ?_ ?_ ?_ ?_ ?_ ?_ ?_ ?_ ?_ ?_ ?_) (by decide)
  exact Frame.refl ..
  exact hw36; exact hw37; exact hw38; exact hw9; exact hw10; exact hw39; exact hw40; exact hw41; exact fun _ _ => hw42 _ _; exact fun _ => hw43 _; exact hw11; exact hw44
  with_reducible refine Frame.opt_comp ?_ (pirRegWrite_frame _ _ _ ?_ ?_ ?_ ?_ ?_ ?_ ?_ ?_ ?_ ?_ ?_) (by decide)
  exact Frame.refl ..
  exact fun _ _ => hw42 _ _; exact fun _ => hw45 _; exact fun _ => hw46 _; exact fun _ => hw43 _; exact fun _ => hw47 _; exact hw48; exact fun _ => hw49 _; exact hw50; exact hw9; exact hw10; exact hw51
  with_reducible refine Frame.opt_comp ?_ (axtRegWrite_frame _ _ _ ?_ ?_ ?_ ?_ ?_ ?_) (by decide)
  exact Frame.refl ..
  exact hw48; exact hw47 _; exact fun _ _ => hw42 _ _; exact hw43 _; exact hw52; exact hw11
  with_reducible refine Frame.opt_comp ?_ (dckRegWrite_frame _ _ _ ?_ ?_ ?_) (by decide)
  exact Frame.refl ..
  exact hw11; exact hw53; exact hw54
  with_reducible refine Frame.opt_comp ?_ (pwmRegWrite_frame _ _ _ ?_ ?_ ?_ ?_ ?_ ?_ ?_ ?_ ?_ ?_ ?_) (by decide)
  exact Frame.refl ..
  exact hw55; exact hw11; exact hw56; exact hw57; exact hw58; exact hw9; exact hw10; exact hw59; exact hw60; exact hw61; exact fun _ => hw62 _
  with_reducible refine Frame.opt_comp ?_ (clnRegWrite_frame _ _ _ ?_ ?_ ?_ ?_ ?_ ?_) (by decide)
  exact Frame.refl ..
  exact hw63; exact hw64; exact hw65; exact hw9; exact hw10; exact hw11
  with_reducible refine Frame.opt_comp ?_ (stpRegWrite_frame _ _ _ ?_ ?_ ?_ ?_ ?_) (by decide)
  exact Frame.refl ..
  exact hw11; exact hw66; exact hw67; exact hw68; exact hw69
  with_reducible refine Frame.opt_comp ?_ (encRegWrite_frame _ _ _ ?_ ?_) (by decide)
  exact Frame.refl ..
  exact hw70; exact hw71
  with_reducible refine Frame.opt_comp ?_ (sdmRegWrite_frame _ _ _ ?_ ?_) (by decide)
  exact Frame.refl ..
  exact hw72; exact hw73
  with_reducible refine Frame.opt_comp ?_ (zlpRegWrite_frame _ _ _ ?_ ?_ ?_ ?_ ?_ ?_ ?_ ?_ ?_ ?_) (by decide)
  exact Frame.refl ..
  exact hw11; exact hw74; exact hw75; exact fun _ => hw76 _; exact hw77; exact hw78; exact hw79; exact hw80; exact hw9; exact hw10
  with_reducible refine Frame.opt_comp ?_ (trunkRegWrite_frame _ _ _ ?_ ?_) (by decide)
  exact Frame.refl ..
  exact hw81; exact hw82
  with_reducible refine Frame.opt_comp ?_ (kstRegWrite_frame _ _ _ ?_ ?_) (by decide)
  exact Frame.refl ..
  exact hw83; exact hw84
  with_reducible refine Frame.opt_comp ?_ (twnRegWrite_frame _ _ _ ?_ ?_ ?_ ?_ ?_) (by decide)
  exact Frame.refl ..
  exact hw85; exact hw86; exact hw87; exact hw11; exact hw88
  with_reducible refine Frame.opt_comp ?_ (evtRegWrite_frame _ _ _ ?_) (by decide)
  exact Frame.refl ..
  exact hw89
  with_reducible refine Frame.opt_comp ?_ (nvsRegWrite_frame _ _ _ ?_ ?_ ?_ ?_ ?_ ?_ ?_ ?_ ?_ ?_ ?_) (by decide)
  exact Frame.refl ..
  exact hw11; exact hw90; exact hw91; exact hw92; exact hw93; exact hw94; exact hw9; exact hw10; exact hw95; exact hw51; exact hw96
  with_reducible refine Frame.step ?_ (State.plainWrite_frame _ _ _ ?_) (by decide)
  exact Frame.refl ..
  exact hw11

theorem State.landWrite_frame {W : Nat → Prop} (s : State) (a : ℕ) (v : Word) (hw0 : W (R.GLB_PW_ERR)) (hw1 : W (R.GLB_PW_LAST)) (hw2 : W (R.EVT_PEND (1 / 32))) (hw3 : W (R.EVT_LOST_CNT)) (hw4 : W (R.EVT_STAT)) (hw5 : W ((a - 2048))) (hw6 : W (R.DCK_STAT)) (hw7 : W (R.GLB_MBX_REQ)) (hw8 : W (R.GLB_MBX_STAT)) (hw9 : ∀ i0, W (R.GLB_MBX_D i0)) (hw10 : W (R.ACQ_STAT)) (hw11 : W (R.ACQ_BSIZE)) (hw12 : W (R.ACQ_BLK)) (hw13 : W (R.ACQ_CTL)) (hw14 : W (R.ACQ_FIFO)) (hw15 : W (R.EVT_PEND (81 / 32))) (hw16 : W (a)) (hw17 : W (R.ACQ_CH_SRC ((a - R.ACQ_CH_SRC 0) / 4))) (hw18 : W (R.DDR_CTL)) (hw19 : W (R.DDR_UE_ADDR)) (hw20 : ∀ i0, W (R.TRG_CFG i0)) (hw21 : W (R.TRG_STAT)) (hw22 : ∀ i0, W (R.CHN_CAP_CFG i0)) (hw23 : ∀ i0, W (R.ACQ_RM_STAT i0)) (hw24 : W (R.CHN_CAP_FILL)) (hw25 : W (R.CHN_STAT)) (hw26 : W (R.EVT_PEND (21 / 32))) (hw27 : W (R.CHN_INC_HI)) (hw28 : W (R.CHN_INC_LO)) (hw29 : W (R.EVT_PEND (16 / 32))) (hw30 : W (R.CHN_SRC)) (hw31 : W (R.CHN_CFG)) (hw32 : W (R.CHN_PLAN)) (hw33 : W (R.EST_OVFL_CNT)) (hw34 : W (R.EST_STAT)) (hw35 : W (R.EVT_PEND (20 / 32))) (hw36 : W (R.EST_SKIP_CNT)) (hw37 : W (R.EST_IDX)) (hw38 : ∀ i0, W (R.EST_W i0)) (hw39 : W (R.EST_PIN_POL)) (hw40 : W (R.EST_FIRST_LATE)) (hw41 : W (R.DSP_BG_OVR)) (hw42 : W (R.DSP_STAT)) (hw43 : W (R.EVT_PEND (26 / 32))) (hw44 : W (R.DSP_BG_PEND)) (hw45 : W (R.DSP_CWIN)) (hw46 : W (R.DSP_FLOW ((a - R.DSP_FLOW 0) / 4))) (hw47 : ∀ i0 i1, W (R.PIR_RES i0 i1)) (hw48 : ∀ i0, W (R.AXT_W2 i0)) (hw49 : W (R.DSP_OVR_FIRST)) (hw50 : ∀ i0, W (R.PIR_STAT i0)) (hw51 : ∀ i0, W (R.PIR_CTL i0)) (hw52 : ∀ i0, W (R.AXT_W0 i0)) (hw53 : W (R.AXT_STAT)) (hw54 : ∀ i0, W (R.AXT_FLT_MAP i0)) (hw55 : W (R.EVT_PEND (48 / 32))) (hw56 : W (R.NVS_QFILL)) (hw57 : W (R.DSP_DL ((a - 327680) / 16))) (hw58 : W (R.DCK_UE_ADDR)) (hw59 : W (R.DCK_CAM_BAD)) (hw60 : W (R.PWM_FLT_STAT)) (hw61 : W (R.PWM_FLT_FIRST)) (hw62 : W (R.PWM_FLT_CNT)) (hw63 : W (R.EVT_PEND (56 / 32))) (hw64 : W (R.PWM_CFG ((a - 1048576) / 64))) (hw65 : W (R.PWM_STAT ((a - 1048576) / 64))) (hw66 : W (R.PWM_PER ((a - 1048576) / 64))) (hw67 : ∀ i0, W (R.PWM_CMP ((a - 1048576) / 64) i0)) (hw68 : W (R.CLN_CFG ((a - 1114112) / 256))) (hw69 : W (R.CLN_STAT ((a - 1114112) / 256))) (hw70 : W (R.EVT_PEND (57 / 32))) (hw71 : W (R.STP_TIM ((a - 1179648) / 64))) (hw72 : W (R.STP_CFG ((a - 1179648) / 64))) (hw73 : W (R.STP_POS ((a - 1179648) / 64))) (hw74 : W (R.STP_STAT ((a - 1179648) / 64))) (hw75 : W (R.ENC_CFG ((a - 1245184) / 64))) (hw76 : W (R.ENC_STAT ((a - 1245184) / 64))) (hw77 : W (R.SDM_CLK ((a - 1310720) / 4))) (hw78 : W (R.SDM_CFG ((a - 1310976) / 16))) (hw79 : W (R.ZLP_GUARD)) (hw80 : W (R.CYM_STAT)) (hw81 : ∀ i0, W (R.ZLP_P_STAT i0)) (hw82 : W (R.ZLP_RSTAT)) (hw83 : W (R.ZLP_BRK)) (hw84 : W (R.ZLP_BRK_CNT)) (hw85 : W (R.EVT_PEND (70 / 32))) (hw86 : W (R.ZLP_TCFG)) (hw87 : W (R.ZLP_TSTAT)) (hw88 : W (R.KST_PWIN ((a - 2101248) / 4))) (hw89 : W (R.KST_WIGN_CNT)) (hw90 : W (R.TWN_CTL)) (hw91 : W (R.TWN_STAT)) (hw92 : W (R.TWN_EPOCH)) (hw93 : W (R.TWN_MIS_FIRST)) (hw94 : W (R.EVT_HEAD)) (hw95 : W (R.BBX_CTL)) (hw96 : W (R.BBX_COUNT)) (hw97 : W (R.BBX_SEQ)) (hw98 : W (R.BBX_STAT)) (hw99 : W (R.EVT_PEND (130 / 32))) (hw100 : W (R.BBX_TILES)) (hw101 : W (R.BBX_DISC_CNT)) (hw102 : W (R.GLB_ACC_ERR)) (hw103 : W (R.EVT_PEND (2 / 32))) : Frame [.free, .nt, .inc, .host, .evt, .cyc, .chn, .est, .cap, .dsp, .piers, .axes, .deck, .deckMem, .pwr, .hif, .ring, .twn, .kst, .acq, .ddr, .nvs] W s (State.landWrite s a v) := by
  unfold State.landWrite
  with_reducible refine Frame.iteOf ?_ ?_
  with_reducible refine Frame.step ?_ (State.pwComplement_frame _ _ _ ?_ ?_ ?_ ?_ ?_ ?_) (by decide)
  exact Frame.refl ..
  exact hw0; exact hw1; exact hw2; exact hw3; exact hw4; exact hw5
  with_reducible refine Frame.iteOf ?_ ?_
  with_reducible refine Frame.step ?_ (State.pwValue_frame _ _ _ ?_ ?_ ?_ ?_ ?_) (by decide)
  exact Frame.refl ..
  exact hw0; exact hw1; exact hw2; exact hw3; exact hw4
  with_reducible refine Frame.iteOf ?_ ?_
  with_reducible refine Frame.step ?_ (State.deckHostWrite_frame _ _ _ ?_) (by decide)
  exact Frame.refl ..
  exact hw6
  with_reducible refine Frame.iteOf ?_ ?_
  with_reducible refine Frame.step ?_ (State.regWrite_frame _ _ _ ?_ ?_ ?_ ?_ ?_ ?_ ?_ ?_ ?_ ?_ ?_ ?_ ?_ ?_ ?_ ?_ ?_ ?_ ?_ ?_ ?_ ?_ ?_ ?_ ?_ ?_ ?_ ?_ ?_ ?_ ?_ ?_ ?_ ?_ ?_ ?_ ?_ ?_ ?_ ?_ ?_ ?_ ?_ ?_ ?_ ?_ ?_ ?_ ?_ ?_ ?_ ?_ ?_ ?_ ?_ ?_ ?_ ?_ ?_ ?_ ?_ ?_ ?_ ?_ ?_ ?_ ?_ ?_ ?_ ?_ ?_ ?_ ?_ ?_ ?_ ?_ ?_ ?_ ?_ ?_ ?_ ?_ ?_ ?_ ?_ ?_ ?_ ?_ ?_ ?_ ?_ ?_ ?_ ?_ ?_ ?_ ?_) (by decide)
  exact Frame.refl ..
  exact hw7; exact hw8; exact fun _ => hw9 _; exact hw10; exact hw11; exact hw12; exact hw13; exact hw14; exact hw15; exact hw3; exact hw4; exact hw16; exact hw17; exact hw18; exact hw19; exact fun _ => hw20 _; exact hw21; exact fun _ => hw22 _; exact fun _ => hw23 _; exact hw24; exact hw25; exact hw26; exact hw27; exact hw28; exact hw29; exact hw30; exact hw31; exact hw32; exact hw33; exact hw34; exact hw35; exact hw36; exact hw37; exact fun _ => hw38 _; exact hw39; exact hw40; exact hw41; exact hw42; exact hw43; exact hw44; exact hw45; exact hw46; exact fun _ _ => hw47 _ _; exact fun _ => hw48 _; exact hw49; exact fun _ => hw50 _; exact fun _ => hw51 _; exact fun _ => hw52 _; exact hw53; exact fun _ => hw54 _; exact hw55; exact hw56; exact hw57; exact hw58; exact hw59; exact hw60; exact hw61; exact hw62; exact hw63; exact hw64; exact hw65; exact hw66; exact fun _ => hw67 _; exact hw68; exact hw69; exact hw70; exact hw71; exact hw72; exact hw73; exact hw74; exact hw75; exact hw76; exact hw77; exact hw78; exact hw79; exact hw80; exact fun _ => hw81 _; exact hw82; exact hw83; exact hw84; exact hw85; exact hw86; exact hw87; exact hw88; exact hw89; exact hw90; exact hw91; exact hw92; exact hw93; exact hw94; exact hw95; exact hw96; exact hw97; exact hw98; exact hw99; exact hw100; exact hw101
  with_reducible refine Frame.step ?_ (State.unmapped_frame _ _ ?_ ?_ ?_ ?_) (by decide)
  exact Frame.refl ..
  exact hw102; exact hw103; exact hw3; exact hw4

theorem execRegisterWrite_frame {W : Nat → Prop} (addr : ℕ) (val : Word) (s : State) (hw0 : W (R.GLB_ACC_ERR)) (hw1 : W (R.GLB_PW_ERR)) (hw2 : W (R.GLB_PW_LAST)) (hw3 : W (R.EVT_PEND (1 / 32))) (hw4 : W (R.EVT_LOST_CNT)) (hw5 : W (R.EVT_STAT)) (hw6 : W ((addr - 2048))) (hw7 : W (R.DCK_STAT)) (hw8 : W (R.GLB_MBX_REQ)) (hw9 : W (R.GLB_MBX_STAT)) (hw10 : ∀ i0, W (R.GLB_MBX_D i0)) (hw11 : W (R.ACQ_STAT)) (hw12 : W (R.ACQ_BSIZE)) (hw13 : W (R.ACQ_BLK)) (hw14 : W (R.ACQ_CTL)) (hw15 : W (R.ACQ_FIFO)) (hw16 : W (R.EVT_PEND (81 / 32))) (hw17 : W (addr)) (hw18 : W (R.ACQ_CH_SRC ((addr - R.ACQ_CH_SRC 0) / 4))) (hw19 : W (R.DDR_CTL)) (hw20 : W (R.DDR_UE_ADDR)) (hw21 : ∀ i0, W (R.TRG_CFG i0)) (hw22 : W (R.TRG_STAT)) (hw23 : ∀ i0, W (R.CHN_CAP_CFG i0)) (hw24 : ∀ i0, W (R.ACQ_RM_STAT i0)) (hw25 : W (R.CHN_CAP_FILL)) (hw26 : W (R.CHN_STAT)) (hw27 : W (R.EVT_PEND (21 / 32))) (hw28 : W (R.CHN_INC_HI)) (hw29 : W (R.CHN_INC_LO)) (hw30 : W (R.EVT_PEND (16 / 32))) (hw31 : W (R.CHN_SRC)) (hw32 : W (R.CHN_CFG)) (hw33 : W (R.CHN_PLAN)) (hw34 : W (R.EST_OVFL_CNT)) (hw35 : W (R.EST_STAT)) (hw36 : W (R.EVT_PEND (20 / 32))) (hw37 : W (R.EST_SKIP_CNT)) (hw38 : W (R.EST_IDX)) (hw39 : ∀ i0, W (R.EST_W i0)) (hw40 : W (R.EST_PIN_POL)) (hw41 : W (R.EST_FIRST_LATE)) (hw42 : W (R.DSP_BG_OVR)) (hw43 : W (R.DSP_STAT)) (hw44 : W (R.EVT_PEND (26 / 32))) (hw45 : W (R.DSP_BG_PEND)) (hw46 : W (R.DSP_CWIN)) (hw47 : W (R.DSP_FLOW ((addr - R.DSP_FLOW 0) / 4))) (hw48 : ∀ i0 i1, W (R.PIR_RES i0 i1)) (hw49 : ∀ i0, W (R.AXT_W2 i0)) (hw50 : W (R.DSP_OVR_FIRST)) (hw51 : ∀ i0, W (R.PIR_STAT i0)) (hw52 : ∀ i0, W (R.PIR_CTL i0)) (hw53 : ∀ i0, W (R.AXT_W0 i0)) (hw54 : W (R.AXT_STAT)) (hw55 : ∀ i0, W (R.AXT_FLT_MAP i0)) (hw56 : W (R.EVT_PEND (48 / 32))) (hw57 : W (R.NVS_QFILL)) (hw58 : W (R.DSP_DL ((addr - 327680) / 16))) (hw59 : W (R.DCK_UE_ADDR)) (hw60 : W (R.DCK_CAM_BAD)) (hw61 : W (R.PWM_FLT_STAT)) (hw62 : W (R.PWM_FLT_FIRST)) (hw63 : W (R.PWM_FLT_CNT)) (hw64 : W (R.EVT_PEND (56 / 32))) (hw65 : W (R.PWM_CFG ((addr - 1048576) / 64))) (hw66 : W (R.PWM_STAT ((addr - 1048576) / 64))) (hw67 : W (R.PWM_PER ((addr - 1048576) / 64))) (hw68 : ∀ i0, W (R.PWM_CMP ((addr - 1048576) / 64) i0)) (hw69 : W (R.CLN_CFG ((addr - 1114112) / 256))) (hw70 : W (R.CLN_STAT ((addr - 1114112) / 256))) (hw71 : W (R.EVT_PEND (57 / 32))) (hw72 : W (R.STP_TIM ((addr - 1179648) / 64))) (hw73 : W (R.STP_CFG ((addr - 1179648) / 64))) (hw74 : W (R.STP_POS ((addr - 1179648) / 64))) (hw75 : W (R.STP_STAT ((addr - 1179648) / 64))) (hw76 : W (R.ENC_CFG ((addr - 1245184) / 64))) (hw77 : W (R.ENC_STAT ((addr - 1245184) / 64))) (hw78 : W (R.SDM_CLK ((addr - 1310720) / 4))) (hw79 : W (R.SDM_CFG ((addr - 1310976) / 16))) (hw80 : W (R.ZLP_GUARD)) (hw81 : W (R.CYM_STAT)) (hw82 : ∀ i0, W (R.ZLP_P_STAT i0)) (hw83 : W (R.ZLP_RSTAT)) (hw84 : W (R.ZLP_BRK)) (hw85 : W (R.ZLP_BRK_CNT)) (hw86 : W (R.EVT_PEND (70 / 32))) (hw87 : W (R.ZLP_TCFG)) (hw88 : W (R.ZLP_TSTAT)) (hw89 : W (R.KST_PWIN ((addr - 2101248) / 4))) (hw90 : W (R.KST_WIGN_CNT)) (hw91 : W (R.TWN_CTL)) (hw92 : W (R.TWN_STAT)) (hw93 : W (R.TWN_EPOCH)) (hw94 : W (R.TWN_MIS_FIRST)) (hw95 : W (R.EVT_HEAD)) (hw96 : W (R.BBX_CTL)) (hw97 : W (R.BBX_COUNT)) (hw98 : W (R.BBX_SEQ)) (hw99 : W (R.BBX_STAT)) (hw100 : W (R.EVT_PEND (130 / 32))) (hw101 : W (R.BBX_TILES)) (hw102 : W (R.BBX_DISC_CNT)) (hw103 : W (R.EVT_PEND (2 / 32))) : Frame.out [.free, .nt, .inc, .host, .evt, .cyc, .chn, .est, .cap, .dsp, .piers, .axes, .deck, .deckMem, .pwr, .hif, .ring, .twn, .kst, .acq, .ddr, .nvs] W s (execRegisterWrite addr val s) := by
  unfold execRegisterWrite
  with_reducible refine Frame.out_next ?_
  with_reducible refine State.bar0Write_frame _ _ _ ?_ (by decide) ?_ ?_
  exact hw0
  exact Frame.refl ..
  intro u0 hu1
  with_reducible refine Frame.step ?_ (State.landWrite_frame _ _ _ ?_ ?_ ?_ ?_ ?_ ?_ ?_ ?_ ?_ ?_ ?_ ?_ ?_ ?_ ?_ ?_ ?_ ?_ ?_ ?_ ?_ ?_ ?_ ?_ ?_ ?_ ?_ ?_ ?_ ?_ ?_ ?_ ?_ ?_ ?_ ?_ ?_ ?_ ?_ ?_ ?_ ?_ ?_ ?_ ?_ ?_ ?_ ?_ ?_ ?_ ?_ ?_ ?_ ?_ ?_ ?_ ?_ ?_ ?_ ?_ ?_ ?_ ?_ ?_ ?_ ?_ ?_ ?_ ?_ ?_ ?_ ?_ ?_ ?_ ?_ ?_ ?_ ?_ ?_ ?_ ?_ ?_ ?_ ?_ ?_ ?_ ?_ ?_ ?_ ?_ ?_ ?_ ?_ ?_ ?_ ?_ ?_ ?_ ?_ ?_ ?_ ?_ ?_ ?_) (by decide)
  assumption
  exact hw1; exact hw2; exact hw3; exact hw4; exact hw5; exact hw6; exact hw7; exact hw8; exact hw9; exact fun _ => hw10 _; exact hw11; exact hw12; exact hw13; exact hw14; exact hw15; exact hw16; exact hw17; exact hw18; exact hw19; exact hw20; exact fun _ => hw21 _; exact hw22; exact fun _ => hw23 _; exact fun _ => hw24 _; exact hw25; exact hw26; exact hw27; exact hw28; exact hw29; exact hw30; exact hw31; exact hw32; exact hw33; exact hw34; exact hw35; exact hw36; exact hw37; exact hw38; exact fun _ => hw39 _; exact hw40; exact hw41; exact hw42; exact hw43; exact hw44; exact hw45; exact hw46; exact hw47; exact fun _ _ => hw48 _ _; exact fun _ => hw49 _; exact hw50; exact fun _ => hw51 _; exact fun _ => hw52 _; exact fun _ => hw53 _; exact hw54; exact fun _ => hw55 _; exact hw56; exact hw57; exact hw58; exact hw59; exact hw60; exact hw61; exact hw62; exact hw63; exact hw64; exact hw65; exact hw66; exact hw67; exact fun _ => hw68 _; exact hw69; exact hw70; exact hw71; exact hw72; exact hw73; exact hw74; exact hw75; exact hw76; exact hw77; exact hw78; exact hw79; exact hw80; exact hw81; exact fun _ => hw82 _; exact hw83; exact hw84; exact hw85; exact hw86; exact hw87; exact hw88; exact hw89; exact hw90; exact hw91; exact hw92; exact hw93; exact hw94; exact hw95; exact hw96; exact hw97; exact hw98; exact hw99; exact hw100; exact hw101; exact hw102; exact hw0; exact hw103

theorem State.readClears_frame {W : Nat → Prop} (s : State) (a : ℕ) (hw0 : W (a)) (hw1 : W (R.HIF_FIRST_REF)) (hw2 : ∀ i0, W (R.PIR_UE_INFO i0)) : Frame [] W s (State.readClears s a) := by
  unfold State.readClears
  extract_lets x0 x1
  have hx1 : Frame [] W s x1 := by
    (with_reducible conv => arg 4; whnf)
    with_reducible refine Frame.iteOf ?_ ?_
    exact Frame.refl ..
    with_reducible refine Frame.putReg ?_ ?_
    exact Frame.refl ..
    exact hw0
  with_reducible refine Frame.iteOf ?_ ?_
  with_reducible refine Frame.clr ?_ ?_
  exact hx1
  exact hw1
  split
  with_reducible refine Frame.clr ?_ ?_
  exact hx1
  exact hw2 _
  exact hx1

theorem State.regRead_frame {W : Nat → Prop} (s : State) (a : ℕ) (hw0 : W (R.GLB_MBX_STAT)) (hw1 : W (a)) (hw2 : W (R.GLB_VOTE_CNT)) (hw3 : W (R.GLB_VOTE_LAST)) (hw4 : W (R.EVT_PEND (0 / 32))) (hw5 : W (R.EVT_LOST_CNT)) (hw6 : W (R.EVT_STAT)) (hw7 : W (R.HIF_FIRST_REF)) (hw8 : ∀ i0, W (R.PIR_UE_INFO i0)) : Frame [.host, .evt, .cap] W s (State.regRead s a) := by
  unfold State.regRead
  with_reducible refine Frame.iteOf ?_ ?_
  with_reducible refine Frame.step ?_ (State.mbxReadStat_frame _ ?_) (by decide)
  exact Frame.refl ..
  exact hw0
  split
  with_reducible refine Frame.step ?_ (State.mbxReadWord_frame _ _ ?_) (by decide)
  exact Frame.refl ..
  exact hw0
  with_reducible refine Frame.iteOf ?_ ?_
  with_reducible refine Frame.step ?_ (State.capPop_frame _) (by decide)
  exact Frame.refl ..
  extract_lets x0
  have hx0 : Frame [.host, .evt, .cap] W s x0 := by
    (with_reducible conv => arg 4; whnf)
    with_reducible refine Frame.step ?_ (State.voteCorrect_frame _ _ ?_ ?_ ?_ ?_ ?_ ?_) (by decide)
    exact Frame.refl ..
    exact hw1; exact hw2; exact hw3; exact hw4; exact hw5; exact hw6
  with_reducible refine Frame.step ?_ (State.answer_frame _ _) (by decide)
  with_reducible refine Frame.step ?_ (State.readClears_frame _ _ ?_ ?_ ?_) (by decide)
  exact hx0
  exact hw1; exact hw7; exact fun _ => hw8 _

theorem State.landRead_frame {W : Nat → Prop} (s : State) (a : ℕ) (hw0 : W (R.GLB_MBX_STAT)) (hw1 : W (a)) (hw2 : W (R.GLB_VOTE_CNT)) (hw3 : W (R.GLB_VOTE_LAST)) (hw4 : W (R.EVT_PEND (0 / 32))) (hw5 : W (R.EVT_LOST_CNT)) (hw6 : W (R.EVT_STAT)) (hw7 : W (R.HIF_FIRST_REF)) (hw8 : ∀ i0, W (R.PIR_UE_INFO i0)) (hw9 : W (R.GLB_ACC_ERR)) (hw10 : W (R.EVT_PEND (2 / 32))) : Frame [.free, .host, .evt, .cap] W s (State.landRead s a) := by
  unfold State.landRead
  with_reducible refine Frame.iteOf ?_ ?_
  with_reducible refine Frame.step ?_ (State.answer_frame _ _) (by decide)
  exact Frame.refl ..
  with_reducible refine Frame.iteOf ?_ ?_
  with_reducible refine Frame.step ?_ (State.answer_frame _ _) (by decide)
  with_reducible refine Frame.step ?_ (State.deckRead_frame _ _) (by decide)
  exact Frame.refl ..
  with_reducible refine Frame.iteOf ?_ ?_
  with_reducible refine Frame.step ?_ (State.regRead_frame _ _ ?_ ?_ ?_ ?_ ?_ ?_ ?_ ?_ ?_) (by decide)
  exact Frame.refl ..
  exact hw0; exact hw1; exact hw2; exact hw3; exact hw4; exact hw5; exact hw6; exact hw7; exact fun _ => hw8 _
  with_reducible refine Frame.step ?_ (State.answer_frame _ _) (by decide)
  with_reducible refine Frame.step ?_ (State.unmapped_frame _ _ ?_ ?_ ?_ ?_) (by decide)
  exact Frame.refl ..
  exact hw9; exact hw10; exact hw5; exact hw6

theorem State.bar0Read_frame {W : Nat → Prop} (s : State) (a : ℕ) (hw0 : W (R.GLB_MBX_STAT)) (hw1 : W (a)) (hw2 : W (R.GLB_VOTE_CNT)) (hw3 : W (R.GLB_VOTE_LAST)) (hw4 : W (R.EVT_PEND (0 / 32))) (hw5 : W (R.EVT_LOST_CNT)) (hw6 : W (R.EVT_STAT)) (hw7 : W (R.HIF_FIRST_REF)) (hw8 : ∀ i0, W (R.PIR_UE_INFO i0)) (hw9 : W (R.GLB_ACC_ERR)) (hw10 : W (R.EVT_PEND (2 / 32))) : Frame [.free, .host, .evt, .cap] W s (State.bar0Read s a) := by
  unfold State.bar0Read
  with_reducible refine State.bar0Answer_frame _ _ _ (by decide) ?_ ?_
  exact Frame.refl ..
  intro u0 hu1
  with_reducible refine Frame.step ?_ (State.landRead_frame _ _ ?_ ?_ ?_ ?_ ?_ ?_ ?_ ?_ ?_ ?_ ?_) (by decide)
  assumption
  exact hw0; exact hw1; exact hw2; exact hw3; exact hw4; exact hw5; exact hw6; exact hw7; exact fun _ => hw8 _; exact hw9; exact hw10

theorem execUnmappedAccess_frame {W : Nat → Prop} (addr : ℕ) (wr : Bool) (val : Word) (s : State) (hw0 : W (R.GLB_ACC_ERR)) (hw1 : W (R.GLB_PW_ERR)) (hw2 : W (R.GLB_PW_LAST)) (hw3 : W (R.EVT_PEND (1 / 32))) (hw4 : W (R.EVT_LOST_CNT)) (hw5 : W (R.EVT_STAT)) (hw6 : W ((addr - 2048))) (hw7 : W (R.DCK_STAT)) (hw8 : W (R.GLB_MBX_REQ)) (hw9 : W (R.GLB_MBX_STAT)) (hw10 : ∀ i0, W (R.GLB_MBX_D i0)) (hw11 : W (R.ACQ_STAT)) (hw12 : W (R.ACQ_BSIZE)) (hw13 : W (R.ACQ_BLK)) (hw14 : W (R.ACQ_CTL)) (hw15 : W (R.ACQ_FIFO)) (hw16 : W (R.EVT_PEND (81 / 32))) (hw17 : W (addr)) (hw18 : W (R.ACQ_CH_SRC ((addr - R.ACQ_CH_SRC 0) / 4))) (hw19 : W (R.DDR_CTL)) (hw20 : W (R.DDR_UE_ADDR)) (hw21 : ∀ i0, W (R.TRG_CFG i0)) (hw22 : W (R.TRG_STAT)) (hw23 : ∀ i0, W (R.CHN_CAP_CFG i0)) (hw24 : ∀ i0, W (R.ACQ_RM_STAT i0)) (hw25 : W (R.CHN_CAP_FILL)) (hw26 : W (R.CHN_STAT)) (hw27 : W (R.EVT_PEND (21 / 32))) (hw28 : W (R.CHN_INC_HI)) (hw29 : W (R.CHN_INC_LO)) (hw30 : W (R.EVT_PEND (16 / 32))) (hw31 : W (R.CHN_SRC)) (hw32 : W (R.CHN_CFG)) (hw33 : W (R.CHN_PLAN)) (hw34 : W (R.EST_OVFL_CNT)) (hw35 : W (R.EST_STAT)) (hw36 : W (R.EVT_PEND (20 / 32))) (hw37 : W (R.EST_SKIP_CNT)) (hw38 : W (R.EST_IDX)) (hw39 : ∀ i0, W (R.EST_W i0)) (hw40 : W (R.EST_PIN_POL)) (hw41 : W (R.EST_FIRST_LATE)) (hw42 : W (R.DSP_BG_OVR)) (hw43 : W (R.DSP_STAT)) (hw44 : W (R.EVT_PEND (26 / 32))) (hw45 : W (R.DSP_BG_PEND)) (hw46 : W (R.DSP_CWIN)) (hw47 : W (R.DSP_FLOW ((addr - R.DSP_FLOW 0) / 4))) (hw48 : ∀ i0 i1, W (R.PIR_RES i0 i1)) (hw49 : ∀ i0, W (R.AXT_W2 i0)) (hw50 : W (R.DSP_OVR_FIRST)) (hw51 : ∀ i0, W (R.PIR_STAT i0)) (hw52 : ∀ i0, W (R.PIR_CTL i0)) (hw53 : ∀ i0, W (R.AXT_W0 i0)) (hw54 : W (R.AXT_STAT)) (hw55 : ∀ i0, W (R.AXT_FLT_MAP i0)) (hw56 : W (R.EVT_PEND (48 / 32))) (hw57 : W (R.NVS_QFILL)) (hw58 : W (R.DSP_DL ((addr - 327680) / 16))) (hw59 : W (R.DCK_UE_ADDR)) (hw60 : W (R.DCK_CAM_BAD)) (hw61 : W (R.PWM_FLT_STAT)) (hw62 : W (R.PWM_FLT_FIRST)) (hw63 : W (R.PWM_FLT_CNT)) (hw64 : W (R.EVT_PEND (56 / 32))) (hw65 : W (R.PWM_CFG ((addr - 1048576) / 64))) (hw66 : W (R.PWM_STAT ((addr - 1048576) / 64))) (hw67 : W (R.PWM_PER ((addr - 1048576) / 64))) (hw68 : ∀ i0, W (R.PWM_CMP ((addr - 1048576) / 64) i0)) (hw69 : W (R.CLN_CFG ((addr - 1114112) / 256))) (hw70 : W (R.CLN_STAT ((addr - 1114112) / 256))) (hw71 : W (R.EVT_PEND (57 / 32))) (hw72 : W (R.STP_TIM ((addr - 1179648) / 64))) (hw73 : W (R.STP_CFG ((addr - 1179648) / 64))) (hw74 : W (R.STP_POS ((addr - 1179648) / 64))) (hw75 : W (R.STP_STAT ((addr - 1179648) / 64))) (hw76 : W (R.ENC_CFG ((addr - 1245184) / 64))) (hw77 : W (R.ENC_STAT ((addr - 1245184) / 64))) (hw78 : W (R.SDM_CLK ((addr - 1310720) / 4))) (hw79 : W (R.SDM_CFG ((addr - 1310976) / 16))) (hw80 : W (R.ZLP_GUARD)) (hw81 : W (R.CYM_STAT)) (hw82 : ∀ i0, W (R.ZLP_P_STAT i0)) (hw83 : W (R.ZLP_RSTAT)) (hw84 : W (R.ZLP_BRK)) (hw85 : W (R.ZLP_BRK_CNT)) (hw86 : W (R.EVT_PEND (70 / 32))) (hw87 : W (R.ZLP_TCFG)) (hw88 : W (R.ZLP_TSTAT)) (hw89 : W (R.KST_PWIN ((addr - 2101248) / 4))) (hw90 : W (R.KST_WIGN_CNT)) (hw91 : W (R.TWN_CTL)) (hw92 : W (R.TWN_STAT)) (hw93 : W (R.TWN_EPOCH)) (hw94 : W (R.TWN_MIS_FIRST)) (hw95 : W (R.EVT_HEAD)) (hw96 : W (R.BBX_CTL)) (hw97 : W (R.BBX_COUNT)) (hw98 : W (R.BBX_SEQ)) (hw99 : W (R.BBX_STAT)) (hw100 : W (R.EVT_PEND (130 / 32))) (hw101 : W (R.BBX_TILES)) (hw102 : W (R.BBX_DISC_CNT)) (hw103 : W (R.EVT_PEND (2 / 32))) (hw104 : W (R.GLB_VOTE_CNT)) (hw105 : W (R.GLB_VOTE_LAST)) (hw106 : W (R.EVT_PEND (0 / 32))) (hw107 : W (R.HIF_FIRST_REF)) (hw108 : ∀ i0, W (R.PIR_UE_INFO i0)) : Frame.out [.free, .nt, .inc, .host, .evt, .cyc, .chn, .est, .cap, .dsp, .piers, .axes, .deck, .deckMem, .pwr, .hif, .ring, .twn, .kst, .acq, .ddr, .nvs] W s (execUnmappedAccess addr wr val s) := by
  unfold execUnmappedAccess
  with_reducible refine Frame.out_next ?_
  with_reducible refine Frame.iteOf ?_ ?_
  with_reducible refine State.bar0Write_frame _ _ _ ?_ (by decide) ?_ ?_
  exact hw0
  exact Frame.refl ..
  intro u0 hu1
  with_reducible refine Frame.step ?_ (State.landWrite_frame _ _ _ ?_ ?_ ?_ ?_ ?_ ?_ ?_ ?_ ?_ ?_ ?_ ?_ ?_ ?_ ?_ ?_ ?_ ?_ ?_ ?_ ?_ ?_ ?_ ?_ ?_ ?_ ?_ ?_ ?_ ?_ ?_ ?_ ?_ ?_ ?_ ?_ ?_ ?_ ?_ ?_ ?_ ?_ ?_ ?_ ?_ ?_ ?_ ?_ ?_ ?_ ?_ ?_ ?_ ?_ ?_ ?_ ?_ ?_ ?_ ?_ ?_ ?_ ?_ ?_ ?_ ?_ ?_ ?_ ?_ ?_ ?_ ?_ ?_ ?_ ?_ ?_ ?_ ?_ ?_ ?_ ?_ ?_ ?_ ?_ ?_ ?_ ?_ ?_ ?_ ?_ ?_ ?_ ?_ ?_ ?_ ?_ ?_ ?_ ?_ ?_ ?_ ?_ ?_ ?_) (by decide)
  assumption
  exact hw1; exact hw2; exact hw3; exact hw4; exact hw5; exact hw6; exact hw7; exact hw8; exact hw9; exact fun _ => hw10 _; exact hw11; exact hw12; exact hw13; exact hw14; exact hw15; exact hw16; exact hw17; exact hw18; exact hw19; exact hw20; exact fun _ => hw21 _; exact hw22; exact fun _ => hw23 _; exact fun _ => hw24 _; exact hw25; exact hw26; exact hw27; exact hw28; exact hw29; exact hw30; exact hw31; exact hw32; exact hw33; exact hw34; exact hw35; exact hw36; exact hw37; exact hw38; exact fun _ => hw39 _; exact hw40; exact hw41; exact hw42; exact hw43; exact hw44; exact hw45; exact hw46; exact hw47; exact fun _ _ => hw48 _ _; exact fun _ => hw49 _; exact hw50; exact fun _ => hw51 _; exact fun _ => hw52 _; exact fun _ => hw53 _; exact hw54; exact fun _ => hw55 _; exact hw56; exact hw57; exact hw58; exact hw59; exact hw60; exact hw61; exact hw62; exact hw63; exact hw64; exact hw65; exact hw66; exact hw67; exact fun _ => hw68 _; exact hw69; exact hw70; exact hw71; exact hw72; exact hw73; exact hw74; exact hw75; exact hw76; exact hw77; exact hw78; exact hw79; exact hw80; exact hw81; exact fun _ => hw82 _; exact hw83; exact hw84; exact hw85; exact hw86; exact hw87; exact hw88; exact hw89; exact hw90; exact hw91; exact hw92; exact hw93; exact hw94; exact hw95; exact hw96; exact hw97; exact hw98; exact hw99; exact hw100; exact hw101; exact hw102; exact hw0; exact hw103
  with_reducible refine Frame.step ?_ (State.bar0Read_frame _ _ ?_ ?_ ?_ ?_ ?_ ?_ ?_ ?_ ?_ ?_ ?_) (by decide)
  exact Frame.refl ..
  exact hw9; exact hw17; exact hw104; exact hw105; exact hw106; exact hw4; exact hw5; exact hw107; exact fun _ => hw108 _; exact hw0; exact hw103

theorem execReadClear_frame {W : Nat → Prop} (addr : ℕ) (s : State) (hw0 : W (R.GLB_MBX_STAT)) (hw1 : W (addr)) (hw2 : W (R.GLB_VOTE_CNT)) (hw3 : W (R.GLB_VOTE_LAST)) (hw4 : W (R.EVT_PEND (0 / 32))) (hw5 : W (R.EVT_LOST_CNT)) (hw6 : W (R.EVT_STAT)) (hw7 : W (R.HIF_FIRST_REF)) (hw8 : ∀ i0, W (R.PIR_UE_INFO i0)) (hw9 : W (R.GLB_ACC_ERR)) (hw10 : W (R.EVT_PEND (2 / 32))) : Frame.out [.free, .host, .evt, .cap] W s (execReadClear addr s) := by
  unfold execReadClear
  with_reducible refine Frame.out_next ?_
  with_reducible refine Frame.step ?_ (State.bar0Read_frame _ _ ?_ ?_ ?_ ?_ ?_ ?_ ?_ ?_ ?_ ?_ ?_) (by decide)
  exact Frame.refl ..
  exact hw0; exact hw1; exact hw2; exact hw3; exact hw4; exact hw5; exact hw6; exact hw7; exact fun _ => hw8 _; exact hw9; exact hw10

theorem State.putHif_frame {W : Nat → Prop} (s : State) (h : Hif) : Frame [.hif, .window] W s (State.putHif s h) := by
  unfold State.putHif
  ((with_reducible refine Frame.upd ?_ ?_); on_goal 2 => (intro p hp; cases p <;> first | exact (hp (by decide)).elim | (dsimp only [Part.same] <;> fail)))
  exact Frame.refl ..

theorem State.countStall_frame {W : Nat → Prop} (s : State) (hw0 : W (R.HIF_STALL_CNT)) : Frame [.hif] W s (State.countStall s) := by
  unfold State.countStall
  with_reducible refine Frame.iteOf ?_ ?_
  with_reducible refine Frame.incSat ?_ ?_
  ((with_reducible refine Frame.step ?_ (State.putHif_keep _ _ ?_) (by decide)); on_goal 2 => first | with_reducible rfl | with_reducible exact ⟨rfl, rfl⟩ | (simp +zetaDelta <;> fail))
  exact Frame.refl ..
  exact hw0
  exact Frame.refl ..

theorem State.twinPaths_frame {W : Nat → Prop} (s : State) (hw0 : W (R.TWN_HB_MISS)) (hw1 : W (R.TWN_STAT)) : Frame [] W s (State.twinPaths s) := by
  unfold State.twinPaths
  extract_lets x0 x1 x2 x3 x4
  have hx3 : Frame [] W s x3 := by
    (with_reducible conv => arg 4; whnf)
    with_reducible refine Frame.whenDo ?_ ?_
    exact Frame.refl ..
    intro u7 hu8
    with_reducible refine Frame.incSat ?_ ?_
    assumption
    exact hw0
  have hx4 : Frame [] W s x4 := by
    (with_reducible conv => arg 4; whnf)
    with_reducible refine Frame.whenDo ?_ ?_
    exact hx3
    intro u5 hu6
    with_reducible refine Frame.incSat ?_ ?_
    assumption
    exact hw0
  with_reducible refine Frame.setB ?_ ?_
  with_reducible refine Frame.setB ?_ ?_
  exact hx4
  exact hw1; exact hw1

theorem State.yieldEnd_frame {W : Nat → Prop} (s : State) (hw0 : W (R.TWN_CTL)) : Frame [.hif] W s (State.yieldEnd s) := by
  unfold State.yieldEnd
  with_reducible refine Frame.whenDo ?_ ?_
  exact Frame.refl ..
  intro u0 hu1
  with_reducible refine Frame.step ?_ (State.endWaits_frame _ _ _ _ _ _) (by decide)
  with_reducible refine Frame.clr ?_ ?_
  assumption
  exact hw0

theorem State.twinFence_frame {W : Nat → Prop} (s : State) (epoch : ℕ) (hw0 : W (R.TWN_STAT)) (hw1 : W (R.EVT_PEND (113 / 32))) (hw2 : W (R.EVT_LOST_CNT)) (hw3 : W (R.EVT_STAT)) : Frame [.evt, .twn] W s (State.twinFence s epoch) := by
  unfold State.twinFence
  extract_lets x0 x1
  have hx1 : Frame [.evt, .twn] W s x1 := by
    (with_reducible conv => arg 4; whnf)
    with_reducible refine Frame.setF ?_ ?_
    with_reducible refine Frame.step ?_ (State.putTwn_frame _ _) (by decide)
    exact Frame.refl ..
    exact hw0
  with_reducible refine Frame.step ?_ (State.raise_frame _ _ _ _ ?_ ?_ ?_) (by decide)
  exact hx1
  exact hw1; exact hw2; exact hw3

theorem State.adoptMirror_frame {W : Nat → Prop} (s : State) (m : Mirror) (hw0 : W (R.HIF_CQ_STAT)) : Frame [.free] W s (State.adoptMirror s m).1 := by
  unfold State.adoptMirror
  split
  (with_reducible conv => arg 4; whnf)
  exact Frame.refl ..
  extract_lets x0 x1
  (with_reducible conv => arg 4; whnf)
  with_reducible refine Frame.step ?_ (State.cqReserve_frame _ ?_) (by decide)
  with_reducible refine Frame.step ?_ (State.drewFree_frame _) (by decide)
  exact Frame.refl ..
  exact hw0

theorem State.adoptMirrors_frame {W : Nat → Prop} (s : State) (v1 : List Mirror) (hw0 : W (R.HIF_CQ_STAT)) : Frame [.free] W s (State.adoptMirrors s v1).1 := by
  induction v1 generalizing s with
  | nil =>
    exact Frame.refl ..
  | cons l0 ls0 ih =>
    unfold State.adoptMirrors
    extract_lets x0 x1
    have hx0 : Frame [.free] W s x0.1 := by
      unfold x0
      with_reducible refine Frame.step ?_ (State.adoptMirror_frame _ _ ?_) (by decide)
      exact Frame.refl ..
      exact hw0
    have hx1 : Frame [.free] W s x1.1 := by
      unfold x1
      with_reducible refine Frame.step ?_ (ih _) (by decide)
      exact hx0
    (with_reducible conv => arg 4; whnf)
    exact hx1

theorem State.twnTake_frame {W : Nat → Prop} (s : State) (hw0 : W (R.TWN_EPOCH)) (hw1 : W (R.TWN_STAT)) (hw2 : W (R.TWN_TAKE_CNT)) (hw3 : W (R.EVT_PEND (112 / 32))) (hw4 : W (R.EVT_LOST_CNT)) (hw5 : W (R.EVT_STAT)) (hw6 : W (R.HIF_CQ_STAT)) : Frame [.free, .evt, .twn] W s (State.twnTake s) := by
  unfold State.twnTake
  extract_lets x0 x1 x2 x3 x4 x5 x6
  have hx3 : Frame [.free, .evt, .twn] W s x3 := by
    (with_reducible conv => arg 4; whnf)
    with_reducible refine Frame.clr ?_ ?_
    with_reducible refine Frame.setF ?_ ?_
    with_reducible refine Frame.setF ?_ ?_
    exact Frame.refl ..
    exact hw0; exact hw1; exact hw1
  have hx4 : Frame [.free, .evt, .twn] W s x4 := by
    (with_reducible conv => arg 4; whnf)
    with_reducible refine Frame.step ?_ (State.raise_frame _ _ _ _ ?_ ?_ ?_) (by decide)
    with_reducible refine Frame.incSat ?_ ?_
    exact hx3
    exact hw2; exact hw3; exact hw4; exact hw5
  have hx5 : Frame [.free, .evt, .twn] W s x5.1 := by
    unfold x5
    with_reducible refine Frame.step ?_ (State.adoptMirrors_frame _ _ ?_) (by decide)
    exact hx4
    exact hw6
  with_reducible refine Frame.step ?_ (State.putTwn_frame _ _) (by decide)
  exact hx5

theorem State.streamBegin_frame {W : Nat → Prop} (s : State) : Frame [.twn] W s (State.streamBegin s) := by
  unfold State.streamBegin
  split
  with_reducible refine Frame.iteOf ?_ ?_
  with_reducible refine Frame.step ?_ (State.putTwn_frame _ _) (by decide)
  exact Frame.refl ..
  exact Frame.refl ..
  exact Frame.refl ..

theorem State.twinSync_frame {W : Nat → Prop} (s : State) (hw0 : W (R.TWN_HB_MISS)) (hw1 : W (R.TWN_STAT)) (hw2 : W (R.TWN_CTL)) (hw3 : W (R.EVT_PEND (113 / 32))) (hw4 : W (R.EVT_LOST_CNT)) (hw5 : W (R.EVT_STAT)) (hw6 : W (R.TWN_EPOCH)) (hw7 : W (R.TWN_TAKE_CNT)) (hw8 : W (R.EVT_PEND (112 / 32))) (hw9 : W (R.HIF_CQ_STAT)) : Frame [.free, .evt, .hif, .twn] W s (State.twinSync s) := by
  unfold State.twinSync
  with_reducible refine Frame.iteOf ?_ ?_
  extract_lets x0 x1 x2 x3
  have hx1 : Frame [.free, .evt, .hif, .twn] W s x1 := by
    (with_reducible conv => arg 4; whnf)
    with_reducible refine Frame.step ?_ (State.twinPaths_frame _ ?_ ?_) (by decide)
    with_reducible refine Frame.step ?_ (State.putTwn_frame _ _) (by decide)
    exact Frame.refl ..
    exact hw0; exact hw1
  have hx2 : Frame [.free, .evt, .hif, .twn] W s x2 := by
    (with_reducible conv => arg 4; whnf)
    with_reducible refine Frame.step ?_ (State.yieldEnd_frame _ ?_) (by decide)
    exact hx1
    exact hw2
  have hx3 : Frame [.free, .evt, .hif, .twn] W s x3 := by
    (with_reducible conv => arg 4; whnf)
    split
    with_reducible refine Frame.step ?_ (State.twinFence_frame _ _ ?_ ?_ ?_ ?_) (by decide)
    exact hx2
    exact hw1; exact hw3; exact hw4; exact hw5
    with_reducible refine Frame.iteOf ?_ ?_
    with_reducible refine Frame.step ?_ (State.twnTake_frame _ ?_ ?_ ?_ ?_ ?_ ?_ ?_) (by decide)
    exact hx2
    exact hw6; exact hw1; exact hw7; exact hw8; exact hw4; exact hw5; exact hw9
    exact hx2
  with_reducible refine Frame.iteOf ?_ ?_
  with_reducible refine Frame.step ?_ (State.streamBegin_frame _) (by decide)
  with_reducible refine Frame.whenDo ?_ ?_
  exact hx3
  intro u4 hu5
  with_reducible refine Frame.setF ?_ ?_
  assumption
  exact hw6
  exact hx3
  exact Frame.refl ..

theorem State.pairPlan_frame {W : Nat → Prop} (s : State) (g : Segment) : Frame [.twn] W s (State.pairPlan s g) := by
  unfold State.pairPlan
  with_reducible refine Frame.iteOf ?_ ?_
  extract_lets x0 x1 x2
  have hx1 : Frame [.twn] W s x1 := by
    (with_reducible conv => arg 4; whnf)
    with_reducible refine Frame.step ?_ (State.pairSend_frame _ _) (by decide)
    with_reducible refine Frame.step ?_ (State.putTwn_frame _ _) (by decide)
    exact Frame.refl ..
  have hx2 : Frame [.twn] W s x2 := by
    (with_reducible conv => arg 4; whnf)
    with_reducible refine Frame.whenDo ?_ ?_
    exact hx1
    intro u3 hu4
    with_reducible refine Frame.step ?_ (State.pairSend_frame _ _) (by decide)
    assumption
  with_reducible refine Frame.iteOf ?_ ?_
  split
  with_reducible refine Frame.iteOf ?_ ?_
  with_reducible refine Frame.step ?_ (State.streamAxis_frame _ _) (by decide)
  exact hx2
  exact hx2
  exact hx2
  exact hx1
  exact Frame.refl ..

theorem State.pairBad_frame {W : Nat → Prop} (s : State) (hw0 : W (R.TWN_PAIR_ERR)) : Frame [] W s (State.pairBad s) := by
  unfold State.pairBad
  with_reducible refine Frame.incSat ?_ ?_
  exact Frame.refl ..
  exact hw0

theorem State.pairRx_frame {W : Nat → Prop} {ps : List Part} {s0 : State} (s : State) (bs : List Byte) (g : State → State) (hw0 : W (R.TWN_PAIR_ERR)) (hsub : ∀ p ∈ ([] : List Part), p ∈ ps) (h0 : Frame ps W s0 s) (hg : ∀ u, Frame ps W s0 u → Frame ps W s0 (g u)) : Frame ps W s0 (State.pairRx s bs g) := by
  unfold State.pairRx
  with_reducible refine Frame.iteOf ?_ ?_
  with_reducible refine Frame.iteOf ?_ ?_
  refine hg _ ?_
  assumption
  with_reducible refine Frame.step ?_ (State.pairBad_frame _ ?_) (fun p hp => hsub p (by revert p hp; decide))
  assumption
  exact hw0
  assumption

theorem State.digestCompare_frame {W : Nat → Prop} (s : State) (hw0 : W (R.TWN_STAT)) (hw1 : W (R.EVT_PEND (115 / 32))) (hw2 : W (R.EVT_LOST_CNT)) (hw3 : W (R.EVT_STAT)) : Frame [.evt, .twn] W s (State.digestCompare s) := by
  unfold State.digestCompare
  split
  exact Frame.refl ..
  with_reducible refine Frame.iteOf ?_ ?_
  exact Frame.refl ..
  extract_lets x0 x1
  with_reducible refine Frame.whenDo ?_ ?_
  with_reducible refine Frame.step ?_ (State.putTwn_frame _ _) (by decide)
  exact Frame.refl ..
  intro u2 hu3
  with_reducible refine Frame.step ?_ (State.raise_frame _ _ _ _ ?_ ?_ ?_) (by decide)
  with_reducible refine Frame.set1 ?_ ?_
  assumption
  exact hw0; exact hw1; exact hw2; exact hw3

theorem State.leaseHeard_frame {W : Nat → Prop} (s : State) (j : Word) : Frame [.twn] W s (State.leaseHeard s j) := by
  unfold State.leaseHeard
  split
  with_reducible refine Frame.iteOf ?_ ?_
  with_reducible refine Frame.step ?_ (State.putTwn_frame _ _) (by decide)
  exact Frame.refl ..
  exact Frame.refl ..
  with_reducible refine Frame.step ?_ (State.putTwn_frame _ _) (by decide)
  exact Frame.refl ..

theorem State.holderHeard_frame {W : Nat → Prop} (s : State) (h : PairHb) (hw0 : W (R.TWN_EPOCH)) (hw1 : W (R.TWN_PDLV)) : Frame [.twn] W s (State.holderHeard s h) := by
  unfold State.holderHeard
  extract_lets x0 x1 x2 x3 x4
  have hx0 : Frame [.twn] W s x0 := by
    (with_reducible conv => arg 4; whnf)
    with_reducible refine Frame.step ?_ (State.leaseHeard_frame _ _) (by decide)
    exact Frame.refl ..
  have hx2 : Frame [.twn] W s x2 := by
    (with_reducible conv => arg 4; whnf)
    with_reducible refine Frame.setF ?_ ?_
    with_reducible refine Frame.setF ?_ ?_
    exact hx0
    exact hw0; exact hw1
  with_reducible refine Frame.step ?_ (State.putTwn_frame _ _) (by decide)
  exact hx2

theorem State.joinDecide_frame {W : Nat → Prop} (s : State) (h : PairHb) (hw0 : W (R.TWN_CTL)) (hw1 : W (R.TWN_STAT)) (hw2 : W (R.TWN_JOIN)) : Frame [.hif, .twn] W s (State.joinDecide s h) := by
  unfold State.joinDecide
  split
  exact Frame.refl ..
  with_reducible refine Frame.iteOf ?_ ?_
  exact Frame.refl ..
  extract_lets x0 x1
  have hx1 : Frame [.hif, .twn] W s x1 := by
    (with_reducible conv => arg 4; whnf)
    with_reducible refine Frame.clr ?_ ?_
    with_reducible refine Frame.step ?_ (State.putTwn_frame _ _) (by decide)
    exact Frame.refl ..
    exact hw0
  with_reducible refine Frame.iteOf ?_ ?_
  with_reducible refine Frame.step ?_ (State.endWaits_frame _ _ _ _ _ _) (by decide)
  with_reducible refine Frame.set1 ?_ ?_
  with_reducible refine Frame.setF ?_ ?_
  with_reducible refine Frame.set1 ?_ ?_
  exact hx1
  exact hw1; exact hw1; exact hw2
  with_reducible refine Frame.step ?_ (State.endWaits_frame _ _ _ _ _ _) (by decide)
  with_reducible refine Frame.set1 ?_ ?_
  exact hx1
  exact hw1

theorem State.joinStart_frame {W : Nat → Prop} (s : State) (h : PairHb) (hw0 : W (R.TWN_EPOCH)) (hw1 : W (R.TWN_STAT)) (hw2 : W (R.TWN_JOIN)) (hw3 : W (R.ZLP_SSTAT)) : Frame [.cyc, .ring, .twn] W s (State.joinStart s h) := by
  unfold State.joinStart
  extract_lets x0 x1 x2 x3 x4 x5
  have hx0 : Frame [.cyc, .ring, .twn] W s x0 := by
    (with_reducible conv => arg 4; whnf)
    with_reducible refine Frame.clr ?_ ?_
    with_reducible refine Frame.setF ?_ ?_
    with_reducible refine Frame.setF ?_ ?_
    exact Frame.refl ..
    exact hw0; exact hw1; exact hw1
  have hx1 : Frame [.cyc, .ring, .twn] W s x1 := by
    (with_reducible conv => arg 4; whnf)
    with_reducible refine Frame.setF ?_ ?_
    with_reducible refine Frame.putReg ?_ ?_
    exact hx0
    exact hw2; exact hw3
  have hx2 : Frame [.cyc, .ring, .twn] W s x2 := by
    (with_reducible conv => arg 4; whnf)
    with_reducible refine Frame.step ?_ (State.takeCfg_frame _) (by decide)
    exact hx1
  have hx4 : Frame [.cyc, .ring, .twn] W s x4 := by
    (with_reducible conv => arg 4; whnf)
    ((with_reducible refine Frame.upd ?_ ?_); on_goal 2 => (intro p hp; cases p <;> first | exact (hp (by decide)).elim | (dsimp only [Part.same] <;> fail)))
    exact hx2
  with_reducible refine Frame.step ?_ (State.putTwn_frame _ _) (by decide)
  exact hx4

theorem State.pairDecide_frame {W : Nat → Prop} (s : State) (h : PairHb) (hw0 : W (R.TWN_STAT)) (hw1 : W (R.TWN_CTL)) (hw2 : W (R.TWN_EPOCH)) (hw3 : W (R.TWN_JOIN)) (hw4 : W (R.ZLP_SSTAT)) : Frame [.cyc, .hif, .ring, .twn] W s (State.pairDecide s h) := by
  unfold State.pairDecide
  split
  exact Frame.refl ..
  with_reducible refine Frame.iteOf ?_ ?_
  exact Frame.refl ..
  with_reducible refine Frame.iteOf ?_ ?_
  with_reducible refine Frame.step ?_ (State.pairFail_frame _ _ _ ?_ ?_) (by decide)
  exact Frame.refl ..
  exact hw0; exact hw1
  extract_lets x0 x1 x2
  have hx1 : Frame [.cyc, .hif, .ring, .twn] W s x1 := by
    (with_reducible conv => arg 4; whnf)
    with_reducible refine Frame.setF ?_ ?_
    with_reducible refine Frame.step ?_ (State.putTwn_frame _ _) (by decide)
    exact Frame.refl ..
    exact hw0
  with_reducible refine Frame.iteOf ?_ ?_
  with_reducible refine Frame.step ?_ (State.joinStart_frame _ _ ?_ ?_ ?_ ?_) (by decide)
  exact hx1
  exact hw2; exact hw0; exact hw3; exact hw4
  with_reducible refine Frame.step ?_ (State.endWaits_frame _ _ _ _ _ _) (by decide)
  with_reducible refine Frame.clr ?_ ?_
  with_reducible refine Frame.step ?_ (State.putTwn_frame _ _) (by decide)
  exact hx1
  exact hw1

theorem State.partnerRole_frame {W : Nat → Prop} (s : State) (h : PairHb) (hw0 : W (R.TWN_STAT)) : Frame [.twn] W s (State.partnerRole s h) := by
  unfold State.partnerRole
  with_reducible refine Frame.iteOf ?_ ?_
  exact Frame.refl ..
  with_reducible refine Frame.iteOf ?_ ?_
  with_reducible refine Frame.iteOf ?_ ?_
  with_reducible refine Frame.step ?_ (State.putTwn_frame _ _) (by decide)
  exact Frame.refl ..
  exact Frame.refl ..
  with_reducible refine Frame.iteOf ?_ ?_
  extract_lets x0 x1
  have hx1 : Frame [.twn] W s x1 := by
    (with_reducible conv => arg 4; whnf)
    with_reducible refine Frame.step ?_ (State.putTwn_frame _ _) (by decide)
    exact Frame.refl ..
  with_reducible refine Frame.whenDo ?_ ?_
  exact hx1
  intro u2 hu3
  with_reducible refine Frame.set1 ?_ ?_
  with_reducible refine Frame.setF ?_ ?_
  assumption
  exact hw0; exact hw0
  exact Frame.refl ..

theorem State.pairHeard_frame {W : Nat → Prop} (s : State) (h : PairHb) (info : PartnerInfo) (hw0 : W (R.TWN_PARTNER)) (hw1 : W (R.TWN_PDIGEST)) (hw2 : W (R.TWN_STAT)) (hw3 : W (R.EVT_PEND (115 / 32))) (hw4 : W (R.EVT_LOST_CNT)) (hw5 : W (R.EVT_STAT)) (hw6 : W (R.ZLP_SSTAT)) (hw7 : W (R.EVT_PEND (73 / 32))) (hw8 : W (R.TWN_EPOCH)) (hw9 : W (R.TWN_PDLV)) (hw10 : W (R.TWN_CTL)) (hw11 : W (R.TWN_JOIN)) : Frame [.evt, .cyc, .hif, .ring, .twn] W s (State.pairHeard s h info) := by
  unfold State.pairHeard
  extract_lets x0 x1 x2 x3 x4 x5 x6 x7 x8 x9 x10
  have hx1 : Frame [.evt, .cyc, .hif, .ring, .twn] W s x1 := by
    (with_reducible conv => arg 4; whnf)
    with_reducible refine Frame.setB ?_ ?_
    with_reducible refine Frame.setF ?_ ?_
    with_reducible refine Frame.setF ?_ ?_
    exact Frame.refl ..
    exact hw0; exact hw0; exact hw0
  have hx2 : Frame [.evt, .cyc, .hif, .ring, .twn] W s x2 := by
    (with_reducible conv => arg 4; whnf)
    with_reducible refine Frame.set1 ?_ ?_
    with_reducible refine Frame.putReg ?_ ?_
    exact hx1
    exact hw1; exact hw2
  have hx4 : Frame [.evt, .cyc, .hif, .ring, .twn] W s x4 := by
    (with_reducible conv => arg 4; whnf)
    with_reducible refine Frame.step ?_ (State.putTwn_frame _ _) (by decide)
    exact hx2
  have hx5 : Frame [.evt, .cyc, .hif, .ring, .twn] W s x5 := by
    (with_reducible conv => arg 4; whnf)
    with_reducible refine Frame.whenDo ?_ ?_
    exact hx4
    intro u19 hu20
    with_reducible refine Frame.step ?_ (State.digestCompare_frame _ ?_ ?_ ?_ ?_) (by decide)
    assumption
    exact hw2; exact hw3; exact hw4; exact hw5
  have hx6 : Frame [.evt, .cyc, .hif, .ring, .twn] W s x6 := by
    (with_reducible conv => arg 4; whnf)
    with_reducible refine Frame.whenDo ?_ ?_
    exact hx5
    intro u17 hu18
    ((with_reducible refine Frame.upd ?_ ?_); on_goal 2 => (intro p hp; cases p <;> first | exact (hp (by decide)).elim | (dsimp only [Part.same] <;> fail)))
    assumption
  have hx8 : Frame [.evt, .cyc, .hif, .ring, .twn] W s x8 := by
    (with_reducible conv => arg 4; whnf)
    with_reducible refine Frame.whenDo ?_ ?_
    exact hx6
    intro u15 hu16
    with_reducible refine Frame.step ?_ (State.putTwn_frame _ _) (by decide)
    assumption
  have hx9 : Frame [.evt, .cyc, .hif, .ring, .twn] W s x9 := by
    (with_reducible conv => arg 4; whnf)
    with_reducible refine Frame.whenDo ?_ ?_
    exact hx8
    intro u13 hu14
    with_reducible refine Frame.step ?_ (State.splitLease_frame _ _ ?_ ?_ ?_ ?_) (by decide)
    assumption
    exact hw6; exact hw7; exact hw4; exact hw5
  have hx10 : Frame [.evt, .cyc, .hif, .ring, .twn] W s x10 := by
    (with_reducible conv => arg 4; whnf)
    with_reducible refine Frame.whenDo ?_ ?_
    exact hx9
    intro u11 hu12
    with_reducible refine Frame.step ?_ (State.holderHeard_frame _ _ ?_ ?_) (by decide)
    assumption
    exact hw8; exact hw9
  with_reducible refine Frame.step ?_ (State.joinDecide_frame _ _ ?_ ?_ ?_) (by decide)
  with_reducible refine Frame.step ?_ (State.pairDecide_frame _ _ ?_ ?_ ?_ ?_ ?_) (by decide)
  with_reducible refine Frame.step ?_ (State.partnerRole_frame _ _ ?_) (by decide)
  exact hx10
  exact hw2; exact hw2; exact hw10; exact hw8; exact hw11; exact hw6; exact hw10; exact hw2; exact hw11

theorem State.ringHeard_frame {W : Nat → Prop} (s : State) (port : ℕ) (fr : RxFrame) (hw0 : W (R.TWN_STAT)) : Frame [.twn] W s (State.ringHeard s port fr) := by
  unfold State.ringHeard
  extract_lets x0 x1 x2 x3 x4
  have hx1 : Frame [.twn] W s x1 := by
    (with_reducible conv => arg 4; whnf)
    with_reducible refine Frame.step ?_ (State.epochSeen_frame _ _) (by decide)
    exact Frame.refl ..
  have hx4 : Frame [.twn] W s x4 := by
    (with_reducible conv => arg 4; whnf)
    with_reducible refine Frame.set1 ?_ ?_
    with_reducible refine Frame.step ?_ (State.putTwn_frame _ _) (by decide)
    exact hx1
    exact hw0
  with_reducible refine Frame.iteOf ?_ ?_
  exact Frame.refl ..
  with_reducible refine Frame.iteOf ?_ ?_
  with_reducible refine Frame.whenDo ?_ ?_
  exact hx4
  intro u5 hu6
  with_reducible refine Frame.step ?_ (State.leaseHeard_frame _ _) (by decide)
  assumption
  exact hx1

theorem execPairHeartbeatReceive_frame {W : Nat → Prop} (hb : Heartbeat) (s : State) (hw0 : W (R.TWN_PAIR_ERR)) (hw1 : W (R.TWN_PARTNER)) (hw2 : W (R.TWN_PDIGEST)) (hw3 : W (R.TWN_STAT)) (hw4 : W (R.EVT_PEND (115 / 32))) (hw5 : W (R.EVT_LOST_CNT)) (hw6 : W (R.EVT_STAT)) (hw7 : W (R.ZLP_SSTAT)) (hw8 : W (R.EVT_PEND (73 / 32))) (hw9 : W (R.TWN_EPOCH)) (hw10 : W (R.TWN_PDLV)) (hw11 : W (R.TWN_CTL)) (hw12 : W (R.TWN_JOIN)) : Frame.out [.evt, .cyc, .hif, .ring, .twn] W s (execPairHeartbeatReceive hb s) := by
  unfold execPairHeartbeatReceive
  split
  with_reducible refine Frame.out_next ?_
  with_reducible refine State.pairRx_frame _ _ _ ?_ (by decide) ?_ ?_
  exact hw0
  exact Frame.refl ..
  intro u0 hu1
  split
  with_reducible refine Frame.step ?_ (State.pairHeard_frame _ _ _ ?_ ?_ ?_ ?_ ?_ ?_ ?_ ?_ ?_ ?_ ?_ ?_) (by decide)
  assumption
  exact hw1; exact hw2; exact hw3; exact hw4; exact hw5; exact hw6; exact hw7; exact hw8; exact hw9; exact hw10; exact hw11; exact hw12
  assumption
  with_reducible refine Frame.out_next ?_
  with_reducible refine Frame.iteOf ?_ ?_
  with_reducible refine Frame.step ?_ (State.ringHeard_frame _ _ _ ?_) (by decide)
  exact Frame.refl ..
  exact hw3
  exact Frame.refl ..

theorem execLeaseDeadline_frame {W : Nat → Prop} (s : State) (hw0 : W (R.TWN_EPOCH)) (hw1 : W (R.TWN_STAT)) (hw2 : W (R.TWN_TAKE_CNT)) (hw3 : W (R.EVT_PEND (112 / 32))) (hw4 : W (R.EVT_LOST_CNT)) (hw5 : W (R.EVT_STAT)) (hw6 : W (R.HIF_CQ_STAT)) : Frame.out [.free, .evt, .twn] W s (execLeaseDeadline s) := by
  unfold execLeaseDeadline
  split
  with_reducible refine Frame.out_next ?_
  with_reducible refine Frame.step ?_ (State.twnTake_frame _ ?_ ?_ ?_ ?_ ?_ ?_ ?_) (by decide)
  exact Frame.refl ..
  exact hw0; exact hw1; exact hw2; exact hw3; exact hw4; exact hw5; exact hw6
  with_reducible refine Frame.out_next ?_
  exact Frame.refl ..

theorem execPartnerLoss_frame {W : Nat → Prop} (s : State) (hw0 : W (R.TWN_STAT)) : Frame.out [] W s (execPartnerLoss s) := by
  unfold execPartnerLoss
  split
  with_reducible refine Frame.out_next ?_
  with_reducible refine Frame.clr ?_ ?_
  with_reducible refine Frame.setF ?_ ?_
  exact Frame.refl ..
  exact hw0; exact hw0
  with_reducible refine Frame.out_next ?_
  exact Frame.refl ..

theorem execYield_frame {W : Nat → Prop} (s : State) (hw0 : W (R.GLB_ACC_ERR)) (hw1 : W (R.TWN_EPOCH)) (hw2 : W (R.TWN_CTL)) (hw3 : W (R.TWN_STAT)) : Frame.out [.hif, .twn] W s (execYield s) := by
  unfold execYield
  with_reducible refine Frame.out_next ?_
  with_reducible refine State.bar0Write_frame _ _ _ ?_ (by decide) ?_ ?_
  exact hw0
  exact Frame.refl ..
  intro u0 hu1
  with_reducible refine Frame.step ?_ (State.twinYield_frame _ _ ?_ ?_ ?_) (by decide)
  assumption
  exact hw1; exact hw2; exact hw3

theorem execPair_frame {W : Nat → Prop} (s : State) (hw0 : W (R.GLB_ACC_ERR)) (hw1 : W (R.TWN_CTL)) (hw2 : W (R.TWN_STAT)) : Frame.out [.hif, .twn] W s (execPair s) := by
  unfold execPair
  with_reducible refine Frame.out_next ?_
  with_reducible refine State.bar0Write_frame _ _ _ ?_ (by decide) ?_ ?_
  exact hw0
  exact Frame.refl ..
  intro u0 hu1
  with_reducible refine Frame.step ?_ (State.twinPair_frame _ _ _ ?_ ?_) (by decide)
  assumption
  exact hw1; exact hw2

theorem execJoin_frame {W : Nat → Prop} (s : State) (hw0 : W (R.GLB_ACC_ERR)) (hw1 : W (R.TWN_CTL)) (hw2 : W (R.TWN_STAT)) : Frame.out [.hif, .twn] W s (execJoin s) := by
  unfold execJoin
  with_reducible refine Frame.out_next ?_
  with_reducible refine State.bar0Write_frame _ _ _ ?_ (by decide) ?_ ?_
  exact hw0
  exact Frame.refl ..
  intro u0 hu1
  with_reducible refine Frame.step ?_ (State.twinPair_frame _ _ _ ?_ ?_) (by decide)
  assumption
  exact hw1; exact hw2

theorem State.putCur_frame {W : Nat → Prop} (s : State) (k : ℕ) (p : Packet) : Frame [.hif] W s (State.putCur s k p) := by
  unfold State.putCur
  with_reducible refine Frame.step ?_ (State.putCore_frame _ _ _) (by decide)
  exact Frame.refl ..

theorem execStateFrameReceive_frame {W : Nat → Prop} (bytes : List Byte) (s : State) (hw0 : W (R.TWN_PAIR_ERR)) : Frame.out [.twn] W s (execStateFrameReceive bytes s) := by
  unfold execStateFrameReceive
  with_reducible refine Frame.out_next ?_
  with_reducible refine State.pairRx_frame _ _ _ ?_ (by decide) ?_ ?_
  exact hw0
  exact Frame.refl ..
  intro u0 hu1
  with_reducible refine Frame.iteOf ?_ ?_
  with_reducible refine Frame.step ?_ (State.putTwn_frame _ _) (by decide)
  assumption
  assumption

theorem State.installAxis_frame {W : Nat → Prop} (s : State) (x : ℕ × Word × List Byte) (hw0 : W (R.AXT_W2 (Prod.fst x))) (hw1 : W (R.TWN_JOIN)) : Frame [.deck, .twn] W s (State.installAxis s x) := by
  unfold State.installAxis
  extract_lets x0 x1 x2 x3 x4 x5
  have hx1 : Frame [.deck, .twn] W s x1 := by
    (with_reducible conv => arg 4; whnf)
    with_reducible refine Frame.step ?_ (State.putDyn_frame _ _ _) (by decide)
    exact Frame.refl ..
  have hx2 : Frame [.deck, .twn] W s x2 := by
    (with_reducible conv => arg 4; whnf)
    with_reducible refine Frame.whenDo ?_ ?_
    exact hx1
    intro u6 hu7
    with_reducible refine Frame.setF ?_ ?_
    assumption
    exact hw0
  have hx4 : Frame [.deck, .twn] W s x4 := by
    (with_reducible conv => arg 4; whnf)
    with_reducible refine Frame.setF ?_ ?_
    exact hx2
    exact hw1
  with_reducible refine Frame.iteOf ?_ ?_
  with_reducible refine Frame.step ?_ (State.putTwn_frame _ _) (by decide)
  exact hx4
  exact Frame.refl ..

theorem execStateInstall_frame {W : Nat → Prop} (s : State) (hw0 : ∀ i0, W (R.AXT_W2 i0)) (hw1 : W (R.TWN_JOIN)) : Frame.out [.deck, .twn] W s (execStateInstall s) := by
  unfold execStateInstall
  extract_lets x0 x1 x2
  split
  with_reducible refine Frame.out_next ?_
  with_reducible refine Frame.eachDo ?_ ?_
  with_reducible refine Frame.step ?_ (State.putTwn_frame _ _) (by decide)
  exact Frame.refl ..
  intro u3 x4 hu5
  with_reducible refine Frame.step ?_ (State.installAxis_frame _ _ ?_ ?_) (by decide)
  assumption
  exact hw0 _; exact hw1
  with_reducible refine Frame.out_next ?_
  exact Frame.refl ..

theorem execTimingMarkReceive_frame {W : Nat → Prop} (bytes : List Byte) (stamp : ℕ) (s : State) (hw0 : W (R.TWN_PAIR_ERR)) (hw1 : W (R.TWN_PHASE)) (hw2 : W (R.TWN_TOFF)) : Frame.out [.free] W s (execTimingMarkReceive bytes stamp s) := by
  unfold execTimingMarkReceive
  with_reducible refine Frame.out_next ?_
  with_reducible refine State.pairRx_frame _ _ _ ?_ (by decide) ?_ ?_
  exact hw0
  exact Frame.refl ..
  intro u0 hu1
  with_reducible refine Frame.iteOf ?_ ?_
  extract_lets x2 x3 x4 x5 x6 x7
  have hx6 : Frame [.free] W s x6 := by
    (with_reducible conv => arg 4; whnf)
    with_reducible refine Frame.step ?_ (State.drewFree_frame _) (by decide)
    assumption
  have hx7 : Frame [.free] W s x7 := by
    (with_reducible conv => arg 4; whnf)
    with_reducible refine Frame.setF ?_ ?_
    exact hx6
    exact hw1
  with_reducible refine Frame.setF ?_ ?_
  exact hx7
  exact hw2
  assumption

theorem execDigestPassEnd_frame {W : Nat → Prop} (s : State) (hw0 : W (R.TWN_DIGEST)) (hw1 : W (R.TWN_STAT)) (hw2 : W (R.EVT_PEND (115 / 32))) (hw3 : W (R.EVT_LOST_CNT)) (hw4 : W (R.EVT_STAT)) : Frame.out [.evt, .twn] W s (execDigestPassEnd s) := by
  unfold execDigestPassEnd
  split
  extract_lets x0 x1
  have hx0 : Frame [.evt, .twn] W s x0 := by
    (with_reducible conv => arg 4; whnf)
    with_reducible refine Frame.putReg ?_ ?_
    exact Frame.refl ..
    exact hw0
  with_reducible refine Frame.out_next ?_
  with_reducible refine Frame.step ?_ (State.digestCompare_frame _ ?_ ?_ ?_ ?_) (by decide)
  with_reducible refine Frame.step ?_ (State.putTwn_frame _ _) (by decide)
  exact hx0
  exact hw1; exact hw2; exact hw3; exact hw4
  with_reducible refine Frame.out_next ?_
  exact Frame.refl ..

theorem State.twinMismatch_frame {W : Nat → Prop} (s : State) (bcn : ℕ) (win : ℕ) (hw0 : W (R.TWN_MIS_CNT)) (hw1 : W (R.TWN_MIS_FIRST)) (hw2 : W (R.TWN_STAT)) (hw3 : W (R.EVT_PEND (114 / 32))) (hw4 : W (R.EVT_LOST_CNT)) (hw5 : W (R.EVT_STAT)) : Frame [.evt] W s (State.twinMismatch s bcn win) := by
  unfold State.twinMismatch
  extract_lets x0 x1
  have hx0 : Frame [.evt] W s x0 := by
    (with_reducible conv => arg 4; whnf)
    with_reducible refine Frame.incSat ?_ ?_
    exact Frame.refl ..
    exact hw0
  have hx1 : Frame [.evt] W s x1 := by
    (with_reducible conv => arg 4; whnf)
    with_reducible refine Frame.whenDo ?_ ?_
    exact hx0
    intro u2 hu3
    with_reducible refine Frame.set1 ?_ ?_
    with_reducible refine Frame.setF ?_ ?_
    with_reducible refine Frame.setF ?_ ?_
    assumption
    exact hw1; exact hw1; exact hw1
  with_reducible refine Frame.step ?_ (State.raise_frame _ _ _ _ ?_ ?_ ?_) (by decide)
  with_reducible refine Frame.set1 ?_ ?_
  exact hx1
  exact hw2; exact hw3; exact hw4; exact hw5

theorem execPartnerCopyCompare_frame {W : Nat → Prop} (port : Fin 6) (fr : RxFrame) (s : State) (hw0 : W (R.ZLP_P_RXCNT ↑port)) (hw1 : W (R.ZLP_P_STAT ↑port)) (hw2 : W (R.EVT_PEND (76 / 32))) (hw3 : W (R.EVT_LOST_CNT)) (hw4 : W (R.EVT_STAT)) (hw5 : W (R.ZLP_P_HCRCCNT ↑port)) (hw6 : W (R.ZLP_P_FCSCNT ↑port)) (hw7 : W (R.TWN_MIS_CNT)) (hw8 : W (R.TWN_MIS_FIRST)) (hw9 : W (R.TWN_STAT)) (hw10 : W (R.EVT_PEND (114 / 32))) : Frame.out [.evt, .twn] W s (execPartnerCopyCompare port fr s) := by
  unfold execPartnerCopyCompare
  extract_lets x0 x1 x2
  have hx1 : Frame [.evt, .twn] W s x1 := by
    (with_reducible conv => arg 4; whnf)
    with_reducible refine Frame.iteOf ?_ ?_
    exact Frame.refl ..
    with_reducible refine Frame.step ?_ (State.rxCount_frame _ _ _ ?_ ?_ ?_ ?_ ?_ ?_ ?_) (by decide)
    exact Frame.refl ..
    exact hw0; exact hw1; exact hw2; exact hw3; exact hw4; exact hw5; exact hw6
  have hx2 : Frame [.evt, .twn] W s x2 := by
    (with_reducible conv => arg 4; whnf)
    with_reducible refine Frame.step ?_ (State.epochSeen_frame _ _) (by decide)
    exact hx1
  split
  with_reducible refine Frame.out_next ?_
  exact Frame.refl ..
  split
  with_reducible refine Frame.out_next ?_
  exact hx1
  split
  with_reducible refine Frame.out_next ?_
  exact hx1
  split
  with_reducible refine Frame.out_next ?_
  exact hx2
  split
  with_reducible refine Frame.out_next ?_
  with_reducible refine Frame.step ?_ (State.twinMismatch_frame _ _ _ ?_ ?_ ?_ ?_ ?_ ?_) (by decide)
  exact hx2
  exact hw7; exact hw8; exact hw9; exact hw10; exact hw3; exact hw4
  with_reducible refine Frame.out_next ?_
  exact hx2

theorem execPairFrameError_frame {W : Nat → Prop} (s : State) (hw0 : W (R.TWN_PAIR_ERR)) : Frame.out [] W s (execPairFrameError s) := by
  unfold execPairFrameError
  with_reducible refine Frame.out_next ?_
  with_reducible refine Frame.step ?_ (State.pairBad_frame _ ?_) (by decide)
  exact Frame.refl ..
  exact hw0

theorem State.bar2Host_frame {W : Nat → Prop} {ps : List Part} {s0 : State} (s : State) (g : State → State) (hsub : ∀ p ∈ ([] : List Part), p ∈ ps) (h0 : Frame ps W s0 s) (hg : ∀ u, Frame ps W s0 u → Frame ps W s0 (g u)) : Frame ps W s0 (State.bar2Host s g) := by
  unfold State.bar2Host
  with_reducible refine Frame.iteOf ?_ ?_
  assumption
  refine hg _ ?_
  assumption

theorem State.bar2Ignored_frame {W : Nat → Prop} (s : State) (hw0 : W (R.HIF_STAT)) (hw1 : W (R.HIF_WR_IGN_CNT)) : Frame [] W s (State.bar2Ignored s) := by
  unfold State.bar2Ignored
  with_reducible refine Frame.incSat ?_ ?_
  with_reducible refine Frame.set1 ?_ ?_
  exact Frame.refl ..
  exact hw0; exact hw1

theorem State.bellBad_frame {W : Nat → Prop} (s : State) (hw0 : W (R.HIF_STAT)) : Frame [] W s (State.bellBad s) := by
  unfold State.bellBad
  with_reducible refine Frame.set1 ?_ ?_
  exact Frame.refl ..
  exact hw0

theorem State.sqBell_frame {W : Nat → Prop} (s : State) (q : ℕ) (v : Word) (hw0 : W (R.HIF_SQ_STAT q)) (hw1 : W (R.HIF_STAT)) : Frame [.hif] W s (State.sqBell s q v) := by
  unfold State.sqBell
  extract_lets x0 x1 x2 x3
  have hx3 : Frame [.hif] W s x3 := by
    (with_reducible conv => arg 4; whnf)
    with_reducible refine Frame.setF ?_ ?_
    exact Frame.refl ..
    exact hw0
  with_reducible refine Frame.iteOf ?_ ?_
  with_reducible refine Frame.step ?_ (State.bellBad_frame _ ?_) (by decide)
  exact Frame.refl ..
  exact hw1
  with_reducible refine Frame.eachDo ?_ ?_
  exact hx3
  intro u4 x5 hu6
  ((with_reducible refine Frame.step ?_ (State.putHif_keep _ _ ?_) (by decide)); on_goal 2 => first | with_reducible rfl | with_reducible exact ⟨rfl, rfl⟩ | (simp +zetaDelta <;> fail))
  assumption

theorem State.cqBell_frame {W : Nat → Prop} (s : State) (v : Word) (hw0 : W (R.HIF_STAT)) (hw1 : W (R.HIF_CQ_PTR)) (hw2 : W (R.HIF_CQ_STAT)) : Frame [] W s (State.cqBell s v) := by
  unfold State.cqBell
  extract_lets x0
  with_reducible refine Frame.iteOf ?_ ?_
  with_reducible refine Frame.step ?_ (State.bellBad_frame _ ?_) (by decide)
  exact Frame.refl ..
  exact hw0
  with_reducible refine Frame.step ?_ (State.cqSync_frame _ ?_) (by decide)
  with_reducible refine Frame.setF ?_ ?_
  exact Frame.refl ..
  exact hw1; exact hw2

theorem State.bar2Write_frame {W : Nat → Prop} (s : State) (off : ℕ) (ws : List Word) (hw0 : W (R.HIF_STAT)) (hw1 : W (R.HIF_WR_IGN_CNT)) (hw2 : W (R.HIF_SQ_STAT ((off - 98304) / 4))) (hw3 : W (R.HIF_CQ_PTR)) (hw4 : W (R.HIF_CQ_STAT)) : Frame [.hif, .window] W s (State.bar2Write s off ws) := by
  unfold State.bar2Write
  with_reducible refine Frame.iteOf ?_ ?_
  with_reducible refine Frame.iteOf ?_ ?_
  with_reducible refine Frame.step ?_ (State.bar2Ignored_frame _ ?_ ?_) (by decide)
  exact Frame.refl ..
  exact hw0; exact hw1
  with_reducible refine Frame.step ?_ (State.bar2Put_frame _ _ _) (by decide)
  exact Frame.refl ..
  split
  with_reducible refine Frame.iteOf ?_ ?_
  with_reducible refine Frame.step ?_ (State.sqBell_frame _ _ _ ?_ ?_) (by decide)
  exact Frame.refl ..
  exact hw2; exact hw0
  with_reducible refine Frame.iteOf ?_ ?_
  with_reducible refine Frame.step ?_ (State.cqBell_frame _ _ ?_ ?_ ?_) (by decide)
  exact Frame.refl ..
  exact hw0; exact hw3; exact hw4
  with_reducible refine Frame.step ?_ (State.bar2Ignored_frame _ ?_ ?_) (by decide)
  exact Frame.refl ..
  exact hw0; exact hw1
  with_reducible refine Frame.step ?_ (State.bar2Ignored_frame _ ?_ ?_) (by decide)
  exact Frame.refl ..
  exact hw0; exact hw1

theorem execSqEntryWrite_frame {W : Nat → Prop} (off : ℕ) (words : List Word) (s : State) (hw0 : W (R.HIF_STAT)) (hw1 : W (R.HIF_WR_IGN_CNT)) (hw2 : W (R.HIF_SQ_STAT ((off - 98304) / 4))) (hw3 : W (R.HIF_CQ_PTR)) (hw4 : W (R.HIF_CQ_STAT)) : Frame.out [.hif, .window] W s (execSqEntryWrite off words s) := by
  unfold execSqEntryWrite
  with_reducible refine Frame.out_next ?_
  with_reducible refine State.bar2Host_frame _ _ (by decide) ?_ ?_
  exact Frame.refl ..
  intro u0 hu1
  with_reducible refine Frame.step ?_ (State.bar2Write_frame _ _ _ ?_ ?_ ?_ ?_ ?_) (by decide)
  assumption
  exact hw0; exact hw1; exact hw2; exact hw3; exact hw4

theorem execSqDoorbell_frame {W : Nat → Prop} (q : Fin 4) (val : Word) (s : State) (hw0 : W (R.GLB_ACC_ERR)) (hw1 : W (R.HIF_SQ_STAT ↑q)) (hw2 : W (R.HIF_STAT)) : Frame.out [.hif] W s (execSqDoorbell q val s) := by
  unfold execSqDoorbell
  with_reducible refine Frame.out_next ?_
  with_reducible refine State.hostWrite_frame _ _ _ ?_ (by decide) ?_ ?_
  exact hw0
  exact Frame.refl ..
  intro u0 hu1
  with_reducible refine Frame.step ?_ (State.sqBell_frame _ _ _ ?_ ?_) (by decide)
  assumption
  exact hw1; exact hw2

theorem execCqHeadDoorbell_frame {W : Nat → Prop} (val : Word) (s : State) (hw0 : W (R.GLB_ACC_ERR)) (hw1 : W (R.HIF_STAT)) (hw2 : W (R.HIF_CQ_PTR)) (hw3 : W (R.HIF_CQ_STAT)) : Frame.out [] W s (execCqHeadDoorbell val s) := by
  unfold execCqHeadDoorbell
  with_reducible refine Frame.out_next ?_
  with_reducible refine State.hostWrite_frame _ _ _ ?_ (by decide) ?_ ?_
  exact hw0
  exact Frame.refl ..
  intro u0 hu1
  with_reducible refine Frame.step ?_ (State.cqBell_frame _ _ ?_ ?_ ?_) (by decide)
  assumption
  exact hw1; exact hw2; exact hw3

theorem State.packetStart_frame {W : Nat → Prop} (s : State) (k : ℕ) (p : Packet) (hw0 : W (R.TWN_STAT)) : Frame [.hif] W s (State.packetStart s k p) := by
  unfold State.packetStart
  split
  extract_lets x0 x1
  have hx0 : Frame [.hif] W s x0 := by
    (with_reducible conv => arg 4; whnf)
    with_reducible refine Frame.whenDo ?_ ?_
    exact Frame.refl ..
    intro u2 hu3
    with_reducible refine Frame.set1 ?_ ?_
    assumption
    exact hw0
  with_reducible refine Frame.step ?_ (State.finish_frame _ _ _ _ _ _) (by decide)
  with_reducible refine Frame.step ?_ (State.putCore_frame _ _ _) (by decide)
  exact hx0
  extract_lets x4 x5 x6 x7
  with_reducible refine Frame.iteOf ?_ ?_
  with_reducible refine Frame.step ?_ (State.putCore_frame _ _ _) (by decide)
  exact Frame.refl ..
  with_reducible refine Frame.step ?_ (State.putCore_frame _ _ _) (by decide)
  exact Frame.refl ..

theorem State.fetch_frame {W : Nat → Prop} (s : State) (k : ℕ) (q : ℕ) (hw0 : W (R.HIF_SQ_STAT q)) (hw1 : W (R.HIF_CQ_STAT)) (hw2 : W (R.TWN_STAT)) : Frame [.hif] W s (State.fetch s k q) := by
  unfold State.fetch
  extract_lets x0 x1 x2 x3 x4 x5 x6 x7 x8
  have hx5 : Frame [.hif] W s x5 := by
    (with_reducible conv => arg 4; whnf)
    with_reducible refine Frame.step ?_ (State.cqReserve_frame _ ?_) (by decide)
    with_reducible refine Frame.setF ?_ ?_
    exact Frame.refl ..
    exact hw0; exact hw1
  have hx7 : Frame [.hif] W s x7 := by
    (with_reducible conv => arg 4; whnf)
    with_reducible refine Frame.step ?_ (State.putCore_frame _ _ _) (by decide)
    exact hx5
  with_reducible refine Frame.iteOf ?_ ?_
  with_reducible refine Frame.step ?_ (State.putCore_frame _ _ _) (by decide)
  exact hx7
  with_reducible refine Frame.step ?_ (State.packetStart_frame _ _ _ ?_) (by decide)
  exact hx7
  exact hw2

theorem execPacketFetch_frame {W : Nat → Prop} (core : Fin 2) (s : State) (hw0 : ∀ i0, W (R.HIF_SQ_STAT i0)) (hw1 : W (R.HIF_CQ_STAT)) (hw2 : W (R.TWN_STAT)) (hw3 : W (R.HIF_STALL_CNT)) : Frame.out [.hif] W s (execPacketFetch core s) := by
  unfold execPacketFetch
  extract_lets x0 x1
  split
  with_reducible refine Frame.out_next ?_
  exact Frame.refl ..
  split
  with_reducible refine Frame.out_next ?_
  exact Frame.refl ..
  split
  with_reducible refine Frame.out_next ?_
  with_reducible refine Frame.step ?_ (State.fetch_frame _ _ _ ?_ ?_ ?_) (by decide)
  exact Frame.refl ..
  exact hw0 _; exact hw1; exact hw2
  with_reducible refine Frame.out_next ?_
  with_reducible refine Frame.step ?_ (State.countStall_frame _ ?_) (by decide)
  with_reducible refine Frame.step ?_ (State.putCore_frame _ _ _) (by decide)
  exact Frame.refl ..
  exact hw3

theorem State.dmaFail_frame {W : Nat → Prop} (s : State) (t : PktTag) (hw0 : W (R.HIF_STAT)) (hw1 : W (R.EVT_PEND (226 / 32))) (hw2 : W (R.EVT_LOST_CNT)) (hw3 : W (R.EVT_STAT)) : Frame [.evt, .hif] W s (State.dmaFail s t) := by
  unfold State.dmaFail
  with_reducible refine Frame.step ?_ (State.packetEnds_frame _ _ _ _ _) (by decide)
  with_reducible refine Frame.step ?_ (State.raise_frame _ _ _ _ ?_ ?_ ?_) (by decide)
  with_reducible refine Frame.set1 ?_ ?_
  exact Frame.refl ..
  exact hw0; exact hw1; exact hw2; exact hw3

theorem State.dmaLat_frame {W : Nat → Prop} (s : State) (n : ℕ) (hw0 : W (R.HIF_DMA_LAT)) : Frame [] W s (State.dmaLat s n) := by
  unfold State.dmaLat
  extract_lets x0
  have hx0 : Frame [] W s x0 := by
    (with_reducible conv => arg 4; whnf)
    with_reducible refine Frame.setF ?_ ?_
    exact Frame.refl ..
    exact hw0
  with_reducible refine Frame.setF ?_ ?_
  exact hx0
  exact hw0

theorem execPayloadDmaComplete_frame {W : Nat → Prop} (core : Fin 2) (res : DmaResult) (s : State) (hw0 : W (R.HIF_STAT)) (hw1 : W (R.EVT_PEND (226 / 32))) (hw2 : W (R.EVT_LOST_CNT)) (hw3 : W (R.EVT_STAT)) (hw4 : W (R.HIF_DMA_LAT)) : Frame.out [.evt, .hif] W s (execPayloadDmaComplete core res s) := by
  unfold execPayloadDmaComplete
  extract_lets x0
  split
  with_reducible refine Frame.out_next ?_
  exact Frame.refl ..
  split
  with_reducible refine Frame.out_next ?_
  exact Frame.refl ..
  split
  with_reducible refine Frame.out_next ?_
  exact Frame.refl ..
  split
  with_reducible refine Frame.out_next ?_
  with_reducible refine Frame.step ?_ (State.dmaFail_frame _ _ ?_ ?_ ?_ ?_) (by decide)
  exact Frame.refl ..
  exact hw0; exact hw1; exact hw2; exact hw3
  split
  with_reducible refine Frame.out_next ?_
  exact Frame.refl ..
  extract_lets x1 x2
  have hx1 : Frame [.evt, .hif] W s x1 := by
    (with_reducible conv => arg 4; whnf)
    with_reducible refine Frame.step ?_ (State.dmaLat_frame _ _ ?_) (by decide)
    exact Frame.refl ..
    exact hw4
  with_reducible refine Frame.out_next ?_
  with_reducible refine Frame.step ?_ (State.putCore_frame _ _ _) (by decide)
  exact hx1

theorem execFenceRelease_frame {W : Nat → Prop} (core : Fin 2) (s : State) (hw0 : W (R.TWN_STAT)) : Frame.out [.hif] W s (execFenceRelease core s) := by
  unfold execFenceRelease
  extract_lets x0
  split
  with_reducible refine Frame.out_next ?_
  exact Frame.refl ..
  split
  with_reducible refine Frame.out_next ?_
  with_reducible refine Frame.step ?_ (State.packetStart_frame _ _ _ ?_) (by decide)
  exact Frame.refl ..
  exact hw0
  with_reducible refine Frame.out_next ?_
  exact Frame.refl ..

theorem State.mirrorSend_frame {W : Nat → Prop} (s : State) (k : ℕ) (p : Packet) : Frame [.hif, .twn] W s (State.mirrorSend s k p) := by
  unfold State.mirrorSend
  extract_lets x0 x1 x2 x3 x4 x5
  have hx4 : Frame [.hif, .twn] W s x4 := by
    (with_reducible conv => arg 4; whnf)
    with_reducible refine Frame.step ?_ (State.putCur_frame _ _ _) (by decide)
    with_reducible refine Frame.step ?_ (State.pairSend_frame _ _) (by decide)
    exact Frame.refl ..
  with_reducible refine Frame.step ?_ (State.putTwn_frame _ _) (by decide)
  exact hx4

theorem State.runPacket_frame {W : Nat → Prop} {ps : List Part} {s0 : State} (s : State) (k : ℕ) (op : ℕ) (g : State → Option PktTag → List Word → State) (hsub : ∀ p ∈ ([.hif, .twn] : List Part), p ∈ ps) (h0 : Frame ps W s0 s) (hg : ∀ u x0 x1, Frame ps W s0 u → Frame ps W s0 (g u x0 x1)) : Frame ps W s0 (State.runPacket s k op g) := by
  unfold State.runPacket
  split
  assumption
  with_reducible refine Frame.iteOf ?_ ?_
  with_reducible refine Frame.step ?_ (State.mirrorSend_frame _ _ _) (fun p hp => hsub p (by revert p hp; decide))
  assumption
  refine hg _ _ _ ?_
  assumption

theorem execPairLinkChange_frame {W : Nat → Prop} (up : Bool) (s : State) : Frame.out [.twn] W s (execPairLinkChange up s) := by
  unfold execPairLinkChange
  with_reducible refine Frame.out_next ?_
  with_reducible refine Frame.step ?_ (State.putTwn_frame _ _) (by decide)
  exact Frame.refl ..

end Sys2Proof.Machine
end

