-- ==== Sys2Proof/Laws/FrameTollgate.lean ====
section
/-! SUPPORT. The frame of each operation and of each command of the Tollgate operations: the parts and the registers it may change.
Each hypothesis says that the frame's set of registers holds one register that the operation writes. -/

set_option linter.all false
set_option maxRecDepth 4000

namespace Sys2Proof.Machine

theorem State.mirrorTake_frame {W : Nat → Prop} (s : State) (m : Mirror) : Frame [.twn] W s (State.mirrorTake s m) := by
  unfold State.mirrorTake
  with_reducible refine Frame.iteOf ?_ ?_
  with_reducible refine Frame.step ?_ (State.pairSend_frame _ _) (by decide)
  with_reducible refine Frame.step ?_ (State.putTwn_frame _ _) (by decide)
  exact Frame.refl ..
  exact Frame.refl ..

theorem execMirrorFrameReceive_frame {W : Nat → Prop} (bytes : List Byte) (s : State) (hw0 : W (R.TWN_PAIR_ERR)) : Frame.out [.twn] W s (execMirrorFrameReceive bytes s) := by
  unfold execMirrorFrameReceive
  with_reducible refine Frame.out_next ?_
  with_reducible refine State.pairRx_frame _ _ _ ?_ (by decide) ?_ ?_
  exact hw0
  exact Frame.refl ..
  intro u0 hu1
  split
  with_reducible refine Frame.step ?_ (State.mirrorTake_frame _ _) (by decide)
  assumption
  assumption

theorem State.mirrorAck_frame {W : Nat → Prop} (s : State) (num : ℕ) : Frame [.twn] W s (State.mirrorAck s num) := by
  unfold State.mirrorAck
  with_reducible refine Frame.step ?_ (State.putTwn_frame _ _) (by decide)
  exact Frame.refl ..

theorem execMirrorAckReceive_frame {W : Nat → Prop} (bytes : List Byte) (s : State) (hw0 : W (R.TWN_PAIR_ERR)) : Frame.out [.twn] W s (execMirrorAckReceive bytes s) := by
  unfold execMirrorAckReceive
  with_reducible refine Frame.out_next ?_
  with_reducible refine State.pairRx_frame _ _ _ ?_ (by decide) ?_ ?_
  exact hw0
  exact Frame.refl ..
  intro u0 hu1
  with_reducible refine Frame.iteOf ?_ ?_
  with_reducible refine Frame.step ?_ (State.mirrorAck_frame _ _) (by decide)
  assumption
  assumption

theorem State.opMbxWrite_frame {W : Nat → Prop} (s : State) (t : Option PktTag) (p : List Word) : Frame [.nt, .cyc, .chn, .hif] W s (State.opMbxWrite s t p) := by
  unfold State.opMbxWrite
  split
  with_reducible refine Frame.step ?_ (State.packetEnds_frame _ _ _ _ _) (by decide)
  exact Frame.refl ..
  with_reducible refine Frame.iteOf ?_ ?_
  with_reducible refine Frame.step ?_ (State.packetEnds_frame _ _ _ _ _) (by decide)
  exact Frame.refl ..
  split
  with_reducible refine Frame.step ?_ (State.packetEnds_frame _ _ _ _ _) (by decide)
  refine Frame.of_opt (by assumption) ?_
  with_reducible refine Frame.opt_comp ?_ (State.mbxApply_frame _ _ _) (by decide)
  exact Frame.refl ..
  with_reducible refine Frame.step ?_ (State.packetEnds_frame _ _ _ _ _) (by decide)
  exact Frame.refl ..

theorem State.packetEndsLate_frame {W : Nat → Prop} (s : State) (t : Option PktTag) (more : ℕ) (status : ℕ) (detail : ℕ) (res : List Word) : Frame [.hif] W s (State.packetEndsLate s t more status detail res) := by
  unfold State.packetEndsLate
  split
  exact Frame.refl ..
  with_reducible refine Frame.eachDo ?_ ?_
  with_reducible refine Frame.step ?_ (State.finish_frame _ _ _ _ _ _) (by decide)
  exact Frame.refl ..
  intro u0 x1 hu2
  split
  with_reducible refine Frame.iteOf ?_ ?_
  with_reducible refine Frame.step ?_ (State.putCore_frame _ _ _) (by decide)
  assumption
  assumption
  assumption

theorem State.opAxisEnable_frame {W : Nat → Prop} (s : State) (t : Option PktTag) (p : List Word) (hw0 : W (R.AXT_W1 (payAxis p))) (hw1 : W (R.AXT_STAT)) (hw2 : W (R.AXT_W0 (payAxis p))) (hw3 : ∀ i0 i1, W (R.PIR_RES i0 i1)) (hw4 : W (R.AXT_W2 (payAxis p))) (hw5 : W (R.DSP_DL (payAxis p))) : Frame [.axes, .deck, .hif] W s (State.opAxisEnable s t p) := by
  unfold State.opAxisEnable
  extract_lets x0 x1 x2 x3
  have hx3 : Frame [.axes, .deck, .hif] W s x3.2 := by
    unfold x3
    with_reducible refine Frame.step ?_ (State.axisEnable_frame _ _ ?_ ?_ ?_ ?_ ?_) (by decide)
    with_reducible refine Frame.step ?_ (State.axisFields_frame _ _ _ ?_ ?_) (by decide)
    with_reducible refine Frame.step ?_ (State.plainWrite_frame _ _ _ ?_) (by decide)
    exact Frame.refl ..
    exact hw0; exact hw1; exact hw2; exact hw1; exact hw2; exact fun _ _ => hw3 _ _; exact hw4; exact hw5
  with_reducible refine Frame.iteOf ?_ ?_
  with_reducible refine Frame.step ?_ (State.packetEnds_frame _ _ _ _ _) (by decide)
  exact Frame.refl ..
  with_reducible refine Frame.iteOf ?_ ?_
  with_reducible refine Frame.step ?_ (State.packetEnds_frame _ _ _ _ _) (by decide)
  exact Frame.refl ..
  split
  with_reducible refine Frame.step ?_ (State.packetEndsLate_frame _ _ _ _ _ _) (by decide)
  exact hx3
  with_reducible refine Frame.step ?_ (State.packetEndsLate_frame _ _ _ _ _ _) (by decide)
  with_reducible refine Frame.putReg ?_ ?_
  with_reducible refine Frame.putReg ?_ ?_
  exact hx3
  exact hw2; exact hw0

theorem State.opAxisDisable_frame {W : Nat → Prop} (s : State) (t : Option PktTag) (p : List Word) (hw0 : W (R.AXT_W0 (payAxis p))) (hw1 : W (R.AXT_W2 (payAxis p))) (hw2 : ∀ i0 i1, W (R.PIR_RES i0 i1)) : Frame [.dsp, .piers, .axes, .hif] W s (State.opAxisDisable s t p) := by
  unfold State.opAxisDisable
  extract_lets x0 x1
  with_reducible refine Frame.iteOf ?_ ?_
  with_reducible refine Frame.step ?_ (State.packetEnds_frame _ _ _ _ _) (by decide)
  exact Frame.refl ..
  with_reducible refine Frame.iteOf ?_ ?_
  with_reducible refine Frame.step ?_ (State.packetEnds_frame _ _ _ _ _) (by decide)
  exact Frame.refl ..
  with_reducible refine Frame.step ?_ (State.packetEndsLate_frame _ _ _ _ _ _) (by decide)
  with_reducible refine Frame.step ?_ (State.axisDisable_frame _ _ ?_ ?_ ?_) (by decide)
  exact Frame.refl ..
  exact hw0; exact hw1; exact fun _ _ => hw2 _ _

theorem State.onPacket_frame {W : Nat → Prop} (s : State) (t : PktTag) (f : Packet → Packet) : Frame [.hif] W s (State.onPacket s t f) := by
  unfold State.onPacket
  with_reducible refine Frame.eachDo ?_ ?_
  exact Frame.refl ..
  intro u0 x1 hu2
  split
  with_reducible refine Frame.iteOf ?_ ?_
  with_reducible refine Frame.step ?_ (State.putCur_frame _ _ _) (by decide)
  assumption
  assumption
  assumption

theorem State.landItems_frame {W : Nat → Prop} {ps : List Part} {s0 : State} (s : State) (t : Option PktTag) (op : ℕ) (n : ℕ) (land : State → ℕ → State) (hsub : ∀ p ∈ ([.hif] : List Part), p ∈ ps) (h0 : Frame ps W s0 s) (hland : ∀ u x0, Frame ps W s0 u → Frame ps W s0 (land u x0)) : Frame ps W s0 (State.landItems s t op n land) := by
  unfold State.landItems
  split
  with_reducible refine Frame.eachDo ?_ ?_
  assumption
  intro u0 x1 hu2
  refine hland _ _ ?_
  assumption
  extract_lets x3 x4
  have hx4 : Frame ps W s0 x4 := by
    (with_reducible conv => arg 4; whnf)
    with_reducible refine Frame.eachDo ?_ ?_
    assumption
    intro u5 x6 hu7
    refine hland _ _ ?_
    assumption
  with_reducible refine Frame.iteOf ?_ ?_
  with_reducible refine Frame.step ?_ (State.packetEnds_frame _ _ _ _ _) (fun p hp => hsub p (by revert p hp; decide))
  exact hx4
  with_reducible refine Frame.step ?_ (State.onPacket_frame _ _ _) (fun p hp => hsub p (by revert p hp; decide))
  exact hx4

theorem State.opParamWrite_frame {W : Nat → Prop} (s : State) (t : Option PktTag) (p : List Word) : Frame [.deck, .deckMem, .hif] W s (State.opParamWrite s t p) := by
  unfold State.opParamWrite
  extract_lets x0 x1 x2
  with_reducible refine Frame.iteOf ?_ ?_
  with_reducible refine Frame.step ?_ (State.packetEnds_frame _ _ _ _ _) (by decide)
  exact Frame.refl ..
  with_reducible refine Frame.iteOf ?_ ?_
  with_reducible refine Frame.step ?_ (State.packetEnds_frame _ _ _ _ _) (by decide)
  exact Frame.refl ..
  split
  with_reducible refine Frame.step ?_ (State.packetEnds_frame _ _ _ _ _) (by decide)
  exact Frame.refl ..
  with_reducible refine State.landItems_frame _ _ _ _ _ (by decide) ?_ ?_
  exact Frame.refl ..
  intro u3 x4 hu5
  with_reducible refine Frame.step ?_ (State.parWrite_frame _ _ _ _) (by decide)
  assumption

theorem State.deckReads_frame {W : Nat → Prop} (s : State) (a : ℕ) (v2 : ℕ) : Frame [.free] W s (State.deckReads s a v2).2 := by
  induction v2 generalizing s a with
  | zero =>
    exact Frame.refl ..
  | succ n0 ih =>
    unfold State.deckReads
    extract_lets x0 x1
    have hx0 : Frame [.free] W s x0.2 := by
      unfold x0
      with_reducible refine Frame.step ?_ (State.deckRead_frame _ _) (by decide)
      exact Frame.refl ..
    have hx1 : Frame [.free] W s x1.2 := by
      unfold x1
      with_reducible refine Frame.step ?_ (ih _ _) (by decide)
      exact hx0
    (with_reducible conv => arg 4; whnf)
    exact hx1

theorem State.opParamRead_frame {W : Nat → Prop} (s : State) (t : Option PktTag) (p : List Word) : Frame [.free, .hif] W s (State.opParamRead s t p) := by
  unfold State.opParamRead
  extract_lets x0 x1 x2 x3
  have hx3 : Frame [.free, .hif] W s x3.2 := by
    unfold x3
    with_reducible refine Frame.step ?_ (State.deckReads_frame _ _ _) (by decide)
    exact Frame.refl ..
  with_reducible refine Frame.iteOf ?_ ?_
  with_reducible refine Frame.step ?_ (State.packetEnds_frame _ _ _ _ _) (by decide)
  exact Frame.refl ..
  with_reducible refine Frame.iteOf ?_ ?_
  with_reducible refine Frame.step ?_ (State.packetEnds_frame _ _ _ _ _) (by decide)
  exact Frame.refl ..
  with_reducible refine Frame.iteOf ?_ ?_
  with_reducible refine Frame.step ?_ (State.packetEnds_frame _ _ _ _ _) (by decide)
  exact Frame.refl ..
  with_reducible refine Frame.iteOf ?_ ?_
  with_reducible refine Frame.step ?_ (State.packetEnds_frame _ _ _ _ _) (by decide)
  exact Frame.refl ..
  with_reducible refine Frame.step ?_ (State.packetEnds_frame _ _ _ _ _) (by decide)
  exact hx3

theorem State.opFaultClear_frame {W : Nat → Prop} (s : State) (t : Option PktTag) (p : List Word) (hw0 : W (R.AXT_W2 (payAxis p))) : Frame [.piers, .deck, .hif] W s (State.opFaultClear s t p) := by
  unfold State.opFaultClear
  extract_lets x0
  with_reducible refine Frame.iteOf ?_ ?_
  with_reducible refine Frame.step ?_ (State.packetEnds_frame _ _ _ _ _) (by decide)
  exact Frame.refl ..
  with_reducible refine Frame.iteOf ?_ ?_
  with_reducible refine Frame.step ?_ (State.packetEnds_frame _ _ _ _ _) (by decide)
  with_reducible refine Frame.setF ?_ ?_
  with_reducible refine Frame.step ?_ (State.markWork_frame _ _ _) (by decide)
  with_reducible refine Frame.step ?_ (State.putDyn_frame _ _ _) (by decide)
  exact Frame.refl ..
  exact hw0
  with_reducible refine Frame.step ?_ (State.packetEnds_frame _ _ _ _ _) (by decide)
  exact Frame.refl ..

theorem State.dropResumes_frame {W : Nat → Prop} (s : State) (g : Resume → Bool) (after : ℕ) (status : ℕ) : Frame [.hif] W s (State.dropResumes s g after status) := by
  unfold State.dropResumes
  with_reducible refine Frame.step ?_ (State.endWaits_frame _ _ _ _ _ _) (by decide)
  exact Frame.refl ..

theorem State.packetWaits_frame {W : Nat → Prop} (s : State) (t : Option PktTag) : Frame [.hif] W s (State.packetWaits s t) := by
  unfold State.packetWaits
  split
  exact Frame.refl ..
  with_reducible refine Frame.step ?_ (State.coreEnds_frame _ _) (by decide)
  exact Frame.refl ..

theorem State.opGroupQuiesce_frame {W : Nat → Prop} (s : State) (t : Option PktTag) (p : List Word) : Frame [.hif] W s (State.opGroupQuiesce s t p) := by
  unfold State.opGroupQuiesce
  extract_lets x0 x1
  have hx1 : Frame [.hif] W s x1 := by
    (with_reducible conv => arg 4; whnf)
    with_reducible refine Frame.step ?_ (State.dropResumes_frame _ _ _ _) (by decide)
    exact Frame.refl ..
  split
  with_reducible refine Frame.step ?_ (State.packetEnds_frame _ _ _ _ _) (by decide)
  exact Frame.refl ..
  with_reducible refine Frame.step ?_ (State.packetWaits_frame _ _) (by decide)
  with_reducible refine Frame.step ?_ (State.addWait_frame _ _ _) (by decide)
  exact hx1

theorem State.opGroupResume_frame {W : Nat → Prop} (s : State) (t : Option PktTag) (p : List Word) : Frame [.hif] W s (State.opGroupResume s t p) := by
  unfold State.opGroupResume
  extract_lets x0 x1 x2
  with_reducible refine Frame.iteOf ?_ ?_
  with_reducible refine Frame.step ?_ (State.packetEnds_frame _ _ _ _ _) (by decide)
  exact Frame.refl ..
  split
  with_reducible refine Frame.step ?_ (State.packetEnds_frame _ _ _ _ _) (by decide)
  exact Frame.refl ..
  with_reducible refine Frame.step ?_ (State.packetWaits_frame _ _) (by decide)
  with_reducible refine Frame.step ?_ (State.addWait_frame _ _ _) (by decide)
  exact Frame.refl ..

theorem State.putBlock_frame {W : Nat → Prop} (s : State) (a : ℕ) (ws : List (ℕ × Word)) : Frame [.deck, .deckMem] W s (State.putBlock s a ws) := by
  unfold State.putBlock
  with_reducible refine Frame.eachDo ?_ ?_
  exact Frame.refl ..
  intro u0 x1 hu2
  with_reducible refine Frame.step ?_ (State.parWrite_frame _ _ _ _) (by decide)
  assumption

theorem State.sendBlock_frame {W : Nat → Prop} (s : State) (a : ℕ) (ws : List (ℕ × Word)) : Frame [.deck, .deckMem, .hif] W s (State.sendBlock s a ws) := by
  unfold State.sendBlock
  extract_lets x0 x1 x2
  have hx1 : Frame [.deck, .deckMem, .hif] W s x1 := by
    (with_reducible conv => arg 4; whnf)
    with_reducible refine Frame.step ?_ (State.putBlock_frame _ _ _) (by decide)
    exact Frame.refl ..
  ((with_reducible refine Frame.step ?_ (State.putHif_keep _ _ ?_) (by decide)); on_goal 2 => first | with_reducible rfl | with_reducible exact ⟨rfl, rfl⟩ | (simp +zetaDelta <;> fail))
  exact hx1

theorem State.motionOp_frame {W : Nat → Prop} (s : State) (t : Option PktTag) (op : ℕ) (offs : List ℕ) (p : List Word) : Frame [.deck, .deckMem, .hif] W s (State.motionOp s t op offs p) := by
  unfold State.motionOp
  extract_lets x0 x1 x2
  have hx2 : Frame [.deck, .deckMem, .hif] W s x2 := by
    (with_reducible conv => arg 4; whnf)
    with_reducible refine Frame.step ?_ (State.sendBlock_frame _ _ _) (by decide)
    exact Frame.refl ..
  with_reducible refine Frame.iteOf ?_ ?_
  with_reducible refine Frame.step ?_ (State.packetEnds_frame _ _ _ _ _) (by decide)
  exact Frame.refl ..
  with_reducible refine Frame.iteOf ?_ ?_
  with_reducible refine Frame.step ?_ (State.packetEnds_frame _ _ _ _ _) (by decide)
  exact Frame.refl ..
  with_reducible refine Frame.step ?_ (State.packetWaits_frame _ _) (by decide)
  with_reducible refine Frame.step ?_ (State.addWait_frame _ _ _) (by decide)
  exact hx2

theorem State.opMoveAbs_frame {W : Nat → Prop} (s : State) (t : Option PktTag) (p : List Word) : Frame [.deck, .deckMem, .hif] W s (State.opMoveAbs s t p) := by
  unfold State.opMoveAbs
  with_reducible refine Frame.step ?_ (State.motionOp_frame _ _ _ _ _) (by decide)
  exact Frame.refl ..

theorem State.opMoveRel_frame {W : Nat → Prop} (s : State) (t : Option PktTag) (p : List Word) : Frame [.deck, .deckMem, .hif] W s (State.opMoveRel s t p) := by
  unfold State.opMoveRel
  with_reducible refine Frame.step ?_ (State.motionOp_frame _ _ _ _ _) (by decide)
  exact Frame.refl ..

theorem State.opVelocity_frame {W : Nat → Prop} (s : State) (t : Option PktTag) (p : List Word) : Frame [.deck, .deckMem, .hif] W s (State.opVelocity s t p) := by
  unfold State.opVelocity
  with_reducible refine Frame.step ?_ (State.motionOp_frame _ _ _ _ _) (by decide)
  exact Frame.refl ..

theorem State.opStop_frame {W : Nat → Prop} (s : State) (t : Option PktTag) (p : List Word) : Frame [.deck, .deckMem, .hif] W s (State.opStop s t p) := by
  unfold State.opStop
  with_reducible refine Frame.step ?_ (State.motionOp_frame _ _ _ _ _) (by decide)
  exact Frame.refl ..

theorem State.opGear_frame {W : Nat → Prop} (s : State) (t : Option PktTag) (p : List Word) : Frame [.deck, .deckMem, .hif] W s (State.opGear s t p) := by
  unfold State.opGear
  with_reducible refine Frame.step ?_ (State.motionOp_frame _ _ _ _ _) (by decide)
  exact Frame.refl ..

theorem State.opCam_frame {W : Nat → Prop} (s : State) (t : Option PktTag) (p : List Word) : Frame [.deck, .deckMem, .hif] W s (State.opCam s t p) := by
  unfold State.opCam
  with_reducible refine Frame.step ?_ (State.motionOp_frame _ _ _ _ _) (by decide)
  exact Frame.refl ..

theorem State.opHome_frame {W : Nat → Prop} (s : State) (t : Option PktTag) (p : List Word) : Frame [.deck, .deckMem, .hif] W s (State.opHome s t p) := by
  unfold State.opHome
  with_reducible refine Frame.step ?_ (State.motionOp_frame _ _ _ _ _) (by decide)
  exact Frame.refl ..

theorem State.opGroupMove_frame {W : Nat → Prop} (s : State) (t : Option PktTag) (p : List Word) : Frame [.deck, .deckMem, .hif] W s (State.opGroupMove s t p) := by
  unfold State.opGroupMove
  extract_lets x0 x1 x2 x3 x4 x5 x6 x7 x8 x9 x10 x11 x12 x13
  have hx13 : Frame [.deck, .deckMem, .hif] W s x13 := by
    (with_reducible conv => arg 4; whnf)
    with_reducible refine Frame.eachDo ?_ ?_
    exact Frame.refl ..
    intro u14 x15 hu16
    with_reducible refine Frame.step ?_ (State.sendBlock_frame _ _ _) (by decide)
    assumption
  with_reducible refine Frame.iteOf ?_ ?_
  with_reducible refine Frame.step ?_ (State.packetEnds_frame _ _ _ _ _) (by decide)
  exact Frame.refl ..
  with_reducible refine Frame.iteOf ?_ ?_
  with_reducible refine Frame.step ?_ (State.packetEnds_frame _ _ _ _ _) (by decide)
  exact Frame.refl ..
  split
  with_reducible refine Frame.step ?_ (State.packetEnds_frame _ _ _ _ _) (by decide)
  exact Frame.refl ..
  split
  with_reducible refine Frame.step ?_ (State.packetEnds_frame _ _ _ _ _) (by decide)
  exact Frame.refl ..
  with_reducible refine Frame.step ?_ (State.packetWaits_frame _ _) (by decide)
  with_reducible refine Frame.step ?_ (State.addWait_frame _ _ _) (by decide)
  exact hx13

theorem State.estCommitWords_frame {W : Nat → Prop} (s : State) (idx : ℕ) (e : List Word) (hw0 : W (R.EST_OVFL_CNT)) (hw1 : W (R.EST_STAT)) (hw2 : W (R.EVT_PEND (20 / 32))) (hw3 : W (R.EVT_LOST_CNT)) (hw4 : W (R.EVT_STAT)) (hw5 : W (R.EST_SKIP_CNT)) : Frame [.evt, .est] W s (State.estCommitWords s idx e) := by
  unfold State.estCommitWords
  with_reducible refine Frame.step ?_ (State.estCommitEntry_frame _ _ _ _ _ _ ?_ ?_ ?_ ?_ ?_ ?_) (by decide)
  exact Frame.refl ..
  exact hw0; exact hw1; exact hw2; exact hw3; exact hw4; exact hw5

theorem State.opEstWrite_frame {W : Nat → Prop} (s : State) (t : Option PktTag) (p : List Word) (hw0 : W (R.EST_STAT)) (hw1 : W (R.EST_OVFL_CNT)) (hw2 : W (R.EVT_PEND (20 / 32))) (hw3 : W (R.EVT_LOST_CNT)) (hw4 : W (R.EVT_STAT)) (hw5 : W (R.EST_SKIP_CNT)) : Frame [.evt, .est, .hif] W s (State.opEstWrite s t p) := by
  unfold State.opEstWrite
  split
  with_reducible refine Frame.step ?_ (State.packetEnds_frame _ _ _ _ _) (by decide)
  with_reducible refine Frame.set1 ?_ ?_
  exact Frame.refl ..
  exact hw0
  with_reducible refine Frame.step ?_ (State.packetEnds_frame _ _ _ _ _) (by decide)
  with_reducible refine Frame.step ?_ (State.estCommitWords_frame _ _ _ ?_ ?_ ?_ ?_ ?_ ?_) (by decide)
  exact Frame.refl ..
  exact hw1; exact hw0; exact hw2; exact hw3; exact hw4; exact hw5

theorem State.opEstLoad_frame {W : Nat → Prop} (s : State) (t : Option PktTag) (p : List Word) (hw0 : W (R.EST_OVFL_CNT)) (hw1 : W (R.EST_STAT)) (hw2 : W (R.EVT_PEND (20 / 32))) (hw3 : W (R.EVT_LOST_CNT)) (hw4 : W (R.EVT_STAT)) (hw5 : W (R.EST_SKIP_CNT)) : Frame [.evt, .est, .hif] W s (State.opEstLoad s t p) := by
  unfold State.opEstLoad
  extract_lets x0 x1
  with_reducible refine Frame.iteOf ?_ ?_
  with_reducible refine Frame.step ?_ (State.packetEnds_frame _ _ _ _ _) (by decide)
  exact Frame.refl ..
  with_reducible refine Frame.iteOf ?_ ?_
  with_reducible refine Frame.step ?_ (State.packetEnds_frame _ _ _ _ _) (by decide)
  exact Frame.refl ..
  split
  with_reducible refine Frame.step ?_ (State.packetEnds_frame _ _ _ _ _) (by decide)
  exact Frame.refl ..
  with_reducible refine State.landItems_frame _ _ _ _ _ (by decide) ?_ ?_
  exact Frame.refl ..
  intro u2 x3 hu4
  with_reducible refine Frame.step ?_ (State.estCommitWords_frame _ _ _ ?_ ?_ ?_ ?_ ?_ ?_) (by decide)
  assumption
  exact hw0; exact hw1; exact hw2; exact hw3; exact hw4; exact hw5

theorem State.opCamLoad_frame {W : Nat → Prop} (s : State) (t : Option PktTag) (p : List Word) : Frame [.deck, .deckMem, .hif] W s (State.opCamLoad s t p) := by
  unfold State.opCamLoad
  extract_lets x0 x1
  with_reducible refine Frame.iteOf ?_ ?_
  with_reducible refine Frame.step ?_ (State.packetEnds_frame _ _ _ _ _) (by decide)
  exact Frame.refl ..
  with_reducible refine Frame.iteOf ?_ ?_
  with_reducible refine Frame.step ?_ (State.packetEnds_frame _ _ _ _ _) (by decide)
  exact Frame.refl ..
  with_reducible refine State.landItems_frame _ _ _ _ _ (by decide) ?_ ?_
  exact Frame.refl ..
  intro u2 x3 hu4
  with_reducible refine Frame.step ?_ (State.camPut_frame _ _ _ _) (by decide)
  assumption

theorem State.cymPut_frame {W : Nat → Prop} (s : State) (n : ℕ) (e : List Word) (hw0 : ∀ i0, W (R.CYM_W0 n + 4 * i0)) : Frame [] W s (State.cymPut s n e) := by
  unfold State.cymPut
  with_reducible refine Frame.eachDo ?_ ?_
  exact Frame.refl ..
  intro u0 x1 hu2
  with_reducible refine Frame.step ?_ (State.plainWrite_frame _ _ _ ?_) (by decide)
  assumption
  exact hw0 _

theorem State.opCymLoad_frame {W : Nat → Prop} (s : State) (t : Option PktTag) (p : List Word) (hw0 : ∀ i0 i1, W (R.CYM_W0 i0 + 4 * i1)) : Frame [.hif] W s (State.opCymLoad s t p) := by
  unfold State.opCymLoad
  extract_lets x0 x1
  with_reducible refine Frame.iteOf ?_ ?_
  with_reducible refine Frame.step ?_ (State.packetEnds_frame _ _ _ _ _) (by decide)
  exact Frame.refl ..
  with_reducible refine Frame.iteOf ?_ ?_
  with_reducible refine Frame.step ?_ (State.packetEnds_frame _ _ _ _ _) (by decide)
  exact Frame.refl ..
  with_reducible refine Frame.iteOf ?_ ?_
  with_reducible refine Frame.step ?_ (State.packetEnds_frame _ _ _ _ _) (by decide)
  exact Frame.refl ..
  with_reducible refine State.landItems_frame _ _ _ _ _ (by decide) ?_ ?_
  exact Frame.refl ..
  intro u2 x3 hu4
  with_reducible refine Frame.step ?_ (State.cymPut_frame _ _ _ ?_) (by decide)
  assumption
  exact fun _ => hw0 _ _

theorem State.opRingStart_frame {W : Nat → Prop} (s : State) (t : Option PktTag) (v2 : List Word) (hw0 : W (R.ZLP_CYMGEN)) (hw1 : W (R.ZLP_FAULT)) (hw2 : W (R.ZLP_STAT)) (hw3 : W (R.ZLP_RSTAT)) (hw4 : W (R.ZLP_BRK)) (hw5 : W (R.ZLP_SSTAT)) (hw6 : W (R.TWN_STAT)) (hw7 : W (R.TWN_EPOCH)) (hw8 : W (R.ZLP_BUDGET)) (hw9 : W (R.EVT_PEND (64 / 32))) (hw10 : W (R.EVT_LOST_CNT)) (hw11 : W (R.EVT_STAT)) : Frame [.evt, .cyc, .hif, .ring, .twn] W s (State.opRingStart s t v2) := by
  unfold State.opRingStart
  with_reducible refine Frame.step ?_ (State.packetWaits_frame _ _) (by decide)
  with_reducible refine Frame.step ?_ (State.ringStart_frame _ _ ?_ ?_ ?_ ?_ ?_ ?_ ?_ ?_ ?_ ?_ ?_ ?_) (by decide)
  exact Frame.refl ..
  exact hw0; exact hw1; exact hw2; exact hw3; exact hw4; exact hw5; exact hw6; exact hw7; exact hw8; exact hw9; exact hw10; exact hw11

theorem State.opRingHalt_frame {W : Nat → Prop} (s : State) (t : Option PktTag) (v2 : List Word) : Frame [.hif, .ring] W s (State.opRingHalt s t v2) := by
  unfold State.opRingHalt
  with_reducible refine Frame.step ?_ (State.packetWaits_frame _ _) (by decide)
  with_reducible refine Frame.step ?_ (State.ringHalt_frame _ _) (by decide)
  exact Frame.refl ..

theorem State.runMirrored_frame {W : Nat → Prop} (s : State) (op : ℕ) (t : Option PktTag) (p : List Word) (hw0 : W (R.AXT_W1 (payAxis p))) (hw1 : W (R.AXT_STAT)) (hw2 : W (R.AXT_W0 (payAxis p))) (hw3 : ∀ i0 i1, W (R.PIR_RES i0 i1)) (hw4 : W (R.AXT_W2 (payAxis p))) (hw5 : W (R.DSP_DL (payAxis p))) (hw6 : W (R.EST_STAT)) (hw7 : W (R.EST_OVFL_CNT)) (hw8 : W (R.EVT_PEND (20 / 32))) (hw9 : W (R.EVT_LOST_CNT)) (hw10 : W (R.EVT_STAT)) (hw11 : W (R.EST_SKIP_CNT)) (hw12 : ∀ i0 i1, W (R.CYM_W0 i0 + 4 * i1)) (hw13 : W (R.ZLP_CYMGEN)) (hw14 : W (R.ZLP_FAULT)) (hw15 : W (R.ZLP_STAT)) (hw16 : W (R.ZLP_RSTAT)) (hw17 : W (R.ZLP_BRK)) (hw18 : W (R.ZLP_SSTAT)) (hw19 : W (R.TWN_STAT)) (hw20 : W (R.TWN_EPOCH)) (hw21 : W (R.ZLP_BUDGET)) (hw22 : W (R.EVT_PEND (64 / 32))) : Frame [.free, .nt, .evt, .cyc, .chn, .est, .dsp, .piers, .axes, .deck, .deckMem, .hif, .ring, .twn] W s (State.runMirrored s op t p) := by
  unfold State.runMirrored
  with_reducible refine Frame.iteOf ?_ ?_
  with_reducible refine Frame.step ?_ (State.opMbxWrite_frame _ _ _) (by decide)
  exact Frame.refl ..
  with_reducible refine Frame.iteOf ?_ ?_
  with_reducible refine Frame.step ?_ (State.opAxisEnable_frame _ _ _ ?_ ?_ ?_ ?_ ?_ ?_) (by decide)
  exact Frame.refl ..
  exact hw0; exact hw1; exact hw2; exact fun _ _ => hw3 _ _; exact hw4; exact hw5
  with_reducible refine Frame.iteOf ?_ ?_
  with_reducible refine Frame.step ?_ (State.opAxisDisable_frame _ _ _ ?_ ?_ ?_) (by decide)
  exact Frame.refl ..
  exact hw2; exact hw4; exact fun _ _ => hw3 _ _
  with_reducible refine Frame.iteOf ?_ ?_
  with_reducible refine Frame.step ?_ (State.opParamWrite_frame _ _ _) (by decide)
  exact Frame.refl ..
  with_reducible refine Frame.iteOf ?_ ?_
  with_reducible refine Frame.step ?_ (State.opParamRead_frame _ _ _) (by decide)
  exact Frame.refl ..
  with_reducible refine Frame.iteOf ?_ ?_
  with_reducible refine Frame.step ?_ (State.opFaultClear_frame _ _ _ ?_) (by decide)
  exact Frame.refl ..
  exact hw4
  with_reducible refine Frame.iteOf ?_ ?_
  with_reducible refine Frame.step ?_ (State.opGroupQuiesce_frame _ _ _) (by decide)
  exact Frame.refl ..
  with_reducible refine Frame.iteOf ?_ ?_
  with_reducible refine Frame.step ?_ (State.opGroupResume_frame _ _ _) (by decide)
  exact Frame.refl ..
  with_reducible refine Frame.iteOf ?_ ?_
  with_reducible refine Frame.step ?_ (State.opMoveAbs_frame _ _ _) (by decide)
  exact Frame.refl ..
  with_reducible refine Frame.iteOf ?_ ?_
  with_reducible refine Frame.step ?_ (State.opMoveRel_frame _ _ _) (by decide)
  exact Frame.refl ..
  with_reducible refine Frame.iteOf ?_ ?_
  with_reducible refine Frame.step ?_ (State.opVelocity_frame _ _ _) (by decide)
  exact Frame.refl ..
  with_reducible refine Frame.iteOf ?_ ?_
  with_reducible refine Frame.step ?_ (State.opStop_frame _ _ _) (by decide)
  exact Frame.refl ..
  with_reducible refine Frame.iteOf ?_ ?_
  with_reducible refine Frame.step ?_ (State.opGear_frame _ _ _) (by decide)
  exact Frame.refl ..
  with_reducible refine Frame.iteOf ?_ ?_
  with_reducible refine Frame.step ?_ (State.opCam_frame _ _ _) (by decide)
  exact Frame.refl ..
  with_reducible refine Frame.iteOf ?_ ?_
  with_reducible refine Frame.step ?_ (State.opHome_frame _ _ _) (by decide)
  exact Frame.refl ..
  with_reducible refine Frame.iteOf ?_ ?_
  with_reducible refine Frame.step ?_ (State.opGroupMove_frame _ _ _) (by decide)
  exact Frame.refl ..
  with_reducible refine Frame.iteOf ?_ ?_
  with_reducible refine Frame.step ?_ (State.opEstWrite_frame _ _ _ ?_ ?_ ?_ ?_ ?_ ?_) (by decide)
  exact Frame.refl ..
  exact hw6; exact hw7; exact hw8; exact hw9; exact hw10; exact hw11
  with_reducible refine Frame.iteOf ?_ ?_
  with_reducible refine Frame.step ?_ (State.opEstLoad_frame _ _ _ ?_ ?_ ?_ ?_ ?_ ?_) (by decide)
  exact Frame.refl ..
  exact hw7; exact hw6; exact hw8; exact hw9; exact hw10; exact hw11
  with_reducible refine Frame.iteOf ?_ ?_
  with_reducible refine Frame.step ?_ (State.opCamLoad_frame _ _ _) (by decide)
  exact Frame.refl ..
  with_reducible refine Frame.iteOf ?_ ?_
  with_reducible refine Frame.step ?_ (State.opCymLoad_frame _ _ _ ?_) (by decide)
  exact Frame.refl ..
  exact fun _ _ => hw12 _ _
  with_reducible refine Frame.iteOf ?_ ?_
  with_reducible refine Frame.step ?_ (State.opRingStart_frame _ _ _ ?_ ?_ ?_ ?_ ?_ ?_ ?_ ?_ ?_ ?_ ?_ ?_) (by decide)
  exact Frame.refl ..
  exact hw13; exact hw14; exact hw15; exact hw16; exact hw17; exact hw18; exact hw19; exact hw20; exact hw21; exact hw22; exact hw9; exact hw10
  with_reducible refine Frame.iteOf ?_ ?_
  with_reducible refine Frame.step ?_ (State.opRingHalt_frame _ _ _) (by decide)
  exact Frame.refl ..
  exact Frame.refl ..

theorem State.mirrorRun_frame {W : Nat → Prop} (s : State) (m : Mirror) (hw0 : W (R.TWN_STAT)) (hw1 : W (R.AXT_W1 (payAxis (Mirror.pay m)))) (hw2 : W (R.AXT_STAT)) (hw3 : W (R.AXT_W0 (payAxis (Mirror.pay m)))) (hw4 : ∀ i0 i1, W (R.PIR_RES i0 i1)) (hw5 : W (R.AXT_W2 (payAxis (Mirror.pay m)))) (hw6 : W (R.DSP_DL (payAxis (Mirror.pay m)))) (hw7 : W (R.EST_STAT)) (hw8 : W (R.EST_OVFL_CNT)) (hw9 : W (R.EVT_PEND (20 / 32))) (hw10 : W (R.EVT_LOST_CNT)) (hw11 : W (R.EVT_STAT)) (hw12 : W (R.EST_SKIP_CNT)) (hw13 : ∀ i0 i1, W (R.CYM_W0 i0 + 4 * i1)) (hw14 : W (R.ZLP_CYMGEN)) (hw15 : W (R.ZLP_FAULT)) (hw16 : W (R.ZLP_STAT)) (hw17 : W (R.ZLP_RSTAT)) (hw18 : W (R.ZLP_BRK)) (hw19 : W (R.ZLP_SSTAT)) (hw20 : W (R.TWN_EPOCH)) (hw21 : W (R.ZLP_BUDGET)) (hw22 : W (R.EVT_PEND (64 / 32))) : Frame [.free, .nt, .evt, .cyc, .chn, .est, .dsp, .piers, .axes, .deck, .deckMem, .hif, .ring, .twn] W s (State.mirrorRun s m) := by
  unfold State.mirrorRun
  with_reducible refine Frame.iteOf ?_ ?_
  with_reducible refine Frame.step ?_ (State.packetEnds_frame _ _ _ _ _) (by decide)
  with_reducible refine Frame.set1 ?_ ?_
  exact Frame.refl ..
  exact hw0
  with_reducible refine Frame.step ?_ (State.runMirrored_frame _ _ _ _ ?_ ?_ ?_ ?_ ?_ ?_ ?_ ?_ ?_ ?_ ?_ ?_ ?_ ?_ ?_ ?_ ?_ ?_ ?_ ?_ ?_ ?_ ?_) (by decide)
  exact Frame.refl ..
  exact hw1; exact hw2; exact hw3; exact fun _ _ => hw4 _ _; exact hw5; exact hw6; exact hw7; exact hw8; exact hw9; exact hw10; exact hw11; exact hw12; exact fun _ _ => hw13 _ _; exact hw14; exact hw15; exact hw16; exact hw17; exact hw18; exact hw19; exact hw0; exact hw20; exact hw21; exact hw22

theorem execMirrorExecute_frame {W : Nat → Prop} (s : State) (hw0 : W (R.TWN_STAT)) (hw1 : ∀ i0, W (R.AXT_W1 i0)) (hw2 : W (R.AXT_STAT)) (hw3 : ∀ i0, W (R.AXT_W0 i0)) (hw4 : ∀ i0 i1, W (R.PIR_RES i0 i1)) (hw5 : ∀ i0, W (R.AXT_W2 i0)) (hw6 : ∀ i0, W (R.DSP_DL i0)) (hw7 : W (R.EST_STAT)) (hw8 : W (R.EST_OVFL_CNT)) (hw9 : W (R.EVT_PEND (20 / 32))) (hw10 : W (R.EVT_LOST_CNT)) (hw11 : W (R.EVT_STAT)) (hw12 : W (R.EST_SKIP_CNT)) (hw13 : ∀ i0 i1, W (R.CYM_W0 i0 + 4 * i1)) (hw14 : W (R.ZLP_CYMGEN)) (hw15 : W (R.ZLP_FAULT)) (hw16 : W (R.ZLP_STAT)) (hw17 : W (R.ZLP_RSTAT)) (hw18 : W (R.ZLP_BRK)) (hw19 : W (R.ZLP_SSTAT)) (hw20 : W (R.TWN_EPOCH)) (hw21 : W (R.ZLP_BUDGET)) (hw22 : W (R.EVT_PEND (64 / 32))) : Frame.out [.free, .nt, .evt, .cyc, .chn, .est, .dsp, .piers, .axes, .deck, .deckMem, .hif, .ring, .twn] W s (execMirrorExecute s) := by
  unfold execMirrorExecute
  split
  with_reducible refine Frame.out_next ?_
  exact Frame.refl ..
  with_reducible refine Frame.out_next ?_
  with_reducible refine Frame.step ?_ (State.mirrorRun_frame _ _ ?_ ?_ ?_ ?_ ?_ ?_ ?_ ?_ ?_ ?_ ?_ ?_ ?_ ?_ ?_ ?_ ?_ ?_ ?_ ?_ ?_ ?_ ?_) (by decide)
  with_reducible refine Frame.step ?_ (State.putTwn_frame _ _) (by decide)
  exact Frame.refl ..
  exact hw0; exact hw1 _; exact hw2; exact hw3 _; exact fun _ _ => hw4 _ _; exact hw5 _; exact hw6 _; exact hw7; exact hw8; exact hw9; exact hw10; exact hw11; exact hw12; exact fun _ _ => hw13 _ _; exact hw14; exact hw15; exact hw16; exact hw17; exact hw18; exact hw19; exact hw20; exact hw21; exact hw22

theorem State.opNop_frame {W : Nat → Prop} (s : State) (t : Option PktTag) (v2 : List Word) : Frame [.hif] W s (State.opNop s t v2) := by
  unfold State.opNop
  with_reducible refine Frame.step ?_ (State.packetEnds_frame _ _ _ _ _) (by decide)
  exact Frame.refl ..

theorem execOpNop_frame {W : Nat → Prop} (core : Fin 2) (s : State) : Frame.out [.hif, .twn] W s (execOpNop core s) := by
  unfold execOpNop
  with_reducible refine Frame.out_next ?_
  with_reducible refine State.runPacket_frame _ _ _ _ (by decide) ?_ ?_
  exact Frame.refl ..
  intro u0 x1 x2 hu3
  with_reducible refine Frame.step ?_ (State.opNop_frame _ _ _) (by decide)
  assumption

theorem State.opIdent_frame {W : Nat → Prop} (s : State) (t : Option PktTag) (v2 : List Word) : Frame [.hif] W s (State.opIdent s t v2) := by
  unfold State.opIdent
  with_reducible refine Frame.step ?_ (State.packetEnds_frame _ _ _ _ _) (by decide)
  exact Frame.refl ..

theorem execOpIdent_frame {W : Nat → Prop} (core : Fin 2) (s : State) : Frame.out [.hif, .twn] W s (execOpIdent core s) := by
  unfold execOpIdent
  with_reducible refine Frame.out_next ?_
  with_reducible refine State.runPacket_frame _ _ _ _ (by decide) ?_ ?_
  exact Frame.refl ..
  intro u0 x1 x2 hu3
  with_reducible refine Frame.step ?_ (State.opIdent_frame _ _ _) (by decide)
  assumption

theorem State.opRegWrite_frame {W : Nat → Prop} (s : State) (t : Option PktTag) (p : List Word) (hw0 : ∀ i0, W (i0)) : Frame [.free, .nt, .inc, .host, .evt, .cyc, .chn, .est, .cap, .dsp, .piers, .axes, .deck, .deckMem, .pwr, .hif, .ring, .twn, .kst, .acq, .ddr, .nvs] W s (State.opRegWrite s t p) := by
  unfold State.opRegWrite
  extract_lets x0
  split
  with_reducible refine Frame.step ?_ (State.packetEnds_frame _ _ _ _ _) (by decide)
  exact Frame.refl ..
  with_reducible refine State.landItems_frame _ _ _ _ _ (by decide) ?_ ?_
  exact Frame.refl ..
  intro u1 x2 hu3
  extract_lets x4
  with_reducible refine Frame.step ?_ (State.landWrite_frame _ _ _ ?_ ?_ ?_ ?_ ?_ ?_ ?_ ?_ ?_ ?_ ?_ ?_ ?_ ?_ ?_ ?_ ?_ ?_ ?_ ?_ ?_ ?_ ?_ ?_ ?_ ?_ ?_ ?_ ?_ ?_ ?_ ?_ ?_ ?_ ?_ ?_ ?_ ?_ ?_ ?_ ?_ ?_ ?_ ?_ ?_ ?_ ?_ ?_ ?_ ?_ ?_ ?_ ?_ ?_ ?_ ?_ ?_ ?_ ?_ ?_ ?_ ?_ ?_ ?_ ?_ ?_ ?_ ?_ ?_ ?_ ?_ ?_ ?_ ?_ ?_ ?_ ?_ ?_ ?_ ?_ ?_ ?_ ?_ ?_ ?_ ?_ ?_ ?_ ?_ ?_ ?_ ?_ ?_ ?_ ?_ ?_ ?_ ?_ ?_ ?_ ?_ ?_ ?_ ?_) (by decide)
  assumption
  exact hw0 _; exact hw0 _; exact hw0 _; exact hw0 _; exact hw0 _; exact hw0 _; exact hw0 _; exact hw0 _; exact hw0 _; exact fun _ => hw0 _; exact hw0 _; exact hw0 _; exact hw0 _; exact hw0 _; exact hw0 _; exact hw0 _; exact hw0 _; exact hw0 _; exact hw0 _; exact hw0 _; exact fun _ => hw0 _; exact hw0 _; exact fun _ => hw0 _; exact fun _ => hw0 _; exact hw0 _; exact hw0 _; exact hw0 _; exact hw0 _; exact hw0 _; exact hw0 _; exact hw0 _; exact hw0 _; exact hw0 _; exact hw0 _; exact hw0 _; exact hw0 _; exact hw0 _; exact hw0 _; exact fun _ => hw0 _; exact hw0 _; exact hw0 _; exact hw0 _; exact hw0 _; exact hw0 _; exact hw0 _; exact hw0 _; exact hw0 _; exact fun _ _ => hw0 _; exact fun _ => hw0 _; exact hw0 _; exact fun _ => hw0 _; exact fun _ => hw0 _; exact fun _ => hw0 _; exact hw0 _; exact fun _ => hw0 _; exact hw0 _; exact hw0 _; exact hw0 _; exact hw0 _; exact hw0 _; exact hw0 _; exact hw0 _; exact hw0 _; exact hw0 _; exact hw0 _; exact hw0 _; exact hw0 _; exact fun _ => hw0 _; exact hw0 _; exact hw0 _; exact hw0 _; exact hw0 _; exact hw0 _; exact hw0 _; exact hw0 _; exact hw0 _; exact hw0 _; exact hw0 _; exact hw0 _; exact hw0 _; exact hw0 _; exact fun _ => hw0 _; exact hw0 _; exact hw0 _; exact hw0 _; exact hw0 _; exact hw0 _; exact hw0 _; exact hw0 _; exact hw0 _; exact hw0 _; exact hw0 _; exact hw0 _; exact hw0 _; exact hw0 _; exact hw0 _; exact hw0 _; exact hw0 _; exact hw0 _; exact hw0 _; exact hw0 _; exact hw0 _; exact hw0 _; exact hw0 _

theorem execOpRegWrite_frame {W : Nat → Prop} (core : Fin 2) (s : State) (hw0 : ∀ i0, W (i0)) : Frame.out [.free, .nt, .inc, .host, .evt, .cyc, .chn, .est, .cap, .dsp, .piers, .axes, .deck, .deckMem, .pwr, .hif, .ring, .twn, .kst, .acq, .ddr, .nvs] W s (execOpRegWrite core s) := by
  unfold execOpRegWrite
  with_reducible refine Frame.out_next ?_
  with_reducible refine State.runPacket_frame _ _ _ _ (by decide) ?_ ?_
  exact Frame.refl ..
  intro u0 x1 x2 hu3
  with_reducible refine Frame.step ?_ (State.opRegWrite_frame _ _ _ ?_) (by decide)
  assumption
  exact fun _ => hw0 _

theorem State.opMbxRead_frame {W : Nat → Prop} (s : State) (t : Option PktTag) (p : List Word) : Frame [.hif] W s (State.opMbxRead s t p) := by
  unfold State.opMbxRead
  split
  with_reducible refine Frame.step ?_ (State.packetEnds_frame _ _ _ _ _) (by decide)
  exact Frame.refl ..
  split
  with_reducible refine Frame.step ?_ (State.packetEnds_frame _ _ _ _ _) (by decide)
  exact Frame.refl ..
  with_reducible refine Frame.step ?_ (State.packetEnds_frame _ _ _ _ _) (by decide)
  exact Frame.refl ..

theorem execOpMbxRead_frame {W : Nat → Prop} (core : Fin 2) (s : State) : Frame.out [.hif, .twn] W s (execOpMbxRead core s) := by
  unfold execOpMbxRead
  with_reducible refine Frame.out_next ?_
  with_reducible refine State.runPacket_frame _ _ _ _ (by decide) ?_ ?_
  exact Frame.refl ..
  intro u0 x1 x2 hu3
  with_reducible refine Frame.step ?_ (State.opMbxRead_frame _ _ _) (by decide)
  assumption

theorem execOpMbxWrite_frame {W : Nat → Prop} (core : Fin 2) (s : State) : Frame.out [.nt, .cyc, .chn, .hif, .twn] W s (execOpMbxWrite core s) := by
  unfold execOpMbxWrite
  with_reducible refine Frame.out_next ?_
  with_reducible refine State.runPacket_frame _ _ _ _ (by decide) ?_ ?_
  exact Frame.refl ..
  intro u0 x1 x2 hu3
  with_reducible refine Frame.step ?_ (State.opMbxWrite_frame _ _ _) (by decide)
  assumption

theorem execOpAxisEnable_frame {W : Nat → Prop} (core : Fin 2) (s : State) (hw0 : ∀ i0, W (R.AXT_W1 i0)) (hw1 : W (R.AXT_STAT)) (hw2 : ∀ i0, W (R.AXT_W0 i0)) (hw3 : ∀ i0 i1, W (R.PIR_RES i0 i1)) (hw4 : ∀ i0, W (R.AXT_W2 i0)) (hw5 : ∀ i0, W (R.DSP_DL i0)) : Frame.out [.axes, .deck, .hif, .twn] W s (execOpAxisEnable core s) := by
  unfold execOpAxisEnable
  with_reducible refine Frame.out_next ?_
  with_reducible refine State.runPacket_frame _ _ _ _ (by decide) ?_ ?_
  exact Frame.refl ..
  intro u0 x1 x2 hu3
  with_reducible refine Frame.step ?_ (State.opAxisEnable_frame _ _ _ ?_ ?_ ?_ ?_ ?_ ?_) (by decide)
  assumption
  exact hw0 _; exact hw1; exact hw2 _; exact fun _ _ => hw3 _ _; exact hw4 _; exact hw5 _

theorem execOpAxisDisable_frame {W : Nat → Prop} (core : Fin 2) (s : State) (hw0 : ∀ i0, W (R.AXT_W0 i0)) (hw1 : ∀ i0, W (R.AXT_W2 i0)) (hw2 : ∀ i0 i1, W (R.PIR_RES i0 i1)) : Frame.out [.dsp, .piers, .axes, .hif, .twn] W s (execOpAxisDisable core s) := by
  unfold execOpAxisDisable
  with_reducible refine Frame.out_next ?_
  with_reducible refine State.runPacket_frame _ _ _ _ (by decide) ?_ ?_
  exact Frame.refl ..
  intro u0 x1 x2 hu3
  with_reducible refine Frame.step ?_ (State.opAxisDisable_frame _ _ _ ?_ ?_ ?_) (by decide)
  assumption
  exact hw0 _; exact hw1 _; exact fun _ _ => hw2 _ _

theorem execOpParamWrite_frame {W : Nat → Prop} (core : Fin 2) (s : State) : Frame.out [.deck, .deckMem, .hif, .twn] W s (execOpParamWrite core s) := by
  unfold execOpParamWrite
  with_reducible refine Frame.out_next ?_
  with_reducible refine State.runPacket_frame _ _ _ _ (by decide) ?_ ?_
  exact Frame.refl ..
  intro u0 x1 x2 hu3
  with_reducible refine Frame.step ?_ (State.opParamWrite_frame _ _ _) (by decide)
  assumption

theorem execOpParamRead_frame {W : Nat → Prop} (core : Fin 2) (s : State) : Frame.out [.free, .hif, .twn] W s (execOpParamRead core s) := by
  unfold execOpParamRead
  with_reducible refine Frame.out_next ?_
  with_reducible refine State.runPacket_frame _ _ _ _ (by decide) ?_ ?_
  exact Frame.refl ..
  intro u0 x1 x2 hu3
  with_reducible refine Frame.step ?_ (State.opParamRead_frame _ _ _) (by decide)
  assumption

theorem execOpFaultClear_frame {W : Nat → Prop} (core : Fin 2) (s : State) (hw0 : ∀ i0, W (R.AXT_W2 i0)) : Frame.out [.piers, .deck, .hif, .twn] W s (execOpFaultClear core s) := by
  unfold execOpFaultClear
  with_reducible refine Frame.out_next ?_
  with_reducible refine State.runPacket_frame _ _ _ _ (by decide) ?_ ?_
  exact Frame.refl ..
  intro u0 x1 x2 hu3
  with_reducible refine Frame.step ?_ (State.opFaultClear_frame _ _ _ ?_) (by decide)
  assumption
  exact hw0 _

theorem execOpGroupQuiesce_frame {W : Nat → Prop} (core : Fin 2) (s : State) : Frame.out [.hif, .twn] W s (execOpGroupQuiesce core s) := by
  unfold execOpGroupQuiesce
  with_reducible refine Frame.out_next ?_
  with_reducible refine State.runPacket_frame _ _ _ _ (by decide) ?_ ?_
  exact Frame.refl ..
  intro u0 x1 x2 hu3
  with_reducible refine Frame.step ?_ (State.opGroupQuiesce_frame _ _ _) (by decide)
  assumption

theorem State.quiesceAxis_frame {W : Nat → Prop} (s : State) (a : ℕ) (hw0 : W (R.AXT_W2 a)) : Frame [.dsp, .piers, .deck] W s (State.quiesceAxis s a) := by
  unfold State.quiesceAxis
  with_reducible refine Frame.iteOf ?_ ?_
  extract_lets x0 x1 x2 x3 x4
  have hx1 : Frame [.dsp, .piers, .deck] W s x1 := by
    (with_reducible conv => arg 4; whnf)
    with_reducible refine Frame.step ?_ (State.markWork_frame _ _ _) (by decide)
    with_reducible refine Frame.setF ?_ ?_
    exact Frame.refl ..
    exact hw0
  have hx3 : Frame [.dsp, .piers, .deck] W s x3 := by
    (with_reducible conv => arg 4; whnf)
    with_reducible refine Frame.step ?_ (State.putDyn_frame _ _ _) (by decide)
    exact hx1
  split
  with_reducible refine Frame.step ?_ (State.putDyn_frame _ _ _) (by decide)
  exact hx1
  ((with_reducible refine Frame.upd ?_ ?_); on_goal 2 => (intro p hp; cases p <;> first | exact (hp (by decide)).elim | (dsimp only [Part.same] <;> fail)))
  exact hx3
  exact Frame.refl ..

theorem execGroupQuiesceEffect_frame {W : Nat → Prop} (s : State) (hw0 : ∀ i0, W (R.AXT_W2 i0)) : Frame.out [.dsp, .piers, .deck, .hif] W s (execGroupQuiesceEffect s) := by
  unfold execGroupQuiesceEffect
  extract_lets x0 x1
  have hx1 : Frame [.dsp, .piers, .deck, .hif] W s x1 := by
    (with_reducible conv => arg 4; whnf)
    with_reducible refine Frame.eachDo ?_ ?_
    exact Frame.refl ..
    intro u2 x3 hu4
    split
    with_reducible refine Frame.eachDo ?_ ?_
    assumption
    intro u5 x6 hu7
    with_reducible refine Frame.step ?_ (State.quiesceAxis_frame _ _ ?_) (by decide)
    assumption
    exact hw0 _
    assumption
  with_reducible refine Frame.out_next ?_
  with_reducible refine Frame.step ?_ (State.endWaits_frame _ _ _ _ _ _) (by decide)
  exact hx1

theorem execOpGroupResume_frame {W : Nat → Prop} (core : Fin 2) (s : State) : Frame.out [.hif, .twn] W s (execOpGroupResume core s) := by
  unfold execOpGroupResume
  with_reducible refine Frame.out_next ?_
  with_reducible refine State.runPacket_frame _ _ _ _ (by decide) ?_ ?_
  exact Frame.refl ..
  intro u0 x1 x2 hu3
  with_reducible refine Frame.step ?_ (State.opGroupResume_frame _ _ _) (by decide)
  assumption

theorem State.resumeAxis_frame {W : Nat → Prop} (s : State) (a : ℕ) (hw0 : W (R.AXT_W2 a)) : Frame [.deck] W s (State.resumeAxis s a) := by
  unfold State.resumeAxis
  with_reducible refine Frame.iteOf ?_ ?_
  with_reducible refine Frame.step ?_ (State.putDyn_frame _ _ _) (by decide)
  with_reducible refine Frame.setF ?_ ?_
  exact Frame.refl ..
  exact hw0
  exact Frame.refl ..

theorem State.resumeRun_frame {W : Nat → Prop} (s : State) (w : Waiting) (r : Resume) (hw0 : ∀ i0, W (R.AXT_W2 i0)) : Frame [.deck, .hif] W s (State.resumeRun s w r) := by
  unfold State.resumeRun
  split
  with_reducible refine Frame.step ?_ (State.finishOpt_frame _ _ _ _ _ _) (by decide)
  exact Frame.refl ..
  with_reducible refine Frame.step ?_ (State.finishOpt_frame _ _ _ _ _ _) (by decide)
  with_reducible refine Frame.eachDo ?_ ?_
  exact Frame.refl ..
  intro u0 x1 hu2
  with_reducible refine Frame.step ?_ (State.resumeAxis_frame _ _ ?_) (by decide)
  assumption
  exact hw0 _

theorem execGroupResumeEffect_frame {W : Nat → Prop} (s : State) (hw0 : ∀ i0, W (R.AXT_W2 i0)) : Frame.out [.deck, .hif] W s (execGroupResumeEffect s) := by
  unfold execGroupResumeEffect
  extract_lets x0 x1 x2
  have hx2 : Frame [.deck, .hif] W s x2 := by
    (with_reducible conv => arg 4; whnf)
    ((with_reducible refine Frame.step ?_ (State.putHif_keep _ _ ?_) (by decide)); on_goal 2 => first | with_reducible rfl | with_reducible exact ⟨rfl, rfl⟩ | (simp +zetaDelta <;> fail))
    exact Frame.refl ..
  with_reducible refine Frame.out_next ?_
  with_reducible refine Frame.eachDo ?_ ?_
  exact hx2
  intro u3 x4 hu5
  split
  with_reducible refine Frame.step ?_ (State.resumeRun_frame _ _ _ ?_) (by decide)
  assumption
  exact fun _ => hw0 _
  assumption

theorem execGroupResumeTimeout_frame {W : Nat → Prop} (s : State) : Frame.out [.hif] W s (execGroupResumeTimeout s) := by
  unfold execGroupResumeTimeout
  with_reducible refine Frame.out_next ?_
  with_reducible refine Frame.step ?_ (State.dropResumes_frame _ _ _ _) (by decide)
  exact Frame.refl ..

theorem State.runMotion_frame {W : Nat → Prop} {ps : List Part} {s0 : State} (s : State) (k : ℕ) (op : ℕ) (g : State → Option PktTag → List Word → State) (hsub : ∀ p ∈ ([.hif, .twn] : List Part), p ∈ ps) (h0 : Frame ps W s0 s) (hg : ∀ u x0 x1, Frame ps W s0 u → Frame ps W s0 (g u x0 x1)) : Frame ps W s0 (State.runMotion s k op g) := by
  unfold State.runMotion
  split
  assumption
  with_reducible refine Frame.iteOf ?_ ?_
  with_reducible refine State.runPacket_frame _ _ _ _ (fun p hp => hsub p (by revert p hp; decide)) ?_ ?_
  assumption
  intro u0 x1 x2 hu3
  refine hg _ _ _ ?_
  assumption
  with_reducible refine Frame.step ?_ (State.putCur_frame _ _ _) (fun p hp => hsub p (by revert p hp; decide))
  assumption

theorem execOpMoveAbs_frame {W : Nat → Prop} (core : Fin 2) (s : State) : Frame.out [.deck, .deckMem, .hif, .twn] W s (execOpMoveAbs core s) := by
  unfold execOpMoveAbs
  with_reducible refine Frame.out_next ?_
  with_reducible refine State.runMotion_frame _ _ _ _ (by decide) ?_ ?_
  exact Frame.refl ..
  intro u0 x1 x2 hu3
  with_reducible refine Frame.step ?_ (State.opMoveAbs_frame _ _ _) (by decide)
  assumption

theorem execOpMoveRel_frame {W : Nat → Prop} (core : Fin 2) (s : State) : Frame.out [.deck, .deckMem, .hif, .twn] W s (execOpMoveRel core s) := by
  unfold execOpMoveRel
  with_reducible refine Frame.out_next ?_
  with_reducible refine State.runMotion_frame _ _ _ _ (by decide) ?_ ?_
  exact Frame.refl ..
  intro u0 x1 x2 hu3
  with_reducible refine Frame.step ?_ (State.opMoveRel_frame _ _ _) (by decide)
  assumption

theorem execOpVelocity_frame {W : Nat → Prop} (core : Fin 2) (s : State) : Frame.out [.deck, .deckMem, .hif, .twn] W s (execOpVelocity core s) := by
  unfold execOpVelocity
  with_reducible refine Frame.out_next ?_
  with_reducible refine State.runMotion_frame _ _ _ _ (by decide) ?_ ?_
  exact Frame.refl ..
  intro u0 x1 x2 hu3
  with_reducible refine Frame.step ?_ (State.opVelocity_frame _ _ _) (by decide)
  assumption

theorem execOpStop_frame {W : Nat → Prop} (core : Fin 2) (s : State) : Frame.out [.deck, .deckMem, .hif, .twn] W s (execOpStop core s) := by
  unfold execOpStop
  with_reducible refine Frame.out_next ?_
  with_reducible refine State.runMotion_frame _ _ _ _ (by decide) ?_ ?_
  exact Frame.refl ..
  intro u0 x1 x2 hu3
  with_reducible refine Frame.step ?_ (State.opStop_frame _ _ _) (by decide)
  assumption

theorem execOpGear_frame {W : Nat → Prop} (core : Fin 2) (s : State) : Frame.out [.deck, .deckMem, .hif, .twn] W s (execOpGear core s) := by
  unfold execOpGear
  with_reducible refine Frame.out_next ?_
  with_reducible refine State.runMotion_frame _ _ _ _ (by decide) ?_ ?_
  exact Frame.refl ..
  intro u0 x1 x2 hu3
  with_reducible refine Frame.step ?_ (State.opGear_frame _ _ _) (by decide)
  assumption

theorem execOpCam_frame {W : Nat → Prop} (core : Fin 2) (s : State) : Frame.out [.deck, .deckMem, .hif, .twn] W s (execOpCam core s) := by
  unfold execOpCam
  with_reducible refine Frame.out_next ?_
  with_reducible refine State.runMotion_frame _ _ _ _ (by decide) ?_ ?_
  exact Frame.refl ..
  intro u0 x1 x2 hu3
  with_reducible refine Frame.step ?_ (State.opCam_frame _ _ _) (by decide)
  assumption

theorem execOpHome_frame {W : Nat → Prop} (core : Fin 2) (s : State) : Frame.out [.deck, .deckMem, .hif, .twn] W s (execOpHome core s) := by
  unfold execOpHome
  with_reducible refine Frame.out_next ?_
  with_reducible refine State.runMotion_frame _ _ _ _ (by decide) ?_ ?_
  exact Frame.refl ..
  intro u0 x1 x2 hu3
  with_reducible refine Frame.step ?_ (State.opHome_frame _ _ _) (by decide)
  assumption

theorem execOpGroupMove_frame {W : Nat → Prop} (core : Fin 2) (s : State) : Frame.out [.deck, .deckMem, .hif, .twn] W s (execOpGroupMove core s) := by
  unfold execOpGroupMove
  with_reducible refine Frame.out_next ?_
  with_reducible refine State.runMotion_frame _ _ _ _ (by decide) ?_ ?_
  exact Frame.refl ..
  intro u0 x1 x2 hu3
  with_reducible refine Frame.step ?_ (State.opGroupMove_frame _ _ _) (by decide)
  assumption

theorem execMotionHoldEnd_frame {W : Nat → Prop} (s : State) : Frame.out [.hif] W s (execMotionHoldEnd s) := by
  unfold execMotionHoldEnd
  with_reducible refine Frame.out_next ?_
  with_reducible refine Frame.eachDo ?_ ?_
  exact Frame.refl ..
  intro u0 x1 hu2
  split
  with_reducible refine Frame.iteOf ?_ ?_
  with_reducible refine Frame.step ?_ (State.putCur_frame _ _ _) (by decide)
  assumption
  assumption
  assumption

theorem State.motionDone_frame {W : Nat → Prop} (s : State) (t : Option PktTag) (ns : Word) (status : ℕ) (r : MotionReport) : Frame [.hif] W s (State.motionDone s t ns status r) := by
  unfold State.motionDone
  split
  exact Frame.refl ..
  with_reducible refine Frame.step ?_ (State.finishAt_frame _ _ _ _ _ _ _) (by decide)
  exact Frame.refl ..

theorem State.groupDone_frame {W : Nat → Prop} (s : State) (t : Option PktTag) (ns : Word) (members : List (ℕ × ℕ)) (longest : ℕ) (reports : List (ℕ × MotionReport)) : Frame [.hif] W s (State.groupDone s t ns members longest reports) := by
  unfold State.groupDone
  extract_lets x0 x1
  with_reducible refine Frame.step ?_ (State.motionDone_frame _ _ _ _ _) (by decide)
  exact Frame.refl ..

theorem State.reportTo_frame {W : Nat → Prop} (s : State) (a : ℕ) (ns : Word) (r : MotionReport) (w : Waiting) : Frame [.hif] W s (State.reportTo s a ns r w).1 := by
  unfold State.reportTo
  split
  with_reducible refine Frame.iteFst ?_ ?_
  (with_reducible conv => arg 4; whnf)
  with_reducible refine Frame.step ?_ (State.motionDone_frame _ _ _ _ _) (by decide)
  exact Frame.refl ..
  (with_reducible conv => arg 4; whnf)
  exact Frame.refl ..
  with_reducible refine Frame.iteFst ?_ ?_
  extract_lets x0
  with_reducible refine Frame.iteFst ?_ ?_
  (with_reducible conv => arg 4; whnf)
  with_reducible refine Frame.step ?_ (State.groupDone_frame _ _ _ _ _ _) (by decide)
  exact Frame.refl ..
  (with_reducible conv => arg 4; whnf)
  exact Frame.refl ..
  (with_reducible conv => arg 4; whnf)
  exact Frame.refl ..
  (with_reducible conv => arg 4; whnf)
  exact Frame.refl ..

theorem State.reportAll_frame {W : Nat → Prop} (s : State) (a : ℕ) (ns : Word) (r : MotionReport) (v4 : List Waiting) : Frame [.hif] W s (State.reportAll s a ns r v4).1 := by
  induction v4 generalizing s a ns r with
  | nil =>
    exact Frame.refl ..
  | cons l0 ls0 ih =>
    unfold State.reportAll
    extract_lets x0 x1
    have hx0 : Frame [.hif] W s x0.1 := by
      unfold x0
      with_reducible refine Frame.step ?_ (State.reportTo_frame _ _ _ _ _) (by decide)
      exact Frame.refl ..
    have hx1 : Frame [.hif] W s x1.1 := by
      unfold x1
      with_reducible refine Frame.step ?_ (ih _ _ _ _) (by decide)
      exact hx0
    (with_reducible conv => arg 4; whnf)
    exact hx1

theorem State.report_frame {W : Nat → Prop} (s : State) (a : ℕ) (ns : Word) (r : MotionReport) : Frame [.hif] W s (State.report s a ns r) := by
  unfold State.report
  extract_lets x0 x1
  have hx0 : Frame [.hif] W s x0.1 := by
    unfold x0
    with_reducible refine Frame.step ?_ (State.reportAll_frame _ _ _ _ _) (by decide)
    exact Frame.refl ..
  ((with_reducible refine Frame.step ?_ (State.putHif_keep _ _ ?_) (by decide)); on_goal 2 => first | with_reducible rfl | with_reducible exact ⟨rfl, rfl⟩ | (simp +zetaDelta <;> fail))
  exact hx0

theorem execMotionCompletion_frame {W : Nat → Prop} (s : State) (hw0 : W (R.GLB_BOOT)) (hw1 : W (R.EVT_PEND (3 / 32))) (hw2 : W (R.EVT_LOST_CNT)) (hw3 : W (R.EVT_STAT)) (hw4 : W (R.HIF_CQ_PTR)) (hw5 : W (R.HIF_CQ_STAT)) (hw6 : W (R.HIF_CMD_CNT)) (hw7 : W (R.HIF_FIRST_REF)) (hw8 : W (R.HIF_REF_CNT)) (hw9 : W (R.EVT_PEND (224 / 32))) : Frame.out [.evt, .dsp, .hif, .window] W s (execMotionCompletion s) := by
  unfold execMotionCompletion
  extract_lets x0 x1 x2
  have hx2 : Frame [.evt, .dsp, .hif, .window] W s x2 := by
    (with_reducible conv => arg 4; whnf)
    ((with_reducible refine Frame.upd ?_ ?_); on_goal 2 => (intro p hp; cases p <;> first | exact (hp (by decide)).elim | (dsimp only [Part.same] <;> fail)))
    exact Frame.refl ..
  with_reducible refine Frame.out_next ?_
  with_reducible refine Frame.step ?_ (State.cqDue_frame _ ?_ ?_ ?_ ?_ ?_ ?_ ?_ ?_ ?_ ?_) (by decide)
  with_reducible refine Frame.eachDo ?_ ?_
  exact hx2
  intro u3 x4 hu5
  with_reducible refine Frame.step ?_ (State.report_frame _ _ _ _) (by decide)
  assumption
  exact hw0; exact hw1; exact hw2; exact hw3; exact hw4; exact hw5; exact hw6; exact hw7; exact hw8; exact hw9

theorem execOpEstWrite_frame {W : Nat → Prop} (core : Fin 2) (s : State) (hw0 : W (R.EST_STAT)) (hw1 : W (R.EST_OVFL_CNT)) (hw2 : W (R.EVT_PEND (20 / 32))) (hw3 : W (R.EVT_LOST_CNT)) (hw4 : W (R.EVT_STAT)) (hw5 : W (R.EST_SKIP_CNT)) : Frame.out [.evt, .est, .hif, .twn] W s (execOpEstWrite core s) := by
  unfold execOpEstWrite
  with_reducible refine Frame.out_next ?_
  with_reducible refine State.runPacket_frame _ _ _ _ (by decide) ?_ ?_
  exact Frame.refl ..
  intro u0 x1 x2 hu3
  with_reducible refine Frame.step ?_ (State.opEstWrite_frame _ _ _ ?_ ?_ ?_ ?_ ?_ ?_) (by decide)
  assumption
  exact hw0; exact hw1; exact hw2; exact hw3; exact hw4; exact hw5

theorem execOpEstLoad_frame {W : Nat → Prop} (core : Fin 2) (s : State) (hw0 : W (R.EST_OVFL_CNT)) (hw1 : W (R.EST_STAT)) (hw2 : W (R.EVT_PEND (20 / 32))) (hw3 : W (R.EVT_LOST_CNT)) (hw4 : W (R.EVT_STAT)) (hw5 : W (R.EST_SKIP_CNT)) : Frame.out [.evt, .est, .hif, .twn] W s (execOpEstLoad core s) := by
  unfold execOpEstLoad
  with_reducible refine Frame.out_next ?_
  with_reducible refine State.runPacket_frame _ _ _ _ (by decide) ?_ ?_
  exact Frame.refl ..
  intro u0 x1 x2 hu3
  with_reducible refine Frame.step ?_ (State.opEstLoad_frame _ _ _ ?_ ?_ ?_ ?_ ?_ ?_) (by decide)
  assumption
  exact hw0; exact hw1; exact hw2; exact hw3; exact hw4; exact hw5

theorem execOpCamLoad_frame {W : Nat → Prop} (core : Fin 2) (s : State) : Frame.out [.deck, .deckMem, .hif, .twn] W s (execOpCamLoad core s) := by
  unfold execOpCamLoad
  with_reducible refine Frame.out_next ?_
  with_reducible refine State.runPacket_frame _ _ _ _ (by decide) ?_ ?_
  exact Frame.refl ..
  intro u0 x1 x2 hu3
  with_reducible refine Frame.step ?_ (State.opCamLoad_frame _ _ _) (by decide)
  assumption

theorem execOpCymLoad_frame {W : Nat → Prop} (core : Fin 2) (s : State) (hw0 : ∀ i0 i1, W (R.CYM_W0 i0 + 4 * i1)) : Frame.out [.hif, .twn] W s (execOpCymLoad core s) := by
  unfold execOpCymLoad
  with_reducible refine Frame.out_next ?_
  with_reducible refine State.runPacket_frame _ _ _ _ (by decide) ?_ ?_
  exact Frame.refl ..
  intro u0 x1 x2 hu3
  with_reducible refine Frame.step ?_ (State.opCymLoad_frame _ _ _ ?_) (by decide)
  assumption
  exact fun _ _ => hw0 _ _

theorem execOpRingStart_frame {W : Nat → Prop} (core : Fin 2) (s : State) (hw0 : W (R.ZLP_CYMGEN)) (hw1 : W (R.ZLP_FAULT)) (hw2 : W (R.ZLP_STAT)) (hw3 : W (R.ZLP_RSTAT)) (hw4 : W (R.ZLP_BRK)) (hw5 : W (R.ZLP_SSTAT)) (hw6 : W (R.TWN_STAT)) (hw7 : W (R.TWN_EPOCH)) (hw8 : W (R.ZLP_BUDGET)) (hw9 : W (R.EVT_PEND (64 / 32))) (hw10 : W (R.EVT_LOST_CNT)) (hw11 : W (R.EVT_STAT)) : Frame.out [.evt, .cyc, .hif, .ring, .twn] W s (execOpRingStart core s) := by
  unfold execOpRingStart
  with_reducible refine Frame.out_next ?_
  with_reducible refine State.runPacket_frame _ _ _ _ (by decide) ?_ ?_
  exact Frame.refl ..
  intro u0 x1 x2 hu3
  with_reducible refine Frame.step ?_ (State.opRingStart_frame _ _ _ ?_ ?_ ?_ ?_ ?_ ?_ ?_ ?_ ?_ ?_ ?_ ?_) (by decide)
  assumption
  exact hw0; exact hw1; exact hw2; exact hw3; exact hw4; exact hw5; exact hw6; exact hw7; exact hw8; exact hw9; exact hw10; exact hw11

theorem execOpRingHalt_frame {W : Nat → Prop} (core : Fin 2) (s : State) : Frame.out [.hif, .ring, .twn] W s (execOpRingHalt core s) := by
  unfold execOpRingHalt
  with_reducible refine Frame.out_next ?_
  with_reducible refine State.runPacket_frame _ _ _ _ (by decide) ?_ ?_
  exact Frame.refl ..
  intro u0 x1 x2 hu3
  with_reducible refine Frame.step ?_ (State.opRingHalt_frame _ _ _) (by decide)
  assumption

theorem State.opSafetyLoad_frame {W : Nat → Prop} (s : State) (t : Option PktTag) (p : List Word) (hw0 : ∀ i0, W (R.KST_PWIN i0)) (hw1 : W (R.KST_WIGN_CNT)) : Frame [.hif, .kst] W s (State.opSafetyLoad s t p) := by
  unfold State.opSafetyLoad
  extract_lets x0 x1
  with_reducible refine Frame.iteOf ?_ ?_
  with_reducible refine Frame.step ?_ (State.packetEnds_frame _ _ _ _ _) (by decide)
  exact Frame.refl ..
  with_reducible refine Frame.iteOf ?_ ?_
  with_reducible refine Frame.step ?_ (State.packetEnds_frame _ _ _ _ _) (by decide)
  exact Frame.refl ..
  with_reducible refine State.landItems_frame _ _ _ _ _ (by decide) ?_ ?_
  exact Frame.refl ..
  intro u2 x3 hu4
  with_reducible refine Frame.step ?_ (State.pwinWrite_frame _ _ _ ?_ ?_) (by decide)
  assumption
  exact hw0 _; exact hw1

theorem execOpSafetyLoad_frame {W : Nat → Prop} (core : Fin 2) (s : State) (hw0 : ∀ i0, W (R.KST_PWIN i0)) (hw1 : W (R.KST_WIGN_CNT)) : Frame.out [.hif, .twn, .kst] W s (execOpSafetyLoad core s) := by
  unfold execOpSafetyLoad
  with_reducible refine Frame.out_next ?_
  with_reducible refine State.runPacket_frame _ _ _ _ (by decide) ?_ ?_
  exact Frame.refl ..
  intro u0 x1 x2 hu3
  with_reducible refine Frame.step ?_ (State.opSafetyLoad_frame _ _ _ ?_ ?_) (by decide)
  assumption
  exact fun _ => hw0 _; exact hw1

theorem State.readAsk_frame {W : Nat → Prop} (s : State) (t : PktTag) (n : ℕ) : Frame [.acq] W s (State.readAsk s t n) := by
  unfold State.readAsk
  extract_lets x0 x1
  ((with_reducible refine Frame.step ?_ (State.putAcq_keep _ _ ?_) (by decide)); on_goal 2 => first | with_reducible rfl | with_reducible exact ⟨rfl, rfl⟩ | (simp +zetaDelta <;> fail))
  exact Frame.refl ..

theorem State.readWait_frame {W : Nat → Prop} (s : State) (t : PktTag) (left : ℕ) (hw0 : W (R.ACQ_FIFO)) (hw1 : W (R.DDR_WAIT_CNT)) : Frame [.free, .acq, .ddr] W s (State.readWait s t left) := by
  unfold State.readWait
  extract_lets x0 x1
  have hx0 : Frame [.free, .acq, .ddr] W s x0 := by
    (with_reducible conv => arg 4; whnf)
    with_reducible refine Frame.step ?_ (State.readAsk_frame _ _ _) (by decide)
    exact Frame.refl ..
  have hx1 : Frame [.free, .acq, .ddr] W s x1 := by
    (with_reducible conv => arg 4; whnf)
    with_reducible refine Frame.step ?_ (State.drewFree_frame _) (by decide)
    with_reducible refine Frame.step ?_ (State.ddrRun_frame _ _ ?_) (by decide)
    with_reducible refine Frame.step ?_ (State.ddrAdmit_frame _ ?_) (by decide)
    exact hx0
    exact hw0; exact hw0
  with_reducible refine Frame.step ?_ (State.drewFree_frame _) (by decide)
  with_reducible refine Frame.incSat ?_ ?_
  exact hx1
  exact hw1

theorem State.hostMemWrite_frame {W : Nat → Prop} (s : State) (a : ℕ) (bs : List Byte) : Frame [.hif] W s (State.hostMemWrite s a bs) := by
  unfold State.hostMemWrite
  ((with_reducible refine Frame.step ?_ (State.putHif_keep _ _ ?_) (by decide)); on_goal 2 => first | with_reducible rfl | with_reducible exact ⟨rfl, rfl⟩ | (simp +zetaDelta <;> fail))
  exact Frame.refl ..

theorem State.readMove_frame {W : Nat → Prop} (s : State) (t : PktTag) (host : ℕ) (a : ℕ) (moved : ℕ) (total : ℕ) (hw0 : W (R.DDR_STAT)) (hw1 : W (R.DDR_CE_CNT)) (hw2 : W (R.DDR_UE_CNT)) (hw3 : W (R.DDR_UE_ADDR)) (hw4 : W (R.EVT_PEND (86 / 32))) (hw5 : W (R.EVT_LOST_CNT)) (hw6 : W (R.EVT_STAT)) (hw7 : W (R.ACQ_STAT)) (hw8 : W (R.ACQ_FIFO)) (hw9 : W (R.EVT_PEND (81 / 32))) : Frame [.free, .evt, .hif, .acq, .ddr] W s (State.readMove s t host a moved total) := by
  unfold State.readMove
  extract_lets x0 x1 x2 x3 x4 x5
  have hx1 : Frame [.free, .evt, .hif, .acq, .ddr] W s x1 := by
    (with_reducible conv => arg 4; whnf)
    with_reducible refine Frame.step ?_ (State.drewFree_frame _) (by decide)
    exact Frame.refl ..
  have hx2 : Frame [.free, .evt, .hif, .acq, .ddr] W s x2 := by
    (with_reducible conv => arg 4; whnf)
    with_reducible refine Frame.step ?_ (State.drewFree_frame _) (by decide)
    with_reducible refine Frame.step ?_ (State.ddrCorrect_frame _ _ ?_ ?_) (by decide)
    exact hx1
    exact hw0; exact hw1
  have hx3 : Frame [.free, .evt, .hif, .acq, .ddr] W s x3 := by
    (with_reducible conv => arg 4; whnf)
    with_reducible refine Frame.step ?_ (State.readAsk_frame _ _ _) (by decide)
    exact hx2
  have hx5 : Frame [.free, .evt, .hif, .acq, .ddr] W s x5 := by
    (with_reducible conv => arg 4; whnf)
    with_reducible refine Frame.step ?_ (State.hostMemWrite_frame _ _ _) (by decide)
    exact hx3
  split
  with_reducible refine Frame.iteOf ?_ ?_
  with_reducible refine Frame.step ?_ (State.packetEnds_frame _ _ _ _ _) (by decide)
  exact hx5
  with_reducible refine Frame.step ?_ (State.onPacket_frame _ _ _) (by decide)
  exact hx5
  with_reducible refine Frame.step ?_ (State.packetEnds_frame _ _ _ _ _) (by decide)
  with_reducible refine Frame.step ?_ (State.ddrUe_frame _ _ ?_ ?_ ?_ ?_ ?_ ?_ ?_ ?_ ?_) (by decide)
  with_reducible refine Frame.step ?_ (State.hostMemWrite_frame _ _ _) (by decide)
  exact hx3
  exact hw0; exact hw2; exact hw3; exact hw4; exact hw5; exact hw6; exact hw7; exact hw8; exact hw9

theorem State.opCaptureRead_frame {W : Nat → Prop} (s : State) (t : Option PktTag) (p : List Word) (hw0 : W (R.ACQ_FIFO)) (hw1 : W (R.DDR_WAIT_CNT)) (hw2 : W (R.DDR_STAT)) (hw3 : W (R.DDR_CE_CNT)) (hw4 : W (R.DDR_UE_CNT)) (hw5 : W (R.DDR_UE_ADDR)) (hw6 : W (R.EVT_PEND (86 / 32))) (hw7 : W (R.EVT_LOST_CNT)) (hw8 : W (R.EVT_STAT)) (hw9 : W (R.ACQ_STAT)) (hw10 : W (R.EVT_PEND (81 / 32))) : Frame [.free, .evt, .hif, .acq, .ddr] W s (State.opCaptureRead s t p) := by
  unfold State.opCaptureRead
  extract_lets x0 x1 x2
  with_reducible refine Frame.iteOf ?_ ?_
  with_reducible refine Frame.step ?_ (State.packetEnds_frame _ _ _ _ _) (by decide)
  exact Frame.refl ..
  with_reducible refine Frame.iteOf ?_ ?_
  with_reducible refine Frame.step ?_ (State.packetEnds_frame _ _ _ _ _) (by decide)
  exact Frame.refl ..
  with_reducible refine Frame.iteOf ?_ ?_
  with_reducible refine Frame.step ?_ (State.packetEnds_frame _ _ _ _ _) (by decide)
  exact Frame.refl ..
  split
  exact Frame.refl ..
  extract_lets x3 x4
  have hx4 : Frame [.free, .evt, .hif, .acq, .ddr] W s x4 := by
    (with_reducible conv => arg 4; whnf)
    with_reducible refine Frame.whenDo ?_ ?_
    exact Frame.refl ..
    intro u5 hu6
    with_reducible refine Frame.step ?_ (State.readWait_frame _ _ _ ?_ ?_) (by decide)
    assumption
    exact hw0; exact hw1
  with_reducible refine Frame.iteOf ?_ ?_
  with_reducible refine Frame.step ?_ (State.readMove_frame _ _ _ _ _ _ ?_ ?_ ?_ ?_ ?_ ?_ ?_ ?_ ?_ ?_) (by decide)
  exact hx4
  exact hw2; exact hw3; exact hw4; exact hw5; exact hw6; exact hw7; exact hw8; exact hw9; exact hw0; exact hw10
  exact hx4

theorem execOpCaptureRead_frame {W : Nat → Prop} (core : Fin 2) (s : State) (hw0 : W (R.ACQ_FIFO)) (hw1 : W (R.DDR_WAIT_CNT)) (hw2 : W (R.DDR_STAT)) (hw3 : W (R.DDR_CE_CNT)) (hw4 : W (R.DDR_UE_CNT)) (hw5 : W (R.DDR_UE_ADDR)) (hw6 : W (R.EVT_PEND (86 / 32))) (hw7 : W (R.EVT_LOST_CNT)) (hw8 : W (R.EVT_STAT)) (hw9 : W (R.ACQ_STAT)) (hw10 : W (R.EVT_PEND (81 / 32))) : Frame.out [.free, .evt, .hif, .twn, .acq, .ddr] W s (execOpCaptureRead core s) := by
  unfold execOpCaptureRead
  with_reducible refine Frame.out_next ?_
  with_reducible refine State.runPacket_frame _ _ _ _ (by decide) ?_ ?_
  exact Frame.refl ..
  intro u0 x1 x2 hu3
  with_reducible refine Frame.step ?_ (State.opCaptureRead_frame _ _ _ ?_ ?_ ?_ ?_ ?_ ?_ ?_ ?_ ?_ ?_ ?_) (by decide)
  assumption
  exact hw0; exact hw1; exact hw2; exact hw3; exact hw4; exact hw5; exact hw6; exact hw7; exact hw8; exact hw9; exact hw10

theorem State.flashHolds_frame {W : Nat → Prop} (s : State) (t : PktTag) : Frame [.hif] W s (State.flashHolds s t) := by
  unfold State.flashHolds
  with_reducible refine Frame.step ?_ (State.onPacket_frame _ _ _) (by decide)
  exact Frame.refl ..

theorem State.opNvsWrite_frame {W : Nat → Prop} (s : State) (t : Option PktTag) (p : List Word) (hw0 : W (R.NVS_QFILL)) : Frame [.hif, .nvs] W s (State.opNvsWrite s t p) := by
  unfold State.opNvsWrite
  split
  exact Frame.refl ..
  with_reducible refine Frame.iteOf ?_ ?_
  exact Frame.refl ..
  extract_lets x0
  have hx0 : Frame [.hif, .nvs] W s x0.2 := by
    unfold x0
    with_reducible refine Frame.step ?_ (State.nvsWrite_frame _ _ _ _ _ ?_) (by decide)
    exact Frame.refl ..
    exact hw0
  with_reducible refine Frame.iteOf ?_ ?_
  with_reducible refine Frame.step ?_ (State.flashHolds_frame _ _) (by decide)
  exact hx0
  with_reducible refine Frame.step ?_ (State.packetEnds_frame _ _ _ _ _) (by decide)
  exact hx0

theorem execOpNvsWrite_frame {W : Nat → Prop} (core : Fin 2) (s : State) (hw0 : W (R.NVS_QFILL)) : Frame.out [.hif, .twn, .nvs] W s (execOpNvsWrite core s) := by
  unfold execOpNvsWrite
  with_reducible refine Frame.out_next ?_
  with_reducible refine State.runPacket_frame _ _ _ _ (by decide) ?_ ?_
  exact Frame.refl ..
  intro u0 x1 x2 hu3
  with_reducible refine Frame.step ?_ (State.opNvsWrite_frame _ _ _ ?_) (by decide)
  assumption
  exact hw0

theorem State.opNvsCommit_frame {W : Nat → Prop} (s : State) (t : Option PktTag) (p : List Word) (hw0 : W (R.NVS_QFILL)) : Frame [.hif, .nvs] W s (State.opNvsCommit s t p) := by
  unfold State.opNvsCommit
  extract_lets x0
  with_reducible refine Frame.iteOf ?_ ?_
  with_reducible refine Frame.step ?_ (State.packetEnds_frame _ _ _ _ _) (by decide)
  exact Frame.refl ..
  with_reducible refine Frame.iteOf ?_ ?_
  exact Frame.refl ..
  split
  exact Frame.refl ..
  with_reducible refine Frame.step ?_ (State.flashHolds_frame _ _) (by decide)
  with_reducible refine Frame.step ?_ (State.nvsCommit_frame _ _ _ ?_) (by decide)
  exact Frame.refl ..
  exact hw0

theorem execOpNvsCommit_frame {W : Nat → Prop} (core : Fin 2) (s : State) (hw0 : W (R.NVS_QFILL)) : Frame.out [.hif, .twn, .nvs] W s (execOpNvsCommit core s) := by
  unfold execOpNvsCommit
  with_reducible refine Frame.out_next ?_
  with_reducible refine State.runPacket_frame _ _ _ _ (by decide) ?_ ?_
  exact Frame.refl ..
  intro u0 x1 x2 hu3
  with_reducible refine Frame.step ?_ (State.opNvsCommit_frame _ _ _ ?_) (by decide)
  assumption
  exact hw0

theorem State.freeWords_frame {W : Nat → Prop} (s : State) (n : ℕ) : Frame [.free] W s (State.freeWords s n).2 := by
  unfold State.freeWords
  (with_reducible conv => arg 4; whnf)
  ((with_reducible refine Frame.upd ?_ ?_); on_goal 2 => (intro p hp; cases p <;> first | exact (hp (by decide)).elim | (dsimp only [Part.same] <;> fail)))
  exact Frame.refl ..

theorem State.opBbxRead_frame {W : Nat → Prop} (s : State) (t : Option PktTag) (p : List Word) : Frame [.free, .hif] W s (State.opBbxRead s t p) := by
  unfold State.opBbxRead
  extract_lets x0 x1 x2 x3 x4
  have hx3 : Frame [.free, .hif] W s x3.2 := by
    unfold x3
    with_reducible refine Frame.step ?_ (State.freeWords_frame _ _) (by decide)
    exact Frame.refl ..
  with_reducible refine Frame.iteOf ?_ ?_
  with_reducible refine Frame.step ?_ (State.packetEnds_frame _ _ _ _ _) (by decide)
  exact Frame.refl ..
  with_reducible refine Frame.step ?_ (State.packetEnds_frame _ _ _ _ _) (by decide)
  with_reducible refine Frame.step ?_ (State.hostMemWrite_frame _ _ _) (by decide)
  exact hx3

theorem execOpBbxRead_frame {W : Nat → Prop} (core : Fin 2) (s : State) : Frame.out [.free, .hif, .twn] W s (execOpBbxRead core s) := by
  unfold execOpBbxRead
  with_reducible refine Frame.out_next ?_
  with_reducible refine State.runPacket_frame _ _ _ _ (by decide) ?_ ?_
  exact Frame.refl ..
  intro u0 x1 x2 hu3
  with_reducible refine Frame.step ?_ (State.opBbxRead_frame _ _ _) (by decide)
  assumption

theorem State.opTwinPair_frame {W : Nat → Prop} (s : State) (t : Option PktTag) (v2 : List Word) (hw0 : W (R.TWN_CTL)) (hw1 : W (R.TWN_STAT)) : Frame [.hif, .twn] W s (State.opTwinPair s t v2) := by
  unfold State.opTwinPair
  with_reducible refine Frame.step ?_ (State.packetWaits_frame _ _) (by decide)
  with_reducible refine Frame.step ?_ (State.twinPair_frame _ _ _ ?_ ?_) (by decide)
  exact Frame.refl ..
  exact hw0; exact hw1

theorem execOpTwinPair_frame {W : Nat → Prop} (core : Fin 2) (s : State) (hw0 : W (R.TWN_CTL)) (hw1 : W (R.TWN_STAT)) : Frame.out [.hif, .twn] W s (execOpTwinPair core s) := by
  unfold execOpTwinPair
  with_reducible refine Frame.out_next ?_
  with_reducible refine State.runPacket_frame _ _ _ _ (by decide) ?_ ?_
  exact Frame.refl ..
  intro u0 x1 x2 hu3
  with_reducible refine Frame.step ?_ (State.opTwinPair_frame _ _ _ ?_ ?_) (by decide)
  assumption
  exact hw0; exact hw1

theorem State.opTwinYield_frame {W : Nat → Prop} (s : State) (t : Option PktTag) (v2 : List Word) (hw0 : W (R.TWN_EPOCH)) (hw1 : W (R.TWN_CTL)) (hw2 : W (R.TWN_STAT)) : Frame [.hif, .twn] W s (State.opTwinYield s t v2) := by
  unfold State.opTwinYield
  with_reducible refine Frame.step ?_ (State.packetWaits_frame _ _) (by decide)
  with_reducible refine Frame.step ?_ (State.twinYield_frame _ _ ?_ ?_ ?_) (by decide)
  exact Frame.refl ..
  exact hw0; exact hw1; exact hw2

theorem execOpTwinYield_frame {W : Nat → Prop} (core : Fin 2) (s : State) (hw0 : W (R.TWN_EPOCH)) (hw1 : W (R.TWN_CTL)) (hw2 : W (R.TWN_STAT)) : Frame.out [.hif, .twn] W s (execOpTwinYield core s) := by
  unfold execOpTwinYield
  with_reducible refine Frame.out_next ?_
  with_reducible refine State.runPacket_frame _ _ _ _ (by decide) ?_ ?_
  exact Frame.refl ..
  intro u0 x1 x2 hu3
  with_reducible refine Frame.step ?_ (State.opTwinYield_frame _ _ _ ?_ ?_ ?_) (by decide)
  assumption
  exact hw0; exact hw1; exact hw2

theorem State.opTwinJoin_frame {W : Nat → Prop} (s : State) (t : Option PktTag) (v2 : List Word) (hw0 : W (R.TWN_CTL)) (hw1 : W (R.TWN_STAT)) : Frame [.hif, .twn] W s (State.opTwinJoin s t v2) := by
  unfold State.opTwinJoin
  with_reducible refine Frame.step ?_ (State.packetWaits_frame _ _) (by decide)
  with_reducible refine Frame.step ?_ (State.twinPair_frame _ _ _ ?_ ?_) (by decide)
  exact Frame.refl ..
  exact hw0; exact hw1

theorem execOpTwinJoin_frame {W : Nat → Prop} (core : Fin 2) (s : State) (hw0 : W (R.TWN_CTL)) (hw1 : W (R.TWN_STAT)) : Frame.out [.hif, .twn] W s (execOpTwinJoin core s) := by
  unfold execOpTwinJoin
  with_reducible refine Frame.out_next ?_
  with_reducible refine State.runPacket_frame _ _ _ _ (by decide) ?_ ?_
  exact Frame.refl ..
  intro u0 x1 x2 hu3
  with_reducible refine Frame.step ?_ (State.opTwinJoin_frame _ _ _ ?_ ?_) (by decide)
  assumption
  exact hw0; exact hw1

end Sys2Proof.Machine
end

