-- ==== Sys2Proof/Laws/FrameReset.lean ====
section
/-! SUPPORT. The frame of each operation and of each command of resets, boot, firing and synchronisation: the parts and the registers it may change.
Each hypothesis says that the frame's set of registers holds one register that the operation writes. -/

set_option linter.all false
set_option maxRecDepth 4000

namespace Sys2Proof.Machine

theorem State.bcStart_frame {W : Nat → Prop} (s : State) : Frame [.cyc] W s (State.bcStart s) := by
  unfold State.bcStart
  extract_lets x0 x1
  ((with_reducible refine Frame.upd ?_ ?_); on_goal 2 => (intro p hp; cases p <;> first | exact (hp (by decide)).elim | (dsimp only [Part.same] <;> fail)))
  exact Frame.refl ..

theorem State.lineSample_frame {W : Nat → Prop} (s : State) : Frame [.chn] W s (State.lineSample s) := by
  unfold State.lineSample
  extract_lets x0
  with_reducible refine Frame.whenDo ?_ ?_
  exact Frame.refl ..
  intro u1 hu2
  with_reducible refine Frame.step ?_ (State.chnEncSample_frame _ _) (by decide)
  assumption

theorem State.exportSnap_frame {W : Nat → Prop} (s : State) : Frame [.deck] W s (State.exportSnap s) := by
  unfold State.exportSnap
  ((with_reducible refine Frame.upd ?_ ?_); on_goal 2 => (intro p hp; cases p <;> first | exact (hp (by decide)).elim | (dsimp only [Part.same] <;> fail)))
  exact Frame.refl ..

theorem State.ringMiss_frame {W : Nat → Prop} (s : State) (r : ℕ) : Frame [.ring] W s (State.ringMiss s r) := by
  unfold State.ringMiss
  with_reducible refine Frame.iteOf ?_ ?_
  exact Frame.refl ..
  ((with_reducible refine Frame.upd ?_ ?_); on_goal 2 => (intro p hp; cases p <;> first | exact (hp (by decide)).elim | (dsimp only [Part.same] <;> fail)))
  exact Frame.refl ..

theorem State.ringSync_frame {W : Nat → Prop} (s : State) (hw0 : W (R.ZLP_SSTAT)) (hw1 : W (R.ZLP_BUDGET)) : Frame [.ring] W s (State.ringSync s) := by
  unfold State.ringSync
  extract_lets x0
  have hx0 : Frame [.ring] W s x0 := by
    (with_reducible conv => arg 4; whnf)
    with_reducible refine Frame.whenDo ?_ ?_
    exact Frame.refl ..
    intro u1 hu2
    with_reducible refine Frame.eachDo ?_ ?_
    assumption
    intro u3 x4 hu5
    with_reducible refine Frame.step ?_ (State.ringMiss_frame _ _) (by decide)
    assumption
  with_reducible refine Frame.iteOf ?_ ?_
  with_reducible refine Frame.step ?_ (State.spanStop_frame _ ?_ ?_) (by decide)
  exact hx0
  exact hw0; exact hw1
  exact hx0

theorem execSyncInstant_frame {W : Nat → Prop} (s : State) (hw0 : W (R.EST_SKIP_CNT)) (hw1 : W (R.EST_STAT)) (hw2 : W (R.EVT_PEND (19 / 32))) (hw3 : W (R.EVT_LOST_CNT)) (hw4 : W (R.EVT_STAT)) (hw5 : W (R.CHN_STAT)) (hw6 : W (R.DSP_MIG)) (hw7 : ∀ i0, W (R.DSP_FLOW i0)) (hw8 : ∀ i0, W (R.DSP_USE i0)) (hw9 : ∀ i0, W (R.DSP_PEAK i0)) (hw10 : ∀ i0, W (R.ENC_STAT i0)) (hw11 : ∀ i0, W (R.ENC_ERRCNT i0)) (hw12 : W (R.EVT_PEND (58 / 32))) (hw13 : W (R.ACQ_STAT)) (hw14 : ∀ i0 i1, W (R.PIR_RES i0 i1)) (hw15 : ∀ i0, W (R.PIR_STAT i0)) (hw16 : W (R.TWN_HB_MISS)) (hw17 : W (R.TWN_STAT)) (hw18 : W (R.TWN_CTL)) (hw19 : W (R.EVT_PEND (113 / 32))) (hw20 : W (R.TWN_EPOCH)) (hw21 : W (R.TWN_TAKE_CNT)) (hw22 : W (R.EVT_PEND (112 / 32))) (hw23 : W (R.HIF_CQ_STAT)) (hw24 : W (R.ZLP_SSTAT)) (hw25 : W (R.ZLP_BUDGET)) (hw26 : W (R.HIF_STALL_CNT)) : Frame.out [.free, .evt, .cyc, .chn, .est, .dsp, .piers, .axes, .deck, .pwr, .hif, .ring, .twn, .acq] W s (execSyncInstant s) := by
  unfold execSyncInstant
  split
  extract_lets x0 x1 x2 x3
  have hx0 : Frame [.free, .evt, .cyc, .chn, .est, .dsp, .piers, .axes, .deck, .pwr, .hif, .ring, .twn, .acq] W s x0 := by
    (with_reducible conv => arg 4; whnf)
    with_reducible refine Frame.step ?_ (State.bcStart_frame _) (by decide)
    with_reducible refine Frame.step ?_ (State.chnStart_frame _ ?_ ?_ ?_ ?_ ?_ ?_) (by decide)
    exact Frame.refl ..
    exact hw0; exact hw1; exact hw2; exact hw3; exact hw4; exact hw5
  have hx1 : Frame [.free, .evt, .cyc, .chn, .est, .dsp, .piers, .axes, .deck, .pwr, .hif, .ring, .twn, .acq] W s x1 := by
    (with_reducible conv => arg 4; whnf)
    with_reducible refine Frame.step ?_ (State.powerSync_frame _ ?_ ?_ ?_ ?_ ?_) (by decide)
    with_reducible refine Frame.step ?_ (State.dspBc_frame _ ?_ ?_ ?_ ?_) (by decide)
    exact hx0
    exact hw6; exact fun _ => hw7 _; exact fun _ => hw8 _; exact fun _ => hw9 _; exact fun _ => hw10 _; exact fun _ => hw11 _; exact hw12; exact hw3; exact hw4
  have hx2 : Frame [.free, .evt, .cyc, .chn, .est, .dsp, .piers, .axes, .deck, .pwr, .hif, .ring, .twn, .acq] W s x2 := by
    (with_reducible conv => arg 4; whnf)
    with_reducible refine Frame.step ?_ (State.lineSample_frame _) (by decide)
    with_reducible refine Frame.step ?_ (State.exportSnap_frame _) (by decide)
    exact hx1
  have hx3 : Frame [.free, .evt, .cyc, .chn, .est, .dsp, .piers, .axes, .deck, .pwr, .hif, .ring, .twn, .acq] W s x3 := by
    (with_reducible conv => arg 4; whnf)
    with_reducible refine Frame.step ?_ (State.piersServe_frame _ ?_ ?_) (by decide)
    with_reducible refine Frame.step ?_ (State.acqSync_frame _ ?_) (by decide)
    exact hx2
    exact hw13; exact fun _ _ => hw14 _ _; exact fun _ => hw15 _
  with_reducible refine Frame.out_next ?_
  with_reducible refine Frame.step ?_ (State.idleRate_frame _) (by decide)
  with_reducible refine Frame.step ?_ (State.countStall_frame _ ?_) (by decide)
  with_reducible refine Frame.step ?_ (State.trunkTime_frame _) (by decide)
  with_reducible refine Frame.step ?_ (State.ringSync_frame _ ?_ ?_) (by decide)
  with_reducible refine Frame.step ?_ (State.twinSync_frame _ ?_ ?_ ?_ ?_ ?_ ?_ ?_ ?_ ?_ ?_) (by decide)
  exact hx3
  exact hw16; exact hw17; exact hw18; exact hw19; exact hw3; exact hw4; exact hw20; exact hw21; exact hw22; exact hw23; exact hw24; exact hw25; exact hw26
  with_reducible refine Frame.out_next ?_
  exact Frame.refl ..

theorem execExpressSyncInstant_frame {W : Nat → Prop} (s : State) : Frame.out [.cyc, .chn, .dsp, .axes, .deck] W s (execExpressSyncInstant s) := by
  unfold execExpressSyncInstant
  split
  extract_lets x0 x1 x2 x3
  have hx3 : Frame [.cyc, .chn, .dsp, .axes, .deck] W s x3 := by
    (with_reducible conv => arg 4; whnf)
    ((with_reducible refine Frame.upd ?_ ?_); on_goal 2 => (intro p hp; cases p <;> first | exact (hp (by decide)).elim | (dsimp only [Part.same] <;> fail)))
    exact Frame.refl ..
  with_reducible refine Frame.out_next ?_
  with_reducible refine Frame.step ?_ (State.dspExpress_frame _) (by decide)
  exact hx3
  with_reducible refine Frame.out_next ?_
  exact Frame.refl ..

theorem State.planInstall_frame {W : Nat → Prop} (s : State) (g : Segment) : Frame [.chn, .est] W s (State.planInstall s g) := by
  unfold State.planInstall
  ((with_reducible refine Frame.upd ?_ ?_); on_goal 2 => (intro p hp; cases p <;> first | exact (hp (by decide)).elim | (dsimp only [Part.same] <;> fail)))
  exact Frame.refl ..

theorem State.planMake_frame {W : Nat → Prop} (s : State) (hw0 : W (R.TWN_HB_MISS)) (hw1 : W (R.CHN_STAT)) (hw2 : W (R.CHN_MISS_CNT)) (hw3 : W (R.CHN_MISS)) (hw4 : W (R.EVT_PEND (17 / 32))) (hw5 : W (R.EVT_LOST_CNT)) (hw6 : W (R.EVT_STAT)) (hw7 : W (R.CHN_SRC)) : Frame [.evt, .chn, .est, .twn] W s (State.planMake s) := by
  unfold State.planMake
  with_reducible refine Frame.iteOf ?_ ?_
  split
  with_reducible refine Frame.step ?_ (State.planInstall_frame _ _) (by decide)
  exact Frame.refl ..
  with_reducible refine Frame.step ?_ (State.chnPlan_frame _ _ ?_ ?_ ?_ ?_ ?_ ?_ ?_) (by decide)
  with_reducible refine Frame.incSat ?_ ?_
  exact Frame.refl ..
  exact hw0; exact hw1; exact hw2; exact hw3; exact hw4; exact hw5; exact hw6; exact hw7
  with_reducible refine Frame.step ?_ (State.chnPlan_frame _ _ ?_ ?_ ?_ ?_ ?_ ?_ ?_) (by decide)
  with_reducible refine Frame.step ?_ (State.putTwn_frame _ _) (by decide)
  exact Frame.refl ..
  exact hw1; exact hw2; exact hw3; exact hw4; exact hw5; exact hw6; exact hw7

theorem execChainagePlan_frame {W : Nat → Prop} (s : State) (hw0 : W (R.TWN_HB_MISS)) (hw1 : W (R.CHN_STAT)) (hw2 : W (R.CHN_MISS_CNT)) (hw3 : W (R.CHN_MISS)) (hw4 : W (R.EVT_PEND (17 / 32))) (hw5 : W (R.EVT_LOST_CNT)) (hw6 : W (R.EVT_STAT)) (hw7 : W (R.CHN_SRC)) : Frame.out [.evt, .chn, .est, .ring, .twn] W s (execChainagePlan s) := by
  unfold execChainagePlan
  split
  extract_lets x0 x1
  have hx0 : Frame [.evt, .chn, .est, .ring, .twn] W s x0 := by
    (with_reducible conv => arg 4; whnf)
    with_reducible refine Frame.step ?_ (State.planMake_frame _ ?_ ?_ ?_ ?_ ?_ ?_ ?_ ?_) (by decide)
    exact Frame.refl ..
    exact hw0; exact hw1; exact hw2; exact hw3; exact hw4; exact hw5; exact hw6; exact hw7
  with_reducible refine Frame.out_next ?_
  with_reducible refine Frame.step ?_ (State.pairPlan_frame _ _) (by decide)
  with_reducible refine Frame.step ?_ (State.trunkSegment_frame _ _) (by decide)
  exact hx0
  with_reducible refine Frame.out_next ?_
  exact Frame.refl ..

theorem State.estAct_frame {W : Nat → Prop} (s : State) (x : FireSlot) (hw0 : ∀ i0, W (R.CHN_CAP_CFG i0)) (hw1 : ∀ i0, W (R.ACQ_RM_STAT i0)) (hw2 : W (R.CHN_CAP_FILL)) (hw3 : W (R.CHN_STAT)) (hw4 : W (R.EVT_PEND (21 / 32))) (hw5 : W (R.EVT_LOST_CNT)) (hw6 : W (R.EVT_STAT)) (hw7 : ∀ i0, W (R.DSP_EVT_OVR i0)) (hw8 : W (R.DSP_STAT)) (hw9 : W (R.EVT_PEND (26 / 32))) (hw10 : ∀ i0, W (R.TRG_CNT i0)) (hw11 : ∀ i0, W (R.TRG_LAST i0)) (hw12 : W (R.TRG_STAT)) (hw13 : W (R.EVT_PEND (83 / 32))) : Frame [.evt, .est, .cap, .dsp, .acq] W s (State.estAct s x) := by
  unfold State.estAct
  extract_lets x0 x1 x2 x3 x4
  with_reducible refine Frame.iteOf ?_ ?_
  with_reducible refine Frame.step ?_ (State.estPinAct_frame _ _ _ _) (by decide)
  exact Frame.refl ..
  with_reducible refine Frame.iteOf ?_ ?_
  with_reducible refine Frame.iteOf ?_ ?_
  ((with_reducible refine Frame.upd ?_ ?_); on_goal 2 => (intro p hp; cases p <;> first | exact (hp (by decide)).elim | (dsimp only [Part.same] <;> fail)))
  exact Frame.refl ..
  exact Frame.refl ..
  with_reducible refine Frame.iteOf ?_ ?_
  with_reducible refine Frame.step ?_ (State.capOpened_frame _ _ ?_ ?_ ?_ ?_ ?_) (by decide)
  with_reducible refine Frame.step ?_ (State.gateSet_frame _ _ _ ?_ ?_) (by decide)
  exact Frame.refl ..
  exact hw0 _; exact hw1 _; exact hw2; exact hw3; exact hw4; exact hw5; exact hw6
  with_reducible refine Frame.iteOf ?_ ?_
  with_reducible refine Frame.step ?_ (State.gateSet_frame _ _ _ ?_ ?_) (by decide)
  exact Frame.refl ..
  exact hw0 _; exact hw1 _
  with_reducible refine Frame.iteOf ?_ ?_
  with_reducible refine Frame.step ?_ (State.postEvent_frame _ _ ?_ ?_ ?_ ?_ ?_) (by decide)
  exact Frame.refl ..
  exact hw7 _; exact hw8; exact hw9; exact hw5; exact hw6
  with_reducible refine Frame.iteOf ?_ ?_
  with_reducible refine Frame.step ?_ (State.trgFromEst_frame _ _ ?_ ?_ ?_ ?_ ?_ ?_) (by decide)
  exact Frame.refl ..
  exact hw10 _; exact hw11 _; exact hw12; exact hw13; exact hw5; exact hw6
  exact Frame.refl ..

theorem execEstFire_frame {W : Nat → Prop} (idx : Fin 8192) (s : State) (hw0 : W (R.EST_FIRE_CNT)) (hw1 : W (R.EST_FIRST_LATE)) (hw2 : W (R.EST_STAT)) (hw3 : W (R.EST_LATE_CNT)) (hw4 : W (R.EVT_PEND (18 / 32))) (hw5 : W (R.EVT_LOST_CNT)) (hw6 : W (R.EVT_STAT)) (hw7 : ∀ i0, W (R.CHN_CAP_CFG i0)) (hw8 : ∀ i0, W (R.ACQ_RM_STAT i0)) (hw9 : W (R.CHN_CAP_FILL)) (hw10 : W (R.CHN_STAT)) (hw11 : W (R.EVT_PEND (21 / 32))) (hw12 : ∀ i0, W (R.DSP_EVT_OVR i0)) (hw13 : W (R.DSP_STAT)) (hw14 : W (R.EVT_PEND (26 / 32))) (hw15 : ∀ i0, W (R.TRG_CNT i0)) (hw16 : ∀ i0, W (R.TRG_LAST i0)) (hw17 : W (R.TRG_STAT)) (hw18 : W (R.EVT_PEND (83 / 32))) : Frame.out [.evt, .est, .cap, .dsp, .acq] W s (execEstFire idx s) := by
  unfold execEstFire
  split
  with_reducible refine Frame.out_next ?_
  exact Frame.refl ..
  split
  with_reducible refine Frame.out_next ?_
  with_reducible refine Frame.step ?_ (State.estAct_frame _ _ ?_ ?_ ?_ ?_ ?_ ?_ ?_ ?_ ?_ ?_ ?_ ?_ ?_ ?_) (by decide)
  with_reducible refine Frame.step ?_ (State.estMarkFired_frame _ _ ?_ ?_ ?_ ?_ ?_ ?_ ?_) (by decide)
  exact Frame.refl ..
  exact hw0; exact hw1; exact hw2; exact hw3; exact hw4; exact hw5; exact hw6; exact fun _ => hw7 _; exact fun _ => hw8 _; exact hw9; exact hw10; exact hw11; exact hw5; exact hw6; exact fun _ => hw12 _; exact hw13; exact hw14; exact fun _ => hw15 _; exact fun _ => hw16 _; exact hw17; exact hw18
  with_reducible refine Frame.out_next ?_
  exact Frame.refl ..

theorem execEdgeCapture_frame {W : Nat → Prop} (inp : Fin 16) (rising : Bool) (m : Fin 10) (s : State) (hw0 : W (R.CHN_CAP_FILL)) (hw1 : W (R.CHN_STAT)) (hw2 : W (R.EVT_PEND (21 / 32))) (hw3 : W (R.EVT_LOST_CNT)) (hw4 : W (R.EVT_STAT)) : Frame.out [.evt, .cap, .acq] W s (execEdgeCapture inp rising m s) := by
  unfold execEdgeCapture
  with_reducible refine Frame.out_next ?_
  with_reducible refine Frame.step ?_ (State.markEdge_frame _ _ _ _) (by decide)
  with_reducible refine Frame.step ?_ (State.capEdge_frame _ _ _ _ ?_ ?_ ?_ ?_ ?_) (by decide)
  exact Frame.refl ..
  exact hw0; exact hw1; exact hw2; exact hw3; exact hw4

theorem State.resetRange_frame {W : Nat → Prop} (s : State) (lo : ℕ) (hi : ℕ) (keep : ℕ) (hw0 : ∀ i0, W (i0)) : Frame [] W s (State.resetRange s lo hi keep) := by
  exact Frame.any (fun p _ => by cases p <;> rfl) hw0

theorem State.hostReset_frame {W : Nat → Prop} (s : State) (hw0 : ∀ i0, W (i0)) : Frame [.evt, .hif] W s (State.hostReset s) := by
  unfold State.hostReset
  extract_lets x0 x1 x2 x3 x4
  have hx0 : Frame [.evt, .hif] W s x0 := by
    (with_reducible conv => arg 4; whnf)
    with_reducible refine Frame.step ?_ (State.resetRange_frame _ _ _ _ ?_) (by decide)
    exact Frame.refl ..
    exact fun _ => hw0 _
  have hx3 : Frame [.evt, .hif] W s x3 := by
    (with_reducible conv => arg 4; whnf)
    ((with_reducible refine Frame.step ?_ (State.putHif_keep _ _ ?_) (by decide)); on_goal 2 => first | with_reducible rfl | with_reducible exact ⟨rfl, rfl⟩ | (simp +zetaDelta <;> fail))
    exact hx0
  ((with_reducible refine Frame.upd ?_ ?_); on_goal 2 => (intro p hp; cases p <;> first | exact (hp (by decide)).elim | (dsimp only [Part.same] <;> fail)))
  exact hx3

theorem execFunctionLevelReset_frame {W : Nat → Prop} (v0 : Bool) (s : State) (hw0 : ∀ i0, W (i0)) : Frame.out [.evt, .hif] W s (execFunctionLevelReset v0 s) := by
  unfold execFunctionLevelReset
  with_reducible refine Frame.out_next ?_
  with_reducible refine Frame.set1 ?_ ?_
  with_reducible refine Frame.step ?_ (State.hostReset_frame _ ?_) (by decide)
  exact Frame.refl ..
  exact fun _ => hw0 _; exact hw0 _

theorem State.linkDown_frame {W : Nat → Prop} (s : State) (hw0 : W (R.HIF_LINK)) (hw1 : W (R.HIF_STAT)) (hw2 : W (R.EVT_PEND (225 / 32))) (hw3 : W (R.EVT_LOST_CNT)) (hw4 : W (R.EVT_STAT)) : Frame [.evt] W s (State.linkDown s) := by
  unfold State.linkDown
  with_reducible refine Frame.iteOf ?_ ?_
  with_reducible refine Frame.step ?_ (State.raise_frame _ _ _ _ ?_ ?_ ?_) (by decide)
  with_reducible refine Frame.set1 ?_ ?_
  with_reducible refine Frame.putReg ?_ ?_
  exact Frame.refl ..
  exact hw0; exact hw1; exact hw2; exact hw3; exact hw4
  exact Frame.refl ..

theorem execPcieLinkDown_frame {W : Nat → Prop} (s : State) (hw0 : W (R.HIF_LINK)) (hw1 : W (R.HIF_STAT)) (hw2 : W (R.EVT_PEND (225 / 32))) (hw3 : W (R.EVT_LOST_CNT)) (hw4 : W (R.EVT_STAT)) : Frame.out [.evt] W s (execPcieLinkDown s) := by
  unfold execPcieLinkDown
  with_reducible refine Frame.out_next ?_
  with_reducible refine Frame.step ?_ (State.linkDown_frame _ ?_ ?_ ?_ ?_ ?_) (by decide)
  exact Frame.refl ..
  exact hw0; exact hw1; exact hw2; exact hw3; exact hw4

theorem execPcieLinkUp_frame {W : Nat → Prop} (width : ℕ) (speed : ℕ) (s : State) (hw0 : W (R.HIF_LINK)) : Frame.out [.evt] W s (execPcieLinkUp width speed s) := by
  unfold execPcieLinkUp
  split
  with_reducible refine Frame.out_next ?_
  exact Frame.refl ..
  with_reducible refine Frame.out_next ?_
  with_reducible refine Frame.step ?_ (State.msixRelease_frame _) (by decide)
  with_reducible refine Frame.setF ?_ ?_
  with_reducible refine Frame.setF ?_ ?_
  with_reducible refine Frame.set1 ?_ ?_
  exact Frame.refl ..
  exact hw0; exact hw0; exact hw0

theorem State.tollRestart_frame {W : Nat → Prop} (s : State) (hw0 : W (R.HIF_STAT)) (hw1 : W (R.GLB_RST_CAUSE)) (hw2 : W (R.EVT_PEND (227 / 32))) (hw3 : W (R.EVT_LOST_CNT)) (hw4 : W (R.EVT_STAT)) : Frame [.evt, .hif, .twn, .nvs] W s (State.tollRestart s) := by
  unfold State.tollRestart
  extract_lets x0 x1 x2 x3 x4 x5 x6 x7
  have hx2 : Frame [.evt, .hif, .twn, .nvs] W s x2 := by
    (with_reducible conv => arg 4; whnf)
    ((with_reducible refine Frame.step ?_ (State.putHif_keep _ _ ?_) (by decide)); on_goal 2 => first | with_reducible rfl | with_reducible exact ⟨rfl, rfl⟩ | (simp +zetaDelta <;> fail))
    exact Frame.refl ..
  have hx4 : Frame [.evt, .hif, .twn, .nvs] W s x4 := by
    (with_reducible conv => arg 4; whnf)
    ((with_reducible refine Frame.upd ?_ ?_); on_goal 2 => (intro p hp; cases p <;> first | exact (hp (by decide)).elim | (dsimp only [Part.same] <;> fail)))
    exact hx2
  have hx6 : Frame [.evt, .hif, .twn, .nvs] W s x6 := by
    (with_reducible conv => arg 4; whnf)
    with_reducible refine Frame.step ?_ (State.putTwn_frame _ _) (by decide)
    exact hx4
  have hx7 : Frame [.evt, .hif, .twn, .nvs] W s x7 := by
    (with_reducible conv => arg 4; whnf)
    with_reducible refine Frame.eachDo ?_ ?_
    exact hx6
    intro u8 x9 hu10
    with_reducible refine Frame.step ?_ (State.finish_frame _ _ _ _ _ _) (by decide)
    assumption
  with_reducible refine Frame.step ?_ (State.raise_frame _ _ _ _ ?_ ?_ ?_) (by decide)
  with_reducible refine Frame.set1 ?_ ?_
  with_reducible refine Frame.set1 ?_ ?_
  exact hx7
  exact hw0; exact hw1; exact hw2; exact hw3; exact hw4

theorem execTollgateWatchdogExpiry_frame {W : Nat → Prop} (s : State) (hw0 : W (R.HIF_STAT)) (hw1 : W (R.GLB_RST_CAUSE)) (hw2 : W (R.EVT_PEND (227 / 32))) (hw3 : W (R.EVT_LOST_CNT)) (hw4 : W (R.EVT_STAT)) : Frame.out [.evt, .hif, .twn, .nvs] W s (execTollgateWatchdogExpiry s) := by
  unfold execTollgateWatchdogExpiry
  with_reducible refine Frame.out_next ?_
  with_reducible refine Frame.step ?_ (State.tollRestart_frame _ ?_ ?_ ?_ ?_ ?_) (by decide)
  exact Frame.refl ..
  exact hw0; exact hw1; exact hw2; exact hw3; exact hw4

theorem execTollgateRestartEnd_frame {W : Nat → Prop} (s : State) : Frame.out [.hif] W s (execTollgateRestartEnd s) := by
  unfold execTollgateRestartEnd
  with_reducible refine Frame.out_next ?_
  ((with_reducible refine Frame.step ?_ (State.putHif_keep _ _ ?_) (by decide)); on_goal 2 => first | with_reducible rfl | with_reducible exact ⟨rfl, rfl⟩ | (simp +zetaDelta <;> fail))
  exact Frame.refl ..

theorem execSoftwareResetHost_frame {W : Nat → Prop} (s : State) (hw0 : ∀ i0, W (i0)) : Frame.out [.host, .evt, .hif] W s (execSoftwareResetHost s) := by
  unfold execSoftwareResetHost
  split
  with_reducible refine Frame.out_next ?_
  exact Frame.refl ..
  with_reducible refine Frame.out_next ?_
  with_reducible refine Frame.set1 ?_ ?_
  with_reducible refine Frame.step ?_ (State.hostReset_frame _ ?_) (by decide)
  refine Frame.of_optSnd (by assumption) ?_
  with_reducible refine Frame.optSnd_comp ?_ (State.takeAccepted_frame _ _) (by decide)
  exact Frame.refl ..
  exact fun _ => hw0 _; exact hw0 _

theorem State.coreReset_frame {W : Nat → Prop} (s : State) (hw0 : ∀ i0, W (i0)) : Frame [.nt, .inc, .host, .evt, .cyc, .chn, .est, .cap, .dsp, .piers, .axes, .deck, .deckMem, .pierMem, .pwr, .hif, .window, .ring, .twn, .kst, .acq, .ddr, .nvs, .sysLost, .fbDone] W s (State.coreReset s) := by
  unfold State.coreReset
  extract_lets
  repeat first
    | with_reducible refine Frame.setF ?_ (hw0 _)
    | with_reducible refine Frame.setB ?_ (hw0 _)
    | with_reducible refine Frame.putReg ?_ (hw0 _)
  exact Frame.any (fun p hp => by cases p <;> first | exact (hp (by decide)).elim | rfl) hw0

theorem State.tileProgram_frame {W : Nat → Prop} (s : State) (area : ℕ) (n : ℕ) (pages : ℕ) : Frame [.nvs, .flash] W s (State.tileProgram s area n pages) := by
  unfold State.tileProgram
  with_reducible refine Frame.step ?_ (State.flashProgram_frame _ _ _) (by decide)
  exact Frame.refl ..

theorem State.flashSettle_frame {W : Nat → Prop} (s : State) : Frame [.nvs, .flash] W s (State.flashSettle s) := by
  unfold State.flashSettle
  split
  with_reducible refine Frame.iteOf ?_ ?_
  exact Frame.refl ..
  with_reducible refine Frame.step ?_ (State.tileProgram_frame _ _ _ _) (by decide)
  exact Frame.refl ..
  exact Frame.refl ..

theorem execSoftwareResetCore_frame {W : Nat → Prop} (s : State) (hw0 : ∀ i0, W (i0)) : Frame.out [.nt, .inc, .host, .evt, .cyc, .chn, .est, .cap, .dsp, .piers, .axes, .deck, .deckMem, .pierMem, .pwr, .hif, .window, .ring, .twn, .kst, .acq, .ddr, .nvs, .flash, .sysLost, .fbDone] W s (execSoftwareResetCore s) := by
  unfold execSoftwareResetCore
  split
  with_reducible refine Frame.out_next ?_
  with_reducible refine Frame.set1 ?_ ?_
  with_reducible refine Frame.set1 ?_ ?_
  with_reducible refine Frame.step ?_ (State.coreReset_frame _ ?_) (by decide)
  with_reducible refine Frame.step ?_ (State.flashSettle_frame _) (by decide)
  exact Frame.refl ..
  exact fun _ => hw0 _; exact hw0 _; exact hw0 _
  with_reducible refine Frame.out_next ?_
  exact Frame.refl ..

theorem State.fullReset_frame {W : Nat → Prop} (s : State) (hw0 : ∀ i0, W (i0)) : Frame [.clk, .nt, .inc, .host, .evt, .cyc, .chn, .est, .cap, .dsp, .piers, .axes, .deck, .deckMem, .pierMem, .pwr, .hif, .window, .ring, .twn, .kst, .kstImg, .acq, .ddr, .nvs, .krefLost, .sysLost, .fbDone] W s (State.fullReset s) := by
  exact Frame.any (fun p hp => by cases p <;> first | exact (hp (by decide)).elim | rfl) hw0

theorem State.fullResetBy_frame {W : Nat → Prop} (s : State) (cause : Fld) (hw0 : ∀ i0, W (i0)) : Frame [.clk, .nt, .inc, .host, .evt, .cyc, .chn, .est, .cap, .dsp, .piers, .axes, .deck, .deckMem, .pierMem, .pwr, .hif, .window, .ring, .twn, .kst, .kstImg, .acq, .ddr, .nvs, .krefLost, .sysLost, .fbDone] W s (State.fullResetBy s cause) := by
  unfold State.fullResetBy
  with_reducible refine Frame.set1 ?_ ?_
  with_reducible refine Frame.putReg ?_ ?_
  with_reducible refine Frame.step ?_ (State.fullReset_frame _ ?_) (by decide)
  exact Frame.refl ..
  exact fun _ => hw0 _; exact hw0 _; exact hw0 _

theorem execSoftwareResetFull_frame {W : Nat → Prop} (s : State) (hw0 : ∀ i0, W (i0)) : Frame.out [.clk, .nt, .inc, .host, .evt, .cyc, .chn, .est, .cap, .dsp, .piers, .axes, .deck, .deckMem, .pierMem, .pwr, .hif, .window, .ring, .twn, .kst, .kstImg, .acq, .ddr, .nvs, .flash, .krefLost, .sysLost, .fbDone] W s (execSoftwareResetFull s) := by
  unfold execSoftwareResetFull
  split
  with_reducible refine Frame.out_next ?_
  with_reducible refine Frame.step ?_ (State.fullResetBy_frame _ _ ?_) (by decide)
  with_reducible refine Frame.step ?_ (State.flashSettle_frame _) (by decide)
  exact Frame.refl ..
  exact fun _ => hw0 _
  with_reducible refine Frame.out_next ?_
  exact Frame.refl ..

theorem State.flashCut_frame {W : Nat → Prop} (s : State) : Frame [.free, .nvs, .flash] W s (State.flashCut s) := by
  unfold State.flashCut
  split
  exact Frame.refl ..
  split
  with_reducible refine Frame.step ?_ (State.flashSpoil_frame _ _ _) (by decide)
  exact Frame.refl ..
  with_reducible refine Frame.step ?_ (State.flashSpoil_frame _ _ _) (by decide)
  exact Frame.refl ..
  exact Frame.refl ..
  split
  exact Frame.refl ..
  with_reducible refine Frame.iteOf ?_ ?_
  with_reducible refine Frame.step ?_ (State.flashSpoil_frame _ _ _) (by decide)
  exact Frame.refl ..
  extract_lets x0 x1
  have hx1 : Frame [.free, .nvs, .flash] W s x1 := by
    (with_reducible conv => arg 4; whnf)
    with_reducible refine Frame.step ?_ (State.tileProgram_frame _ _ _ _) (by decide)
    exact Frame.refl ..
  with_reducible refine Frame.iteOf ?_ ?_
  with_reducible refine Frame.step ?_ (State.flashSpoil_frame _ _ _) (by decide)
  exact hx1
  with_reducible refine Frame.step ?_ (State.flashSpoil_frame _ _ _) (by decide)
  exact hx1

theorem execResetPin_frame {W : Nat → Prop} (s : State) (hw0 : ∀ i0, W (i0)) : Frame.out [.clk, .free, .nt, .inc, .host, .evt, .cyc, .chn, .est, .cap, .dsp, .piers, .axes, .deck, .deckMem, .pierMem, .pwr, .hif, .window, .ring, .twn, .kst, .kstImg, .acq, .ddr, .nvs, .flash, .krefLost, .sysLost, .fbDone] W s (execResetPin s) := by
  unfold execResetPin
  extract_lets x0 x1 x2
  have hx1 : Frame [.clk, .free, .nt, .inc, .host, .evt, .cyc, .chn, .est, .cap, .dsp, .piers, .axes, .deck, .deckMem, .pierMem, .pwr, .hif, .window, .ring, .twn, .kst, .kstImg, .acq, .ddr, .nvs, .flash, .krefLost, .sysLost, .fbDone] W s x1 := by
    (with_reducible conv => arg 4; whnf)
    with_reducible refine Frame.step ?_ (State.fullResetBy_frame _ _ ?_) (by decide)
    with_reducible refine Frame.step ?_ (State.flashCut_frame _) (by decide)
    exact Frame.refl ..
    exact fun _ => hw0 _
  with_reducible refine Frame.out_next ?_
  ((with_reducible refine Frame.upd ?_ ?_); on_goal 2 => (intro p hp; cases p <;> first | exact (hp (by decide)).elim | (dsimp only [Part.same] <;> fail)))
  exact hx1

theorem execPerst_frame {W : Nat → Prop} (s : State) (hw0 : ∀ i0, W (i0)) : Frame.out [.evt, .hif] W s (execPerst s) := by
  unfold execPerst
  with_reducible refine Frame.out_next ?_
  with_reducible refine Frame.set1 ?_ ?_
  with_reducible refine Frame.step ?_ (State.hostReset_frame _ ?_) (by decide)
  with_reducible refine Frame.step ?_ (State.linkDown_frame _ ?_ ?_ ?_ ?_ ?_) (by decide)
  exact Frame.refl ..
  exact hw0 _; exact hw0 _; exact hw0 _; exact hw0 _; exact hw0 _; exact fun _ => hw0 _; exact hw0 _

theorem State.powerReset_frame {W : Nat → Prop} (s : State) (hw0 : ∀ i0, W (i0)) : Frame [.clk, .free, .nt, .inc, .host, .evt, .cyc, .chn, .est, .cap, .dsp, .piers, .axes, .deck, .deckMem, .pierMem, .pwr, .hif, .window, .ring, .twn, .kst, .kstImg, .acq, .ddr, .nvs, .flash, .krefLost, .sysLost, .fbDone] W s (State.powerReset s) := by
  unfold State.powerReset
  extract_lets x0 x1
  have hx0 : Frame [.clk, .free, .nt, .inc, .host, .evt, .cyc, .chn, .est, .cap, .dsp, .piers, .axes, .deck, .deckMem, .pierMem, .pwr, .hif, .window, .ring, .twn, .kst, .kstImg, .acq, .ddr, .nvs, .flash, .krefLost, .sysLost, .fbDone] W s x0 := by
    (with_reducible conv => arg 4; whnf)
    with_reducible refine Frame.step ?_ (State.fullReset_frame _ ?_) (by decide)
    with_reducible refine Frame.step ?_ (State.flashCut_frame _) (by decide)
    exact Frame.refl ..
    exact fun _ => hw0 _
  ((with_reducible refine Frame.upd ?_ ?_); on_goal 2 => (intro p hp; cases p <;> first | exact (hp (by decide)).elim | (dsimp only [Part.same] <;> fail)))
  exact hx0

theorem execPowerOn_frame {W : Nat → Prop} (s : State) (hw0 : ∀ i0, W (i0)) : Frame.out [.clk, .free, .nt, .inc, .host, .evt, .cyc, .chn, .est, .cap, .dsp, .piers, .axes, .deck, .deckMem, .pierMem, .pwr, .hif, .window, .ring, .twn, .kst, .kstImg, .acq, .ddr, .nvs, .flash, .krefLost, .sysLost, .fbDone] W s (execPowerOn s) := by
  unfold execPowerOn
  with_reducible refine Frame.out_next ?_
  with_reducible refine Frame.step ?_ (State.powerReset_frame _ ?_) (by decide)
  exact Frame.refl ..
  exact fun _ => hw0 _

theorem execSupplyBrownout_frame {W : Nat → Prop} (v0 : Rail) (s : State) (hw0 : ∀ i0, W (i0)) : Frame.out [.clk, .free, .nt, .inc, .host, .evt, .cyc, .chn, .est, .cap, .dsp, .piers, .axes, .deck, .deckMem, .pierMem, .pwr, .hif, .window, .ring, .twn, .kst, .kstImg, .acq, .ddr, .nvs, .flash, .krefLost, .sysLost, .fbDone] W s (execSupplyBrownout v0 s) := by
  unfold execSupplyBrownout
  with_reducible refine Frame.out_next ?_
  with_reducible refine Frame.step ?_ (State.powerReset_frame _ ?_) (by decide)
  exact Frame.refl ..
  exact fun _ => hw0 _

theorem State.pllPorts_frame {W : Nat → Prop} (s : State) (i : ℕ) (hw0 : ∀ i0, W (R.ZLP_P_STAT i0)) (hw1 : W (R.ZLP_RSTAT)) (hw2 : W (R.ZLP_BRK)) (hw3 : W (R.ZLP_BRK_CNT)) (hw4 : W (R.EVT_PEND (70 / 32))) (hw5 : W (R.EVT_LOST_CNT)) (hw6 : W (R.EVT_STAT)) : Frame [.evt] W s (State.pllPorts s i) := by
  unfold State.pllPorts
  with_reducible refine Frame.eachDo ?_ ?_
  exact Frame.refl ..
  intro u0 x1 hu2
  with_reducible refine Frame.step ?_ (State.linkSet_frame _ _ _ ?_ ?_ ?_ ?_ ?_ ?_ ?_) (by decide)
  assumption
  exact hw0 _; exact hw1; exact hw2; exact hw3; exact hw4; exact hw5; exact hw6

theorem State.pllLock_frame {W : Nat → Prop} (s : State) (i : ℕ) (on : Bool) (hw0 : W (R.GLB_CLK_STAT)) : Frame [] W s (State.pllLock s i on) := by
  unfold State.pllLock
  extract_lets x0
  with_reducible refine Frame.setF ?_ ?_
  exact Frame.refl ..
  exact hw0

theorem execPllLock_frame {W : Nat → Prop} (i : Fin 6) (s : State) (hw0 : W (R.GLB_CLK_STAT)) (hw1 : ∀ i0, W (R.ZLP_P_STAT i0)) (hw2 : W (R.ZLP_RSTAT)) (hw3 : W (R.ZLP_BRK)) (hw4 : W (R.ZLP_BRK_CNT)) (hw5 : W (R.EVT_PEND (70 / 32))) (hw6 : W (R.EVT_LOST_CNT)) (hw7 : W (R.EVT_STAT)) : Frame.out [.evt] W s (execPllLock i s) := by
  unfold execPllLock
  split
  with_reducible refine Frame.out_next ?_
  exact Frame.refl ..
  with_reducible refine Frame.out_next ?_
  with_reducible refine Frame.step ?_ (State.pllPorts_frame _ _ ?_ ?_ ?_ ?_ ?_ ?_ ?_) (by decide)
  with_reducible refine Frame.step ?_ (State.pllLock_frame _ _ _ ?_) (by decide)
  exact Frame.refl ..
  exact hw0; exact fun _ => hw1 _; exact hw2; exact hw3; exact hw4; exact hw5; exact hw6; exact hw7

theorem State.pllFail_frame {W : Nat → Prop} (s : State) (i : ℕ) (was : Bool) (hw0 : W (R.KST_STAT)) (hw1 : W (R.KST_ZONE)) (hw2 : W (R.EVT_PEND (96 / 32))) (hw3 : W (R.EVT_LOST_CNT)) (hw4 : W (R.EVT_STAT)) (hw5 : W (R.PWM_FLT_STAT)) (hw6 : W (R.EVT_PEND (56 / 32))) (hw7 : W (R.KST_OUT)) (hw8 : W (R.EVT_PEND (98 / 32))) (hw9 : W (R.DDR_STAT)) (hw10 : W (R.ACQ_STAT)) (hw11 : W (R.ACQ_FIFO)) (hw12 : W (R.EVT_PEND (81 / 32))) (hw13 : W (R.HIF_LINK)) (hw14 : W (R.HIF_STAT)) (hw15 : W (R.EVT_PEND (225 / 32))) (hw16 : W (R.EVT_PEND (101 / 32))) (hw17 : ∀ i0, W (R.ZLP_P_STAT i0)) (hw18 : W (R.ZLP_RSTAT)) (hw19 : W (R.ZLP_BRK)) (hw20 : W (R.ZLP_BRK_CNT)) (hw21 : W (R.EVT_PEND (70 / 32))) : Frame [.free, .evt, .pwr, .ring, .kst, .acq, .ddr, .krefLost, .sysLost] W s (State.pllFail s i was) := by
  unfold State.pllFail
  with_reducible refine Frame.iteOf ?_ ?_
  with_reducible refine Frame.iteOf ?_ ?_
  with_reducible refine Frame.step ?_ (State.sysclkLose_frame _ ?_ ?_ ?_ ?_ ?_ ?_ ?_ ?_ ?_) (by decide)
  exact Frame.refl ..
  exact hw0; exact hw1; exact hw2; exact hw3; exact hw4; exact hw5; exact hw6; exact hw7; exact hw8
  exact Frame.refl ..
  with_reducible refine Frame.iteOf ?_ ?_
  extract_lets x0
  have hx0 : Frame [.free, .evt, .pwr, .ring, .kst, .acq, .ddr, .krefLost, .sysLost] W s x0 := by
    (with_reducible conv => arg 4; whnf)
    with_reducible refine Frame.clr ?_ ?_
    with_reducible refine Frame.set1 ?_ ?_
    exact Frame.refl ..
    exact hw9; exact hw9
  with_reducible refine Frame.whenDo ?_ ?_
  exact hx0
  intro u1 hu2
  with_reducible refine Frame.step ?_ (State.acqStop_frame _ _ ?_ ?_ ?_ ?_ ?_) (by decide)
  assumption
  exact hw10; exact hw11; exact hw12; exact hw3; exact hw4
  with_reducible refine Frame.iteOf ?_ ?_
  with_reducible refine Frame.step ?_ (State.linkDown_frame _ ?_ ?_ ?_ ?_ ?_) (by decide)
  exact Frame.refl ..
  exact hw13; exact hw14; exact hw15; exact hw3; exact hw4
  with_reducible refine Frame.iteOf ?_ ?_
  with_reducible refine Frame.iteOf ?_ ?_
  with_reducible refine Frame.step ?_ (State.krefLose_frame _ ?_ ?_ ?_ ?_) (by decide)
  exact Frame.refl ..
  exact hw7; exact hw16; exact hw3; exact hw4
  exact Frame.refl ..
  with_reducible refine Frame.step ?_ (State.pllPorts_frame _ _ ?_ ?_ ?_ ?_ ?_ ?_ ?_) (by decide)
  exact Frame.refl ..
  exact fun _ => hw17 _; exact hw18; exact hw19; exact hw20; exact hw21; exact hw3; exact hw4

theorem execPllLockTimeout_frame {W : Nat → Prop} (i : Fin 6) (s : State) (hw0 : W (R.GLB_CLK_STAT)) (hw1 : W (R.KST_STAT)) (hw2 : W (R.KST_ZONE)) (hw3 : W (R.EVT_PEND (96 / 32))) (hw4 : W (R.EVT_LOST_CNT)) (hw5 : W (R.EVT_STAT)) (hw6 : W (R.PWM_FLT_STAT)) (hw7 : W (R.EVT_PEND (56 / 32))) (hw8 : W (R.KST_OUT)) (hw9 : W (R.EVT_PEND (98 / 32))) (hw10 : W (R.DDR_STAT)) (hw11 : W (R.ACQ_STAT)) (hw12 : W (R.ACQ_FIFO)) (hw13 : W (R.EVT_PEND (81 / 32))) (hw14 : W (R.HIF_LINK)) (hw15 : W (R.HIF_STAT)) (hw16 : W (R.EVT_PEND (225 / 32))) (hw17 : W (R.EVT_PEND (101 / 32))) (hw18 : ∀ i0, W (R.ZLP_P_STAT i0)) (hw19 : W (R.ZLP_RSTAT)) (hw20 : W (R.ZLP_BRK)) (hw21 : W (R.ZLP_BRK_CNT)) (hw22 : W (R.EVT_PEND (70 / 32))) : Frame.out [.free, .evt, .pwr, .ring, .kst, .acq, .ddr, .krefLost, .sysLost] W s (execPllLockTimeout i s) := by
  unfold execPllLockTimeout
  extract_lets x0 x1
  have hx1 : Frame [.free, .evt, .pwr, .ring, .kst, .acq, .ddr, .krefLost, .sysLost] W s x1 := by
    (with_reducible conv => arg 4; whnf)
    with_reducible refine Frame.step ?_ (State.pllLock_frame _ _ _ ?_) (by decide)
    exact Frame.refl ..
    exact hw0
  with_reducible refine Frame.out_next ?_
  with_reducible refine Frame.step ?_ (State.pllFail_frame _ _ _ ?_ ?_ ?_ ?_ ?_ ?_ ?_ ?_ ?_ ?_ ?_ ?_ ?_ ?_ ?_ ?_ ?_ ?_ ?_ ?_ ?_ ?_) (by decide)
  with_reducible refine Frame.setF ?_ ?_
  exact hx1
  exact hw0; exact hw1; exact hw2; exact hw3; exact hw4; exact hw5; exact hw6; exact hw7; exact hw8; exact hw9; exact hw10; exact hw11; exact hw12; exact hw13; exact hw14; exact hw15; exact hw16; exact hw17; exact fun _ => hw18 _; exact hw19; exact hw20; exact hw21; exact hw22

theorem State.bootTo_frame {W : Nat → Prop} (s : State) (n : ℕ) (hw0 : W (R.GLB_BOOT)) : Frame [] W s (State.bootTo s n) := by
  unfold State.bootTo
  with_reducible refine Frame.setF ?_ ?_
  exact Frame.refl ..
  exact hw0

theorem State.bootDone_frame {W : Nat → Prop} (s : State) (n : ℕ) (hw0 : W (R.GLB_BOOT)) (hw1 : W (R.EVT_PEND (3 / 32))) (hw2 : W (R.EVT_LOST_CNT)) (hw3 : W (R.EVT_STAT)) : Frame [.evt] W s (State.bootDone s n) := by
  unfold State.bootDone
  extract_lets x0
  have hx0 : Frame [.evt] W s x0 := by
    (with_reducible conv => arg 4; whnf)
    with_reducible refine Frame.step ?_ (State.bootTo_frame _ _ ?_) (by decide)
    exact Frame.refl ..
    exact hw0
  with_reducible refine Frame.step ?_ (State.raise_frame _ _ _ _ ?_ ?_ ?_) (by decide)
  exact hx0
  exact hw1; exact hw2; exact hw3

theorem State.bootFail_frame {W : Nat → Prop} (s : State) (code : ℕ) (hw0 : W (R.GLB_BOOT)) (hw1 : W (R.EVT_PEND (3 / 32))) (hw2 : W (R.EVT_LOST_CNT)) (hw3 : W (R.EVT_STAT)) : Frame [.evt] W s (State.bootFail s code) := by
  unfold State.bootFail
  with_reducible refine Frame.step ?_ (State.bootDone_frame _ _ ?_ ?_ ?_ ?_) (by decide)
  with_reducible refine Frame.setF ?_ ?_
  exact Frame.refl ..
  exact hw0; exact hw0; exact hw1; exact hw2; exact hw3

theorem State.bootClocks_frame {W : Nat → Prop} (s : State) (hw0 : W (R.GLB_BOOT)) (hw1 : W (R.EVT_PEND (3 / 32))) (hw2 : W (R.EVT_LOST_CNT)) (hw3 : W (R.EVT_STAT)) : Frame [.evt] W s (State.bootClocks s) := by
  unfold State.bootClocks
  with_reducible refine Frame.iteOf ?_ ?_
  with_reducible refine Frame.step ?_ (State.bootTo_frame _ _ ?_) (by decide)
  exact Frame.refl ..
  exact hw0
  with_reducible refine Frame.iteOf ?_ ?_
  with_reducible refine Frame.step ?_ (State.bootFail_frame _ _ ?_ ?_ ?_ ?_) (by decide)
  exact Frame.refl ..
  exact hw0; exact hw1; exact hw2; exact hw3
  exact Frame.refl ..

theorem State.bootFlash_frame {W : Nat → Prop} (s : State) (e : BootEnv) (hw0 : W (R.GLB_BOOT)) (hw1 : W (R.EVT_PEND (3 / 32))) (hw2 : W (R.EVT_LOST_CNT)) (hw3 : W (R.EVT_STAT)) (hw4 : W (R.NVS_SIZE)) (hw5 : W (R.NVS_T_PP)) (hw6 : W (R.NVS_T_SE)) (hw7 : W (R.NVS_STAT)) : Frame [.evt, .nvs] W s (State.bootFlash s e) := by
  unfold State.bootFlash
  split
  with_reducible refine Frame.step ?_ (State.bootFail_frame _ _ ?_ ?_ ?_ ?_) (by decide)
  exact Frame.refl ..
  exact hw0; exact hw1; exact hw2; exact hw3
  extract_lets x0 x1
  have hx0 : Frame [.evt, .nvs] W s x0 := by
    (with_reducible conv => arg 4; whnf)
    with_reducible refine Frame.putReg ?_ ?_
    with_reducible refine Frame.putReg ?_ ?_
    with_reducible refine Frame.setF ?_ ?_
    exact Frame.refl ..
    exact hw4; exact hw5; exact hw6
  with_reducible refine Frame.step ?_ (State.bootTo_frame _ _ ?_) (by decide)
  with_reducible refine Frame.set1 ?_ ?_
  ((with_reducible refine Frame.step ?_ (State.putNvs_keep _ _ ?_) (by decide)); on_goal 2 => first | with_reducible rfl | with_reducible exact ⟨rfl, rfl⟩ | (simp +zetaDelta <;> fail))
  exact hx0
  exact hw7; exact hw0

theorem State.bootLoad_frame {W : Nat → Prop} (s : State) (e : BootEnv) (hw0 : W (R.NVS_IMG_VER)) (hw1 : ∀ i0, W (R.PIR_STAT i0)) : Frame [.piers, .deck, .pierMem, .nvs] W s (State.bootLoad s e) := by
  unfold State.bootLoad
  extract_lets x0 x1 x2 x3
  have hx2 : Frame [.piers, .deck, .pierMem, .nvs] W s x2 := by
    (with_reducible conv => arg 4; whnf)
    ((with_reducible refine Frame.step ?_ (State.putNvs_keep _ _ ?_) (by decide)); on_goal 2 => first | with_reducible rfl | with_reducible exact ⟨rfl, rfl⟩ | (simp +zetaDelta <;> fail))
    exact Frame.refl ..
  have hx3 : Frame [.piers, .deck, .pierMem, .nvs] W s x3 := by
    (with_reducible conv => arg 4; whnf)
    with_reducible refine Frame.putReg ?_ ?_
    exact hx2
    exact hw0
  with_reducible refine Frame.eachDo ?_ ?_
  exact hx3
  intro u4 x5 hu6
  with_reducible refine Frame.setF ?_ ?_
  with_reducible refine Frame.step ?_ (State.reloadWrite_frame _ _) (by decide)
  assumption
  exact hw1 _

theorem State.bootImage_frame {W : Nat → Prop} (s : State) (e : BootEnv) (hw0 : W (R.GLB_BOOT)) (hw1 : W (R.EVT_PEND (3 / 32))) (hw2 : W (R.EVT_LOST_CNT)) (hw3 : W (R.EVT_STAT)) (hw4 : W (R.NVS_IMG_VER)) (hw5 : ∀ i0, W (R.PIR_STAT i0)) : Frame [.evt, .piers, .deck, .pierMem, .nvs] W s (State.bootImage s e) := by
  unfold State.bootImage
  with_reducible refine Frame.iteOf ?_ ?_
  with_reducible refine Frame.step ?_ (State.bootFail_frame _ _ ?_ ?_ ?_ ?_) (by decide)
  exact Frame.refl ..
  exact hw0; exact hw1; exact hw2; exact hw3
  with_reducible refine Frame.iteOf ?_ ?_
  with_reducible refine Frame.step ?_ (State.bootFail_frame _ _ ?_ ?_ ?_ ?_) (by decide)
  exact Frame.refl ..
  exact hw0; exact hw1; exact hw2; exact hw3
  with_reducible refine Frame.step ?_ (State.bootTo_frame _ _ ?_) (by decide)
  with_reducible refine Frame.step ?_ (State.bootLoad_frame _ _ ?_ ?_) (by decide)
  exact Frame.refl ..
  exact hw4; exact fun _ => hw5 _; exact hw0

theorem State.bootVerify_frame {W : Nat → Prop} (s : State) (e : BootEnv) (hw0 : W (R.GLB_BOOT)) (hw1 : W (R.EVT_PEND (3 / 32))) (hw2 : W (R.EVT_LOST_CNT)) (hw3 : W (R.EVT_STAT)) : Frame [.evt, .deck, .pierMem] W s (State.bootVerify s e) := by
  unfold State.bootVerify
  with_reducible refine Frame.iteOf ?_ ?_
  with_reducible refine Frame.step ?_ (State.bootTo_frame _ _ ?_) (by decide)
  exact Frame.refl ..
  exact hw0
  with_reducible refine Frame.step ?_ (State.bootFail_frame _ _ ?_ ?_ ?_ ?_) (by decide)
  ((with_reducible refine Frame.upd ?_ ?_); on_goal 2 => (intro p hp; cases p <;> first | exact (hp (by decide)).elim | (dsimp only [Part.same] <;> fail)))
  exact Frame.refl ..
  exact hw0; exact hw1; exact hw2; exact hw3

theorem State.bootPier_frame {W : Nat → Prop} (s : State) (e : BootEnv) (p : ℕ) (hw0 : W (R.PIR_UC_VER p)) (hw1 : W (R.PIR_UC_CRC p)) (hw2 : W (R.PIR_UC_CALC p)) (hw3 : W (R.DSP_BG_PEND)) (hw4 : W (R.PIR_STAT p)) (hw5 : W (R.PIR_FAULT_CNT p)) (hw6 : W (R.PIR_CTL p)) (hw7 : W (R.EVT_PEND ((32 + p) / 32))) (hw8 : W (R.EVT_LOST_CNT)) (hw9 : W (R.EVT_STAT)) (hw10 : ∀ i0 i1, W (R.PIR_RES i0 i1)) (hw11 : ∀ i0, W (R.AXT_W2 i0)) (hw12 : ∀ i0, W (R.AXT_W0 i0)) (hw13 : W (R.AXT_STAT)) (hw14 : ∀ i0, W (R.AXT_FLT_MAP i0)) (hw15 : W (R.EVT_PEND (48 / 32))) : Frame [.evt, .dsp, .piers, .axes, .deck] W s (State.bootPier s e p) := by
  unfold State.bootPier
  extract_lets x0 x1 x2 x3
  have hx1 : Frame [.evt, .dsp, .piers, .axes, .deck] W s x1 := by
    (with_reducible conv => arg 4; whnf)
    with_reducible refine Frame.putReg ?_ ?_
    with_reducible refine Frame.putReg ?_ ?_
    with_reducible refine Frame.putReg ?_ ?_
    exact Frame.refl ..
    exact hw0; exact hw1; exact hw2
  have hx3 : Frame [.evt, .dsp, .piers, .axes, .deck] W s x3 := by
    (with_reducible conv => arg 4; whnf)
    with_reducible refine Frame.step ?_ (State.putPier_frame _ _ _) (by decide)
    exact hx1
  with_reducible refine Frame.iteOf ?_ ?_
  exact hx3
  with_reducible refine Frame.step ?_ (State.pierFault_frame _ _ _ ?_ ?_ ?_ ?_ ?_ ?_ ?_ ?_ ?_ ?_ ?_ ?_ ?_) (by decide)
  exact hx3
  exact hw3; exact hw4; exact hw5; exact hw6; exact hw7; exact hw8; exact hw9; exact fun _ _ => hw10 _ _; exact fun _ => hw11 _; exact fun _ => hw12 _; exact hw13; exact fun _ => hw14 _; exact hw15

theorem State.bootPiers_frame {W : Nat → Prop} (s : State) (e : BootEnv) (hw0 : ∀ i0, W (R.PIR_UC_VER i0)) (hw1 : ∀ i0, W (R.PIR_UC_CRC i0)) (hw2 : ∀ i0, W (R.PIR_UC_CALC i0)) (hw3 : W (R.DSP_BG_PEND)) (hw4 : ∀ i0, W (R.PIR_STAT i0)) (hw5 : ∀ i0, W (R.PIR_FAULT_CNT i0)) (hw6 : ∀ i0, W (R.PIR_CTL i0)) (hw7 : ∀ i0, W (R.EVT_PEND i0)) (hw8 : W (R.EVT_LOST_CNT)) (hw9 : W (R.EVT_STAT)) (hw10 : ∀ i0 i1, W (R.PIR_RES i0 i1)) (hw11 : ∀ i0, W (R.AXT_W2 i0)) (hw12 : ∀ i0, W (R.AXT_W0 i0)) (hw13 : W (R.AXT_STAT)) (hw14 : ∀ i0, W (R.AXT_FLT_MAP i0)) (hw15 : W (R.GLB_BOOT)) : Frame [.evt, .dsp, .piers, .axes, .deck] W s (State.bootPiers s e) := by
  unfold State.bootPiers
  with_reducible refine Frame.step ?_ (State.bootTo_frame _ _ ?_) (by decide)
  with_reducible refine Frame.eachDo ?_ ?_
  exact Frame.refl ..
  intro u0 x1 hu2
  with_reducible refine Frame.step ?_ (State.bootPier_frame _ _ _ ?_ ?_ ?_ ?_ ?_ ?_ ?_ ?_ ?_ ?_ ?_ ?_ ?_ ?_ ?_ ?_) (by decide)
  assumption
  exact hw0 _; exact hw1 _; exact hw2 _; exact hw3; exact hw4 _; exact hw5 _; exact hw6 _; exact hw7 _; exact hw8; exact hw9; exact fun _ _ => hw10 _ _; exact fun _ => hw11 _; exact fun _ => hw12 _; exact hw13; exact fun _ => hw14 _; exact hw7 _; exact hw15

theorem State.bootBox_frame {W : Nat → Prop} (s : State) (hw0 : W (R.BBX_STAT)) (hw1 : ∀ i0, W (R.BBX_ASEQ i0)) : Frame [] W s (State.bootBox s) := by
  unfold State.bootBox
  extract_lets x0 x1
  have hx1 : Frame [] W s x1 := by
    (with_reducible conv => arg 4; whnf)
    with_reducible refine Frame.setF ?_ ?_
    exact Frame.refl ..
    exact hw0
  with_reducible refine Frame.eachDo ?_ ?_
  exact hx1
  intro u2 x3 hu4
  with_reducible refine Frame.whenDo ?_ ?_
  assumption
  intro u5 hu6
  with_reducible refine Frame.putReg ?_ ?_
  assumption
  exact hw1 _

theorem State.bootKeystone_frame {W : Nat → Prop} (s : State) (b : ℕ) (hw0 : ∀ i0, W (R.KST_PWIN i0)) (hw1 : W (R.KST_WIGN_CNT)) : Frame [.kst] W s (State.bootKeystone s b) := by
  unfold State.bootKeystone
  with_reducible refine Frame.iteOf ?_ ?_
  exact Frame.refl ..
  with_reducible refine Frame.eachDo ?_ ?_
  exact Frame.refl ..
  intro u0 x1 hu2
  with_reducible refine Frame.step ?_ (State.pwinWrite_frame _ _ _ ?_ ?_) (by decide)
  assumption
  exact hw0 _; exact hw1

theorem State.listPair_frame {W : Nat → Prop} (s : State) (a : ℕ) (v : Word) (hw0 : W (R.GLB_PW_ERR)) (hw1 : W (R.GLB_PW_LAST)) (hw2 : W (R.EVT_PEND (1 / 32))) (hw3 : W (R.EVT_LOST_CNT)) (hw4 : W (R.EVT_STAT)) (hw5 : W ((a - 2048))) (hw6 : W (R.DCK_STAT)) (hw7 : W (R.GLB_MBX_REQ)) (hw8 : W (R.GLB_MBX_STAT)) (hw9 : ∀ i0, W (R.GLB_MBX_D i0)) (hw10 : W (R.ACQ_STAT)) (hw11 : W (R.ACQ_BSIZE)) (hw12 : W (R.ACQ_BLK)) (hw13 : W (R.ACQ_CTL)) (hw14 : W (R.ACQ_FIFO)) (hw15 : W (R.EVT_PEND (81 / 32))) (hw16 : W (a)) (hw17 : W (R.ACQ_CH_SRC ((a - R.ACQ_CH_SRC 0) / 4))) (hw18 : W (R.DDR_CTL)) (hw19 : W (R.DDR_UE_ADDR)) (hw20 : ∀ i0, W (R.TRG_CFG i0)) (hw21 : W (R.TRG_STAT)) (hw22 : ∀ i0, W (R.CHN_CAP_CFG i0)) (hw23 : ∀ i0, W (R.ACQ_RM_STAT i0)) (hw24 : W (R.CHN_CAP_FILL)) (hw25 : W (R.CHN_STAT)) (hw26 : W (R.EVT_PEND (21 / 32))) (hw27 : W (R.CHN_INC_HI)) (hw28 : W (R.CHN_INC_LO)) (hw29 : W (R.EVT_PEND (16 / 32))) (hw30 : W (R.CHN_SRC)) (hw31 : W (R.CHN_CFG)) (hw32 : W (R.CHN_PLAN)) (hw33 : W (R.EST_OVFL_CNT)) (hw34 : W (R.EST_STAT)) (hw35 : W (R.EVT_PEND (20 / 32))) (hw36 : W (R.EST_SKIP_CNT)) (hw37 : W (R.EST_IDX)) (hw38 : ∀ i0, W (R.EST_W i0)) (hw39 : W (R.EST_PIN_POL)) (hw40 : W (R.EST_FIRST_LATE)) (hw41 : W (R.DSP_BG_OVR)) (hw42 : W (R.DSP_STAT)) (hw43 : W (R.EVT_PEND (26 / 32))) (hw44 : W (R.DSP_BG_PEND)) (hw45 : W (R.DSP_CWIN)) (hw46 : W (R.DSP_FLOW ((a - R.DSP_FLOW 0) / 4))) (hw47 : ∀ i0 i1, W (R.PIR_RES i0 i1)) (hw48 : ∀ i0, W (R.AXT_W2 i0)) (hw49 : W (R.DSP_OVR_FIRST)) (hw50 : ∀ i0, W (R.PIR_STAT i0)) (hw51 : ∀ i0, W (R.PIR_CTL i0)) (hw52 : ∀ i0, W (R.AXT_W0 i0)) (hw53 : W (R.AXT_STAT)) (hw54 : ∀ i0, W (R.AXT_FLT_MAP i0)) (hw55 : W (R.EVT_PEND (48 / 32))) (hw56 : W (R.NVS_QFILL)) (hw57 : W (R.DSP_DL ((a - 327680) / 16))) (hw58 : W (R.DCK_UE_ADDR)) (hw59 : W (R.DCK_CAM_BAD)) (hw60 : W (R.PWM_FLT_STAT)) (hw61 : W (R.PWM_FLT_FIRST)) (hw62 : W (R.PWM_FLT_CNT)) (hw63 : W (R.EVT_PEND (56 / 32))) (hw64 : W (R.PWM_CFG ((a - 1048576) / 64))) (hw65 : W (R.PWM_STAT ((a - 1048576) / 64))) (hw66 : W (R.PWM_PER ((a - 1048576) / 64))) (hw67 : ∀ i0, W (R.PWM_CMP ((a - 1048576) / 64) i0)) (hw68 : W (R.CLN_CFG ((a - 1114112) / 256))) (hw69 : W (R.CLN_STAT ((a - 1114112) / 256))) (hw70 : W (R.EVT_PEND (57 / 32))) (hw71 : W (R.STP_TIM ((a - 1179648) / 64))) (hw72 : W (R.STP_CFG ((a - 1179648) / 64))) (hw73 : W (R.STP_POS ((a - 1179648) / 64))) (hw74 : W (R.STP_STAT ((a - 1179648) / 64))) (hw75 : W (R.ENC_CFG ((a - 1245184) / 64))) (hw76 : W (R.ENC_STAT ((a - 1245184) / 64))) (hw77 : W (R.SDM_CLK ((a - 1310720) / 4))) (hw78 : W (R.SDM_CFG ((a - 1310976) / 16))) (hw79 : W (R.ZLP_GUARD)) (hw80 : W (R.CYM_STAT)) (hw81 : ∀ i0, W (R.ZLP_P_STAT i0)) (hw82 : W (R.ZLP_RSTAT)) (hw83 : W (R.ZLP_BRK)) (hw84 : W (R.ZLP_BRK_CNT)) (hw85 : W (R.EVT_PEND (70 / 32))) (hw86 : W (R.ZLP_TCFG)) (hw87 : W (R.ZLP_TSTAT)) (hw88 : W (R.KST_PWIN ((a - 2101248) / 4))) (hw89 : W (R.KST_WIGN_CNT)) (hw90 : W (R.TWN_CTL)) (hw91 : W (R.TWN_STAT)) (hw92 : W (R.TWN_EPOCH)) (hw93 : W (R.TWN_MIS_FIRST)) (hw94 : W (R.EVT_HEAD)) (hw95 : W (R.BBX_CTL)) (hw96 : W (R.BBX_COUNT)) (hw97 : W (R.BBX_SEQ)) (hw98 : W (R.BBX_STAT)) (hw99 : W (R.EVT_PEND (130 / 32))) (hw100 : W (R.BBX_TILES)) (hw101 : W (R.BBX_DISC_CNT)) (hw102 : W (R.GLB_ACC_ERR)) (hw103 : W (R.EVT_PEND (2 / 32))) (hw104 : W (R.GLB_BOOT)) : Frame [.free, .nt, .inc, .host, .evt, .cyc, .chn, .est, .cap, .dsp, .piers, .axes, .deck, .deckMem, .pwr, .hif, .ring, .twn, .kst, .acq, .ddr, .nvs] W s (State.listPair s a v) := by
  unfold State.listPair
  with_reducible refine Frame.iteOf ?_ ?_
  with_reducible refine Frame.step ?_ (State.landWrite_frame _ _ _ ?_ ?_ ?_ ?_ ?_ ?_ ?_ ?_ ?_ ?_ ?_ ?_ ?_ ?_ ?_ ?_ ?_ ?_ ?_ ?_ ?_ ?_ ?_ ?_ ?_ ?_ ?_ ?_ ?_ ?_ ?_ ?_ ?_ ?_ ?_ ?_ ?_ ?_ ?_ ?_ ?_ ?_ ?_ ?_ ?_ ?_ ?_ ?_ ?_ ?_ ?_ ?_ ?_ ?_ ?_ ?_ ?_ ?_ ?_ ?_ ?_ ?_ ?_ ?_ ?_ ?_ ?_ ?_ ?_ ?_ ?_ ?_ ?_ ?_ ?_ ?_ ?_ ?_ ?_ ?_ ?_ ?_ ?_ ?_ ?_ ?_ ?_ ?_ ?_ ?_ ?_ ?_ ?_ ?_ ?_ ?_ ?_ ?_ ?_ ?_ ?_ ?_ ?_ ?_) (by decide)
  exact Frame.refl ..
  exact hw0; exact hw1; exact hw2; exact hw3; exact hw4; exact hw5; exact hw6; exact hw7; exact hw8; exact fun _ => hw9 _; exact hw10; exact hw11; exact hw12; exact hw13; exact hw14; exact hw15; exact hw16; exact hw17; exact hw18; exact hw19; exact fun _ => hw20 _; exact hw21; exact fun _ => hw22 _; exact fun _ => hw23 _; exact hw24; exact hw25; exact hw26; exact hw27; exact hw28; exact hw29; exact hw30; exact hw31; exact hw32; exact hw33; exact hw34; exact hw35; exact hw36; exact hw37; exact fun _ => hw38 _; exact hw39; exact hw40; exact hw41; exact hw42; exact hw43; exact hw44; exact hw45; exact hw46; exact fun _ _ => hw47 _ _; exact fun _ => hw48 _; exact hw49; exact fun _ => hw50 _; exact fun _ => hw51 _; exact fun _ => hw52 _; exact hw53; exact fun _ => hw54 _; exact hw55; exact hw56; exact hw57; exact hw58; exact hw59; exact hw60; exact hw61; exact hw62; exact hw63; exact hw64; exact hw65; exact hw66; exact fun _ => hw67 _; exact hw68; exact hw69; exact hw70; exact hw71; exact hw72; exact hw73; exact hw74; exact hw75; exact hw76; exact hw77; exact hw78; exact hw79; exact hw80; exact fun _ => hw81 _; exact hw82; exact hw83; exact hw84; exact hw85; exact hw86; exact hw87; exact hw88; exact hw89; exact hw90; exact hw91; exact hw92; exact hw93; exact hw94; exact hw95; exact hw96; exact hw97; exact hw98; exact hw99; exact hw100; exact hw101; exact hw102; exact hw103
  with_reducible refine Frame.incSat ?_ ?_
  exact Frame.refl ..
  exact hw104

theorem State.listLand_frame {W : Nat → Prop} (s : State) (at_ : ℕ) (v2 : List Word) (hw0 : ∀ i0, W (i0)) : Frame [.free, .nt, .inc, .host, .evt, .cyc, .chn, .est, .cap, .dsp, .piers, .axes, .deck, .deckMem, .pwr, .hif, .ring, .twn, .kst, .acq, .ddr, .nvs] W s (State.listLand s at_ v2).1 := by
  (induction v2 using pairsInd generalizing s at_; rotate_left; exact Frame.refl ..; exact Frame.refl ..; rename_i a v rest ih; unfold State.listLand)
  with_reducible refine Frame.iteFst ?_ ?_
  (with_reducible conv => arg 4; whnf)
  exact Frame.refl ..
  with_reducible refine Frame.iteFst ?_ ?_
  (with_reducible conv => arg 4; whnf)
  exact Frame.refl ..
  with_reducible refine Frame.step ?_ (ih _ _) (by decide)
  with_reducible refine Frame.step ?_ (State.listPair_frame _ _ _ ?_ ?_ ?_ ?_ ?_ ?_ ?_ ?_ ?_ ?_ ?_ ?_ ?_ ?_ ?_ ?_ ?_ ?_ ?_ ?_ ?_ ?_ ?_ ?_ ?_ ?_ ?_ ?_ ?_ ?_ ?_ ?_ ?_ ?_ ?_ ?_ ?_ ?_ ?_ ?_ ?_ ?_ ?_ ?_ ?_ ?_ ?_ ?_ ?_ ?_ ?_ ?_ ?_ ?_ ?_ ?_ ?_ ?_ ?_ ?_ ?_ ?_ ?_ ?_ ?_ ?_ ?_ ?_ ?_ ?_ ?_ ?_ ?_ ?_ ?_ ?_ ?_ ?_ ?_ ?_ ?_ ?_ ?_ ?_ ?_ ?_ ?_ ?_ ?_ ?_ ?_ ?_ ?_ ?_ ?_ ?_ ?_ ?_ ?_ ?_ ?_ ?_ ?_ ?_ ?_) (by decide)
  exact Frame.refl ..
  exact hw0 _; exact hw0 _; exact hw0 _; exact hw0 _; exact hw0 _; exact hw0 _; exact hw0 _; exact hw0 _; exact hw0 _; exact fun _ => hw0 _; exact hw0 _; exact hw0 _; exact hw0 _; exact hw0 _; exact hw0 _; exact hw0 _; exact hw0 _; exact hw0 _; exact hw0 _; exact hw0 _; exact fun _ => hw0 _; exact hw0 _; exact fun _ => hw0 _; exact fun _ => hw0 _; exact hw0 _; exact hw0 _; exact hw0 _; exact hw0 _; exact hw0 _; exact hw0 _; exact hw0 _; exact hw0 _; exact hw0 _; exact hw0 _; exact hw0 _; exact hw0 _; exact hw0 _; exact hw0 _; exact fun _ => hw0 _; exact hw0 _; exact hw0 _; exact hw0 _; exact hw0 _; exact hw0 _; exact hw0 _; exact hw0 _; exact hw0 _; exact fun _ _ => hw0 _; exact fun _ => hw0 _; exact hw0 _; exact fun _ => hw0 _; exact fun _ => hw0 _; exact fun _ => hw0 _; exact hw0 _; exact fun _ => hw0 _; exact hw0 _; exact hw0 _; exact hw0 _; exact hw0 _; exact hw0 _; exact hw0 _; exact hw0 _; exact hw0 _; exact hw0 _; exact hw0 _; exact hw0 _; exact hw0 _; exact fun _ => hw0 _; exact hw0 _; exact hw0 _; exact hw0 _; exact hw0 _; exact hw0 _; exact hw0 _; exact hw0 _; exact hw0 _; exact hw0 _; exact hw0 _; exact hw0 _; exact hw0 _; exact hw0 _; exact fun _ => hw0 _; exact hw0 _; exact hw0 _; exact hw0 _; exact hw0 _; exact hw0 _; exact hw0 _; exact hw0 _; exact hw0 _; exact hw0 _; exact hw0 _; exact hw0 _; exact hw0 _; exact hw0 _; exact hw0 _; exact hw0 _; exact hw0 _; exact hw0 _; exact hw0 _; exact hw0 _; exact hw0 _; exact hw0 _; exact hw0 _; exact hw0 _

theorem State.listRun_frame {W : Nat → Prop} (s : State) (ws : List Word) (at_ : ℕ) (hw0 : ∀ i0, W (i0)) : Frame [.free, .nt, .inc, .host, .evt, .cyc, .chn, .est, .cap, .dsp, .piers, .axes, .deck, .deckMem, .pwr, .hif, .ring, .twn, .kst, .acq, .ddr, .nvs] W s (State.listRun s ws at_) := by
  unfold State.listRun
  extract_lets x0 x1 x2 x3
  have hx0 : Frame [.free, .nt, .inc, .host, .evt, .cyc, .chn, .est, .cap, .dsp, .piers, .axes, .deck, .deckMem, .pwr, .hif, .ring, .twn, .kst, .acq, .ddr, .nvs] W s x0.1 := by
    unfold x0
    with_reducible refine Frame.step ?_ (State.listLand_frame _ _ _ ?_) (by decide)
    exact Frame.refl ..
    exact fun _ => hw0 _
  have hx1 : Frame [.free, .nt, .inc, .host, .evt, .cyc, .chn, .est, .cap, .dsp, .piers, .axes, .deck, .deckMem, .pwr, .hif, .ring, .twn, .kst, .acq, .ddr, .nvs] W s x1 := by
    (with_reducible conv => arg 4; whnf)
    exact hx0
  have hx3 : Frame [.free, .nt, .inc, .host, .evt, .cyc, .chn, .est, .cap, .dsp, .piers, .axes, .deck, .deckMem, .pwr, .hif, .ring, .twn, .kst, .acq, .ddr, .nvs] W s x3 := by
    (with_reducible conv => arg 4; whnf)
    ((with_reducible refine Frame.upd ?_ ?_); on_goal 2 => (intro p hp; cases p <;> first | exact (hp (by decide)).elim | (dsimp only [Part.same] <;> fail)))
    exact hx1
  with_reducible refine Frame.whenDo ?_ ?_
  exact hx3
  intro u4 hu5
  with_reducible refine Frame.step ?_ (State.bootTo_frame _ _ ?_) (by decide)
  assumption
  exact hw0 _

theorem State.bootParams_frame {W : Nat → Prop} (s : State) (hw0 : ∀ i0, W (i0)) : Frame [.free, .nt, .inc, .host, .evt, .cyc, .chn, .est, .cap, .dsp, .piers, .axes, .deck, .deckMem, .pwr, .hif, .ring, .twn, .kst, .acq, .ddr, .nvs] W s (State.bootParams s) := by
  unfold State.bootParams
  extract_lets x0 x1
  have hx0 : Frame [.free, .nt, .inc, .host, .evt, .cyc, .chn, .est, .cap, .dsp, .piers, .axes, .deck, .deckMem, .pwr, .hif, .ring, .twn, .kst, .acq, .ddr, .nvs] W s x0 := by
    (with_reducible conv => arg 4; whnf)
    with_reducible refine Frame.step ?_ (State.bootBox_frame _ ?_ ?_) (by decide)
    exact Frame.refl ..
    exact hw0 _; exact fun _ => hw0 _
  have hx1 : Frame [.free, .nt, .inc, .host, .evt, .cyc, .chn, .est, .cap, .dsp, .piers, .axes, .deck, .deckMem, .pwr, .hif, .ring, .twn, .kst, .acq, .ddr, .nvs] W s x1 := by
    (with_reducible conv => arg 4; whnf)
    with_reducible refine Frame.eachDo ?_ ?_
    exact hx0
    intro u3 x4 hu5
    with_reducible refine Frame.whenDo ?_ ?_
    assumption
    intro u6 hu7
    with_reducible refine Frame.putReg ?_ ?_
    assumption
    exact hw0 _
  split
  with_reducible refine Frame.step ?_ (State.bootTo_frame _ _ ?_) (by decide)
  exact hx1
  exact hw0 _
  extract_lets x2
  have hx2 : Frame [.free, .nt, .inc, .host, .evt, .cyc, .chn, .est, .cap, .dsp, .piers, .axes, .deck, .deckMem, .pwr, .hif, .ring, .twn, .kst, .acq, .ddr, .nvs] W s x2 := by
    (with_reducible conv => arg 4; whnf)
    with_reducible refine Frame.step ?_ (State.bootKeystone_frame _ _ ?_ ?_) (by decide)
    with_reducible refine Frame.clr ?_ ?_
    with_reducible refine Frame.setF ?_ ?_
    exact hx1
    exact hw0 _; exact hw0 _; exact fun _ => hw0 _; exact hw0 _
  with_reducible refine Frame.step ?_ (State.listRun_frame _ _ _ ?_) (by decide)
  exact hx2
  exact fun _ => hw0 _

theorem State.bootStart_frame {W : Nat → Prop} (s : State) (hw0 : W (R.GLB_BOOT)) (hw1 : W (R.EVT_PEND (3 / 32))) (hw2 : W (R.EVT_LOST_CNT)) (hw3 : W (R.EVT_STAT)) (hw4 : W (R.TWN_CTL)) (hw5 : W (R.TWN_STAT)) (hw6 : W (R.ZLP_CYMGEN)) (hw7 : W (R.ZLP_FAULT)) (hw8 : W (R.ZLP_STAT)) (hw9 : W (R.ZLP_RSTAT)) (hw10 : W (R.ZLP_BRK)) (hw11 : W (R.ZLP_SSTAT)) (hw12 : W (R.TWN_EPOCH)) (hw13 : W (R.ZLP_BUDGET)) (hw14 : W (R.EVT_PEND (64 / 32))) : Frame [.evt, .cyc, .hif, .ring, .twn] W s (State.bootStart s) := by
  unfold State.bootStart
  with_reducible refine Frame.iteOf ?_ ?_
  with_reducible refine Frame.step ?_ (State.bootDone_frame _ _ ?_ ?_ ?_ ?_) (by decide)
  with_reducible refine Frame.setF ?_ ?_
  exact Frame.refl ..
  exact hw0; exact hw0; exact hw1; exact hw2; exact hw3
  extract_lets x0
  have hx0 : Frame [.evt, .cyc, .hif, .ring, .twn] W s x0 := by
    (with_reducible conv => arg 4; whnf)
    with_reducible refine Frame.step ?_ (State.bootTo_frame _ _ ?_) (by decide)
    exact Frame.refl ..
    exact hw0
  with_reducible refine Frame.iteOf ?_ ?_
  with_reducible refine Frame.step ?_ (State.twinPair_frame _ _ _ ?_ ?_) (by decide)
  exact hx0
  exact hw4; exact hw5
  with_reducible refine Frame.step ?_ (State.ringStart_frame _ _ ?_ ?_ ?_ ?_ ?_ ?_ ?_ ?_ ?_ ?_ ?_ ?_) (by decide)
  exact hx0
  exact hw6; exact hw7; exact hw8; exact hw9; exact hw10; exact hw11; exact hw5; exact hw12; exact hw13; exact hw14; exact hw2; exact hw3

theorem State.bootDdr_frame {W : Nat → Prop} (s : State) (e : BootEnv) (hw0 : W (R.DDR_STAT)) (hw1 : W (R.GLB_BOOT)) (hw2 : W (R.EVT_PEND (3 / 32))) (hw3 : W (R.EVT_LOST_CNT)) (hw4 : W (R.EVT_STAT)) (hw5 : W (R.TWN_CTL)) (hw6 : W (R.TWN_STAT)) (hw7 : W (R.ZLP_CYMGEN)) (hw8 : W (R.ZLP_FAULT)) (hw9 : W (R.ZLP_STAT)) (hw10 : W (R.ZLP_RSTAT)) (hw11 : W (R.ZLP_BRK)) (hw12 : W (R.ZLP_SSTAT)) (hw13 : W (R.TWN_EPOCH)) (hw14 : W (R.ZLP_BUDGET)) (hw15 : W (R.EVT_PEND (64 / 32))) : Frame [.evt, .cyc, .hif, .ring, .twn] W s (State.bootDdr s e) := by
  unfold State.bootDdr
  extract_lets x0 x1
  have hx1 : Frame [.evt, .cyc, .hif, .ring, .twn] W s x1 := by
    (with_reducible conv => arg 4; whnf)
    with_reducible refine Frame.setB ?_ ?_
    exact Frame.refl ..
    exact hw0
  with_reducible refine Frame.step ?_ (State.bootStart_frame _ ?_ ?_ ?_ ?_ ?_ ?_ ?_ ?_ ?_ ?_ ?_ ?_ ?_ ?_ ?_) (by decide)
  with_reducible refine Frame.whenDo ?_ ?_
  exact hx1
  intro u2 hu3
  with_reducible refine Frame.set1 ?_ ?_
  assumption
  exact hw0; exact hw1; exact hw2; exact hw3; exact hw4; exact hw5; exact hw6; exact hw7; exact hw8; exact hw9; exact hw10; exact hw11; exact hw12; exact hw13; exact hw14; exact hw15

theorem State.bootNext_frame {W : Nat → Prop} (s : State) (e : BootEnv) (hw0 : ∀ i0, W (i0)) : Frame [.free, .nt, .inc, .host, .evt, .cyc, .chn, .est, .cap, .dsp, .piers, .axes, .deck, .deckMem, .pierMem, .pwr, .hif, .ring, .twn, .kst, .acq, .ddr, .nvs] W s (State.bootNext s e) := by
  unfold State.bootNext
  split
  with_reducible refine Frame.step ?_ (State.bootTo_frame _ _ ?_) (by decide)
  exact Frame.refl ..
  exact hw0 _
  with_reducible refine Frame.step ?_ (State.bootClocks_frame _ ?_ ?_ ?_ ?_) (by decide)
  exact Frame.refl ..
  exact hw0 _; exact hw0 _; exact hw0 _; exact hw0 _
  with_reducible refine Frame.step ?_ (State.bootFlash_frame _ _ ?_ ?_ ?_ ?_ ?_ ?_ ?_ ?_) (by decide)
  exact Frame.refl ..
  exact hw0 _; exact hw0 _; exact hw0 _; exact hw0 _; exact hw0 _; exact hw0 _; exact hw0 _; exact hw0 _
  with_reducible refine Frame.step ?_ (State.bootImage_frame _ _ ?_ ?_ ?_ ?_ ?_ ?_) (by decide)
  exact Frame.refl ..
  exact hw0 _; exact hw0 _; exact hw0 _; exact hw0 _; exact hw0 _; exact fun _ => hw0 _
  with_reducible refine Frame.step ?_ (State.bootVerify_frame _ _ ?_ ?_ ?_ ?_) (by decide)
  exact Frame.refl ..
  exact hw0 _; exact hw0 _; exact hw0 _; exact hw0 _
  with_reducible refine Frame.step ?_ (State.bootPiers_frame _ _ ?_ ?_ ?_ ?_ ?_ ?_ ?_ ?_ ?_ ?_ ?_ ?_ ?_ ?_ ?_ ?_) (by decide)
  exact Frame.refl ..
  exact fun _ => hw0 _; exact fun _ => hw0 _; exact fun _ => hw0 _; exact hw0 _; exact fun _ => hw0 _; exact fun _ => hw0 _; exact fun _ => hw0 _; exact fun _ => hw0 _; exact hw0 _; exact hw0 _; exact fun _ _ => hw0 _; exact fun _ => hw0 _; exact fun _ => hw0 _; exact hw0 _; exact fun _ => hw0 _; exact hw0 _
  split
  with_reducible refine Frame.step ?_ (State.bootParams_frame _ ?_) (by decide)
  exact Frame.refl ..
  exact fun _ => hw0 _
  with_reducible refine Frame.step ?_ (State.listRun_frame _ _ _ ?_) (by decide)
  exact Frame.refl ..
  exact fun _ => hw0 _
  with_reducible refine Frame.step ?_ (State.bootDdr_frame _ _ ?_ ?_ ?_ ?_ ?_ ?_ ?_ ?_ ?_ ?_ ?_ ?_ ?_ ?_ ?_ ?_) (by decide)
  exact Frame.refl ..
  exact hw0 _; exact hw0 _; exact hw0 _; exact hw0 _; exact hw0 _; exact hw0 _; exact hw0 _; exact hw0 _; exact hw0 _; exact hw0 _; exact hw0 _; exact hw0 _; exact hw0 _; exact hw0 _; exact hw0 _; exact hw0 _
  with_reducible refine Frame.iteOf ?_ ?_
  exact Frame.refl ..
  with_reducible refine Frame.step ?_ (State.ringStart_frame _ _ ?_ ?_ ?_ ?_ ?_ ?_ ?_ ?_ ?_ ?_ ?_ ?_) (by decide)
  exact Frame.refl ..
  exact hw0 _; exact hw0 _; exact hw0 _; exact hw0 _; exact hw0 _; exact hw0 _; exact hw0 _; exact hw0 _; exact hw0 _; exact hw0 _; exact hw0 _; exact hw0 _
  exact Frame.refl ..

theorem execBoot_frame {W : Nat → Prop} (env : BootEnv) (s : State) (hw0 : ∀ i0, W (i0)) : Frame.out [.free, .nt, .inc, .host, .evt, .cyc, .chn, .est, .cap, .dsp, .piers, .axes, .deck, .deckMem, .pierMem, .pwr, .hif, .ring, .twn, .kst, .acq, .ddr, .nvs] W s (execBoot env s) := by
  unfold execBoot
  with_reducible refine Frame.out_next ?_
  with_reducible refine Frame.step ?_ (State.bootNext_frame _ _ ?_) (by decide)
  exact Frame.refl ..
  exact fun _ => hw0 _

theorem execJtagInstruction_frame {W : Nat → Prop} (ir : JtagIr) (resetLow : Bool) (s : State) (hw0 : W (R.GLB_DBG)) : Frame.out [.host] W s (execJtagInstruction ir resetLow s) := by
  unfold execJtagInstruction
  extract_lets x0 x1 x2
  have hx1 : Frame [.host] W s x1 := by
    (with_reducible conv => arg 4; whnf)
    with_reducible refine Frame.setB ?_ ?_
    exact Frame.refl ..
    exact hw0
  with_reducible refine Frame.out_next ?_
  ((with_reducible refine Frame.upd ?_ ?_); on_goal 2 => (intro p hp; cases p <;> first | exact (hp (by decide)).elim | (dsimp only [Part.same] <;> fail)))
  exact hx1

end Sys2Proof.Machine
end

