-- ==== Sys2Proof/Laws/Read.lean ====
section
/-! SUPPORT. What a register or a field reads as after a change of the state: through a record update, after a field is written, after an event is raised.
The side conditions are closed facts of the register map, so that `simp (disch := decide)` settles them. -/

namespace Sys2Proof.Machine

/-- A register read from the three copies. -/
def regOf (r b c : Tab Word) (a : Nat) : Word :=
  if isTv a then vote (tabGet regReset r a) (tabGet regReset b a) (tabGet regReset c a) else tabGet regReset r a

theorem regOf_state (s : State) (a : Nat) : regOf s.regs s.tvB s.tvC a = s.reg a := rfl

theorem State.reg_mk {x_pending : List Instr} {x_clk : Nat} {x_free : Nat} {x_nt : NetTime} {x_inc : BitVec 40} {r b c : Tab Word} {x_host : HostSide} {x_evt : Events} {x_cyc : Cycle}
    {x_chn : Chainage} {x_est : Est} {x_cap : Capture} {x_dsp : Dispatch} {x_piers : Tab Pier} {x_axes : Tab AxisCtl} {x_deck : Deck} {x_pwr : Power} {x_hif : Hif}
    {x_ring : Ring} {x_twn : Twin} {x_kst : Keystone} {x_acq : Acq} {x_nvs : Nvs} {x_krefLost : Bool} {x_sysLost : Bool} {x_fbDone : Nat} (a : Nat) :
    State.reg ⟨x_pending, x_clk, x_free, x_nt, x_inc, r, b, c, x_host, x_evt, x_cyc, x_chn, x_est, x_cap, x_dsp, x_piers, x_axes, x_deck, x_pwr, x_hif, x_ring, x_twn,
      x_kst, x_acq, x_nvs, x_krefLost, x_sysLost, x_fbDone⟩ a = regOf r b c a := rfl

/-- A field read from the three copies. -/
def fOf (r b c : Tab Word) (x : Fld) : Nat := bitsOf (regOf r b c x.addr).toNat x.lo x.width

theorem fOf_state (s : State) (x : Fld) : fOf s.regs s.tvB s.tvC x = s.f x := rfl

theorem State.f_mk {x_pending : List Instr} {x_clk : Nat} {x_free : Nat} {x_nt : NetTime} {x_inc : BitVec 40} {r b c : Tab Word} {x_host : HostSide} {x_evt : Events} {x_cyc : Cycle}
    {x_chn : Chainage} {x_est : Est} {x_cap : Capture} {x_dsp : Dispatch} {x_piers : Tab Pier} {x_axes : Tab AxisCtl} {x_deck : Deck} {x_pwr : Power} {x_hif : Hif}
    {x_ring : Ring} {x_twn : Twin} {x_kst : Keystone} {x_acq : Acq} {x_nvs : Nvs} {x_krefLost : Bool} {x_sysLost : Bool} {x_fbDone : Nat} (x : Fld) :
    State.f ⟨x_pending, x_clk, x_free, x_nt, x_inc, r, b, c, x_host, x_evt, x_cyc, x_chn, x_est, x_cap, x_dsp, x_piers, x_axes, x_deck, x_pwr, x_hif, x_ring, x_twn,
      x_kst, x_acq, x_nvs, x_krefLost, x_sysLost, x_fbDone⟩ x = fOf r b c x := rfl

theorem State.flag_f (s : State) (x : Fld) : s.flag x = (s.f x != 0) := rfl

/-- Another field than the one written keeps its value. -/
theorem State.f_setF_ne (s : State) (x y : Fld) (v : Nat) (h : x.addr ≠ y.addr ∨ y.lo + y.width ≤ x.lo ∨ x.lo + x.width ≤ y.lo) :
    (s.setF x v).f y = s.f y := by
  rcases h with h | h
  · exact s.f_setF_other x y v h
  · exact s.f_setF_disj x y v h

theorem State.f_set1_same (s : State) (x : Fld) (h : x.lo + x.width ≤ 32) (h1 : 1 < 2 ^ x.width) : (s.set1 x).f x = 1 :=
  (s.f_setF_same x 1 h).trans (Nat.mod_eq_of_lt h1)
theorem State.f_set1_ne (s : State) (x y : Fld) (h : x.addr ≠ y.addr ∨ y.lo + y.width ≤ x.lo ∨ x.lo + x.width ≤ y.lo) :
    (s.set1 x).f y = s.f y := s.f_setF_ne x y 1 h
theorem State.f_clr_same (s : State) (x : Fld) (h : x.lo + x.width ≤ 32) : (s.clr x).f x = 0 :=
  (s.f_setF_same x 0 h).trans (Nat.zero_mod _)
theorem State.f_clr_ne (s : State) (x y : Fld) (h : x.addr ≠ y.addr ∨ y.lo + y.width ≤ x.lo ∨ x.lo + x.width ≤ y.lo) :
    (s.clr x).f y = s.f y := s.f_setF_ne x y 0 h
theorem State.f_setB_same (s : State) (x : Fld) (c : Bool) (h : x.lo + x.width ≤ 32) (h1 : 1 < 2 ^ x.width) :
    (s.setB x c).f x = if c then 1 else 0 := by
  refine (s.f_setF_same x _ h).trans (Nat.mod_eq_of_lt ?_)
  split
  · exact h1
  · exact Nat.two_pow_pos _
theorem State.f_setB_ne (s : State) (x y : Fld) (c : Bool) (h : x.addr ≠ y.addr ∨ y.lo + y.width ≤ x.lo ∨ x.lo + x.width ≤ y.lo) :
    (s.setB x c).f y = s.f y := s.f_setF_ne x y _ h
theorem State.f_incSat_same (s : State) (x : Fld) (n : Nat) (h : x.lo + x.width ≤ 32) :
    (s.incSat x n).f x = min (2 ^ x.width - 1) (s.f x + n) := by
  refine (s.f_setF_same x _ h).trans (Nat.mod_eq_of_lt ?_)
  have := Nat.two_pow_pos x.width
  omega
theorem State.f_incSat_ne (s : State) (x y : Fld) (n : Nat) (h : x.addr ≠ y.addr ∨ y.lo + y.width ≤ x.lo ∨ x.lo + x.width ≤ y.lo) :
    (s.incSat x n).f y = s.f y := s.f_setF_ne x y _ h
theorem State.f_incWrap_same (s : State) (x : Fld) (n : Nat) (h : x.lo + x.width ≤ 32) :
    (s.incWrap x n).f x = (s.f x + n) % 2 ^ x.width := s.f_setF_same x _ h
theorem State.f_incWrap_ne (s : State) (x y : Fld) (n : Nat) (h : x.addr ≠ y.addr ∨ y.lo + y.width ≤ x.lo ∨ x.lo + x.width ≤ y.lo) :
    (s.incWrap x n).f y = s.f y := s.f_setF_ne x y _ h
theorem State.f_putReg_ne (s : State) (a : Nat) (v : Word) (x : Fld) (h : a ≠ x.addr) : (s.putReg a v).f x = s.f x := by
  rw [State.f_putReg, if_neg h]

/-- Fields outside the event registers keep their value when an event is raised. -/
theorem State.f_raise (s : State) (src d : Nat) (w : Word) (x : Fld)
    (h1 : x.addr ≠ R.EVT_PEND (src / 32)) (h2 : x.addr ≠ R.EVT_STAT) (h3 : x.addr ≠ R.EVT_LOST_CNT) : (s.raise src d w).f x = s.f x := by
  unfold State.f; rw [State.reg_raise s src d w x.addr h1 h2 h3]

/-- A raised event sets its pending bit. -/
theorem pends_raise (s : State) (src d : Nat) (w : Word) (h1 : R.EVT_PEND (src / 32) ≠ R.EVT_STAT) (h2 : R.EVT_PEND (src / 32) ≠ R.EVT_LOST_CNT) :
    Pends (s.raise src d w) src := by
  have hp : ∀ u : State, Pends (u.evtPend src) src := by
    intro u; unfold Pends State.evtPend
    rw [State.reg_putReg, if_pos rfl, BitVec.getLsbD_or]
    have : (wordOf (2 ^ (src % 32))).getLsbD (src % 32) = true := by
      unfold wordOf
      rw [BitVec.getLsbD_ofNat, Nat.testBit_two_pow_self]
      simpa using Nat.mod_lt _ (by decide)
    rw [this, Bool.or_true]
  have hl : ∀ u : State, Pends u src → Pends u.evtLose src := by
    intro u hu; unfold Pends at *; unfold State.evtLose
    rw [State.reg_set1, if_neg (show R.EVT_STAT_LOST.addr ≠ _ from Ne.symm h1),
      State.reg_incSat, if_neg (show R.EVT_LOST_CNT_COUNT.addr ≠ _ from Ne.symm h2)]
    by_cases h : u.flag R.EVT_STAT_LOST = true
    · simp only [h, if_true]; exact (congrArg (fun v : Word => v.getLsbD (src % 32)) (State.reg_congr u _ rfl rfl rfl _)).trans hu
    · simp only [h]; exact (congrArg (fun v : Word => v.getLsbD (src % 32)) (State.reg_congr u _ rfl rfl rfl _)).trans hu
  have hs2 : ∀ (u : State) (e : BitVec 16), Pends u src → Pends (u.evtSecond src e w) src := by
    intro u e hu; unfold State.evtSecond; split
    · exact hl u hu
    · split
      · exact (congrArg (fun v : Word => v.getLsbD (src % 32)) (State.reg_congr u _ rfl rfl rfl _)).trans hu
      · exact hl u hu
  unfold State.raise; dsimp only
  generalize hu : (if (routeEn (s.evtRoute src) && !(s.evtPend src).flag R.EVT_CFG_EN) = true then (s.evtPend src).evtLose else s.evtPend src) = u
  have hu' : Pends u src := by
    subst hu; split
    · exact hl _ (hp _)
    · exact hp _
  split
  · exact (congrArg (fun v : Word => v.getLsbD (src % 32)) (State.reg_congr u _ rfl rfl rfl _)).trans hu'
  · split_ifs
    · exact (congrArg (fun v : Word => v.getLsbD (src % 32)) (State.reg_congr u _ rfl rfl rfl _)).trans hu'
    · exact hs2 _ _ hu'
    · exact hu'

/-- A pending bit stands until a register write changes its register. -/
theorem pends_putReg (s : State) (a : Nat) (v : Word) (src : Nat) (h : a ≠ R.EVT_PEND (src / 32)) : Pends (s.putReg a v) src = Pends s src := by
  unfold Pends; rw [State.reg_putReg, if_neg h]

end Sys2Proof.Machine
end

