-- ==== Sys2Proof/Machine/Pins.lean ====
section
/-! DEFINITION. The levels of the output balls (R187, R406, R443, R444, R452): each follows from the state of its block. -/

namespace Sys2Proof.Machine

/-- What an output ball shows: a static level, released (open drain, or a ball that its mode makes an input), electrical idle, or a signal that runs: clock, code groups, a
toggling safety output or a test pulse. -/
inductive BallLevel where
  | low | high | released | idle | runs
  deriving DecidableEq, Repr

/-- The output balls whose reset state R444 gives and a block of the model drives. -/
inductive Ball where
  | gate (m p : Nat) (high : Bool)
  | step (c : Nat)
  | dir (c : Nat)
  | evo (n : Nat)
  | encClk (e : Nat)
  | sdmClk (g : Nat)
  | txdis (p : Nat)
  | intN
  | zlTx (p : Nat)
  | pcieTx
  | pairTx
  | ddrReset
  | tp (k : Nat)
  | sout (n : Nat)
  deriving DecidableEq, Repr

/-- A static level. -/
def BallLevel.of (b : Bool) : BallLevel := if b then .high else .low

/-- A running signal, or a level while it does not run. -/
def BallLevel.runsIf (b : Bool) (off : BallLevel) : BallLevel := if b then .runs else off

/-- The level of a ball now (R444; log entry 105). -/
def State.ball (s : State) : Ball → BallLevel
  | .gate m p high => .of (s.gatePin m p high)
  | .step c => .of (s.flag (R.STP_CFG_EN c) && s.stepPin c)
  | .dir c => .of (s.flag (R.STP_CFG_EN c) && s.dirPin c)
  | .evo n => .of (s.estLevels.toNat.testBit n)
  | .encClk e => .runsIf (s.encSerial e && (s.enc e).xfer.isSome) .high
  | .sdmClk g => if s.flag (R.SDM_CLK_MODE g) then .released else .runsIf (s.flag (R.SDM_CLK_EN g)) .low
  | .txdis p => .of (s.flag (R.ZLP_P_CFG_TXDIS p))
  | .intN => if s.intLow then .low else .released
  | .zlTx p => .runsIf (s.flag (R.ZLP_P_CFG_EN p)) .idle
  | .pcieTx => .runsIf (s.flag R.HIF_LINK_UP) .idle
  | .pairTx => .runsIf (decide (5 ≤ s.bootStep) && s.bootStep != 15) .low
  | .ddrReset => .of (decide (8 ≤ s.bootStep) && s.bootStep != 15)
  | .tp k => if s.kstHeld || s.kstState == 0 || s.kstState == 5 then .low else .runsIf (pulseAt (imgTpp s.kst.img) (s.kst.cycle + 1) == some k) .high
  | .sout n => .runsIf (!s.kstHeld && (s.f R.KST_OUT_ON).testBit n) .low

end Sys2Proof.Machine
end

