-- ==== Sys2Proof/WellFormed.lean ====
section
/-! DEFINITION. Well-formed commands: which operands the outside world can send. A check that fails names what is wrong. The meanings are total and do not rest on it. -/

namespace Sys2Proof

/-- What is wrong with a command. -/
inductive WfError where
  /-- An address or offset outside its space. -/
  | address
  /-- An address that is not a multiple of four. -/
  | alignment
  /-- A frame that no port can have received: longer than a port's buffer, or ended before it began. -/
  | frame
  /-- A list longer or shorter than its carrier allows. -/
  | length
  /-- A slot number outside its table. -/
  | slot
  /-- An instant outside its clk. -/
  | instant
  /-- A code with no meaning. -/
  | code
  deriving DecidableEq, Repr

/-- BAR0 is one flat 32 MB space (before R390). -/
def bar0Size : Nat := 0x2000000

/-- A BAR0 address of a 32-bit access (R8). -/
def wfAddr (a : Nat) : Option WfError := if a % 4 ≠ 0 then some .alignment else if a < bar0Size then none else some .address

/-- An offset in the 256 KB Deck window (R102). -/
def wfWindow (off : Nat) : Option WfError := if off % 4 ≠ 0 then some .alignment else if off < 0x40000 then none else some .address

/-- A received frame: its last symbol is not stamped before its first, and its bytes fit the receive buffer. -/
def wfFrame (fr : RxFrame) : Option WfError := if fr.sfd ≤ fr.last ∧ fr.bytes.length ≤ 2048 then none else some .frame

/-- A frame of the PAIR link: at most a mirror frame with the longest payload (R358, R372). -/
def wfPair (bs : List Byte) : Option WfError := if bs.length ≤ 76 + 4 * 4095 then none else some .length

/-- A heartbeat. -/
def wfHeartbeat : Heartbeat → Option WfError
  | .pair bs _ => wfPair bs
  | .ring _ fr => wfFrame fr

/-- The end of a payload fetch: at most 4,095 words (R368). -/
def wfDma : DmaResult → Option WfError
  | .ok ws => if ws.length ≤ 4095 then none else some .length
  | .failed => none

/-- What is wrong with a command, if anything is. -/
def Instr.wfError : Instr → Option WfError
  | .registerWrite addr _ => wfAddr addr
  | .badWidthAccess addr => if addr < bar0Size then none else some .address
  | .unmappedAccess addr _ _ => wfAddr addr
  | .readClear addr => wfAddr addr
  | .pairedWriteValue addr _ => wfAddr addr
  | .pairedWriteComplement addr _ => wfAddr addr
  | .collectReceive _ fr => wfFrame fr
  | .xsampReceive _ fr => wfFrame fr
  | .safeUpstreamReceive _ fr => wfFrame fr
  | .serviceReceive _ fr => wfFrame fr
  | .vacantUnclaimedReturn _ fr => wfFrame fr
  | .stnpdReceive _ fr => wfFrame fr
  | .foreignSyncReceive _ fr => wfFrame fr
  | .syncReturn _ fr => wfFrame fr
  | .assemblerSlotRead slot => if slot < 512 then none else some .slot
  | .deckScrub addr _ => if addr < 0x200000 then none else some .address
  | .deckWindowWrite off _ => wfWindow off
  | .camPointHighWrite off _ => wfWindow off
  | .pwmFaultInput _ _ ps => if ps < 1250 then none else some .instant
  | .sdmFilterOutput _ bits => if bits.length ≤ 256 then none else some .length
  | .sdmStuck x => if x.bits.length ≤ 256 then none else some .length
  | .serialTransferEnd _ rx => if rx.crc < 64 ∧ rx.data.length ≤ 32 then none else some .length
  | .delayFrameReturn _ fr => wfFrame fr
  | .reportFrameReturn _ fr => wfFrame fr
  | .runFrameReturn _ fr => wfFrame fr
  | .trunkFrameReceive _ fr => wfFrame fr.frame
  | .ddrUncorrectableError addr => if addr < 2 ^ 33 then none else some .address
  | .kstPwinWrite off _ => if off % 4 ≠ 0 then some .alignment else if off < 4096 then none else some .address
  | .pairHeartbeatReceive hb => wfHeartbeat hb
  | .mirrorFrameReceive bytes => wfPair bytes
  | .mirrorAckReceive bytes => wfPair bytes
  | .stateFrameReceive bytes => wfPair bytes
  | .timingMarkReceive bytes _ => wfPair bytes
  | .partnerCopyCompare _ fr => wfFrame fr
  | .sqEntryWrite _ words => if words ≠ [] ∧ words.length ≤ 16 then none else some .length
  | .payloadDmaComplete _ res => wfDma res
  | .pcieLinkUp width speed => if (width = 1 ∨ width = 2 ∨ width = 4) ∧ 1 ≤ speed ∧ speed ≤ 3 then none else some .code
  | .boot env => if env.sections.length ≤ 8 then none else some .length
  | .discardedFrameReceive _ fr => wfFrame fr
  | .trunkDelayFrameReceive _ fr => wfFrame fr
  | .pwWindowExpiry | .tvScrub | .ntNow | .ntSet | .chnNow | .chnSnap | .chnPreset | .vmVtgtRead | .vmVtgtWrite | .srcOffsetRead | .srcOffsetWrite | .capLossT
  | .evtLossT | .voteT | .bcIndex | .pirTasks64 | .mbxUnknownCode _ _ | .mbxReady | .mbxDataRead _ | .mbxStatRead | .syncInstant | .expressSyncInstant
  | .classLFeedbackWrite | .sysclkLoss | .krefLoss | .chnIncHi _ | .chainagePlan | .sourceSwitchArm _ | .estSweep | .estFire _ | .pulseTimerEnd _ | .estCommit _
  | .estCommitCompare _ | .estIdxLoad _ | .estPinPolWrite _ | .edgeCapture _ _ _ | .captureRecordPop | .ringBreakDetect _ | .expansionJointError _
  | .portLinkChange _ _ _ _ _ _ | .dispatchDecision | .axisTaskStart _ | .axisTaskEnd _ | .eventTask _ | .backgroundSlice _ | .stateMoveEnd _ | .substitutePost _
  | .overrun _ | .laneWriteDeadline _ | .taskWatchdogExpiry _ | .windowSend _ _ | .backgroundPost _ | .flowEnable _ _ | .pirReload _ | .pierReloadDone _
  | .pirOffline _ | .pirOnline _ | .pierScrubPass _ | .pierFault _ _ _ _ | .stateSlotDiscard _ _ _ | .residentCopyUpdate | .axisEnableWrite _ _ | .axisDisableWrite _ _
  | .stateLoadEnd _ | .pwmPeriodStart _ | .pwmMidpoint _ | .pwmSyncRestart _ | .pwmModuleEnable _ _ | .faultStateTurnOn _ | .faultLatchClear _ | .pwmForce
  | .sdmClockLoss _ | .encoderEdge _ _ _ | .serialTransferStart _ | .encoderLatchEdge _ _ _ | .encoderEnable _ _ | .laneEnable _ _ | .laneEvaluation _
  | .laneCompareWrite _ | .stepEnable _ _ | .stepPlan _ | .stepPulse _ | .adcConversion _ | .sfpTransfer _ _ | .sfpTransferEnd _ _ _ | .ddmRead _ _ _ | .listenTimeEnd
  | .measureTimeout | .assignDone | .firstSync | .stationRemoval _ | .trunkStart _ | .trunkMeasure | .trunkLost | .acqTick | .captureDrainEnd | .arm _ | .stop _
  | .swtrig _ | .triggerUnitEnable _ _ | .registerMarkGateClose _ | .registerMarkResult _ | .ddrTrainingLoss | .train _ | .ddrTrainingDone _ | .safetyCycle _
  | .discrepancyTimeout _ | .cat1TimerExpiry _ | .unlockDelayExpiry _ | .lockMonitorTimeout _ | .supplyMonitorFault _ | .keystoneSelfTest _ | .containerBuild
  | .upstreamContainerCheck | .falseworkEnter | .falseworkAbort | .falseworkValidate | .falseworkTimeout | .keystoneBootValidate | .leaseDeadline | .partnerLoss
  | .yield | .pair | .join | .mirrorExecute | .stateInstall | .digestPassEnd | .pairFrameError | .sqDoorbell _ _ | .cqHeadDoorbell _ | .packetFetch _ | .fenceRelease _
  | .opNop _ | .opIdent _ | .opRegWrite _ | .opMbxRead _ | .opMbxWrite _ | .opAxisEnable _ | .opAxisDisable _ | .opParamWrite _ | .opParamRead _ | .opFaultClear _
  | .opGroupQuiesce _ | .groupQuiesceEffect | .opGroupResume _ | .groupResumeEffect | .groupResumeTimeout | .opMoveAbs _ | .opMoveRel _ | .opVelocity _ | .opStop _
  | .opGear _ | .opCam _ | .opHome _ | .opGroupMove _ | .motionHoldEnd | .motionCompletion | .opEstWrite _ | .opEstLoad _ | .opCamLoad _ | .opCymLoad _
  | .opRingStart _ | .opRingHalt _ | .ringHaltEffect | .opSafetyLoad _ | .opCaptureRead _ | .opNvsWrite _ | .opNvsCommit _ | .opBbxRead _ | .opTwinPair _
  | .opTwinYield _ | .opTwinJoin _ | .functionLevelReset _ | .pcieLinkDown | .tollgateWatchdogExpiry | .tollgateRestartEnd | .eventWriterServe | .evtHeadWrite _
  | .vectorTimeExpiry _ | .msixMessage _ | .bbxNote _ | .freeze _ | .commit _ | .release _ | .load _ | .erase _ | .nvsSwitch | .flashOperationStart
  | .flashOperationEnd _ | .softwareResetHost | .softwareResetCore | .softwareResetFull | .resetPin | .perst | .powerOn | .supplyBrownout _ | .pllLock _
  | .pllLockTimeout _ | .jtagInstruction _ _ | .pairLinkChange _ | .msixVectorUnmask _ | .eventOrBackgroundTaskEnd _ => none

/-- Is a command one that the outside world can send? -/
def Instr.wf (i : Instr) : Bool := i.wfError.isNone

end Sys2Proof
end

