-- ==== Sys2Proof/Tests/Slice0.lean ====
section
/-! SUPPORT. The author's tests: ill-formed commands that the check refuses, one-step tests, and for every obligation with hypotheses a witness that meets
them, clause by clause, at values of the ends of their ranges. -/

open Sys2Proof Sys2Proof.Machine

namespace Sys2Proof.Tests

set_option Elab.async false

/-! ## States -/

/-- The block once boot has ended. -/
def ready : State := State.reset.setF R.GLB_BOOT_STATE 9
/-- The row of a register. -/
def rowOf (a : Nat) : RegRow := (findReg a).getD ⟨0, [], []⟩
/-- A field of a register. -/
def fieldOf (a i : Nat) : FieldRow := (rowOf a).fields.getD i ⟨0, 0, .ro, 0⟩
/-- A pair on `PWM_FORCE`, at the end of its window. -/
def pairOpen : State := { ready with clk := 64, host := { ready.host with pw := some ⟨R.PWM_FORCE, 5, 0⟩ } }
/-- A pair on `GLB_SWRST` for a core reset. -/
def pairReset : State := { ready with clk := 64, host := { ready.host with pw := some ⟨R.GLB_SWRST, 2, 0⟩ } }
/-- A pair whose window has ended. -/
def pairOld : State := { ready with clk := 65, host := { ready.host with pw := some ⟨R.PWM_FORCE, 5, 0⟩ } }
/-- The scrubber is due at its last register, whose copies agree. -/
def scrubDue : State := { (ready.set1 R.GLB_CFG_SCRUB_EN).setF R.GLB_SCRUB_POS 161 with clk := 64, host := { ready.host with scrubAt := 64 } }
/-- The scrubber is due at its first register, one copy of which differs. -/
def scrubBad : State := { ready.set1 R.GLB_CFG_SCRUB_EN with tvB := [(0x50000, 4)] }
/-- Mailbox words for a legal network time. -/
def mbxNs (n : Nat) : State := (ready.putReg (R.GLB_MBX_D 0) (wordOf n)).putReg (R.GLB_MBX_D 1) 7
/-- The mailbox, before the end of a request. -/
def mbxWait (failed : Bool) : State := { ready with clk := 4, host := { ready.host with mbx := ⟨some 4, false, failed, 1⟩ } }
/-- The mailbox with a valid item of `n` words. -/
def mbxValid (wr failed : Bool) (n : Nat) : State := { ready.set1 R.GLB_MBX_STAT_VALID with host := { ready.host with mbx := ⟨none, wr, failed, n⟩ } }
/-- The first bc is about to start. -/
def bcDue : State := { ready with clk := 100000, nt := ⟨0, 125000, 0⟩, cyc := { ready.cyc with mark := 0 } }
/-- It is, with a planned velocity. -/
def bcDueV (c : Option (BitVec 96)) : State := { bcDue with chn := { bcDue.chn with plan := some (5, c) } }
/-- The block at a clk. -/
def readyAt (n : Nat) : State := { ready with clk := n }
/-- The block with commands waiting. -/
def readyQ (q : List Instr) : State := { ready with pending := q }
/-- A plan is due: the virtual master far below its target. -/
def planDue (run src : Nat) (v tgt : BitVec 64) : State :=
  { ((ready.setF R.CHN_CFG_RUN run).setF R.CHN_SRC_CUR src).setF R.CHN_VM_DV_DV 5 with
    clk := 90000, chn := { ready.chn with seg := ⟨0, v⟩, vmTgt := tgt } }
/-- The words of an EST entry staged for a commit. -/
def estStaged (w2 : Word) : State := ((ready.putReg (R.EST_W 0) 7).putReg (R.EST_W 2) w2).setF R.EST_IDX_IDX 8191
/-- The EST on, entry 5 with words 2 and 3, at clk 90000. -/
def estOn (w2 w3 : Word) : State := { ((ready.set1 R.EST_CFG_EN).estPut 5 2 w2).estPut 5 3 w3 with clk := 90000 }
/-- The comparison of entry 5 is due in a running segment. -/
def estCmp : State := { estOn 0xC0000000 0 with est := { (((estOn 0xC0000000 0).estPut 5 0 0x5F910000).estPut 5 1 1).est with cmp := [(5, 90000)] }, chn := { ready.chn with seg := ⟨0, 0x1000000000000⟩ } }
/-- A sweep is due. -/
def sweepDue : State := { estOn 0xC0000000 0 with est := { (((estOn 0xC0000000 0).estPut 5 0 0xC2380000).estPut 5 1 1).est with sweepAt := some 90000 }, chn := { ready.chn with seg := ⟨0, 0x1000000000000⟩, plan := some (0x1000000000000, none) } }
/-- Entry 5 is in the fire list and has crossed. -/
def firing (late : Bool) (w2 w3 : Word) : State :=
  { (estOn w2 w3).set1 R.EST_CFG_RING_EN with est := { (estOn w2 w3).est with cur := [⟨5, 90000, late, none⟩] } }
/-- The same for a ring event, with the time of its crossing. -/
def firingRing (w3 : Word) (on : Nat) : State :=
  { (firing false 0xC4000020 w3).setF R.EST_CFG_RING_EN on with est := { (firing false 0xC4000020 w3).est with cur := [⟨5, 90000, false, some ⟨1, 2, 3⟩⟩] } }
/-- Event task 63 pending while an entry posts it. -/
def firingTask (busy : Bool) : State :=
  { firing false 0xC7000000 63 with dsp := { ready.dsp with ready := if busy then [⟨.event, 63, 0⟩] else [] } }
/-- A pulse ends. -/
def pulse : State := { ready with clk := 9, est := { ready.est with pins := 0x80000001, timers := [(31, some 9)] } }
/-- A commit of an entry after the sweep has read its place. -/
def estLate : State :=
  { (((estStaged 3254779903).putReg (R.EST_W 0) 0xC2380000).putReg (R.EST_W 1) 1).set1 R.EST_CFG_EN with
    clk := 90000, chn := sweepDue.chn, est := { (estStaged 3254779903).est with swept := true } }
/-- Capture input 15 stamps rising edges. -/
def capOn : State := { (ready.set1 (R.CHN_CAP_CFG_EN 15)).setF (R.CHN_CAP_CFG_EDGE 15) 1 with clk := 50, cap := { ready.cap with lastEdge := [(15, some 460)] } }
/-- The capture FIFO full. -/
def capFull : State := { capOn with cap := { capOn.cap with fifo := List.replicate 256 [] } }
/-- The input's previous edge lies less than 4 clk back. -/
def capClose : State := { capOn with cap := { capOn.cap with lastEdge := [(15, some 499)] } }
/-- A record to read. -/
def capRec : State := { ready with cap := { ready.cap with fifo := [[1, 2, 3, 4, 5, 6, 7, 8]] } }
/-- Span 2, head 9. -/
def idle : State := (ready.setF R.ZLP_CFG_SPAN 2).setF R.ZLP_CFG_HID 9
/-- The span running with one station on ring A. -/
def span : State := { idle.setF R.ZLP_SSTAT_STATE 4 with
  clk := 30000, ring := { Ring.reset with live := true, use := [0], set_ := [1], cfg := idle.reg R.ZLP_CFG, band := 80 } }
/-- Window 1 of bc number 0: class, direction, ring 0, START 100, one record of `rsize` bytes from slot 3. -/
def spanWin (cls dir rsize : Nat) : State :=
  ((((((span.setF (R.CYM_W0_CLASS 1) cls).setF (R.CYM_W0_DIR 1) dir).setF (R.CYM_W0_START 1) 100).setF (R.CYM_W1_LEN 1) 200).setF
    (R.CYM_W2_FIRST 1) 3).setF (R.CYM_W2_COUNT 1) 1).setF (R.CYM_W2_RSIZE 1) rsize
/-- An express window whose slot is that of axis 159, of class X and running. -/
def xsWin : State := (((((spanWin 4 1 40).set1 (R.AXT_W0_EN 159)).setF (R.AXT_W0_CLASS 159) 1).setF (R.AXT_W2_STATE 159) 2).setF (R.AXT_W1_FB_SLOT 159) 3).setF (R.ZLP_STN_STAT_STATE 0) 3
/-- A header to the head of span 2, in window 1 of bc number 0. -/
def hdrTo (type src seq len : Nat) : ZlHeader := ⟨type, 0, 512, src, 0, seq, 0, 1, len, 9⟩
/-- A frame with `n` payload bytes that begin with `p`, arriving at the START of window 1. -/
def rxFrame (h : ZlHeader) (p : List Byte) : RxFrame := ⟨frameBytes h (p ++ List.replicate (h.len - p.length) 0), 800, 1000⟩
/-- A frame spoilt in one byte. -/
def spoilt (k : Nat) (v : Byte) : RxFrame := ⟨(rxFrame (hdrTo 3 513 0 44) []).bytes.set k v, 800, 1000⟩
/-- A frame that is too long. -/
def longFrame : RxFrame := ⟨List.replicate 1519 0, 800, 1000⟩
/-- A frame of a reserved TYPE. -/
def oddFrame : RxFrame := rxFrame (hdrTo 12 513 0 44) []
/-- A foreign SYNC of span 2 from head 10. -/
def foreignSync : RxFrame := rxFrame { hdrTo 1 512 0 44 with hid := 10 } []
/-- A SYNC of another head with this head's HID. -/
def sameSync : RxFrame := rxFrame (hdrTo 1 512 0 44) []
/-- A head in LISTEN. -/
def listening : State := span.setF R.ZLP_SSTAT_STATE 1
/-- A station owns window 1. -/
def ownedWin : State := (spanWin 2 1 40).setF (R.CYM_W1_OWNER 1) 513
/-- A station's window whose record of 4 bytes goes to a frame-buffer slot. -/
def ownedBuf : State := (ownedWin.setF (R.CYM_W2_SRC 1) 1).setF (R.CYM_W2_RSIZE 1) 4
/-- A station reported absent. -/
def absent : State := { span with clk := 1600000, ring := { span.ring with absentAt := [(1, some 0)] } }
/-- A ring that is a wrap. -/
def wrapped : State := span.putReg R.ZLP_RSTAT 0xFFFFFFFF
/-- The own SYNC, wrapped. -/
def wrapSync : RxFrame := rxFrame { hdrTo 1 512 0 44 with flg := 64 } []
/-- The head's ports of ring A with their links, the PLLs locked. -/
def spanLinked : State := (((span.set1 (R.ZLP_P_CFG_EN 0)).set1 (R.ZLP_P_STAT_LINK 0)).set1 (R.ZLP_P_CFG_EN 1)).set1 (R.ZLP_P_STAT_LINK 1) |>.setF R.GLB_CLK_STAT_LOCK 0x3F
/-- Two bc without a SYNC. -/
def missed : State := { span with ring := { span.ring with syncMiss := [(0, 2)] } }
/-- The same on ring B. -/
def missedB : State := { span with ring := { span.ring with use := [1], syncMiss := [(1, 2)] } }
/-- On ring A, with a wrapped return at both ends. -/
def missedSeen : State := { missed with ring := { missed.ring with ret0 := [(0, some 100)], ret1 := [(0, some 50)] } }
/-- A command window of one slot whose read instant has come. -/
def asmNow : State := { spanWin 2 0 64 with clk := 768 }
/-- A window is due. -/
def sendNow (cls dir : Nat) : State := { spanWin cls dir 16 with clk := 800, nt := ⟨0, 0, 0⟩ }
/-- A module bus transfer. -/
def sfpBusy (wr : Nat) : State := (ready.set1 (R.ZLP_P_SFP_CTL_GO 5)).setF (R.ZLP_P_SFP_CTL_WR 5) wr
/-- DDM is due. -/
def ddmDue : State := { ready.set1 (R.ZLP_P_CFG_DDM_EN 0) with clk := 80000000 }
/-- The listen time is over. -/
def listened : State := { span.setF R.ZLP_SSTAT_STATE 1 with ring := { span.ring with listenEnd := 30000 } }
/-- A pylon in LISTEN, its partner heard or not, in a role. -/
def listenPair (up : Bool) (role : Nat) : State :=
  { (listened.set1 R.TWN_CFG_EN).setF R.TWN_STAT_ROLE role with twn := { listened.twn with linkUp := up } }
/-- A ring start in MEASURE. -/
def measuring (m : RingMeas) : State := { span.setF R.ZLP_SSTAT_STATE 2 with ring := { span.ring with meas := [(0, m)], live := false } }
/-- The same after the last round, the frames of both rings overdue. -/
def measuredAll (use : List Nat) : State := { measuring ⟨16, 0, none, none, 0, 0, none⟩ with ring := { (measuring ⟨16, 0, none, none, 0, 0, none⟩).ring with use := use, meas := use.map (fun r => (r, ⟨16, 29000, none, none, 0, 0, none⟩)) } }
/-- The same, too late. -/
def measuredLate (use : List Nat) : State := { measuredAll use with clk := 90000 }
/-- Ring B measured, ring A's frame overdue, in a span that may run with one ring or not. -/
def ringLate (degr : Nat) : State :=
  { (measuredLate [0, 1]).setF R.ZLP_SCFG_DEGR degr with
    ring := { (measuredLate [0, 1]).ring with meas := [(0, ⟨3, 29000, none, none, 0, 0, none⟩), (1, ⟨16, 89000, none, none, 0, 0, none⟩)] } }
/-- A returned DELAY frame of the head. -/
def delayBack (k n : Byte) : RxFrame := rxFrame { hdrTo 10 512 0 44 with dst := 767 } [k, n]
/-- A REPORT frame of one station. -/
def reportBack : RxFrame := rxFrame { hdrTo 10 512 0 44 with dst := 767 } [1, 0, 0, 1, 0, 0, 0, 0, 0, 0, 0, 0, 0, 0, 0, 0, 1, 3, 0, 0, 40]
/-- Assignment is over. -/
def assigned : State := { span.setF R.ZLP_SSTAT_STATE 3 with ring := { span.ring with live := false, assignEnd := 30000 } }
/-- The first bc after assignment. -/
def firstBc : State := { span with cyc := { span.cyc with t0 := 25000 }, ring := { span.ring with live := false, assignEnd := 0 } }
/-- A halt that takes effect. -/
def halting : State := { span with cyc := { span.cyc with t0 := 25000 }, ring := { span.ring with haltAt := some 24999 } }
/-- The trunk on, as a station or as time master. -/
def trunkOn (master : Nat) : State := { (span.set1 R.ZLP_TCFG_EN).setF R.ZLP_TCFG_TMASTER master with clk := 102400000, ring := { span.ring with trunk := { span.ring.trunk with measAt := some 0 } } }
/-- A trunk frame of another head. -/
def trunkFrame (type kind len : Nat) : RxFrame := rxFrame ⟨type, 0, 0xFFFF, 768, 0, 0, 0, 0, len, 10⟩ [BitVec.ofNat 8 kind]
/-- Pier 15 in a state. -/
def pierIn (st : Nat) : State := ready.setF (R.PIR_STAT_STATE 15) st
/-- The dispatcher on, a background job waiting. -/
def dispatching : State := { (pierIn 2).set1 R.DSP_CFG_EN with clk := 10, dsp := { ready.dsp with ready := [⟨.background, 31, 0⟩] } }
/-- Pier 15 with a task given to it. -/
def given (k : TaskKind) (id cost : Nat) : State := { ((pierIn 2).set1 R.DSP_CFG_EN).putPier 15 { Pier.idle with asg := some ⟨⟨k, id, 0⟩, 6, cost, .stay, []⟩ } with clk := 6 }
/-- The same for a task of axis 159 whose state moves from Pier 3, or is restored, its home copy good or bad. -/
def givenMove (mv : MoveKind) (bad : Bool) : State :=
  { (given .axis 159 800).putPier 15 { Pier.idle with asg := some ⟨⟨.axis, 159, 0⟩, 6, 800, mv, []⟩ } with
    deck := { ready.deck with bad := if bad then [159 * 0x800 + 0x600] else [] } }
/-- Pier 15 running a task in a state, its end past by 8 clk. -/
def busyPier (st : Nat) (k : TaskKind) (id : Nat) : State := { (pierIn st).putPier 15 { Pier.idle with run := some ⟨⟨k, id, 0⟩, 6, 100, none⟩ } with clk := 108 }
/-- The state of axis 159 moves from Pier 0 to Pier 15. -/
def moving : State := { ready.putAxis 159 { AxisCtl.idle with moving := some (0, 15, 9) } with clk := 9, deck := { ready.deck with fwd := [(5, 159 * 0x800, 7)] } }
/-- Axis 159 running, late in its bc. -/
def axisLate : State := { ((ready.set1 (R.AXT_W0_EN 159)).setF (R.AXT_W2_STATE 159) 2).set1 R.DSP_CFG_SUB_EN with clk := 24999 }
/-- The same in a running span. -/
def axisOver : State := axisLate.setF R.ZLP_SSTAT_STATE 4
/-- The same of an exclusive flow's first member, with a second one. -/
def flowOver : State :=
  (((((((axisOver.set1 (R.AXT_W0_EN 158)).setF (R.AXT_W2_STATE 158) 2).set1 (R.DSP_FLOW_EN 7)).setF (R.DSP_FLOW_FIRST 7) 159).set1 (R.DSP_FLOW_ORD 7)).setF (R.DSP_FMEM_FLOW 158) 7).setF (R.DSP_FMEM_FLOW 159) 7)
    |>.set1 (R.DSP_FMEM_IN 158) |>.set1 (R.DSP_FMEM_IN 159) |>.setF (R.DSP_FMEM_NEXT 159) 158 |>.setF (R.DSP_FMEM_NEXT 158) 255
/-- A lane in a bc that is nearly over. -/
def laneLate (written : Bool) (n : Nat) : State := { ready.putLane 15 { Lane.idle with written := written, missed := n, iqRef := 0x3F800000, deadAt := 0 } with clk := 49000, cyc := { ready.cyc with t0 := 25000 } }
/-- Background job 31 is pending. -/
def bgWaits : State := { ready with dsp := { ready.dsp with ready := [⟨.background, 31, 0⟩] } }
/-- Background job 31 is posted again while it runs. -/
def bgAgain : State := { busyPier 2 .background 31 with dsp := bgWaits.dsp }
/-- Axis 3 a member of flow 255. -/
def flowOk : State := ((((ready.set1 (R.DSP_FMEM_IN 3)).setF (R.DSP_FMEM_FLOW 3) 255).setF (R.AXT_W2_STATE 3) 1).setF (R.DSP_FMEM_NEXT 3) 255)
/-- Axes 3 and 4 of class X in flow 255, their homes Piers 1 and 2, which are in service or not. -/
def flowX (up : Bool) : State :=
  let s := [3, 4].foldl (fun s a => (((s.set1 (R.DSP_FMEM_IN a)).setF (R.DSP_FMEM_FLOW a) 255).setF (R.AXT_W2_STATE a) 1).setF (R.AXT_W0_CLASS a) 1) ready
  let s := ((s.setF (R.DSP_FMEM_NEXT 3) 4).setF (R.DSP_FMEM_NEXT 4) 255).setF (R.AXT_W2_HOME 3) 1 |>.setF (R.AXT_W2_HOME 4) 2
  if up then s.setF (R.PIR_STAT_STATE 1) 2 else s
/-- One class-L axis, feedback slot 4, at t0 + 4. -/
def classL : State := { (((ready.set1 (R.AXT_W0_EN 159)).setF (R.AXT_W0_CLASS 159) 2).setF (R.AXT_W2_STATE 159) 2).setF (R.AXT_W1_FB_SLOT 159) 4 with clk := 25004, cyc := { ready.cyc with t0 := 25000 } }
/-- Pier 15 OFFLINE, with a scrub pass that has matched or not. -/
def offline (ok : Bool) : State := (pierIn 4).putPier 15 { Pier.idle with passOk := ok }
/-- Pier 15 OFFLINE while the flash queue is full. -/
def offlineFull : State := { pierIn 4 with nvs := { ready.nvs with queue := List.replicate 16 ⟨.write 0 16 [1], [.read 0 1], none, 0, false⟩ } }
/-- Axis 159 resident on Pier 15. -/
def resident : State := ((pierIn 2).putSlot 15 31 159).set1 (R.AXT_W2_RES 159)
/-- The Deck scrubber on. -/
def deckOn : State := ready.set1 R.DCK_CFG_SCRUB_EN
/-- The Deck window at a page. -/
def pageAt (n : Nat) : State := ready.setF R.DCK_PAGE_PAGE n
/-- A cam point's low word is staged. -/
def camStaged : State := { pageAt 7 with deck := { ready.deck with camLow := some (0x1FFFF8, 9) } }
/-- A forwarded write of axis 159's parameters is due. -/
def forwarding : State := { ready with clk := 4, deck := { ready.deck with fwd := [(4, 159 * 0x800 + 0x5FC, 7)] } }
/-- It is not due yet. -/
def forwardEarly : State := { forwarding with clk := 3 }
/-- An entry whose state is loaded. -/
def loading : State := { ready.putAxis 159 { AxisCtl.idle with loadEnd := some 80 } with clk := 80 }
/-- PWM module 11 on, at position `n` of a period of 100 clk. -/
def pwmAt (n : Nat) : State := { (ready.set1 (R.PWM_CFG_EN 11)).putPwm 11 { PwmModule.idle with per := 100 } with clk := n }
/-- The same with HOLD set. -/
def pwmHeld (n : Nat) : State := (pwmAt n).set1 (R.PWM_CFG_HOLD 11)
/-- The same with UPD set. -/
def pwmUpd (n : Nat) : State := (pwmAt n).set1 (R.PWM_CFG_UPD 11)
/-- The same with a shorter period due. -/
def pwmCut (per : Nat) : State := (pwmUpd 51).setF (R.PWM_PER_PER 11) per
/-- A module restarted by every bc. -/
def pwmSync : State := { ((pwmAt 10).setF (R.PWM_CFG_SYNC_SRC 11) 2).setF (R.PWM_CFG_SYNC_DIV 11) 1 with cyc := { ready.cyc with t0 := 9 } }
/-- A period of 100 clk, no dead time. -/
def pwmCfg (per : Nat) : State := (ready.setF (R.PWM_PER_PER 11) per)
/-- Fault input 7 maps to every module. -/
def fltMapped : State := ready.setF (R.PWM_FLT_MAP_MODS 7) 0xFFF
/-- A latch of fault input 7 whose input is active or not. -/
def fltLatched (pin : Bool) : State := { (fltMapped.setF R.PWM_FLT_STAT_LATCH 0x80).putFlt 7 ⟨pin, 0, none⟩ with clk := 100000000 }
/-- Module 11 forced, outputs to turn on due. -/
def turnOn : State := { (pwmAt 10).setF R.PWM_FORCE_MODS 0x800 with pwr := { ((pwmAt 10).putPwm 11 { PwmModule.idle with forceOn := some 10 }).pwr with soft := 0x800 } }
/-- Module 11 lingers after a force. -/
def lingering : State := { (pwmAt 10).putPwm 11 { PwmModule.idle with per := 100, linger := true } with host := { ready.host with accepted := [(R.PWM_FORCE, 0)] } }
/-- An accepted pair on `PWM_FORCE`. -/
def forced (v : Word) : State := { ready with host := { ready.host with accepted := [(R.PWM_FORCE, v)] } }
/-- Sigma-delta channel 47 on. -/
def sdmOn : State := (ready.set1 (R.SDM_CFG_EN 47)).set1 (R.SDM_CLK_EN 3)
/-- The same clocked by the modulator, with a decimation factor. -/
def sdmExt (osr : Nat) : State := (sdmOn.set1 (R.SDM_CLK_MODE 3)).setF (R.SDM_CFG_OSR 47) osr
/-- Its filter has met 63 equal samples. -/
def sdmSame : State := (sdmExt 8).putSdm 47 { SdmFilter.zero with last := some true, same := 63 }
/-- Its clock has been still for long. -/
def sdmStill : State := { sdmExt 8 with clk := 1025 }
/-- The three pairs 0, 4, 8 on, their modules at 10 000 clk. -/
def laneMods : State := ready.each [0, 1, 2] (fun s m => ((((s.set1 (R.PWM_CFG_EN m)).setF (R.PWM_PER_PER m) 10000).setF (R.PWM_CFG_SYNC_SRC m) 2).setF (R.PWM_CFG_SYNC_DIV m) 1).putPwm m { PwmModule.idle with per := 10000 })
/-- Lane 15 set up on them. -/
def laneSet : State := (((laneMods.setF (R.CLN_PAIRS_U_A1 15) 0).setF (R.CLN_PAIRS_V_A2 15) 4).setF (R.CLN_PAIRS_W_B1 15) 8)
/-- Lane 15 enabled, an evaluation due. -/
def laneDue (mode : Nat) : State := { (((laneSet.setF (R.CLN_CFG_MODE 15) mode).setF (R.CLN_PAIRS_B2 15) 12).set1 (R.CLN_CFG_EN 15)).putPwm 0 { PwmModule.idle with per := 10000, startAt := 9 } with clk := 9 }
/-- Its sigma-delta source in error. -/
def laneBad : State := (laneDue 0).set1 (R.SDM_STAT_STUCK 1)
/-- Its compare values are due. -/
def laneWr : State := { laneSet.putLane 15 { Lane.idle with wr := some (129, [1, 2, 0x400000]) } with clk := 129 }
/-- Encoder 15 on. -/
def encOn (mode : Nat) : State := (ready.set1 (R.ENC_CFG_EN 15)).setF (R.ENC_CFG_MODE 15) mode
/-- The same, counting down. -/
def encInv : State := (encOn 0).set1 (R.ENC_CFG_INV 15)
/-- The same with a glitch filter of 3 clk. -/
def encFilt : State := (encOn 0).setF (R.ENC_CFG_FILT 15) 3
/-- Serial encoder 15 every 5 000 clk. -/
def encSer (n : Nat) : State := { (encOn 1).setF (R.ENC_SPER_SPER 15) 5000 with clk := n }
/-- A transfer under way. -/
def encXfer : State := ((encSer 9).setF (R.ENC_CFG_LEN 15) 4).putEnc 15 { Encoder.idle with xfer := some 5, older := some (1, 1), newest := some (2, 2) }
/-- Received bits. -/
def rxBits (n : Nat) : SerialRx := ⟨List.replicate n true, true, true, 0, none⟩
/-- A latch request for a source. -/
def encArmed (n : Nat) : State := (encOn 0).putEnc 15 { Encoder.idle with lreq := n }
/-- Step channel 31 runs on the chainage, its source `x` on, at the start of a bc. -/
def stpOn (x : BitVec 64) (lagmax : Nat) : State :=
  { ((((ready.set1 (R.STP_CFG_EN 31)).set1 (R.STP_STAT_RUN 31)).set1 (R.STP_CFG_SRC 31)).setF (R.STP_LAGMAX_LAGMAX 31) lagmax).putReg (R.STP_NUM 31) 1 with
    clk := 25000, cyc := { ready.cyc with t0 := 25000 }, pwr := (ready.putStp 31 { StepChan.idle with x0 := 0 - x }).pwr }
/-- Step channel 31 in the midst of a bc. -/
def stpRun (x : StepChan) : State := { ready.putStp 31 x with clk := 25000 }
/-- A conversion is due in a slot. -/
def adcDue (n : Nat) : State := { (ready.set1 (R.ADC_CFG_EN)) with clk := 400, acq := { ready.acq with adcSlot := n, adcAt := 400 } }
/-- PWM module 11 with too long a dead time. -/
def pwmTight : State := (pwmCfg 64).setF (R.PWM_DT_DT 11) 40
/-- Pins of channel 31 fall, turn and rise. -/
def stpFall : State := stpRun { StepChan.idle with pulseEnd := some 25000 }
/-- The direction changes. -/
def stpTurn : State := stpRun { StepChan.idle with dirDue := some (25000, true) }
/-- One step is planned. -/
def stpRise : State := stpRun { StepChan.idle with plan := some ⟨0, 1, 0, true, 0⟩ }
/-- Acquisition runs with channel 63 on encoder 15, capture memory trained. -/
def acqSet : State := ((((ready.set1 R.ACQ_CFG_RUN).setF (R.ACQ_CH_SRC_KIND 63) 6).setF (R.ACQ_CH_SRC_IDX 63) 15).set1 R.DDR_STAT_TRAINED).setF R.ACQ_SIZE_SIZE 1 |>.setF R.ACQ_TICK_TICK 80
/-- A session in a state with a given pending trigger. -/
def acqIn (st : Nat) (p : Option TrigPending) : State :=
  { acqSet.setF R.ACQ_STAT_STATE st with clk := 80, acq := { ready.acq with runs := [⟨80, 5, 80⟩], chans := [63], nseg := 1, segb := 1048576, post := 5, pend := p } }
/-- The same while channel 62 is on a Deck word. -/
def acqDeck : State := { (acqIn 0 none).setF (R.ACQ_CH_SRC_KIND 62) 1 with acq := { (acqIn 0 none).acq with count := 6 } }
/-- A session whose drain is under way. -/
def draining : State := { acqIn 3 none with acq := { (acqIn 3 none).acq with draining := true, fifo := [(64, [1, 2])] } }
/-- Trigger unit 15 with LO above HI. -/
def trgBad : State := ready.putReg (R.TRG_LO 15) 0x3F800000
/-- Mark unit 15 in a state. -/
def markAt (x : MarkUnit) : State := { ready.putMark 15 x with clk := 20 }
/-- A gate of mark unit 15 has closed with `n` edges. -/
def markClosed (n : Nat) : State := markAt ⟨n, 7, none, some 12, []⟩
/-- A result is due. -/
def markDone (e : Option Word) : State := markAt ⟨0, 0, none, none, [(20, e)]⟩
/-- Training under way at a rate. -/
def training (rate : Nat) : State := ((ready.set1 R.DDR_CTL_TRAIN).setF R.DDR_CFG_RATE rate).setF R.GLB_CLK_STAT_LOCK 0x3F
/-- Keystone's cores run, in a state. -/
def kstIn (st : Nat) : State :=
  ({ (ready.setF R.GLB_CLK_STAT_LOCK 0x3F).setF R.KST_STAT_STATE st with clk := 800000000 } : State).bothCores (fun c => { c with now := 800000000 })
/-- The same with an image. -/
def kstImg (st : Nat) (img : Tab Byte) : State := { kstIn st with kst := { (kstIn st).kst with img := img, hasImg := true } }
/-- Function 15 of type 1 of zone 15. -/
def fn15 : Tab Byte := [(imgFn 15, 1), (imgFn 15 + 9, 0x80)]
/-- Function 15 of type 2 (guard lock) of zone 15, lock monitor input 3, unlock delay 1 ms. -/
def lock15 : Tab Byte := [(imgFn 15, 2), (imgFn 15 + 3, 3), (imgFn 15 + 9, 0x80), (imgFn 15 + 12, 1)]
/-- Both cores hold function 15 so. -/
def kstFn (img : Tab Byte) (x : SafeFunc) : State :=
  let s := kstImg 1 img
  s.bothCores (fun c => { { c.putFn 15 x with now := 0 }.publish 0x8000 0 with now := c.now })
/-- A sample with everything low and the supplies good. -/
def sampleLow : SafetySample := ⟨⟨0, 0, false, false, 0, 0, 0⟩, ⟨0, 0, false, false, 0, 0, 0⟩, true, true⟩
/-- Input 15's channels disagree since clk 5. -/
def disagree : State := (kstImg 1 [(imgIn 15 + 4, 10)]).bothCores (fun c => c.putIn 15 { SafeInput.idle with discAt := some 5 })
/-- A timer of category 1 is over. -/
def timerOver : State := kstFn fn15 { SafeFunc.waiting with t1 := some 800000000, sto := false }
/-- An unlock was requested. -/
def unlockReq : State := kstFn lock15 { SafeFunc.waiting with req := true }
/-- The lock monitor has not come. -/
def lockLate : State := kstFn lock15 { SafeFunc.waiting with wait := some 9 }
/-- A running span with an image: station 1 of CID 7 (W 4). -/
def kstSpan : State := { (kstImg 1 [(0x1F0, 4), (imgStn 1, 7)]).setF R.ZLP_SSTAT_STATE 4 with
  cyc := { ready.cyc with bcIdx := 5, t0 := 799999000 }, ring := { Ring.reset with live := true, use := [0], set_ := [1] } }
/-- Its last valid copy is 4 bc old. -/
def kstSilent : State := kstSpan.putWatch 1 { StnWatch.none_ with lastOk := some 0 }
/-- An accepted Falsework request. -/
def fwReq (st : Nat) (v : Word) (img : Bool) : State :=
  { (if img then kstImg st fn15 else kstIn st) with host := { ready.host with accepted := [(R.KST_FW_REQ, v)] } }
/-- After it has been taken. -/
def fwTaken (st : Nat) (v : Word) (img : Bool) : State := { fwReq st v img with host := ready.host }
/-- An image that passes every test: only W, TPP and the header. -/
def winGood (st : Nat) (v : Word) : State := (((fwReq st v false).putReg (R.KST_PWIN 0) 0x10000001).putReg (R.KST_PWIN 0x7C) 0x00000804)
/-- After the request. -/
def winGoodTaken (st : Nat) : State := { winGood st 3 with host := ready.host }
/-- The same with a window left empty. -/
def kstEmpty (v : Word) : State := { kstIn 0 with kst := { (kstIn 0).kst with conf := some v } }
/-- Boot, with a confirmed value. -/
def kstConf (v : Option Word) (win : Bool) : State := { winGood 0 0 with kst := { (kstIn 0).kst with conf := v, winSet := win } }
/-- A pylon in a role, twin operation on, the PAIR link up, PLLs locked. -/
def pylon (role : Nat) : State :=
  { ((((ready.set1 R.TWN_CFG_EN).setF R.TWN_STAT_ROLE role).setF R.TWN_EPOCH_EPOCH 65535).setF R.ZLP_CFG_SPAN 2).setF R.ZLP_CFG_HID 9 with
    clk := 30000, twn := { ready.twn with linkUp := true } }
/-- A heartbeat of a holder or not, from bc 6. -/
def hbBytes (flags role : Nat) : List Byte :=
  pairFrame (bytesOf 1 1 ++ bytesOf 1 flags ++ bytesOf 2 65535 ++ bytesOf 4 6 ++ bytesOf 2 14 ++ bytesOf 1 3 ++ bytesOf 1 role ++ List.replicate 16 0 ++ bytesOf 4 77)
/-- The partner's end of the PAIR link. -/
def pinfo : PartnerInfo := ⟨true, 9, 2, false, ready.f R.ZLP_CFG_RATE, false, true, ready.reg (R.PIR_UC_VER 0), 0, false, none⟩
/-- The SYNC of the other pylon, at this pylon's x1 of ring B. -/
def ringSync : RxFrame := rxFrame { hdrTo 1 512 0 44 with epoch := 65535 } []
/-- A partner past its lease deadline. -/
def leaseLate (pathUp : Bool) : State := { (pylon 2).setB R.TWN_STAT_PAIR_UP pathUp with cyc := { ready.cyc with bcIdx := 20 }, twn := { (pylon 2).twn with hbBc := some 6 } }
/-- A holder whose partner is ready. -/
def holderReady : State := { (pylon 1).set1 R.TWN_PARTNER_READY with cyc := { ready.cyc with bcIdx := 0xFFFFFFFF } }
/-- A VACANT frame of the partner at this pylon's x1. -/
def copyFrame : RxFrame := rxFrame { hdrTo 3 512 0 44 with epoch := 65535 } [1]
/-- What this pylon sent itself for that window, with CRC `c`. -/
def copyState (c : Word) : State := { pylon 2 with twn := { (pylon 2).twn with txCrc := [(2 * hdrWin (parseHeader copyFrame.bytes) + hdrHalf (parseHeader copyFrame.bytes), some (0, 3, c))] } }
/-- A pylon that may pair; `hid` is the partner's head ID. -/
def pairReady (role hid : Nat) (item : Option Nat) : State :=
  { (pylon role).set1 R.TWN_STAT_PAIR_UP with twn := { (pylon role).twn with info := some { pinfo with hid := hid }, hb := parseHb (hbBytes (if item = some 6 then 0 else 1) 0) } }
/-- The heartbeat that has come. -/
def hbOf (s : State) : PairHb := s.twn.hb.getD ⟨0, false, false, false, 0, 0, 0, 0, 0, ⟨0, 0⟩, 0⟩
/-- The end of the PAIR link that its pylon has heard. -/
def infoOf (s : State) : PartnerInfo := s.twn.info.getD pinfo
/-- A State frame of bc 6 for axis 7. -/
def partFrame : List Byte := pairFrame (bytesOf 1 4 ++ bytesOf 3 7 ++ bytesOf 4 6 ++ List.replicate 516 1)
/-- A joining pylon with a part of axis 7 of bc `m`. -/
def installing (m : Word) : State :=
  { ((pylon 3).set1 (R.AXT_W0_EN 7)).setF (R.AXT_W2_STATE 7) 1 with cyc := { ready.cyc with bcIdx := 7 }, twn := { (pylon 3).twn with states := [(7, m, List.replicate 512 1)] } }
/-- A timing mark. -/
def markFrame : List Byte := pairFrame (bytesOf 4 5 ++ bytesOf 4 100 ++ bytesOf 4 0)
/-- A packet of an opcode, from queue 2. -/
def pktOf (op : Nat) (pay : List Word) : Packet := ⟨⟨0xABCD, op, 2, false, 1, 0⟩, [], pay, 0, none, false, false, 0, false⟩
/-- Core 1 holds a packet. -/
def holding (s : State) (p : Packet) : State := { s with hif := { s.hif with cores := [(1, ⟨some p, 0, false⟩)] } }
/-- It runs one in a ready block. -/
def run1 (op : Nat) (pay : List Word) : State := holding ready (pktOf op pay)
/-- Queues on. -/
def qOn : State := { ready.set1 R.HIF_CTL_EN with clk := 100 }
/-- Queue 2 holds an entry with words 0 and 1 at its head. -/
def queued (w0 w1 : Word) : State := { (qOn.setF (R.HIF_SQ_STAT_TAIL 2) 1).bar2Put 0x8000 [w0, w1, 0, 0, 5, 6] with clk := 100 }
/-- The completion queue is full but for 16. -/
def cqTight : State := (queued 0 0).setF R.HIF_CQ_STAT_RSV 1007
/-- Slot 255 of queue 3 is held. -/
def slotBusy : State := (qOn.setF (R.HIF_SQ_STAT_HEAD 3) 255).setF (R.HIF_SQ_STAT_TAIL 3) 0
/-- A packet whose payload of 13 words comes by DMA. -/
def pktDma : Packet := { pktOf 0x31 [] with entry := [0x000D0031], dma := some 5 }
/-- A packet that waits under FENCE. -/
def pktFence (op : Nat) : Packet := { pktOf op [] with entry := [wordOf op], fence := true }
/-- An older packet waits. -/
def olderWaits : State := { holding ready (pktFence 0) with hif := { (holding ready (pktFence 0)).hif with waits := [⟨some ⟨1, 0, 0, false, 0, 0⟩, .ringHalt⟩] } }
/-- A mirror frame for OP_AXIS_DISABLE of axis 159. -/
def mirrorBytes : List Byte := mirrorFrame 7 5 ([0x00010011, 9, 0, 0, 159] ++ List.replicate 11 0) [159]
/-- A mirrored packet. -/
def mirrorOf (t : Option PktTag) : Mirror := ⟨7, 5, [0x00010011, 9, 0, 0, 159] ++ List.replicate 11 0, [159], t, false⟩
/-- It is due. -/
def mirrorDue (role : Nat) (t : Option PktTag) : State :=
  { ((pylon role).set1 (R.AXT_W0_EN 159)).setF (R.AXT_W2_STATE 159) 1 with cyc := { ready.cyc with bcIdx := 5 }, twn := { (pylon role).twn with mirrors := [mirrorOf t] } }
/-- Axis 159 enabled in a state, core 1 running a packet. -/
def axisRun (st op : Nat) (pay : List Word) : State := holding ((ready.set1 (R.AXT_W0_EN 159)).setF (R.AXT_W2_STATE 159) st) (pktOf op pay)
/-- A packet runs while capture writes are pending. -/
def readBehind (pay : List Word) : State := { run1 0x51 pay with acq := { ready.acq with fifo := [(64, [1, 2])] } }
/-- Bank 1 written up to word 16, the flash queue full or not. -/
def bankUsed (full : Bool) : State :=
  { holding ready (pktOf 0x53 [1]) with nvs := { ready.nvs with queue := if full then List.replicate 16 ⟨.write 0 16 [1], [.read 0 1], none, 0, false⟩ else [] } }.setF (R.NVS_WP_WP 1) 17
/-- Axis 159 in FAULT with bit 11 of its status. -/
def faulted : State := (axisRun 3 0x14 [159]).putDyn 159 { (ready.homeDyn 159) with status := 0x800 }
/-- A single head with both rings linked. -/
def linked : State := [0, 1, 2, 3].foldl (fun s p => (s.set1 (R.ZLP_P_CFG_EN p)).set1 (R.ZLP_P_STAT_LINK p)) ready
/-- Axis 159's previous command landed just now. -/
def justSent : State := { axisRun 1 0x20 (159 :: List.replicate 8 0) with hif := { (axisRun 1 0x20 (159 :: List.replicate 8 0)).hif with mcAt := [(159, some 0)] } }
/-- A group move of axes 158 and 159 by 1 and 2 counts. -/
def groupPay : List Word := [2, 0, 0, 0, 0, 0, 0, 158, 0x10000, 0, 159, 0x20000, 0]
/-- Both axes are enabled. -/
def groupRun : State := holding ((ready.set1 (R.AXT_W0_EN 158)).set1 (R.AXT_W0_EN 159)) (pktOf 0x27 groupPay)
/-- Axis 159 moves meanwhile. -/
def groupMoves : State := groupRun.putDyn 159 { groupRun.homeDyn 159 with motion := { (groupRun.homeDyn 159).motion with vSet := 0x3F800000 } }
/-- A held packet. -/
def heldPkt : Packet := { pktOf 0x20 [159] with held := true }
/-- A core holds it. -/
def heldRun : State := holding ready heldPkt
/-- The tag of a waiting packet. -/
def tag1 : PktTag := ⟨1, 0x20, 1, false, 0, 0⟩
/-- A report for a waiting motion packet. -/
def reported : State := { ready with dsp := { ready.dsp with reports := [(0, 159, 77, ⟨.limit, 3, 5, 9⟩)] }, hif := { ready.hif with waits := [⟨some tag1, .motion 159 3⟩] } }
/-- A quiesce of axis 159 is due. -/
def quiescing : State := { (ready.set1 (R.AXT_W0_EN 159)).setF (R.AXT_W2_STATE 159) 2 with cyc := { ready.cyc with t0 := 9 }, hif := { ready.hif with waits := [⟨some tag1, .quiesce [159] 8⟩] } }
/-- A resume of axis 159. -/
def resume159 : Resume := ⟨[159], 1, 5, 0, 0, 1⟩
/-- Its bc or its deadline has come. -/
def resuming (bc : Word) (cls : Nat) : State :=
  { ((ready.set1 (R.AXT_W0_EN 159)).setF (R.AXT_W2_STATE 159) 1).setF (R.AXT_W0_CLASS 159) cls with
    cyc := { ready.cyc with bcIdx := bc }, hif := { ready.hif with waits := [⟨some tag1, .resume resume159⟩] } }
/-- A resume that is late. -/
def resumeOld : Resume := ⟨[159], 2, 0, 0, 0, 1⟩
/-- Its deadline has passed. -/
def resumeLate1 : State := { resuming 64 2 with hif := { ready.hif with waits := [⟨some tag1, .resume resumeOld⟩] } }
/-- The payload has come. -/
def dmaDone : State := { holding ready pktDma with clk := 5 }
/-- An occurrence in the latch of source 255, queued or not. -/
def latchOf (q : Bool) (detail : BitVec 16) : EvtLatch := ⟨⟨1, 2, 3⟩, 4, 5, detail, 7, 1, q⟩
/-- Source 255 has a latched occurrence, with a routing byte, the queue's tail and head given. -/
def latched (route tail head : Nat) : State :=
  { (((ready.putReg (R.EVT_MAP 63) (wordOf (route * 2 ^ 24))).setF R.EVT_TAIL_TAIL tail).setF R.EVT_HEAD_HEAD head) with evt := { ready.evt with scan := 200, latch := [(255, some (latchOf true 6))] } }
/-- Its newest entry lies in slot `k`. -/
def merging (k : Nat) : State :=
  { (latched 0xC0 (k + 1) k).putReg (R.EVT_QUEUE (4 * k)) (evtWord0 255 1 false 6) with evt := { (latched 0xC0 (k + 1) k).evt with newest := [(255, some k)] } }
/-- An occurrence was merged past an occupied latch. -/
def mergeDue : State := { ready with evt := { ready.evt with merges := [(255, 1023, 7)] } }
/-- The entry of the latch of source 255 has been served and is due to land at clk 2. -/
def landing (s : State) (clk : Nat) : State := { s with clk := clk, evt := { s.evt with writes := [(2, 255, latchOf true 6)] } }
/-- The writer has served an entry on this clk. -/
def servedNow : State := { latched 0x80 0 0 with evt := { (latched 0x80 0 0).evt with served := 1 } }
/-- A loss entry is due. -/
def lossDue : State := { (latched 0x80 1023 0).setF R.EVT_HEAD_HEAD 5 |>.set1 R.EVT_CFG_EN with evt := { (latched 0x80 1023 0).evt with lossNow := 70000 } }
/-- Vector 31 has counted one entry. -/
def vecTimed : State := { ready.setF (R.EVT_VEC_TIME 31) 1 with clk := 800, evt := { ready.evt with vecCnt := [(31, 1)] } }
/-- A message on vector 31 is due, the vector unmasked or not, the link up. -/
def msgDue (mask : BitVec 32) : State := { ready.set1 R.HIF_LINK_UP with clk := 16, evt := { ready.evt with msgs := [(31, 16), (0, 3)], msixMask := mask } }
/-- A message of vector 31 is held. -/
def msgHeld (up : Bool) : State := { ready.setB R.HIF_LINK_UP up with evt := { ready.evt with msixPend := 0x80000000 } }
/-- The black box on, in a state, with one entry. -/
def boxIn (st er : Nat) : State := { ((ready.set1 R.BBX_CFG_EN).setF R.BBX_STAT_STATE st).setF R.BBX_STAT_ER er with nvs := { ready.nvs with box := [[0, 1, 2, 3, 4, 5, 6, 7]] } }
/-- Area 1 holds a record. -/
def boxHolds : State := (boxIn 0 1).putReg (R.BBX_ASEQ 1) 1
/-- The flash queue is full. -/
def queueFull : State := { boxHolds with nvs := { boxHolds.nvs with queue := List.replicate 16 ⟨.write 0 16 [1], [.read 0 1], none, 0, false⟩ } }
/-- A bank switch has been accepted. -/
def switchTo (b wp : Nat) : State := { ready.setF (R.NVS_WP_WP b) wp with host := { ready.host with accepted := [(R.NVS_SWITCH, wordOf b)] } }
/-- A request at the head of the queue; hold-up tested or not. -/
def flashQ (hu : Bool) (q : FlashReq) : State := { ready.setB R.NVS_CFG_HU_EN hu with clk := 900000, nvs := { ready.nvs with queue := [q] } }
/-- A write of two words. -/
def writeReq (steps : List FlashStep) : FlashReq := ⟨.write 1 16 [1, 2], steps, none, 0x1100040, false⟩
/-- Its energy is not there. -/
def flashPoor (q : FlashReq) : State := (flashQ true q).putReg R.NVS_HU_P 0x3F800000
/-- It has been deferred before. -/
def writeAgain (steps : List FlashStep) : FlashReq := { writeReq steps with deferred := true }
/-- It waits for the next conversion. -/
def flashWaits (q : FlashReq) : State := { flashPoor q with nvs := { (flashPoor q).nvs with wait := some .head } }
/-- A commit of the ring. -/
def boxCommits (hu pf : Bool) (next : Nat) : State := { (ready.setB R.NVS_CFG_HU_EN hu).putReg R.NVS_HU_P 0x3F800000 with nvs := { ready.nvs with commit := some ⟨0, pf, next, 1⟩ } }
/-- The first operation of a commit waits for the next conversion. -/
def boxWaits (pf : Bool) : State := { boxCommits true pf 0 with nvs := { (boxCommits true pf 0).nvs with wait := some (.boxed 0) } }
/-- The energy for its first operation is there. -/
def boxRich : State :=
  { (boxCommits true false 0).putReg R.NVS_HU_E 0x7F000000 with nvs := { (boxCommits true false 0).nvs with validAt := 0 } }
/-- An operation of the queue's head ends. -/
def flashEnds (q : FlashReq) : State := { ready with clk := 900000, nvs := { ready.nvs with queue := [q], run := some (.head, 900000) } }
/-- An operation of the commit ends. -/
def boxEnds (k need : Nat) : State := { ready with clk := 900000, nvs := { ready.nvs with box := [[0, 1, 2, 3, 4, 5, 6, 7]], run := some (.boxed k, 900000), commit := some ⟨0, false, k, need⟩ } }
/-- Something everywhere: queues used, a link, a packet in execution. -/
def busyBlock : State := { (holding ((((qOn.set1 R.HIF_LINK_UP).setF (R.HIF_SQ_STAT_TAIL 3) 7).setF R.HIF_CQ_PTR_TAIL 5)) (pktOf 0 [])) with
  host := { ready.host with accepted := [(R.GLB_SWRST, 1)] }, evt := { (latched 0x80 1 0).evt with msgs := [(1, 2)] } }
/-- A reset of a scope is due. -/
def resetAt (scope clk : Nat) : State := { busyBlock with clk := clk, host := { ready.host with swrst := some (scope, 100) } }
/-- What the boot finds. -/
def bootEnv (sections : List ImageSection) : BootEnv := ⟨some (32, 700, 400), true, sections, 5, 6, true, true⟩
/-- A failing environment. -/
def bootPoor : BootEnv := ⟨none, false, [], 5, 6, false, false⟩
/-- Boot at a step, its PLLs locked or not, `FAIL` given. -/
def bootAt (st lock fail : Nat) : State := ((State.reset.setF R.GLB_BOOT_STATE st).setF R.GLB_CLK_STAT_LOCK lock).setF R.GLB_CLK_STAT_FAIL fail
/-- An image that cannot be read. -/
def bootUnread : BootEnv := { bootEnv [⟨1, 64, 16⟩, ⟨2, 128, 16⟩, ⟨3, 256, 3840⟩] with readOk := false }
/-- The start-up list in step 6, its next pair due at clk 9. -/
def bootListed (l : List Word) (clk : Nat) : State := { bootAt 6 1 0 with clk := clk, host := { State.reset.host with bootList := some (l, 9) } }
/-- The header of a committed bank that holds nothing, but for its CRC. -/
def emptyBank : List Word := [0x4B4E425A, 1, 0, wordOf (crc32 [])]
/-- Bank 1 is such a bank. -/
def bootBank : State :=
  { bootAt 6 1 0 with nvs := { Nvs.reset with
      flash := tabWrite flashErased [] (bankAt 1) (bytesOfWords (emptyBank ++ [wordOf (crc32 (bytesOfWords emptyBank))])) } }
/-- An image header in the flash: 3 sections, 4,096 bytes. -/
def bootImg : State := { bootAt 3 1 0 with nvs := { Nvs.reset with flash := tabWrite flashErased [] 0 (bytesOfWords [0x5A494D47, 9, 4096, 3]) } }
/-- Its sections. -/
def threeSections : List ImageSection := [⟨1, 64, 16⟩, ⟨2, 128, 16⟩, ⟨3, 256, 3840⟩]

/-! ## Witnesses -/

/-- The hypotheses of `StepRunsFrontCommand` can be met. -/
theorem witness_StepRunsFrontCommand :
    (((readyQ [Instr.ntNow, Instr.chnNow]).pending = [Instr.ntNow, Instr.chnNow])) := by
  decide +kernel

/-- The hypotheses of `PlainWriteFollowsAccessCodes` can be met. -/
theorem witness_PlainWriteFollowsAccessCodes :
    ((HostOpen ready) ∧ (findReg R.EVT_CFG = some (rowOf R.EVT_CFG)) ∧ (isComplement R.EVT_CFG = false) ∧ (isPw R.EVT_CFG = false) ∧ (isWindow R.EVT_CFG = false) ∧ (firstRule ready R.EVT_CFG (4294967295 : Word) regWriteRules = none)) ∧
    ((HostOpen (ready.putReg (R.EVT_PEND 0) (7 : Word))) ∧ (findReg (R.EVT_PEND 0) = some (rowOf (R.EVT_PEND 0))) ∧ (isComplement (R.EVT_PEND 0) = false) ∧ (isPw (R.EVT_PEND 0) = false) ∧ (isWindow (R.EVT_PEND 0) = false) ∧ (firstRule (ready.putReg (R.EVT_PEND 0) (7 : Word)) (R.EVT_PEND 0) (3 : Word) regWriteRules = none)) ∧
    ((HostOpen ready) ∧ (findReg R.GLB_RST_CAUSE = some (rowOf R.GLB_RST_CAUSE)) ∧ (isComplement R.GLB_RST_CAUSE = false) ∧ (isPw R.GLB_RST_CAUSE = false) ∧ (isWindow R.GLB_RST_CAUSE = false) ∧ (firstRule ready R.GLB_RST_CAUSE (3 : Word) regWriteRules = none)) := by
  and_intros <;> decide +kernel

/-- The hypotheses of `IneffectiveAccessesAreCounted` can be met. -/
theorem witness_IneffectiveAccessesAreCounted :
    ((ready.sysLost = false)) ∧
    ((HostOpen ready) ∧ (isMapped 3 = false)) ∧
    (((State.reset.setF R.GLB_BOOT_STATE 5).sysLost = false)) ∧
    (((State.reset.setF R.GLB_BOOT_STATE 5).sysLost = false) ∧ (5 ≤ (State.reset.setF R.GLB_BOOT_STATE 5).f R.GLB_BOOT_STATE) ∧ (isMapped 3 = false)) ∧
    (((State.reset.setF R.GLB_BOOT_STATE 8).sysLost = false)) ∧
    (((State.reset.setF R.GLB_BOOT_STATE 8).sysLost = false) ∧ ((State.reset.setF R.GLB_BOOT_STATE 8).f R.GLB_BOOT_STATE ≠ 9) ∧ ((State.reset.setF R.GLB_BOOT_STATE 8).f R.GLB_BOOT_STATE ≠ 15)) := by
  and_intros <;> decide +kernel

/-- The hypotheses of `ReadReturnsThenClears` can be met. -/
theorem witness_ReadReturnsThenClears :
    (((ready.setF R.GLB_PW_ERR_COUNT 5).sysLost = false) ∧ (5 ≤ (ready.setF R.GLB_PW_ERR_COUNT 5).f R.GLB_BOOT_STATE) ∧ (findReg R.GLB_PW_ERR = some (rowOf R.GLB_PW_ERR)) ∧ (fieldOf R.GLB_PW_ERR 0 ∈ (rowOf R.GLB_PW_ERR).fields) ∧ ((fieldOf R.GLB_PW_ERR 0).acc = Access.rc) ∧ (isTv R.GLB_PW_ERR = false) ∧ (isComplement R.GLB_PW_ERR = false) ∧ (isWindow R.GLB_PW_ERR = false) ∧ (firstRead (ready.setF R.GLB_PW_ERR_COUNT 5) R.GLB_PW_ERR regReadRules = none)) := by
  and_intros <;> decide +kernel

/-- The hypotheses of `PairedWriteProtocol` can be met. -/
theorem witness_PairedWriteProtocol :
    ((HostOpen pairOpen) ∧ (isPw R.PWM_FORCE = true) ∧ (R.PWM_FORCE ≠ R.GLB_SWRST) ∧ (pairOpen.host.pw = some (PwPending.mk R.PWM_FORCE (5 : Word) 0)) ∧ (pairOpen.clk ≤ 0 + 64)) ∧
    ((HostOpen pairReset) ∧ (pairReset.host.pw = some (PwPending.mk R.GLB_SWRST (2 : Word) 0)) ∧ (pairReset.clk ≤ 0 + 64) ∧ (2 ≤ BitVec.toNat (2 : Word) % 4) ∧ (pairReset.host.swrst = none)) ∧
    ((HostOpen pairOpen) ∧ (isPw R.PWM_FORCE = true) ∧ (pairOpen.host.pw = some (PwPending.mk R.PWM_FORCE (5 : Word) 0)) ∧ (pairOpen.clk ≤ 0 + 64) ∧ ((0 : Word) ≠ ~~~(5 : Word)) ∧ (pairOpen.f R.GLB_PW_LAST_VALID = 0)) ∧
    ((HostOpen ready) ∧ (isPw R.PWM_FORCE = true) ∧ (ready.host.pw = none) ∧ (ready.f R.GLB_PW_LAST_VALID = 0)) ∧
    ((pairOld.host.pw = some (PwPending.mk R.PWM_FORCE (5 : Word) 0)) ∧ ((PwPending.mk R.PWM_FORCE (5 : Word) 0).at_ + 64 < pairOld.clk) ∧ (pairOld.f R.GLB_PW_LAST_VALID = 0)) := by
  and_intros <;> decide +kernel

/-- The hypotheses of `OnePairIsPendingAtATime` can be met. -/
theorem witness_OnePairIsPendingAtATime :
    ((HostOpen pairOpen) ∧ (isPw R.NVS_SWITCH = true) ∧ (isPw (PwPending.mk R.PWM_FORCE (5 : Word) 0).addr = true) ∧ (pairOpen.host.pw = some (PwPending.mk R.PWM_FORCE (5 : Word) 0)) ∧ (pairOpen.clk ≤ (PwPending.mk R.PWM_FORCE (5 : Word) 0).at_ + 64) ∧ (pairOpen.f R.GLB_PW_LAST_VALID = 0)) ∧
    ((HostOpen ready) ∧ (isPw R.NVS_SWITCH = true) ∧ (ready.host.pw = none)) ∧
    ((HostOpen pairOld) ∧ (isPw R.NVS_SWITCH = true) ∧ (isPw (PwPending.mk R.PWM_FORCE (5 : Word) 0).addr = true) ∧ (pairOld.host.pw = some (PwPending.mk R.PWM_FORCE (5 : Word) 0)) ∧ ((PwPending.mk R.PWM_FORCE (5 : Word) 0).at_ + 64 < pairOld.clk)) ∧
    ((HostOpen pairOpen) ∧ (isPw R.NVS_SWITCH = true) ∧ (isPw (PwPending.mk R.PWM_FORCE (5 : Word) 0).addr = true) ∧ (pairOpen.host.pw = some (PwPending.mk R.PWM_FORCE (5 : Word) 0)) ∧ (pairOpen.clk ≤ (PwPending.mk R.PWM_FORCE (5 : Word) 0).at_ + 64) ∧ ((PwPending.mk R.PWM_FORCE (5 : Word) 0).addr ≠ R.NVS_SWITCH)) ∧
    (((ready.putReg R.NVS_SWITCH (1 : Word)).sysLost = false) ∧ (5 ≤ (ready.putReg R.NVS_SWITCH (1 : Word)).f R.GLB_BOOT_STATE) ∧ (isPw R.NVS_SWITCH = true)) := by
  and_intros <;> decide +kernel

/-- The hypotheses of `ScrubberCorrectsToTheVote` can be met. -/
theorem witness_ScrubberCorrectsToTheVote :
    ((isTv (R.AXT_W0 0) = true)) ∧
    ((scrubBad.f R.GLB_CFG_SCRUB_EN = 1) ∧ (scrubBad.host.scrubAt ≤ scrubBad.clk) ∧ (scrubBad.f R.GLB_SCRUB_POS < 162) ∧ (scrubBad.copiesAgree (tvAddr (scrubBad.f R.GLB_SCRUB_POS)) = false) ∧ (scrubBad.f R.GLB_VOTE_LAST_VALID = 0)) ∧
    ((scrubDue.f R.GLB_CFG_SCRUB_EN = 1) ∧ (scrubDue.host.scrubAt ≤ scrubDue.clk) ∧ (scrubDue.f R.GLB_SCRUB_POS < 162) ∧ (scrubDue.copiesAgree (tvAddr (scrubDue.f R.GLB_SCRUB_POS)) = true)) ∧
    (((scrubBad.setF R.GLB_VOTE_LAST_VALID 1).f R.GLB_CFG_SCRUB_EN = 1) ∧ ((scrubBad.setF R.GLB_VOTE_LAST_VALID 1).host.scrubAt ≤ (scrubBad.setF R.GLB_VOTE_LAST_VALID 1).clk) ∧ ((scrubBad.setF R.GLB_VOTE_LAST_VALID 1).f R.GLB_SCRUB_POS < 162) ∧ ((scrubBad.setF R.GLB_VOTE_LAST_VALID 1).copiesAgree (tvAddr ((scrubBad.setF R.GLB_VOTE_LAST_VALID 1).f R.GLB_SCRUB_POS)) = false) ∧ ((scrubBad.setF R.GLB_VOTE_LAST_VALID 1).f R.GLB_VOTE_LAST_VALID = 1)) := by
  and_intros <;> decide +kernel

/-- The hypotheses of `MailboxReadItemsSample` can be met. -/
theorem witness_MailboxReadItemsSample :
    ((HostOpen ready)) := by
  decide +kernel

/-- The hypotheses of `NtSetLoadsOrIsRefused` can be met. -/
theorem witness_NtSetLoadsOrIsRefused :
    ((HostOpen (mbxNs 999999999)) ∧ ((mbxNs 999999999).f R.ZLP_SSTAT_STATE = 0) ∧ (BitVec.toNat ((mbxNs 999999999).reg (R.GLB_MBX_D 0)) < 1000000000)) ∧
    ((HostOpen (mbxNs 1000000000)) ∧ ((mbxNs 1000000000).f R.ZLP_SSTAT_STATE ≠ 0 ∨ 1000000000 ≤ BitVec.toNat ((mbxNs 1000000000).reg (R.GLB_MBX_D 0)))) ∧
    ((HostOpen ((mbxNs 0).setF R.ZLP_SSTAT_STATE 1)) ∧ (((mbxNs 0).setF R.ZLP_SSTAT_STATE 1).f R.ZLP_SSTAT_STATE ≠ 0 ∨ 1000000000 ≤ BitVec.toNat (((mbxNs 0).setF R.ZLP_SSTAT_STATE 1).reg (R.GLB_MBX_D 0)))) := by
  and_intros <;> decide +kernel

/-- The hypotheses of `MailboxProtocol` can be met. -/
theorem witness_MailboxProtocol :
    ((HostOpen (mbxNs 5))) ∧
    ((HostOpen ready)) ∧
    ((HostOpen ready) ∧ (BitVec.toNat (17 : Byte) ∉ if false = true then [17, 34, 35, 36] else [16, 32, 33, 35, 36, 48, 64, 65, 66, 67])) ∧
    ((HostOpen ready) ∧ (BitVec.toNat (16 : Byte) ∉ if true = true then [17, 34, 35, 36] else [16, 32, 33, 35, 36, 48, 64, 65, 66, 67])) ∧
    (((mbxWait true).host.mbx.readyAt = some 4) ∧ (4 ≤ (mbxWait true).clk)) ∧
    (((mbxWait false).host.mbx.readyAt = some 4) ∧ (4 ≤ (mbxWait false).clk)) ∧
    (((mbxValid false false 4).sysLost = false) ∧ ((mbxValid false false 4).f R.GLB_MBX_STAT_VALID = 1) ∧ ((mbxValid false false 4).host.mbx.isWrite = false) ∧ ((mbxValid false false 4).host.mbx.failed = false) ∧ (3 + 1 = (mbxValid false false 4).host.mbx.words)) ∧
    (((mbxValid true false 0).sysLost = false) ∧ ((mbxValid true false 0).f R.GLB_MBX_STAT_VALID = 1) ∧ ((mbxValid true false 0).host.mbx.isWrite = true ∨ (mbxValid true false 0).host.mbx.failed = true)) ∧
    (((mbxValid false true 0).sysLost = false) ∧ ((mbxValid false true 0).f R.GLB_MBX_STAT_VALID = 1) ∧ ((mbxValid false true 0).host.mbx.isWrite = true ∨ (mbxValid false true 0).host.mbx.failed = true)) := by
  and_intros <;> decide +kernel

/-- The hypotheses of `SyncInstantsAndIncrements` can be met. -/
theorem witness_SyncInstantsAndIncrements :
    (((readyAt 50000).sysLost = false) ∧ ((readyAt 50000).cyc.half = 0) ∧ ((readyAt 50000).pExp ≤ (readyAt 50000).clk - (readyAt 50000).cyc.t0)) ∧
    ((HostOpen (ready.putReg R.CHN_INC_LO (1072668082 : Word))) ∧ (5367635378 ≤ BitVec.toNat ((ready.putReg R.CHN_INC_LO (1072668082 : Word)).reg R.CHN_INC_LO) + BitVec.toNat (1 : Word) % 256 * 2 ^ 32) ∧ (BitVec.toNat ((ready.putReg R.CHN_INC_LO (1072668082 : Word)).reg R.CHN_INC_LO) + BitVec.toNat (1 : Word) % 256 * 2 ^ 32 ≤ 5369782862)) ∧
    ((HostOpen (ready.putReg R.CHN_INC_LO (1072668082 : Word)))) ∧
    ((HostOpen (ready.putReg R.CHN_INC_LO (1074815566 : Word))) ∧ (5367635378 ≤ BitVec.toNat ((ready.putReg R.CHN_INC_LO (1074815566 : Word)).reg R.CHN_INC_LO) + BitVec.toNat (1 : Word) % 256 * 2 ^ 32) ∧ (BitVec.toNat ((ready.putReg R.CHN_INC_LO (1074815566 : Word)).reg R.CHN_INC_LO) + BitVec.toNat (1 : Word) % 256 * 2 ^ 32 ≤ 5369782862)) ∧
    ((HostOpen (ready.putReg R.CHN_INC_LO (1074815566 : Word)))) ∧
    ((HostOpen (ready.putReg R.CHN_INC_LO (1072668081 : Word))) ∧ (BitVec.toNat ((ready.putReg R.CHN_INC_LO (1072668081 : Word)).reg R.CHN_INC_LO) + BitVec.toNat (1 : Word) % 256 * 2 ^ 32 < 5367635378)) ∧
    ((HostOpen (ready.putReg R.CHN_INC_LO (1072668081 : Word)))) ∧
    ((HostOpen (ready.putReg R.CHN_INC_LO (1074815567 : Word))) ∧ (5369782862 < BitVec.toNat ((ready.putReg R.CHN_INC_LO (1074815567 : Word)).reg R.CHN_INC_LO) + BitVec.toNat (1 : Word) % 256 * 2 ^ 32)) ∧
    ((HostOpen (ready.putReg R.CHN_INC_LO (1074815567 : Word)))) ∧
    ((bcDue.sysLost = false) ∧ (bcIndexOf bcDue.cyc.rate bcDue.ntSync ≠ bcDue.cyc.mark)) ∧
    (((bcDueV none).sysLost = false) ∧ (bcIndexOf (bcDueV none).cyc.rate (bcDueV none).ntSync ≠ (bcDueV none).cyc.mark) ∧ ((bcDueV none).chn.plan = some ((5 : BitVec 64), none))) ∧
    (((bcDueV (some (9 : BitVec 96))).sysLost = false) ∧ (bcIndexOf (bcDueV (some (9 : BitVec 96))).cyc.rate (bcDueV (some (9 : BitVec 96))).ntSync ≠ (bcDueV (some (9 : BitVec 96))).cyc.mark) ∧ ((bcDueV (some (9 : BitVec 96))).chn.plan = some ((5 : BitVec 64), some (9 : BitVec 96)))) := by
  and_intros <;> decide +kernel

/-- The hypotheses of `PlanFixesTheNextSegment` can be met. -/
theorem witness_PlanFixesTheNextSegment :
    (((planDue 1 1 (10 : BitVec 64) (100 : BitVec 64)).sysLost = false) ∧ ((planDue 1 1 (10 : BitVec 64) (100 : BitVec 64)).chn.plan = none) ∧ ((planDue 1 1 (10 : BitVec 64) (100 : BitVec 64)).planAt ≤ (planDue 1 1 (10 : BitVec 64) (100 : BitVec 64)).clk) ∧ ((planDue 1 1 (10 : BitVec 64) (100 : BitVec 64)).follows = false) ∧ ((planDue 1 1 (10 : BitVec 64) (100 : BitVec 64)).twn.relSwitch = false) ∧ ((planDue 1 1 (10 : BitVec 64) (100 : BitVec 64)).chn.preset = none) ∧ ((planDue 1 1 (10 : BitVec 64) (100 : BitVec 64)).f R.CHN_SRC_ARM = 0) ∧ ((planDue 1 1 (10 : BitVec 64) (100 : BitVec 64)).f R.CHN_SRC_CUR ≠ 0) ∧ ((planDue 1 1 (10 : BitVec 64) (100 : BitVec 64)).chnPresent ((planDue 1 1 (10 : BitVec 64) (100 : BitVec 64)).f R.CHN_SRC_CUR) = false) ∧ ((planDue 1 1 (10 : BitVec 64) (100 : BitVec 64)).f R.CHN_CFG_RUN = 1)) ∧
    (((planDue 0 0 (10 : BitVec 64) (100 : BitVec 64)).sysLost = false) ∧ ((planDue 0 0 (10 : BitVec 64) (100 : BitVec 64)).chn.plan = none) ∧ ((planDue 0 0 (10 : BitVec 64) (100 : BitVec 64)).planAt ≤ (planDue 0 0 (10 : BitVec 64) (100 : BitVec 64)).clk) ∧ ((planDue 0 0 (10 : BitVec 64) (100 : BitVec 64)).follows = false) ∧ ((planDue 0 0 (10 : BitVec 64) (100 : BitVec 64)).twn.relSwitch = false) ∧ ((planDue 0 0 (10 : BitVec 64) (100 : BitVec 64)).chn.preset = none) ∧ ((planDue 0 0 (10 : BitVec 64) (100 : BitVec 64)).f R.CHN_SRC_ARM = 0) ∧ ((planDue 0 0 (10 : BitVec 64) (100 : BitVec 64)).f R.CHN_SRC_CUR = 0) ∧ ((planDue 0 0 (10 : BitVec 64) (100 : BitVec 64)).f R.CHN_CFG_RUN = 0)) ∧
    ((HostOpen ready) ∧ (BitVec.toNat (7 : Word) / 16 % 8 ≤ 3)) ∧
    (((planDue 1 0 (10 : BitVec 64) (100 : BitVec 64)).sysLost = false) ∧ ((planDue 1 0 (10 : BitVec 64) (100 : BitVec 64)).chn.plan = none) ∧ ((planDue 1 0 (10 : BitVec 64) (100 : BitVec 64)).planAt ≤ (planDue 1 0 (10 : BitVec 64) (100 : BitVec 64)).clk) ∧ ((planDue 1 0 (10 : BitVec 64) (100 : BitVec 64)).follows = false) ∧ ((planDue 1 0 (10 : BitVec 64) (100 : BitVec 64)).twn.relSwitch = false) ∧ ((planDue 1 0 (10 : BitVec 64) (100 : BitVec 64)).chn.preset = none) ∧ ((planDue 1 0 (10 : BitVec 64) (100 : BitVec 64)).f R.CHN_SRC_ARM = 0) ∧ ((planDue 1 0 (10 : BitVec 64) (100 : BitVec 64)).f R.CHN_SRC_CUR = 0) ∧ ((planDue 1 0 (10 : BitVec 64) (100 : BitVec 64)).f R.CHN_CFG_RUN = 1)) ∧
    (((planDue 1 0 (10 : BitVec 64) (8 : BitVec 64)).sysLost = false) ∧ ((planDue 1 0 (10 : BitVec 64) (8 : BitVec 64)).chn.plan = none) ∧ ((planDue 1 0 (10 : BitVec 64) (8 : BitVec 64)).planAt ≤ (planDue 1 0 (10 : BitVec 64) (8 : BitVec 64)).clk) ∧ ((planDue 1 0 (10 : BitVec 64) (8 : BitVec 64)).follows = false) ∧ ((planDue 1 0 (10 : BitVec 64) (8 : BitVec 64)).twn.relSwitch = false) ∧ ((planDue 1 0 (10 : BitVec 64) (8 : BitVec 64)).chn.preset = none) ∧ ((planDue 1 0 (10 : BitVec 64) (8 : BitVec 64)).f R.CHN_SRC_ARM = 0) ∧ ((planDue 1 0 (10 : BitVec 64) (8 : BitVec 64)).f R.CHN_SRC_CUR = 0) ∧ ((planDue 1 0 (10 : BitVec 64) (8 : BitVec 64)).f R.CHN_CFG_RUN = 1)) ∧
    (((planDue 1 0 (10 : BitVec 64) (12 : BitVec 64)).sysLost = false) ∧ ((planDue 1 0 (10 : BitVec 64) (12 : BitVec 64)).chn.plan = none) ∧ ((planDue 1 0 (10 : BitVec 64) (12 : BitVec 64)).planAt ≤ (planDue 1 0 (10 : BitVec 64) (12 : BitVec 64)).clk) ∧ ((planDue 1 0 (10 : BitVec 64) (12 : BitVec 64)).follows = false) ∧ ((planDue 1 0 (10 : BitVec 64) (12 : BitVec 64)).twn.relSwitch = false) ∧ ((planDue 1 0 (10 : BitVec 64) (12 : BitVec 64)).chn.preset = none) ∧ ((planDue 1 0 (10 : BitVec 64) (12 : BitVec 64)).f R.CHN_SRC_ARM = 0) ∧ ((planDue 1 0 (10 : BitVec 64) (12 : BitVec 64)).f R.CHN_SRC_CUR = 0) ∧ ((planDue 1 0 (10 : BitVec 64) (12 : BitVec 64)).f R.CHN_CFG_RUN = 1)) := by
  and_intros <;> decide +kernel

/-- The hypotheses of `EstEntriesAreCommittedAndSwept` can be met. -/
theorem witness_EstEntriesAreCommittedAndSwept :
    ((HostOpen (estStaged (3254779903 : Word))) ∧ (estCommitOk ((estStaged (3254779903 : Word)).reg (R.EST_W 2)) (31 : Word) = true) ∧ ((estStaged (3254779903 : Word)).est.swept = false ∨ (estStaged (3254779903 : Word)).estReadBySweep ((estStaged (3254779903 : Word)).f R.EST_IDX_IDX) = true)) ∧
    ((HostOpen (estStaged (3254779903 : Word)))) ∧
    ((HostOpen (estStaged (3254779903 : Word))) ∧ (estCommitOk ((estStaged (3254779903 : Word)).reg (R.EST_W 2)) (32 : Word) = false)) ∧
    (((5, 90000) ∈ estCmp.est.cmp) ∧ (90000 ≤ estCmp.clk) ∧ (estCmp.f R.EST_CFG_EN = 1) ∧ (estCmp.est.cur.length < 512) ∧ (w2En (estCmp.estWord 5 2) = true) ∧ (w2Act (estCmp.estWord 5 2) ≠ 4) ∧ (estCrossing (estCmp.estWord 5 0) (estCmp.estWord 5 1) (estCmp.estWord 5 2) (Segment.mk estCmp.chnLive estCmp.chn.seg.v) (estCmp.clkToT0 1) = some 1)) ∧
    ((HostOpen ready)) ∧
    ((HostOpen estLate) ∧ (estCommitOk (estLate.reg (R.EST_W 2)) (31 : Word) = true) ∧ (estLate.est.swept = true) ∧ (estLate.estReadBySweep (estLate.f R.EST_IDX_IDX) = false) ∧ (estLate.f R.EST_CFG_EN = 1) ∧ (estLate.est.next.length < 512)) ∧
    ((sweepDue.est.sweepAt = some 90000) ∧ (90000 ≤ sweepDue.clk) ∧ (sweepDue.est.swept = false) ∧ (sweepDue.f R.EST_CFG_EN = 1) ∧ (sweepDue.estListed.length ≤ 512) ∧ (slotHas sweepDue.est.cur 5 = false ∨ w2Rep (sweepDue.estWord 5 2) = true) ∧ ((sweepDue.estSlotNext 5).1 = some (FireSlot.mk 5 256 false none))) := by
  and_intros <;> decide +kernel

/-- The hypotheses of `FiringActsOnItsObject` can be met. -/
theorem witness_FiringActsOnItsObject :
    (((firing true (3221225472 : Word) (31 : Word)).f R.EST_CFG_EN = 1) ∧ (List.find? (fun y => y.idx == 5 && decide (y.n ≤ (firing true (3221225472 : Word) (31 : Word)).sinceT0)) (firing true (3221225472 : Word) (31 : Word)).est.cur = some (FireSlot.mk 5 90000 true none)) ∧ ((FireSlot.mk 5 90000 true none).late = true) ∧ ((firing true (3221225472 : Word) (31 : Word)).f R.EST_STAT_LATE = 0)) ∧
    (((firing false (3523215360 : Word) (0 : Word)).f R.EST_CFG_EN = 1) ∧ (List.find? (fun y => y.idx == 5 && decide (y.n ≤ (firing false (3523215360 : Word) (0 : Word)).sinceT0)) (firing false (3523215360 : Word) (0 : Word)).est.cur = some (FireSlot.mk 5 90000 false none)) ∧ ((FireSlot.mk 5 90000 false none).late = false)) ∧
    (((firing false (3238002688 : Word) (0 : Word)).f R.EST_CFG_EN = 1) ∧ (List.find? (fun y => y.idx == 5 && decide (y.n ≤ (firing false (3238002688 : Word) (0 : Word)).sinceT0)) (firing false (3238002688 : Word) (0 : Word)).est.cur = some (FireSlot.mk 5 90000 false none)) ∧ ((FireSlot.mk 5 90000 false none).late = false)) ∧
    (((firing false (3271557128 : Word) (0 : Word)).f R.EST_CFG_EN = 1) ∧ (List.find? (fun y => y.idx == 5 && decide (y.n ≤ (firing false (3271557128 : Word) (0 : Word)).sinceT0)) (firing false (3271557128 : Word) (0 : Word)).est.cur = some (FireSlot.mk 5 90000 false none)) ∧ ((FireSlot.mk 5 90000 false none).late = false)) ∧
    (((firing false (3288334336 : Word) (459525 : Word)).f R.EST_CFG_EN = 1) ∧ (List.find? (fun y => y.idx == 5 && decide (y.n ≤ (firing false (3288334336 : Word) (459525 : Word)).sinceT0)) (firing false (3288334336 : Word) (459525 : Word)).est.cur = some (FireSlot.mk 5 90000 false none)) ∧ ((FireSlot.mk 5 90000 false none).late = false)) ∧
    (((firing false (3305111552 : Word) (15 : Word)).f R.EST_CFG_EN = 1) ∧ (List.find? (fun y => y.idx == 5 && decide (y.n ≤ (firing false (3305111552 : Word) (15 : Word)).sinceT0)) (firing false (3305111552 : Word) (15 : Word)).est.cur = some (FireSlot.mk 5 90000 false none)) ∧ ((FireSlot.mk 5 90000 false none).late = false)) ∧
    (((firing false (3305111552 : Word) (15 : Word)).f R.EST_CFG_EN = 1) ∧ (List.find? (fun y => y.idx == 5 && decide (y.n ≤ (firing false (3305111552 : Word) (15 : Word)).sinceT0)) (firing false (3305111552 : Word) (15 : Word)).est.cur = some (FireSlot.mk 5 90000 false none)) ∧ (BitVec.toNat ((firing false (3305111552 : Word) (15 : Word)).estWord 5 3) % 256 = 15) ∧ (15 < 16) ∧ (w2Act ((firing false (3305111552 : Word) (15 : Word)).estWord 5 2) = 5 ∨ w2Act ((firing false (3305111552 : Word) (15 : Word)).estWord 5 2) = 6)) ∧
    (((firing false (3321888768 : Word) (15 : Word)).f R.EST_CFG_EN = 1) ∧ (List.find? (fun y => y.idx == 5 && decide (y.n ≤ (firing false (3321888768 : Word) (15 : Word)).sinceT0)) (firing false (3321888768 : Word) (15 : Word)).est.cur = some (FireSlot.mk 5 90000 false none)) ∧ ((FireSlot.mk 5 90000 false none).late = false)) ∧
    (((firing false (3321888768 : Word) (15 : Word)).f R.EST_CFG_EN = 1) ∧ (List.find? (fun y => y.idx == 5 && decide (y.n ≤ (firing false (3321888768 : Word) (15 : Word)).sinceT0)) (firing false (3321888768 : Word) (15 : Word)).est.cur = some (FireSlot.mk 5 90000 false none)) ∧ (BitVec.toNat ((firing false (3321888768 : Word) (15 : Word)).estWord 5 3) % 256 = 15) ∧ (15 < 16) ∧ (w2Act ((firing false (3321888768 : Word) (15 : Word)).estWord 5 2) = 5 ∨ w2Act ((firing false (3321888768 : Word) (15 : Word)).estWord 5 2) = 6)) ∧
    ((tabGet (fun _ => none) pulse.est.timers 31 = some 9) ∧ (9 ≤ pulse.clk)) ∧
    ((HostOpen ready)) ∧
    (((firing true (3221225472 : Word) (31 : Word)).f R.EST_CFG_EN = 1) ∧ (List.find? (fun y => y.idx == 5 && decide (y.n ≤ (firing true (3221225472 : Word) (31 : Word)).sinceT0)) (firing true (3221225472 : Word) (31 : Word)).est.cur = some (FireSlot.mk 5 90000 true none)) ∧ (BitVec.toNat ((firing true (3221225472 : Word) (31 : Word)).estWord 5 3) % 256 = 31) ∧ (31 < 32) ∧ (w2Act ((firing true (3221225472 : Word) (31 : Word)).estWord 5 2) ≤ 3)) ∧
    (((firing false (3523215360 : Word) (0 : Word)).f R.EST_CFG_EN = 1) ∧ (List.find? (fun y => y.idx == 5 && decide (y.n ≤ (firing false (3523215360 : Word) (0 : Word)).sinceT0)) (firing false (3523215360 : Word) (0 : Word)).est.cur = some (FireSlot.mk 5 90000 false none)) ∧ (BitVec.toNat ((firing false (3523215360 : Word) (0 : Word)).estWord 5 3) % 256 = 0) ∧ (0 < 32) ∧ (w2Act ((firing false (3523215360 : Word) (0 : Word)).estWord 5 2) ≤ 3)) ∧
    (((firing false (3238002688 : Word) (0 : Word)).f R.EST_CFG_EN = 1) ∧ (List.find? (fun y => y.idx == 5 && decide (y.n ≤ (firing false (3238002688 : Word) (0 : Word)).sinceT0)) (firing false (3238002688 : Word) (0 : Word)).est.cur = some (FireSlot.mk 5 90000 false none)) ∧ (BitVec.toNat ((firing false (3238002688 : Word) (0 : Word)).estWord 5 3) % 256 = 0) ∧ (0 < 32) ∧ (w2Act ((firing false (3238002688 : Word) (0 : Word)).estWord 5 2) ≤ 3)) ∧
    (((firing false (3254779904 : Word) (0 : Word)).f R.EST_CFG_EN = 1) ∧ (List.find? (fun y => y.idx == 5 && decide (y.n ≤ (firing false (3254779904 : Word) (0 : Word)).sinceT0)) (firing false (3254779904 : Word) (0 : Word)).est.cur = some (FireSlot.mk 5 90000 false none)) ∧ (BitVec.toNat ((firing false (3254779904 : Word) (0 : Word)).estWord 5 3) % 256 = 0) ∧ (0 < 32) ∧ (w2Act ((firing false (3254779904 : Word) (0 : Word)).estWord 5 2) ≤ 3)) ∧
    (((firing false (3271557128 : Word) (0 : Word)).f R.EST_CFG_EN = 1) ∧ (List.find? (fun y => y.idx == 5 && decide (y.n ≤ (firing false (3271557128 : Word) (0 : Word)).sinceT0)) (firing false (3271557128 : Word) (0 : Word)).est.cur = some (FireSlot.mk 5 90000 false none)) ∧ (BitVec.toNat ((firing false (3271557128 : Word) (0 : Word)).estWord 5 3) % 256 = 0) ∧ (0 < 32) ∧ (w2Act ((firing false (3271557128 : Word) (0 : Word)).estWord 5 2) ≤ 3)) ∧
    (((firingRing (459525 : Word) 1).f R.EST_CFG_EN = 1) ∧ (List.find? (fun y => y.idx == 5 && decide (y.n ≤ (firingRing (459525 : Word) 1).sinceT0)) (firingRing (459525 : Word) 1).est.cur = some (FireSlot.mk 5 90000 false (some (NetTime.mk (1 : BitVec 48) (2 : Word) (3 : Word))))) ∧ (w2Act ((firingRing (459525 : Word) 1).estWord 5 2) = 4) ∧ ((FireSlot.mk 5 90000 false (some (NetTime.mk (1 : BitVec 48) (2 : Word) (3 : Word)))).ringT = some (NetTime.mk (1 : BitVec 48) (2 : Word) (3 : Word)))) ∧
    (((firingRing (459525 : Word) 0).f R.EST_CFG_EN = 1) ∧ (List.find? (fun y => y.idx == 5 && decide (y.n ≤ (firingRing (459525 : Word) 0).sinceT0)) (firingRing (459525 : Word) 0).est.cur = some (FireSlot.mk 5 90000 false (some (NetTime.mk (1 : BitVec 48) (2 : Word) (3 : Word))))) ∧ (w2Act ((firingRing (459525 : Word) 0).estWord 5 2) = 4) ∧ ((FireSlot.mk 5 90000 false (some (NetTime.mk (1 : BitVec 48) (2 : Word) (3 : Word)))).ringT = some (NetTime.mk (1 : BitVec 48) (2 : Word) (3 : Word)))) ∧
    (((firingTask true).f R.EST_CFG_EN = 1) ∧ (List.find? (fun y => y.idx == 5 && decide (y.n ≤ (firingTask true).sinceT0)) (firingTask true).est.cur = some (FireSlot.mk 5 90000 false none)) ∧ (BitVec.toNat ((firingTask true).estWord 5 3) % 256 = 63) ∧ (63 < 64) ∧ (w2Act ((firingTask true).estWord 5 2) = 7) ∧ ((firingTask true).isPending TaskKind.event 63 = true)) ∧
    (((firingTask false).f R.EST_CFG_EN = 1) ∧ (List.find? (fun y => y.idx == 5 && decide (y.n ≤ (firingTask false).sinceT0)) (firingTask false).est.cur = some (FireSlot.mk 5 90000 false none)) ∧ (BitVec.toNat ((firingTask false).estWord 5 3) % 256 = 63) ∧ (63 < 64) ∧ (w2Act ((firingTask false).estWord 5 2) = 7)) ∧
    ((((firing false (3355443200 : Word) (15 : Word)).set1 (R.TRG_CFG_EN 15)).f R.EST_CFG_EN = 1) ∧ (List.find? (fun y => y.idx == 5 && decide (y.n ≤ ((firing false (3355443200 : Word) (15 : Word)).set1 (R.TRG_CFG_EN 15)).sinceT0)) ((firing false (3355443200 : Word) (15 : Word)).set1 (R.TRG_CFG_EN 15)).est.cur = some (FireSlot.mk 5 90000 false none)) ∧ (BitVec.toNat (((firing false (3355443200 : Word) (15 : Word)).set1 (R.TRG_CFG_EN 15)).estWord 5 3) % 256 = 15) ∧ (15 < 16) ∧ (w2Act (((firing false (3355443200 : Word) (15 : Word)).set1 (R.TRG_CFG_EN 15)).estWord 5 2) = 8) ∧ (((firing false (3355443200 : Word) (15 : Word)).set1 (R.TRG_CFG_EN 15)).f (R.TRG_CFG_EN 15) = 1)) := by
  and_intros <;> decide +kernel

/-- The hypotheses of `EdgesAreQueuedOrCountedLost` can be met. -/
theorem witness_EdgesAreQueuedOrCountedLost :
    ((capOn.capStamps 15 false = false)) ∧
    ((capRec.sysLost = false) ∧ (5 ≤ capRec.f R.GLB_BOOT_STATE) ∧ (capRec.cap.fifo = [[(1 : Word), (2 : Word), (3 : Word), (4 : Word), (5 : Word), (6 : Word), (7 : Word), (8 : Word)]])) ∧
    ((capOn.capStamps 15 true = true) ∧ (capOn.capSpaced 15 0 = true) ∧ (capOn.cap.fifo.length < 256)) ∧
    ((capFull.capStamps 15 true = true) ∧ (capFull.capSpaced 15 9 = false ∨ 256 ≤ capFull.cap.fifo.length) ∧ (capFull.f R.CHN_STAT_CAP_LOSS = 0)) ∧
    ((capClose.capStamps 15 true = true) ∧ (capClose.capSpaced 15 0 = false ∨ 256 ≤ capClose.cap.fifo.length) ∧ (capClose.f R.CHN_STAT_CAP_LOSS = 0)) := by
  and_intros <;> decide +kernel

/-- The hypotheses of `BadAndForeignFrames` can be met. -/
theorem witness_BadAndForeignFrames :
    ((frameCheck (spoilt 20 (1 : Byte)).bytes = FrameCheck.fcs)) ∧
    ((frameCheck (spoilt 8 (1 : Byte)).bytes = FrameCheck.hcrc)) ∧
    ((frameCheck longFrame.bytes = FrameCheck.long)) ∧
    ((frameCheck oddFrame.bytes = FrameCheck.type)) ∧
    ((0 < 4) ∧ (frameCheck foreignSync.bytes = FrameCheck.good) ∧ ((parseHeader foreignSync.bytes).type = 1) ∧ ((parseHeader foreignSync.bytes).src / 256 = listening.zlpF R.ZLP_CFG_SPAN) ∧ ((parseHeader foreignSync.bytes).dst / 256 = listening.zlpF R.ZLP_CFG_SPAN) ∧ (listening.f R.ZLP_SSTAT_STATE = 1) ∧ ((listening.twin && listening.twn.linkUp) = false)) ∧
    ((3 < 4) ∧ (frameCheck foreignSync.bytes = FrameCheck.good) ∧ ((parseHeader foreignSync.bytes).type = 1) ∧ ((parseHeader foreignSync.bytes).src / 256 = span.zlpF R.ZLP_CFG_SPAN) ∧ ((parseHeader foreignSync.bytes).dst / 256 = span.zlpF R.ZLP_CFG_SPAN) ∧ (span.spanRuns = true) ∧ ((parseHeader foreignSync.bytes).hid ≠ span.zlpF R.ZLP_CFG_HID ∨ span.twin = false ∨ BitVec.getLsbD ((payloadOf foreignSync.bytes).getD 18 (0 : Byte)) 0 = false) ∧ (span.losesTo (parseHeader foreignSync.bytes) (payloadOf foreignSync.bytes) = true)) ∧
    ((3 < 4) ∧ (frameCheck sameSync.bytes = FrameCheck.good) ∧ ((parseHeader sameSync.bytes).type = 1) ∧ ((parseHeader sameSync.bytes).src / 256 = span.zlpF R.ZLP_CFG_SPAN) ∧ ((parseHeader sameSync.bytes).dst / 256 = span.zlpF R.ZLP_CFG_SPAN) ∧ (span.spanRuns = true) ∧ ((parseHeader sameSync.bytes).hid ≠ span.zlpF R.ZLP_CFG_HID ∨ span.twin = false ∨ BitVec.getLsbD ((payloadOf sameSync.bytes).getD 18 (0 : Byte)) 0 = false) ∧ (span.losesTo (parseHeader sameSync.bytes) (payloadOf sameSync.bytes) = true)) := by
  and_intros <;> decide +kernel

/-- The hypotheses of `FeedbackSlotsBecomeValid` can be met. -/
theorem witness_FeedbackSlotsBecomeValid :
    ((GoodFrame (spanWin 2 1 40) (0 : Fin 6) (rxFrame (hdrTo 3 513 0 44) [(1 : Byte), (2 : Byte), (3 : Byte), (4 : Byte)]) 3) ∧ ((frameWindow (spanWin 2 1 40) (rxFrame (hdrTo 3 513 0 44) [(1 : Byte), (2 : Byte), (3 : Byte), (4 : Byte)])).cls = 2) ∧ ((frameWindow (spanWin 2 1 40) (rxFrame (hdrTo 3 513 0 44) [(1 : Byte), (2 : Byte), (3 : Byte), (4 : Byte)])).dir = 1) ∧ (isX1 0 = true → (spanWin 2 1 40).twin = true) ∧ ((spanWin 2 1 40).headInterval 0 (parseHeader (rxFrame (hdrTo 3 513 0 44) [(1 : Byte), (2 : Byte), (3 : Byte), (4 : Byte)]).bytes) (rxFrame (hdrTo 3 513 0 44) [(1 : Byte), (2 : Byte), (3 : Byte), (4 : Byte)]) = true) ∧ ((spanWin 2 1 40).frameBc (parseHeader (rxFrame (hdrTo 3 513 0 44) [(1 : Byte), (2 : Byte), (3 : Byte), (4 : Byte)]).bytes) = (spanWin 2 1 40).cyc.bcIdx) ∧ ((frameWindow (spanWin 2 1 40) (rxFrame (hdrTo 3 513 0 44) [(1 : Byte), (2 : Byte), (3 : Byte), (4 : Byte)])).count = 1) ∧ ((frameWindow (spanWin 2 1 40) (rxFrame (hdrTo 3 513 0 44) [(1 : Byte), (2 : Byte), (3 : Byte), (4 : Byte)])).src = 0) ∧ ((spanWin 2 1 40).recordFilled (recordSlot (frameWindow (spanWin 2 1 40) (rxFrame (hdrTo 3 513 0 44) [(1 : Byte), (2 : Byte), (3 : Byte), (4 : Byte)])) 0 (hdrHalf (parseHeader (rxFrame (hdrTo 3 513 0 44) [(1 : Byte), (2 : Byte), (3 : Byte), (4 : Byte)]).bytes))) (sliceOf (payloadOf (rxFrame (hdrTo 3 513 0 44) [(1 : Byte), (2 : Byte), (3 : Byte), (4 : Byte)]).bytes) 0 (frameWindow (spanWin 2 1 40) (rxFrame (hdrTo 3 513 0 44) [(1 : Byte), (2 : Byte), (3 : Byte), (4 : Byte)])).rsize) = true)) ∧
    ((GoodFrame ownedWin (0 : Fin 6) (rxFrame (hdrTo 9 513 0 44) [(1 : Byte), (2 : Byte), (3 : Byte), (4 : Byte)]) 9) ∧ ((frameWindow ownedWin (rxFrame (hdrTo 9 513 0 44) [(1 : Byte), (2 : Byte), (3 : Byte), (4 : Byte)])).cls = 2) ∧ ((frameWindow ownedWin (rxFrame (hdrTo 9 513 0 44) [(1 : Byte), (2 : Byte), (3 : Byte), (4 : Byte)])).dir = 1) ∧ ((frameWindow ownedWin (rxFrame (hdrTo 9 513 0 44) [(1 : Byte), (2 : Byte), (3 : Byte), (4 : Byte)])).owner = (parseHeader (rxFrame (hdrTo 9 513 0 44) [(1 : Byte), (2 : Byte), (3 : Byte), (4 : Byte)]).bytes).src) ∧ (ownedWin.keyUsed (parseHeader (rxFrame (hdrTo 9 513 0 44) [(1 : Byte), (2 : Byte), (3 : Byte), (4 : Byte)]).bytes) = false) ∧ (isX1 0 = false) ∧ (ownedWin.ownedInterval 0 (parseHeader (rxFrame (hdrTo 9 513 0 44) [(1 : Byte), (2 : Byte), (3 : Byte), (4 : Byte)]).bytes) (rxFrame (hdrTo 9 513 0 44) [(1 : Byte), (2 : Byte), (3 : Byte), (4 : Byte)]) = true) ∧ ((frameWindow ownedWin (rxFrame (hdrTo 9 513 0 44) [(1 : Byte), (2 : Byte), (3 : Byte), (4 : Byte)])).count = 1)) ∧
    ((GoodFrame xsWin (0 : Fin 6) (rxFrame (hdrTo 4 513 0 44) [(1 : Byte), (2 : Byte), (3 : Byte), (4 : Byte)]) 4) ∧ ((frameWindow xsWin (rxFrame (hdrTo 4 513 0 44) [(1 : Byte), (2 : Byte), (3 : Byte), (4 : Byte)])).cls = 4) ∧ (isX1 0 = true → xsWin.twin = true) ∧ (xsWin.headInterval 0 (parseHeader (rxFrame (hdrTo 4 513 0 44) [(1 : Byte), (2 : Byte), (3 : Byte), (4 : Byte)]).bytes) (rxFrame (hdrTo 4 513 0 44) [(1 : Byte), (2 : Byte), (3 : Byte), (4 : Byte)]) = true) ∧ (xsWin.frameBc (parseHeader (rxFrame (hdrTo 4 513 0 44) [(1 : Byte), (2 : Byte), (3 : Byte), (4 : Byte)]).bytes) = xsWin.cyc.bcIdx) ∧ (hdrHalf (parseHeader (rxFrame (hdrTo 4 513 0 44) [(1 : Byte), (2 : Byte), (3 : Byte), (4 : Byte)]).bytes) = xsWin.cyc.half) ∧ (xsWin.cyc.half * xsWin.pExp + xsWin.dsp.open_ < xsWin.sinceT0 + 6) ∧ ((frameWindow xsWin (rxFrame (hdrTo 4 513 0 44) [(1 : Byte), (2 : Byte), (3 : Byte), (4 : Byte)])).count = 1) ∧ ((frameWindow xsWin (rxFrame (hdrTo 4 513 0 44) [(1 : Byte), (2 : Byte), (3 : Byte), (4 : Byte)])).src = 0) ∧ (xsWin.recordFilled (recordSlot (frameWindow xsWin (rxFrame (hdrTo 4 513 0 44) [(1 : Byte), (2 : Byte), (3 : Byte), (4 : Byte)])) 0 xsWin.cyc.half) (sliceOf (payloadOf (rxFrame (hdrTo 4 513 0 44) [(1 : Byte), (2 : Byte), (3 : Byte), (4 : Byte)]).bytes) 0 (frameWindow xsWin (rxFrame (hdrTo 4 513 0 44) [(1 : Byte), (2 : Byte), (3 : Byte), (4 : Byte)])).rsize) = true) ∧ (BitVec.getLsbD (xsWin.deckWord (fbAddr (recordSlot (frameWindow xsWin (rxFrame (hdrTo 4 513 0 44) [(1 : Byte), (2 : Byte), (3 : Byte), (4 : Byte)])) 0 xsWin.cyc.half))) 31 = false) ∧ (xsWin.slotOwner true (recordSlot (frameWindow xsWin (rxFrame (hdrTo 4 513 0 44) [(1 : Byte), (2 : Byte), (3 : Byte), (4 : Byte)])) 0 xsWin.cyc.half) = some 159) ∧ (xsWin.axisOn 159 = true) ∧ (xsWin.axisClass 159 = 1) ∧ (2 ≤ xsWin.axisState 159)) ∧
    ((GoodFrame ownedBuf (0 : Fin 6) (rxFrame (hdrTo 9 513 0 44) [(1 : Byte), (2 : Byte), (3 : Byte), (4 : Byte)]) 9) ∧ ((frameWindow ownedBuf (rxFrame (hdrTo 9 513 0 44) [(1 : Byte), (2 : Byte), (3 : Byte), (4 : Byte)])).cls = 2) ∧ ((frameWindow ownedBuf (rxFrame (hdrTo 9 513 0 44) [(1 : Byte), (2 : Byte), (3 : Byte), (4 : Byte)])).dir = 1) ∧ ((frameWindow ownedBuf (rxFrame (hdrTo 9 513 0 44) [(1 : Byte), (2 : Byte), (3 : Byte), (4 : Byte)])).owner = (parseHeader (rxFrame (hdrTo 9 513 0 44) [(1 : Byte), (2 : Byte), (3 : Byte), (4 : Byte)]).bytes).src) ∧ (ownedBuf.keyUsed (parseHeader (rxFrame (hdrTo 9 513 0 44) [(1 : Byte), (2 : Byte), (3 : Byte), (4 : Byte)]).bytes) = false) ∧ (isX1 0 = false) ∧ (ownedBuf.ownedInterval 0 (parseHeader (rxFrame (hdrTo 9 513 0 44) [(1 : Byte), (2 : Byte), (3 : Byte), (4 : Byte)]).bytes) (rxFrame (hdrTo 9 513 0 44) [(1 : Byte), (2 : Byte), (3 : Byte), (4 : Byte)]) = true) ∧ ((frameWindow ownedBuf (rxFrame (hdrTo 9 513 0 44) [(1 : Byte), (2 : Byte), (3 : Byte), (4 : Byte)])).count = 1) ∧ ((frameWindow ownedBuf (rxFrame (hdrTo 9 513 0 44) [(1 : Byte), (2 : Byte), (3 : Byte), (4 : Byte)])).src = 1) ∧ ((frameWindow ownedBuf (rxFrame (hdrTo 9 513 0 44) [(1 : Byte), (2 : Byte), (3 : Byte), (4 : Byte)])).rsize = 4) ∧ (4 ≤ (payloadOf (rxFrame (hdrTo 9 513 0 44) [(1 : Byte), (2 : Byte), (3 : Byte), (4 : Byte)]).bytes).length)) := by
  and_intros <;> decide +kernel

/-- The hypotheses of `OtherUpstreamFramesAreTaken` can be met. -/
theorem witness_OtherUpstreamFramesAreTaken :
    ((GoodFrame (spanWin 1 1 40) (0 : Fin 6) (rxFrame (hdrTo 8 513 5 44) [(1 : Byte), (2 : Byte), (3 : Byte), (4 : Byte)]) 8) ∧ (isX1 0 = true → (spanWin 1 1 40).twin = true) ∧ ((spanWin 1 1 40).headInterval 0 (parseHeader (rxFrame (hdrTo 8 513 5 44) [(1 : Byte), (2 : Byte), (3 : Byte), (4 : Byte)]).bytes) (rxFrame (hdrTo 8 513 5 44) [(1 : Byte), (2 : Byte), (3 : Byte), (4 : Byte)]) = true) ∧ ((spanWin 1 1 40).keyUsed (parseHeader (rxFrame (hdrTo 8 513 5 44) [(1 : Byte), (2 : Byte), (3 : Byte), (4 : Byte)]).bytes) = false)) ∧
    ((GoodFrame (spanWin 1 1 40) (0 : Fin 6) (rxFrame (hdrTo 7 513 5 44) [(1 : Byte), (2 : Byte), (3 : Byte), (4 : Byte)]) 7) ∧ (isX1 0 = true → (spanWin 1 1 40).twin = true) ∧ (hdrClm (parseHeader (rxFrame (hdrTo 7 513 5 44) [(1 : Byte), (2 : Byte), (3 : Byte), (4 : Byte)]).bytes) = false) ∧ ((spanWin 1 1 40).headInterval 0 (parseHeader (rxFrame (hdrTo 7 513 5 44) [(1 : Byte), (2 : Byte), (3 : Byte), (4 : Byte)]).bytes) (rxFrame (hdrTo 7 513 5 44) [(1 : Byte), (2 : Byte), (3 : Byte), (4 : Byte)]) = true)) ∧
    ((GoodFrame (spanWin 6 1 16) (0 : Fin 6) (rxFrame (hdrTo 6 513 5 44) [(1 : Byte), (2 : Byte), (3 : Byte), (4 : Byte)]) 6) ∧ ((frameWindow (spanWin 6 1 16) (rxFrame (hdrTo 6 513 5 44) [(1 : Byte), (2 : Byte), (3 : Byte), (4 : Byte)])).cls = 6) ∧ ((frameWindow (spanWin 6 1 16) (rxFrame (hdrTo 6 513 5 44) [(1 : Byte), (2 : Byte), (3 : Byte), (4 : Byte)])).dir = 1) ∧ (isX1 0 = true → (spanWin 6 1 16).twin = true) ∧ ((spanWin 6 1 16).headInterval 0 (parseHeader (rxFrame (hdrTo 6 513 5 44) [(1 : Byte), (2 : Byte), (3 : Byte), (4 : Byte)]).bytes) (rxFrame (hdrTo 6 513 5 44) [(1 : Byte), (2 : Byte), (3 : Byte), (4 : Byte)]) = true) ∧ (∀ e ∈ (spanWin 6 1 16).windowsOf (hdrBcn (parseHeader (rxFrame (hdrTo 6 513 5 44) [(1 : Byte), (2 : Byte), (3 : Byte), (4 : Byte)]).bytes)), e.cls = 6 → e.dir = 1 → (frameWindow (spanWin 6 1 16) (rxFrame (hdrTo 6 513 5 44) [(1 : Byte), (2 : Byte), (3 : Byte), (4 : Byte)])).w ≤ e.w) ∧ ((frameWindow (spanWin 6 1 16) (rxFrame (hdrTo 6 513 5 44) [(1 : Byte), (2 : Byte), (3 : Byte), (4 : Byte)])).count = 1) ∧ ((spanWin 6 1 16).ring.set_[0]? = some 1)) ∧
    ((GoodFrame (spanWin 3 1 40) (0 : Fin 6) (rxFrame (hdrTo 10 513 5 44) [(3 : Byte), (2 : Byte), (0 : Byte), (1 : Byte)]) 10) ∧ (isX1 0 = false) ∧ (BitVec.toNat ((payloadOf (rxFrame (hdrTo 10 513 5 44) [(3 : Byte), (2 : Byte), (0 : Byte), (1 : Byte)]).bytes).getD 0 (0 : Byte)) = 3) ∧ ((spanWin 3 1 40).headInterval 0 (parseHeader (rxFrame (hdrTo 10 513 5 44) [(3 : Byte), (2 : Byte), (0 : Byte), (1 : Byte)]).bytes) (rxFrame (hdrTo 10 513 5 44) [(3 : Byte), (2 : Byte), (0 : Byte), (1 : Byte)]) = true) ∧ ((spanWin 3 1 40).frameBase (parseHeader (rxFrame (hdrTo 10 513 5 44) [(3 : Byte), (2 : Byte), (0 : Byte), (1 : Byte)]).bytes) = some 0) ∧ (hdrWrap (parseHeader (rxFrame (hdrTo 10 513 5 44) [(3 : Byte), (2 : Byte), (0 : Byte), (1 : Byte)]).bytes) = false)) ∧
    ((tabGet (fun _ => none) absent.ring.absentAt 1 = some 0) ∧ (0 + 64 * absent.nBc ≤ absent.clk) ∧ (2 ≠ 1)) := by
  and_intros <;> decide +kernel

/-- The hypotheses of `RingBreaksAndCloses` can be met. -/
theorem witness_RingBreaksAndCloses :
    ((missed.ringSends = true) ∧ (missed.ring.use.contains 0 = true) ∧ (missed.isWrap 0 = false) ∧ (2 ≤ tabGet (fun _ => 0) missed.ring.syncMiss 0)) ∧
    ((GoodFrame span (1 : Fin 6) sameSync 1) ∧ (isX1 1 = true) ∧ (span.frameBase (parseHeader sameSync.bytes) = some 0) ∧ ((parseHeader sameSync.bytes).hid = span.zlpF R.ZLP_CFG_HID) ∧ (hdrWrap (parseHeader sameSync.bytes) = false) ∧ (span.isWrap (ringOfPort 1) = false)) ∧
    ((GoodFrame wrapped (1 : Fin 6) sameSync 1) ∧ (isX1 1 = true) ∧ (wrapped.frameBase (parseHeader sameSync.bytes) = some 0) ∧ ((parseHeader sameSync.bytes).hid = wrapped.zlpF R.ZLP_CFG_HID) ∧ (hdrWrap (parseHeader sameSync.bytes) = false) ∧ (wrapped.isWrap (ringOfPort 1) = true) ∧ (wrapped.f (R.ZLP_LOOP_LOOP (2 * ringOfPort 1)) + 16 < sameSync.sfd - 0 ∨ sameSync.sfd - 0 + 16 < wrapped.f (R.ZLP_LOOP_LOOP (2 * ringOfPort 1)))) ∧
    ((GoodFrame (wrapped.setF (R.ZLP_LOOP_LOOP 0) 816) (1 : Fin 6) sameSync 1) ∧ (isX1 1 = true) ∧ ((wrapped.setF (R.ZLP_LOOP_LOOP 0) 816).frameBase (parseHeader sameSync.bytes) = some 0) ∧ ((parseHeader sameSync.bytes).hid = (wrapped.setF (R.ZLP_LOOP_LOOP 0) 816).zlpF R.ZLP_CFG_HID) ∧ (hdrWrap (parseHeader sameSync.bytes) = false) ∧ ((wrapped.setF (R.ZLP_LOOP_LOOP 0) 816).isWrap (ringOfPort 1) = true) ∧ (sameSync.sfd - 0 ≤ (wrapped.setF (R.ZLP_LOOP_LOOP 0) 816).f (R.ZLP_LOOP_LOOP (2 * ringOfPort 1)) + 16) ∧ ((wrapped.setF (R.ZLP_LOOP_LOOP 0) 816).f (R.ZLP_LOOP_LOOP (2 * ringOfPort 1)) ≤ sameSync.sfd - 0 + 16)) ∧
    ((GoodFrame wrapped (0 : Fin 6) wrapSync 1) ∧ (isX1 0 = false) ∧ (wrapped.frameBase (parseHeader wrapSync.bytes) = some 0) ∧ ((parseHeader wrapSync.bytes).hid = wrapped.zlpF R.ZLP_CFG_HID) ∧ (hdrWrap (parseHeader wrapSync.bytes) = true)) ∧
    ((missedB.ringSends = true) ∧ (missedB.ring.use.contains 1 = true) ∧ (missedB.isWrap 1 = false) ∧ (2 ≤ tabGet (fun _ => 0) missedB.ring.syncMiss 1)) ∧
    ((missedSeen.ringSends = true) ∧ (missedSeen.ring.use.contains 0 = true) ∧ (missedSeen.isWrap 0 = false) ∧ (2 ≤ tabGet (fun _ => 0) missedSeen.ring.syncMiss 0) ∧ (tabGet (fun _ => none) missedSeen.ring.ret0 0 = some 100) ∧ (tabGet (fun _ => none) missedSeen.ring.ret1 0 = some 50)) ∧
    ((0 < 4) ∧ (spanLinked.ringSends = true) ∧ ((if isX1 0 = true then spanLinked.hasX1 (ringOfPort 0) else spanLinked.hasX0 (ringOfPort 0)) = true) ∧ (spanLinked.ring.use.contains (ringOfPort 0) = true) ∧ (spanLinked.isWrap (ringOfPort 0) = false) ∧ (spanLinked.f (R.ZLP_P_STAT_LINK 0) = 1) ∧ (false = false)) ∧
    ((1 < 4) ∧ (spanLinked.ringSends = true) ∧ ((if isX1 1 = true then spanLinked.hasX1 (ringOfPort 1) else spanLinked.hasX0 (ringOfPort 1)) = true) ∧ (spanLinked.ring.use.contains (ringOfPort 1) = true) ∧ (spanLinked.isWrap (ringOfPort 1) = false) ∧ (spanLinked.f (R.ZLP_P_STAT_LINK 1) = 1) ∧ (false = false)) := by
  and_intros <;> decide +kernel

/-- The hypotheses of `WindowsAreSentAndModulesRead` can be met. -/
theorem witness_WindowsAreSentAndModulesRead :
    ((asmNow.spanRuns = true) ∧ (asmNow.ring.live = true) ∧ (asmNow.asmDue 3 = some 0)) ∧
    ((HostOpen ready)) ∧
    (((sfpBusy 0).f (R.ZLP_P_SFP_CTL_GO 5) = 1)) ∧
    (((sfpBusy 1).f (R.ZLP_P_SFP_CTL_GO 5) = 1)) ∧
    ((ddmDue.f (R.ZLP_P_CFG_DDM_EN 0) = 1) ∧ (tabGet (fun _ => 0) ddmDue.ring.ddmAt 0 + 80000000 ≤ ddmDue.clk)) ∧
    (((sendNow 1 0).ringSends = true) ∧ ((sendNow 1 0).bcn = 0) ∧ (((sendNow 1 0).cym 0 1).cls ≠ 0) ∧ (((sendNow 1 0).cym 0 1).cls ≠ 7) ∧ ((sendNow 1 0).headSent ((sendNow 1 0).cym 0 1) = true) ∧ ((sendNow 1 0).dueHalf ((sendNow 1 0).cym 0 1) = some 0) ∧ ((sendNow 1 0).sendHeld ((sendNow 1 0).cym 0 1) = false)) ∧
    ((((sendNow 2 0).setF (R.CYM_W1_OWNER 1) 512).ringSends = true) ∧ (((sendNow 2 0).setF (R.CYM_W1_OWNER 1) 512).bcn = 0) ∧ ((((sendNow 2 0).setF (R.CYM_W1_OWNER 1) 512).cym 0 1).cls ≠ 0) ∧ ((((sendNow 2 0).setF (R.CYM_W1_OWNER 1) 512).cym 0 1).cls ≠ 7) ∧ (((sendNow 2 0).setF (R.CYM_W1_OWNER 1) 512).headSent (((sendNow 2 0).setF (R.CYM_W1_OWNER 1) 512).cym 0 1) = true) ∧ (((sendNow 2 0).setF (R.CYM_W1_OWNER 1) 512).dueHalf (((sendNow 2 0).setF (R.CYM_W1_OWNER 1) 512).cym 0 1) = some 0) ∧ (((sendNow 2 0).setF (R.CYM_W1_OWNER 1) 512).sendHeld (((sendNow 2 0).setF (R.CYM_W1_OWNER 1) 512).cym 0 1) = false)) ∧
    (((sendNow 3 1).ringSends = true) ∧ ((sendNow 3 1).bcn = 0) ∧ (((sendNow 3 1).cym 0 1).cls ≠ 0) ∧ (((sendNow 3 1).cym 0 1).cls ≠ 7) ∧ ((sendNow 3 1).headSent ((sendNow 3 1).cym 0 1) = true) ∧ ((sendNow 3 1).dueHalf ((sendNow 3 1).cym 0 1) = some 0) ∧ ((sendNow 3 1).sendHeld ((sendNow 3 1).cym 0 1) = false)) ∧
    (((sendNow 6 0).ringSends = true) ∧ ((sendNow 6 0).bcn = 0) ∧ (((sendNow 6 0).cym 0 1).cls ≠ 0) ∧ (((sendNow 6 0).cym 0 1).cls ≠ 7) ∧ ((sendNow 6 0).headSent ((sendNow 6 0).cym 0 1) = true) ∧ ((sendNow 6 0).dueHalf ((sendNow 6 0).cym 0 1) = some 0) ∧ ((sendNow 6 0).sendHeld ((sendNow 6 0).cym 0 1) = false)) ∧
    (((((sendNow 1 0).set1 R.TWN_CFG_EN).setF R.TWN_STAT_ROLE 4).ringSends = true) ∧ ((((sendNow 1 0).set1 R.TWN_CFG_EN).setF R.TWN_STAT_ROLE 4).bcn = 0) ∧ (((((sendNow 1 0).set1 R.TWN_CFG_EN).setF R.TWN_STAT_ROLE 4).cym 0 1).cls ≠ 0) ∧ (((((sendNow 1 0).set1 R.TWN_CFG_EN).setF R.TWN_STAT_ROLE 4).cym 0 1).cls ≠ 7) ∧ ((((sendNow 1 0).set1 R.TWN_CFG_EN).setF R.TWN_STAT_ROLE 4).headSent ((((sendNow 1 0).set1 R.TWN_CFG_EN).setF R.TWN_STAT_ROLE 4).cym 0 1) = true) ∧ ((((sendNow 1 0).set1 R.TWN_CFG_EN).setF R.TWN_STAT_ROLE 4).dueHalf ((((sendNow 1 0).set1 R.TWN_CFG_EN).setF R.TWN_STAT_ROLE 4).cym 0 1) = some 0) ∧ ((((sendNow 1 0).set1 R.TWN_CFG_EN).setF R.TWN_STAT_ROLE 4).sendHeld ((((sendNow 1 0).set1 R.TWN_CFG_EN).setF R.TWN_STAT_ROLE 4).cym 0 1) = true)) ∧
    ((HostOpen ready) ∧ (BitVec.getLsbD (2147483648 : Word) 31 = true)) := by
  and_intros <;> decide +kernel

/-- The hypotheses of `RingStartSteps` can be met. -/
theorem witness_RingStartSteps :
    ((0 < 4) ∧ (isX1 0 = false) ∧ ((measuring (RingMeas.mk 3 700 none none 0 0 none)).f R.ZLP_SSTAT_STATE = 2) ∧ ((measuring (RingMeas.mk 3 700 none none 0 0 none)).ring.use.contains (ringOfPort 0) = true) ∧ (((measuring (RingMeas.mk 3 700 none none 0 0 none)).meas (ringOfPort 0)).round < 16) ∧ ((measuring (RingMeas.mk 3 700 none none 0 0 none)).ownDelay (delayBack (0 : Byte) (3 : Byte)) 0 = true) ∧ (BitVec.toNat ((payloadOf (delayBack (0 : Byte) (3 : Byte)).bytes).getD 1 (0 : Byte)) = ((measuring (RingMeas.mk 3 700 none none 0 0 none)).meas (ringOfPort 0)).round) ∧ (((measuring (RingMeas.mk 3 700 none none 0 0 none)).meas (ringOfPort 0)).up = none) ∧ (((measuring (RingMeas.mk 3 700 none none 0 0 none)).meas (ringOfPort 0)).sentAt ≤ (delayBack (0 : Byte) (3 : Byte)).sfd) ∧ ((measuring (RingMeas.mk 3 700 none none 0 0 none)).twin = false) ∧ (((measuring (RingMeas.mk 3 700 none none 0 0 none)).meas (ringOfPort 0)).dn = none)) ∧
    ((0 < 4) ∧ (isX1 0 = false) ∧ ((measuring (RingMeas.mk 3 700 (some 80) none 10 20 none)).f R.ZLP_SSTAT_STATE = 2) ∧ ((measuring (RingMeas.mk 3 700 (some 80) none 10 20 none)).ring.use.contains (ringOfPort 0) = true) ∧ (((measuring (RingMeas.mk 3 700 (some 80) none 10 20 none)).meas (ringOfPort 0)).round < 15) ∧ ((measuring (RingMeas.mk 3 700 (some 80) none 10 20 none)).ownDelay (delayBack (0 : Byte) (3 : Byte)) 0 = true) ∧ (BitVec.toNat ((payloadOf (delayBack (0 : Byte) (3 : Byte)).bytes).getD 1 (0 : Byte)) = ((measuring (RingMeas.mk 3 700 (some 80) none 10 20 none)).meas (ringOfPort 0)).round) ∧ (((measuring (RingMeas.mk 3 700 (some 80) none 10 20 none)).meas (ringOfPort 0)).up = none) ∧ (((measuring (RingMeas.mk 3 700 (some 80) none 10 20 none)).meas (ringOfPort 0)).sentAt ≤ (delayBack (0 : Byte) (3 : Byte)).sfd) ∧ (((measuring (RingMeas.mk 3 700 (some 80) none 10 20 none)).meas (ringOfPort 0)).dn = some 80) ∧ ((measuring (RingMeas.mk 3 700 (some 80) none 10 20 none)).twin = false)) ∧
    ((0 < 4) ∧ (isX1 0 = false) ∧ ((measuredAll [0, 1]).f R.ZLP_SSTAT_STATE = 2) ∧ ((measuredAll [0, 1]).measured = true) ∧ ((measuredAll [0, 1]).ring.use.contains (ringOfPort 0) = true) ∧ (((measuredAll [0, 1]).meas (ringOfPort 0)).recs = none) ∧ ((measuredAll [0, 1]).ownDelay reportBack 1 = true) ∧ (∃ r ∈ (measuredAll [0, 1]).ring.use, r ≠ ringOfPort 0 ∧ (measuredAll [0, 1]).hasX0 r = true ∧ ((measuredAll [0, 1]).meas r).recs = none)) ∧
    ((0 < 4) ∧ (isX1 0 = false) ∧ ((measuredAll [0]).f R.ZLP_SSTAT_STATE = 2) ∧ ((measuredAll [0]).measured = true) ∧ ((measuredAll [0]).ring.use.contains (ringOfPort 0) = true) ∧ (((measuredAll [0]).meas (ringOfPort 0)).recs = none) ∧ ((measuredAll [0]).ownDelay reportBack 1 = true) ∧ (∀ r ∈ (measuredAll [0]).ring.use, r = ringOfPort 0)) ∧
    ((assigned.f R.ZLP_SSTAT_STATE = 3) ∧ (assigned.ring.assignEnd ≤ assigned.clk)) ∧
    ((firstBc.spanRuns = true) ∧ (firstBc.ring.live = false) ∧ (firstBc.ring.assignEnd + firstBc.nBc ≤ firstBc.cyc.t0)) ∧
    ((halting.ring.haltAt = some 24999) ∧ (24999 < halting.cyc.t0)) ∧
    ((listened.f R.ZLP_SSTAT_STATE = 1) ∧ (listened.twin = false) ∧ (listened.ring.listenEnd ≤ listened.clk)) ∧
    (((listenPair true 1).f R.ZLP_SSTAT_STATE = 1) ∧ ((listenPair true 1).twin = true) ∧ ((listenPair true 1).twn.linkUp = true → (listenPair true 1).f R.TWN_STAT_ROLE = 1 ∨ (listenPair true 1).holderLeft = true) ∧ ((listenPair true 1).twn.linkUp = false → (listenPair true 1).ring.listenEnd ≤ (listenPair true 1).clk)) ∧
    (((listenPair false 2).f R.ZLP_SSTAT_STATE = 1) ∧ ((listenPair false 2).twin = true) ∧ ((listenPair false 2).twn.linkUp = true → (listenPair false 2).f R.TWN_STAT_ROLE = 1 ∨ (listenPair false 2).holderLeft = true) ∧ ((listenPair false 2).twn.linkUp = false → (listenPair false 2).ring.listenEnd ≤ (listenPair false 2).clk)) ∧
    ((0 < 4) ∧ (isX1 0 = false) ∧ (((measuring (RingMeas.mk 3 700 (some 80) none 10 20 none)).set1 R.TWN_CFG_EN).f R.ZLP_SSTAT_STATE = 2) ∧ (((measuring (RingMeas.mk 3 700 (some 80) none 10 20 none)).set1 R.TWN_CFG_EN).ring.use.contains (ringOfPort 0) = true) ∧ ((((measuring (RingMeas.mk 3 700 (some 80) none 10 20 none)).set1 R.TWN_CFG_EN).meas (ringOfPort 0)).round < 15) ∧ (((measuring (RingMeas.mk 3 700 (some 80) none 10 20 none)).set1 R.TWN_CFG_EN).ownDelay (delayBack (0 : Byte) (3 : Byte)) 0 = true) ∧ (BitVec.toNat ((payloadOf (delayBack (0 : Byte) (3 : Byte)).bytes).getD 1 (0 : Byte)) = (((measuring (RingMeas.mk 3 700 (some 80) none 10 20 none)).set1 R.TWN_CFG_EN).meas (ringOfPort 0)).round) ∧ ((((measuring (RingMeas.mk 3 700 (some 80) none 10 20 none)).set1 R.TWN_CFG_EN).meas (ringOfPort 0)).up = none) ∧ ((((measuring (RingMeas.mk 3 700 (some 80) none 10 20 none)).set1 R.TWN_CFG_EN).meas (ringOfPort 0)).sentAt ≤ (delayBack (0 : Byte) (3 : Byte)).sfd) ∧ ((((measuring (RingMeas.mk 3 700 (some 80) none 10 20 none)).set1 R.TWN_CFG_EN).meas (ringOfPort 0)).dn = some 80) ∧ (((measuring (RingMeas.mk 3 700 (some 80) none 10 20 none)).set1 R.TWN_CFG_EN).twin = true)) ∧
    (((measuredLate [0, 1]).f R.ZLP_SSTAT_STATE = 2) ∧ ((measuredLate [0, 1]).measured = true) ∧ ((measuredLate [0, 1]).lateRings ≠ [])) ∧
    (((ringLate 1).f R.ZLP_SSTAT_STATE = 2) ∧ ((ringLate 1).measured = false) ∧ ((ringLate 1).lateRings ≠ []) ∧ ((ringLate 1).startRings (List.filter (fun r => !(ringLate 1).lateRings.contains r) (ringLate 1).ring.use) = some [1])) ∧
    (((ringLate 0).f R.ZLP_SSTAT_STATE = 2) ∧ ((ringLate 0).measured = false) ∧ ((ringLate 0).lateRings ≠ []) ∧ ((ringLate 0).startRings (List.filter (fun r => !(ringLate 0).lateRings.contains r) (ringLate 0).ring.use) = none)) := by
  and_intros <;> decide +kernel

/-- The hypotheses of `TrunkFollowsItsMaster` can be met. -/
theorem witness_TrunkFollowsItsMaster :
    ((HostOpen ready) ∧ (BitVec.getLsbD (1 : Word) 0 = true) ∧ (ready.f R.ZLP_TCFG_EN = 0)) ∧
    (((trunkOn 1).f R.ZLP_TCFG_EN = 1) ∧ ((trunkOn 1).f R.ZLP_TCFG_TMASTER = 1) ∧ (∀ (c : Nat), (trunkOn 1).ring.trunk.measAt = some c → c + 102400000 ≤ (trunkOn 1).clk)) ∧
    ((4 ≤ 4) ∧ (frameCheck (trunkFrame 10 0 44).bytes = FrameCheck.good) ∧ ((parseHeader (trunkFrame 10 0 44).bytes).type = 10) ∧ ((trunkOn 1).f R.ZLP_TCFG_EN = 1) ∧ ((trunkOn 1).f R.ZLP_TCFG_TMASTER = 1) ∧ ((parseHeader (trunkFrame 10 0 44).bytes).src ≠ (trunkOn 1).ownAddr)) ∧
    ((4 ≤ 5) ∧ (frameCheck (trunkFrame 11 0 48).bytes = FrameCheck.good) ∧ ((parseHeader (trunkFrame 11 0 48).bytes).type = 11) ∧ ((parseHeader (trunkFrame 11 0 48).bytes).len = 48) ∧ ((trunkOn 0).f R.ZLP_TCFG_EN = 1) ∧ (BitVec.toNat ((payloadOf (trunkFrame 11 0 48).bytes).getD 0 (0 : Byte)) = 0)) ∧
    ((4 ≤ 5) ∧ (frameCheck (trunkFrame 11 1 48).bytes = FrameCheck.good) ∧ ((parseHeader (trunkFrame 11 1 48).bytes).type = 11) ∧ ((parseHeader (trunkFrame 11 1 48).bytes).len = 48) ∧ ((trunkOn 0).f R.ZLP_TCFG_EN = 1) ∧ (BitVec.toNat ((payloadOf (trunkFrame 11 1 48).bytes).getD 0 (0 : Byte)) = 1) ∧ ((parseHeader (trunkFrame 11 1 48).bytes).src ≠ (trunkOn 0).ownAddr) ∧ (∀ x ∈ (trunkOn 0).chn.trunkKept, x.1 ≠ bcIndexOf (trunkOn 0).cyc.rate (trunkNt (payloadOf (trunkFrame 11 1 48).bytes)))) ∧
    (((trunkOn 0).f R.ZLP_TCFG_EN = 1) ∧ ((trunkOn 0).f R.ZLP_TSTAT_TLOST = 0) ∧ ((trunkOn 0).ring.trunk.timeAt + 8 * (trunkOn 0).nBc ≤ (trunkOn 0).clk)) := by
  and_intros <;> decide +kernel

/-- The hypotheses of `TasksStartAndEnd` can be met. -/
theorem witness_TasksStartAndEnd :
    ((dispatching.f R.DSP_CFG_EN = 1)) ∧
    (((given TaskKind.axis 159 720).startable 15 = some (Assigned.mk (Task.mk TaskKind.axis 159 0) 6 720 MoveKind.stay [])) ∧ ((Assigned.mk (Task.mk TaskKind.axis 159 0) 6 720 MoveKind.stay []).task.kind = TaskKind.axis) ∧ ((Assigned.mk (Task.mk TaskKind.axis 159 0) 6 720 MoveKind.stay []).move = MoveKind.restore → (given TaskKind.axis 159 720).homeDynBad (Assigned.mk (Task.mk TaskKind.axis 159 0) 6 720 MoveKind.stay []).task.id = false)) ∧
    (((givenMove (MoveKind.move 3) false).startable 15 = some (Assigned.mk (Task.mk TaskKind.axis 159 0) 6 800 (MoveKind.move 3) [])) ∧ ((Assigned.mk (Task.mk TaskKind.axis 159 0) 6 800 (MoveKind.move 3) []).task.kind = TaskKind.axis) ∧ ((Assigned.mk (Task.mk TaskKind.axis 159 0) 6 800 (MoveKind.move 3) []).move = MoveKind.restore → (givenMove (MoveKind.move 3) false).homeDynBad (Assigned.mk (Task.mk TaskKind.axis 159 0) 6 800 (MoveKind.move 3) []).task.id = false) ∧ ((Assigned.mk (Task.mk TaskKind.axis 159 0) 6 800 (MoveKind.move 3) []).move = MoveKind.move 3) ∧ ((Assigned.mk (Task.mk TaskKind.axis 159 0) 6 800 (MoveKind.move 3) []).task.id < 160)) ∧
    (((givenMove MoveKind.restore false).startable 15 = some (Assigned.mk (Task.mk TaskKind.axis 159 0) 6 800 MoveKind.restore [])) ∧ ((Assigned.mk (Task.mk TaskKind.axis 159 0) 6 800 MoveKind.restore []).task.kind = TaskKind.axis) ∧ ((Assigned.mk (Task.mk TaskKind.axis 159 0) 6 800 MoveKind.restore []).move = MoveKind.restore → (givenMove MoveKind.restore false).homeDynBad (Assigned.mk (Task.mk TaskKind.axis 159 0) 6 800 MoveKind.restore []).task.id = false) ∧ ((Assigned.mk (Task.mk TaskKind.axis 159 0) 6 800 MoveKind.restore []).move = MoveKind.restore) ∧ ((Assigned.mk (Task.mk TaskKind.axis 159 0) 6 800 MoveKind.restore []).task.id < 160)) ∧
    (((givenMove MoveKind.restore true).startable 15 = some (Assigned.mk (Task.mk TaskKind.axis 159 0) 6 800 MoveKind.restore [])) ∧ ((Assigned.mk (Task.mk TaskKind.axis 159 0) 6 800 MoveKind.restore []).task.kind = TaskKind.axis) ∧ ((Assigned.mk (Task.mk TaskKind.axis 159 0) 6 800 MoveKind.restore []).move = MoveKind.restore) ∧ ((givenMove MoveKind.restore true).homeDynBad (Assigned.mk (Task.mk TaskKind.axis 159 0) 6 800 MoveKind.restore []).task.id = true) ∧ ((Assigned.mk (Task.mk TaskKind.axis 159 0) 6 800 MoveKind.restore []).task.id < 160)) ∧
    (((given TaskKind.event 63 240).startable 15 = some (Assigned.mk (Task.mk TaskKind.event 63 0) 6 240 MoveKind.stay [])) ∧ ((Assigned.mk (Task.mk TaskKind.event 63 0) 6 240 MoveKind.stay []).task.kind = TaskKind.event) ∧ ((Assigned.mk (Task.mk TaskKind.event 63 0) 6 240 MoveKind.stay []).task.id = 63) ∧ (∀ q < 15, ∀ (h : Assigned), (given TaskKind.event 63 240).startable q = some h → ¬(h.task.kind = TaskKind.event ∧ h.task.id = 63))) ∧
    (((given TaskKind.background 31 2400).startable 15 = some (Assigned.mk (Task.mk TaskKind.background 31 0) 6 2400 MoveKind.stay [])) ∧ ((Assigned.mk (Task.mk TaskKind.background 31 0) 6 2400 MoveKind.stay []).task.kind = TaskKind.background) ∧ ((Assigned.mk (Task.mk TaskKind.background 31 0) 6 2400 MoveKind.stay []).task.id = 31) ∧ (∀ q < 15, ∀ (h : Assigned), (given TaskKind.background 31 2400).startable q = some h → ¬(h.task.kind = TaskKind.background ∧ h.task.id = 31))) ∧
    ((((busyPier 2 TaskKind.axis 159).pier 15).run = some (Running.mk (Task.mk TaskKind.axis 159 0) 6 100 none)) ∧ ((Running.mk (Task.mk TaskKind.axis 159 0) 6 100 none).task.kind = TaskKind.axis) ∧ ((Running.mk (Task.mk TaskKind.axis 159 0) 6 100 none).task.id < 160) ∧ ((Running.mk (Task.mk TaskKind.axis 159 0) 6 100 none).finish ≤ (busyPier 2 TaskKind.axis 159).clk) ∧ ((busyPier 2 TaskKind.axis 159).f (R.PIR_STAT_STATE 15) ≠ 3)) ∧
    ((((busyPier 3 TaskKind.axis 159).pier 15).run = some (Running.mk (Task.mk TaskKind.axis 159 0) 6 100 none)) ∧ ((Running.mk (Task.mk TaskKind.axis 159 0) 6 100 none).task.kind = TaskKind.axis) ∧ ((Running.mk (Task.mk TaskKind.axis 159 0) 6 100 none).task.id < 160) ∧ ((Running.mk (Task.mk TaskKind.axis 159 0) 6 100 none).finish ≤ (busyPier 3 TaskKind.axis 159).clk) ∧ ((busyPier 3 TaskKind.axis 159).f (R.PIR_STAT_STATE 15) = 3)) ∧
    ((((busyPier 2 TaskKind.background 31).pier 15).run = some (Running.mk (Task.mk TaskKind.background 31 0) 6 100 none)) ∧ ((Running.mk (Task.mk TaskKind.background 31 0) 6 100 none).task.kind ≠ TaskKind.axis) ∧ ((Running.mk (Task.mk TaskKind.background 31 0) 6 100 none).finish ≤ (busyPier 2 TaskKind.background 31).clk) ∧ ((Running.mk (Task.mk TaskKind.background 31 0) 6 100 none).task.kind = TaskKind.background) ∧ ((busyPier 2 TaskKind.background 31).isPending TaskKind.background (Running.mk (Task.mk TaskKind.background 31 0) 6 100 none).task.id = false)) ∧
    (((bgAgain.pier 15).run = some (Running.mk (Task.mk TaskKind.background 31 0) 6 100 none)) ∧ ((Running.mk (Task.mk TaskKind.background 31 0) 6 100 none).task.kind ≠ TaskKind.axis) ∧ ((Running.mk (Task.mk TaskKind.background 31 0) 6 100 none).finish ≤ bgAgain.clk) ∧ ((Running.mk (Task.mk TaskKind.background 31 0) 6 100 none).task.kind = TaskKind.background) ∧ (bgAgain.isPending TaskKind.background (Running.mk (Task.mk TaskKind.background 31 0) 6 100 none).task.id = true)) ∧
    ((((busyPier 4 TaskKind.background 31).pier 15).run = some (Running.mk (Task.mk TaskKind.background 31 0) 6 100 none)) ∧ ((Running.mk (Task.mk TaskKind.background 31 0) 6 100 none).finish + 8 ≤ (busyPier 4 TaskKind.background 31).clk) ∧ (1 ≤ (busyPier 4 TaskKind.background 31).f (R.PIR_STAT_STATE 15)) ∧ ((busyPier 4 TaskKind.background 31).f (R.PIR_STAT_STATE 15) < 5)) ∧
    ((((busyPier 1 TaskKind.axis 31).pier 15).run = some (Running.mk (Task.mk TaskKind.axis 31 0) 6 100 none)) ∧ ((Running.mk (Task.mk TaskKind.axis 31 0) 6 100 none).finish + 8 ≤ (busyPier 1 TaskKind.axis 31).clk) ∧ (1 ≤ (busyPier 1 TaskKind.axis 31).f (R.PIR_STAT_STATE 15)) ∧ ((busyPier 1 TaskKind.axis 31).f (R.PIR_STAT_STATE 15) < 5)) ∧
    (((moving.axis 159).moving = some (0, 15, 9)) ∧ (0 < 16) ∧ (9 ≤ moving.clk)) := by
  and_intros <;> decide +kernel

/-- The hypotheses of `PostsAndOverruns` can be met. -/
theorem witness_PostsAndOverruns :
    ((((laneLate true 5).lane 15).deadAt < (laneLate true 5).cyc.t0) ∧ ((laneLate true 5).pExp + (laneLate true 5).dsp.open_ + intervalLen (laneLate true 5).cyc.rate ≤ (laneLate true 5).sinceT0) ∧ (((laneLate true 5).lane 15).written = true)) ∧
    ((((laneLate false 0).lane 15).deadAt < (laneLate false 0).cyc.t0) ∧ ((laneLate false 0).pExp + (laneLate false 0).dsp.open_ + intervalLen (laneLate false 0).cyc.rate ≤ (laneLate false 0).sinceT0) ∧ (((laneLate false 0).lane 15).written = false) ∧ (((laneLate false 0).lane 15).missed = 0)) ∧
    ((((laneLate false 1).lane 15).deadAt < (laneLate false 1).cyc.t0) ∧ ((laneLate false 1).pExp + (laneLate false 1).dsp.open_ + intervalLen (laneLate false 1).cyc.rate ≤ (laneLate false 1).sinceT0) ∧ (((laneLate false 1).lane 15).written = false) ∧ (1 ≤ ((laneLate false 1).lane 15).missed)) ∧
    ((axisOver.f R.DSP_CFG_SUB_EN = 1) ∧ (axisOver.spanRuns = true) ∧ (axisOver.axisOn 159 = true) ∧ (2 ≤ axisOver.axisState 159) ∧ ((axisOver.axis 159).posted = false) ∧ ((axisOver.axis 159).done = false) ∧ (axisOver.xWaits 159 = false) ∧ (axisOver.xLoading 159 = false) ∧ (axisOver.isPending TaskKind.axis 159 = false) ∧ (axisOver.latestStart 159 ≤ axisOver.sinceT0 + 70)) ∧
    ((axisOver.spanRuns = true) ∧ (axisOver.axisOn 159 = true) ∧ (2 ≤ axisOver.axisState 159) ∧ ((axisOver.axis 159).done = false) ∧ (axisOver.xWaits 159 = false ∨ axisOver.isPending TaskKind.axis 159 = true) ∧ (axisOver.latestStart 159 < axisOver.sinceT0) ∧ (axisOver.flowOf 159 = none) ∧ (axisOver.f R.DSP_STAT_OVR = 0)) ∧
    ((flowOver.spanRuns = true) ∧ (flowOver.axisOn 159 = true) ∧ (2 ≤ flowOver.axisState 159) ∧ ((flowOver.axis 159).done = false) ∧ (flowOver.xWaits 159 = false ∨ flowOver.isPending TaskKind.axis 159 = true) ∧ (flowOver.latestStart 159 < flowOver.sinceT0) ∧ (flowOver.f R.DSP_STAT_OVR = 0)) ∧
    ((HostOpen ready) ∧ (BitVec.getLsbD (2147483649 : Word) 31 = true) ∧ (ready.isPending TaskKind.background 31 = false)) ∧
    ((HostOpen bgWaits) ∧ (BitVec.getLsbD (2147483649 : Word) 31 = true) ∧ (bgWaits.isPending TaskKind.background 31 = true)) ∧
    ((HostOpen ready) ∧ ((ready.plainWrite (R.DSP_FLOW 255) ((0 : Word) ||| (2147483648 : Word))).flowTest 255 = none)) ∧
    ((HostOpen flowOk) ∧ ((flowOk.plainWrite (R.DSP_FLOW 255) ((768 : Word) ||| (2147483648 : Word))).flowTest 255 = some [3]) ∧ (flowOk.axisClass ([3].headD 0) ≠ 1) ∧ (∀ a ∈ [3], flowOk.axisHome a = flowOk.axisHome ([3].headD 0))) ∧
    ((HostOpen (flowX false)) ∧ (((flowX false).plainWrite (R.DSP_FLOW 255) ((768 : Word) ||| (2147483648 : Word))).flowTest 255 = some [3, 4]) ∧ ((flowX false).axisClass ([3, 4].headD 0) = 1) ∧ (∃ a ∈ [3, 4], (flowX false).axisHome a ≠ (flowX false).axisHome ([3, 4].headD 0)) ∧ (((flowX false).plainWrite (R.DSP_FLOW 255) ((768 : Word) ||| (2147483648 : Word))).flowPin [3, 4] = none)) ∧
    ((HostOpen (flowX true)) ∧ (((flowX true).plainWrite (R.DSP_FLOW 255) ((768 : Word) ||| (2147483648 : Word))).flowTest 255 = some [3, 4]) ∧ ((flowX true).axisClass ([3, 4].headD 0) = 1) ∧ (∃ a ∈ [3, 4], (flowX true).axisHome a ≠ (flowX true).axisHome ([3, 4].headD 0))) ∧
    ((classL.fbDone < classL.cyc.t0) ∧ (classL.cyc.t0 + 4 ≤ classL.clk) ∧ (159 < 160) ∧ (∀ b < 160, classL.axisOn b = true ∧ classL.axisClass b = 2 ↔ b = 159) ∧ (2 ≤ classL.axisState 159) ∧ ((classL.axis 159).done = false) ∧ (classL.isPending TaskKind.axis 159 = false)) := by
  and_intros <;> decide +kernel

/-- The hypotheses of `PiersChangeState` can be met. -/
theorem witness_PiersChangeState :
    ((HostOpen (pierIn 2)) ∧ ((pierIn 2).inService 15 = true) ∧ (((pierIn 2).pier 15).run = none)) ∧
    ((HostOpen (busyPier 2 TaskKind.event 3)) ∧ ((busyPier 2 TaskKind.event 3).inService 15 = true) ∧ (((busyPier 2 TaskKind.event 3).pier 15).run ≠ none)) ∧
    ((HostOpen (offline true)) ∧ ((offline true).f (R.PIR_STAT_STATE 15) = 4) ∧ (((offline true).pier 15).passOk = true)) ∧
    ((HostOpen (offline false)) ∧ ((offline false).f (R.PIR_STAT_STATE 15) = 4) ∧ (((offline false).pier 15).passOk = false)) ∧
    ((HostOpen (pierIn 4)) ∧ ((pierIn 4).f (R.PIR_STAT_STATE 15) = 4 ∨ (pierIn 4).f (R.PIR_STAT_STATE 15) = 5) ∧ ((pierIn 4).queueRoom = true) ∧ ((pierIn 4).nvs.reloads = [])) ∧
    ((HostOpen (pierIn 5)) ∧ ((pierIn 5).f (R.PIR_STAT_STATE 15) = 4 ∨ (pierIn 5).f (R.PIR_STAT_STATE 15) = 5) ∧ ((pierIn 5).queueRoom = true) ∧ ((pierIn 5).nvs.reloads = [])) ∧
    ((HostOpen offlineFull) ∧ (offlineFull.f (R.PIR_STAT_STATE 15) = 4 ∨ offlineFull.f (R.PIR_STAT_STATE 15) = 5) ∧ (offlineFull.queueRoom = false)) := by
  and_intros <;> decide +kernel

/-- The hypotheses of `MemoryErrorsAreHandled` can be met. -/
theorem witness_MemoryErrorsAreHandled :
    ((1 ≤ (pierIn 4).f (R.PIR_STAT_STATE 15)) ∧ ((pierIn 4).f (R.PIR_STAT_STATE 15) < 5) ∧ ((pierIn 4).f (R.PIR_UE_INFO_VALID 15) = 0) ∧ (PierCause.iue = PierCause.iue ∨ PierCause.iue = PierCause.due ∨ PierCause.iue = PierCause.par)) ∧
    ((1 ≤ (pierIn 1).f (R.PIR_STAT_STATE 15)) ∧ ((pierIn 1).f (R.PIR_STAT_STATE 15) < 5) ∧ ((pierIn 1).f (R.PIR_UE_INFO_VALID 15) = 0)) ∧
    ((∃ i < 32, resident.slotAxis 15 i = 159)) ∧
    ((2097151 < 2097152) ∧ (EccError.none = EccError.none)) ∧
    ((2097151 < 2097152) ∧ (EccError.single = EccError.single)) ∧
    ((2097151 < 2097152) ∧ (EccError.double = EccError.double) ∧ (deckOn.f R.DCK_UE_ADDR_VALID = 0) ∧ (1048576 ≤ 2097151)) ∧
    ((0 < 2097152) ∧ (EccError.double = EccError.double) ∧ (deckOn.f R.DCK_UE_ADDR_VALID = 0)) := by
  and_intros <;> decide +kernel

/-- The hypotheses of `DeckAndAxisTableWrites` can be met. -/
theorem witness_DeckAndAxisTableWrites :
    ((HostOpen (pageAt 0)) ∧ ((pageAt 0).windowAddr 1532 < 327680) ∧ ((pageAt 0).windowAddr 1532 % 2048 < 1536) ∧ (1536 < (pageAt 0).windowAddr 1532 ∨ (pageAt 0).windowAddr 1532 + 4 ≤ 1536)) ∧
    ((HostOpen ((pageAt 0).set1 (R.AXT_W2_RES 0))) ∧ (((pageAt 0).set1 (R.AXT_W2_RES 0)).windowAddr 1532 < 327680) ∧ (((pageAt 0).set1 (R.AXT_W2_RES 0)).windowAddr 1532 % 2048 < 1536) ∧ (1531 < ((pageAt 0).set1 (R.AXT_W2_RES 0)).windowAddr 1532 ∨ ((pageAt 0).set1 (R.AXT_W2_RES 0)).windowAddr 1532 + 4 ≤ 1531)) ∧
    ((HostOpen (pageAt 0)) ∧ ((pageAt 0).windowAddr 1536 < 327680) ∧ ((pageAt 0).windowAddr 1536 < 327680 ∧ 1536 ≤ (pageAt 0).windowAddr 1536 % 2048 ∨ 327680 ≤ (pageAt 0).windowAddr 1536 ∧ (pageAt 0).windowAddr 1536 < 458752)) ∧
    ((HostOpen (pageAt 1)) ∧ ((pageAt 1).windowAddr 65536 < 327680 ∧ 1536 ≤ (pageAt 1).windowAddr 65536 % 2048 ∨ 327680 ≤ (pageAt 1).windowAddr 65536 ∧ (pageAt 1).windowAddr 65536 < 458752)) ∧
    ((HostOpen (pageAt 1)) ∧ (458752 ≤ (pageAt 1).windowAddr 196608) ∧ ((pageAt 1).windowAddr 196608 < 1048576) ∧ (0 < (pageAt 1).windowAddr 196608 ∨ (pageAt 1).windowAddr 196608 + 4 ≤ 0)) ∧
    ((HostOpen (pageAt 7)) ∧ (458752 ≤ (pageAt 7).windowAddr 262136) ∧ (1048576 ≤ (pageAt 7).windowAddr 262136) ∧ ((pageAt 7).windowAddr 262136 % 8 = 0)) ∧
    ((HostOpen camStaged) ∧ (1048576 ≤ camStaged.windowAddr 262140) ∧ (camStaged.windowAddr 262140 % 8 = 4) ∧ (camStaged.deck.camLow = some (camStaged.windowAddr 262140 - 4, (9 : Word))) ∧ (2097152 < camStaged.windowAddr 262140 - 4 ∨ camStaged.windowAddr 262140 + 4 ≤ 2097152)) ∧
    ((forwarding.deck.fwd = [(4, 159 * 2048 + 1532, (7 : Word))]) ∧ (1532 < 1536) ∧ (4 ≤ forwarding.clk) ∧ (forwarding.isMoving 159 = false)) ∧
    ((forwardEarly.deck.fwd = [(4, 159 * 2048 + 1532, (7 : Word))]) ∧ (1532 < 1536)) ∧
    ((HostOpen (ready.set1 (R.AXT_W0_EN 0))) ∧ ((ready.set1 (R.AXT_W0_EN 0)).axisOn 159 = false) ∧ (((ready.set1 (R.AXT_W0_EN 0)).axisFields 159 ((0 : Word) ||| (2147483648 : Word))).enableTest 159 ≠ none) ∧ (((ready.set1 (R.AXT_W0_EN 0)).axisFields 159 ((0 : Word) ||| (2147483648 : Word))).enableTest 159 = some EnableRefusal.slot)) ∧
    ((HostOpen (((ready.set1 (R.AXT_W0_EN 0)).setF (R.AXT_W0_CLASS 0) 2).setF (R.AXT_W0_LANE 0) 5)) ∧ ((((ready.set1 (R.AXT_W0_EN 0)).setF (R.AXT_W0_CLASS 0) 2).setF (R.AXT_W0_LANE 0) 5).axisOn 159 = false) ∧ (((((ready.set1 (R.AXT_W0_EN 0)).setF (R.AXT_W0_CLASS 0) 2).setF (R.AXT_W0_LANE 0) 5).axisFields 159 ((620756992 : Word) ||| (2147483648 : Word))).enableTest 159 ≠ none) ∧ (((((ready.set1 (R.AXT_W0_EN 0)).setF (R.AXT_W0_CLASS 0) 2).setF (R.AXT_W0_LANE 0) 5).axisFields 159 ((620756992 : Word) ||| (2147483648 : Word))).enableTest 159 = some EnableRefusal.lane)) ∧
    ((HostOpen (span.set1 R.ZLP_STAT_XOFF)) ∧ ((span.set1 R.ZLP_STAT_XOFF).axisOn 159 = false) ∧ (((span.set1 R.ZLP_STAT_XOFF).axisFields 159 ((268435456 : Word) ||| (2147483648 : Word))).enableTest 159 ≠ none) ∧ (((span.set1 R.ZLP_STAT_XOFF).axisFields 159 ((268435456 : Word) ||| (2147483648 : Word))).enableTest 159 = some EnableRefusal.cap)) ∧
    ((HostOpen (pierIn 2)) ∧ ((pierIn 2).axisOn 159 = false) ∧ (((pierIn 2).axisFields 159 ((0 : Word) ||| (2147483648 : Word))).enableTest 159 = none)) ∧
    ((HostOpen ready) ∧ (ready.axisOn 159 = false) ∧ ((ready.axisFields 159 ((0 : Word) ||| (2147483648 : Word))).enableTest 159 ≠ none) ∧ ((ready.axisFields 159 ((0 : Word) ||| (2147483648 : Word))).enableTest 159 = some EnableRefusal.pier)) ∧
    ((HostOpen resident)) ∧
    ((HostOpen (resident.set1 (R.AXT_W0_EN 159))) ∧ ((resident.set1 (R.AXT_W0_EN 159)).axisOn 159 = true) ∧ (((resident.set1 (R.AXT_W0_EN 159)).runningOn 159).isSome = false)) ∧
    (((loading.axis 159).loadEnd = some 80) ∧ (80 ≤ loading.clk)) := by
  and_intros <;> decide +kernel

/-- The hypotheses of `PwmModulesCount` can be met. -/
theorem witness_PwmModulesCount :
    (((pwmAt 100).pwmOn 11 = true) ∧ (((pwmAt 100).pwm 11).per ≤ ((pwmAt 100).pwm 11).posOn (pwmAt 100).clk) ∧ ((pwmAt 100).pwmWaits 11 = false) ∧ ((pwmAt 100).shadowHeld 11 = false) ∧ ((pwmAt 100).forceActs 11 = false)) ∧
    (((pwmHeld 100).pwmOn 11 = true) ∧ (((pwmHeld 100).pwm 11).per ≤ ((pwmHeld 100).pwm 11).posOn (pwmHeld 100).clk) ∧ ((pwmHeld 100).pwmWaits 11 = false) ∧ ((pwmHeld 100).shadowHeld 11 = true) ∧ ((pwmHeld 100).forceActs 11 = false)) ∧
    (((pwmAt 150).pwmOn 11 = true) ∧ (((pwmAt 150).pwm 11).per ≤ ((pwmAt 150).pwm 11).posOn (pwmAt 150).clk) ∧ ((pwmAt 150).pwmWaits 11 = false) ∧ ((pwmAt 150).shadowHeld 11 = false) ∧ ((pwmAt 150).forceActs 11 = false)) ∧
    (((pwmAt 50).pwmOn 11 = true) ∧ (((pwmAt 50).pwm 11).midDone = false) ∧ (((pwmAt 50).pwm 11).per / 2 ≤ ((pwmAt 50).pwm 11).posOn (pwmAt 50).clk) ∧ ((pwmAt 50).f (R.PWM_CFG_UPD 11) = 0 ∨ (pwmAt 50).shadowHeld 11 = true)) ∧
    (((pwmUpd 51).pwmOn 11 = true) ∧ (((pwmUpd 51).pwm 11).midDone = false) ∧ (((pwmUpd 51).pwm 11).per / 2 ≤ ((pwmUpd 51).pwm 11).posOn (pwmUpd 51).clk) ∧ ((pwmUpd 51).f (R.PWM_CFG_UPD 11) = 1) ∧ ((pwmUpd 51).shadowHeld 11 = false) ∧ (((pwmUpd 51).pwm 11).per / 2 < (pwmUpd 51).perDue 11)) ∧
    ((pwmSync.syncEvent 11 = some (9, 0)) ∧ (pwmSync.pwmOn 11 = true) ∧ ((pwmSync.pwm 11).syncSeen < 9) ∧ (9 ≤ pwmSync.clk)) ∧
    (((pwmCut 40).pwmOn 11 = true) ∧ (((pwmCut 40).pwm 11).midDone = false) ∧ (((pwmCut 40).pwm 11).per / 2 ≤ ((pwmCut 40).pwm 11).posOn (pwmCut 40).clk) ∧ ((pwmCut 40).f (R.PWM_CFG_UPD 11) = 1) ∧ ((pwmCut 40).shadowHeld 11 = false) ∧ ((pwmCut 40).perDue 11 ≤ ((pwmCut 40).pwm 11).per / 2)) ∧
    (((pwmCut 50).pwmOn 11 = true) ∧ (((pwmCut 50).pwm 11).midDone = false) ∧ (((pwmCut 50).pwm 11).per / 2 ≤ ((pwmCut 50).pwm 11).posOn (pwmCut 50).clk) ∧ ((pwmCut 50).f (R.PWM_CFG_UPD 11) = 1) ∧ ((pwmCut 50).shadowHeld 11 = false) ∧ ((pwmCut 50).perDue 11 ≤ ((pwmCut 50).pwm 11).per / 2)) ∧
    ((HostOpen (pwmCfg 64)) ∧ ((pwmCfg 64).pwmOn 11 = false) ∧ (((pwmCfg 64).plainWrite (R.PWM_CFG 11) ((1 : Word) ||| (1 : Word))).pwmTest 11 = true)) ∧
    ((HostOpen (pwmCfg 0)) ∧ ((pwmCfg 0).pwmOn 11 = false) ∧ (((pwmCfg 0).plainWrite (R.PWM_CFG 11) ((1 : Word) ||| (1 : Word))).pwmTest 11 = false)) ∧
    ((HostOpen pwmTight) ∧ (pwmTight.pwmOn 11 = false) ∧ ((pwmTight.plainWrite (R.PWM_CFG 11) ((1 : Word) ||| (1 : Word))).pwmTest 11 = false)) := by
  and_intros <;> decide +kernel

/-- The hypotheses of `ForcesLatchAndClear` can be met. -/
theorem witness_ForcesLatchAndClear :
    ((false ≠ fltMapped.flag (R.PWM_FLT_MAP_POL 7)) ∧ (1000 ≤ 1000) ∧ ((fltMapped.f R.PWM_FLT_STAT_LATCH).testBit 7 = false) ∧ ((fltMapped.fltIn 7).clearedAt ≠ some fltMapped.clk) ∧ (fltMapped.f R.PWM_FLT_FIRST_VALID = 0)) ∧
    (((turnOn.pwm 11).forceOn = some 10) ∧ (turnOn.pwmOn 11 = true) ∧ (turnOn.isForced 11 = true) ∧ (10 ≤ turnOn.clk) ∧ ((turnOn.pwm 11).forceOff ≤ turnOn.clk)) ∧
    ((HostOpen (fltLatched true))) ∧
    ((HostOpen (fltLatched false))) ∧
    (((forced (2048 : Word)).takeAccepted R.PWM_FORCE = some ((2048 : Word), ((forced (2048 : Word)).takeAccepted R.PWM_FORCE).elim ready Prod.snd)) ∧ (BitVec.getLsbD (2048 : Word) 11 = true) ∧ ((((forced (2048 : Word)).takeAccepted R.PWM_FORCE).elim ready Prod.snd).isForced 11 = false)) ∧
    ((lingering.takeAccepted R.PWM_FORCE = some ((0 : Word), (lingering.takeAccepted R.PWM_FORCE).elim ready Prod.snd)) ∧ (BitVec.getLsbD (0 : Word) 11 = false) ∧ (((lingering.takeAccepted R.PWM_FORCE).elim ready Prod.snd).f R.PWM_FLT_STAT_KST = 0) ∧ (((lingering.takeAccepted R.PWM_FORCE).elim ready Prod.snd).f R.PWM_FLT_STAT_LATCH = 0) ∧ (((lingering.takeAccepted R.PWM_FORCE).elim ready Prod.snd).pwmOn 11 = true) ∧ ((((lingering.takeAccepted R.PWM_FORCE).elim ready Prod.snd).pwm 11).linger = true)) := by
  and_intros <;> decide +kernel

/-- The hypotheses of `SigmaDeltaInputsAndLanes` can be met. -/
theorem witness_SigmaDeltaInputsAndLanes :
    (((sdmExt 8).sdmOn 47 = true) ∧ (List.foldl (SdmFilter.sample ((sdmExt 8).sdmOsr 47)) ((sdmExt 8).sdm 47, none) ((sdmExt 8).sdmTaken 47 [true]) = List.foldl (SdmFilter.sample ((sdmExt 8).sdmOsr 47)) ((sdmExt 8).sdm 47, none) ((sdmExt 8).sdmTaken 47 [true])) ∧ ((List.foldl (SdmFilter.sample ((sdmExt 8).sdmOsr 47)) ((sdmExt 8).sdm 47, none) ((sdmExt 8).sdmTaken 47 [true])).1.hit = false)) ∧
    ((sdmSame.sdmOn 47 = true) ∧ (List.foldl (SdmFilter.sample (sdmSame.sdmOsr 47)) (sdmSame.sdm 47, none) (sdmSame.sdmTaken 47 [true]) = List.foldl (SdmFilter.sample (sdmSame.sdmOsr 47)) (sdmSame.sdm 47, none) (sdmSame.sdmTaken 47 [true])) ∧ ((List.foldl (SdmFilter.sample (sdmSame.sdmOsr 47)) (sdmSame.sdm 47, none) (sdmSame.sdmTaken 47 [true])).1.hit = true) ∧ (sdmSame.f (R.SDM_STAT_STUCK 47) = 0)) ∧
    (((sdmExt 8).sdmOn 47 = true) ∧ ((sdmExt 8).sdmExternal 47 = true) ∧ (((sdmExt 8).sdm 47).count = 0) ∧ (((sdmExt 8).sdm 47).cuts = []) ∧ ((List.replicate 8 true).length = (sdmExt 8).sdmOsr 47)) ∧
    (((sdmExt 256).sdmOn 47 = true) ∧ ((sdmExt 256).sdmExternal 47 = true) ∧ (((sdmExt 256).sdm 47).count = 0) ∧ (((sdmExt 256).sdm 47).cuts = []) ∧ ((List.replicate 256 false).length = (sdmExt 256).sdmOsr 47)) ∧
    (((sdmExt 256).sdmOn 47 = true) ∧ ((sdmExt 256).sdmExternal 47 = true) ∧ (((sdmExt 256).sdm 47).last ≠ some true ∨ ((sdmExt 256).sdm 47).same = 0) ∧ ((sdmExt 256).f (R.SDM_STAT_STUCK 47) = 0)) ∧
    (((sdmSame.putSdm 47 SdmFilter.zero).sdmOn 47 = true) ∧ ((sdmSame.putSdm 47 SdmFilter.zero).sdmExternal 47 = true) ∧ (((sdmSame.putSdm 47 SdmFilter.zero).sdm 47).last ≠ some true ∨ ((sdmSame.putSdm 47 SdmFilter.zero).sdm 47).same = 0) ∧ ((sdmSame.putSdm 47 SdmFilter.zero).f (R.SDM_STAT_STUCK 47) = 0)) ∧
    ((sdmStill.sdmOn 47 = true) ∧ (sdmStill.f (R.SDM_CLK_MODE (47 / 12 : Nat)) = 1) ∧ ((sdmStill.sdm 47).at_ + 1024 < sdmStill.clk) ∧ (sdmStill.f (R.SDM_STAT_CLK_LOSS 47) = 0)) ∧
    ((HostOpen laneSet) ∧ (laneSet.f (R.CLN_CFG_EN 15) = 0) ∧ (((laneSet.plainWrite (R.CLN_CFG 15) ((1 : Word) ||| (1 : Word))).clr (R.CLN_CFG_EN 15)).laneTest 15 = true)) ∧
    ((HostOpen laneSet) ∧ (laneSet.f (R.CLN_CFG_EN 15) = 0) ∧ (((laneSet.plainWrite (R.CLN_CFG 15) ((5 : Word) ||| (1 : Word))).clr (R.CLN_CFG_EN 15)).laneTest 15 = true)) ∧
    ((HostOpen ready) ∧ (ready.f (R.CLN_CFG_EN 15) = 0) ∧ (((ready.plainWrite (R.CLN_CFG 15) ((1 : Word) ||| (1 : Word))).clr (R.CLN_CFG_EN 15)).laneTest 15 = false)) ∧
    (((laneDue 0).laneInstant 15 = some 9)) ∧
    (((laneDue 1).laneInstant 15 = some 9)) ∧
    ((laneBad.laneInstant 15 = some 9) ∧ (laneBad.laneSrcBad 15 = true)) ∧
    (((laneWr.lane 15).wr = some (129, [1, 2, 4194304])) ∧ (129 ≤ laneWr.clk) ∧ ((laneWr.lanePairs 15).Nodup) ∧ (∀ p ∈ laneWr.lanePairs 15, p < 48) ∧ ((laneWr.lanePairs 15)[0]? = some 0) ∧ ([1, 2, 4194304][0]? = some 1)) ∧
    (((laneWr.lane 15).wr = some (129, [1, 2, 4194304])) ∧ (129 ≤ laneWr.clk) ∧ ((laneWr.lanePairs 15).Nodup) ∧ (∀ p ∈ laneWr.lanePairs 15, p < 48) ∧ ((laneWr.lanePairs 15)[2]? = some 8) ∧ ([1, 2, 4194304][2]? = some 4194304)) := by
  and_intros <;> decide +kernel

/-- The hypotheses of `EncodersFollowTheirInputs` can be met. -/
theorem witness_EncodersFollowTheirInputs :
    (((encOn 0).f (R.ENC_CFG_EN 15) = 1) ∧ ((encOn 0).f (R.ENC_CFG_MODE 15) = 0) ∧ (false = if (encOn 0).f (R.ENC_CFG_FILT 15) ≤ 0 then false else ((encOn 0).enc 15).a) ∧ (false = if (encOn 0).f (R.ENC_CFG_FILT 15) ≤ 0 then false else ((encOn 0).enc 15).b) ∧ ((quadPhase false false + 4 - quadPhase ((encOn 0).enc 15).a ((encOn 0).enc 15).b) % 4 = 0)) ∧
    (((encOn 0).f (R.ENC_CFG_EN 15) = 1) ∧ ((encOn 0).f (R.ENC_CFG_MODE 15) = 0) ∧ (true = if (encOn 0).f (R.ENC_CFG_FILT 15) ≤ 0 then true else ((encOn 0).enc 15).a) ∧ (false = if (encOn 0).f (R.ENC_CFG_FILT 15) ≤ 0 then false else ((encOn 0).enc 15).b) ∧ ((quadPhase true false + 4 - quadPhase ((encOn 0).enc 15).a ((encOn 0).enc 15).b) % 4 = 1)) ∧
    ((encInv.f (R.ENC_CFG_EN 15) = 1) ∧ (encInv.f (R.ENC_CFG_MODE 15) = 0) ∧ (true = if encInv.f (R.ENC_CFG_FILT 15) ≤ 0 then true else (encInv.enc 15).a) ∧ (false = if encInv.f (R.ENC_CFG_FILT 15) ≤ 0 then false else (encInv.enc 15).b) ∧ ((quadPhase true false + 4 - quadPhase (encInv.enc 15).a (encInv.enc 15).b) % 4 = 1)) ∧
    (((encOn 0).f (R.ENC_CFG_EN 15) = 1) ∧ ((encOn 0).f (R.ENC_CFG_MODE 15) = 0) ∧ (false = if (encOn 0).f (R.ENC_CFG_FILT 15) ≤ 0 then false else ((encOn 0).enc 15).a) ∧ (true = if (encOn 0).f (R.ENC_CFG_FILT 15) ≤ 0 then true else ((encOn 0).enc 15).b) ∧ ((quadPhase false true + 4 - quadPhase ((encOn 0).enc 15).a ((encOn 0).enc 15).b) % 4 = 3)) ∧
    (((encOn 0).f (R.ENC_CFG_EN 15) = 1) ∧ ((encOn 0).f (R.ENC_CFG_MODE 15) = 0) ∧ (true = if (encOn 0).f (R.ENC_CFG_FILT 15) ≤ 0 then true else ((encOn 0).enc 15).a) ∧ (true = if (encOn 0).f (R.ENC_CFG_FILT 15) ≤ 0 then true else ((encOn 0).enc 15).b) ∧ ((quadPhase true true + 4 - quadPhase ((encOn 0).enc 15).a ((encOn 0).enc 15).b) % 4 = 2)) ∧
    ((encFilt.f (R.ENC_CFG_EN 15) = 1) ∧ (encFilt.f (R.ENC_CFG_MODE 15) = 0) ∧ (false = if encFilt.f (R.ENC_CFG_FILT 15) ≤ 2 then true else (encFilt.enc 15).a) ∧ (true = if encFilt.f (R.ENC_CFG_FILT 15) ≤ 3 then true else (encFilt.enc 15).b) ∧ ((quadPhase false true + 4 - quadPhase (encFilt.enc 15).a (encFilt.enc 15).b) % 4 = 3)) ∧
    (((encSer 5009).encSerial 15 = true) ∧ ((encSer 5009).f (R.ENC_SPER_SPER 15) ≠ 0) ∧ (((encSer 5009).enc 15).xfer = none) ∧ (((encSer 5009).enc 15).lastStart + (encSer 5009).f (R.ENC_SPER_SPER 15) / 2 < (encSer 5009).serialInstant 15)) ∧
    (((encXfer.enc 15).xfer = some 5) ∧ (encXfer.serialOk 15 (rxBits 4) = true)) ∧
    (((encXfer.enc 15).xfer = some 5) ∧ (encXfer.serialOk 15 (rxBits 3) = false)) ∧
    (((encArmed 2).f (R.ENC_CFG_EN 15) = 1) ∧ (((encArmed 2).enc 15).lreq = latchCode LatchSrc.index) ∧ ((encArmed 2).f (R.ENC_STAT_LVAL 15) = 0) ∧ ((encArmed 2).edgeActive 15 LatchSrc.index true = true)) ∧
    (((encArmed 2).f (R.ENC_CFG_EN 15) = 1) ∧ (((encArmed 2).enc 15).lreq = latchCode LatchSrc.index) ∧ ((encArmed 2).f (R.ENC_STAT_LVAL 15) = 0) ∧ (((encArmed 2).enc 15).lreq ≠ latchCode LatchSrc.index ∨ (encArmed 2).f (R.ENC_STAT_LVAL 15) = 1 ∨ (encArmed 2).edgeActive 15 LatchSrc.index false = false)) ∧
    (((encArmed 4).f (R.ENC_CFG_EN 15) = 1) ∧ (((encArmed 4).enc 15).lreq = latchCode LatchSrc.limNeg) ∧ ((encArmed 4).f (R.ENC_STAT_LVAL 15) = 0) ∧ ((encArmed 4).edgeActive 15 LatchSrc.limNeg true = true)) ∧
    (((encArmed 2).f (R.ENC_CFG_EN 15) = 1) ∧ (((encArmed 2).enc 15).lreq ≠ latchCode LatchSrc.ref ∨ (encArmed 2).f (R.ENC_STAT_LVAL 15) = 1 ∨ (encArmed 2).edgeActive 15 LatchSrc.ref true = false)) ∧
    ((HostOpen ready) ∧ (ready.f (R.ENC_CFG_EN 15) = 0) ∧ ((ready.plainWrite (R.ENC_CFG 15) ((1 : Word) ||| (1 : Word))).encTest 15 = true)) ∧
    ((HostOpen ready) ∧ (ready.f (R.ENC_CFG_EN 15) = 0) ∧ ((ready.plainWrite (R.ENC_CFG 15) ((7 : Word) ||| (1 : Word))).encTest 15 = false)) ∧
    ((HostOpen ready) ∧ (ready.f (R.ENC_CFG_EN 15) = 0) ∧ ((ready.plainWrite (R.ENC_CFG 15) ((3 : Word) ||| (1 : Word))).encTest 15 = false)) := by
  and_intros <;> decide +kernel

/-- The hypotheses of `StepsAndConversions` can be met. -/
theorem witness_StepsAndConversions :
    (((stpOn (0 : BitVec 64) 0).f (R.STP_STAT_RUN 31) = 1) ∧ (((stpOn (0 : BitVec 64) 0).stp 31).planned < (stpOn (0 : BitVec 64) 0).cyc.t0) ∧ ((0 : Int) = (stpOn (0 : BitVec 64) 0).stpTarget 31 - (stpOn (0 : BitVec 64) 0).stpCount 31) ∧ ((stpOn (0 : BitVec 64) 0).f (R.STP_LAGMAX_LAGMAX 31) = 0 ∨ Int.natAbs (0 : Int) ≤ (stpOn (0 : BitVec 64) 0).f (R.STP_LAGMAX_LAGMAX 31))) ∧
    (((stpOn (5 : BitVec 64) 5).f (R.STP_STAT_RUN 31) = 1) ∧ (((stpOn (5 : BitVec 64) 5).stp 31).planned < (stpOn (5 : BitVec 64) 5).cyc.t0) ∧ ((5 : Int) = (stpOn (5 : BitVec 64) 5).stpTarget 31 - (stpOn (5 : BitVec 64) 5).stpCount 31) ∧ ((stpOn (5 : BitVec 64) 5).f (R.STP_LAGMAX_LAGMAX 31) ≠ 0) ∧ ((stpOn (5 : BitVec 64) 5).f (R.STP_LAGMAX_LAGMAX 31) = 0 ∨ Int.natAbs (5 : Int) ≤ (stpOn (5 : BitVec 64) 5).f (R.STP_LAGMAX_LAGMAX 31))) ∧
    (((stpOn ((0 : BitVec 64) - (500 : BitVec 64)) 0).f (R.STP_STAT_RUN 31) = 1) ∧ (((stpOn ((0 : BitVec 64) - (500 : BitVec 64)) 0).stp 31).planned < (stpOn ((0 : BitVec 64) - (500 : BitVec 64)) 0).cyc.t0) ∧ ((-500 : Int) = (stpOn ((0 : BitVec 64) - (500 : BitVec 64)) 0).stpTarget 31 - (stpOn ((0 : BitVec 64) - (500 : BitVec 64)) 0).stpCount 31) ∧ ((stpOn ((0 : BitVec 64) - (500 : BitVec 64)) 0).f (R.STP_LAGMAX_LAGMAX 31) = 0 ∨ (-500 : Int).natAbs ≤ (stpOn ((0 : BitVec 64) - (500 : BitVec 64)) 0).f (R.STP_LAGMAX_LAGMAX 31))) ∧
    (((stpOn (6 : BitVec 64) 5).f (R.STP_STAT_RUN 31) = 1) ∧ (((stpOn (6 : BitVec 64) 5).stp 31).planned < (stpOn (6 : BitVec 64) 5).cyc.t0) ∧ ((6 : Int) = (stpOn (6 : BitVec 64) 5).stpTarget 31 - (stpOn (6 : BitVec 64) 5).stpCount 31) ∧ ((stpOn (6 : BitVec 64) 5).f (R.STP_LAGMAX_LAGMAX 31) ≠ 0) ∧ ((stpOn (6 : BitVec 64) 5).f (R.STP_LAGMAX_LAGMAX 31) < Int.natAbs (6 : Int))) ∧
    (((stpFall.stp 31).pulseEnd = some 25000) ∧ (25000 ≤ stpFall.clk)) ∧
    (((stpTurn.stp 31).pulseEnd = none) ∧ ((stpTurn.stp 31).dirDue = some (25000, true)) ∧ (25000 ≤ stpTurn.clk)) ∧
    ((HostOpen ready) ∧ (ready.f (R.STP_CFG_EN 31) = 0)) ∧
    (((stpRise.stp 31).pulseEnd = none) ∧ ((stpRise.stp 31).dirDue = none) ∧ ((stpRise.stp 31).plan = some (StepPlan.mk 0 1 0 true 0)) ∧ (stpRise.nextStep (stpRise.stp 31) = some 12500) ∧ (12500 ≤ stpRise.clk) ∧ (stpRise.reg (R.STP_POS 31) = BitVec.ofInt 32 (stpRise.stpCount 31))) ∧
    (((adcDue 0).acq.adcAt ≤ (adcDue 0).clk)) ∧
    (((adcDue 15).acq.adcAt ≤ (adcDue 15).clk)) := by
  and_intros <;> decide +kernel

/-- The hypotheses of `CaptureSessionsRun` can be met. -/
theorem witness_CaptureSessionsRun :
    ((HostOpen acqSet) ∧ ((1 : Word) &&& (7 : Word) = (1 : Word)) ∧ (acqSet.acqRuns = false) ∧ (acqSet.armOk = true)) ∧
    ((HostOpen ready) ∧ ((1 : Word) &&& (7 : Word) = (1 : Word)) ∧ (ready.acqRuns = false) ∧ (ready.armOk = false)) ∧
    ((HostOpen (acqIn 1 none)) ∧ ((2 : Word) &&& (7 : Word) = (2 : Word)) ∧ ((acqIn 1 none).acqRuns = true)) ∧
    ((draining.acq.draining = true)) ∧
    ((HostOpen (acqIn 2 none)) ∧ ((4 : Word) &&& (7 : Word) = (4 : Word)) ∧ ((acqIn 2 none).acqRuns = true) ∧ ((acqIn 2 none).acq.pend = none)) ∧
    (((acqIn 0 none).tickDue = true) ∧ (firstTick (acqIn 0 none).acq.runs = some 80) ∧ ((acqIn 0 none).acqRuns = false)) ∧
    ((acqDeck.tickDue = true) ∧ (firstTick acqDeck.acq.runs = some 80) ∧ (acqDeck.acqRuns = false) ∧ (List.filter (fun k => deckKind (acqDeck.chSrc k).kind && (acqDeck.chSrc k).ok) channels ≠ [])) ∧
    (((acqIn 2 (some (TrigPending.mk 0 true NetTime.zero (0 : BitVec 64)))).tickDue = true) ∧ (firstTick (acqIn 2 (some (TrigPending.mk 0 true NetTime.zero (0 : BitVec 64)))).acq.runs = some 80) ∧ (List.filter (fun k => deckKind ((acqIn 2 (some (TrigPending.mk 0 true NetTime.zero (0 : BitVec 64)))).chSrc k).kind && ((acqIn 2 (some (TrigPending.mk 0 true NetTime.zero (0 : BitVec 64)))).chSrc k).ok) channels = []) ∧ ((acqIn 2 (some (TrigPending.mk 0 true NetTime.zero (0 : BitVec 64)))).acq.shot = none) ∧ ((acqIn 2 (some (TrigPending.mk 0 true NetTime.zero (0 : BitVec 64)))).f R.ACQ_STAT_STATE = 2) ∧ ((acqIn 2 (some (TrigPending.mk 0 true NetTime.zero (0 : BitVec 64)))).acq.draining = false) ∧ ((acqIn 2 (some (TrigPending.mk 0 true NetTime.zero (0 : BitVec 64)))).acq.nextSeg = false) ∧ ((acqIn 2 (some (TrigPending.mk 0 true NetTime.zero (0 : BitVec 64)))).acq.fifo = []) ∧ ((acqIn 2 (some (TrigPending.mk 0 true NetTime.zero (0 : BitVec 64)))).acq.ddrQ = []) ∧ (blockSize (acqIn 2 (some (TrigPending.mk 0 true NetTime.zero (0 : BitVec 64)))).acq.chans.length ≤ 262144) ∧ ((acqIn 2 (some (TrigPending.mk 0 true NetTime.zero (0 : BitVec 64)))).acq.seg.post < (acqIn 2 (some (TrigPending.mk 0 true NetTime.zero (0 : BitVec 64)))).acq.post) ∧ (∀ (m : Fin 8), (acqIn 2 (some (TrigPending.mk 0 true NetTime.zero (0 : BitVec 64)))).f (R.ACQ_MK_CFG_EN ↑m) = 0) ∧ ((acqIn 2 (some (TrigPending.mk 0 true NetTime.zero (0 : BitVec 64)))).acq.pend = some (TrigPending.mk 0 true NetTime.zero (0 : BitVec 64))) ∧ ((TrigPending.mk 0 true NetTime.zero (0 : BitVec 64)).soft = true ∨ (TrigPending.mk 0 true NetTime.zero (0 : BitVec 64)).units ≠ 0)) ∧
    (((acqIn 2 (some (TrigPending.mk 1 false NetTime.zero (0 : BitVec 64)))).tickDue = true) ∧ (firstTick (acqIn 2 (some (TrigPending.mk 1 false NetTime.zero (0 : BitVec 64)))).acq.runs = some 80) ∧ (List.filter (fun k => deckKind ((acqIn 2 (some (TrigPending.mk 1 false NetTime.zero (0 : BitVec 64)))).chSrc k).kind && ((acqIn 2 (some (TrigPending.mk 1 false NetTime.zero (0 : BitVec 64)))).chSrc k).ok) channels = []) ∧ ((acqIn 2 (some (TrigPending.mk 1 false NetTime.zero (0 : BitVec 64)))).acq.shot = none) ∧ ((acqIn 2 (some (TrigPending.mk 1 false NetTime.zero (0 : BitVec 64)))).f R.ACQ_STAT_STATE = 2) ∧ ((acqIn 2 (some (TrigPending.mk 1 false NetTime.zero (0 : BitVec 64)))).acq.draining = false) ∧ ((acqIn 2 (some (TrigPending.mk 1 false NetTime.zero (0 : BitVec 64)))).acq.nextSeg = false) ∧ ((acqIn 2 (some (TrigPending.mk 1 false NetTime.zero (0 : BitVec 64)))).acq.fifo = []) ∧ ((acqIn 2 (some (TrigPending.mk 1 false NetTime.zero (0 : BitVec 64)))).acq.ddrQ = []) ∧ (blockSize (acqIn 2 (some (TrigPending.mk 1 false NetTime.zero (0 : BitVec 64)))).acq.chans.length ≤ 262144) ∧ ((acqIn 2 (some (TrigPending.mk 1 false NetTime.zero (0 : BitVec 64)))).acq.seg.post < (acqIn 2 (some (TrigPending.mk 1 false NetTime.zero (0 : BitVec 64)))).acq.post) ∧ (∀ (m : Fin 8), (acqIn 2 (some (TrigPending.mk 1 false NetTime.zero (0 : BitVec 64)))).f (R.ACQ_MK_CFG_EN ↑m) = 0) ∧ ((acqIn 2 (some (TrigPending.mk 1 false NetTime.zero (0 : BitVec 64)))).acq.pend = some (TrigPending.mk 1 false NetTime.zero (0 : BitVec 64))) ∧ ((TrigPending.mk 1 false NetTime.zero (0 : BitVec 64)).soft = true ∨ (TrigPending.mk 1 false NetTime.zero (0 : BitVec 64)).units ≠ 0)) ∧
    ((HostOpen trgBad) ∧ (BitVec.getLsbD (1 : Word) 0 = true) ∧ (5 ≤ bitsOf (BitVec.toNat (1 : Word)) 1 3 ∨ fLt (trgBad.reg (R.TRG_HI 15)) (trgBad.reg (R.TRG_LO 15)) = true) ∧ (bitsOf (BitVec.toNat (1 : Word)) 1 3 ≤ 4)) ∧
    ((HostOpen ready) ∧ (BitVec.getLsbD (1 : Word) 0 = true) ∧ (bitsOf (BitVec.toNat (1 : Word)) 1 3 ≤ 4) ∧ (fLt (ready.reg (R.TRG_HI 15)) (ready.reg (R.TRG_LO 15)) = false) ∧ (ready.f (R.TRG_CFG_EN 15) = 0)) ∧
    ((HostOpen ready) ∧ (BitVec.getLsbD (11 : Word) 0 = true) ∧ (5 ≤ bitsOf (BitVec.toNat (11 : Word)) 1 3 ∨ fLt (ready.reg (R.TRG_HI 15)) (ready.reg (R.TRG_LO 15)) = true)) ∧
    ((HostOpen ready) ∧ (BitVec.getLsbD (9 : Word) 0 = true) ∧ (bitsOf (BitVec.toNat (9 : Word)) 1 3 ≤ 4) ∧ (fLt (ready.reg (R.TRG_HI 15)) (ready.reg (R.TRG_LO 15)) = false) ∧ (ready.f (R.TRG_CFG_EN 15) = 0)) := by
  and_intros <;> decide +kernel

/-- The hypotheses of `MarksAndCaptureMemory` can be met. -/
theorem witness_MarksAndCaptureMemory :
    ((((markClosed 0).mark 15).closeAt = some 12) ∧ (((markClosed 0).mark 15).edges = 0)) ∧
    ((((markClosed 1).mark 15).closeAt = some 12) ∧ (1 ≤ ((markClosed 1).mark 15).edges)) ∧
    ((((markClosed 2).mark 15).closeAt = some 12) ∧ (1 ≤ ((markClosed 2).mark 15).edges)) ∧
    ((HostOpen (acqIn 3 none)) ∧ (BitVec.getLsbD (1 : Word) 0 = true) ∧ ((acqIn 3 none).acqRuns = true)) ∧
    ((HostOpen ready) ∧ (BitVec.getLsbD (1 : Word) 0 = true) ∧ (ready.acqRuns = false)) ∧
    ((((markDone none).mark 15).results = [(20, none)]) ∧ (20 ≤ (markDone none).clk)) ∧
    ((((markDone (some (9 : Word))).mark 15).results = [(20, some (9 : Word))]) ∧ (20 ≤ (markDone (some (9 : Word))).clk)) ∧
    (((acqIn 3 none).f R.DDR_UE_ADDR_VALID = 0) ∧ ((acqIn 3 none).acqRuns = true)) ∧
    ((ready.f R.DDR_UE_ADDR_VALID = 0)) ∧
    (((acqIn 3 none).acqRuns = true)) ∧
    (((training 0).f R.DDR_CTL_TRAIN = 1) ∧ (true = true) ∧ ((training 0).f R.DDR_CFG_RATE ≠ 3) ∧ ((training 0).pllLocked 1 = true)) ∧
    (((training 3).f R.DDR_CTL_TRAIN = 1) ∧ (true = true) ∧ (true = false ∨ (training 3).f R.DDR_CFG_RATE = 3 ∨ (training 3).pllLocked 1 = false)) ∧
    (((training 0).f R.DDR_CTL_TRAIN = 1) ∧ (false = false ∨ (training 0).f R.DDR_CFG_RATE = 3 ∨ (training 0).pllLocked 1 = false)) := by
  and_intros <;> decide +kernel

/-- The hypotheses of `SafetyCyclesAndFaults` can be met. -/
theorem witness_SafetyCyclesAndFaults :
    (((kstIn 1).krefLost = false)) ∧
    (((kstIn 0).kst.cycleAt ≤ (kstIn 0).kst.k0.now) ∧ ((kstIn 0).kstHeld = false) ∧ ((kstIn 0).kstState ≠ 1) ∧ ((kstIn 0).kstState ≠ 5) ∧ (((kstIn 0).kst.k0.ackOp && (kstIn 0).kst.k1.ackOp) = false)) ∧
    (((kstIn 5).kst.cycleAt ≤ (kstIn 5).kst.k0.now) ∧ ((kstIn 5).kstHeld = true ∨ (kstIn 5).kstState = 5) ∧ ((kstIn 5).kstHeld = false) ∧ ((kstIn 5).kstState ≠ 1)) ∧
    ((ready.kst.cycleAt ≤ ready.kst.k0.now) ∧ (ready.kstHeld = true ∨ ready.kstState = 5)) ∧
    (((kstFn fn15 SafeFunc.waiting).kst.cycleAt ≤ (kstFn fn15 SafeFunc.waiting).kst.k0.now) ∧ ((kstFn fn15 SafeFunc.waiting).kstHeld = false) ∧ ((kstFn fn15 SafeFunc.waiting).kstState = 1) ∧ (15 < 16) ∧ (fnType (kstFn fn15 SafeFunc.waiting).kst.img 15 ≠ 0) ∧ (((kstFn fn15 SafeFunc.waiting).kst.k0.fn 15).sto = true ∨ ((kstFn fn15 SafeFunc.waiting).kst.k1.fn 15).sto = true)) ∧
    (((kstIn 1).kstHeld = false) ∧ ((kstIn 1).kstState ≠ 5)) ∧
    (((kstIn 0).kstHeld = false) ∧ ((kstIn 0).kstState ≠ 5)) ∧
    (((kstIn 1).kstAlive = true) ∧ ((kstIn 1).kst.testAt + 1000 * (kstIn 1).kst.k0.per ≤ (kstIn 1).kst.k0.now) ∧ (true = true)) ∧
    (((kstIn 1).kstAlive = true) ∧ ((kstIn 1).kst.testAt + 1000 * (kstIn 1).kst.k0.per ≤ (kstIn 1).kst.k0.now) ∧ (false = false)) ∧
    (((kstIn 1).kstAlive = true)) := by
  and_intros <;> decide +kernel

/-- The hypotheses of `KeystoneTimersAndFlow` can be met. -/
theorem witness_KeystoneTimersAndFlow :
    ((kstSpan.kstAlive = true) ∧ (kstSpan.kst.builtBc ≠ some kstSpan.cyc.bcIdx) ∧ (kstSpan.kst.hasImg = true) ∧ (kstSpan.spanRuns = true)) ∧
    ((disagree.kstAlive = true) ∧ ((disagree.kst.k0.inp 15).st ≠ InputState.fault) ∧ ((disagree.kst.k0.inp 15).discAt = some 5) ∧ (5 + inTd disagree.kst.img 15 * disagree.kst.k0.per < disagree.kst.k0.now) ∧ ((disagree.kst.k1.inp 15).st ≠ InputState.fault) ∧ ((disagree.kst.k1.inp 15).discAt = some 5) ∧ (5 + inTd disagree.kst.img 15 * disagree.kst.k1.per < disagree.kst.k1.now)) ∧
    ((timerOver.kstAlive = true) ∧ ((timerOver.kst.k0.fn 15).t1 = some 800000000) ∧ (800000000 ≤ timerOver.kst.k0.now) ∧ ((timerOver.kst.k1.fn 15).t1 = some 800000000) ∧ (800000000 ≤ timerOver.kst.k1.now)) ∧
    ((unlockReq.kstAlive = true) ∧ (unlockReq.kstState = 1) ∧ (fnType unlockReq.kst.img 15 = 2) ∧ ((unlockReq.kst.k0.fn 15).req = true) ∧ ((unlockReq.kst.k0.fn 15).sto = true) ∧ (∀ z < 16, (fnZones unlockReq.kst.img 15).testBit z = true → ∃ c, tabGet (fun _ => none) unlockReq.kst.k0.stoAt z = some c ∧ c + fnTUnlock unlockReq.kst.img 15 * unlockReq.kst.k0.per ≤ unlockReq.kst.k0.now)) ∧
    (((kstFn lock15 SafeFunc.waiting).kstAlive = true) ∧ ((kstFn lock15 SafeFunc.waiting).kstState = 1) ∧ (fnType (kstFn lock15 SafeFunc.waiting).kst.img 15 = 2) ∧ (((kstFn lock15 SafeFunc.waiting).kst.k0.fn 15).req = false ∨ ((kstFn lock15 SafeFunc.waiting).kst.k0.fn 15).sto = false)) ∧
    ((lockLate.kstAlive = true) ∧ (fnType lockLate.kst.img 15 = 2) ∧ (lockLate.kst.k0.inRun (fnIn2 lockLate.kst.img 15) = false) ∧ ((lockLate.kst.k0.fn 15).wait = some 9) ∧ (9 ≤ lockLate.kst.k0.now)) ∧
    ((kstSilent.kstAlive = true) ∧ (kstSilent.kst.hasImg = true) ∧ (kstSilent.spanRuns = true) ∧ (kstSilent.ring.live = true) ∧ (∀ m ∈ kstSilent.ring.set_, m < 256) ∧ (1 ∈ kstSilent.ring.set_) ∧ (∀ x ∈ kstSilent.ring.safeRx, x.stn ≠ 1) ∧ ((kstSilent.watch 1).lastOk = some (0 : Word)) ∧ (↑(imgW kstSilent.kst.img) ≤ kstSilent.bcAgo (0 : Word))) := by
  and_intros <;> decide +kernel

/-- The hypotheses of `ImagesAreConfirmed` can be met. -/
theorem witness_ImagesAreConfirmed :
    (((fwReq 1 (1 : Word) true).takeRequest 1 = some (fwTaken 1 (1 : Word) true)) ∧ ((fwReq 1 (1 : Word) true).kstHeld = false) ∧ ((fwReq 1 (1 : Word) true).kstState = 1)) ∧
    (((kstConf none true).kstHeld = false) ∧ ((kstConf none true).kstState = 0) ∧ ((kstConf none true).kst.conf = none)) ∧
    (((fwReq 3 (2 : Word) true).takeRequest 2 = some (fwTaken 3 (2 : Word) true)) ∧ ((fwReq 3 (2 : Word) true).kstHeld = false) ∧ ((fwReq 3 (2 : Word) true).kstState ≠ 1) ∧ ((fwReq 3 (2 : Word) true).kstState ≠ 5) ∧ ((fwReq 3 (2 : Word) true).kst.hasImg = true)) ∧
    (((fwReq 3 (2 : Word) false).takeRequest 2 = some (fwTaken 3 (2 : Word) false)) ∧ ((fwReq 3 (2 : Word) false).kstHeld = false) ∧ ((fwReq 3 (2 : Word) false).kstState ≠ 1) ∧ ((fwReq 3 (2 : Word) false).kstState ≠ 5) ∧ ((fwReq 3 (2 : Word) false).kst.hasImg = false)) ∧
    (((kstImg 2 fn15).kstHeld = false) ∧ (2 ≤ (kstImg 2 fn15).kstState) ∧ ((kstImg 2 fn15).kstState ≤ 4) ∧ ((kstImg 2 fn15).kst.fwEnd ≤ (kstImg 2 fn15).kst.k0.now)) ∧
    (((kstIn 4).kstHeld = false) ∧ (2 ≤ (kstIn 4).kstState) ∧ ((kstIn 4).kstState ≤ 4) ∧ ((kstIn 4).kst.fwEnd ≤ (kstIn 4).kst.k0.now)) ∧
    ((HostOpen (kstIn 3)) ∧ (4092 < 4096) ∧ (4092 % 4 = 0) ∧ ((kstIn 3).kstState = 0 ∨ (kstIn 3).kstState = 3) ∧ ((kstIn 3).kstState ≠ 0)) ∧
    ((HostOpen (kstIn 1)) ∧ (0 < 4096) ∧ (0 % 4 = 0) ∧ ((kstIn 1).kstState ≠ 0) ∧ ((kstIn 1).kstState ≠ 3)) ∧
    (((kstEmpty (7 : Word)).kstHeld = false) ∧ ((kstEmpty (7 : Word)).kstState = 0) ∧ ((kstEmpty (7 : Word)).kst.conf = some (7 : Word)) ∧ ((kstEmpty (7 : Word)).kst.winSet = false ∨ imgValidate (kstEmpty (7 : Word)).winImage ≠ 0 ∨ imgCheck (kstEmpty (7 : Word)).winImage ≠ (7 : Word))) := by
  and_intros <;> decide +kernel

/-- The hypotheses of `TheLeaseIsKeptAndTaken` can be met. -/
theorem witness_TheLeaseIsKeptAndTaken :
    (((pylon 2).twin = true) ∧ (hcrcOk ringSync.bytes = true) ∧ (fcsOk ringSync.bytes = true) ∧ ((pylon 2).isRingHb 3 (parseHeader ringSync.bytes) = true)) ∧
    (((leaseLate true).twin = true) ∧ ((leaseLate true).role = 2) ∧ ((leaseLate true).leaseOver = true)) ∧
    (((leaseLate false).twin = true) ∧ ((leaseLate false).role = 2) ∧ ((leaseLate false).leaseOver = true)) ∧
    (((pylon 1).twin = true) ∧ ((pylon 1).role = 1) ∧ ((pylon 1).partnerGone = true)) ∧
    ((HostOpen holderReady) ∧ (holderReady.isHolder = true) ∧ (holderReady.f R.TWN_PARTNER_READY = 1)) ∧
    ((HostOpen (pylon 2)) ∧ ((pylon 2).isHolder = false ∨ (pylon 2).f R.TWN_PARTNER_READY = 0)) ∧
    (((pylon 2).twin = true) ∧ ((pylon 2).twn.linkUp = true) ∧ (pairCrcOk (hbBytes 2 1) = true) ∧ (parseHb (hbBytes 2 1) = some ((parseHb (hbBytes 2 1)).getD (hbOf ready))) ∧ ((pylon 2).role = 2) ∧ ((pylon 2).twn.pairAt = none) ∧ (((parseHb (hbBytes 2 1)).getD (hbOf ready)).holder = true) ∧ (((parseHb (hbBytes 2 1)).getD (hbOf ready)).epoch = (pylon 2).f R.TWN_EPOCH_EPOCH)) ∧
    (((pylon 1).twin = true) ∧ ((pylon 1).twn.linkUp = true)) ∧
    (((pylon 2).twin = true) ∧ ((pylon 2).twn.linkUp = true) ∧ (pairCrcOk [(1 : Byte), (2 : Byte), (3 : Byte)] = false)) ∧
    (((copyState (0 : Word)).twin = true) ∧ (3 < 4) ∧ (isX1 3 = true) ∧ ((copyState (0 : Word)).hasX1 (ringOfPort 3) = true) ∧ (frameCheck copyFrame.bytes = FrameCheck.good) ∧ (hdrWrap (parseHeader copyFrame.bytes) = false) ∧ ((parseHeader copyFrame.bytes).src = (copyState (0 : Word)).ownAddr) ∧ ((parseHeader copyFrame.bytes).hid = (copyState (0 : Word)).zlpF R.ZLP_CFG_HID) ∧ (tabGet (fun _ => none) (copyState (0 : Word)).twn.txCrc (2 * hdrWin (parseHeader copyFrame.bytes) + hdrHalf (parseHeader copyFrame.bytes)) = some ((parseHeader copyFrame.bytes).seq, (parseHeader copyFrame.bytes).type, (0 : Word))) ∧ ((0 : Word) ≠ wordOf (crc32 (comparePart (parseHeader copyFrame.bytes).type (payloadOf copyFrame.bytes))))) ∧
    (((copyState (wordOf (crc32 (comparePart 3 (payloadOf copyFrame.bytes))))).twin = true) ∧ (3 < 4) ∧ (isX1 3 = true) ∧ ((copyState (wordOf (crc32 (comparePart 3 (payloadOf copyFrame.bytes))))).hasX1 (ringOfPort 3) = true) ∧ (frameCheck copyFrame.bytes = FrameCheck.good) ∧ (hdrWrap (parseHeader copyFrame.bytes) = false) ∧ ((parseHeader copyFrame.bytes).src = (copyState (wordOf (crc32 (comparePart 3 (payloadOf copyFrame.bytes))))).ownAddr) ∧ ((parseHeader copyFrame.bytes).hid = (copyState (wordOf (crc32 (comparePart 3 (payloadOf copyFrame.bytes))))).zlpF R.ZLP_CFG_HID) ∧ (tabGet (fun _ => none) (copyState (wordOf (crc32 (comparePart 3 (payloadOf copyFrame.bytes))))).twn.txCrc (2 * hdrWin (parseHeader copyFrame.bytes) + hdrHalf (parseHeader copyFrame.bytes)) = some ((parseHeader copyFrame.bytes).seq, (parseHeader copyFrame.bytes).type, wordOf (crc32 (comparePart 3 (payloadOf copyFrame.bytes))))) ∧ (wordOf (crc32 (comparePart 3 (payloadOf copyFrame.bytes))) = wordOf (crc32 (comparePart (parseHeader copyFrame.bytes).type (payloadOf copyFrame.bytes))))) := by
  and_intros <;> decide +kernel

/-- The hypotheses of `PylonsPairAndJoin` can be met. -/
theorem witness_PylonsPairAndJoin :
    (((installing (6 : Word)).role = 3) ∧ ((installing (6 : Word)).twn.states = [(7, (6 : Word), List.replicate 512 (1 : Byte))]) ∧ ((installing (6 : Word)).ringAxes.contains 7 = true) ∧ ((0 : Int) < BitVec.toInt ((installing (6 : Word)).cyc.bcIdx - (6 : Word))) ∧ ((installing (6 : Word)).axisState 7 = 1)) ∧
    (((installing (7 : Word)).role = 3) ∧ ((installing (7 : Word)).twn.states = [(7, (7 : Word), List.replicate 512 (1 : Byte))]) ∧ ((installing (7 : Word)).ringAxes.contains 7 = true) ∧ (BitVec.toInt ((installing (7 : Word)).cyc.bcIdx - (7 : Word)) ≤ (0 : Int))) ∧
    (((pylon 2).twin = true) ∧ ((pylon 2).twn.linkUp = true) ∧ (pairCrcOk markFrame = true) ∧ (markFrame.length = 16) ∧ (pairField markFrame 0 1 = 5) ∧ ((pylon 2).role = 2) ∧ ((pylon 2).ring.live = false) ∧ (aheadOf (ntFix (pylon 2).nt) (100 * 2 ^ 32) = aheadOf ((ntFix (pylon 2).nt - ((pylon 2).clk - 30000) * (pylon 2).inc.toNat) % (nsPerSec * 2 ^ 32)) (pairField markFrame 4 4 * 2 ^ 32 + pairField markFrame 8 4))) ∧
    (((pylon 2).twin = true)) ∧
    ((HostOpen (pairReady 0 9 none)) ∧ ((pairReady 0 9 none).pairOpen = true) ∧ ((pairReady 0 9 none).twn.hb = some (hbOf (pairReady 0 9 none))) ∧ ((pairReady 0 9 none).twn.info = some (infoOf (pairReady 0 9 none))) ∧ ((pairReady 0 9 none).pairItem (hbOf (pairReady 0 9 none)) (infoOf (pairReady 0 9 none)) = none)) ∧
    ((HostOpen (pairReady 0 8 none)) ∧ ((pairReady 0 8 none).pairOpen = true) ∧ ((pairReady 0 8 none).twn.hb = some (hbOf (pairReady 0 8 none))) ∧ ((pairReady 0 8 none).twn.info = some (infoOf (pairReady 0 8 none))) ∧ ((pairReady 0 8 none).pairItem (hbOf (pairReady 0 8 none)) (infoOf (pairReady 0 8 none)) = some (((pairReady 0 8 none).pairItem (hbOf (pairReady 0 8 none)) (infoOf (pairReady 0 8 none))).getD 0))) ∧
    ((HostOpen (pairReady 0 9 (some 6))) ∧ ((pairReady 0 9 (some 6)).pairOpen = true) ∧ ((pairReady 0 9 (some 6)).twn.hb = some (hbOf (pairReady 0 9 (some 6)))) ∧ ((pairReady 0 9 (some 6)).twn.info = some (infoOf (pairReady 0 9 (some 6)))) ∧ ((pairReady 0 9 (some 6)).pairItem (hbOf (pairReady 0 9 (some 6))) (infoOf (pairReady 0 9 (some 6))) = some (((pairReady 0 9 (some 6)).pairItem (hbOf (pairReady 0 9 (some 6))) (infoOf (pairReady 0 9 (some 6)))).getD 0))) ∧
    ((HostOpen ready) ∧ (ready.pairOpen = false)) := by
  and_intros <;> decide +kernel

/-- The hypotheses of `QueuesDoorbellsAndMirroring` can be met. -/
theorem witness_QueuesDoorbellsAndMirroring :
    ((qOn.sysLost = false) ∧ (windowWrite 65472 (List.replicate 16 (7 : Word)) = true) ∧ (qOn.slotHeld (65472 / 16384 : Nat) (65472 % 16384 / 64) = false)) ∧
    ((slotBusy.sysLost = false) ∧ (windowWrite 65472 (List.replicate 16 (7 : Word)) = true) ∧ (slotBusy.slotHeld (65472 / 16384 : Nat) (65472 % 16384 / 64) = true)) ∧
    (((pylon 2).twin = true) ∧ ((pylon 2).twn.linkUp = true) ∧ ((pylon 2).role = 2) ∧ (pairCrcOk mirrorBytes = true) ∧ (parseMirror mirrorBytes = some (mirrorOf none))) ∧
    (((mirrorDue 1 (some tag1)).isHolder = true) ∧ ((mirrorDue 1 (some tag1)).twn.linkUp = true) ∧ (pairCrcOk (ackFrame 7) = true) ∧ ((ackFrame 7).length = 8) ∧ (pairField (ackFrame 7) 0 1 = 3)) ∧
    ((qOn.sysLost = false) ∧ (windowWrite 65472 (List.replicate 16 (7 : Word)) = true) ∧ (qOn.slotHeld (65472 / 16384 : Nat) (65472 % 16384 / 64) = false) ∧ (65471 < 65472 ∨ 65472 + 4 * (List.replicate 16 (7 : Word)).length ≤ 65471)) ∧
    ((qOn.sysLost = false) ∧ (qOn.f R.HIF_CTL_EN = 1) ∧ ((qOn.sqTail 3 + 256 - qOn.sqHead 3) % 256 + (BitVec.toNat (255 : Word) % 256 + 256 - qOn.sqTail 3) % 256 ≤ 255)) ∧
    ((slotBusy.sysLost = false) ∧ (slotBusy.f R.HIF_CTL_EN = 1) ∧ (slotBusy.f R.HIF_CTL_EN = 0 ∨ 255 < (slotBusy.sqTail 3 + 256 - slotBusy.sqHead 3) % 256 + (BitVec.toNat (255 : Word) % 256 + 256 - slotBusy.sqTail 3) % 256)) ∧
    ((slotBusy.sysLost = false) ∧ (slotBusy.f R.HIF_CTL_EN = 1) ∧ ((slotBusy.sqTail 3 + 256 - slotBusy.sqHead 3) % 256 + (BitVec.toNat (254 : Word) % 256 + 256 - slotBusy.sqTail 3) % 256 ≤ 255)) ∧
    ((ready.sysLost = false) ∧ (ready.f R.HIF_CTL_EN = 0 ∨ 255 < (ready.sqTail 0 + 256 - ready.sqHead 0) % 256 + (BitVec.toNat (0 : Word) % 256 + 256 - ready.sqTail 0) % 256)) ∧
    (((qOn.setF R.HIF_CQ_PTR_TAIL 1).sysLost = false) ∧ ((qOn.setF R.HIF_CQ_PTR_TAIL 1).f R.HIF_CTL_EN = 1) ∧ ((BitVec.toNat (1 : Word) % 1024 + 1024 - (qOn.setF R.HIF_CQ_PTR_TAIL 1).f R.HIF_CQ_PTR_HEAD) % 1024 ≤ (qOn.setF R.HIF_CQ_PTR_TAIL 1).cqFill)) ∧
    (((qOn.setF R.HIF_CQ_PTR_TAIL 1).sysLost = false) ∧ ((qOn.setF R.HIF_CQ_PTR_TAIL 1).f R.HIF_CTL_EN = 1) ∧ ((qOn.setF R.HIF_CQ_PTR_TAIL 1).f R.HIF_CTL_EN = 0 ∨ (qOn.setF R.HIF_CQ_PTR_TAIL 1).cqFill < (BitVec.toNat (2 : Word) % 1024 + 1024 - (qOn.setF R.HIF_CQ_PTR_TAIL 1).f R.HIF_CQ_PTR_HEAD) % 1024)) ∧
    ((ready.sysLost = false) ∧ (ready.f R.HIF_CTL_EN = 0 ∨ ready.cqFill < (BitVec.toNat (0 : Word) % 1024 + 1024 - ready.f R.HIF_CQ_PTR_HEAD) % 1024)) ∧
    ((List.find? (mirrorDue 1 (some tag1)).mirrorDue (mirrorDue 1 (some tag1)).twn.mirrors = some (mirrorOf (some tag1))) ∧ ((mirrorOf (some tag1)).tag = some tag1) ∧ ((mirrorOf (some tag1)).acked = false ∨ (mirrorDue 1 (some tag1)).role = 4)) ∧
    ((List.find? (mirrorDue 2 none).mirrorDue (mirrorDue 2 none).twn.mirrors = some (mirrorOf none)) ∧ ((mirrorOf none).tag = none) ∧ ((mirrorDue 2 none).role ≠ 4) ∧ (BitVec.toNat ((mirrorOf none).entry.getD 0 (0 : Word)) % 256 = 17) ∧ (payAxis (mirrorOf none).pay = 159) ∧ (159 < 160) ∧ ((mirrorDue 2 none).axisState 159 = 1 ∨ (mirrorDue 2 none).axisState 159 = 3)) := by
  and_intros <;> decide +kernel

/-- The hypotheses of `PacketsAreFetchedAndChecked` can be met. -/
theorem witness_PacketsAreFetchedAndChecked :
    ((((queued (0 : Word) (0 : Word)).core 1).cur = none) ∧ (((queued (0 : Word) (0 : Word)).core 1).freeAt ≤ (queued (0 : Word) (0 : Word)).clk) ∧ ((queued (0 : Word) (0 : Word)).hif.restart = none) ∧ ((queued (0 : Word) (0 : Word)).sysLost = false) ∧ (List.find? (queued (0 : Word) (0 : Word)).fetchable (coreQueues 1) = some 2) ∧ (List.map (fun i => (queued (0 : Word) (0 : Word)).bar2Word (32768 + 4 * i)) (List.range 16) = List.map (fun i => (queued (0 : Word) (0 : Word)).bar2Word (16384 * 2 + 64 * (queued (0 : Word) (0 : Word)).sqHead 2 + 4 * i)) (List.range 16)) ∧ ((queued (0 : Word) (0 : Word)).cqMay 2 = true) ∧ (BitVec.getLsbD ((List.map (fun i => (queued (0 : Word) (0 : Word)).bar2Word (32768 + 4 * i)) (List.range 16)).getD 0 (0 : Word)) 8 = false) ∧ ((queued (0 : Word) (0 : Word)).packetCheck 2 (List.map (fun i => (queued (0 : Word) (0 : Word)).bar2Word (32768 + 4 * i)) (List.range 16)) = none)) ∧
    ((((queued (256 : Word) (0 : Word)).core 1).cur = none) ∧ (((queued (256 : Word) (0 : Word)).core 1).freeAt ≤ (queued (256 : Word) (0 : Word)).clk) ∧ ((queued (256 : Word) (0 : Word)).hif.restart = none) ∧ ((queued (256 : Word) (0 : Word)).sysLost = false) ∧ (List.find? (queued (256 : Word) (0 : Word)).fetchable (coreQueues 1) = some 2) ∧ (List.map (fun i => (queued (256 : Word) (0 : Word)).bar2Word (32768 + 4 * i)) (List.range 16) = List.map (fun i => (queued (256 : Word) (0 : Word)).bar2Word (16384 * 2 + 64 * (queued (256 : Word) (0 : Word)).sqHead 2 + 4 * i)) (List.range 16)) ∧ ((queued (256 : Word) (0 : Word)).cqMay 2 = true) ∧ (BitVec.getLsbD ((List.map (fun i => (queued (256 : Word) (0 : Word)).bar2Word (32768 + 4 * i)) (List.range 16)).getD 0 (0 : Word)) 8 = true)) ∧
    ((((queued (131089 : Word) (9 : Word)).core 1).cur = none) ∧ (((queued (131089 : Word) (9 : Word)).core 1).freeAt ≤ (queued (131089 : Word) (9 : Word)).clk) ∧ ((queued (131089 : Word) (9 : Word)).hif.restart = none) ∧ ((queued (131089 : Word) (9 : Word)).sysLost = false) ∧ (List.find? (queued (131089 : Word) (9 : Word)).fetchable (coreQueues 1) = some 2) ∧ (List.map (fun i => (queued (131089 : Word) (9 : Word)).bar2Word (32768 + 4 * i)) (List.range 16) = List.map (fun i => (queued (131089 : Word) (9 : Word)).bar2Word (16384 * 2 + 64 * (queued (131089 : Word) (9 : Word)).sqHead 2 + 4 * i)) (List.range 16)) ∧ ((queued (131089 : Word) (9 : Word)).cqMay 2 = true) ∧ (BitVec.getLsbD ((List.map (fun i => (queued (131089 : Word) (9 : Word)).bar2Word (32768 + 4 * i)) (List.range 16)).getD 0 (0 : Word)) 8 = false)) ∧
    ((((queued (196626 : Word) (9 : Word)).core 1).cur = none) ∧ (((queued (196626 : Word) (9 : Word)).core 1).freeAt ≤ (queued (196626 : Word) (9 : Word)).clk) ∧ ((queued (196626 : Word) (9 : Word)).hif.restart = none) ∧ ((queued (196626 : Word) (9 : Word)).sysLost = false) ∧ (List.find? (queued (196626 : Word) (9 : Word)).fetchable (coreQueues 1) = some 2) ∧ (List.map (fun i => (queued (196626 : Word) (9 : Word)).bar2Word (32768 + 4 * i)) (List.range 16) = List.map (fun i => (queued (196626 : Word) (9 : Word)).bar2Word (16384 * 2 + 64 * (queued (196626 : Word) (9 : Word)).sqHead 2 + 4 * i)) (List.range 16)) ∧ ((queued (196626 : Word) (9 : Word)).cqMay 2 = true) ∧ (BitVec.getLsbD ((List.map (fun i => (queued (196626 : Word) (9 : Word)).bar2Word (32768 + 4 * i)) (List.range 16)).getD 0 (0 : Word)) 8 = false) ∧ ((queued (196626 : Word) (9 : Word)).packetCheck 2 (List.map (fun i => (queued (196626 : Word) (9 : Word)).bar2Word (32768 + 4 * i)) (List.range 16)) = none)) ∧
    (((((queued (917522 : Word) (9 : Word)).putReg R.HIF_DMA_LIM_LO (52 : Word)).core 1).cur = none) ∧ ((((queued (917522 : Word) (9 : Word)).putReg R.HIF_DMA_LIM_LO (52 : Word)).core 1).freeAt ≤ ((queued (917522 : Word) (9 : Word)).putReg R.HIF_DMA_LIM_LO (52 : Word)).clk) ∧ (((queued (917522 : Word) (9 : Word)).putReg R.HIF_DMA_LIM_LO (52 : Word)).hif.restart = none) ∧ (((queued (917522 : Word) (9 : Word)).putReg R.HIF_DMA_LIM_LO (52 : Word)).sysLost = false) ∧ (List.find? ((queued (917522 : Word) (9 : Word)).putReg R.HIF_DMA_LIM_LO (52 : Word)).fetchable (coreQueues 1) = some 2) ∧ (List.map (fun i => (queued (917522 : Word) (9 : Word)).bar2Word (32768 + 4 * i)) (List.range 16) = List.map (fun i => ((queued (917522 : Word) (9 : Word)).putReg R.HIF_DMA_LIM_LO (52 : Word)).bar2Word (16384 * 2 + 64 * ((queued (917522 : Word) (9 : Word)).putReg R.HIF_DMA_LIM_LO (52 : Word)).sqHead 2 + 4 * i)) (List.range 16)) ∧ (((queued (917522 : Word) (9 : Word)).putReg R.HIF_DMA_LIM_LO (52 : Word)).cqMay 2 = true) ∧ (BitVec.getLsbD ((List.map (fun i => (queued (917522 : Word) (9 : Word)).bar2Word (32768 + 4 * i)) (List.range 16)).getD 0 (0 : Word)) 8 = false)) ∧
    (((((queued (917522 : Word) (9 : Word)).putReg R.HIF_DMA_LIM_LO (56 : Word)).core 1).cur = none) ∧ ((((queued (917522 : Word) (9 : Word)).putReg R.HIF_DMA_LIM_LO (56 : Word)).core 1).freeAt ≤ ((queued (917522 : Word) (9 : Word)).putReg R.HIF_DMA_LIM_LO (56 : Word)).clk) ∧ (((queued (917522 : Word) (9 : Word)).putReg R.HIF_DMA_LIM_LO (56 : Word)).hif.restart = none) ∧ (((queued (917522 : Word) (9 : Word)).putReg R.HIF_DMA_LIM_LO (56 : Word)).sysLost = false) ∧ (List.find? ((queued (917522 : Word) (9 : Word)).putReg R.HIF_DMA_LIM_LO (56 : Word)).fetchable (coreQueues 1) = some 2) ∧ (List.map (fun i => (queued (917522 : Word) (9 : Word)).bar2Word (32768 + 4 * i)) (List.range 16) = List.map (fun i => ((queued (917522 : Word) (9 : Word)).putReg R.HIF_DMA_LIM_LO (56 : Word)).bar2Word (16384 * 2 + 64 * ((queued (917522 : Word) (9 : Word)).putReg R.HIF_DMA_LIM_LO (56 : Word)).sqHead 2 + 4 * i)) (List.range 16)) ∧ (((queued (917522 : Word) (9 : Word)).putReg R.HIF_DMA_LIM_LO (56 : Word)).cqMay 2 = true) ∧ (BitVec.getLsbD ((List.map (fun i => (queued (917522 : Word) (9 : Word)).bar2Word (32768 + 4 * i)) (List.range 16)).getD 0 (0 : Word)) 8 = false) ∧ (((queued (917522 : Word) (9 : Word)).putReg R.HIF_DMA_LIM_LO (56 : Word)).packetCheck 2 (List.map (fun i => (queued (917522 : Word) (9 : Word)).bar2Word (32768 + 4 * i)) (List.range 16)) = none)) ∧
    (((cqTight.core 1).cur = none) ∧ ((cqTight.core 1).freeAt ≤ cqTight.clk) ∧ (cqTight.hif.restart = none) ∧ (cqTight.sysLost = false) ∧ (List.find? cqTight.fetchable (coreQueues 1) = some 2) ∧ (List.map (fun i => cqTight.bar2Word (32768 + 4 * i)) (List.range 16) = List.map (fun i => cqTight.bar2Word (16384 * 2 + 64 * cqTight.sqHead 2 + 4 * i)) (List.range 16)) ∧ (cqTight.cqMay 2 = false)) ∧
    (((dmaDone.core 1).cur = some pktDma) ∧ (pktDma.dma = some 5) ∧ (5 ≤ dmaDone.clk) ∧ (dmaDone.hif.restart = none)) ∧
    (((dmaDone.core 1).cur = some pktDma) ∧ (pktDma.dma = some 5) ∧ (5 ≤ dmaDone.clk) ∧ (dmaDone.hif.restart = none) ∧ ((List.replicate 13 (0 : Word)).length = entryLen pktDma.entry)) ∧
    ((((queued (131089 : Word) (9 : Word)).core 1).cur = none) ∧ (((queued (131089 : Word) (9 : Word)).core 1).freeAt ≤ (queued (131089 : Word) (9 : Word)).clk) ∧ ((queued (131089 : Word) (9 : Word)).hif.restart = none) ∧ ((queued (131089 : Word) (9 : Word)).sysLost = false) ∧ (List.find? (queued (131089 : Word) (9 : Word)).fetchable (coreQueues 1) = some 2) ∧ (List.map (fun i => (queued (131089 : Word) (9 : Word)).bar2Word (32768 + 4 * i)) (List.range 16) = List.map (fun i => (queued (131089 : Word) (9 : Word)).bar2Word (16384 * 2 + 64 * (queued (131089 : Word) (9 : Word)).sqHead 2 + 4 * i)) (List.range 16)) ∧ ((queued (131089 : Word) (9 : Word)).cqMay 2 = true) ∧ (BitVec.getLsbD ((List.map (fun i => (queued (131089 : Word) (9 : Word)).bar2Word (32768 + 4 * i)) (List.range 16)).getD 0 (0 : Word)) 8 = false) ∧ ((queued (131089 : Word) (9 : Word)).packetCheck 2 (List.map (fun i => (queued (131089 : Word) (9 : Word)).bar2Word (32768 + 4 * i)) (List.range 16)) = some (((queued (131089 : Word) (9 : Word)).packetCheck 2 (List.map (fun i => (queued (131089 : Word) (9 : Word)).bar2Word (32768 + 4 * i)) (List.range 16))).getD 0))) ∧
    ((((holding ready (pktFence 0)).core 1).cur = some (pktFence 0)) ∧ ((pktFence 0).fence = true) ∧ ((holding ready (pktFence 0)).hif.restart = none) ∧ ((holding ready (pktFence 0)).olderPending (pktFence 0).tag.bell = false) ∧ ((holding ready (pktFence 0)).packetCheck (pktFence 0).tag.sq (pktFence 0).entry = none)) ∧
    ((((holding ready (pktFence 49)).core 1).cur = some (pktFence 49)) ∧ ((pktFence 49).fence = true) ∧ ((holding ready (pktFence 49)).hif.restart = none) ∧ ((holding ready (pktFence 49)).olderPending (pktFence 49).tag.bell = false) ∧ ((holding ready (pktFence 49)).packetCheck (pktFence 49).tag.sq (pktFence 49).entry = some (((holding ready (pktFence 49)).packetCheck 2 (pktFence 49).entry).getD 0))) ∧
    (((olderWaits.core 1).cur = some (pktFence 0)) ∧ ((pktFence 0).fence = true) ∧ (olderWaits.hif.restart = none) ∧ (olderWaits.olderPending (pktFence 0).tag.bell = true)) := by
  and_intros <;> decide +kernel

/-- The hypotheses of `RegisterPacketsComplete` can be met. -/
theorem witness_RegisterPacketsComplete :
    ((Runs (run1 0 []) (1 : Fin 2) 0 (pktOf 0 []))) ∧
    ((Runs (run1 1 []) (1 : Fin 2) 1 (pktOf 1 []))) ∧
    ((Runs (run1 2 [(3145728 : Word), (5 : Word), (4294967292 : Word), (7 : Word)]) (1 : Fin 2) 2 (pktOf 2 [(3145728 : Word), (5 : Word), (4294967292 : Word), (7 : Word)]))) ∧
    ((Runs (run1 2 [wordOf R.ZLP_CFG, (5 : Word)]) (1 : Fin 2) 2 (pktOf 2 [wordOf R.ZLP_CFG, (5 : Word)])) ∧ ((pktOf 2 [wordOf R.ZLP_CFG, (5 : Word)]).pay = [wordOf R.ZLP_CFG, (5 : Word)]) ∧ ((run1 2 [wordOf R.ZLP_CFG, (5 : Word)]).itemsMoved (pktOf 2 [wordOf R.ZLP_CFG, (5 : Word)]).tag = 0) ∧ (inBlocks (BitVec.toNat (wordOf R.ZLP_CFG)) = true) ∧ (isComplement (BitVec.toNat (wordOf R.ZLP_CFG)) = false) ∧ (isPw (BitVec.toNat (wordOf R.ZLP_CFG)) = false) ∧ (isWindow (BitVec.toNat (wordOf R.ZLP_CFG)) = false) ∧ ((findReg (BitVec.toNat (wordOf R.ZLP_CFG))).isSome = true)) ∧
    ((Runs (run1 3 [(16 : Word)]) (1 : Fin 2) 3 (pktOf 3 [(16 : Word)])) ∧ ((run1 3 [(16 : Word)]).mbxItem (pw (pktOf 3 [(16 : Word)]).pay 0) = some (((run1 3 [(16 : Word)]).mbxItem 16).getD [])) ∧ (mbxCode (pw (pktOf 3 [(16 : Word)]).pay 0) ≠ none)) ∧
    ((Runs (run1 3 [(17 : Word)]) (1 : Fin 2) 3 (pktOf 3 [(17 : Word)])) ∧ (mbxCode (pw (pktOf 3 [(17 : Word)]).pay 0) ≠ none) ∧ ((run1 3 [(17 : Word)]).mbxItem (pw (pktOf 3 [(17 : Word)]).pay 0) = none)) ∧
    ((Runs (run1 3 [(153 : Word)]) (1 : Fin 2) 3 (pktOf 3 [(153 : Word)])) ∧ (mbxCode (pw (pktOf 3 [(153 : Word)]).pay 0) = none)) ∧
    ((Runs (run1 3 [(0 : Word)]) (1 : Fin 2) 3 (pktOf 3 [(0 : Word)])) ∧ (mbxCode (pw (pktOf 3 [(0 : Word)]).pay 0) = none)) ∧
    ((Runs (run1 4 [(17 : Word), (999999999 : Word), (1 : Word), (2 : Word), (3 : Word)]) (1 : Fin 2) 4 (pktOf 4 [(17 : Word), (999999999 : Word), (1 : Word), (2 : Word), (3 : Word)])) ∧ (pw (pktOf 4 [(17 : Word), (999999999 : Word), (1 : Word), (2 : Word), (3 : Word)]).pay 0 = 17) ∧ ((pktOf 4 [(17 : Word), (999999999 : Word), (1 : Word), (2 : Word), (3 : Word)]).pay.length = 5) ∧ ((run1 4 [(17 : Word), (999999999 : Word), (1 : Word), (2 : Word), (3 : Word)]).f R.ZLP_SSTAT_STATE = 0) ∧ (pw (pktOf 4 [(17 : Word), (999999999 : Word), (1 : Word), (2 : Word), (3 : Word)]).pay 1 < 1000000000)) ∧
    ((Runs (run1 4 [(17 : Word), (1000000000 : Word), (1 : Word), (2 : Word), (3 : Word)]) (1 : Fin 2) 4 (pktOf 4 [(17 : Word), (1000000000 : Word), (1 : Word), (2 : Word), (3 : Word)])) ∧ (pw (pktOf 4 [(17 : Word), (1000000000 : Word), (1 : Word), (2 : Word), (3 : Word)]).pay 0 = 17) ∧ ((pktOf 4 [(17 : Word), (1000000000 : Word), (1 : Word), (2 : Word), (3 : Word)]).pay.length = 5) ∧ ((run1 4 [(17 : Word), (1000000000 : Word), (1 : Word), (2 : Word), (3 : Word)]).f R.ZLP_SSTAT_STATE = 0) ∧ ((run1 4 [(17 : Word), (1000000000 : Word), (1 : Word), (2 : Word), (3 : Word)]).f R.ZLP_SSTAT_STATE ≠ 0 ∨ 1000000000 ≤ pw (pktOf 4 [(17 : Word), (1000000000 : Word), (1 : Word), (2 : Word), (3 : Word)]).pay 1)) ∧
    ((Runs (run1 4 [(17 : Word), (1000000000 : Word)]) (1 : Fin 2) 4 (pktOf 4 [(17 : Word), (1000000000 : Word)])) ∧ (mbxCode (pw (pktOf 4 [(17 : Word), (1000000000 : Word)]).pay 0) = some (((mbxCode 17).getD (false, 0)).1, ((mbxCode 17).getD (false, 0)).2)) ∧ ((pktOf 4 [(17 : Word), (1000000000 : Word)]).pay.length ≠ 1 + ((mbxCode 17).getD (false, 0)).2) ∧ (pw (pktOf 4 [(17 : Word), (1000000000 : Word)]).pay 0 = 17)) ∧
    ((Runs (run1 4 [(0 : Word), (7 : Word)]) (1 : Fin 2) 4 (pktOf 4 [(0 : Word), (7 : Word)])) ∧ (mbxCode (pw (pktOf 4 [(0 : Word), (7 : Word)]).pay 0) = none)) ∧
    ((Runs (run1 2 [wordOf R.ZLP_CFG, (5 : Word), (4294967292 : Word), (7 : Word)]) (1 : Fin 2) 2 (pktOf 2 [wordOf R.ZLP_CFG, (5 : Word), (4294967292 : Word), (7 : Word)])) ∧ (List.findIdx? (fun x => !inBlocks x.1) (writePairs (pktOf 2 [wordOf R.ZLP_CFG, (5 : Word), (4294967292 : Word), (7 : Word)]).pay) = some 1)) ∧
    ((Runs (run1 2 [wordOf (R.EST_W 0), (5 : Word)]) (1 : Fin 2) 2 (pktOf 2 [wordOf (R.EST_W 0), (5 : Word)])) ∧ ((pktOf 2 [wordOf (R.EST_W 0), (5 : Word)]).pay = [wordOf (R.EST_W 0), (5 : Word)]) ∧ ((run1 2 [wordOf (R.EST_W 0), (5 : Word)]).itemsMoved (pktOf 2 [wordOf (R.EST_W 0), (5 : Word)]).tag = 0) ∧ (inBlocks (BitVec.toNat (wordOf (R.EST_W 0))) = true) ∧ (isComplement (BitVec.toNat (wordOf (R.EST_W 0))) = false) ∧ (isPw (BitVec.toNat (wordOf (R.EST_W 0))) = false) ∧ (isWindow (BitVec.toNat (wordOf (R.EST_W 0))) = false) ∧ ((findReg (BitVec.toNat (wordOf (R.EST_W 0)))).isSome = true) ∧ (firstRule (run1 2 [wordOf (R.EST_W 0), (5 : Word)]) (BitVec.toNat (wordOf (R.EST_W 0))) (5 : Word) regWriteRules = none)) := by
  and_intros <;> decide +kernel

/-- The hypotheses of `AxisPacketsComplete` can be met. -/
theorem witness_AxisPacketsComplete :
    ((159 = payAxis (pktOf 16 [(159 : Word), (0 : Word), (0 : Word)]).pay) ∧ (Runs (run1 16 [(159 : Word), (0 : Word), (0 : Word)]) (1 : Fin 2) 16 (pktOf 16 [(159 : Word), (0 : Word), (0 : Word)])) ∧ (159 ≤ 159) ∧ ((run1 16 [(159 : Word), (0 : Word), (0 : Word)]).axisOn 159 = false)) ∧
    ((159 = payAxis (pktOf 16 [(159 : Word), (0 : Word), (0 : Word)]).pay) ∧ (Runs (holding (pierIn 2) (pktOf 16 [(159 : Word), (0 : Word), (0 : Word)])) (1 : Fin 2) 16 (pktOf 16 [(159 : Word), (0 : Word), (0 : Word)])) ∧ (159 ≤ 159) ∧ ((holding (pierIn 2) (pktOf 16 [(159 : Word), (0 : Word), (0 : Word)])).axisOn 159 = false) ∧ ((((holding (pierIn 2) (pktOf 16 [(159 : Word), (0 : Word), (0 : Word)])).plainWrite (R.AXT_W1 159) ((pktOf 16 [(159 : Word), (0 : Word), (0 : Word)]).pay.getD 2 (0 : Word))).axisFields 159 ((pktOf 16 [(159 : Word), (0 : Word), (0 : Word)]).pay.getD 1 (0 : Word))).enableTest 159 = none)) ∧
    ((160 = payAxis (pktOf 16 [(160 : Word), (0 : Word), (0 : Word)]).pay) ∧ (Runs (run1 16 [(160 : Word), (0 : Word), (0 : Word)]) (1 : Fin 2) 16 (pktOf 16 [(160 : Word), (0 : Word), (0 : Word)])) ∧ (159 < 160)) ∧
    ((159 = payAxis (pktOf 16 [(159 : Word), (0 : Word), (0 : Word)]).pay) ∧ (Runs (axisRun 1 16 [(159 : Word), (0 : Word), (0 : Word)]) (1 : Fin 2) 16 (pktOf 16 [(159 : Word), (0 : Word), (0 : Word)])) ∧ (159 ≤ 159) ∧ ((axisRun 1 16 [(159 : Word), (0 : Word), (0 : Word)]).axisOn 159 = true)) ∧
    ((159 = payAxis (pktOf 17 [(159 : Word)]).pay) ∧ (Runs (axisRun 1 17 [(159 : Word)]) (1 : Fin 2) 17 (pktOf 17 [(159 : Word)])) ∧ (159 ≤ 159) ∧ ((axisRun 1 17 [(159 : Word)]).axisState 159 = 1 ∨ (axisRun 1 17 [(159 : Word)]).axisState 159 = 3) ∧ ((axisRun 1 17 [(159 : Word)]).runningOn 159 = none)) ∧
    ((159 = payAxis (pktOf 17 [(159 : Word)]).pay) ∧ (Runs (axisRun 2 17 [(159 : Word)]) (1 : Fin 2) 17 (pktOf 17 [(159 : Word)])) ∧ (159 ≤ 159) ∧ ((axisRun 2 17 [(159 : Word)]).axisState 159 ≠ 1) ∧ ((axisRun 2 17 [(159 : Word)]).axisState 159 ≠ 3)) ∧
    ((159 = payAxis (pktOf 18 [(159 : Word), (1532 : Word), (7 : Word)]).pay) ∧ (Runs (run1 18 [(159 : Word), (1532 : Word), (7 : Word)]) (1 : Fin 2) 18 (pktOf 18 [(159 : Word), (1532 : Word), (7 : Word)])) ∧ (159 ≤ 159) ∧ (pw (pktOf 18 [(159 : Word), (1532 : Word), (7 : Word)]).pay 1 % 4096 % 4 = 0) ∧ (∀ i < (List.drop 2 (pktOf 18 [(159 : Word), (1532 : Word), (7 : Word)]).pay).length, parWritable (pw (pktOf 18 [(159 : Word), (1532 : Word), (7 : Word)]).pay 1 % 4096 + 4 * i) = true) ∧ ((run1 18 [(159 : Word), (1532 : Word), (7 : Word)]).packetOf (pktOf 18 [(159 : Word), (1532 : Word), (7 : Word)]).tag = some (pktOf 18 [(159 : Word), (1532 : Word), (7 : Word)]))) ∧
    ((159 = payAxis (pktOf 18 [(159 : Word), (1532 : Word), (7 : Word), (8 : Word)]).pay) ∧ (Runs (run1 18 [(159 : Word), (1532 : Word), (7 : Word), (8 : Word)]) (1 : Fin 2) 18 (pktOf 18 [(159 : Word), (1532 : Word), (7 : Word), (8 : Word)])) ∧ (159 ≤ 159) ∧ (pw (pktOf 18 [(159 : Word), (1532 : Word), (7 : Word), (8 : Word)]).pay 1 % 4096 % 4 = 0)) ∧
    ((159 = payAxis (pktOf 18 [(159 : Word), (1533 : Word), (7 : Word), (8 : Word)]).pay) ∧ (Runs (run1 18 [(159 : Word), (1533 : Word), (7 : Word), (8 : Word)]) (1 : Fin 2) 18 (pktOf 18 [(159 : Word), (1533 : Word), (7 : Word), (8 : Word)])) ∧ (159 ≤ 159) ∧ (pw (pktOf 18 [(159 : Word), (1533 : Word), (7 : Word), (8 : Word)]).pay 1 % 4096 % 4 ≠ 0)) ∧
    ((159 = payAxis (pktOf 19 [(159 : Word), (1532 : Word), (1 : Word)]).pay) ∧ (Runs (run1 19 [(159 : Word), (1532 : Word), (1 : Word)]) (1 : Fin 2) 19 (pktOf 19 [(159 : Word), (1532 : Word), (1 : Word)])) ∧ (159 ≤ 159) ∧ (pw (pktOf 19 [(159 : Word), (1532 : Word), (1 : Word)]).pay 1 % 4096 % 4 = 0) ∧ (1 ≤ pw (pktOf 19 [(159 : Word), (1532 : Word), (1 : Word)]).pay 2) ∧ (pw (pktOf 19 [(159 : Word), (1532 : Word), (1 : Word)]).pay 2 ≤ 4) ∧ (pw (pktOf 19 [(159 : Word), (1532 : Word), (1 : Word)]).pay 1 % 4096 + 4 * pw (pktOf 19 [(159 : Word), (1532 : Word), (1 : Word)]).pay 2 ≤ 1536)) ∧
    ((159 = payAxis (pktOf 20 [(159 : Word)]).pay) ∧ (Runs faulted (1 : Fin 2) 20 (pktOf 20 [(159 : Word)])) ∧ (159 ≤ 159) ∧ (faulted.axisState 159 = 3) ∧ (BitVec.getLsbD (faulted.homeDyn 159).status 11 = true)) ∧
    ((159 = payAxis (pktOf 20 [(159 : Word)]).pay) ∧ (Runs (run1 20 [(159 : Word)]) (1 : Fin 2) 20 (pktOf 20 [(159 : Word)])) ∧ (159 ≤ 159) ∧ ((run1 20 [(159 : Word)]).axisState 159 ≠ 3 ∨ BitVec.getLsbD ((run1 20 [(159 : Word)]).homeDyn 159).status 11 = false)) ∧
    ((159 = payAxis (pktOf 16 [(159 : Word), (0 : Word), (0 : Word)]).pay) ∧ (Runs (run1 16 [(159 : Word), (0 : Word), (0 : Word)]) (1 : Fin 2) 16 (pktOf 16 [(159 : Word), (0 : Word), (0 : Word)])) ∧ (159 ≤ 159) ∧ ((run1 16 [(159 : Word), (0 : Word), (0 : Word)]).axisOn 159 = false) ∧ ((((run1 16 [(159 : Word), (0 : Word), (0 : Word)]).plainWrite (R.AXT_W1 159) ((pktOf 16 [(159 : Word), (0 : Word), (0 : Word)]).pay.getD 2 (0 : Word))).axisFields 159 ((pktOf 16 [(159 : Word), (0 : Word), (0 : Word)]).pay.getD 1 (0 : Word))).enableTest 159 = some (((((run1 16 [(159 : Word), (0 : Word), (0 : Word)]).plainWrite (R.AXT_W1 159) (0 : Word)).axisFields 159 (0 : Word)).enableTest 159).getD EnableRefusal.cap))) ∧
    ((160 = payAxis (pktOf 17 [(160 : Word)]).pay) ∧ (Runs (run1 17 [(160 : Word)]) (1 : Fin 2) 17 (pktOf 17 [(160 : Word)])) ∧ (159 < 160)) ∧
    ((160 = payAxis (pktOf 18 [(160 : Word), (1532 : Word), (7 : Word)]).pay) ∧ (Runs (run1 18 [(160 : Word), (1532 : Word), (7 : Word)]) (1 : Fin 2) 18 (pktOf 18 [(160 : Word), (1532 : Word), (7 : Word)])) ∧ (159 < 160)) ∧
    ((159 = payAxis (pktOf 18 [(159 : Word), (1532 : Word), (7 : Word), (8 : Word)]).pay) ∧ (Runs (run1 18 [(159 : Word), (1532 : Word), (7 : Word), (8 : Word)]) (1 : Fin 2) 18 (pktOf 18 [(159 : Word), (1532 : Word), (7 : Word), (8 : Word)])) ∧ (159 ≤ 159) ∧ (pw (pktOf 18 [(159 : Word), (1532 : Word), (7 : Word), (8 : Word)]).pay 1 % 4096 % 4 = 0) ∧ (1 < (List.drop 2 (pktOf 18 [(159 : Word), (1532 : Word), (7 : Word), (8 : Word)]).pay).length) ∧ (parWritable (pw (pktOf 18 [(159 : Word), (1532 : Word), (7 : Word), (8 : Word)]).pay 1 % 4096 + 4 * 1) = false) ∧ (∀ j < 1, parWritable (pw (pktOf 18 [(159 : Word), (1532 : Word), (7 : Word), (8 : Word)]).pay 1 % 4096 + 4 * j) = true)) ∧
    ((159 = payAxis (pktOf 18 [(159 : Word), (1528 : Word), (7 : Word), (8 : Word)]).pay) ∧ (Runs (run1 18 [(159 : Word), (1528 : Word), (7 : Word), (8 : Word)]) (1 : Fin 2) 18 (pktOf 18 [(159 : Word), (1528 : Word), (7 : Word), (8 : Word)])) ∧ (159 ≤ 159) ∧ (pw (pktOf 18 [(159 : Word), (1528 : Word), (7 : Word), (8 : Word)]).pay 1 % 4096 % 4 = 0) ∧ (∀ i < (List.drop 2 (pktOf 18 [(159 : Word), (1528 : Word), (7 : Word), (8 : Word)]).pay).length, parWritable (pw (pktOf 18 [(159 : Word), (1528 : Word), (7 : Word), (8 : Word)]).pay 1 % 4096 + 4 * i) = true) ∧ ((run1 18 [(159 : Word), (1528 : Word), (7 : Word), (8 : Word)]).packetOf (pktOf 18 [(159 : Word), (1528 : Word), (7 : Word), (8 : Word)]).tag = some (pktOf 18 [(159 : Word), (1528 : Word), (7 : Word), (8 : Word)])) ∧ ((pktOf 18 [(159 : Word), (1528 : Word), (7 : Word), (8 : Word)]).moved ≤ 1) ∧ (1 < (List.drop 2 (pktOf 18 [(159 : Word), (1528 : Word), (7 : Word), (8 : Word)]).pay).length)) ∧
    ((160 = payAxis (pktOf 19 [(160 : Word), (1532 : Word), (1 : Word)]).pay) ∧ (Runs (run1 19 [(160 : Word), (1532 : Word), (1 : Word)]) (1 : Fin 2) 19 (pktOf 19 [(160 : Word), (1532 : Word), (1 : Word)])) ∧ (159 < 160)) ∧
    ((160 = payAxis (pktOf 20 [(160 : Word)]).pay) ∧ (Runs (run1 20 [(160 : Word)]) (1 : Fin 2) 20 (pktOf 20 [(160 : Word)])) ∧ (159 < 160)) ∧
    ((159 = payAxis (pktOf 18 [(159 : Word), (1528 : Word), (7 : Word), (8 : Word)]).pay) ∧ (Runs (run1 18 [(159 : Word), (1528 : Word), (7 : Word), (8 : Word)]) (1 : Fin 2) 18 (pktOf 18 [(159 : Word), (1528 : Word), (7 : Word), (8 : Word)])) ∧ (159 ≤ 159) ∧ (pw (pktOf 18 [(159 : Word), (1528 : Word), (7 : Word), (8 : Word)]).pay 1 % 4096 % 4 = 0) ∧ (∀ i < (List.drop 2 (pktOf 18 [(159 : Word), (1528 : Word), (7 : Word), (8 : Word)]).pay).length, parWritable (pw (pktOf 18 [(159 : Word), (1528 : Word), (7 : Word), (8 : Word)]).pay 1 % 4096 + 4 * i) = true) ∧ ((run1 18 [(159 : Word), (1528 : Word), (7 : Word), (8 : Word)]).packetOf (pktOf 18 [(159 : Word), (1528 : Word), (7 : Word), (8 : Word)]).tag = some (pktOf 18 [(159 : Word), (1528 : Word), (7 : Word), (8 : Word)])) ∧ ((pktOf 18 [(159 : Word), (1528 : Word), (7 : Word), (8 : Word)]).moved ≤ 0) ∧ (0 < itemsDue (run1 18 [(159 : Word), (1528 : Word), (7 : Word), (8 : Word)]) (pktOf 18 [(159 : Word), (1528 : Word), (7 : Word), (8 : Word)]) (List.drop 2 (pktOf 18 [(159 : Word), (1528 : Word), (7 : Word), (8 : Word)]).pay).length) ∧ (0 < (List.drop 2 (pktOf 18 [(159 : Word), (1528 : Word), (7 : Word), (8 : Word)]).pay).length)) := by
  and_intros <;> decide +kernel

/-- The hypotheses of `TablePacketsComplete` can be met. -/
theorem witness_TablePacketsComplete :
    ((Runs (run1 48 [(8191 : Word), (1 : Word), (2 : Word), (3 : Word), (4 : Word)]) (1 : Fin 2) 48 (pktOf 48 [(8191 : Word), (1 : Word), (2 : Word), (3 : Word), (4 : Word)])) ∧ (estFault (List.drop 1 (pktOf 48 [(8191 : Word), (1 : Word), (2 : Word), (3 : Word), (4 : Word)]).pay) = none)) ∧
    ((Runs (run1 48 [(8191 : Word), (1 : Word), (2 : Word), (4294967295 : Word), (4 : Word)]) (1 : Fin 2) 48 (pktOf 48 [(8191 : Word), (1 : Word), (2 : Word), (4294967295 : Word), (4 : Word)]))) ∧
    ((Runs (run1 49 [(8190 : Word), (1 : Word), (2 : Word), (3 : Word), (4 : Word), (5 : Word), (6 : Word), (7 : Word), (8 : Word)]) (1 : Fin 2) 49 (pktOf 49 [(8190 : Word), (1 : Word), (2 : Word), (3 : Word), (4 : Word), (5 : Word), (6 : Word), (7 : Word), (8 : Word)])) ∧ ((pktOf 49 [(8190 : Word), (1 : Word), (2 : Word), (3 : Word), (4 : Word), (5 : Word), (6 : Word), (7 : Word), (8 : Word)]).pay.length % 4 = 1) ∧ (pw (pktOf 49 [(8190 : Word), (1 : Word), (2 : Word), (3 : Word), (4 : Word), (5 : Word), (6 : Word), (7 : Word), (8 : Word)]).pay 0 % 8192 + (quads (List.drop 1 (pktOf 49 [(8190 : Word), (1 : Word), (2 : Word), (3 : Word), (4 : Word), (5 : Word), (6 : Word), (7 : Word), (8 : Word)]).pay)).length ≤ 8192) ∧ (∀ e ∈ quads (List.drop 1 (pktOf 49 [(8190 : Word), (1 : Word), (2 : Word), (3 : Word), (4 : Word), (5 : Word), (6 : Word), (7 : Word), (8 : Word)]).pay), estFault e = none) ∧ ((run1 49 [(8190 : Word), (1 : Word), (2 : Word), (3 : Word), (4 : Word), (5 : Word), (6 : Word), (7 : Word), (8 : Word)]).packetOf (pktOf 49 [(8190 : Word), (1 : Word), (2 : Word), (3 : Word), (4 : Word), (5 : Word), (6 : Word), (7 : Word), (8 : Word)]).tag = some (pktOf 49 [(8190 : Word), (1 : Word), (2 : Word), (3 : Word), (4 : Word), (5 : Word), (6 : Word), (7 : Word), (8 : Word)]))) ∧
    ((Runs (run1 49 [(8190 : Word), (1 : Word), (2 : Word), (3 : Word), (4 : Word), (5 : Word)]) (1 : Fin 2) 49 (pktOf 49 [(8190 : Word), (1 : Word), (2 : Word), (3 : Word), (4 : Word), (5 : Word)])) ∧ ((pktOf 49 [(8190 : Word), (1 : Word), (2 : Word), (3 : Word), (4 : Word), (5 : Word)]).pay.length % 4 ≠ 1)) ∧
    ((Runs (run1 50 [(131071 : Word), (1 : Word), (2 : Word)]) (1 : Fin 2) 50 (pktOf 50 [(131071 : Word), (1 : Word), (2 : Word)])) ∧ ((pktOf 50 [(131071 : Word), (1 : Word), (2 : Word)]).pay.length % 2 = 1) ∧ (pw (pktOf 50 [(131071 : Word), (1 : Word), (2 : Word)]).pay 0 % 131072 + ((pktOf 50 [(131071 : Word), (1 : Word), (2 : Word)]).pay.length - 1) / 2 ≤ 131072) ∧ ((run1 50 [(131071 : Word), (1 : Word), (2 : Word)]).packetOf (pktOf 50 [(131071 : Word), (1 : Word), (2 : Word)]).tag = some (pktOf 50 [(131071 : Word), (1 : Word), (2 : Word)]))) ∧
    ((Runs (run1 50 [(131071 : Word), (1 : Word), (2 : Word), (3 : Word), (4 : Word)]) (1 : Fin 2) 50 (pktOf 50 [(131071 : Word), (1 : Word), (2 : Word), (3 : Word), (4 : Word)])) ∧ ((pktOf 50 [(131071 : Word), (1 : Word), (2 : Word), (3 : Word), (4 : Word)]).pay.length % 2 = 1) ∧ (131072 < pw (pktOf 50 [(131071 : Word), (1 : Word), (2 : Word), (3 : Word), (4 : Word)]).pay 0 % 131072 + ((pktOf 50 [(131071 : Word), (1 : Word), (2 : Word), (3 : Word), (4 : Word)]).pay.length - 1) / 2)) ∧
    ((Runs (run1 51 [(4095 : Word), (1 : Word), (2 : Word), (3 : Word), (4 : Word)]) (1 : Fin 2) 51 (pktOf 51 [(4095 : Word), (1 : Word), (2 : Word), (3 : Word), (4 : Word)])) ∧ ((pktOf 51 [(4095 : Word), (1 : Word), (2 : Word), (3 : Word), (4 : Word)]).pay.length % 4 = 1) ∧ (pw (pktOf 51 [(4095 : Word), (1 : Word), (2 : Word), (3 : Word), (4 : Word)]).pay 0 % 4096 + (quads (List.drop 1 (pktOf 51 [(4095 : Word), (1 : Word), (2 : Word), (3 : Word), (4 : Word)]).pay)).length ≤ 4096) ∧ ((run1 51 [(4095 : Word), (1 : Word), (2 : Word), (3 : Word), (4 : Word)]).f R.ZLP_SSTAT_STATE = 0) ∧ ((run1 51 [(4095 : Word), (1 : Word), (2 : Word), (3 : Word), (4 : Word)]).packetOf (pktOf 51 [(4095 : Word), (1 : Word), (2 : Word), (3 : Word), (4 : Word)]).tag = some (pktOf 51 [(4095 : Word), (1 : Word), (2 : Word), (3 : Word), (4 : Word)]))) ∧
    ((Runs (holding span (pktOf 51 [(4095 : Word), (1 : Word), (2 : Word), (3 : Word), (4 : Word)])) (1 : Fin 2) 51 (pktOf 51 [(4095 : Word), (1 : Word), (2 : Word), (3 : Word), (4 : Word)])) ∧ ((pktOf 51 [(4095 : Word), (1 : Word), (2 : Word), (3 : Word), (4 : Word)]).pay.length % 4 = 1) ∧ (pw (pktOf 51 [(4095 : Word), (1 : Word), (2 : Word), (3 : Word), (4 : Word)]).pay 0 % 4096 + (quads (List.drop 1 (pktOf 51 [(4095 : Word), (1 : Word), (2 : Word), (3 : Word), (4 : Word)]).pay)).length ≤ 4096) ∧ ((holding span (pktOf 51 [(4095 : Word), (1 : Word), (2 : Word), (3 : Word), (4 : Word)])).f R.ZLP_SSTAT_STATE ≠ 0) ∧ ((holding span (pktOf 51 [(4095 : Word), (1 : Word), (2 : Word), (3 : Word), (4 : Word)])).itemsMoved (pktOf 51 [(4095 : Word), (1 : Word), (2 : Word), (3 : Word), (4 : Word)]).tag = 0)) ∧
    ((Runs (run1 80 [(4092 : Word), (7 : Word)]) (1 : Fin 2) 80 (pktOf 80 [(4092 : Word), (7 : Word)])) ∧ (pw (pktOf 80 [(4092 : Word), (7 : Word)]).pay 0 % 4 = 0) ∧ (pw (pktOf 80 [(4092 : Word), (7 : Word)]).pay 0 + 4 * (List.drop 1 (pktOf 80 [(4092 : Word), (7 : Word)]).pay).length ≤ 4096) ∧ (pw (pktOf 80 [(4092 : Word), (7 : Word)]).pay 0 < 4096) ∧ ((run1 80 [(4092 : Word), (7 : Word)]).kstState = 0 ∨ (run1 80 [(4092 : Word), (7 : Word)]).kstState = 3) ∧ ((run1 80 [(4092 : Word), (7 : Word)]).packetOf (pktOf 80 [(4092 : Word), (7 : Word)]).tag = some (pktOf 80 [(4092 : Word), (7 : Word)]))) ∧
    ((Runs (run1 80 [(4092 : Word), (7 : Word), (8 : Word)]) (1 : Fin 2) 80 (pktOf 80 [(4092 : Word), (7 : Word), (8 : Word)])) ∧ (pw (pktOf 80 [(4092 : Word), (7 : Word), (8 : Word)]).pay 0 % 4 ≠ 0 ∨ 4096 < pw (pktOf 80 [(4092 : Word), (7 : Word), (8 : Word)]).pay 0 + 4 * (List.drop 1 (pktOf 80 [(4092 : Word), (7 : Word), (8 : Word)]).pay).length) ∧ (pw (pktOf 80 [(4092 : Word), (7 : Word), (8 : Word)]).pay 0 % 4 = 0)) ∧
    ((Runs (holding (kstIn 1) (pktOf 80 [(4092 : Word), (7 : Word)])) (1 : Fin 2) 80 (pktOf 80 [(4092 : Word), (7 : Word)])) ∧ (pw (pktOf 80 [(4092 : Word), (7 : Word)]).pay 0 % 4 = 0) ∧ (pw (pktOf 80 [(4092 : Word), (7 : Word)]).pay 0 + 4 * (List.drop 1 (pktOf 80 [(4092 : Word), (7 : Word)]).pay).length ≤ 4096) ∧ (pw (pktOf 80 [(4092 : Word), (7 : Word)]).pay 0 < 4096) ∧ ((holding (kstIn 1) (pktOf 80 [(4092 : Word), (7 : Word)])).kstState ≠ 0) ∧ ((holding (kstIn 1) (pktOf 80 [(4092 : Word), (7 : Word)])).kstState ≠ 3) ∧ ((holding (kstIn 1) (pktOf 80 [(4092 : Word), (7 : Word)])).itemsMoved (pktOf 80 [(4092 : Word), (7 : Word)]).tag = 0)) ∧
    ((Runs (run1 81 [(32 : Word), (0 : Word), (32 : Word), (9 : Word), (0 : Word)]) (1 : Fin 2) 81 (pktOf 81 [(32 : Word), (0 : Word), (32 : Word), (9 : Word), (0 : Word)])) ∧ (nat64 ((pktOf 81 [(32 : Word), (0 : Word), (32 : Word), (9 : Word), (0 : Word)]).pay.getD 0 (0 : Word)) ((pktOf 81 [(32 : Word), (0 : Word), (32 : Word), (9 : Word), (0 : Word)]).pay.getD 1 (0 : Word)) % 32 = 0) ∧ (pw (pktOf 81 [(32 : Word), (0 : Word), (32 : Word), (9 : Word), (0 : Word)]).pay 2 % 32 = 0) ∧ (32 ≤ pw (pktOf 81 [(32 : Word), (0 : Word), (32 : Word), (9 : Word), (0 : Word)]).pay 2) ∧ (pw (pktOf 81 [(32 : Word), (0 : Word), (32 : Word), (9 : Word), (0 : Word)]).pay 2 ≤ 16777216) ∧ (nat64 ((pktOf 81 [(32 : Word), (0 : Word), (32 : Word), (9 : Word), (0 : Word)]).pay.getD 0 (0 : Word)) ((pktOf 81 [(32 : Word), (0 : Word), (32 : Word), (9 : Word), (0 : Word)]).pay.getD 1 (0 : Word)) + pw (pktOf 81 [(32 : Word), (0 : Word), (32 : Word), (9 : Word), (0 : Word)]).pay 2 ≤ (run1 81 [(32 : Word), (0 : Word), (32 : Word), (9 : Word), (0 : Word)]).ddrSize) ∧ ((run1 81 [(32 : Word), (0 : Word), (32 : Word), (9 : Word), (0 : Word)]).packetOf (pktOf 81 [(32 : Word), (0 : Word), (32 : Word), (9 : Word), (0 : Word)]).tag = some (pktOf 81 [(32 : Word), (0 : Word), (32 : Word), (9 : Word), (0 : Word)])) ∧ ((pktOf 81 [(32 : Word), (0 : Word), (32 : Word), (9 : Word), (0 : Word)]).moved < pw (pktOf 81 [(32 : Word), (0 : Word), (32 : Word), (9 : Word), (0 : Word)]).pay 2 / 32) ∧ ((run1 81 [(32 : Word), (0 : Word), (32 : Word), (9 : Word), (0 : Word)]).ddrPending = 0) ∧ ((run1 81 [(32 : Word), (0 : Word), (32 : Word), (9 : Word), (0 : Word)]).acq.ueAt = [])) ∧
    ((Runs (run1 81 [(33 : Word), (0 : Word), (32 : Word), (9 : Word), (0 : Word)]) (1 : Fin 2) 81 (pktOf 81 [(33 : Word), (0 : Word), (32 : Word), (9 : Word), (0 : Word)])) ∧ (nat64 ((pktOf 81 [(33 : Word), (0 : Word), (32 : Word), (9 : Word), (0 : Word)]).pay.getD 0 (0 : Word)) ((pktOf 81 [(33 : Word), (0 : Word), (32 : Word), (9 : Word), (0 : Word)]).pay.getD 1 (0 : Word)) % 32 ≠ 0)) ∧
    ((Runs (run1 81 [(32 : Word), (0 : Word), (31 : Word), (9 : Word), (0 : Word)]) (1 : Fin 2) 81 (pktOf 81 [(32 : Word), (0 : Word), (31 : Word), (9 : Word), (0 : Word)])) ∧ (nat64 ((pktOf 81 [(32 : Word), (0 : Word), (31 : Word), (9 : Word), (0 : Word)]).pay.getD 0 (0 : Word)) ((pktOf 81 [(32 : Word), (0 : Word), (31 : Word), (9 : Word), (0 : Word)]).pay.getD 1 (0 : Word)) % 32 = 0) ∧ (pw (pktOf 81 [(32 : Word), (0 : Word), (31 : Word), (9 : Word), (0 : Word)]).pay 2 % 32 ≠ 0 ∨ pw (pktOf 81 [(32 : Word), (0 : Word), (31 : Word), (9 : Word), (0 : Word)]).pay 2 < 32 ∨ 16777216 < pw (pktOf 81 [(32 : Word), (0 : Word), (31 : Word), (9 : Word), (0 : Word)]).pay 2)) ∧
    ((Runs (run1 48 [(8191 : Word), (1 : Word), (2 : Word), (4294967295 : Word), (4 : Word)]) (1 : Fin 2) 48 (pktOf 48 [(8191 : Word), (1 : Word), (2 : Word), (4294967295 : Word), (4 : Word)])) ∧ (estFault (List.drop 1 (pktOf 48 [(8191 : Word), (1 : Word), (2 : Word), (4294967295 : Word), (4 : Word)]).pay) = some ((estFault [(1 : Word), (2 : Word), (4294967295 : Word), (4 : Word)]).getD 0))) ∧
    ((Runs (run1 49 [(8191 : Word), (1 : Word), (2 : Word), (3 : Word), (4 : Word), (5 : Word), (6 : Word), (7 : Word), (8 : Word)]) (1 : Fin 2) 49 (pktOf 49 [(8191 : Word), (1 : Word), (2 : Word), (3 : Word), (4 : Word), (5 : Word), (6 : Word), (7 : Word), (8 : Word)])) ∧ ((pktOf 49 [(8191 : Word), (1 : Word), (2 : Word), (3 : Word), (4 : Word), (5 : Word), (6 : Word), (7 : Word), (8 : Word)]).pay.length % 4 = 1) ∧ (8192 < pw (pktOf 49 [(8191 : Word), (1 : Word), (2 : Word), (3 : Word), (4 : Word), (5 : Word), (6 : Word), (7 : Word), (8 : Word)]).pay 0 % 8192 + (quads (List.drop 1 (pktOf 49 [(8191 : Word), (1 : Word), (2 : Word), (3 : Word), (4 : Word), (5 : Word), (6 : Word), (7 : Word), (8 : Word)]).pay)).length)) ∧
    ((Runs (run1 49 [(8191 : Word), (1 : Word), (2 : Word), (3 : Word), (4 : Word)]) (1 : Fin 2) 49 (pktOf 49 [(8191 : Word), (1 : Word), (2 : Word), (3 : Word), (4 : Word)])) ∧ ((pktOf 49 [(8191 : Word), (1 : Word), (2 : Word), (3 : Word), (4 : Word)]).pay.length % 4 = 1) ∧ (pw (pktOf 49 [(8191 : Word), (1 : Word), (2 : Word), (3 : Word), (4 : Word)]).pay 0 % 8192 + (quads (List.drop 1 (pktOf 49 [(8191 : Word), (1 : Word), (2 : Word), (3 : Word), (4 : Word)]).pay)).length ≤ 8192) ∧ (∀ e ∈ quads (List.drop 1 (pktOf 49 [(8191 : Word), (1 : Word), (2 : Word), (3 : Word), (4 : Word)]).pay), estFault e = none) ∧ ((run1 49 [(8191 : Word), (1 : Word), (2 : Word), (3 : Word), (4 : Word)]).packetOf (pktOf 49 [(8191 : Word), (1 : Word), (2 : Word), (3 : Word), (4 : Word)]).tag = some (pktOf 49 [(8191 : Word), (1 : Word), (2 : Word), (3 : Word), (4 : Word)])) ∧ ((pktOf 49 [(8191 : Word), (1 : Word), (2 : Word), (3 : Word), (4 : Word)]).moved ≤ 0) ∧ (0 < itemsDue (run1 49 [(8191 : Word), (1 : Word), (2 : Word), (3 : Word), (4 : Word)]) (pktOf 49 [(8191 : Word), (1 : Word), (2 : Word), (3 : Word), (4 : Word)]) (quads (List.drop 1 (pktOf 49 [(8191 : Word), (1 : Word), (2 : Word), (3 : Word), (4 : Word)]).pay)).length)) ∧
    ((Runs (run1 50 [(131071 : Word), (1 : Word)]) (1 : Fin 2) 50 (pktOf 50 [(131071 : Word), (1 : Word)])) ∧ ((pktOf 50 [(131071 : Word), (1 : Word)]).pay.length % 2 ≠ 1)) ∧
    ((Runs (run1 50 [(131071 : Word), (1 : Word), (2 : Word)]) (1 : Fin 2) 50 (pktOf 50 [(131071 : Word), (1 : Word), (2 : Word)])) ∧ ((pktOf 50 [(131071 : Word), (1 : Word), (2 : Word)]).pay.length % 2 = 1) ∧ (pw (pktOf 50 [(131071 : Word), (1 : Word), (2 : Word)]).pay 0 % 131072 + ((pktOf 50 [(131071 : Word), (1 : Word), (2 : Word)]).pay.length - 1) / 2 ≤ 131072) ∧ ((run1 50 [(131071 : Word), (1 : Word), (2 : Word)]).packetOf (pktOf 50 [(131071 : Word), (1 : Word), (2 : Word)]).tag = some (pktOf 50 [(131071 : Word), (1 : Word), (2 : Word)])) ∧ ((pktOf 50 [(131071 : Word), (1 : Word), (2 : Word)]).moved ≤ 0) ∧ (0 < itemsDue (run1 50 [(131071 : Word), (1 : Word), (2 : Word)]) (pktOf 50 [(131071 : Word), (1 : Word), (2 : Word)]) (((pktOf 50 [(131071 : Word), (1 : Word), (2 : Word)]).pay.length - 1) / 2))) ∧
    ((Runs (run1 51 [(4095 : Word), (1 : Word)]) (1 : Fin 2) 51 (pktOf 51 [(4095 : Word), (1 : Word)])) ∧ ((pktOf 51 [(4095 : Word), (1 : Word)]).pay.length % 4 ≠ 1)) ∧
    ((Runs (run1 51 [(4095 : Word), (1 : Word), (2 : Word), (3 : Word), (4 : Word)]) (1 : Fin 2) 51 (pktOf 51 [(4095 : Word), (1 : Word), (2 : Word), (3 : Word), (4 : Word)])) ∧ ((pktOf 51 [(4095 : Word), (1 : Word), (2 : Word), (3 : Word), (4 : Word)]).pay.length % 4 = 1) ∧ (pw (pktOf 51 [(4095 : Word), (1 : Word), (2 : Word), (3 : Word), (4 : Word)]).pay 0 % 4096 + (quads (List.drop 1 (pktOf 51 [(4095 : Word), (1 : Word), (2 : Word), (3 : Word), (4 : Word)]).pay)).length ≤ 4096) ∧ ((run1 51 [(4095 : Word), (1 : Word), (2 : Word), (3 : Word), (4 : Word)]).f R.ZLP_SSTAT_STATE = 0) ∧ ((run1 51 [(4095 : Word), (1 : Word), (2 : Word), (3 : Word), (4 : Word)]).packetOf (pktOf 51 [(4095 : Word), (1 : Word), (2 : Word), (3 : Word), (4 : Word)]).tag = some (pktOf 51 [(4095 : Word), (1 : Word), (2 : Word), (3 : Word), (4 : Word)])) ∧ ((pktOf 51 [(4095 : Word), (1 : Word), (2 : Word), (3 : Word), (4 : Word)]).moved ≤ 0) ∧ (0 < itemsDue (run1 51 [(4095 : Word), (1 : Word), (2 : Word), (3 : Word), (4 : Word)]) (pktOf 51 [(4095 : Word), (1 : Word), (2 : Word), (3 : Word), (4 : Word)]) (quads (List.drop 1 (pktOf 51 [(4095 : Word), (1 : Word), (2 : Word), (3 : Word), (4 : Word)]).pay)).length)) ∧
    ((Runs (run1 80 [(4092 : Word), (7 : Word)]) (1 : Fin 2) 80 (pktOf 80 [(4092 : Word), (7 : Word)])) ∧ (pw (pktOf 80 [(4092 : Word), (7 : Word)]).pay 0 % 4 = 0) ∧ (pw (pktOf 80 [(4092 : Word), (7 : Word)]).pay 0 + 4 * (List.drop 1 (pktOf 80 [(4092 : Word), (7 : Word)]).pay).length ≤ 4096) ∧ (pw (pktOf 80 [(4092 : Word), (7 : Word)]).pay 0 < 4096) ∧ ((run1 80 [(4092 : Word), (7 : Word)]).kstState = 0 ∨ (run1 80 [(4092 : Word), (7 : Word)]).kstState = 3) ∧ ((run1 80 [(4092 : Word), (7 : Word)]).packetOf (pktOf 80 [(4092 : Word), (7 : Word)]).tag = some (pktOf 80 [(4092 : Word), (7 : Word)])) ∧ ((pktOf 80 [(4092 : Word), (7 : Word)]).moved ≤ 0) ∧ (0 < itemsDue (run1 80 [(4092 : Word), (7 : Word)]) (pktOf 80 [(4092 : Word), (7 : Word)]) (List.drop 1 (pktOf 80 [(4092 : Word), (7 : Word)]).pay).length)) ∧
    ((Runs (run1 81 [(32 : Word), (0 : Word), (32 : Word), (9 : Word), (0 : Word)]) (1 : Fin 2) 81 (pktOf 81 [(32 : Word), (0 : Word), (32 : Word), (9 : Word), (0 : Word)])) ∧ (nat64 ((pktOf 81 [(32 : Word), (0 : Word), (32 : Word), (9 : Word), (0 : Word)]).pay.getD 0 (0 : Word)) ((pktOf 81 [(32 : Word), (0 : Word), (32 : Word), (9 : Word), (0 : Word)]).pay.getD 1 (0 : Word)) % 32 = 0) ∧ (pw (pktOf 81 [(32 : Word), (0 : Word), (32 : Word), (9 : Word), (0 : Word)]).pay 2 % 32 = 0) ∧ (32 ≤ pw (pktOf 81 [(32 : Word), (0 : Word), (32 : Word), (9 : Word), (0 : Word)]).pay 2) ∧ (pw (pktOf 81 [(32 : Word), (0 : Word), (32 : Word), (9 : Word), (0 : Word)]).pay 2 ≤ 16777216) ∧ (nat64 ((pktOf 81 [(32 : Word), (0 : Word), (32 : Word), (9 : Word), (0 : Word)]).pay.getD 0 (0 : Word)) ((pktOf 81 [(32 : Word), (0 : Word), (32 : Word), (9 : Word), (0 : Word)]).pay.getD 1 (0 : Word)) + pw (pktOf 81 [(32 : Word), (0 : Word), (32 : Word), (9 : Word), (0 : Word)]).pay 2 ≤ (run1 81 [(32 : Word), (0 : Word), (32 : Word), (9 : Word), (0 : Word)]).ddrSize) ∧ ((run1 81 [(32 : Word), (0 : Word), (32 : Word), (9 : Word), (0 : Word)]).packetOf (pktOf 81 [(32 : Word), (0 : Word), (32 : Word), (9 : Word), (0 : Word)]).tag = some (pktOf 81 [(32 : Word), (0 : Word), (32 : Word), (9 : Word), (0 : Word)])) ∧ ((pktOf 81 [(32 : Word), (0 : Word), (32 : Word), (9 : Word), (0 : Word)]).moved < pw (pktOf 81 [(32 : Word), (0 : Word), (32 : Word), (9 : Word), (0 : Word)]).pay 2 / 32) ∧ ((run1 81 [(32 : Word), (0 : Word), (32 : Word), (9 : Word), (0 : Word)]).ddrPending = 0) ∧ ((run1 81 [(32 : Word), (0 : Word), (32 : Word), (9 : Word), (0 : Word)]).acq.ueAt = []) ∧ ((run1 81 [(32 : Word), (0 : Word), (32 : Word), (9 : Word), (0 : Word)]).acqRuns = false) ∧ ((pktOf 81 [(32 : Word), (0 : Word), (32 : Word), (9 : Word), (0 : Word)]).moved + 1 = pw (pktOf 81 [(32 : Word), (0 : Word), (32 : Word), (9 : Word), (0 : Word)]).pay 2 / 32)) ∧
    ((Runs (readBehind [(32 : Word), (0 : Word), (32 : Word), (9 : Word), (0 : Word)]) (1 : Fin 2) 81 (pktOf 81 [(32 : Word), (0 : Word), (32 : Word), (9 : Word), (0 : Word)])) ∧ (nat64 ((pktOf 81 [(32 : Word), (0 : Word), (32 : Word), (9 : Word), (0 : Word)]).pay.getD 0 (0 : Word)) ((pktOf 81 [(32 : Word), (0 : Word), (32 : Word), (9 : Word), (0 : Word)]).pay.getD 1 (0 : Word)) % 32 = 0) ∧ (pw (pktOf 81 [(32 : Word), (0 : Word), (32 : Word), (9 : Word), (0 : Word)]).pay 2 % 32 = 0) ∧ (32 ≤ pw (pktOf 81 [(32 : Word), (0 : Word), (32 : Word), (9 : Word), (0 : Word)]).pay 2) ∧ (pw (pktOf 81 [(32 : Word), (0 : Word), (32 : Word), (9 : Word), (0 : Word)]).pay 2 ≤ 16777216) ∧ (nat64 ((pktOf 81 [(32 : Word), (0 : Word), (32 : Word), (9 : Word), (0 : Word)]).pay.getD 0 (0 : Word)) ((pktOf 81 [(32 : Word), (0 : Word), (32 : Word), (9 : Word), (0 : Word)]).pay.getD 1 (0 : Word)) + pw (pktOf 81 [(32 : Word), (0 : Word), (32 : Word), (9 : Word), (0 : Word)]).pay 2 ≤ (readBehind [(32 : Word), (0 : Word), (32 : Word), (9 : Word), (0 : Word)]).ddrSize) ∧ ((readBehind [(32 : Word), (0 : Word), (32 : Word), (9 : Word), (0 : Word)]).packetOf (pktOf 81 [(32 : Word), (0 : Word), (32 : Word), (9 : Word), (0 : Word)]).tag = some (pktOf 81 [(32 : Word), (0 : Word), (32 : Word), (9 : Word), (0 : Word)])) ∧ ((pktOf 81 [(32 : Word), (0 : Word), (32 : Word), (9 : Word), (0 : Word)]).moved < pw (pktOf 81 [(32 : Word), (0 : Word), (32 : Word), (9 : Word), (0 : Word)]).pay 2 / 32) ∧ (0 < (readBehind [(32 : Word), (0 : Word), (32 : Word), (9 : Word), (0 : Word)]).ddrPending)) := by
  and_intros <;> decide +kernel

/-- The hypotheses of `RingStoreAndTwinPackets` can be met. -/
theorem witness_RingStoreAndTwinPackets :
    ((Runs (holding linked (pktOf 64 [])) (1 : Fin 2) 64 (pktOf 64 [])) ∧ ((holding linked (pktOf 64 [])).f R.ZLP_SSTAT_STATE = 0) ∧ ((holding linked (pktOf 64 [])).twin = true → (holding linked (pktOf 64 [])).twn.paired = true) ∧ ((holding linked (pktOf 64 [])).f R.ZLP_CFG_SPAN ≠ 255) ∧ ((holding linked (pktOf 64 [])).startRings (List.filter (fun r => (holding linked (pktOf 64 [])).ringLinked r) [0, 1]) ≠ none)) ∧
    ((Runs (run1 64 []) (1 : Fin 2) 64 (pktOf 64 [])) ∧ ((run1 64 []).f R.ZLP_SSTAT_STATE = 0) ∧ ((run1 64 []).twin = true → (run1 64 []).twn.paired = true) ∧ ((run1 64 []).f R.ZLP_CFG_SPAN ≠ 255) ∧ ((run1 64 []).startRings (List.filter (fun r => (run1 64 []).ringLinked r) [0, 1]) = none)) ∧
    ((Runs (holding span (pktOf 64 [])) (1 : Fin 2) 64 (pktOf 64 [])) ∧ ((holding span (pktOf 64 [])).f R.ZLP_SSTAT_STATE ≠ 0)) ∧
    ((Runs (holding span (pktOf 65 [])) (1 : Fin 2) 65 (pktOf 65 [])) ∧ ((holding span (pktOf 65 [])).spanRuns = true)) ∧
    ((Runs (run1 65 []) (1 : Fin 2) 65 (pktOf 65 [])) ∧ ((run1 65 []).spanRuns = false)) ∧
    ((Runs (run1 82 [(64 : Word), (7 : Word)]) (1 : Fin 2) 82 (pktOf 82 [(64 : Word), (7 : Word)])) ∧ ((run1 82 [(64 : Word), (7 : Word)]).queueRoom = true) ∧ ((run1 82 [(64 : Word), (7 : Word)]).bankCommits (pw (pktOf 82 [(64 : Word), (7 : Word)]).pay 0 % 2) = false) ∧ ((run1 82 [(64 : Word), (7 : Word)]).bankActive (pw (pktOf 82 [(64 : Word), (7 : Word)]).pay 0 % 2) = false) ∧ (16 ≤ pw (pktOf 82 [(64 : Word), (7 : Word)]).pay 0 / 4) ∧ (pw (pktOf 82 [(64 : Word), (7 : Word)]).pay 0 / 4 + (List.drop 1 (pktOf 82 [(64 : Word), (7 : Word)]).pay).length ≤ 262144) ∧ ((run1 82 [(64 : Word), (7 : Word)]).f (R.NVS_WP_WP (pw (pktOf 82 [(64 : Word), (7 : Word)]).pay 0 % 2)) ≤ pw (pktOf 82 [(64 : Word), (7 : Word)]).pay 0 / 4)) ∧
    ((Runs (run1 82 [(65 : Word), (7 : Word)]) (1 : Fin 2) 82 (pktOf 82 [(65 : Word), (7 : Word)])) ∧ ((run1 82 [(65 : Word), (7 : Word)]).queueRoom = true) ∧ ((run1 82 [(65 : Word), (7 : Word)]).bankCommits (pw (pktOf 82 [(65 : Word), (7 : Word)]).pay 0 % 2) = false) ∧ ((run1 82 [(65 : Word), (7 : Word)]).bankActive (pw (pktOf 82 [(65 : Word), (7 : Word)]).pay 0 % 2) = false) ∧ (16 ≤ pw (pktOf 82 [(65 : Word), (7 : Word)]).pay 0 / 4) ∧ (pw (pktOf 82 [(65 : Word), (7 : Word)]).pay 0 / 4 + (List.drop 1 (pktOf 82 [(65 : Word), (7 : Word)]).pay).length ≤ 262144) ∧ ((run1 82 [(65 : Word), (7 : Word)]).f (R.NVS_WP_WP (pw (pktOf 82 [(65 : Word), (7 : Word)]).pay 0 % 2)) ≤ pw (pktOf 82 [(65 : Word), (7 : Word)]).pay 0 / 4)) ∧
    ((Runs (run1 82 [(1 : Word), (7 : Word)]) (1 : Fin 2) 82 (pktOf 82 [(1 : Word), (7 : Word)])) ∧ ((run1 82 [(1 : Word), (7 : Word)]).queueRoom = true) ∧ ((run1 82 [(1 : Word), (7 : Word)]).bankCommits (pw (pktOf 82 [(1 : Word), (7 : Word)]).pay 0 % 2) = false) ∧ ((run1 82 [(1 : Word), (7 : Word)]).bankActive (pw (pktOf 82 [(1 : Word), (7 : Word)]).pay 0 % 2) = false) ∧ (pw (pktOf 82 [(1 : Word), (7 : Word)]).pay 0 / 4 < 16 ∨ 262144 < pw (pktOf 82 [(1 : Word), (7 : Word)]).pay 0 / 4 + (List.drop 1 (pktOf 82 [(1 : Word), (7 : Word)]).pay).length)) ∧
    ((Runs (run1 83 [(1 : Word)]) (1 : Fin 2) 83 (pktOf 83 [(1 : Word)])) ∧ ((run1 83 [(1 : Word)]).bankCommits (pw (pktOf 83 [(1 : Word)]).pay 0 % 2) = true ∨ (run1 83 [(1 : Word)]).commitRefused (pw (pktOf 83 [(1 : Word)]).pay 0 % 2) = true) ∧ ((run1 83 [(1 : Word)]).bankCommits (pw (pktOf 83 [(1 : Word)]).pay 0 % 2) = false)) ∧
    ((Runs (run1 83 [(0 : Word)]) (1 : Fin 2) 83 (pktOf 83 [(0 : Word)])) ∧ ((run1 83 [(0 : Word)]).bankCommits (pw (pktOf 83 [(0 : Word)]).pay 0 % 2) = true ∨ (run1 83 [(0 : Word)]).commitRefused (pw (pktOf 83 [(0 : Word)]).pay 0 % 2) = true) ∧ ((run1 83 [(0 : Word)]).bankCommits (pw (pktOf 83 [(0 : Word)]).pay 0 % 2) = false)) ∧
    ((Runs (run1 84 [(16384 : Word), (1 : Word), (0 : Word), (0 : Word)]) (1 : Fin 2) 84 (pktOf 84 [(16384 : Word), (1 : Word), (0 : Word), (0 : Word)])) ∧ (16384 < pw (pktOf 84 [(16384 : Word), (1 : Word), (0 : Word), (0 : Word)]).pay 0 + pw (pktOf 84 [(16384 : Word), (1 : Word), (0 : Word), (0 : Word)]).pay 1)) ∧
    ((Runs (run1 84 [(0 : Word), (0 : Word), (0 : Word), (0 : Word)]) (1 : Fin 2) 84 (pktOf 84 [(0 : Word), (0 : Word), (0 : Word), (0 : Word)])) ∧ (pw (pktOf 84 [(0 : Word), (0 : Word), (0 : Word), (0 : Word)]).pay 0 + pw (pktOf 84 [(0 : Word), (0 : Word), (0 : Word), (0 : Word)]).pay 1 ≤ 16384) ∧ (pw (pktOf 84 [(0 : Word), (0 : Word), (0 : Word), (0 : Word)]).pay 0 + pw (pktOf 84 [(0 : Word), (0 : Word), (0 : Word), (0 : Word)]).pay 1 ≤ (run1 84 [(0 : Word), (0 : Word), (0 : Word), (0 : Word)]).nvs.box.length)) ∧
    ((Runs (run1 96 []) (1 : Fin 2) 96 (pktOf 96 [])) ∧ ((run1 96 []).pairOpen = false)) ∧
    ((Runs (run1 97 []) (1 : Fin 2) 97 (pktOf 97 [])) ∧ ((run1 97 []).isHolder = false)) ∧
    ((Runs (holding holderReady (pktOf 97 [])) (1 : Fin 2) 97 (pktOf 97 [])) ∧ ((holding holderReady (pktOf 97 [])).isHolder = true) ∧ ((holding holderReady (pktOf 97 [])).f R.TWN_PARTNER_READY = 1)) ∧
    ((Runs (run1 98 []) (1 : Fin 2) 98 (pktOf 98 [])) ∧ ((run1 98 []).pairOpen = false)) ∧
    ((Runs (holding (ready.set1 R.TWN_CFG_EN) (pktOf 64 [])) (1 : Fin 2) 64 (pktOf 64 [])) ∧ ((holding (ready.set1 R.TWN_CFG_EN) (pktOf 64 [])).f R.ZLP_SSTAT_STATE = 0) ∧ ((holding (ready.set1 R.TWN_CFG_EN) (pktOf 64 [])).twin = true) ∧ ((holding (ready.set1 R.TWN_CFG_EN) (pktOf 64 [])).twn.paired = false)) ∧
    ((Runs (holding (linked.setF R.ZLP_CFG_SPAN 255) (pktOf 64 [])) (1 : Fin 2) 64 (pktOf 64 [])) ∧ ((holding (linked.setF R.ZLP_CFG_SPAN 255) (pktOf 64 [])).f R.ZLP_SSTAT_STATE = 0) ∧ ((holding (linked.setF R.ZLP_CFG_SPAN 255) (pktOf 64 [])).twin = true → (holding (linked.setF R.ZLP_CFG_SPAN 255) (pktOf 64 [])).twn.paired = true) ∧ ((holding (linked.setF R.ZLP_CFG_SPAN 255) (pktOf 64 [])).f R.ZLP_CFG_SPAN = 255)) ∧
    ((Runs (holding queueFull (pktOf 82 [(64 : Word), (7 : Word)])) (1 : Fin 2) 82 (pktOf 82 [(64 : Word), (7 : Word)])) ∧ ((holding queueFull (pktOf 82 [(64 : Word), (7 : Word)])).queueRoom = false)) ∧
    ((Runs (holding (ready.clr R.NVS_STAT_NOACT) (pktOf 82 [(64 : Word), (7 : Word)])) (1 : Fin 2) 82 (pktOf 82 [(64 : Word), (7 : Word)])) ∧ ((holding (ready.clr R.NVS_STAT_NOACT) (pktOf 82 [(64 : Word), (7 : Word)])).queueRoom = true) ∧ ((holding (ready.clr R.NVS_STAT_NOACT) (pktOf 82 [(64 : Word), (7 : Word)])).bankCommits (pw (pktOf 82 [(64 : Word), (7 : Word)]).pay 0 % 2) = true ∨ (holding (ready.clr R.NVS_STAT_NOACT) (pktOf 82 [(64 : Word), (7 : Word)])).bankActive (pw (pktOf 82 [(64 : Word), (7 : Word)]).pay 0 % 2) = true) ∧ ((holding (ready.clr R.NVS_STAT_NOACT) (pktOf 82 [(64 : Word), (7 : Word)])).bankCommits (pw (pktOf 82 [(64 : Word), (7 : Word)]).pay 0 % 2) = false)) ∧
    ((Runs (holding (ready.setF (R.NVS_WP_WP 0) 17) (pktOf 82 [(64 : Word), (7 : Word)])) (1 : Fin 2) 82 (pktOf 82 [(64 : Word), (7 : Word)])) ∧ ((holding (ready.setF (R.NVS_WP_WP 0) 17) (pktOf 82 [(64 : Word), (7 : Word)])).queueRoom = true) ∧ ((holding (ready.setF (R.NVS_WP_WP 0) 17) (pktOf 82 [(64 : Word), (7 : Word)])).bankCommits (pw (pktOf 82 [(64 : Word), (7 : Word)]).pay 0 % 2) = false) ∧ ((holding (ready.setF (R.NVS_WP_WP 0) 17) (pktOf 82 [(64 : Word), (7 : Word)])).bankActive (pw (pktOf 82 [(64 : Word), (7 : Word)]).pay 0 % 2) = false) ∧ (16 ≤ pw (pktOf 82 [(64 : Word), (7 : Word)]).pay 0 / 4) ∧ (pw (pktOf 82 [(64 : Word), (7 : Word)]).pay 0 / 4 + (List.drop 1 (pktOf 82 [(64 : Word), (7 : Word)]).pay).length ≤ 262144) ∧ (pw (pktOf 82 [(64 : Word), (7 : Word)]).pay 0 / 4 < (holding (ready.setF (R.NVS_WP_WP 0) 17) (pktOf 82 [(64 : Word), (7 : Word)])).f (R.NVS_WP_WP (pw (pktOf 82 [(64 : Word), (7 : Word)]).pay 0 % 2)))) ∧
    ((Runs (bankUsed false) (1 : Fin 2) 83 (pktOf 83 [(1 : Word)])) ∧ ((bankUsed false).bankCommits (pw (pktOf 83 [(1 : Word)]).pay 0 % 2) = false) ∧ ((bankUsed false).commitRefused (pw (pktOf 83 [(1 : Word)]).pay 0 % 2) = false) ∧ ((bankUsed false).queueRoom = true)) ∧
    ((Runs (bankUsed true) (1 : Fin 2) 83 (pktOf 83 [(1 : Word)])) ∧ ((bankUsed true).bankCommits (pw (pktOf 83 [(1 : Word)]).pay 0 % 2) = false) ∧ ((bankUsed true).commitRefused (pw (pktOf 83 [(1 : Word)]).pay 0 % 2) = false) ∧ ((bankUsed true).queueRoom = false)) := by
  and_intros <;> decide +kernel

/-- The hypotheses of `MotionPacketsWriteTheirBlock` can be met. -/
theorem witness_MotionPacketsWriteTheirBlock :
    (((axisRun 1 32 ((159 : Word) :: List.replicate 8 (5 : Word))).holdOver (payAxis (pktOf 32 ((159 : Word) :: List.replicate 8 (5 : Word))).pay) = true) ∧ (payAxis (pktOf 32 ((159 : Word) :: List.replicate 8 (5 : Word))).pay ≤ 159) ∧ (bitsOf (pw (pktOf 32 ((159 : Word) :: List.replicate 8 (5 : Word))).pay 0) 8 2 ≠ 3) ∧ ((axisRun 1 32 ((159 : Word) :: List.replicate 8 (5 : Word))).axisOn (payAxis (pktOf 32 ((159 : Word) :: List.replicate 8 (5 : Word))).pay) = true)) ∧
    ((Runs (axisRun 1 33 ((159 : Word) :: List.replicate 8 (5 : Word))) (1 : Fin 2) (Instr.opMoveRel, 33, 2).2.1 (pktOf 33 ((159 : Word) :: List.replicate 8 (5 : Word)))) ∧ ((axisRun 1 33 ((159 : Word) :: List.replicate 8 (5 : Word))).holdOver (payAxis (pktOf 33 ((159 : Word) :: List.replicate 8 (5 : Word))).pay) = true) ∧ (payAxis (pktOf 33 ((159 : Word) :: List.replicate 8 (5 : Word))).pay ≤ 159) ∧ (bitsOf (pw (pktOf 33 ((159 : Word) :: List.replicate 8 (5 : Word))).pay 0) 8 2 ≠ 3) ∧ ((axisRun 1 33 ((159 : Word) :: List.replicate 8 (5 : Word))).axisOn (payAxis (pktOf 33 ((159 : Word) :: List.replicate 8 (5 : Word))).pay) = true)) ∧
    ((Runs (axisRun 1 34 ((159 : Word) :: List.replicate 6 (5 : Word))) (1 : Fin 2) (Instr.opVelocity, 34, 3).2.1 (pktOf 34 ((159 : Word) :: List.replicate 6 (5 : Word)))) ∧ ((axisRun 1 34 ((159 : Word) :: List.replicate 6 (5 : Word))).holdOver (payAxis (pktOf 34 ((159 : Word) :: List.replicate 6 (5 : Word))).pay) = true) ∧ (payAxis (pktOf 34 ((159 : Word) :: List.replicate 6 (5 : Word))).pay ≤ 159) ∧ (bitsOf (pw (pktOf 34 ((159 : Word) :: List.replicate 6 (5 : Word))).pay 0) 8 2 ≠ 3) ∧ ((axisRun 1 34 ((159 : Word) :: List.replicate 6 (5 : Word))).axisOn (payAxis (pktOf 34 ((159 : Word) :: List.replicate 6 (5 : Word))).pay) = true)) ∧
    ((Runs (axisRun 1 35 ((159 : Word) :: List.replicate 4 (5 : Word))) (1 : Fin 2) (Instr.opStop, 35, 4).2.1 (pktOf 35 ((159 : Word) :: List.replicate 4 (5 : Word)))) ∧ ((axisRun 1 35 ((159 : Word) :: List.replicate 4 (5 : Word))).holdOver (payAxis (pktOf 35 ((159 : Word) :: List.replicate 4 (5 : Word))).pay) = true) ∧ (payAxis (pktOf 35 ((159 : Word) :: List.replicate 4 (5 : Word))).pay ≤ 159) ∧ (bitsOf (pw (pktOf 35 ((159 : Word) :: List.replicate 4 (5 : Word))).pay 0) 8 2 ≠ 3) ∧ ((axisRun 1 35 ((159 : Word) :: List.replicate 4 (5 : Word))).axisOn (payAxis (pktOf 35 ((159 : Word) :: List.replicate 4 (5 : Word))).pay) = true)) ∧
    ((Runs (axisRun 1 36 ((159 : Word) :: List.replicate 7 (5 : Word))) (1 : Fin 2) (Instr.opGear, 36, 6).2.1 (pktOf 36 ((159 : Word) :: List.replicate 7 (5 : Word)))) ∧ ((axisRun 1 36 ((159 : Word) :: List.replicate 7 (5 : Word))).holdOver (payAxis (pktOf 36 ((159 : Word) :: List.replicate 7 (5 : Word))).pay) = true) ∧ (payAxis (pktOf 36 ((159 : Word) :: List.replicate 7 (5 : Word))).pay ≤ 159) ∧ (bitsOf (pw (pktOf 36 ((159 : Word) :: List.replicate 7 (5 : Word))).pay 0) 8 2 ≠ 3) ∧ ((axisRun 1 36 ((159 : Word) :: List.replicate 7 (5 : Word))).axisOn (payAxis (pktOf 36 ((159 : Word) :: List.replicate 7 (5 : Word))).pay) = true)) ∧
    ((Runs (axisRun 1 37 ((159 : Word) :: List.replicate 8 (5 : Word))) (1 : Fin 2) (Instr.opCam, 37, 7).2.1 (pktOf 37 ((159 : Word) :: List.replicate 8 (5 : Word)))) ∧ ((axisRun 1 37 ((159 : Word) :: List.replicate 8 (5 : Word))).holdOver (payAxis (pktOf 37 ((159 : Word) :: List.replicate 8 (5 : Word))).pay) = true) ∧ (payAxis (pktOf 37 ((159 : Word) :: List.replicate 8 (5 : Word))).pay ≤ 159) ∧ (bitsOf (pw (pktOf 37 ((159 : Word) :: List.replicate 8 (5 : Word))).pay 0) 8 2 ≠ 3) ∧ ((axisRun 1 37 ((159 : Word) :: List.replicate 8 (5 : Word))).axisOn (payAxis (pktOf 37 ((159 : Word) :: List.replicate 8 (5 : Word))).pay) = true)) ∧
    ((Runs (axisRun 1 38 ((159 : Word) :: List.replicate 2 (5 : Word))) (1 : Fin 2) (Instr.opHome, 38, 8).2.1 (pktOf 38 ((159 : Word) :: List.replicate 2 (5 : Word)))) ∧ ((axisRun 1 38 ((159 : Word) :: List.replicate 2 (5 : Word))).holdOver (payAxis (pktOf 38 ((159 : Word) :: List.replicate 2 (5 : Word))).pay) = true) ∧ (payAxis (pktOf 38 ((159 : Word) :: List.replicate 2 (5 : Word))).pay ≤ 159) ∧ (bitsOf (pw (pktOf 38 ((159 : Word) :: List.replicate 2 (5 : Word))).pay 0) 8 2 ≠ 3) ∧ ((axisRun 1 38 ((159 : Word) :: List.replicate 2 (5 : Word))).axisOn (payAxis (pktOf 38 ((159 : Word) :: List.replicate 2 (5 : Word))).pay) = true)) ∧
    (((axisRun 1 32 ((160 : Word) :: List.replicate 8 (5 : Word))).holdOver (payAxis (pktOf 32 ((160 : Word) :: List.replicate 8 (5 : Word))).pay) = true) ∧ (159 < payAxis (pktOf 32 ((160 : Word) :: List.replicate 8 (5 : Word))).pay ∨ bitsOf (pw (pktOf 32 ((160 : Word) :: List.replicate 8 (5 : Word))).pay 0) 8 2 = 3)) ∧
    (((axisRun 1 32 ((927 : Word) :: List.replicate 8 (5 : Word))).holdOver (payAxis (pktOf 32 ((927 : Word) :: List.replicate 8 (5 : Word))).pay) = true) ∧ (159 < payAxis (pktOf 32 ((927 : Word) :: List.replicate 8 (5 : Word))).pay ∨ bitsOf (pw (pktOf 32 ((927 : Word) :: List.replicate 8 (5 : Word))).pay 0) 8 2 = 3) ∧ (payAxis (pktOf 32 ((927 : Word) :: List.replicate 8 (5 : Word))).pay ≤ 159)) ∧
    (((axisRun 1 32 ((158 : Word) :: List.replicate 8 (5 : Word))).holdOver (payAxis (pktOf 32 ((158 : Word) :: List.replicate 8 (5 : Word))).pay) = true) ∧ (payAxis (pktOf 32 ((158 : Word) :: List.replicate 8 (5 : Word))).pay ≤ 159) ∧ (bitsOf (pw (pktOf 32 ((158 : Word) :: List.replicate 8 (5 : Word))).pay 0) 8 2 ≠ 3) ∧ ((axisRun 1 32 ((158 : Word) :: List.replicate 8 (5 : Word))).axisOn (payAxis (pktOf 32 ((158 : Word) :: List.replicate 8 (5 : Word))).pay) = false)) ∧
    ((justSent.holdOver (payAxis (pktOf 32 ((159 : Word) :: List.replicate 8 (0 : Word))).pay) = false)) := by
  and_intros <;> decide +kernel

/-- The hypotheses of `GroupMovesAndReports` can be met. -/
theorem witness_GroupMovesAndReports :
    ((Runs groupRun (1 : Fin 2) 39 (pktOf 39 groupPay)) ∧ ((motionAxes 39 (pktOf 39 groupPay).pay).all groupRun.holdOver = true) ∧ ((pktOf 39 groupPay).pay.length = 7 + 3 * (pw (pktOf 39 groupPay).pay 0 % 256)) ∧ (bitsOf (pw (pktOf 39 groupPay).pay 0) 8 2 ≠ 3) ∧ (groupRun.groupBad (groupMembers (pktOf 39 groupPay).pay) = none) ∧ (∀ g ∈ groupMembers (pktOf 39 groupPay).pay, groupRun.memberRests g = true)) ∧
    ((Runs (run1 39 groupPay) (1 : Fin 2) 39 (pktOf 39 groupPay)) ∧ ((motionAxes 39 (pktOf 39 groupPay).pay).all (run1 39 groupPay).holdOver = true) ∧ ((pktOf 39 groupPay).pay.length = 7 + 3 * (pw (pktOf 39 groupPay).pay 0 % 256)) ∧ (bitsOf (pw (pktOf 39 groupPay).pay 0) 8 2 ≠ 3) ∧ ((run1 39 groupPay).groupBad (groupMembers (pktOf 39 groupPay).pay) = some 0)) ∧
    ((Runs (run1 39 ((770 : Word) :: groupPay.tail)) (1 : Fin 2) 39 (pktOf 39 ((770 : Word) :: groupPay.tail))) ∧ ((motionAxes 39 (pktOf 39 ((770 : Word) :: groupPay.tail)).pay).all (run1 39 ((770 : Word) :: groupPay.tail)).holdOver = true) ∧ ((pktOf 39 ((770 : Word) :: groupPay.tail)).pay.length = 7 + 3 * (pw (pktOf 39 ((770 : Word) :: groupPay.tail)).pay 0 % 256)) ∧ (bitsOf (pw (pktOf 39 ((770 : Word) :: groupPay.tail)).pay 0) 8 2 = 3)) ∧
    ((Runs (run1 39 (groupPay ++ [(1 : Word)])) (1 : Fin 2) 39 (pktOf 39 (groupPay ++ [(1 : Word)]))) ∧ ((motionAxes 39 (pktOf 39 (groupPay ++ [(1 : Word)])).pay).all (run1 39 (groupPay ++ [(1 : Word)])).holdOver = true) ∧ ((pktOf 39 (groupPay ++ [(1 : Word)])).pay.length ≠ 7 + 3 * (pw (pktOf 39 (groupPay ++ [(1 : Word)])).pay 0 % 256))) ∧
    ((Runs groupMoves (1 : Fin 2) 39 (pktOf 39 groupPay)) ∧ ((motionAxes 39 (pktOf 39 groupPay).pay).all groupMoves.holdOver = true) ∧ ((pktOf 39 groupPay).pay.length = 7 + 3 * (pw (pktOf 39 groupPay).pay 0 % 256)) ∧ (bitsOf (pw (pktOf 39 groupPay).pay 0) 8 2 ≠ 3) ∧ (groupMoves.groupBad (groupMembers (pktOf 39 groupPay).pay) = none) ∧ (List.findIdx? (fun g => !groupMoves.memberRests g) (groupMembers (pktOf 39 groupPay).pay) = some 1)) ∧
    (((heldRun.core 1).cur = some heldPkt) ∧ (heldPkt.held = true) ∧ ((motionAxes heldPkt.tag.op heldPkt.pay).all heldRun.holdOver = true)) ∧
    ((((run1 32 [(159 : Word)]).core 1).cur = some (pktOf 32 [(159 : Word)])) ∧ ((pktOf 32 [(159 : Word)]).held = false ∨ (motionAxes (pktOf 32 [(159 : Word)]).tag.op (pktOf 32 [(159 : Word)]).pay).all (run1 32 [(159 : Word)]).holdOver = false)) ∧
    ((reported.dsp.reports = [(0, 159, (77 : Word), MotionReport.mk MotionStatus.limit (3 : Word) (5 : Int) 9)]) ∧ (0 ≤ reported.clk) ∧ (reported.hif.waits = [Waiting.mk (some tag1) (WaitKind.motion 159 (BitVec.toNat (MotionReport.mk MotionStatus.limit (3 : Word) (5 : Int) 9).seq))]) ∧ (reported.hif.compl = []) ∧ (tag1.sq < 4) ∧ (tag1.gen = reported.hif.gen)) := by
  and_intros <;> decide +kernel

/-- The hypotheses of `GroupsStopStartAndRestart` can be met. -/
theorem witness_GroupsStopStartAndRestart :
    ((Waiting.mk (some tag1) (WaitKind.resume resumeOld) ∈ resumeLate1.hif.waits) ∧ (resumeLate1.resumeLate resumeOld = true)) ∧
    ((Runs (axisRun 2 21 [(0 : Word), (0 : Word), (0 : Word), (0 : Word), (2147483648 : Word)]) (1 : Fin 2) 21 (pktOf 21 [(0 : Word), (0 : Word), (0 : Word), (0 : Word), (2147483648 : Word)])) ∧ (∀ a ∈ mapAxes (pktOf 21 [(0 : Word), (0 : Word), (0 : Word), (0 : Word), (2147483648 : Word)]).pay, (axisRun 2 21 [(0 : Word), (0 : Word), (0 : Word), (0 : Word), (2147483648 : Word)]).axisOn a = true)) ∧
    ((Runs (run1 21 [(0 : Word), (0 : Word), (0 : Word), (0 : Word), (2147483648 : Word)]) (1 : Fin 2) 21 (pktOf 21 [(0 : Word), (0 : Word), (0 : Word), (0 : Word), (2147483648 : Word)])) ∧ (List.find? (fun a => !(run1 21 [(0 : Word), (0 : Word), (0 : Word), (0 : Word), (2147483648 : Word)]).axisOn a) (mapAxes (pktOf 21 [(0 : Word), (0 : Word), (0 : Word), (0 : Word), (2147483648 : Word)]).pay) = some 159)) ∧
    ((Waiting.mk (some tag1) (WaitKind.quiesce [159] 8) ∈ quiescing.hif.waits) ∧ (8 < quiescing.cyc.t0)) ∧
    ((Runs (axisRun 1 22 [(0 : Word), (0 : Word), (0 : Word), (0 : Word), (2147483648 : Word), (1 : Word), (5 : Word), (0 : Word)]) (1 : Fin 2) 22 (pktOf 22 [(0 : Word), (0 : Word), (0 : Word), (0 : Word), (2147483648 : Word), (1 : Word), (5 : Word), (0 : Word)])) ∧ (pw (pktOf 22 [(0 : Word), (0 : Word), (0 : Word), (0 : Word), (2147483648 : Word), (1 : Word), (5 : Word), (0 : Word)]).pay 5 % 4 ≠ 3) ∧ (∀ a ∈ mapAxes (pktOf 22 [(0 : Word), (0 : Word), (0 : Word), (0 : Word), (2147483648 : Word), (1 : Word), (5 : Word), (0 : Word)]).pay, (axisRun 1 22 [(0 : Word), (0 : Word), (0 : Word), (0 : Word), (2147483648 : Word), (1 : Word), (5 : Word), (0 : Word)]).axisState a = 1) ∧ ((axisRun 1 22 [(0 : Word), (0 : Word), (0 : Word), (0 : Word), (2147483648 : Word), (1 : Word), (5 : Word), (0 : Word)]).hif.waits = [])) ∧
    ((Runs (axisRun 2 22 [(0 : Word), (0 : Word), (0 : Word), (0 : Word), (2147483648 : Word), (1 : Word), (5 : Word), (0 : Word)]) (1 : Fin 2) 22 (pktOf 22 [(0 : Word), (0 : Word), (0 : Word), (0 : Word), (2147483648 : Word), (1 : Word), (5 : Word), (0 : Word)])) ∧ (pw (pktOf 22 [(0 : Word), (0 : Word), (0 : Word), (0 : Word), (2147483648 : Word), (1 : Word), (5 : Word), (0 : Word)]).pay 5 % 4 ≠ 3) ∧ ((mapAxes (pktOf 22 [(0 : Word), (0 : Word), (0 : Word), (0 : Word), (2147483648 : Word), (1 : Word), (5 : Word), (0 : Word)]).pay).head? = some 159) ∧ ((axisRun 2 22 [(0 : Word), (0 : Word), (0 : Word), (0 : Word), (2147483648 : Word), (1 : Word), (5 : Word), (0 : Word)]).axisState 159 ≠ 1)) ∧
    ((Runs (axisRun 2 22 [(0 : Word), (0 : Word), (0 : Word), (0 : Word), (2147483648 : Word), (3 : Word), (5 : Word), (0 : Word)]) (1 : Fin 2) 22 (pktOf 22 [(0 : Word), (0 : Word), (0 : Word), (0 : Word), (2147483648 : Word), (3 : Word), (5 : Word), (0 : Word)])) ∧ (pw (pktOf 22 [(0 : Word), (0 : Word), (0 : Word), (0 : Word), (2147483648 : Word), (3 : Word), (5 : Word), (0 : Word)]).pay 5 % 4 = 3)) ∧
    ((Waiting.mk (some tag1) (WaitKind.resume resume159) ∈ (resuming (5 : Word) 2).hif.waits) ∧ ((resuming (5 : Word) 2).resumeNow resume159 = true) ∧ (∀ a ∈ resume159.axes, (resuming (5 : Word) 2).stationActive a = true)) ∧
    ((Waiting.mk (some tag1) (WaitKind.resume resume159) ∈ (resuming (5 : Word) 0).hif.waits) ∧ ((resuming (5 : Word) 0).resumeNow resume159 = true) ∧ (List.find? (fun a => !(resuming (5 : Word) 0).stationActive a) resume159.axes = some 159)) ∧
    (((busyBlock.core 1).cur = some (pktOf 0 []))) := by
  and_intros <;> decide +kernel

/-- The hypotheses of `EventEntriesAreWritten` can be met. -/
theorem witness_EventEntriesAreWritten :
    ((lossDue.evt.served ≤ lossDue.clk) ∧ (lossDue.evtLossDue = true) ∧ (1023 = lossDue.f R.EVT_TAIL_TAIL)) ∧
    (((latched 128 1023 5).evt.served ≤ (latched 128 1023 5).clk) ∧ ((latched 128 1023 5).evtLossDue = false) ∧ ((latched 128 1023 5).evtNextLatch = some (255, latchOf true (6 : BitVec 16))) ∧ (255 ≠ 130)) ∧
    ((servedNow.clk < servedNow.evt.served)) ∧
    ((ready.pending = []) ∧ (ready.sysLost = false)) ∧
    ((∀ w ∈ ready.evt.writes, ready.clk < w.1)) ∧
    ((∀ w ∈ (landing ready 1).evt.writes, (landing ready 1).clk < w.1)) ∧
    (((landing (latched 128 1023 5) 2).evt.writes = [(2, 255, latchOf true (6 : BitVec 16))]) ∧ (2 ≤ (landing (latched 128 1023 5) 2).clk) ∧ ((landing (latched 128 1023 5) 2).evtFull = false) ∧ (routeMerge ((landing (latched 128 1023 5) 2).evtRoute 255) = false ∨ (landing (latched 128 1023 5) 2).evtNewest 255 = none) ∧ (1023 = (landing (latched 128 1023 5) 2).f R.EVT_TAIL_TAIL) ∧ ((landing (latched 128 1023 5) 2).evtLand = (landing (latched 128 1023 5) 2).evtLand) ∧ (routeEn ((landing (latched 128 1023 5) 2).evtRoute 255) = true) ∧ (max 1 ((landing (latched 128 1023 5) 2).f (R.EVT_VEC_CNT (routeVec ((landing (latched 128 1023 5) 2).evtRoute 255)))) ≤ tabGet (fun _ => 0) (landing (latched 128 1023 5) 2).evt.vecCnt (routeVec ((landing (latched 128 1023 5) 2).evtRoute 255)) + 1)) ∧
    (((landing ((latched 192 0 5).setF (R.EVT_VEC_CNT 0) 2) 2).evt.writes = [(2, 255, latchOf true (6 : BitVec 16))]) ∧ (2 ≤ (landing ((latched 192 0 5).setF (R.EVT_VEC_CNT 0) 2) 2).clk) ∧ ((landing ((latched 192 0 5).setF (R.EVT_VEC_CNT 0) 2) 2).evtFull = false) ∧ (routeMerge ((landing ((latched 192 0 5).setF (R.EVT_VEC_CNT 0) 2) 2).evtRoute 255) = false ∨ (landing ((latched 192 0 5).setF (R.EVT_VEC_CNT 0) 2) 2).evtNewest 255 = none) ∧ (0 = (landing ((latched 192 0 5).setF (R.EVT_VEC_CNT 0) 2) 2).f R.EVT_TAIL_TAIL) ∧ ((landing ((latched 192 0 5).setF (R.EVT_VEC_CNT 0) 2) 2).evtLand = (landing ((latched 192 0 5).setF (R.EVT_VEC_CNT 0) 2) 2).evtLand) ∧ (routeEn ((landing ((latched 192 0 5).setF (R.EVT_VEC_CNT 0) 2) 2).evtRoute 255) = true) ∧ (tabGet (fun _ => 0) (landing ((latched 192 0 5).setF (R.EVT_VEC_CNT 0) 2) 2).evt.vecCnt (routeVec ((landing ((latched 192 0 5).setF (R.EVT_VEC_CNT 0) 2) 2).evtRoute 255)) + 1 < max 1 ((landing ((latched 192 0 5).setF (R.EVT_VEC_CNT 0) 2) 2).f (R.EVT_VEC_CNT (routeVec ((landing ((latched 192 0 5).setF (R.EVT_VEC_CNT 0) 2) 2).evtRoute 255)))))) ∧
    (((landing (merging 3) 2).evt.writes = [(2, 255, latchOf true (6 : BitVec 16))]) ∧ (2 ≤ (landing (merging 3) 2).clk) ∧ (routeMerge ((landing (merging 3) 2).evtRoute 255) = true) ∧ ((landing (merging 3) 2).evtNewest 255 = some 3) ∧ (3 < 1024) ∧ (bitsOf (BitVec.toNat ((landing (merging 3) 2).reg (R.EVT_QUEUE (4 * 3)))) 16 16 = (latchOf true (6 : BitVec 16)).detail.toNat) ∧ ((landing (merging 3) 2).evtLand = (landing (merging 3) 2).evtLand)) ∧
    (((landing (latched 128 4 5) 2).evt.writes = [(2, 255, latchOf true (6 : BitVec 16))]) ∧ (2 ≤ (landing (latched 128 4 5) 2).clk) ∧ ((landing (latched 128 4 5) 2).evtFull = true) ∧ (1 ≤ (latchOf true (6 : BitVec 16)).count) ∧ (routeMerge ((landing (latched 128 4 5) 2).evtRoute 255) = false) ∧ ((landing (latched 128 4 5) 2).evtLand = (landing (latched 128 4 5) 2).evtLand) ∧ ((landing (latched 128 4 5) 2).f R.EVT_STAT_LOST = 0)) ∧
    ((mergeDue.evt.merges = [(255, 1023, (7 : Word))]) ∧ (1023 < 1024) ∧ (mergeDue.evtMergeAll = mergeDue.evtMergeAll)) := by
  and_intros <;> decide +kernel

/-- The hypotheses of `MessagesReachTheHost` can be met. -/
theorem witness_MessagesReachTheHost :
    ((0 < vecTimed.f (R.EVT_VEC_TIME 31)) ∧ (0 < tabGet (fun _ => 0) vecTimed.evt.vecCnt 31) ∧ (tabGet (fun _ => 0) vecTimed.evt.vecFirst 31 + 800 * vecTimed.f (R.EVT_VEC_TIME 31) ≤ vecTimed.clk)) ∧
    (((msgDue (0 : BitVec 32)).evt.msgs = [(31, 16), (0, 3)]) ∧ (16 ≤ (msgDue (0 : BitVec 32)).clk) ∧ ((msgDue (0 : BitVec 32)).msixBlocked 31 = false)) ∧
    (((msgDue (2147483648 : BitVec 32)).evt.msgs = [(31, 16), (0, 3)]) ∧ (16 ≤ (msgDue (2147483648 : BitVec 32)).clk) ∧ ((msgDue (2147483648 : BitVec 32)).msixBlocked 31 = true)) ∧
    ((HostOpen (latched 0 4 0)) ∧ ((BitVec.toNat (4 : Word) % 1024 + 1024 - (latched 0 4 0).f R.EVT_HEAD_HEAD) % 1024 ≤ (latched 0 4 0).evtFill)) ∧
    ((HostOpen (latched 0 4 0)) ∧ ((latched 0 4 0).evtFill < (BitVec.toNat (5 : Word) % 1024 + 1024 - (latched 0 4 0).f R.EVT_HEAD_HEAD) % 1024)) ∧
    (((msgHeld true).evt.msixPend.getLsbD 31 = true) ∧ ((msgHeld true).flag R.HIF_LINK_UP = true)) ∧
    (((msgHeld false).evt.msixPend.getLsbD 31 = true) ∧ ((msgHeld false).flag R.HIF_LINK_UP = false)) := by
  and_intros <;> decide +kernel

/-- The hypotheses of `BlackBoxTakesNotesAndRequests` can be met. -/
theorem witness_BlackBoxTakesNotesAndRequests :
    ((HostOpen (boxIn 0 1)) ∧ ((boxIn 0 1).f R.BBX_CFG_EN = 1) ∧ ((boxIn 0 1).boxRecords = true) ∧ ((boxIn 0 1).nvs.box ≠ [])) ∧
    ((HostOpen (boxIn 1 1)) ∧ ((boxIn 1 1).f R.BBX_CFG_EN = 1) ∧ ((boxIn 1 1).boxRecords = false)) ∧
    ((HostOpen (ready.clr R.BBX_CFG_EN)) ∧ ((ready.clr R.BBX_CFG_EN).f R.BBX_CFG_EN = 0)) ∧
    ((HostOpen (boxIn 0 1)) ∧ ((boxIn 0 1).boxRecords = true) ∧ ((boxIn 0 1).f R.BBX_CFG_AUTO = 0)) ∧
    ((HostOpen ((boxIn 0 1).set1 R.BBX_CFG_AUTO)) ∧ (((boxIn 0 1).set1 R.BBX_CFG_AUTO).boxRecords = true)) ∧
    ((HostOpen (boxIn 3 1)) ∧ ((boxIn 3 1).boxRecords = false)) ∧
    ((HostOpen (boxIn 1 1)) ∧ ((boxIn 1 1).f R.BBX_STAT_STATE = 1) ∧ ((boxIn 1 1).f R.BBX_STAT_ER ≠ 0)) ∧
    ((HostOpen (boxIn 1 2)) ∧ ((boxIn 1 2).f R.BBX_STAT_STATE = 1) ∧ ((boxIn 1 2).f R.BBX_STAT_ER ≠ 0)) ∧
    ((HostOpen (boxIn 1 0)) ∧ ((boxIn 1 0).f R.BBX_STAT_STATE = 1) ∧ ((boxIn 1 0).f R.BBX_STAT_ER = 0)) ∧
    ((HostOpen (boxIn 0 1)) ∧ ((boxIn 0 1).f R.BBX_STAT_STATE ≠ 1)) ∧
    ((HostOpen (boxIn 1 1)) ∧ ((boxIn 1 1).f R.BBX_STAT_STATE ∈ [1, 3, 4])) ∧
    ((HostOpen (boxIn 4 1)) ∧ ((boxIn 4 1).f R.BBX_STAT_STATE ∈ [1, 3, 4])) ∧
    ((HostOpen (boxIn 2 1)) ∧ ((boxIn 2 1).f R.BBX_STAT_STATE ∉ [1, 3, 4])) ∧
    ((HostOpen boxHolds) ∧ (1 < 2) ∧ (boxHolds.boxRecords = true) ∧ (boxHolds.reg (R.BBX_ASEQ 1) ≠ (0 : Word)) ∧ (boxHolds.nvs.queue.length < 16)) ∧
    ((HostOpen boxHolds) ∧ (0 < 2) ∧ (boxHolds.boxRecords = true) ∧ (boxHolds.boxRecords = false ∨ boxHolds.reg (R.BBX_ASEQ 0) = (0 : Word) ∨ 16 ≤ boxHolds.nvs.queue.length)) ∧
    ((HostOpen queueFull) ∧ (1 < 2) ∧ (queueFull.boxRecords = true) ∧ (queueFull.reg (R.BBX_ASEQ 1) ≠ (0 : Word)) ∧ (queueFull.boxRecords = false ∨ queueFull.reg (R.BBX_ASEQ 1) = (0 : Word) ∨ 16 ≤ queueFull.nvs.queue.length)) ∧
    ((HostOpen boxHolds) ∧ (1 < 2) ∧ (boxHolds.areaBusy 1 = false) ∧ (boxHolds.nvs.queue.length < 16)) ∧
    ((HostOpen (boxIn 2 1)) ∧ (0 < 2) ∧ ((boxIn 2 1).areaBusy 0 = false) ∧ ((boxIn 2 1).nvs.queue.length < 16)) ∧
    ((HostOpen queueFull) ∧ (1 < 2) ∧ (queueFull.areaBusy 1 = false) ∧ (queueFull.areaBusy 1 = true ∨ 16 ≤ queueFull.nvs.queue.length)) := by
  and_intros <;> decide +kernel

/-- The hypotheses of `FlashOperationsRun` can be met. -/
theorem witness_FlashOperationsRun :
    (((switchTo 1 16).host.accepted = [(R.NVS_SWITCH, (1 : Word))]) ∧ ((switchTo 1 16).commitRefused (BitVec.toNat (1 : Word) % 2) = true ∨ (switchTo 1 16).bankCommits (BitVec.toNat (1 : Word) % 2) = true ∨ 16 ≤ (switchTo 1 16).nvs.queue.length)) ∧
    (((switchTo 1 17).host.accepted = [(R.NVS_SWITCH, (1 : Word))]) ∧ ((switchTo 1 17).commitRefused (BitVec.toNat (1 : Word) % 2) = false) ∧ ((switchTo 1 17).bankCommits (BitVec.toNat (1 : Word) % 2) = false) ∧ ((switchTo 1 17).nvs.queue.length < 16)) ∧
    (((flashQ false (writeReq [FlashStep.prog 17825856 [(1 : Byte), (2 : Byte)]])).nvs.run = none) ∧ ((flashQ false (writeReq [FlashStep.prog 17825856 [(1 : Byte), (2 : Byte)]])).nvs.commit = none) ∧ ((flashQ false (writeReq [FlashStep.prog 17825856 [(1 : Byte), (2 : Byte)]])).nvs.queue = [writeReq [FlashStep.prog 17825856 [(1 : Byte), (2 : Byte)]]]) ∧ ((writeReq [FlashStep.prog 17825856 [(1 : Byte), (2 : Byte)]]).steps = [FlashStep.prog 17825856 [(1 : Byte), (2 : Byte)]]) ∧ ((flashQ false (writeReq [FlashStep.prog 17825856 [(1 : Byte), (2 : Byte)]])).nvs.wait ≠ some FlashRun.head) ∧ ((flashQ false (writeReq [FlashStep.prog 17825856 [(1 : Byte), (2 : Byte)]])).covered ((flashQ false (writeReq [FlashStep.prog 17825856 [(1 : Byte), (2 : Byte)]])).stepClk (FlashStep.prog 17825856 [(1 : Byte), (2 : Byte)])) (isRead (FlashStep.prog 17825856 [(1 : Byte), (2 : Byte)])) = false) ∧ ((writeReq [FlashStep.prog 17825856 [(1 : Byte), (2 : Byte)]]).deferred = false)) ∧
    (((flashQ false (writeReq [FlashStep.read 17825856 2])).nvs.run = none) ∧ ((flashQ false (writeReq [FlashStep.read 17825856 2])).nvs.commit = none) ∧ ((flashQ false (writeReq [FlashStep.read 17825856 2])).nvs.queue = [writeReq [FlashStep.read 17825856 2]]) ∧ ((writeReq [FlashStep.read 17825856 2]).steps = [FlashStep.read 17825856 2]) ∧ ((flashQ false (writeReq [FlashStep.read 17825856 2])).nvs.wait ≠ some FlashRun.head) ∧ ((flashQ false (writeReq [FlashStep.read 17825856 2])).covered ((flashQ false (writeReq [FlashStep.read 17825856 2])).stepClk (FlashStep.read 17825856 2)) (isRead (FlashStep.read 17825856 2)) = true)) ∧
    (((flashPoor (writeReq [FlashStep.prog 17825856 [(1 : Byte), (2 : Byte)]])).nvs.run = none) ∧ ((flashPoor (writeReq [FlashStep.prog 17825856 [(1 : Byte), (2 : Byte)]])).nvs.commit = none) ∧ ((flashPoor (writeReq [FlashStep.prog 17825856 [(1 : Byte), (2 : Byte)]])).nvs.queue = [writeReq [FlashStep.prog 17825856 [(1 : Byte), (2 : Byte)]]]) ∧ ((writeReq [FlashStep.prog 17825856 [(1 : Byte), (2 : Byte)]]).steps = [FlashStep.prog 17825856 [(1 : Byte), (2 : Byte)]]) ∧ ((flashPoor (writeReq [FlashStep.prog 17825856 [(1 : Byte), (2 : Byte)]])).nvs.wait ≠ some FlashRun.head) ∧ ((flashPoor (writeReq [FlashStep.prog 17825856 [(1 : Byte), (2 : Byte)]])).covered ((flashPoor (writeReq [FlashStep.prog 17825856 [(1 : Byte), (2 : Byte)]])).stepClk (FlashStep.prog 17825856 [(1 : Byte), (2 : Byte)])) (isRead (FlashStep.prog 17825856 [(1 : Byte), (2 : Byte)])) = false) ∧ ((writeReq [FlashStep.prog 17825856 [(1 : Byte), (2 : Byte)]]).deferred = false)) ∧
    (((flashPoor (writeAgain [FlashStep.prog 17825856 [(1 : Byte), (2 : Byte)]])).nvs.run = none) ∧ ((flashPoor (writeAgain [FlashStep.prog 17825856 [(1 : Byte), (2 : Byte)]])).nvs.commit = none) ∧ ((flashPoor (writeAgain [FlashStep.prog 17825856 [(1 : Byte), (2 : Byte)]])).nvs.queue = [writeAgain [FlashStep.prog 17825856 [(1 : Byte), (2 : Byte)]]]) ∧ ((writeAgain [FlashStep.prog 17825856 [(1 : Byte), (2 : Byte)]]).steps = [FlashStep.prog 17825856 [(1 : Byte), (2 : Byte)]]) ∧ ((flashPoor (writeAgain [FlashStep.prog 17825856 [(1 : Byte), (2 : Byte)]])).nvs.wait ≠ some FlashRun.head) ∧ ((flashPoor (writeAgain [FlashStep.prog 17825856 [(1 : Byte), (2 : Byte)]])).covered ((flashPoor (writeAgain [FlashStep.prog 17825856 [(1 : Byte), (2 : Byte)]])).stepClk (FlashStep.prog 17825856 [(1 : Byte), (2 : Byte)])) (isRead (FlashStep.prog 17825856 [(1 : Byte), (2 : Byte)])) = false) ∧ ((writeAgain [FlashStep.prog 17825856 [(1 : Byte), (2 : Byte)]]).deferred = true)) ∧
    (((flashWaits (writeReq [FlashStep.prog 17825856 [(1 : Byte), (2 : Byte)]])).nvs.run = none) ∧ ((flashWaits (writeReq [FlashStep.prog 17825856 [(1 : Byte), (2 : Byte)]])).nvs.commit = none) ∧ ((flashWaits (writeReq [FlashStep.prog 17825856 [(1 : Byte), (2 : Byte)]])).nvs.queue = [writeReq [FlashStep.prog 17825856 [(1 : Byte), (2 : Byte)]]]) ∧ ((writeReq [FlashStep.prog 17825856 [(1 : Byte), (2 : Byte)]]).steps = [FlashStep.prog 17825856 [(1 : Byte), (2 : Byte)]]) ∧ ((flashWaits (writeReq [FlashStep.prog 17825856 [(1 : Byte), (2 : Byte)]])).nvs.wait = some FlashRun.head)) ∧
    (((boxCommits true true 0).nvs.run = none) ∧ ((boxCommits true true 0).nvs.commit = some (BoxCommit.mk 0 true 0 1)) ∧ ((boxCommits true true 0).nvs.wait ≠ some (FlashRun.boxed (BoxCommit.mk 0 true 0 1).next) ∨ (BoxCommit.mk 0 true 0 1).pf = true) ∧ ((boxCommits true true 0).covered ((boxCommits true true 0).boxClk (BoxCommit.mk 0 true 0 1).next) false = false) ∧ ((BoxCommit.mk 0 true 0 1).pf = true) ∧ ((boxCommits true true 0).nvs.wait ≠ some (FlashRun.boxed (BoxCommit.mk 0 true 0 1).next))) ∧
    (((boxCommits true false 0).nvs.run = none) ∧ ((boxCommits true false 0).nvs.commit = some (BoxCommit.mk 0 false 0 1)) ∧ ((boxCommits true false 0).nvs.wait ≠ some (FlashRun.boxed (BoxCommit.mk 0 false 0 1).next) ∨ (BoxCommit.mk 0 false 0 1).pf = true) ∧ ((boxCommits true false 0).covered ((boxCommits true false 0).boxClk (BoxCommit.mk 0 false 0 1).next) false = false) ∧ ((boxCommits true false 0).nvs.wait ≠ some (FlashRun.boxed (BoxCommit.mk 0 false 0 1).next)) ∧ ((BoxCommit.mk 0 false 0 1).pf = false)) ∧
    (((boxCommits false false 0).nvs.run = none) ∧ ((boxCommits false false 0).nvs.commit = some (BoxCommit.mk 0 false 0 1)) ∧ ((boxCommits false false 0).nvs.wait ≠ some (FlashRun.boxed (BoxCommit.mk 0 false 0 1).next) ∨ (BoxCommit.mk 0 false 0 1).pf = true) ∧ ((boxCommits false false 0).covered ((boxCommits false false 0).boxClk (BoxCommit.mk 0 false 0 1).next) false = false) ∧ ((boxCommits false false 0).nvs.wait ≠ some (FlashRun.boxed (BoxCommit.mk 0 false 0 1).next)) ∧ ((BoxCommit.mk 0 false 0 1).pf = false)) ∧
    (((boxWaits false).nvs.run = none) ∧ ((boxWaits false).nvs.commit = some (BoxCommit.mk 0 false 0 1)) ∧ ((boxWaits false).nvs.wait = some (FlashRun.boxed (BoxCommit.mk 0 false 0 1).next)) ∧ ((BoxCommit.mk 0 false 0 1).pf = false) ∧ ((boxWaits false).covered ((boxWaits false).boxClk (BoxCommit.mk 0 false 0 1).next) false = false)) ∧
    ((boxRich.nvs.run = none) ∧ (boxRich.nvs.commit = some (BoxCommit.mk 0 false 0 1)) ∧ (boxRich.nvs.wait ≠ some (FlashRun.boxed (BoxCommit.mk 0 false 0 1).next) ∨ (BoxCommit.mk 0 false 0 1).pf = true) ∧ (boxRich.covered (boxRich.boxClk (BoxCommit.mk 0 false 0 1).next) false = true) ∧ (boxRich.nvs.wait ≠ some (FlashRun.boxed (BoxCommit.mk 0 false 0 1).next))) ∧
    (((flashEnds (writeReq [FlashStep.prog 17825856 [(1 : Byte), (2 : Byte)]])).nvs.run = some (FlashRun.head, 900000)) ∧ (900000 ≤ (flashEnds (writeReq [FlashStep.prog 17825856 [(1 : Byte), (2 : Byte)]])).clk) ∧ ((flashEnds (writeReq [FlashStep.prog 17825856 [(1 : Byte), (2 : Byte)]])).nvs.queue = [writeReq [FlashStep.prog 17825856 [(1 : Byte), (2 : Byte)]]]) ∧ ((writeReq [FlashStep.prog 17825856 [(1 : Byte), (2 : Byte)]]).steps = [FlashStep.prog 17825856 [(1 : Byte), (2 : Byte)]])) ∧
    (((flashEnds (writeReq [FlashStep.prog 17825856 [(1 : Byte), (2 : Byte)]])).nvs.run = some (FlashRun.head, 900000)) ∧ (900000 ≤ (flashEnds (writeReq [FlashStep.prog 17825856 [(1 : Byte), (2 : Byte)]])).clk) ∧ ((flashEnds (writeReq [FlashStep.prog 17825856 [(1 : Byte), (2 : Byte)]])).nvs.queue = [writeReq [FlashStep.prog 17825856 [(1 : Byte), (2 : Byte)]]]) ∧ ((writeReq [FlashStep.prog 17825856 [(1 : Byte), (2 : Byte)]]).steps = [FlashStep.prog 17825856 [(1 : Byte), (2 : Byte)]]) ∧ (FlashStep.prog 17825856 [(1 : Byte), (2 : Byte)] = FlashStep.prog 17825856 [(1 : Byte), (2 : Byte)]) ∧ (1 < [(1 : Byte), (2 : Byte)].length) ∧ ((writeReq [FlashStep.prog 17825856 [(1 : Byte), (2 : Byte)]]).job = FlashJob.write 1 16 [(1 : Word), (2 : Word)]) ∧ (1 < 2) ∧ (16 + [(1 : Word), (2 : Word)].length ≤ 262144)) ∧
    (((flashEnds (writeReq [FlashStep.erase 17825792, FlashStep.prog 17825856 [(1 : Byte), (2 : Byte)]])).nvs.run = some (FlashRun.head, 900000)) ∧ (900000 ≤ (flashEnds (writeReq [FlashStep.erase 17825792, FlashStep.prog 17825856 [(1 : Byte), (2 : Byte)]])).clk) ∧ ((flashEnds (writeReq [FlashStep.erase 17825792, FlashStep.prog 17825856 [(1 : Byte), (2 : Byte)]])).nvs.queue = [writeReq [FlashStep.erase 17825792, FlashStep.prog 17825856 [(1 : Byte), (2 : Byte)]]]) ∧ ((writeReq [FlashStep.erase 17825792, FlashStep.prog 17825856 [(1 : Byte), (2 : Byte)]]).steps = [FlashStep.erase 17825792, FlashStep.prog 17825856 [(1 : Byte), (2 : Byte)]]) ∧ (FlashStep.erase 17825792 = FlashStep.erase 17825792) ∧ (4095 < 4096) ∧ ((writeReq [FlashStep.erase 17825792, FlashStep.prog 17825856 [(1 : Byte), (2 : Byte)]]).job = FlashJob.write 1 16 [(1 : Word), (2 : Word)]) ∧ ([FlashStep.prog 17825856 [(1 : Byte), (2 : Byte)]] ≠ [])) ∧
    (((boxEnds 1 1).nvs.run = some (FlashRun.boxed 1, 900000)) ∧ (900000 ≤ (boxEnds 1 1).clk) ∧ ((boxEnds 1 1).nvs.commit = some (BoxCommit.mk 0 false 1 1)) ∧ (0 < 1) ∧ (1 ≤ 128) ∧ ((BoxCommit.mk 0 false 1 1).need ≤ 1)) ∧
    (((boxEnds 1 2).nvs.run = some (FlashRun.boxed 1, 900000)) ∧ (900000 ≤ (boxEnds 1 2).clk) ∧ ((boxEnds 1 2).nvs.commit = some (BoxCommit.mk 0 false 1 2)) ∧ (0 < 1) ∧ (1 ≤ 128) ∧ (1 < (BoxCommit.mk 0 false 1 2).need)) ∧
    (((boxEnds 128 128).nvs.run = some (FlashRun.boxed 128, 900000)) ∧ (900000 ≤ (boxEnds 128 128).clk) ∧ ((boxEnds 128 128).nvs.commit = some (BoxCommit.mk 0 false 128 128)) ∧ (0 < 128) ∧ (128 ≤ 128) ∧ ((BoxCommit.mk 0 false 128 128).need ≤ 128)) := by
  and_intros <;> decide +kernel

/-- The hypotheses of `HostResetsTouchTheHostInterfaceOnly` can be met. -/
theorem witness_HostResetsTouchTheHostInterfaceOnly :
    ((busyBlock.host.accepted = [(R.GLB_SWRST, (1 : Word))])) ∧
    ((tabWf (fun _ => Core.idle) busyBlock.hif.cores = true) ∧ (3 < 4) ∧ (1 < 2)) ∧
    ((busyBlock.f R.HIF_LINK_UP = 1) ∧ (3 < 4)) ∧
    ((0 < 4)) ∧
    ((busyBlock.f R.HIF_LINK_UP = 1)) ∧
    ((ready.f R.HIF_LINK_UP = 0)) ∧
    (((bootAt 9 63 0).pllLocked 4 = true) ∧ (4 ∈ [1, 2, 4]) ∧ (3 ∈ [1, 2, 3])) := by
  and_intros <;> decide +kernel

/-- The hypotheses of `FullAndCoreResets` can be met. -/
theorem witness_FullAndCoreResets :
    ((Instr.resetPin = Instr.resetPin ∧ R.GLB_RST_CAUSE_PIN = R.GLB_RST_CAUSE_PIN ∨ Instr.resetPin = Instr.softwareResetFull ∧ busyBlock.resetDue 3 = true ∧ R.GLB_RST_CAUSE_PIN = R.GLB_RST_CAUSE_SW) ∧ (busyBlock.nvs.run = none)) ∧
    ((Instr.softwareResetFull = Instr.resetPin ∧ R.GLB_RST_CAUSE_SW = R.GLB_RST_CAUSE_PIN ∨ Instr.softwareResetFull = Instr.softwareResetFull ∧ (resetAt 3 164).resetDue 3 = true ∧ R.GLB_RST_CAUSE_SW = R.GLB_RST_CAUSE_SW) ∧ ((resetAt 3 164).nvs.run = none)) ∧
    (((resetAt 2 164).resetDue 2 = true) ∧ ((resetAt 2 164).nvs.run = none)) ∧
    ((2 = 2 ∨ 2 = 3) ∧ ((resetAt 2 163).host.swrst = some (2, 100)) ∧ ((resetAt 2 163).clk < 100 + 64 ∨ (resetAt 2 163).flashWrites = true)) ∧
    ((3 = 2 ∨ 3 = 3) ∧ ((resetAt 3 163).host.swrst = some (3, 100)) ∧ ((resetAt 3 163).clk < 100 + 64 ∨ (resetAt 3 163).flashWrites = true)) := by
  and_intros <;> decide +kernel

/-- The hypotheses of `PllsAndDebugPort` can be met. -/
theorem witness_PllsAndDebugPort :
    ((¬(5 = 0 ∧ ready.sysLost = true))) ∧
    ((5 ≠ 0) ∧ (0 = 0) ∧ ((bootAt 9 63 0).pllLocked 0 = true)) ∧
    ((5 ≠ 1) ∧ (1 = 1)) ∧
    ((5 ≠ 2) ∧ (2 = 2) ∧ (3 < 4)) ∧
    ((5 ≠ 4) ∧ (4 = 4) ∧ (busyBlock.f R.HIF_LINK_UP = 1)) ∧
    ((0 ≠ 5) ∧ (5 = 5) ∧ ((bootAt 9 63 0).pllLocked 5 = true)) := by
  and_intros <;> decide +kernel

/-- The hypotheses of `BootTakesItsSteps` can be met. -/
theorem witness_BootTakesItsSteps :
    (((bootAt 2 1 0).f R.GLB_BOOT_STATE = 2) ∧ (bootPoor.sfdp = none)) ∧
    (((bootAt 2 1 0).f R.GLB_BOOT_STATE = 2) ∧ ((bootEnv []).sfdp = some (32, 700, 400))) ∧
    (((bootAt 3 1 0).f R.GLB_BOOT_STATE = 3) ∧ ((bootAt 3 1 0).imageOk (bootEnv []) = false)) ∧
    ((bootImg.f R.GLB_BOOT_STATE = 3) ∧ (bootImg.imageOk bootUnread = true) ∧ (bootUnread.readOk = false)) ∧
    (((bootAt 4 1 0).f R.GLB_BOOT_STATE = 4) ∧ ((bootEnv []).sigOk = true)) ∧
    (((bootAt 4 1 0).f R.GLB_BOOT_STATE = 4) ∧ (bootPoor.sigOk = false)) ∧
    (((bootAt 6 1 0).f R.GLB_BOOT_STATE = 6) ∧ ((bootAt 6 1 0).host.bootList = none) ∧ ((bootAt 6 1 0).bankChoice = none)) ∧
    ((bootBank.f R.GLB_BOOT_STATE = 6) ∧ (bootBank.host.bootList = none) ∧ (bootBank.bankChoice = some 1)) ∧
    (((bootListed [(7 : Word), (8 : Word), (9 : Word), (10 : Word)] 8).f R.GLB_BOOT_STATE = 6) ∧ ((bootListed [(7 : Word), (8 : Word), (9 : Word), (10 : Word)] 8).host.bootList = some ([(7 : Word), (8 : Word), (9 : Word), (10 : Word)], 9)) ∧ ((7 : Word) ≠ (4294967295 : Word)) ∧ ((bootListed [(7 : Word), (8 : Word), (9 : Word), (10 : Word)] 8).clk < 9)) ∧
    (((bootListed [(4294967295 : Word), (8 : Word), (9 : Word), (10 : Word)] 8).f R.GLB_BOOT_STATE = 6) ∧ ((bootListed [(4294967295 : Word), (8 : Word), (9 : Word), (10 : Word)] 8).host.bootList = some ([(4294967295 : Word), (8 : Word), (9 : Word), (10 : Word)], 9))) ∧
    (((bootListed [(7 : Word), (8 : Word)] 9).f R.GLB_BOOT_STATE = 6) ∧ ((bootListed [(7 : Word), (8 : Word)] 9).host.bootList = some ([(7 : Word), (8 : Word)], 9)) ∧ ((7 : Word) ≠ (4294967295 : Word)) ∧ (9 ≤ (bootListed [(7 : Word), (8 : Word)] 9).clk) ∧ (BitVec.toNat (7 : Word) % 4 ≠ 0 ∨ isMapped (BitVec.toNat (7 : Word)) = false)) ∧
    (((bootListed [(33554428 : Word), (8 : Word)] 9).f R.GLB_BOOT_STATE = 6) ∧ ((bootListed [(33554428 : Word), (8 : Word)] 9).host.bootList = some ([(33554428 : Word), (8 : Word)], 9)) ∧ ((33554428 : Word) ≠ (4294967295 : Word)) ∧ (9 ≤ (bootListed [(33554428 : Word), (8 : Word)] 9).clk) ∧ (BitVec.toNat (33554428 : Word) % 4 ≠ 0 ∨ isMapped (BitVec.toNat (33554428 : Word)) = false)) ∧
    (((bootAt 7 3 0).f R.GLB_BOOT_STATE = 7) ∧ ((bootAt 7 3 0).f R.GLB_BOOTCFG_AUTO_START = 0)) ∧
    ((((bootAt 7 3 0).set1 R.GLB_BOOTCFG_AUTO_START).f R.GLB_BOOT_STATE = 7) ∧ (((bootAt 7 3 0).set1 R.GLB_BOOTCFG_AUTO_START).f R.GLB_BOOTCFG_AUTO_START = 1)) ∧
    (((holding ((bootAt 8 3 0).ringStart (some ((bootAt 8 3 0).bootTag 64))) (pktOf 0 [])).f R.GLB_BOOT_STATE = 8) ∧ ((holding ((bootAt 8 3 0).ringStart (some ((bootAt 8 3 0).bootTag 64))) (pktOf 0 [])).bootWaits = true)) ∧
    (((bootAt 15 3 0).f R.GLB_BOOT_STATE = 9 ∨ (bootAt 15 3 0).f R.GLB_BOOT_STATE = 15)) ∧
    (((bootAt 9 3 0).f R.GLB_BOOT_STATE = 9 ∨ (bootAt 9 3 0).f R.GLB_BOOT_STATE = 15)) ∧
    (((bootAt 0 0 0).f R.GLB_BOOT_STATE = 0)) ∧
    (((bootAt 1 1 0).f R.GLB_BOOT_STATE = 1) ∧ ((bootAt 1 1 0).pllLocked 0 = true)) ∧
    (((bootAt 1 0 1).f R.GLB_BOOT_STATE = 1) ∧ ((bootAt 1 0 1).pllLocked 0 = false) ∧ (((bootAt 1 0 1).f R.GLB_CLK_STAT_FAIL).testBit 0 = true)) ∧
    (((bootAt 1 0 0).f R.GLB_BOOT_STATE = 1) ∧ ((bootAt 1 0 0).pllLocked 0 = false) ∧ (((bootAt 1 0 0).f R.GLB_CLK_STAT_FAIL).testBit 0 = false)) ∧
    ((bootAt 5 1 0).f R.GLB_BOOT_STATE = 5) ∧
    ((bootImg.f R.GLB_BOOT_STATE = 3) ∧ (bootImg.imageOk (bootEnv threeSections) = true) ∧ ((bootEnv threeSections).readOk = true)) := by
  and_intros <;> decide +kernel

/-! ## Witnesses that rest on a check code -/

/-- A Pier whose load has ended. -/
def reloaded : State := (pierIn 1).putPier 15 { Pier.idle with loaded := true }
/-- The same with a CRC register `v`. -/
def reloadedCrc (v : Word) : State := reloaded.putReg (R.PIR_UC_CRC 15) v
/-- A Pier OFFLINE whose scrubber has come to the end of its pass. -/
def scrubEnd : State := (pierIn 4).putPier 15 { Pier.idle with scrub := 12288 }
/-- The same with a CRC register `v`. -/
def scrubbed (v : Word) : State := scrubEnd.putReg (R.PIR_UC_CRC 15) v

theorem pierCrc_putReg (s : State) (a : Nat) (v : Word) (p : Nat) : (s.putReg a v).pierCrc p = s.pierCrc p := by
  unfold State.putReg; split <;> rfl
theorem pier_putReg (s : State) (a : Nat) (v : Word) (p : Nat) : (s.putReg a v).pier p = s.pier p := by
  unfold State.putReg; split <;> rfl
theorem state_putCrc (s : State) (v : Word) : (s.putReg (R.PIR_UC_CRC 15) v).f (R.PIR_STAT_STATE 15) = s.f (R.PIR_STAT_STATE 15) := by
  rw [State.f_putReg, if_neg (by decide)]
theorem crc_putCrc (s : State) (v : Word) : (s.putReg (R.PIR_UC_CRC 15) v).reg (R.PIR_UC_CRC 15) = v := by
  rw [State.reg_putReg, if_pos rfl]
theorem reloaded_state : reloaded.f (R.PIR_STAT_STATE 15) = 1 ∧ (reloaded.pier 15).loaded = true := by decide +kernel
theorem scrubEnd_state : scrubEnd.f (R.PIR_STAT_STATE 15) = 4 := by decide +kernel
theorem clk_putReg (s : State) (a : Nat) (v : Word) : (s.putReg a v).clk = s.clk := by
  unfold State.putReg; split <;> rfl
theorem scrub_done (v : Word) : 12288 ≤ (scrubbed v).scrubbed 15 := by
  simp only [scrubbed, State.scrubbed, pier_putReg, state_putCrc, clk_putReg]
  decide +kernel
theorem succ_ne (v : Word) : v ≠ v + 1 := by bv_omega

/-- The hypotheses of the clauses of `PiersChangeState` on a CRC that does not match can be met. -/
theorem witness_PiersChangeState_crcDiffers :
    (((reloadedCrc (reloaded.pierCrc 15 + 1)).f (R.PIR_STAT_STATE 15) = 1 ∧ ((reloadedCrc (reloaded.pierCrc 15 + 1)).pier 15).loaded = true ∧
      (reloadedCrc (reloaded.pierCrc 15 + 1)).pierCrc 15 ≠ (reloadedCrc (reloaded.pierCrc 15 + 1)).reg (R.PIR_UC_CRC 15)) ∧
    (2 ≤ (scrubbed (scrubEnd.pierCrc 15 + 1)).f (R.PIR_STAT_STATE 15) ∧ (scrubbed (scrubEnd.pierCrc 15 + 1)).f (R.PIR_STAT_STATE 15) ≤ 4 ∧
      (scrubbed (scrubEnd.pierCrc 15 + 1)).pierCrc 15 ≠ (scrubbed (scrubEnd.pierCrc 15 + 1)).reg (R.PIR_UC_CRC 15))) ∧
    12288 ≤ (scrubbed (scrubEnd.pierCrc 15 + 1)).scrubbed 15 := by
  refine ⟨?_, scrub_done _⟩
  simp only [reloadedCrc, scrubbed, pierCrc_putReg, pier_putReg, state_putCrc, crc_putCrc, reloaded_state, scrubEnd_state, succ_ne, ne_eq, not_false_eq_true,
    and_self, true_and, and_true]
  decide

/-- The hypotheses of the clauses of `PiersChangeState` on a CRC that matches can be met. -/
theorem witness_PiersChangeState_crcMatches :
    (((reloadedCrc (reloaded.pierCrc 15)).f (R.PIR_STAT_STATE 15) = 1 ∧ ((reloadedCrc (reloaded.pierCrc 15)).pier 15).loaded = true ∧
      (reloadedCrc (reloaded.pierCrc 15)).pierCrc 15 = (reloadedCrc (reloaded.pierCrc 15)).reg (R.PIR_UC_CRC 15)) ∧
    ((scrubbed (scrubEnd.pierCrc 15)).f (R.PIR_STAT_STATE 15) = 4 ∧
      (scrubbed (scrubEnd.pierCrc 15)).pierCrc 15 = (scrubbed (scrubEnd.pierCrc 15)).reg (R.PIR_UC_CRC 15))) ∧
    12288 ≤ (scrubbed (scrubEnd.pierCrc 15)).scrubbed 15 := by
  refine ⟨?_, scrub_done _⟩
  simp only [reloadedCrc, scrubbed, pierCrc_putReg, pier_putReg, state_putCrc, crc_putCrc, reloaded_state, scrubEnd_state, and_self]

theorem pwin_reset : ∀ w < 1024, State.reset.reg (R.KST_PWIN w) = 0 := by decide +kernel

/-- A window in which only words 0 and 0x7C have been written. -/
theorem pwin_of (s : State) (a b : Word) (h : ∀ w < 1024, s.reg (R.KST_PWIN w) = 0) (w : Nat) (hw : w < 1024) :
    (((s.putReg (R.KST_PWIN 0) a).putReg (R.KST_PWIN 0x7C) b)).reg (R.KST_PWIN w) = if w = 0x7C then b else if w = 0 then a else 0 := by
  have h1 : (R.KST_PWIN 0x7C = R.KST_PWIN w) ↔ w = 0x7C := by simp only [R.KST_PWIN]; omega
  have h0 : (R.KST_PWIN 0 = R.KST_PWIN w) ↔ w = 0 := by simp only [R.KST_PWIN]; omega
  simp only [State.reg_putReg, h w hw, h1, h0]

/-- The window is clear in a state made by writing other registers. -/
theorem pwin_clear (st : Nat) (v : Word) (w : Nat) (hw : w < 1024) : (fwReq st v false).reg (R.KST_PWIN w) = 0 := by
  have h : (fwReq st v false).reg (R.KST_PWIN w) = (kstIn st).reg (R.KST_PWIN w) := rfl
  have hk : 0x201000 ≤ R.KST_PWIN w := Nat.le_add_right _ _
  have h2 : (kstIn st).reg (R.KST_PWIN w) = State.reset.reg (R.KST_PWIN w) := by
    show (((State.reset.setF R.GLB_BOOT_STATE 9).setF R.GLB_CLK_STAT_LOCK 0x3F).setF R.KST_STAT_STATE st).reg (R.KST_PWIN w) = _
    have e1 : R.KST_PWIN w ≠ R.KST_STAT_STATE.addr := Nat.ne_of_gt (Nat.lt_of_lt_of_le (by decide) hk)
    have e2 : R.KST_PWIN w ≠ R.GLB_CLK_STAT_LOCK.addr := Nat.ne_of_gt (Nat.lt_of_lt_of_le (by decide) hk)
    have e3 : R.KST_PWIN w ≠ R.GLB_BOOT_STATE.addr := Nat.ne_of_gt (Nat.lt_of_lt_of_le (by decide) hk)
    simp only [State.reg_setF, e1.symm, e2.symm, e3.symm, if_false]
  rw [h, h2, pwin_reset w hw]

/-- An image whose header, W and TPP are set and that is zero elsewhere. -/
def goodImage : Tab Byte := [(0, 1), (3, 0x10), (0x1F0, 4), (0x1F1, 8)]

theorem goodImage_valid : imgValidate goodImage = 0 := by decide +kernel

theorem winGood_image (s : State) (h : ∀ w < 1024, s.reg (R.KST_PWIN w) = 0) :
    ((s.putReg (R.KST_PWIN 0) 0x10000001).putReg (R.KST_PWIN 0x7C) 0x00000804).winImage = goodImage := by
  refine tab_ext imgDefault _ _ (winImage_wf _) (by decide) (fun k => ?_)
  rw [winImage_get]
  by_cases hk : k < 4096
  · rw [if_pos hk, pwin_of s _ _ h (k / 4) (by omega)]
    by_cases h1 : k / 4 = 0x7C
    · have hq : k = 0x1F0 ∨ k = 0x1F1 ∨ k = 0x1F2 ∨ k = 0x1F3 := by omega
      rcases hq with rfl | rfl | rfl | rfl <;> decide
    · by_cases h0 : k / 4 = 0
      · have hq : k = 0 ∨ k = 1 ∨ k = 2 ∨ k = 3 := by omega
        rcases hq with rfl | rfl | rfl | rfl <;> decide
      · rw [if_neg h1, if_neg h0]
        have e : 0 ≠ k ∧ 3 ≠ k ∧ 0x1F0 ≠ k ∧ 0x1F1 ≠ k := by omega
        simp [goodImage, tabGet, e, imgDefault]
  · rw [if_neg hk]
    have e : 0 ≠ k ∧ 3 ≠ k ∧ 0x1F0 ≠ k ∧ 0x1F1 ≠ k := by omega
    simp [goodImage, tabGet, e, imgDefault]

theorem winClear_image (s : State) (h : ∀ w < 1024, s.reg (R.KST_PWIN w) = 0) : s.winImage = [] := by
  refine tab_ext imgDefault _ _ (winImage_wf _) (by decide) (fun k => ?_)
  rw [winImage_get]
  by_cases hk : k < 4096
  · rw [if_pos hk, h (k / 4) (by omega)]; simp [tabGet, imgDefault]
  · rw [if_neg hk]; rfl

/-- The hypotheses of the clauses of `ImagesAreConfirmed` on an image that passes can be met, for a request, and at boot for a confirmed value that differs or agrees. -/
theorem witness_ImagesAreConfirmed_good :
    ((winGood 3 3).takeRequest 3 = some (winGoodTaken 3) ∧ (winGood 3 3).kstHeld = false ∧ (winGood 3 3).kstState = 3) ∧
    imgValidate (winGood 3 3).winImage = 0 ∧
    (∀ v, (kstConf (some v) true).kstHeld = false ∧ (kstConf (some v) true).kstState = 0 ∧ (kstConf (some v) true).kst.winSet = true ∧
      (kstConf (some v) true).kst.conf = some v ∧ imgValidate (kstConf (some v) true).winImage = 0) := by
  have h (st : Nat) (v : Word) : imgValidate (winGood st v).winImage = 0 := by
    rw [winGood, winGood_image _ (pwin_clear st v)]; exact goodImage_valid
  refine ⟨by decide +kernel, h 3 3, fun v => ⟨?_, ?_, rfl, rfl, ?_⟩⟩
  · show (winGood 0 0).kstHeld = false
    decide +kernel
  · show (winGood 0 0).kstState = 0
    decide +kernel
  · show imgValidate (winGood 0 0).winImage = 0
    exact h 0 0

/-- The hypotheses of the clause of `ImagesAreConfirmed` on an image that fails can be met. -/
theorem witness_ImagesAreConfirmed_bad :
    ((fwReq 0 3 false).takeRequest 3 = some (fwTaken 0 3 false) ∧ (fwReq 0 3 false).kstHeld = false ∧ (fwReq 0 3 false).kstState = 0) ∧
    imgValidate (fwReq 0 3 false).winImage ≠ 0 := by
  refine ⟨by decide +kernel, ?_⟩
  rw [winClear_image _ (pwin_clear 0 3)]
  decide +kernel

/-- The hypotheses of the clause of `PylonsPairAndJoin` on a State frame can be met. -/
theorem witness_PylonsPairAndJoin_state :
    ((pylon 3).twin = true ∧ (pylon 3).twn.linkUp = true ∧ (pylon 3).role = 3) ∧ pairCrcOk partFrame = true ∧ partFrame.length = 528 ∧ pairField partFrame 0 1 = 4 := by
  have hl : (bytesOf 1 4 ++ bytesOf 3 7 ++ bytesOf 4 6 ++ List.replicate 516 (1 : Byte)).length = 524 := by
    rw [List.length_append, List.length_replicate]; rfl
  refine ⟨by decide +kernel, pairCrcOk_pairFrame _ (fun h => ?_), ?_, ?_⟩
  · rw [h] at hl; exact absurd hl (by decide)
  · rw [partFrame, pairFrame_length, hl]
  · rw [partFrame, pairField_pairFrame _ _ _ (by rw [hl]; omega)]; rfl

/-- The hypotheses of the clauses of `FlashOperationsRun` on the head of the queue can be met: its job is a write of a bank. -/
theorem witness_FlashOperationsRun_job : ∀ steps : List FlashStep,
    (∀ p : Nat, (writeReq steps).job = FlashJob.reload p → p < 16) ∧ (∀ b : Nat, (writeReq steps).job = FlashJob.commit b → b < 2) :=
  fun _ => ⟨fun _ h => (nomatch h), fun _ h => (nomatch h)⟩

/-! ## Witnesses that quantify over states, commands or lists -/

/-- The hypotheses of `CommandsKeepTheirFrames` can be met. -/
theorem witness_CommandsKeepTheirFrames : ∃ t, exec .ntNow ready = .next t := ⟨_, rfl⟩

/-- The hypotheses of `EveryStepAnswersANextState` can be met, with SYSCLK running and lost. -/
theorem witness_EveryStepAnswersANextState :
    (ready.pending = [] ∧ ready.sysLost = false) ∧ ({ ready with sysLost := true }.pending = [] ∧ { ready with sysLost := true }.sysLost = true) := by
  decide +kernel

/-- The hypotheses of `NetworkTimeStaysLegal` can be met. -/
theorem witness_NetworkTimeStaysLegal : NtLegal ready ∧ ∃ t, step ready = .next t := ⟨by unfold NtLegal; decide +kernel, _, rfl⟩

/-- The hypotheses of `ResetLeavesTheStatedValues` can be met. -/
theorem witness_ResetLeavesTheStatedValues : isTv R.GLB_SWRST = false := by decide +kernel

/-- The hypotheses of the first clause of `FullAndCoreResets` can be met. -/
theorem witness_FullReset : (Instr.powerOn = .powerOn ∨ ∃ r, Instr.powerOn = .supplyBrownout r) ∧
    (Instr.supplyBrownout .vdd33 = .powerOn ∨ ∃ r, Instr.supplyBrownout .vdd33 = .supplyBrownout r) := ⟨.inl rfl, .inr ⟨_, rfl⟩⟩

/-- The lists of waiting quiesces in `GroupsStopStartAndRestart` can name axes of the table only. -/
theorem witness_QuiescedAxesExist : ∀ w axes' c', (⟨w, .quiesce axes' c'⟩ : Waiting) ∈ quiescing.hif.waits → ∀ b ∈ axes', b < 160 := by
  intro w axes' c' h b hb
  have hw : quiescing.hif.waits = [⟨some tag1, .quiesce [159] 8⟩] := by decide +kernel
  rw [hw, List.mem_singleton] at h
  injection h with h1 h2
  injection h2 with h3 h4
  rw [h3, List.mem_singleton] at hb
  omega

/-- The lists of waiting resumes in `GroupsStopStartAndRestart` can name axes of the table only. -/
theorem witness_ResumedAxesExist : ∀ w r', (⟨w, .resume r'⟩ : Waiting) ∈ (resuming 5 2).hif.waits → ∀ b ∈ r'.axes, b < 160 := by
  intro w r' h b hb
  have hw : (resuming 5 2).hif.waits = [⟨some tag1, .resume resume159⟩] := by decide +kernel
  rw [hw, List.mem_singleton] at h
  injection h with h1 h2
  injection h2 with h3
  rw [h3] at hb
  have hx : resume159.axes = [159] := rfl
  rw [hx, List.mem_singleton] at hb
  omega

/-- The first motion packet of `MotionPacketsWriteTheirBlock` is in its list. -/
theorem witness_MotionPacketListed : ((Instr.opMoveAbs, 0x20, 1) : (Fin 2 → Instr) × Nat × Nat) ∈
    ([(Instr.opMoveAbs, 0x20, 1), (Instr.opMoveRel, 0x21, 2)] : List ((Fin 2 → Instr) × Nat × Nat)) := List.mem_cons_self

/-! ## Ill-formed commands -/

/-- An address above BAR0 is refused. -/
theorem test_wf_address : (Instr.registerWrite 0x2000000 0).wfError = some .address := by decide
/-- An address that is not a multiple of four is refused. -/
theorem test_wf_alignment : (Instr.readClear 0x30006).wfError = some .alignment := by decide
/-- A frame that ends before it begins is refused. -/
theorem test_wf_frame : (Instr.collectReceive 0 ⟨[], 5, 4⟩).wfError = some .frame := by decide
/-- A payload of no words in a queue entry is refused. -/
theorem test_wf_length : (Instr.sqEntryWrite 0 []).wfError = some .length := by decide
/-- A frame-buffer slot of 512 is refused. -/
theorem test_wf_slot : (Instr.assemblerSlotRead 512).wfError = some .slot := by decide
/-- An instant past the end of its clk is refused. -/
theorem test_wf_instant : (Instr.pwmFaultInput 0 true 1250).wfError = some .instant := by decide
/-- A link of three lanes is refused. -/
theorem test_wf_code : (Instr.pcieLinkUp 3 1).wfError = some .code := by decide
/-- The last register address of BAR0 is well formed. -/
theorem test_wf_accepted : (Instr.registerWrite 0x1FFFFFC 7).wf = true := by decide

/-! ## One-step tests

Expected values come from the spec's worked examples and rules, not from the model. -/

/-- The state after a command; the state itself where the command stops. -/
def after (c : Instr) (s : State) : State :=
  match exec c s with
  | .next t => t
  | _ => s

/-- spec/14, worked example: two entries of the same vector count 4 with the entries before them, so its message is due 16 clk later and its count is 0. -/
def exampleLatch (detail : BitVec 16) : EvtLatch := ⟨⟨0, 0, 0⟩, 0, 0, detail, 0, 1, true⟩
/-- Source 0x45 with MERGE, source 0x53 without; vector 3 has CNT 4 and TIME 50 (the routing byte: EN bit 7, INT bit 6, MERGE bit 5, VEC bits 4 to 0). -/
def exampleEvents (n src : Nat) (d : BitVec 16) : State :=
  let s := ((((ready.set1 R.EVT_CFG_EN).putReg (R.EVT_MAP 17) 0xA300).putReg (R.EVT_MAP 20) 0x83000000).setF (R.EVT_VEC_CNT 3) 4).setF (R.EVT_VEC_TIME 3) 50
  { s with clk := 4000, evt := { s.evt with vecCnt := [(3, n)], latch := [(src, some (exampleLatch d))] } }
/-- The writer serves the latch at 4,000; the entry is written 2 clk later. -/
def exampleWritten (s : State) : State := ({ after .eventWriterServe s with clk := 4002 } : State).evtLand
theorem test_event_vector_counts :
    let s := exampleWritten (exampleEvents 3 0x53 5)
    s.evt.msgs = [(3, 4018)] ∧ tabGet (fun _ => 0) s.evt.vecCnt 3 = 0 ∧ s.f R.EVT_TAIL_TAIL = 1 := by decide +kernel
theorem test_event_vector_below_count :
    let s := exampleWritten (exampleEvents 0 0x45 0x307)
    s.evt.msgs = [] ∧ tabGet (fun _ => 0) s.evt.vecCnt 3 = 1 ∧ s.f R.EVT_TAIL_TAIL = 1 := by decide +kernel
/-- spec/07, lane 2: a compare value of 12,345 + 5/16 gives 12,346 in dither phases 3, 6, 9, 12 and 15. -/
theorem test_dither_phases : ((List.range 16).filter (fun k => ditherWidth (12345 * 16 + 5) k 40000 == 12346)) = [3, 6, 9, 12, 15] := by decide +kernel
/-- spec/07, lane 2: PER 40,000 with DT 800 and MINP 80 is accepted. -/
theorem test_pwm_enable :
    let s := (ready.setF (R.PWM_PER_PER 3) 40000).setF (R.PWM_DT_DT 3) 800
    (after (.pwmModuleEnable 3 0x00500813) s).flag (R.PWM_CFG_EN 3) = true := by decide +kernel
/-- spec/15, worked example: with a page program of 800 µs and f = 50 MHz the freeze record takes 802.88 µs and a tile 13,769.92 µs. -/
theorem test_black_box_times :
    let s := (ready.setF R.NVS_T_PP_T 800).setF R.NVS_CFG_SCK_DIV 8
    s.boxClk 0 = 642304 ∧ s.boxClk 1 = 11015936 := by decide +kernel
/-- spec/06, worked example: from 2,000,000 counts/s under D = 10,000,000 and J = 1,000,000,000 the stop covers 210,000 counts; the plan's arithmetic is within one
count of it (log entry 31). -/
theorem test_stopping_distance :
    let d := stopDistance (2000000 * qOne) 0 ⟨0, 10000000 * qOne, 10000000 * qOne, 1000000000 * qOne⟩
    209999 * qOne ≤ d ∧ d ≤ 210001 * qOne := by decide +kernel
/-- R390: a read of an address no register has is counted. -/
theorem test_unmapped_read : (after (.unmappedAccess 0x1FFFFFC false 0) ready).f R.GLB_ACC_ERR_UNMAP = 1 := by decide +kernel
/-- R12, R13: the complement of a pair's value within the window completes it. -/
theorem test_pair_completes : (after (.pairedWriteComplement R.PWM_FORCE (~~~(5 : Word))) pairOpen).host.accepted = [(R.PWM_FORCE, 5)] := by decide +kernel
/-- R37: a legal time is refused outside IDLE and loaded in it. -/
theorem test_nt_set : (after .ntSet (mbxNs 999999999)).nt.ns = 999999999 := by decide +kernel
/-- spec/01, worked example: an axis task costs 720 clk, and 880 in class X (R68). -/
theorem test_axis_cost : ready.axisCost 37 = 720 ∧ (ready.setF (R.AXT_W0_CLASS 37) 1).axisCost 37 = 880 := by decide +kernel
/-- spec/03: the intervals of 32 kHz with OPEN 1,600 open at 1,600 and 14,100 and close 4,800 clk later. -/
theorem test_intervals : { ready with dsp := { ready.dsp with open_ := 1600 } }.intervals = [(1600, 6400), (14100, 18900)] := by decide +kernel

end Sys2Proof.Tests
end

section
/-! PROOFS. Paired writes (R12, R13): one equation per case of settling, opening and discarding a pair, what a discard counts, records and raises, and what a
host access does once boot has ended. -/

namespace Sys2Proof.Machine

/-! ## Host accesses -/

/-- Once boot has ended, a host write acts. -/
theorem State.bar0Write_of_open {s : State} (h : HostOpen s) (a : Nat) (g : State → State) : s.bar0Write a g = g s := by
  obtain ⟨hsys, hboot⟩ := h
  simp only [State.bar0Write, State.hostWrite, hsys, hboot, Bool.false_eq_true, if_false, if_true]

/-- From STATE 5 on, a host read is answered at every address. -/
theorem State.bar0Answer_of_served {s : State} (hsys : s.sysLost = false) (hboot : 5 ≤ s.f R.GLB_BOOT_STATE) (a : Nat) (g : State → State) :
    s.bar0Answer a g = g s := by
  have hearly : ¬ (s.f R.GLB_BOOT_STATE < 5 ∧ (!earlyBlock a) = true) := fun h => absurd h.1 (Nat.not_lt.mpr hboot)
  simp only [State.bar0Answer, hsys, hearly, Bool.false_eq_true, if_false]

/-- A change of the host side alone. -/
theorem Frame.hostSide (W : Nat → Prop) (s : State) (h : HostSide) : Frame [.host] W s { s with host := h } := by
  refine ⟨fun p hp => ?_, fun _ _ => rfl⟩
  cases p
  case host => exact absurd (List.mem_singleton_self _) hp
  all_goals rfl

/-! ## Paired-write registers -/

theorem isPw_iff (a : Nat) : isPw a = true ↔ a = R.PWM_FORCE ∨ a = R.KST_FW_REQ ∨ a = R.GLB_SWRST ∨ a = R.NVS_SWITCH := by
  simp only [isPw, Bool.or_eq_true, beq_iff_eq, or_assoc]

/-- The address of a paired-write register fits `GLB_PW_LAST.ADDR`. -/
theorem lt_of_isPw {a : Nat} (h : isPw a = true) : a < 2 ^ 25 := by
  rcases (isPw_iff a).mp h with rfl | rfl | rfl | rfl <;> decide

theorem isComplement_add (a : Nat) : isComplement (a + 0x800) = isPw a := by
  simp only [isComplement, Nat.le_add_left, decide_true, Nat.add_sub_cancel, Bool.true_and]

/-! ## No pair pending -/

@[simp] theorem State.pwNone_pw (s : State) : s.pwNone.host.pw = none := rfl
@[simp] theorem State.pwNone_clk (s : State) : s.pwNone.clk = s.clk := rfl
@[simp] theorem State.pwNone_sysLost (s : State) : s.pwNone.sysLost = s.sysLost := rfl
@[simp] theorem State.f_pwNone (s : State) (x : Fld) : s.pwNone.f x = s.f x := rfl

/-! ## Discards -/

@[simp] theorem State.pwDiscard_host (s : State) (a cause : Nat) : (s.pwDiscard a cause).host = s.host := by
  unfold State.pwDiscard; dsimp only; split_ifs <;> simp
@[simp] theorem State.pwDiscard_clk (s : State) (a cause : Nat) : (s.pwDiscard a cause).clk = s.clk := by
  unfold State.pwDiscard; dsimp only; split_ifs <;> simp
@[simp] theorem State.pwDiscard_sysLost (s : State) (a cause : Nat) : (s.pwDiscard a cause).sysLost = s.sysLost := by
  unfold State.pwDiscard; dsimp only; split_ifs <;> simp

/-- A discard is counted (R395). -/
theorem State.counts_pwDiscard (s : State) (a cause : Nat) : Counts R.GLB_PW_ERR_COUNT 1 s (s.pwDiscard a cause) := by
  unfold Counts State.pwDiscard; dsimp only
  rw [State.f_raise _ _ _ _ _ (by decide) (by decide) (by decide)]
  split
  · exact s.f_incSat_same _ _ (by decide)
  · rw [State.f_set1_ne _ _ _ (by decide), State.f_setF_ne _ _ _ _ (by decide), State.f_setF_ne _ _ _ _ (by decide)]
    exact s.f_incSat_same _ _ (by decide)

/-- A discard raises event 0x01 (R400). -/
theorem State.pends_pwDiscard (s : State) (a cause : Nat) : Pends (s.pwDiscard a cause) 0x01 :=
  pends_raise _ 0x01 _ _ (by decide) (by decide)

/-- The first discard is recorded with its cause and its address (R399). -/
theorem State.pwLast_pwDiscard {s : State} {a cause : Nat} (ha : a < 2 ^ 25) (hc : cause < 4) (hfirst : s.f R.GLB_PW_LAST_VALID = 0) :
    (s.pwDiscard a cause).f R.GLB_PW_LAST_VALID = 1 ∧ (s.pwDiscard a cause).f R.GLB_PW_LAST_CAUSE = cause ∧
      (s.pwDiscard a cause).f R.GLB_PW_LAST_ADDR = a := by
  have hempty : (s.incSat R.GLB_PW_ERR_COUNT 1).flag R.GLB_PW_LAST_VALID = false := by
    rw [State.flag_f, State.f_incSat_ne _ _ _ _ (by decide), hfirst]; rfl
  unfold State.pwDiscard; dsimp only
  simp only [hempty, Bool.false_eq_true, if_false]
  refine ⟨?_, ?_, ?_⟩ <;> rw [State.f_raise _ _ _ _ _ (by decide) (by decide) (by decide)]
  · exact State.f_set1_same _ _ (by decide) (by decide)
  · rw [State.f_set1_ne _ _ _ (by decide), State.f_setF_same _ _ _ (by decide)]
    exact Nat.mod_eq_of_lt hc
  · rw [State.f_set1_ne _ _ _ (by decide), State.f_setF_ne _ _ _ _ (by decide), State.f_setF_same _ _ _ (by decide)]
    exact Nat.mod_eq_of_lt ha

/-- The registers that count, record and report a discard (R395, R399, R400). -/
def pwReportRegs : List Nat := [R.GLB_PW_ERR, R.GLB_PW_LAST, R.EVT_PEND 0, R.EVT_LOST_CNT, R.EVT_STAT]

/-- A discard stays within the events and the registers that count, record and report it. -/
theorem State.pwDiscard_reports (s : State) (a cause : Nat) : Frame [.evt] (· ∈ pwReportRegs) s (s.pwDiscard a cause) :=
  s.pwDiscard_frame a cause (by decide) (by decide) (by decide) (by decide) (by decide)

/-- The discard of the pending pair changes the host side too. -/
theorem State.pwNone_pwDiscard_reports (s : State) (a cause : Nat) :
    Frame [.host, .evt] (· ∈ pwReportRegs) s (s.pwNone.pwDiscard a cause) :=
  (s.pwNone_frame.mono (by decide) (fun _ h => h)).step (s.pwNone.pwDiscard_reports a cause) (by decide)

/-- Fields outside those registers keep their value. -/
theorem State.f_pwDiscard {s : State} {a cause : Nat} {x : Fld}
    (h : x.addr ∉ pwReportRegs) : (s.pwDiscard a cause).f x = s.f x := by
  unfold State.f; rw [(s.pwDiscard_reports a cause).2 _ h]

/-! ## Settling and opening -/

theorem State.pwSettle_of_none {s : State} (h : s.host.pw = none) : s.pwSettle = s := by
  simp only [State.pwSettle, h]

theorem State.pwSettle_of_within {s : State} {p : PwPending} (h : s.host.pw = some p) (hin : s.clk ≤ p.at_ + 64) : s.pwSettle = s := by
  simp only [State.pwSettle, h, Nat.not_lt.mpr hin, if_false]

theorem State.pwSettle_of_expired {s : State} {p : PwPending} (h : s.host.pw = some p) (hout : p.at_ + 64 < s.clk) :
    s.pwSettle = s.pwNone.pwDiscard p.addr 1 := by
  simp only [State.pwSettle, h, hout, if_true]

/-- The pair that a value write opens at the present clk. -/
def State.pwOpen (s : State) (a : Nat) (v : Word) : State := { s with host := { s.host with pw := some ⟨a, v, s.clk⟩ } }

@[simp] theorem State.pwOpen_pw (s : State) (a : Nat) (v : Word) : (s.pwOpen a v).host.pw = some ⟨a, v, s.clk⟩ := rfl
@[simp] theorem State.reg_pwOpen (s : State) (a : Nat) (v : Word) (b : Nat) : (s.pwOpen a v).reg b = s.reg b := rfl
@[simp] theorem State.f_pwOpen (s : State) (a : Nat) (v : Word) (x : Fld) : (s.pwOpen a v).f x = s.f x := rfl
theorem State.pwOpen_frame (W : Nat → Prop) (s : State) (a : Nat) (v : Word) : Frame [.host] W s (s.pwOpen a v) := Frame.hostSide ..

theorem State.pwValue_of_none {s : State} (h : s.host.pw = none) (a : Nat) (v : Word) : s.pwValue a v = s.pwOpen a v := by
  simp only [State.pwValue, State.pwSettle_of_none h, h, State.pwOpen]

/-- A second value write within the window discards the pair before it with cause 3 (R13). -/
theorem State.pwValue_of_within {s : State} {p : PwPending} (h : s.host.pw = some p) (hin : s.clk ≤ p.at_ + 64) (a : Nat) (v : Word) :
    s.pwValue a v = (s.pwNone.pwDiscard p.addr 3).pwOpen a v := by
  simp only [State.pwValue, State.pwSettle_of_within h hin, h, State.pwOpen]

/-- A complement write to another register within the window discards the pair (cause 3) and the write (cause 2), R13. -/
theorem State.pwComplement_of_other {s : State} {p : PwPending} (h : s.host.pw = some p) (hin : s.clk ≤ p.at_ + 64) {a : Nat} (hne : p.addr ≠ a)
    (w : Word) : s.pwComplement a w = (s.pwNone.pwDiscard p.addr 3).pwDiscard a 2 := by
  simp only [State.pwComplement, State.pwSettle_of_within h hin, h, hne, if_false]

/-! ## The commands -/

theorem exec_pairedWriteValue {s : State} (h : HostOpen s) {a : Nat} (ha : isPw a = true) (v : Word) :
    exec (.pairedWriteValue a v) s = .next (s.pwValue a v) := by
  simp only [exec, execPairedWriteValue, State.bar0Write_of_open h, ha, if_true]

theorem exec_pairedWriteComplement {s : State} (h : HostOpen s) {a : Nat} (ha : isPw a = true) (w : Word) :
    exec (.pairedWriteComplement a w) s = .next (s.pwComplement a w) := by
  simp only [exec, execPairedWriteComplement, State.bar0Write_of_open h, ha, if_true]

theorem exec_pwWindowExpiry (s : State) : exec .pwWindowExpiry s = .next s.pwSettle := rfl

theorem exec_readComplement {s : State} (hsys : s.sysLost = false) (hboot : 5 ≤ s.f R.GLB_BOOT_STATE) {a : Nat} (ha : isPw a = true) :
    exec (.readClear (a + 0x800)) s = .next (s.answer (~~~(s.reg a))) := by
  simp only [exec, execReadClear, State.bar0Read, State.bar0Answer_of_served hsys hboot, State.landRead, isComplement_add, ha, if_true,
    Nat.add_sub_cancel]

/-! ## R13, clause by clause -/

/-- A value write within the window of a pair takes its place; the pair is discarded with cause 3. -/
theorem pairedWriteValue_replaces {s : State} (hopen : HostOpen s) {a : Nat} (ha : isPw a = true) {p : PwPending} (hp : isPw p.addr = true)
    (hpw : s.host.pw = some p) (hin : s.clk ≤ p.at_ + 64) (v : Word) :
    ∃ t, exec (.pairedWriteValue a v) s = .next t ∧ t.host.pw = some ⟨a, v, s.clk⟩ ∧ Counts R.GLB_PW_ERR_COUNT 1 s t ∧ Pends t 0x01 ∧
      Frame [.host, .evt] (· ∈ pwReportRegs) s t ∧
      (s.f R.GLB_PW_LAST_VALID = 0 → t.f R.GLB_PW_LAST_CAUSE = 3 ∧ t.f R.GLB_PW_LAST_ADDR = p.addr) := by
  refine ⟨(s.pwNone.pwDiscard p.addr 3).pwOpen a v, ?_, ?_, ?_, ?_, ?_, ?_⟩
  · rw [exec_pairedWriteValue hopen ha, State.pwValue_of_within hpw hin]
  · simp only [State.pwOpen_pw, State.pwDiscard_clk, State.pwNone_clk]
  · exact s.pwNone.counts_pwDiscard p.addr 3
  · exact s.pwNone.pends_pwDiscard p.addr 3
  · exact (s.pwNone_pwDiscard_reports p.addr 3).step (State.pwOpen_frame _ _ a v) (by decide)
  · exact fun hfirst => (State.pwLast_pwDiscard (s := s.pwNone) (lt_of_isPw hp) (by decide) hfirst).2

/-- A value write with no pair pending opens one and does nothing else. -/
theorem pairedWriteValue_opens {s : State} (hopen : HostOpen s) {a : Nat} (ha : isPw a = true) (hpw : s.host.pw = none) (v : Word) :
    ∃ t, exec (.pairedWriteValue a v) s = .next t ∧ t.host.pw = some ⟨a, v, s.clk⟩ ∧ Frame [.host] (fun _ => False) s t :=
  ⟨s.pwOpen a v, by rw [exec_pairedWriteValue hopen ha, State.pwValue_of_none hpw], rfl, s.pwOpen_frame _ a v⟩

/-- Past the window the pair is gone, and the next value write discards nothing. -/
theorem pairedWriteValue_afterExpiry {s : State} (hopen : HostOpen s) {a : Nat} (ha : isPw a = true) {p : PwPending}
    (hpw : s.host.pw = some p) (hout : p.at_ + 64 < s.clk) (v : Word) :
    ∃ t u, exec .pwWindowExpiry s = .next t ∧ t.host.pw = none ∧ exec (.pairedWriteValue a v) t = .next u ∧ u.host.pw = some ⟨a, v, s.clk⟩ ∧
      u.f R.GLB_PW_ERR_COUNT = t.f R.GLB_PW_ERR_COUNT := by
  obtain ⟨hsys, hboot⟩ := hopen
  have hnone : (s.pwNone.pwDiscard p.addr 1).host.pw = none := by simp only [State.pwDiscard_host, State.pwNone_pw]
  have hopen' : HostOpen (s.pwNone.pwDiscard p.addr 1) := by
    refine ⟨?_, ?_⟩
    · simpa only [State.pwDiscard_sysLost, State.pwNone_sysLost] using hsys
    · rw [State.f_pwDiscard (by decide), State.f_pwNone, hboot]
  refine ⟨s.pwNone.pwDiscard p.addr 1, (s.pwNone.pwDiscard p.addr 1).pwOpen a v, ?_, hnone, ?_, ?_, State.f_pwOpen ..⟩
  · rw [exec_pwWindowExpiry, State.pwSettle_of_expired hpw hout]
  · rw [exec_pairedWriteValue hopen' ha, State.pwValue_of_none hnone]
  · simp only [State.pwOpen_pw, State.pwDiscard_clk, State.pwNone_clk]

/-- A complement write to another register than the pair's discards both. -/
theorem pairedWriteComplement_ofOther {s : State} (hopen : HostOpen s) {a : Nat} (ha : isPw a = true) {p : PwPending}
    (hpw : s.host.pw = some p) (hin : s.clk ≤ p.at_ + 64) (hne : p.addr ≠ a) (w : Word) :
    ∃ t, exec (.pairedWriteComplement a w) s = .next t ∧ t.host.pw = none ∧ Counts R.GLB_PW_ERR_COUNT 2 s t ∧ Pends t 0x01 ∧
      Frame [.host, .evt] (· ∈ pwReportRegs) s t := by
  refine ⟨(s.pwNone.pwDiscard p.addr 3).pwDiscard a 2, ?_, ?_, ?_, State.pends_pwDiscard .., ?_⟩
  · rw [exec_pairedWriteComplement hopen ha, State.pwComplement_of_other hpw hin hne]
  · simp only [State.pwDiscard_host, State.pwNone_pw]
  · have hfirst := s.pwNone.counts_pwDiscard p.addr 3
    have hsecond := (s.pwNone.pwDiscard p.addr 3).counts_pwDiscard a 2
    unfold Counts at *
    rw [State.f_pwNone] at hfirst
    omega
  · exact (s.pwNone_pwDiscard_reports p.addr 3).step
      (State.pwDiscard_reports _ a 2) (by decide)

/-- Settles O6: each clause is the equation of its command's case, with what a discard counts, records and raises. -/
theorem onePairIsPendingAtATime : Obligations.OnePairIsPendingAtATime := by
  refine ⟨?_, ?_, ?_, ?_, ?_⟩
  · exact fun _ v _ _ hopen ha hp hpw hin => pairedWriteValue_replaces hopen ha hp hpw hin v
  · exact fun _ v _ hopen ha hpw => pairedWriteValue_opens hopen ha hpw v
  · exact fun _ v _ _ hopen ha _ hpw hout => pairedWriteValue_afterExpiry hopen ha hpw hout v
  · exact fun _ w _ _ hopen ha _ hpw hin hne => pairedWriteComplement_ofOther hopen ha hpw hin hne w
  · exact fun a s hsys hboot ha => ⟨s.answer (~~~(s.reg a)), exec_readComplement hsys hboot ha, rfl, State.answer_frame ..⟩

end Sys2Proof.Machine
end

section
/-! PROOFS. Network time set through the mailbox (R37, R396, R397): what a request shows until it is ready, what NT_SET loads or refuses, and what the ready
instant shows. -/

namespace Sys2Proof.Machine

/-! ## A mailbox request -/

/-- A change of the host side alone leaves every field. -/
theorem State.f_hostSide (s : State) (h : HostSide) (x : Fld) : ({ s with host := h } : State).f x = s.f x := rfl

@[simp] theorem State.mbxStart_nt (s : State) (wr : Bool) (code : Nat) (failed : Bool) (words : Nat) : (s.mbxStart wr code failed words).nt = s.nt := by
  simp only [State.mbxStart, State.set1_nt, State.clr_nt, State.setF_nt, State.setB_nt]

theorem State.f_mbxStart (s : State) (wr : Bool) (code : Nat) (failed : Bool) (words : Nat) (x : Fld) :
    (s.mbxStart wr code failed words).f x =
      (((((s.setB R.GLB_MBX_REQ_WR wr).setF R.GLB_MBX_REQ_CODE code).clr R.GLB_MBX_STAT_VALID).clr R.GLB_MBX_STAT_ERR).set1 R.GLB_MBX_STAT_BUSY).f x :=
  State.f_hostSide ..

/-- A request is busy, neither valid nor in error, and becomes ready 4 clk later (R396, R397). -/
theorem State.requested_mbxStart (s : State) (wr : Bool) (code : Nat) (failed : Bool) (words : Nat) :
    Requested failed s (s.mbxStart wr code failed words) := by
  have hclk : (s.mbxStart wr code failed words).host.mbx.readyAt = some (s.clk + 4) := by
    simp only [State.mbxStart, State.set1_clk, State.clr_clk, State.setF_clk, State.setB_clk]
  refine ⟨?_, ?_, ?_, hclk, rfl⟩ <;> rw [State.f_mbxStart]
  · exact State.f_set1_same _ _ (by decide) (by decide)
  · rw [State.f_set1_ne _ _ _ (by decide), State.f_clr_ne _ _ _ (by decide), State.f_clr_same _ _ (by decide)]
  · rw [State.f_set1_ne _ _ _ (by decide), State.f_clr_same _ _ (by decide)]

theorem State.mbxWrite_of_applied {s u : State} {code : Nat} (h : s.mbxApply code s.mbxWords = some u) :
    s.mbxWrite code = u.mbxStart true code false 0 := by
  simp only [State.mbxWrite, h]

theorem State.mbxWrite_of_refused {s : State} {code : Nat} (h : s.mbxApply code s.mbxWords = none) :
    s.mbxWrite code = s.mbxStart true code true 0 := by
  simp only [State.mbxWrite, h]

/-- The state once a request is ready (R396, R397). -/
def State.mbxDone (s : State) : State :=
  let s := ((s.clr R.GLB_MBX_STAT_BUSY).set1 R.GLB_MBX_STAT_VALID).setB R.GLB_MBX_STAT_ERR s.host.mbx.failed
  { s with host := { s.host with mbx := { s.host.mbx with readyAt := none } } }

theorem exec_mbxReady_of_due {s : State} {n : Nat} (h : s.host.mbx.readyAt = some n) (hn : n ≤ s.clk) : exec .mbxReady s = .next s.mbxDone := by
  simp only [exec, execMbxReady, h, hn, if_true, State.mbxDone]

theorem State.f_mbxDone (s : State) (x : Fld) :
    s.mbxDone.f x = (((s.clr R.GLB_MBX_STAT_BUSY).set1 R.GLB_MBX_STAT_VALID).setB R.GLB_MBX_STAT_ERR s.host.mbx.failed).f x :=
  State.f_hostSide ..

@[simp] theorem State.mbxDone_nt (s : State) : s.mbxDone.nt = s.nt := by
  simp only [State.mbxDone, State.setB_nt, State.set1_nt, State.clr_nt]

theorem State.mbxDone_valid (s : State) : s.mbxDone.f R.GLB_MBX_STAT_VALID = 1 := by
  rw [State.f_mbxDone, State.f_setB_ne _ _ _ _ (by decide), State.f_set1_same _ _ (by decide) (by decide)]

theorem State.mbxDone_err (s : State) : s.mbxDone.f R.GLB_MBX_STAT_ERR = if s.host.mbx.failed then 1 else 0 := by
  rw [State.f_mbxDone, State.f_setB_same _ _ _ (by decide) (by decide)]

/-- On the clk on which a request is ready, its data is valid and its error flag says whether it failed (R396, R397). -/
theorem exec_mbxReady_when_due {s : State} {n : Nat} {failed : Bool} (hready : s.host.mbx.readyAt = some n) (hfailed : s.host.mbx.failed = failed) :
    ∃ u, exec .mbxReady { s with clk := n } = .next u ∧ u.nt = s.nt ∧ u.f R.GLB_MBX_STAT_VALID = 1 ∧
      u.f R.GLB_MBX_STAT_ERR = if failed then 1 else 0 := by
  refine ⟨_, exec_mbxReady_of_due hready (Nat.le_refl n), State.mbxDone_nt _, State.mbxDone_valid _, ?_⟩
  rw [State.mbxDone_err, ← hfailed]

/-! ## NT_SET -/

theorem exec_ntSet {s : State} (h : HostOpen s) : exec .ntSet s = .next (s.mbxWrite 0x11) := by
  simp only [exec, execNtSet, State.mbxHost, State.bar0Write_of_open h]

theorem State.mbxApply_ntSet (s : State) (ws : List Word) : s.mbxApply 0x11 ws = s.ntSet ws := rfl

/-- The network time that four data words spell. -/
def ntOfWords (ns secLo secHi frac : Word) : NetTime := ⟨BitVec.ofNat 48 (secLo.toNat + secHi.toNat % 2 ^ 16 * 2 ^ 32), ns, frac⟩

/-- No second is cut off: 32 low bits and 16 high bits fit the 48 bits of the counter. -/
theorem toNat_sec_ntOfWords (ns secLo secHi frac : Word) :
    (ntOfWords ns secLo secHi frac).sec.toNat = secLo.toNat + secHi.toNat % 2 ^ 16 * 2 ^ 32 := by
  have hlo := secLo.isLt
  have hhi := Nat.mod_lt secHi.toNat (Nat.two_pow_pos 16)
  rw [ntOfWords, BitVec.toNat_ofNat]
  exact Nat.mod_eq_of_lt (by omega)

/-- A legal time is loaded while the span is IDLE; no clk passes by it. -/
theorem State.ntSet_loads {s : State} (hidle : s.f R.ZLP_SSTAT_STATE = 0) (hns : (s.reg (R.GLB_MBX_D 0)).toNat < nsPerSec) :
    ∃ u, s.ntSet s.mbxWords = some u ∧ u.clk = s.clk ∧
      u.nt = ntOfWords (s.reg (R.GLB_MBX_D 0)) (s.reg (R.GLB_MBX_D 1)) (s.reg (R.GLB_MBX_D 2)) (s.reg (R.GLB_MBX_D 3)) :=
  ⟨_, if_pos ⟨hidle, hns⟩, rfl, rfl⟩

theorem State.ntSet_refuses {s : State} (h : s.f R.ZLP_SSTAT_STATE ≠ 0 ∨ nsPerSec ≤ (s.reg (R.GLB_MBX_D 0)).toNat) :
    s.ntSet s.mbxWords = none :=
  if_neg fun ⟨hidle, hns⟩ => h.elim (· hidle) (Nat.not_le.mpr hns)

theorem ntSet_takes {s : State} (hopen : HostOpen s) (hidle : s.f R.ZLP_SSTAT_STATE = 0) (hns : (s.reg (R.GLB_MBX_D 0)).toNat < nsPerSec) :
    ∃ t, exec .ntSet s = .next t ∧
      t.nt = ntOfWords (s.reg (R.GLB_MBX_D 0)) (s.reg (R.GLB_MBX_D 1)) (s.reg (R.GLB_MBX_D 2)) (s.reg (R.GLB_MBX_D 3)) ∧ Requested false s t := by
  obtain ⟨u, hset, hclk, hnt⟩ := State.ntSet_loads hidle hns
  refine ⟨u.mbxStart true 0x11 false 0, ?_, ?_, ?_⟩
  · rw [exec_ntSet hopen, State.mbxWrite_of_applied ((s.mbxApply_ntSet _).trans hset)]
  · rw [State.mbxStart_nt, hnt]
  · have hreq := u.requested_mbxStart true 0x11 false 0
    rwa [Requested, hclk] at hreq

/-- A refused request leaves the counter, and its error shows 4 clk later. -/
theorem ntSet_fails {s : State} (hopen : HostOpen s) (h : s.f R.ZLP_SSTAT_STATE ≠ 0 ∨ nsPerSec ≤ (s.reg (R.GLB_MBX_D 0)).toNat) :
    ∃ t, exec .ntSet s = .next t ∧ t.nt = s.nt ∧ Requested true s t ∧
      ∃ u, exec .mbxReady { t with clk := s.clk + 4 } = .next u ∧ u.nt = s.nt ∧ u.f R.GLB_MBX_STAT_VALID = 1 ∧ u.f R.GLB_MBX_STAT_ERR = 1 := by
  have hreq := s.requested_mbxStart true 0x11 true 0
  have hnt := s.mbxStart_nt true 0x11 true 0
  have hexec : exec .ntSet s = .next (s.mbxStart true 0x11 true 0) := by
    rw [exec_ntSet hopen, State.mbxWrite_of_refused ((s.mbxApply_ntSet _).trans (State.ntSet_refuses h))]
  generalize s.mbxStart true 0x11 true 0 = t at hreq hnt hexec
  have ⟨_, _, _, hready, hfailed⟩ := hreq
  obtain ⟨u, hu, hunt, hvalid, herr⟩ := exec_mbxReady_when_due hready hfailed
  exact ⟨t, hexec, hnt, hreq, u, hu, hunt.trans hnt, hvalid, herr⟩

/-- Settles O9: NT_SET's own rule decides whether the request is taken or fails. -/
theorem ntSetLoadsOrIsRefused : Obligations.NtSetLoadsOrIsRefused := by
  refine ⟨fun s hopen hidle hns => ?_, fun s hopen h => ntSet_fails hopen h⟩
  obtain ⟨t, hexec, hnt, hreq⟩ := ntSet_takes hopen hidle hns
  refine ⟨t, hexec, ?_, ?_, ?_, hreq⟩ <;> rw [hnt]
  · rfl
  · rfl
  · exact toNat_sec_ntOfWords ..

end Sys2Proof.Machine
end

section
/-! PROOFS. The index of a bc that starts while no span runs (R36, R279; log entry 97): the last thing t0 does is to take up the rate in `ZLP_CFG`, and with it
the bc index of that rate. -/

namespace Sys2Proof.Machine

/-! ## The rate of an idle span -/

/-- An idle span whose rate is not the one in `ZLP_CFG` takes that rate up, and the bc index is then that of the new rate. -/
theorem State.bcIdx_idleRate_of_stale {s : State} (hidle : s.f R.ZLP_SSTAT_STATE = 0) (hstale : s.cyc.rate ≠ s.f R.ZLP_CFG_RATE) :
    s.idleRate.cyc.bcIdx = bcIndexOf (s.f R.ZLP_CFG_RATE) s.ntSync := by
  simp only [State.idleRate, State.when, hidle, beq_self_eq_true, bne_iff_ne.mpr hstale, Bool.and_self, if_true, State.takeRate]

/-- What t0 of a bc does before an idle span takes up the rate in `ZLP_CFG`. -/
def State.bcOpened (s : State) : State :=
  (s.chnStart.bcStart.dspBc.powerSync.exportSnap.lineSample.acqSync.piersServe).twinSync.ringSync.trunkTime.countStall

theorem exec_syncInstant_of_due {s : State} (h : s.t0Due = true) : exec .syncInstant s = .next s.bcOpened.idleRate := by
  simp only [exec, execSyncInstant, h, if_true, State.bcOpened]

/-! ## A span halted after a write of its rate -/

/-- The state a command leads to. -/
def State.afterCommand (s : State) (c : Instr) : State :=
  match exec c s with
  | .next t => t
  | _ => s

/-- A span running at 32 kHz, at t0 of its bc 3; a halt has been registered in the bc before. -/
def spanAt32kHz : State :=
  { (State.reset.setF R.GLB_BOOT_STATE 9).setF R.ZLP_SSTAT_STATE 4 with
    clk := 75000
    nt := ⟨0, 93750, 0⟩
    cyc := ⟨3, 3, 75000, 25000, 0, 3⟩
    ring := { State.reset.ring with live := true, use := [0], set_ := [1], haltAt := some 60000 } }

/-- The host writes RATE = 0 (4 kHz) while the span still runs, the halt takes effect, and 25,000 clk later 4 periods of 32 kHz have passed. -/
def haltedAt4kHz : State :=
  { (spanAt32kHz.afterCommand (.registerWrite R.ZLP_CFG 0)).afterCommand .ringHaltEffect with
    clk := 100000
    nt := ⟨0, 125000, 0⟩ }

/-- By the rate of the bc that ends, bc 4 starts. -/
theorem bcIndexOf_haltedAt4kHz : bcIndexOf haltedAt4kHz.cyc.rate haltedAt4kHz.ntSync = 4 := by decide +kernel

/-- The t0 leaves the span idle, its rate still 32 kHz where `ZLP_CFG` says 4 kHz. -/
theorem bcOpened_haltedAt4kHz :
    haltedAt4kHz.bcOpened.f R.ZLP_SSTAT_STATE = 0 ∧ haltedAt4kHz.bcOpened.cyc.rate = 3 ∧ haltedAt4kHz.bcOpened.f R.ZLP_CFG_RATE = 0 ∧
      haltedAt4kHz.bcOpened.ntSync = ⟨0, 125000, 0⟩ := by decide +kernel

/-- No period of 4 kHz has passed: the index after t0 is 0. -/
theorem bcIdx_syncInstant_haltedAt4kHz : haltedAt4kHz.bcOpened.idleRate.cyc.bcIdx = 0 := by
  obtain ⟨hidle, hold, hnew, htime⟩ := bcOpened_haltedAt4kHz
  rw [State.bcIdx_idleRate_of_stale hidle (by rw [hold, hnew]; decide), hnew, htime]
  decide

/-- Refutes O11: its first clause fails at the t0 after a span has stopped with another rate in `ZLP_CFG`. The clause names the index at the rate before t0
(bc 4); the bc takes the index at the rate taken up (bc 0). -/
theorem not_syncInstantsAndIncrements : ¬ Obligations.SyncInstantsAndIncrements := by
  rintro ⟨⟨hsync, _⟩, _⟩
  have hdue : haltedAt4kHz.t0Due = true := by decide +kernel
  obtain ⟨t, hexec, hidx, _⟩ := hsync haltedAt4kHz (by decide +kernel) (by decide +kernel)
  have ht : haltedAt4kHz.bcOpened.idleRate = t := Host.Outcome.next.inj ((exec_syncInstant_of_due hdue).symm.trans hexec)
  rw [← ht, bcIdx_syncInstant_haltedAt4kHz, bcIndexOf_haltedAt4kHz] at hidx
  exact absurd hidx (by decide)

end Sys2Proof.Machine
end
